-- ==== Sys2Proof/Word.lean ====
section
/-!
DEFINITION. Word.lean: the bit-vector types of the manual's words.

Byte order on the host link and in memory is little-endian (R11); the helpers that pack and unpack bytes stand in
Machine/Bits.lean, beside the other bit-field helpers.
-/

namespace Sys2Proof

/-- One byte, as packets, memories and byte strings hold it. -/
abbrev Byte := BitVec 8

/-- A 16-bit half-word. -/
abbrev Half := BitVec 16

/-- A 32-bit register or memory word. -/
abbrev Word := BitVec 32

/-- A 64-bit value: identifiers, counters, sequence numbers. -/
abbrev Quad := BitVec 64

/-- A byte string, first byte first. -/
abbrev Bytes := List Byte

end Sys2Proof
end

