-- ==== Sys2Proof/Syntax.lean ====
section
/-! DEFINITION. The commands and events of the OZS-7720 with their operands: one constructor of `Instr` per row of the
table of operations and events. A packet or a frame is taken as received; an event of the world outside carries what
the part measures of it. -/
namespace Sys2Proof

/-- A port that speaks version 2 packets (R333). -/
inductive VPort where
  | hcs0 | uart
  deriving DecidableEq, Repr

/-- A version 2 command packet as it arrives (R333). The row gives SYNC 0xC3 and the OPCODE. `header` is how many of the
8 header bytes arrived, `payload` and `crc` what arrived of the payload and whether the CRC field arrived; `clocked` is the length of
the SPI transaction in bytes (R339, R341; not used on the UART). -/
structure Packet where
  port     : VPort
  verFlags : Byte
  options  : Byte
  tag      : Half
  len      : Nat
  payload  : Bytes
  crc      : Option Word
  header   : Nat
  clocked  : Nat
  deriving DecidableEq, Repr

/-- A version 1 transaction of at least 12 bytes (R359): the parameter bytes P0–P10. The row gives the OPCODE. -/
structure V1Frame where
  p : Bytes
  deriving DecidableEq, Repr

/-- Who makes a register access (R380, R409, R608): the host by version 2 or version 1, an engine, the debug port. -/
inductive Requester where
  | host | v1 | engine (k : Fin 12) | debug
  deriving DecidableEq, Repr

/-- Outcome of checking the words an instruction is fetched from (R406, R413, R538). -/
inductive FetchEcc where
  | clean | single | double
  deriving DecidableEq, Repr

/-- An instruction as an engine meets it at its PC: the engine, the payloads of the EXT prefixes before it, first prefix first, the
main word as program memory holds it, and what the check bits of the words fetched and of the data read say (R406, R438–R440, R538). -/
structure EngOp where
  k    : Fin 12
  ext  : List (BitVec 9)
  w    : Half
  fetch : FetchEcc
  data : FetchEcc
  deriving DecidableEq, Repr

/-- Read-back mismatches of the two copies of a commit: 0 none, 1 cured by the rewrite, 2 the copy failed (R302). -/
structure ReadBack where
  a : Fin 3
  b : Fin 3
  deriving DecidableEq, Repr

/-- Where a power failure or a reset that acts at once finds the commit in flight (R303). -/
inductive CutAt where
  | before | duringA | betweenCopies | duringB | after
  deriving DecidableEq, Repr

/-- Role of the device (R1). -/
inductive RigRole where
  | none | tractor | trailer
  deriving DecidableEq, Repr

/-- Role of a credential (R266). -/
inductive CredRole where
  | dealer | fleetHost | service
  deriving DecidableEq, Repr

/-- What a RESET, POWER or SOFT_RESET command asked for once its reply is consumed or sent (R377, R378, R400). -/
inductive AfterReply where
  | reset | midnight
  deriving DecidableEq, Repr

/-- STATE of a token record that is not FREE (R72). -/
inductive TokState where
  | active | suspended
  deriving DecidableEq, Repr

/-- CLASS of a token (R72). -/
inductive TokClass where
  | t2 | t3 | ph
  deriving DecidableEq, Repr

/-- Kind of a trigger (R44). -/
inductive TrigKind where
  | wakePin | lin | startFrame | decide | presence | grant | track | t2Poll | range | master
  deriving DecidableEq, Repr

/-- The outcome a trigger seeks (R44). -/
inductive Sought where
  | door | start | park
  deriving DecidableEq, Repr

/-- Zones (R185). -/
inductive Zone where
  | z0 | z1 | z2 | z3 | zx
  deriving DecidableEq, Repr

/-- What a DRIVER_GRANT names (R220, R221): the token identifier, its zone, the sequence number. -/
structure DriverGrantData where
  tokenId : Quad
  zone    : Byte
  seq     : Nat
  deriving DecidableEq, Repr

/-- What the part measures on one LF channel while a FIFO entry plays (R111, R115, R120): sensed peak in units of 10 mA, conduction
angle in 1/256 of a half cycle, current phase in 1/256 of a cycle. -/
structure LaneMeas where
  ch    : Fin 8
  peak  : Byte
  cond  : Byte
  phase : Byte
  deriving DecidableEq, Repr

/-- What the part measures while an LF FIFO entry plays: each lane, and the junction temperature in °C (R111). -/
structure LfMeas where
  lanes : List LaneMeas
  tj    : Int
  deriving DecidableEq, Repr

/-- What a radio calibration finds: isolation of the two Band H inputs in dB, image rejection of RX-A and RX-B in dB, the tuner
state of each sub-band (R132, R133, R155, R156). -/
structure CalMeas where
  iso0 : Byte
  iso1 : Byte
  imgA : Byte
  imgB : Byte
  imgH : Byte
  tune : Half
  deriving DecidableEq, Repr

/-- A frame on a receiver's channel: receiver 0 RX-A, 1 RX-B, 2 Band H, its preset or PHY, whether it is Manchester coded, the sync word or access address it
carries, what follows the sync word up to the check field, the check field, its peak RSSI code, the slot of an open window in which its sync word fell, the level of a
second sync word found while it was in progress, the largest step of the RSSI in it in units of 0.5 dB, and whether it has ended or its sync word has only just been
detected (R129, R137, R138, R141, R142, R166). Of an LE frame, `data` holds all that follows the access address as it is on air, its CRC-24 with it, whitened and on the
Coded PHYs the coded bits of FEC block 2 after error correction, and `check` nothing (R136). -/
structure RxFrame where
  rx     : Fin 3
  preset : Nat
  manch  : Bool
  sync   : Word
  data   : Bytes
  check  : Nat
  rssi   : Byte
  slot   : Option (Fin 8)
  second : Option Byte
  rise   : Byte
  ends   : Bool
  deriving DecidableEq, Repr

/-- What the extension of a Dusk sniff finds: no sync word, or a frame with the check field it carries (R140, R160). -/
inductive SniffFind where
  | noSync | frame (data : Bytes) (check : Nat)
  deriving DecidableEq, Repr

/-- A Dusk sniff: the level that the RSSI held for 200 µs, and what an extension finds (R160). -/
structure Sniff where
  level : Byte
  found : SniffFind
  deriving DecidableEq, Repr

/-- What a responder hears of an exchange: NONCE_R, F_IDX and NBITS of RBE_START, and the challenge bits (R175, R176, R180). -/
structure RbeHeard where
  nonce : Quad
  fIdx  : Fin 29
  nbits : Fin 65
  chal  : Quad
  deriving DecidableEq, Repr

/-- A position fit of R191 as E4 finds it: the position in the vehicle frame in cm, the residual of the plain aerials and the largest residual of the
synthesised slots in 0.5 dB (R191, R192). -/
structure LfvFit where
  x   : Int
  y   : Int
  z   : Int
  res : Nat
  syn : Nat
  deriving DecidableEq, Repr

/-- What the RNG block measures in a rapid bit exchange (R175–R179): whether RBE_ACK came in time, the timestamp of the bit 0 transmission, for each
bit the reply burst with its delay in u and its value, and the 16 bytes of RBE_CONFIRM. -/
structure RbeMeas where
  ack     : Bool
  t0      : Word
  bits    : List (Option (Nat × Bool))
  confirm : Option Bytes
  deriving DecidableEq, Repr

/-- An IQ sample that an MCP event captures: its band (true Band H), tone, direction (0 loopback, 1 received), path, number, and I in the low half with Q in the
high half (R183). -/
structure IqSample where
  bandH : Bool
  tone  : Fin 72
  dir   : Fin 2
  path  : Fin 4
  n     : Fin 64
  iq    : Word
  deriving DecidableEq, Repr

/-- What an MCP event gives (R182–R186): whether MCP_ACK came in time, the 185 bytes of MCP_REPORT, for each band the first-path distance in cm before the board
offset, with its quality, and the samples captured. -/
structure McpMeas where
  ack    : Bool
  report : Option Bytes
  h      : Int
  hq     : Byte
  l      : Int
  lq     : Byte
  iq     : List IqSample
  deriving DecidableEq, Repr

/-- What a Channel Sounding procedure gives (R172, R188): the phase-based distance in cm, for each mode-1 step whose random sequence verifies the round
trip less the reported turnaround in u, and the timestamps of the tone starts. -/
structure CsMeas where
  pbr : Option Nat
  rtt : List Nat
  starts : List Word
  deriving DecidableEq, Repr

/-- A CAN frame as the identifiers of the device see it: its controller, identifier, kind and data (R44, R83, R521). -/
structure BusFrame where
  bus  : Fin 2
  id   : Nat
  xid  : Bool
  fd   : Bool
  data : Bytes
  deriving DecidableEq, Repr

/-- A coupling PDU as the transport hands it over (R211): its unit and medium, FLAGS, SEQ, payload and MAC field, empty when there is none. The row gives
TYPE. -/
structure CplPdu where
  unit    : Fin 3
  j2497   : Bool
  flags   : Byte
  seq     : Half
  payload : Bytes
  mac     : Bytes
  deriving DecidableEq, Repr

/-- A sensor frame (R140, R231, R235): the frame on its receiver's channel, and of an SREPORT the samples of the tones before it, for each of RFL_IN0–3 the quality of
the first path, and the position that E4 fits from the delays, in cm (R248). -/
structure SnsFrame where
  air : RxFrame
  iq  : List IqSample
  q   : List Byte
  fit : Option (Int × Int)
  deriving DecidableEq, Repr

/-- A CAN frame received without error: its controller, identifier, kind, DLC and data, that it is a remote frame, and for a wheel-based speed message of
ISO 11992-2 the speed in 1/256 km/h with the standard's direction indication: 0 none, 1 forward, 2 reverse (R496, R506, R509). -/
structure CanRx where
  bus   : Fin 2
  id    : Nat
  xid   : Bool
  fd    : Bool
  brs   : Bool
  esi   : Bool
  dlc   : Fin 16
  rtr   : Bool
  data  : Bytes
  speed : Option (Nat × Fin 3)
  deriving DecidableEq, Repr

/-- A J2497 message received: its bytes without the checksum, and whether its checksum is valid (R511). -/
structure PlcRx where
  data : Bytes
  ok   : Bool
  deriving DecidableEq, Repr

/-- A frame of the coupling transport addressed to this device: its unit and medium, SEG and the bytes after ROUTE (R510, R513). -/
structure TpFrame where
  unit : Fin 3
  plc  : Bool
  seg  : Byte
  body : Bytes
  deriving DecidableEq, Repr

/-- What a LIN responder answers: nothing, a response with a wrong checksum, a correct one (R516). -/
inductive LinAnswer where
  | silent | badSum | data (bytes : Bytes)
  deriving DecidableEq, Repr

/-- What Dawn finds and measures once the XO is qualified (R156, R262, R302, R549, R561, R564): the radio calibration, the calibration tick count, the first
BOOT page that has no valid copy or whose image fails verification twice, images reloaded, the DEGRADED pages whose retry fails, how often the start-up tests
fail, the root sets whose read-back mismatches, the journal records and ring entries of which no copy checks, by their numbers among the copies of the journal, and the
works by SEQ whose packet fails its PKT_CRC (R321). -/
structure DawnMeas where
  cal      : CalMeas
  tcal     : BitVec 12
  bootBad  : Option (Fin 576)
  reloads  : Fin 16
  stillBad : List Nat
  rngFails : Nat
  rootBad  : List Nat
  recLost  : List Nat := []
  badSeqs  : List Nat := []
  deriving DecidableEq, Repr

/-- How a Sundown save goes (R324): the pages committed before the hold-up ends, the pages of which no copy reads back, and its duration in µs. -/
structure SaveMeas where
  pages : Fin 17
  bad   : BitVec 16
  dur   : Half
  deriving DecidableEq, Repr

/-- Causes that end Midnight (R556): falling edges on WAKE0–3, the RTC alarm, a falling edge on HCS0_N. -/
structure WakeCause where
  pins : BitVec 4
  rtc  : Bool
  cs   : Bool
  deriving DecidableEq, Repr

/-- What a step of accepted work finds (R82, R156, R302): the calibration it runs, the levels that the pins show in a static self-test, how the commits that E8 makes in
it read back, in order; both copies at once where the list ends. -/
structure StepMeas where
  cal   : CalMeas
  reads : List (Bool × Bool × Bool)
  rbs   : List ReadBack := []
  deriving DecidableEq, Repr

/-- Where an undefined opcode arrives: a version 2 packet, a version 1 transaction (R361, R374). -/
inductive BadOpcode where
  | v2 (p : Packet)
  | v1 (f : V1Frame)
  deriving DecidableEq, Repr

/-- The commands and events of the OZS-7720: one constructor per row of the table of operations and events. -/
inductive Instr where
  /-- NOP (R377): Host System-family command that does nothing and answers OK. -/
  | nop (p : Packet)
  /-- IDENTIFY (R377): Host command returning DEVID, DEVICE_UID, feature registers, firmware version, role, region and protocol version. -/
  | identify (p : Packet)
  /-- STATUS (R377): Host command returning power state, reset cause, key-store, journal and access status and the fault count. -/
  | status (p : Packet)
  /-- QUERY (R349): Immediate command reporting the state, percentage and stored result of a tag without changing anything. -/
  | query (p : Packet)
  /-- COLLECT (R350): Immediate command collecting one result, committing its journal record FREE and removing it from the accepted queue. -/
  | collect (p : Packet)
  /-- RESET (R377): Host command requesting a SOFT device reset once its reply has been consumed or sent. -/
  | reset (p : Packet)
  /-- RESET_AFTER_REPLY (R559): The SOFT reset takes effect after its reply is consumed or sent and after any commit in flight. -/
  | resetAfterReply
  /-- POWER (R378): Host command requesting Dusk, Midnight or Noon, with wake pins and an RTC wake, refused under the Midnight conditions. -/
  | power (p : Packet)
  /-- CONFIG_SET (R377): Journaled authenticated command writing the role, the vehicle identifier and region, or the journal enable, effective at the next Dawn. -/
  | configSet (p : Packet)
  /-- TIME_SET (R377): Journaled authenticated command loading the RTC, setting RTC_VALID and raising the time floor. -/
  | timeSet (p : Packet)
  /-- PENDING_LIST (R377): Immediate command listing pending tags with their state and percentage. -/
  | pendingList (p : Packet)
  /-- REG_READ (R380): Host command reading COUNT register words of one block, acting as an engine read. -/
  | regRead (p : Packet)
  /-- REG_WRITE (R380): Host command checking every value and then writing COUNT register words in ascending order. -/
  | regWrite (p : Packet)
  /-- REG_MODIFY (R380): Host command performing an atomic read-mask-write of one register and returning old and new values. -/
  | regModify (p : Packet)
  /-- MEM_READ (R381): Host command reading bytes of shared SRAM. -/
  | memRead (p : Packet)
  /-- MEM_WRITE (R381): Host command writing bytes into the host exchange area of shared SRAM. -/
  | memWrite (p : Packet)
  /-- NVM_READ (R382): Host command reading logical FeRAM bytes under the partition and region rules. -/
  | nvmRead (p : Packet)
  /-- NVM_WRITE (R383): Journaled long command writing logical FeRAM bytes page by page, optionally as a TXN write. -/
  | nvmWrite (p : Packet)
  /-- NVM_UNLOCK (R315): Host command presenting a region password, counting the attempt and unlocking the region for reads or writes. -/
  | nvmUnlock (p : Packet)
  /-- NVM_LOCK (R314): Host command relocking the USER regions named in its mask. -/
  | nvmLock (p : Packet)
  /-- NVM_PASSWORD (R314): Journaled command changing a region password under the old password or a dealer credential. -/
  | nvmPassword (p : Packet)
  /-- NVM_REGIONS (R313): Journaled command writing the 16-entry USER region table. -/
  | nvmRegions (p : Packet)
  /-- COUNTER_READ (R310): Host command reading a monotonic counter. -/
  | counterRead (p : Packet)
  /-- AUTH_NONCE (R267): Immediate command issuing a fresh 16-byte nonce for one credential check, voiding the oldest beyond four. -/
  | authNonce (p : Packet)
  /-- KEY_GEN (R278): Journaled authenticated command generating a key into a free host handle. -/
  | keyGen (p : Packet)
  /-- KEY_GEN_BLOB (R384): Immediate authenticated command generating a key and returning it as a host-held blob bound to an epoch. -/
  | keyGenBlob (p : Packet)
  /-- IMPORT_SESSION (R274): Immediate command generating an ephemeral P-256 pair in slot 11 and returning it with an attestation statement. -/
  | importSession (p : Packet)
  /-- KEY_IMPORT (R274): Journaled authenticated command importing wrapped key material into a host handle, under a slot or an import session. -/
  | keyImport (p : Packet)
  /-- KEY_IMPORT_BLOB (R384): Immediate authenticated command importing wrapped key material and returning a host-held blob. -/
  | keyImportBlob (p : Packet)
  /-- KEY_UPDATE (R282): Journaled long command replacing the key of a FeRAM handle in three steps through KE0. -/
  | keyUpdate (p : Packet)
  /-- KEY_DESTROY (R278): Journaled authenticated command retiring the halves of the named handles. -/
  | keyDestroy (p : Packet)
  /-- KEY_LOAD (R273): Immediate command checking a blob or handle and loading it into a host slot. -/
  | keyLoad (p : Packet)
  /-- KEY_UNLOAD (R280): Immediate command unloading the host slots named in its mask. -/
  | keyUnload (p : Packet)
  /-- CMAC (R385): KEY_OP operation computing an AES CMAC over a message under a host slot. -/
  | cmac (p : Packet)
  /-- CMAC_VERIFY (R385): KEY_OP operation verifying a CMAC under a host slot. -/
  | cmacVerify (p : Packet)
  /-- SIGN (R385): KEY_OP operation signing a digest with ECDSA P-256 under a host slot. -/
  | sign (p : Packet)
  /-- ECDH (R385): KEY_OP operation deriving an AES-256 key by ECDH into the lowest free host slot. -/
  | ecdh (p : Packet)
  /-- DERIVE (R385): KEY_OP operation deriving a key by SP 800-108 into the lowest free host slot. -/
  | derive (p : Packet)
  /-- WRAP (R385): KEY_OP operation exporting a host slot's key wrapped by AES-KWP when export is permitted. -/
  | wrap (p : Packet)
  /-- EPOCH_INC (R281): Journaled authenticated command incrementing a key-epoch counter and zeroising slots it makes stale. -/
  | epochInc (p : Packet)
  /-- ATTEST (R286): Immediate command signing an attestation statement over a slot, handle or import-session key. -/
  | attest (p : Packet)
  /-- DEBUG_MODE (R288): Journaled Irvenstol-service command unlocking or locking debug, effective at the next Dawn. -/
  | debugMode (p : Packet)
  /-- ANCHOR_SET (R265): Journaled command writing a trust anchor 0–4 in one page commit. -/
  | anchorSet (p : Packet)
  /-- COUPLING_KEY (R386): PROVISION item generating or replacing the P-256 coupling key in handle 192. -/
  | couplingKey (p : Packet)
  /-- COUPLING_CERT (R386): PROVISION item checking the coupling certificate and storing it in CONFIG. -/
  | couplingCert (p : Packet)
  /-- IMMO_KEY (R386): PROVISION item importing the immobiliser key into handle 193. -/
  | immoKey (p : Packet)
  /-- LF_TEST (R388): Journaled command sending a host test telegram and returning its energy, air time and events. -/
  | lfTest (p : Packet)
  /-- LF_RETEST (R116): Immediate command clearing the diagnostic flags of the masked channels and starting their retests. -/
  | lfRetest (p : Packet)
  /-- LF_OFFSET_CAL (R117): Immediate command repeating the current-sense offset measurement after any running telegram. -/
  | lfOffsetCal (p : Packet)
  /-- LF_TABLE (R388): Immediate command writing the shadow current table and committing it in one act. -/
  | lfTable (p : Packet)
  /-- RADIO_CAL (R157): Journaled command running radio calibration steps 2–9 in the first free gap. -/
  | radioCal (p : Packet)
  /-- RADIO_TX (R388): Immediate command placing one transmit descriptor and replying when it ends. -/
  | radioTx (p : Packet)
  /-- RADIO_SAVE (R387): Journaled command saving tuner settings and power tables to CONFIG. -/
  | radioSave (p : Packet)
  /-- MODEL_SET (R189): Journaled command checking and writing the LF field model. -/
  | modelSet (p : Packet)
  /-- MODEL_GET (R387): Immediate command returning the field model. -/
  | modelGet (p : Packet)
  /-- RANGE (R388): Journaled command ranging a T3 or PH record outside a decision and fusing the result. -/
  | range (p : Packet)
  /-- RANGE_SAVE (R387): Journaled dealer command saving the MCP board offset. -/
  | rangeSave (p : Packet)
  /-- DECIDE (R389): Journaled host decision request for DOOR or START, completing with its decision record. -/
  | decide (p : Packet)
  /-- DECISION_LOG (R389): Immediate command returning decision records from the ring. -/
  | decisionLog (p : Packet)
  /-- ENROL (R74): Journaled long command enrolling a token in five steps under a dealer credential or a MASTER token. -/
  | enrol (p : Packet)
  /-- REVOKE (R77): Journaled command freeing a token record, incrementing the revocation epoch, deny-listing the ID and destroying its key. -/
  | revoke (p : Packet)
  /-- RECORD_STATE (R77): Journaled command suspending or reinstating a token record. -/
  | recordState (p : Packet)
  /-- OVERRIDE (R70): ACCESS_SET item writing ACC_CTRL.OVERRIDE to NORMAL, FORCE_LOCK or SERVICE. -/
  | override (p : Packet)
  /-- TRL_OWN_LIST (R71): ACCESS_SET item writing ACC_CTRL.TRL_OWN_LIST. -/
  | trlOwnList (p : Packet)
  /-- LOCKED_ANS (R93): ACCESS_SET item writing ACC_CTRL.LOCKED_ANS. -/
  | lockedAns (p : Packet)
  /-- END_CURFEW (R65): ACCESS_SET item ending Curfew early and clearing the sliding-window count. -/
  | endCurfew (p : Packet)
  /-- CLEAR_SLO_FAULT (R82): ACCESS_SET item running the 10 ms static self-test and clearing a latched SLO_FAULT when it passes. -/
  | clearSloFault (p : Packet)
  /-- PROFILE_POLICY (R390): ACCESS_SET item writing a profile policy word. -/
  | profilePolicy (p : Packet)
  /-- ENROL_LIMIT (R76): ACCESS_SET item lowering or raising the lifetime enrolment limit. -/
  | enrolLimit (p : Packet)
  /-- TOKEN_READ (R389): Immediate command returning token records. -/
  | tokenRead (p : Packet)
  /-- DENY_READ (R389): Immediate command returning the deny list, oldest first. -/
  | denyRead (p : Packet)
  /-- COUPLE (R393): Journaled long command starting a coupling on a unit and completing at step 6. -/
  | couple (p : Packet)
  /-- DECOUPLE (R393): Journaled command decoupling a unit. -/
  | decouple (p : Packet)
  /-- COUPLING_QUERY (R394): Immediate command returning the state, partner identifier and bounds of couplings. -/
  | couplingQuery (p : Packet)
  /-- PARTNER_LIST (R393): Journaled dealer command adding or removing DEVICE_IDs in the allow-list or partner deny list. -/
  | partnerList (p : Packet)
  /-- ROSTER_ADD (R238): Journaled command adding S1 or S2 sensors to free records. -/
  | rosterAdd (p : Packet)
  /-- ROSTER_REMOVE (R238): Journaled command freeing sensor records, destroying keys and clearing history. -/
  | rosterRemove (p : Packet)
  /-- WHEEL_SET (R393): Journaled command setting a held wheel position or releasing HELD. -/
  | wheelSet (p : Packet)
  /-- LOCATE (R246): Journaled long command running auto-location, completing at step 3. -/
  | locate (p : Packet)
  /-- WHEEL_MODEL_SET (R245): Journaled command writing the wheel model. -/
  | wheelModelSet (p : Packet)
  /-- S1_LEARN (R240): Journaled command opening the 600 s S1 learn window. -/
  | s1Learn (p : Packet)
  /-- SENSOR_READ (R392): Immediate command returning sensor record positions, values and IDs. -/
  | sensorRead (p : Packet)
  /-- HISTORY_READ (R392): Immediate command returning history entries of a sensor record, newest first. -/
  | historyRead (p : Packet)
  /-- SENSOR_SET (R392): Journaled command setting a sensor record's threshold set and nominal value. -/
  | sensorSet (p : Packet)
  /-- CAN_TX (R501): Immediate command sending a host frame from a host buffer, replying at its end or on timeout. -/
  | canTx (p : Packet)
  /-- CAN_RX (R396): Immediate command returning frames from the host FIFO. -/
  | canRx (p : Packet)
  /-- PLC_TX (R395): Immediate command sending a J1708-framed message on J2497. -/
  | plcTx (p : Packet)
  /-- LIN_XFER (R516): Immediate command publishing or subscribing one LIN frame in place of the next schedule slot. -/
  | linXfer (p : Packet)
  /-- BUS_SAVE (R499): Journaled command saving live bus configuration to CONFIG. -/
  | busSave (p : Packet)
  /-- ENG_LOAD (R426): Journaled long command loading an OEM image from an IMAGE region in three steps. -/
  | engLoad (p : Packet)
  /-- ENG_CTRL (R424): Immediate command putting an OEM engine into Siesta, running it or resetting it. -/
  | engCtrl (p : Packet)
  /-- MBX_WRITE (R421): Immediate command sending a mailbox message from endpoint 12 to an OEM engine. -/
  | mbxWrite (p : Packet)
  /-- MBX_READ (R395): Immediate command reading a message from an OEM engine's host-bound queue. -/
  | mbxRead (p : Packet)
  /-- UCODE_WRITE (R396): Immediate command writing microcode entries of an OEM engine in Siesta. -/
  | ucodeWrite (p : Packet)
  /-- TMR_READ (R395): Immediate command reading a counter and its units' compare and LATE values. -/
  | tmrRead (p : Packet)
  /-- TMR_ARM (R489): Immediate command arming a host compare unit with an action byte. -/
  | tmrArm (p : Packet)
  /-- TMR_CFG (R396): Immediate command setting prescaler, source and run state of counter 7. -/
  | tmrCfg (p : Packet)
  /-- FAULT_READ (R397): Immediate command returning fault records, newest first. -/
  | faultRead (p : Packet)
  /-- INJECT (R536): Immediate command handing a detector and parameter to E0 for a test or live injection. -/
  | inject (p : Packet)
  /-- TAMPER_CLEAR (R532): Journaled credentialed command clearing tamper latches and reopening the key store or leaving it for the next Dawn. -/
  | tamperClear (p : Packet)
  /-- READ_ONLY_TRANSACTION (R340): SPI transaction with byte 0 0x00 delivering HIF_STAT and consuming the oldest output packet. -/
  | readOnlyTransaction (first : Byte) (clocked : Nat)
  /-- REPLAY_TRANSACTION (R341): SPI transaction with byte 0 0x5A resending the last consumed output packet without consuming anything. -/
  | replayTransaction (clocked : Nat)
  /-- CLASH (R339): SPI transaction during which both chip-selects were low, voided and counted. -/
  | clash
  /-- UART_GAP_TIMEOUT (R344): Gap between bytes of a UART packet exceeds GAP byte times and the packet ends truncated. -/
  | uartGapTimeout (op : Byte) (p : Packet)
  /-- UART_CFG_WRITE (R343): Write of HIF_UART_CFG taking effect after the last stop bit of its reply. -/
  | uartCfgWrite
  /-- HIF_CFG_WRITE (R364): Write of HIF_CFG or HIF_V1_CFG taking effect after the writing command's reply is consumed. -/
  | hifCfgWrite
  /-- EVT_LOST (R346): The EVT_LOST event is queued once output room allows after events were dropped. -/
  | evtLost
  /-- COMPLETE_REQUEUE (R346): A COMPLETE event that could not be queued is raised again once room frees. -/
  | completeRequeue
  /-- DAWN_QUEUE_PROCESS (R355): At Noon E0 queues the RESET event and takes the Dawn-queued packets through checks 9–14. -/
  | dawnQueueProcess
  /-- V1_NOP (R360): Version 1 opcode 0x00 polling for the previous reply. -/
  | v1Nop (f : V1Frame)
  /-- IDENT (R400): Version 1 opcode returning SYS_DEVID and the role. -/
  | ident (f : V1Frame)
  /-- V1_STATUS (R400): Version 1 opcode returning state, key-store state, access status and S1 count. -/
  | v1Status (f : V1Frame)
  /-- SOFT_RESET (R400): Version 1 opcode requesting a SOFT reset after its reply is consumed. -/
  | softReset (f : V1Frame)
  /-- V1_REG_READ (R400): Version 1 opcode reading one register. -/
  | v1RegRead (f : V1Frame)
  /-- V1_REG_WRITE (R400): Version 1 opcode writing one GPIO or TMB register. -/
  | v1RegWrite (f : V1Frame)
  /-- EE_READ (R362): Version 1 opcode reading bytes of the legacy EEPROM image. -/
  | eeRead (f : V1Frame)
  /-- EE_WRITE (R362): Version 1 opcode writing bytes of the legacy EEPROM image without the journal. -/
  | eeWrite (f : V1Frame)
  /-- T2_POLL (R400): Version 1 opcode running a decision and returning its outcome. -/
  | t2Poll (f : V1Frame)
  /-- T2_RESULT (R400): Version 1 opcode returning the latest decision. -/
  | t2Result (f : V1Frame)
  /-- S1_COUNT (R400): Version 1 opcode returning the number of S1 records. -/
  | s1Count (f : V1Frame)
  /-- S1_READ (R400): Version 1 opcode returning an S1 record's readings. -/
  | s1Read (f : V1Frame)
  /-- S1_ADD (R400): Version 1 opcode adding an S1 sensor to the lowest free record. -/
  | s1Add (f : V1Frame)
  /-- S1_REMOVE (R400): Version 1 opcode removing an S1 record. -/
  | s1Remove (f : V1Frame)
  /-- V1_LF_TEST (R400): Version 1 opcode sending an LF test telegram of up to 64 bits. -/
  | v1LfTest (f : V1Frame)
  /-- J12_BEGIN (R429): Version 1 opcode forcing an OEM engine into RESET and clearing PMEM_VALID. -/
  | j12Begin (f : V1Frame)
  /-- J12_DATA (R429): Version 1 opcode writing four Jorsol-12 program words. -/
  | j12Data (f : V1Frame)
  /-- J12_END (R429): Version 1 opcode checking the image CRC and starting the engine in Jorsol-12 mode. -/
  | j12End (f : V1Frame)
  /-- V1_MBX_WRITE (R400): Version 1 opcode sending a mailbox message to an OEM engine. -/
  | v1MbxWrite (f : V1Frame)
  /-- V1_MBX_READ (R400): Version 1 opcode reading a mailbox message from an OEM engine. -/
  | v1MbxRead (f : V1Frame)
  /-- V1_SHORT_TRANSACTION (R360): Version 1 transaction shorter than 12 bytes, executing and consuming nothing and counting V1_ERR. -/
  | v1ShortTransaction
  /-- ACCEPTED_WORK_START (R37): An accepted command starts in acceptance order once no earlier command holds a common object. -/
  | acceptedWorkStart
  /-- ACCEPTED_WORK_STEP (R32): A step of accepted work ends, its boundary is journaled and the next step begins or the result is committed. -/
  | acceptedWorkStep (tagged : Bool) (seq : Nat) (m : StepMeas)
  /-- WAKE_PIN_EDGE (R44): Falling edge on WAKE0–3 latched as a door trigger of the wake-pin class. -/
  | wakePinEdge (n : Fin 4)
  /-- START_REQUEST_FRAME (R44): Classical CAN frame with identifier ACC_START_ID on the configured bus becomes a START trigger in the tractor role. -/
  | startRequestFrame (f : BusFrame)
  /-- PRESENCE_FRAME (R45): Presence frame from an ACTIVE T3 token after a Dusk beacon starts a full decision. -/
  | presenceFrame (data : Bytes)
  /-- DUSK_BEACON (R45): Every BEACON_PERIOD the wake pattern alone is sent on the exterior aerials. -/
  | duskBeacon
  /-- QUEUED_TRIGGER_START (R25): When a decision ends, the next queued trigger or waiting DECIDE starts its decision. -/
  | queuedTriggerStart
  /-- T3_REPLY (R52): A T3 reply frame received in a slot is verified, slotted and counted valid or foreign. -/
  | t3Reply (f : RxFrame) (fit : Option LfvFit)
  /-- T2_REPLY (R56): A T2 reply frame received on RX-B is verified, slotted and zoned from its RSSI. -/
  | t2Reply (f : RxFrame)
  /-- PHONE_ANSWER (R58): A phone answers the decision challenge with its CMAC over LE. -/
  | phoneAnswer (record : Fin 64) (answer : Bytes)
  /-- WIN_DONE (R141): A receiver's slot window closes, slot statuses are written and collided T3 slots are re-polled. -/
  | winDone (rx : Fin 3) (energy : List (Fin 8 × Byte))
  /-- CURFEW_END (R63): The SYS_RTC count at which Curfew ends is reached and Curfew ends. -/
  | curfewEnd
  /-- RELEASE_REFRESH_TIMEOUT (R24): No refresh from E0 for 100 ms ends the standing release. -/
  | releaseRefreshTimeout
  /-- RELEASE_DURATION_END (R80): DURATION_S after the newest grant expires and the release ends. -/
  | releaseDurationEnd
  /-- RELEASE_TRACK (R81): Every TRACK_PERIOD E0 tracks the granting token, ending the release after two failed tracks, and repeats driver grants. -/
  | releaseTrack
  /-- RELEASE_READBACK (R82): 250 µs after each edge both release pins are read back and a repeated mismatch latches SLO_FAULT. -/
  | releaseReadback (a : Bool) (b : Bool)
  /-- IDLE_READBACK (R539): Every 10 ms without a release both pins are read back and two consecutive mismatches latch SLO_FAULT. -/
  | idleReadback (a : Bool) (b : Bool)
  /-- PERIOD_MONITOR (R539): Each release half period is checked against 490–510 µs and two failures set PERIOD_ERR and end the release. -/
  | periodMonitor (us : Nat)
  /-- RELEASE_SELF_TEST (R563): Dawn static self-test of the release pins with readback every 1.0 ms. -/
  | releaseSelfTest (reads : List (Bool × Bool × Bool))
  /-- IMMO_CHALLENGE (R84): Engine ECU challenge frame answered with a released MAC or a locked answer. -/
  | immoChallenge (f : BusFrame)
  /-- ENROL_ATTEMPT (R619): While the token is silent in enrolment steps 3–4, the learn or confirm attempt is repeated 100 ms after the previous one. -/
  | enrolAttempt
  /-- ENROL_TIMEOUT (R75): 10 s of silence in step 3 or 4 ends the enrolment with TIMEOUT and drops the reservation. -/
  | enrolTimeout
  /-- LF_GO (R104): GO write to LFX_CTRL, or the selected TMB compare, starts a telegram from the symbol FIFO. -/
  | lfGo (src : Nat)
  /-- LF_ABORT (R124): ABORT write to LFX_CTRL ends the running telegram at the next symbol boundary. -/
  | lfAbort
  /-- LF_FLUSH (R124): FLUSH write to LFX_CTRL empties the FIFO when no telegram runs. -/
  | lfFlush
  /-- LFX_FIFO_DATA (R104): Engine write of one 32-bit entry into the symbol FIFO. -/
  | lfxFifoData (w : Word)
  /-- LF_FIFO_ENTRY (R105): The LFX block executes the next FIFO entry of the running telegram. -/
  | lfFifoEntry (m : LfMeas)
  /-- LFX_COMMIT (R118): Write of COMMIT stages the aerial mask and current table, live at once or at the telegram's end. -/
  | lfxCommit (w : Word)
  /-- LFX_EACC_REQ (R113): E1 submits a telegram energy estimate and class, granted or deferred by the accountant. -/
  | lfxEaccReq (w : Word)
  /-- EACC_BIN (R111): At each 100 ms bin boundary the accountant ages the window and resubmits deferred requests in class order. -/
  | eaccBin (tj : Int) (pcore : Nat)
  /-- VLF_WINDOW_CHANGE (R98): VLF crosses a VLF_LOW or VLF_HIGH threshold, setting or clearing the flag and ending a running telegram. -/
  | vlfWindowChange (mv : Nat)
  /-- LF_SHORT (R115): Bridge current above 3.0 A switches the channel off within 200 ns and latches the short. -/
  | lfShort (ch : Fin 8) (toVlf : Bool)
  /-- LF_OPEN_RETEST (R116): Every 60 s an open channel is retested with a 200 µs pulse. -/
  | lfOpenRetest (ch : Fin 8) (peak : Byte) (tj : Int)
  /-- LF_SHORT_CLEAR (R123): W1C clear of SHORT_GND or SHORT_VLF starts the 20 µs retest of R116. -/
  | lfShortClear (ch : Fin 8) (flags : Fin 4) (found : Option Bool)
  /-- TX_DESCRIPTOR_QUEUE (R148): Write of VALID queues a radio transmit descriptor. -/
  | txDescriptorQueue (bandH : Bool) (d : Fin 4) (ctl : Word)
  /-- TX_DESCRIPTOR_START (R150): A descriptor's start instant is reached and the frame is sent, held or ended LATE. -/
  | txDescriptorStart (bandH : Bool) (d : Fin 4) (settled tuned : Bool)
  /-- TX_FRAME_END (R148): A transmission ends and the descriptor is marked sent. -/
  | txFrameEnd (bandH : Bool) (rl : Byte)
  /-- RX_FRAME (R141): A received frame ends, its check is judged and it is assigned to a slot or delivered. -/
  | rxFrame (f : RxFrame)
  /-- RX_WINDOW_OPEN (R141): An armed slot window opens at WIN_START. -/
  | rxWindowOpen (rx : Fin 3)
  /-- RFL_COMMIT (R146): Write of a synthesiser COMMIT bit stages the channel and IF pair on Band L or Band H. -/
  | rflCommit (bandH : Bool) (first second : Bool)
  /-- RFL_CAL_START (R157): Write of START in the calibration control register requests a radio calibration. -/
  | rflCalStart (bandH : Bool) (m : CalMeas)
  /-- RECAL_PEND (R158): A receiver whose die temperature drifted 20 °C recalibrates in the first free gap. -/
  | recalPend (rx : Fin 3)
  /-- LOCK_LOSS (R159): A synthesiser loses lock, aborts its frame and recalibrates once, entering failover on failure. -/
  | lockLoss (syn : Fin 4) (relocks : Bool)
  /-- FAILOVER_RETRY (R159): Every 60 s the failed synthesiser is retried in a gap, ending failover when it locks. -/
  | failoverRetry (syn : Fin 4) (locks : Bool)
  /-- MISMATCH (R155): After MISMATCH with AUTO = 1 a tuner sweep runs in the next free 0.6 ms gap. -/
  | mismatch (best : Fin 16) (rl : Byte)
  /-- SNIFF_PERIOD (R160): Every SNIFF_PERIOD in Dusk RX-A listens for 1 ms and extends on energy. -/
  | sniffPeriod (x : Sniff)
  /-- RBE_EXCHANGE_START (R175): START in RNG_RBE_CFG begins a rapid bit exchange on chain H. -/
  | rbeExchangeStart (w : Word)
  /-- RBE_EXCHANGE_DONE (R179): A rapid bit exchange ends and its result and bound are decided. -/
  | rbeExchangeDone (m : RbeMeas)
  /-- RNG_ABORT (R179): ABORT write to RNG_CTRL aborts the running exchange and clears the response registers. -/
  | rngAbort
  /-- RNG_RBE_KEYLD (R174): Write of RNG_RBE_KEYLD by E5 loads the response registers over the private path. -/
  | rngRbeKeyld (by_ : Requester)
  /-- RESP_ARM (R180): Arming the RNG block as responder in an inter-device exchange. -/
  | respArm (unit : Fin 3) (x : RbeHeard)
  /-- MCP_EVENT_START (R182): START in RNG_MCP_CFG begins a multi-carrier phase ranging event on a token. -/
  | mcpEventStart
  /-- MCP_EVENT_DONE (R184): An MCP event ends and E4 computes the per-band distances and quality. -/
  | mcpEventDone (m : McpMeas) (fit : Option LfvFit)
  /-- CS_PROCEDURE_DONE (R188): A Channel Sounding procedure with a phone ends and PBR_CM and RTT_CM are computed. -/
  | csProcedureDone (record : Fin 64) (m : CsMeas)
  /-- COUPLING_LINK_UP (R209): The first valid partner frame after silence starts a coupling with AUTO = 1. -/
  | couplingLinkUp (unit : Fin 3) (j2497 : Bool) (long : Bool)
  /-- HELLO (R212): HELLO PDU received, entering the handshake or resuming it. -/
  | hello (p : CplPdu)
  /-- CERT (R215): CERT PDU received and the partner certificate checked into a trust class. -/
  | cert (p : CplPdu)
  /-- KEYSHARE (R212): KEYSHARE PDU received, signature checked and session keys derived. -/
  | keyshare (p : CplPdu)
  /-- CONFIRM (R212): CONFIRM PDU received and its TAG checked. -/
  | confirm (p : CplPdu)
  /-- RBE_ARM (R217): RBE_ARM PDU announcing an inter-device exchange. -/
  | rbeArm (p : CplPdu)
  /-- RBE_RESULT (R217): RBE_RESULT PDU received with the partner's own bound and result. -/
  | rbeResult (p : CplPdu)
  /-- ROSTER (R218): ROSTER part received and its entries taken into free sensor records. -/
  | roster (p : CplPdu)
  /-- ROSTER_ACK (R218): ROSTER_ACK received, letting the trailer send the next part. -/
  | rosterAck (p : CplPdu)
  /-- DRIVER_GRANT (R221): DRIVER_GRANT from the tractor is a PARK_RELEASE trigger on a trailer. -/
  | driverGrant (p : CplPdu)
  /-- DRIVER_LEFT (R221): DRIVER_LEFT received ends the trailer release. -/
  | driverLeft (p : CplPdu)
  /-- KEEPALIVE (R223): KEEPALIVE PDU sent every LOSS_MS / 4 when no other PDU is due. -/
  | keepalive (unit : Fin 3)
  /-- BYE (R223): BYE PDU received decouples the coupling or drops it to BASIC. -/
  | bye (p : CplPdu)
  /-- STEP_TO (R214): A handshake PDU is awaited STEP_TO; the first timeout resends, the second ends with ABSENT. -/
  | stepTo (unit : Fin 3)
  /-- HELLO_WAIT_TIMEOUT (R209): A trailer device that receives no handshake within 3 s sends HELLO itself. -/
  | helloWaitTimeout (unit : Fin 3)
  /-- MEDIUM_FALLBACK (R208): ISO 11992 stays down 2 s after J2497 traffic begins and the coupling runs on J2497. -/
  | mediumFallback (unit : Fin 3)
  /-- COUPLING_LINK_LOSS (R223): No valid partner frame for LOSS_MS makes the coupling SUSPENDED. -/
  | couplingLinkLoss (unit : Fin 3)
  /-- HOLD_EXPIRY (R223): HOLD_S passes without the partner's return and the coupling is DECOUPLED. -/
  | holdExpiry (unit : Fin 3)
  /-- COUPLING_RESTART (R225): A failed coupling attempt restarts after 5 s, 10 s and 20 s backoff. -/
  | couplingRestart (unit : Fin 3)
  /-- GRANT_REPEAT_TIMEOUT (R221): Two track periods without a repeated grant end the trailer release. -/
  | grantRepeatTimeout
  /-- TP_SEGMENT_FRAME (R510): A first or consecutive coupling-transport frame on CAN or J2497 is assembled into its PDU. -/
  | tpSegmentFrame (f : TpFrame)
  /-- TP_ACK_FRAME (R510): A transport acknowledgement lets the sender continue, finish or abort. -/
  | tpAckFrame (unit : Fin 3) (plc : Bool) (sn : Fin 64) (status : Byte)
  /-- TP_GAP_TIMEOUT (R510): A gap beyond the limit between frames of one PDU aborts it. -/
  | tpGapTimeout (unit : Fin 3) (plc : Bool)
  /-- TP_ACK_TIMEOUT (R510): No acknowledgement in time resends the block once and aborts at the second silence. -/
  | tpAckTimeout (unit : Fin 3) (plc : Bool)
  /-- SENSOR_STATE (R253): SENSOR_STATE message received, updating the matching PARTNER record. -/
  | sensorState (unit : Fin 3) (record : Fin 128) (data : Bytes)
  /-- SENSOR_STATE_SEND (R253): A trailer sends SENSOR_STATE at each change and otherwise every 10 s. -/
  | sensorStateSend (record : Fin 128)
  /-- DATA (R233): S2 DATA frame verified and its FCNT queued for commit. -/
  | data (f : SnsFrame)
  /-- ALARM (R241): S2 ALARM frame handled, moving the device to Noon on a CRIT alarm. -/
  | alarm (f : SnsFrame)
  /-- LOC (R243): S2 LOC frame answering a wake, recorded for the aerial. -/
  | loc (f : SnsFrame)
  /-- SREPORT (R248): SREPORT received after SLOC and a phase location computed. -/
  | sreport (f : SnsFrame)
  /-- S1_FRAME (R235): S1 frame decoded by family and accepted for an OWN, PARTNER or LEARNING record. -/
  | s1Frame (f : SnsFrame)
  /-- FCNT_COMMIT (R234): E8 commits the sensor frame-counter table pages, after which waiting frames take effect. -/
  | fcntCommit (rb : ReadBack)
  /-- AUTO_LOCATION_START (R246): Auto-location starts at coupling step 7 or after a roster change with AUTO_LOC = 1. -/
  | autoLocationStart
  /-- WAKE_DEFER_TIMEOUT (R244): A wake deferred more than 2 s is skipped and LF_DEFER is set. -/
  | wakeDeferTimeout
  /-- WAKE_RETRY (R244): Skipped aerials are retried after 10 s, at most 3 times. -/
  | wakeRetry
  /-- STATIONARY_TIMEOUT (R246): The stationary stage ends at 20 s and sensors without evidence become unknown. -/
  | stationaryTimeout
  /-- LEARN_WINDOW_END (R240): The 600 s S1 learn window ends, promoting or freeing LEARNING records. -/
  | learnWindowEnd
  /-- HIST_PERIOD (R237): HIST_PERIOD elapses since a record's last history entry and an entry is appended. -/
  | histPeriod (record : Fin 128)
  /-- STALE (R250): No accepted frame for STALE_S raises a stale alert. -/
  | stale (record : Fin 128)
  /-- ZEROISE (R290): Write of KST_CTRL.ZEROISE zeroises all slots, leaving the key store open. -/
  | zeroise (by_ : Requester)
  /-- CLOSE (R296): Write of KST_CTRL.CLOSE zeroises slots and shares and closes the key store until the next Dawn. -/
  | close (by_ : Requester)
  /-- NONCE_EXPIRY (R267): An AUTH_NONCE expires after 120 s. -/
  | nonceExpiry
  /-- IMPORT_SESSION_EXPIRY (R274): An import session expires after 120 s. -/
  | importSessionExpiry
  /-- PAGE_COMMIT_DONE (R302): A two-copy page or journal-record commit completes its read-backs. -/
  | pageCommitDone (rb : ReadBack)
  /-- COUNTER_INCREMENT_DONE (R310): A monotonic counter slot write is read back and the increment reported done. -/
  | counterIncrementDone
  /-- PATROL (R304): Every PATROL_MS the patrol reads one page, checks both copies and repairs a failed copy. -/
  | patrol
  /-- SCAN (R328): Write of NVM_CTRL.SCAN starts one full patrol round at once. -/
  | scan
  /-- SUNDOWN_SAVE (R324): VSUP falls below 2.9 V, load is shed and the SHADOW image is committed before holding in reset. -/
  | sundownSave (m : SaveMeas)
  /-- VSUP_RECOVERY (R558): VSUP recovers above POR release after a save and Dawn follows with cause SUNDOWN. -/
  | vsupRecovery
  /-- OEM_EVENT (R412): OEM mailbox service asking E0 to raise the OEM event. -/
  | oemEvent (k : Fin 12) (data : Bytes)
  /-- OEM_NVM_WRITE (R412): OEM mailbox service writing bytes into unprotected USER pages. -/
  | oemNvmWrite (k : Fin 12) (data : Bytes)
  /-- RTC_READ (R412): OEM mailbox service returning RTC seconds. -/
  | rtcRead (k : Fin 12)
  /-- NOP_INSTRUCTION (R448): Jorsol instruction doing nothing. -/
  | nopInstruction (o : EngOp)
  /-- SIESTA (R448): Instruction waiting on the enabled event lines. -/
  | siesta (o : EngOp)
  /-- TRAP (R448): Instruction taking the SWT trap with n latched. -/
  | trap (o : EngOp)
  /-- RETI (R414): Instruction returning from a trap or event handler. -/
  | reti (o : EngOp)
  /-- FENCE (R448): Instruction waiting until the store buffer is empty. -/
  | fence (o : EngOp)
  /-- SYNC (R448): Instruction waiting for the store buffer and every register-write acknowledgement. -/
  | sync (o : EngOp)
  /-- MFS (R449): Instruction moving a special register into a general register. -/
  | mfs (o : EngOp)
  /-- MTS (R449): Instruction moving a general register into a special register. -/
  | mts (o : EngOp)
  /-- MOV (R450): Register move instruction. -/
  | mov (o : EngOp)
  /-- MOVI (R450): Immediate move instruction. -/
  | movi (o : EngOp)
  /-- ADD (R451): Addition of a register or immediate. -/
  | add (o : EngOp)
  /-- SUB (R451): Subtraction of a register or immediate. -/
  | sub (o : EngOp)
  /-- ADC (R451): Addition with carry. -/
  | adc (o : EngOp)
  /-- SBC (R451): Subtraction with borrow. -/
  | sbc (o : EngOp)
  /-- AND (R451): Bitwise AND with a register or immediate. -/
  | and (o : EngOp)
  /-- OR (R451): Bitwise OR with a register or immediate. -/
  | or (o : EngOp)
  /-- XOR (R451): Bitwise XOR with a register or immediate. -/
  | xor (o : EngOp)
  /-- CMP (R451): Compare setting flags only. -/
  | cmp (o : EngOp)
  /-- TST (R451): Bit test setting flags only. -/
  | tst (o : EngOp)
  /-- ADDI (R452): Addition of a small signed constant, optionally scaled by 4. -/
  | addi (o : EngOp)
  /-- NEG (R453): Negation in place. -/
  | neg (o : EngOp)
  /-- NOT (R453): Bitwise complement in place. -/
  | not (o : EngOp)
  /-- ABS (R453): Absolute value in place. -/
  | abs (o : EngOp)
  /-- CLZ (R453): Count of leading zeros. -/
  | clz (o : EngOp)
  /-- LSL (R455): Logical shift left. -/
  | lsl (o : EngOp)
  /-- LSR (R455): Logical shift right. -/
  | lsr (o : EngOp)
  /-- ASR (R455): Arithmetic shift right. -/
  | asr (o : EngOp)
  /-- ROR (R455): Rotate right. -/
  | ror (o : EngOp)
  /-- MUL (R456): Low 32 bits of a product. -/
  | mul (o : EngOp)
  /-- MULH (R456): High 32 bits of the signed product. -/
  | mulh (o : EngOp)
  /-- MULHU (R456): High 32 bits of the unsigned product. -/
  | mulhu (o : EngOp)
  /-- DIV (R457): Signed or unsigned division with defined edge results and the DZ trap. -/
  | div (o : EngOp)
  /-- REM (R457): Signed or unsigned remainder with defined edge results. -/
  | rem (o : EngOp)
  /-- LD (R458): Load of a word, half-word or byte. -/
  | ld (o : EngOp)
  /-- ST (R458): Store of a word, half-word or byte. -/
  | st (o : EngOp)
  /-- LDX (R459): Indexed load with optional index write-back. -/
  | ldx (o : EngOp)
  /-- STX (R459): Indexed store with optional index write-back. -/
  | stx (o : EngOp)
  /-- PUSH (R460): Push of a register range onto the stack. -/
  | push (o : EngOp)
  /-- POP (R460): Pop of a register range from the stack. -/
  | pop (o : EngOp)
  /-- BCC (R461): Conditional relative branch. -/
  | bcc (o : EngOp)
  /-- JMP (R462): Jump to a register or absolute target. -/
  | jmp (o : EngOp)
  /-- CALL (R462): Call writing the return address to G15, or pushing it in Jorsol-12 mode. -/
  | call (o : EngOp)
  /-- RET (R474): Jorsol-12 return popping the return address from the G7 stack. -/
  | ret (o : EngOp)
  /-- ST_MOVE (R474): Jorsol-12 move between ST and a general register. -/
  | stMove (o : EngOp)
  /-- BSET (R463): Set a bit, testing it. -/
  | bset (o : EngOp)
  /-- BCLR (R463): Clear a bit, testing it. -/
  | bclr (o : EngOp)
  /-- BTST (R463): Test a bit. -/
  | btst (o : EngOp)
  /-- WAIT (R419): Instruction entering Siesta until a masked event line is pending. -/
  | wait (o : EngOp)
  /-- SIGNAL (R464): Instruction raising event line 2 on an engine. -/
  | signal (o : EngOp)
  /-- EVCLR (R464): Instruction clearing pending event lines. -/
  | evclr (o : EngOp)
  /-- EVRD (R464): Instruction reading the pending event lines. -/
  | evrd (o : EngOp)
  /-- CRYI (R465): E5 instruction placing a command word into the CRY command queue. -/
  | cryi (o : EngOp)
  /-- CRYS (R465): E5 instruction reading the CRY status word. -/
  | crys (o : EngOp)
  /-- MOVS (R466): String copy element by element. -/
  | movs (o : EngOp) (upto : Option Nat)
  /-- FILLS (R466): String fill element by element. -/
  | fills (o : EngOp) (upto : Option Nat)
  /-- CMPS (R466): String compare ending at the first mismatch. -/
  | cmps (o : EngOp) (upto : Option Nat)
  /-- SCANS (R466): String scan ending at the first match. -/
  | scans (o : EngOp) (upto : Option Nat)
  /-- CRCS (R466): String CRC-32C accumulation. -/
  | crcs (o : EngOp) (upto : Option Nat)
  /-- CHKU (R469): Unsigned bounds check. -/
  | chku (o : EngOp)
  /-- CHKS (R469): Signed bounds check. -/
  | chks (o : EngOp)
  /-- CHKLEN (R469): Bounds check of an address range. -/
  | chklen (o : EngOp)
  /-- UDN (R472): Customer instruction running its microcode sequence and committing its held writes at the end. -/
  | udn (o : EngOp)
  /-- EVENT_ENTRY (R416): A pending enabled event line enters the event handler at a boundary. -/
  | eventEntry (k : Fin 12)
  /-- WDT_FIRST_EXPIRY (R423): First watchdog expiry takes the WDT trap. -/
  | wdtFirstExpiry (k : Fin 12)
  /-- WDT_SECOND_EXPIRY (R424): Second watchdog expiry resets the engine. -/
  | wdtSecondExpiry (k : Fin 12)
  /-- ENGINE_RESTART (R424): After a fault reset and reload by E8 the engine restarts at 0x0010. -/
  | engineRestart (k : Fin 12)
  /-- ENGINE_RUN_ACTION (R420): Run action in ENG_Ek_CTRL starts or resumes an engine. -/
  | engineRunAction (k : Fin 12)
  /-- ENGINE_SIESTA_ACTION (R420): Siesta action in ENG_Ek_CTRL stops an engine at its next boundary. -/
  | engineSiestaAction (k : Fin 12)
  /-- ENGINE_RESET_ACTION (R424): Reset action in ENG_Ek_CTRL resets an engine, keeping its program memory. -/
  | engineResetAction (k : Fin 12)
  /-- WDKICK (R423): Write of ENG_Ek_WDKICK with the key restarts the watchdog. -/
  | wdkick (k : Fin 12) (v : Word)
  /-- SEND (R421): SEND write copies the staging registers into the destination mailbox queue. -/
  | send (k : Fin 12)
  /-- MBX_POP (R422): POP write removes the head inbound message. -/
  | mbxPop (k : Fin 12)
  /-- UC_LO (R432): Write of ENG_Ek_UC_LO stores a whole microcode entry in Siesta. -/
  | ucLo (k : Fin 12) (v : Word)
  /-- COUNTER_START (R479): START write starts a TMB counter. -/
  | counterStart (c : Fin 8)
  /-- COUNTER_STOP (R479): STOP write stops a TMB counter. -/
  | counterStop (c : Fin 8)
  /-- TMB_COMMIT (R478): COMMIT write stages a counter's prescaler and source. -/
  | tmbCommit (c : Fin 8)
  /-- TMB_CNT_WRITE (R479): Write of TMB_CNTc loads the count and restarts the divider. -/
  | tmbCntWrite (c : Fin 8) (v : Word)
  /-- COMPARE_ARM (R481): Write of TMB_CMPu in compare mode arms the unit. -/
  | compareArm (u : Fin 32) (v : Word)
  /-- DISARM (R481): DISARM write disarms a unit without firing. -/
  | disarm (u : Fin 32)
  /-- COMPARE_FIRE (R481): A compare condition is met at a counter clock and the unit's actions are taken. -/
  | compareFire (u : Fin 32)
  /-- CAPTURE (R488): A capture edge copies the count into TMB_CMPu and applies the action byte. -/
  | capture (u : Fin 32) (rising : Bool)
  /-- CAPTURE_READ (R488): Read of TMB_CMPu clears CAP_FULL. -/
  | captureRead (u : Fin 32)
  /-- CAN_FRAME_RX (R500): A received CAN frame is spoof-checked, filtered, rate-limited and delivered. -/
  | canFrameRx (f : CanRx)
  /-- CAN_TX_DONE (R501): A CAN transmit buffer's frame completes. -/
  | canTxDone (bus : Fin 2)
  /-- CAN_TX_TIMEOUT (R501): A host frame not sent within TMO_MS ends TIMEOUT. -/
  | canTxTimeout (bus : Fin 2) (b : Fin 16)
  /-- REQ (R501): REQ write marks a CAN transmit buffer pending for arbitration. -/
  | req (bus : Fin 2) (b : Fin 16)
  /-- CAN_TX_ABORT (R521): ABORT write withdraws a pending CAN transmit buffer. -/
  | canTxAbort (bus : Fin 2) (b : Fin 16)
  /-- CAN_RX_POP (R521): POP write removes the head frame of a receive FIFO. -/
  | canRxPop (bus : Fin 2) (host : Bool)
  /-- CAN_COMMIT (R498): COMMIT write stages the CAN bit-timing pair. -/
  | canCommit (bus : Fin 2) (frame : Bool)
  /-- RESTART (R504): RESTART write returns a faulted CAN controller to service. -/
  | restart (bus : Fin 2)
  /-- BUS_OFF (R504): A CAN controller goes bus-off, faulting after a third in 10 s. -/
  | busOff (bus : Fin 2)
  /-- BUS_OFF_RECOVERY (R504): After BO_WAIT and the recovery sequence the controller returns to ACTIVE. -/
  | busOffRecovery (bus : Fin 2)
  /-- SPEED_TIMEOUT (R509): No accepted speed frame for 1.0 s clears CPL_SPEED.VALID. -/
  | speedTimeout
  /-- PLC_MESSAGE_RX (R511): A J2497 message is checksum-checked, limited and delivered. -/
  | plcMessageRx (f : PlcRx)
  /-- TX_REQ (R525): PLC_CTRL.TX_REQ write queues a J2497 message for bus access. -/
  | txReq
  /-- PLC_ACCESS_TIMEOUT (R513): A J2497 message waiting more than 1.0 s for bus access is dropped. -/
  | plcAccessTimeout
  /-- PLC_RX_POP (R525): PLC_CTRL.POP removes the head received message. -/
  | plcRxPop
  /-- LIN_SLOT (R516): A LIN schedule slot's frame runs and its response is checked for door touches. -/
  | linSlot (x : LinAnswer)
  /-- GO (R525): LIN_XFER_CTL.GO write requests one LIN frame transfer. -/
  | go
  /-- LIN_WAKE (R517): A dominant LIN level of 150 µs–5 ms in Dusk wakes E7. -/
  | linWake
  /-- TAMPER_SENSOR_ASSERT (R528): A tamper sensor asserts and the tamper response of the present state runs. -/
  | tamperSensorAssert (m : BitVec 7)
  /-- VIGIL_DETECTION (R531): Vigil latches a Midnight tamper detection and wakes the device. -/
  | vigilDetection (m : BitVec 7)
  /-- INJECT_GO (R536): SAF_INJ_GO.GO starts the injection named in SAF_INJ_CTRL. -/
  | injectGo
  /-- WITHDRAW (R537): SAF_INJ_GO.WITHDRAW withdraws a pending live injection. -/
  | withdraw
  /-- LIVE_INJECTION_ACT (R536): 100 µs after the INJECT reply the live injection corrupts the next use of its target. -/
  | liveInjectionAct (c : CutAt) (m : SaveMeas)
  /-- INJECT_NOT_OBSERVED (R536): A live injection unused for 1 s is withdrawn with NOT_OBSERVED. -/
  | injectNotObserved
  /-- POWER_ON (R561): VSUP rises through the POR release and Dawn begins. -/
  | powerOn (c : CutAt)
  /-- XO_QUALIFIED (R549): The XO qualifies, the PLL locks and Dawn proceeds through boot, journal recovery and key-store open. -/
  | xoQualified (m : DawnMeas)
  /-- XO_FAIL (R549): The XO fails to qualify within 10 ms and its start is retried. -/
  | xoFail
  /-- NOON (R561): Dawn ends in Noon after the release self-test. -/
  | noon
  /-- PIN (R560): RST_N held low 1 µs resets the device, Dawn starting at its rising edge. -/
  | pin (low : Bool)
  /-- TEST_N_LOW (R581): TEST_N low holds the device in reset as RST_N does. -/
  | testNLow (low : Bool)
  /-- CLOCK (R550): The clock monitor finds the XO out of range or the PLL unlocked and resets the device. -/
  | clock (pll : Bool) (c : CutAt)
  /-- VMON (R547): VCORE outside ±8 % for 1 µs resets the device. -/
  | vmon (high : Bool) (c : CutAt)
  /-- VDDIO_LOW (R546): VDDIO falls below 1.50 V, ignoring inputs and releasing outputs. -/
  | vddioLow
  /-- RTC_FAIL (R551): The RTC crystal stops 2 s, clearing RTC_VALID, or asserting CLOCK tamper in Midnight. -/
  | rtcFail
  /-- RTC_ALARM (R556): SYS_RTC reaches SYS_RTC_ALARM with RTC_EN = 1 and wakes the device. -/
  | rtcAlarm
  /-- DUSK_ENTRY (R553): Once idle after a Dusk request or DUSK_IDLE_S, the device enters Dusk. -/
  | duskEntry
  /-- DUSK_EXIT (R554): A wake cause ends Dusk in Noon. -/
  | duskExit
  /-- MIDNIGHT_ENTRY (R555): The device saves SHADOW, powers down FeRAM and VCORE and arms the wake logic. -/
  | midnightEntry (m : SaveMeas)
  /-- AUTO_MIDNIGHT (R555): MIDNIGHT_MIN minutes in Dusk without a wake cause enter Midnight. -/
  | autoMidnight (m : SaveMeas)
  /-- WAKE (R556): A WAKE pin edge or HCS0_N edge ends Midnight. -/
  | wake (c : WakeCause)
  /-- RECOVERY_CREDENTIAL (R565): In BOOT_FAIL the boot ROM verifies a debugger credential over its nonce. -/
  | recoveryCredential (cred : Bytes)
  /-- RECOVERY_BOOT_WRITE (R565): A verified recovery session writes a BOOT page through the page commit. -/
  | recoveryBootWrite (page : Fin 576) (data : Bytes) (rb : ReadBack)
  /-- GPIO_SET (R610): Write of GPIO_SET sets output bits. -/
  | gpioSet (m : BitVec 24)
  /-- GPIO_CLR (R610): Write of GPIO_CLR clears output bits. -/
  | gpioClr (m : BitVec 24)
  /-- GPIO_TGL (R610): Write of GPIO_TGL inverts output bits. -/
  | gpioTgl (m : BitVec 24)
  /-- GPIO_LOCK (R613): Write of GPIO_LOCK locks pins until the next reset. -/
  | gpioLock (m : BitVec 24)
  /-- FUNC_CHANGE (R612): Write of GPIO_PINn_CFG changing FUNC without an output edge. -/
  | funcChange (n : Fin 24) (v : Word)
  /-- GPIO_EDGE (R611): A pin edge selected by EDGE sets its GPIO_EVENTS bit and event lines. -/
  | gpioEdge (n : Fin 24) (level : Bool)
  /-- RESEED (R616): CRY_CTRL.RESEED reseeds the DRBG from the TRNG. -/
  | reseed
  /-- RETEST (R616): CRY_CTRL.RETEST reruns the TRNG start-up tests and clears HALT on a pass. -/
  | retest (pass : Bool)
  /-- HEALTH_FAIL (R616): A continuous TRNG health test fails and randomness halts. -/
  | healthFail (kind : Bool)
  /-- RC_REGISTER_READ (R604): A host or E0–E8 read of an RC register returns and clears it. -/
  | rcRegisterRead (by_ : Requester) (addr : Nat)
  /-- REGISTER_WRITE (R604): Write of a register without a row of its own, checked for reserved values and applied under its block's rules. -/
  | registerWrite (by_ : Requester) (addr : Nat) (value : Word)
  /-- UNDEFINED_OPCODE (R374): A version 2 packet with an undefined opcode, or a version 1 transaction with an unlisted opcode, is answered BAD_OPCODE with no effect. -/
  | undefinedOpcode (op : Byte) (x : BadOpcode)
  /-- STOP_BIT_ERROR (R344): A UART byte with a stop-bit error is discarded, counted as SYNC_ERR, and the hunt for 0xC3 restarts. -/
  | stopBitError
  /-- UND (R444): An engine meets an undefined or reserved instruction word, three EXT words, or a fetch outside program memory, and takes the UND, RSV or MEM trap. -/
  | und (o : EngOp)
  /-- DEBUG_RESET (R559): A reset request on the debug port resets the device with cause DEBUG after any commit in flight. -/
  | debugReset
  /-- VDDIO_QUALIFIED (R546): VDDIO stays above 1.50 V for 100 µs, and VDDIO inputs take effect and outputs are driven again 1.0 ms later. -/
  | vddioQualified (hi : Bool)
  /-- COUNTER_CLOCK (R477): A running TMB counter counts one clock, applying a staged prescaler pair, a linked reset and the compare evaluation of that clock. -/
  | counterClock (c : Fin 8)
  /-- CRY_COMMAND_DONE (R614): A command issued to the CRY accelerator completes, setting DONE or ERR with CRY_ERR and CRY_LAST_CMD. -/
  | cryCommandDone (code : Fin 16) (slot : Fin 64) (kind : Fin 16)
  /-- PLC_TX_DONE (R525): A queued J2497 message finishes transmission, setting TX_DONE and completing PLC_TX. -/
  | plcTxDone
  /-- INTEGRATION (R498): A CAN controller sees 11 consecutive recessive bits, after which it receives, acknowledges and sends, and failed-over traffic returns to it. -/
  | integration (bus : Fin 2)
  /-- CONNECTION_EVENT (R518): A Bluetooth LE connection event with a phone occurs, carrying the challenge and answer, counting missed events and ending a connection at supervision timeout. -/
  | connectionEvent (record : Fin 64) (missed : Bool) (lost : Bool)
  /-- PHONE_CONNECTION (R518): A phone connects to the advertising device, or the device reconnects as central to a bonded phone that advertises. -/
  | phoneConnection (record : Fin 64) (central : Bool)
  /-- LIN_HEADER (R515): In responder role a commander's header arrives, the controller synchronises to the sync field and answers or receives the frame. -/
  | linHeader (pid : Byte) (sync : Bool) (x : LinAnswer)
  /-- NEXT_STOP (R249): The vehicle has been stopped for 30 s after a CONFLICT outcome, and the stationary stage of auto-location runs again. -/
  | nextStop
  /-- GRANT_LAPSE (R113): An energy grant not used by a telegram starting within 1.0 ms lapses, and its reserved estimate is released. -/
  | grantLapse
  deriving DecidableEq, Repr

end Sys2Proof
end

