-- ==== Sys2Proof/Decode.lean ====
section
/-! DEFINITION. Words that spell a command: the table of operations and events gives no row any bits, so no word spells one. -/
namespace Sys2Proof

/-- The command that a word spells by the bits of the table: the table gives no row bits. -/
def decodeTableWord (_nbits _w : Nat) : Option Instr := none

end Sys2Proof
end

