-- ==== Sys2Proof/Config.lean ====
section
/-! DEFINITION. What one part differs from another in, and the values the manual leaves open: constants without a body, of
which no proof can see the value. -/
namespace Sys2Proof.Config

/-- Values the manual leaves open or draws from chance, by number of the draw (DRBG output, cache contents of an unreadable
page, results the manual does not fix). -/
opaque freeWord : Nat → Word

/-- The phase that the timestamp unit interpolates at a count of CLK_TS (R171). -/
opaque tsPhase : Word → BitVec 3

/-- DEVICE_UID of this part (R264). -/
opaque deviceUid : Quad

/-- The firmware version bytes of IDENTIFY: major, minor, patch, build (R377). -/
opaque firmware : Word

/-- Bytes of the firmware in the BOOT partition as Irvenstol wrote it (R299). -/
opaque bootByte : Nat → Byte

/-- The byte at an offset of the CONFIG partition, from its items with their CRCs by number; where an item lies the manual does not state (R299). -/
opaque configByte : List (Nat × List (BitVec 8)) → Nat → BitVec 8

/-- Where anchor 5, the device certificate and the production intermediate certificate lie in BOOT, which the manual does not state (R265, R287). -/
opaque anchor5At : Nat
opaque deviceCertAt : Nat
opaque intermediateCertAt : Nat

/-- The private keys of Irvenstol's attestation root and of its production intermediate, and the per-message numbers of their signatures, by certificate (R287). -/
opaque attestRootD : Nat
opaque intermediateD : Nat
opaque certNumber : Nat → Nat

/-- The fields of a certificate that the manual does not fix, by certificate, in DER but for the serial number's bytes: serial number, issuer, validity, the subject or
its further attributes, extensions (R287). -/
opaque certSerial : Nat → List (BitVec 8)
opaque certIssuer : Nat → List (BitVec 8)
opaque certValidity : Nat → List (BitVec 8)
opaque certSubject : Nat → List (BitVec 8)
opaque certExtensions : Nat → List (BitVec 8)

/-- The public key X ‖ Y of the Irvenstol service root, anchor 5 (R265). -/
opaque serviceRoot : Bytes

/-- KEY_ID of the Irvenstol service root (R265). -/
opaque serviceKeyId : Word

/-- Share S0 of root set 0 as programmed at Irvenstol's final test (R261). -/
opaque otpShare0 : Nat

/-- Share S1 of root set 0 (R261). -/
opaque otpShare1 : Nat

/-- The published test root (R288). -/
opaque testRoot : Nat

/-- The value of the microvolt and temperature readings of SYS_VSUP, SYS_VLF, SYS_VCORE, SYS_TEMP and SYS_CORE_PWR by address
(R568), which the world outside makes. -/
opaque analog : Nat → Word

/-- The vehicle identifier of the tractor as a trailer device holds it: no message of the manual carries it (R217). -/
opaque tractorVid : Word

/-- AXLES of the dolly in front of a second-trailer device, which no message gives it (R222). -/
opaque dollyAxles : Nat

/-- What DERIVE reads as label and context in its DATA, whose division the manual does not state (R385). -/
opaque deriveInput : List (BitVec 8) → List (BitVec 8) × List (BitVec 8)

/-- The AES-256 key that KEY_OP ECDH makes of the x-coordinate of the shared point (R385). -/
opaque ecdhKey : List (BitVec 8) → List (BitVec 8)

/-- What DERIVE makes of an HMAC-SHA-256 key and its DATA: the manual states SP 800-108 with CMAC alone (R264, R385). -/
opaque deriveHmac : List (BitVec 8) → List (BitVec 8) → List (BitVec 8)

end Sys2Proof.Config
end

