-- ==== Sys2Proof/Machine/Bits.lean ====
section
/-! DEFINITION. Bit fields, byte strings, sparse maps in canonical form, and the CRCs of the OZS-7720. Multi-byte fields are little-endian
unless a rule says otherwise (R11). -/
namespace Sys2Proof.Machine

/-- Bits [lo + n − 1 : lo] of a number. -/
def fld (w lo n : Nat) : Nat := w / 2 ^ lo % 2 ^ n

/-- One bit of a number. -/
def bit (w i : Nat) : Bool := w.testBit i

/-- Field [lo + n − 1 : lo] of a register word. -/
def wfld (w : Word) (lo n : Nat) : Nat := fld w.toNat lo n

/-- One bit of a register word. -/
def wbit (w : Word) (i : Nat) : Bool := w.toNat.testBit i

/-- A register word from a number, modulo 2^32. -/
def word (n : Nat) : Word := BitVec.ofNat 32 n

/-- The number of a truth value. -/
def b2n (b : Bool) : Nat := if b then 1 else 0

/-- The word `w` with field [lo + n − 1 : lo] set to `v`. -/
def setFld (w : Word) (lo n v : Nat) : Word :=
  word (w.toNat - fld w.toNat lo n * 2 ^ lo + v % 2 ^ n * 2 ^ lo)

/-- The word with bit `i` set. -/
def setBit (w : Word) (i : Nat) : Word := w ||| word (2 ^ i)

/-- The word with bit `i` clear. -/
def clrBit (w : Word) (i : Nat) : Word := w &&& ~~~ word (2 ^ i)

/-- A word of which `bits` lists the set bits with their conditions. -/
def flagsWord (bits : List (Nat × Bool)) : Nat := bits.foldl (fun acc p => if p.2 then acc + 2 ^ p.1 else acc) 0

/-- A field value that stops at its all-ones value (R604, saturating counters). -/
def satAdd (width v k : Nat) : Nat := min (v + k) (2 ^ width - 1)

/-- A byte from a number, modulo 256. -/
def byte (n : Nat) : Byte := BitVec.ofNat 8 n

/-- `n` bytes of a number, least significant first (R11). -/
def le : Nat → Nat → Bytes
  | 0, _ => []
  | n + 1, v => byte v :: le n (v / 256)

/-- The number that bytes spell, least significant first. -/
def leNat : Bytes → Nat
  | [] => 0
  | b :: bs => b.toNat + 256 * leNat bs

/-- `n` bytes of a number, most significant first. -/
def be (n v : Nat) : Bytes := (le n v).reverse

/-- The number that bytes spell, most significant first. -/
def beNat (bs : Bytes) : Nat := leNat bs.reverse

/-- `n` bytes of a string from offset `off`, as many as are there. -/
def slice (bs : Bytes) (off n : Nat) : Bytes := (bs.drop off).take n

/-- The little-endian number in `n` bytes at offset `off`. -/
def at_ (bs : Bytes) (off n : Nat) : Nat := leNat (slice bs off n)

/-- The byte at an offset; 0 past the end. -/
def byteAt (bs : Bytes) (off : Nat) : Nat := (bs.getD off 0).toNat

/-- A byte string cut or filled with zeros to `n` bytes. -/
def fit (n : Nat) (bs : Bytes) : Bytes := (bs ++ List.replicate n 0).take n

/-- `n` zero bytes. -/
def zeros (n : Nat) : Bytes := List.replicate n 0

/-- ASCII bytes of a label. -/
def ascii (t : String) : Bytes := t.toList.map fun c => byte c.toNat

/-- The two's complement reading of the low `n` bits. -/
def signed (n v : Nat) : Int := if v % 2 ^ n < 2 ^ (n - 1) then (v % 2 ^ n : Nat) else (v % 2 ^ n : Nat) - (2 ^ n : Nat)

/-- The low `n` bits of an integer. -/
def wrap (n : Nat) (i : Int) : Nat := (i % (2 ^ n : Nat)).toNat

/-- Ticks from `a` to `b` on a wrapping 32-bit clock. -/
def ticksFrom (a b : Word) : Nat := (b - a).toNat

/-- Positions of a list whose entries satisfy a test. -/
def positions {α : Type} (f : α → Bool) (l : List α) : List Nat :=
  (l.zipIdx.filter fun p => f p.1).map (·.2)

/-- A list with position `i` changed by `f`. -/
def modAt {α : Type} (i : Nat) (f : α → α) (l : List α) : List α := l.modify i f

/-- A list with the first entry that satisfies `p` changed by `f`. -/
def modFirst {α : Type} (p : α → Bool) (f : α → α) : List α → List α
  | [] => []
  | x :: xs => if p x then f x :: xs else x :: modFirst p f xs

/-- A list with every entry that satisfies `p` changed by `f`. -/
def modAll {α : Type} (p : α → Bool) (f : α → α) (l : List α) : List α :=
  l.map fun x => if p x then f x else x

/-! ### Sparse maps: keys strictly rising, no entry equal to what an unlisted key reads as -/

/-- The value at a key; `d` is what an unlisted key reads as. -/
def kvGet {β : Type} (d : Nat → β) : List (Nat × β) → Nat → β
  | [], k => d k
  | (a, v) :: m, k => if a = k then v else kvGet d m k

/-- The map with the entry of key `k` left out. -/
def kvErase {β : Type} (m : List (Nat × β)) (k : Nat) : List (Nat × β) := m.filter fun p => p.1 ≠ k

/-- The map with an entry put in its place in key order; no entry of this key is in it. -/
def kvInsert {β : Type} (k : Nat) (v : β) : List (Nat × β) → List (Nat × β)
  | [] => [(k, v)]
  | (a, w) :: m => if k < a then (k, v) :: (a, w) :: m else (a, w) :: kvInsert k v m

/-- The map with key `k` holding `v`. -/
def kvSet {β : Type} [DecidableEq β] (d : Nat → β) (m : List (Nat × β)) (k : Nat) (v : β) : List (Nat × β) :=
  if v = d k then kvErase m k else kvInsert k v (kvErase m k)

/-- Keys rise strictly. -/
def kvSorted {β : Type} : List (Nat × β) → Bool
  | [] => true
  | [_] => true
  | (a, _) :: (b, w) :: m => a < b && kvSorted ((b, w) :: m)

/-- The canonical form of a sparse map. -/
def kvWf {β : Type} [DecidableEq β] (d : Nat → β) (m : List (Nat × β)) : Bool :=
  kvSorted m && m.all fun p => p.2 ≠ d p.1

/-- `n` bytes from address `a` of a byte map in which an unlisted address reads 0. -/
def memGet (m : List Host.Cell) (a n : Nat) : Bytes := (List.range n).map fun i => kvGet (fun _ => 0) m (a + i)

/-- A byte map with a string of bytes written from address `a`. -/
def memSet (m : List Host.Cell) (a : Nat) (bs : Bytes) : List Host.Cell :=
  bs.zipIdx.foldl (fun acc p => kvSet (fun _ => (0 : Byte)) acc (a + p.2) p.1) m

/-- The canonical form of a byte map. -/
def Memory.wf (m : List Host.Cell) : Bool := kvWf (fun _ => (0 : Byte)) m

/-! ### CRCs -/

/-- One bit of a reflected CRC with polynomial `poly`. -/
def crcBit (poly c : Nat) : Nat := if c % 2 = 1 then (c / 2) ^^^ poly else c / 2

/-- One byte of a reflected CRC. -/
def crcByte (poly c : Nat) (b : Byte) : Nat :=
  let x := c ^^^ b.toNat
  crcBit poly (crcBit poly (crcBit poly (crcBit poly (crcBit poly (crcBit poly (crcBit poly (crcBit poly x)))))))

/-- The running value of CRC-32C (R335). -/
def crc32cRun (c : Nat) (bs : Bytes) : Nat := bs.foldl (crcByte 0x82F63B78) c

/-- CRC-32C (R335). -/
def crc32c (bs : Bytes) : Word := word (crc32cRun 0xFFFFFFFF bs ^^^ 0xFFFFFFFF)

end Sys2Proof.Machine
end

