-- ==== Sys2Proof/Machine/Crypto.lean ====
section
/-! DEFINITION. The algorithms the CRY accelerator and the key store run: AES, CMAC, key wrap, SHA-256, SP 800-108,
ECDSA and ECDH on P-256, as the standards the manual names define them (R263, R264, R266, R269, R274, R275). -/
namespace Sys2Proof.Machine

/-! ### AES -/

/-- The AES S-box, entry i in byte i. -/
def aesSboxBits : Nat := 0x16bb54b00f2d99416842e6bf0d89a18cdf2855cee9871e9b948ed9691198f8e19e1dc186b95735610ef6034866b53e708a8bbd4b1f74dde8c6b4a61c2e2578ba08ae7a65eaf4566ca94ed58d6d37c8e779e4959162acd3c25c2406490a3a32e0db0b5ede14b8ee4688902a22dc4f816073195d643d7ea7c41744975fec130ccdd2f3ff1021dab6bcf5389d928f40a351a89f3c507f02f94585334d43fbaaefd0cf584c4a39becb6a5bb1fc20ed00d153842fe329b3d63b52a05a6e1b1a2c830975b227ebe28012079a059618c323c7041531d871f1e5a534ccf73f362693fdb7c072a49cafa2d4adf04759fa7dc982ca76abd7fe2b670130c56f6bf27b777c63

/-- The inverse AES S-box, entry i in byte i. -/
def aesInvSboxBits : Nat := 0x7d0c2155631469e126d677ba7e042b17619953833cbbebc8b0f52aae4d3be0a0ef9cc9939f7ae52d0d4ab519a97f51605fec8027591012b131c7078833a8dd1ff45acd78fec0db9a2079d2c64b3e56fc1bbe18aa0e62b76f89c5291d711af1476edf751ce837f9e28535ade72274ac9673e6b4f0cecff297eadc674f4111913a6b8a130103bdafc1020f3fca8f1e2cd00645b3b80558e4f70ad3bc8c00abd890849d8da75746155edab9edfd5048706c92b6655dcc5ca4d41698688664f6f87225d18b6d49a25b76b224d92866a12e084ec3fa420b954cee3d23c2a632947b54cbe9dec444438e3487ff2f9b8239e37cfbd7f3819ea340bf38a53630d56a0952

/-- S-box lookup. -/
def aesSub (b : Byte) : Byte := byte (aesSboxBits >>> (8 * b.toNat))

/-- Multiplication by x in the AES field. -/
def aesXtime (b : Byte) : Byte := (b <<< 1) ^^^ (if b.msb then 0x1b else 0)

/-- Byte-wise exclusive or. -/
def xorBytes (a b : Bytes) : Bytes := List.zipWith (· ^^^ ·) a b

/-- A block as one number, byte i in bits [8 i + 7 : 8 i]: every byte multiplied by x in the AES field. -/
def aesDouble (v : Nat) : Nat := ((v &&& 0x7f7f7f7f7f7f7f7f7f7f7f7f7f7f7f7f) * 2) ^^^ (((v >>> 7) &&& 0x01010101010101010101010101010101) * 0x1b)

/-- The columns of a block, each rotated by one byte: byte i becomes what byte i + 1 of its column was. -/
def aesRotate (v : Nat) : Nat := ((v >>> 8) &&& 0x00ffffff00ffffff00ffffff00ffffff) ||| ((v &&& 0x000000ff000000ff000000ff000000ff) * 2 ^ 24)

/-- MixColumns: the coefficients 2, 3, 1, 1. -/
def aesMix (v : Nat) : Nat :=
  let r := aesRotate v
  aesDouble (v ^^^ r) ^^^ r ^^^ aesRotate r ^^^ aesRotate (aesRotate r)

/-- The inverse of MixColumns: the coefficients 14, 11, 13, 9. -/
def aesUnmix (v : Nat) : Nat :=
  let r := aesRotate v
  let r2 := aesRotate r
  let r3 := aesRotate r2
  aesDouble (aesDouble (aesDouble (v ^^^ r ^^^ r2 ^^^ r3) ^^^ v ^^^ r2) ^^^ v ^^^ r) ^^^ r ^^^ r2 ^^^ r3

/-- A substitution of every byte, and ShiftRows by `k` columns per row (1 forward, 3 inverse). -/
def aesSubShift (box k v : Nat) : Nat :=
  (List.range 16).foldr (fun i a => a * 256 + (box >>> (8 * ((v >>> (8 * ((i + 4 * k * (i % 4)) % 16))) % 256))) % 256) 0

/-- The key schedule: `n` further words from the words so far, newest first; `nk` key words. -/
def aesExpand (nk : Nat) : Nat → Nat → Byte → List Bytes → List Bytes
  | 0, _, _, ws => ws
  | n + 1, i, rc, ws =>
    let t := ws.getD 0 []
    let p := ws.getD (nk - 1) []
    if i % nk = 0 then
      let u := (t.drop 1 ++ t.take 1).map aesSub
      aesExpand nk n (i + 1) (aesXtime rc) (xorBytes p (xorBytes u [rc, 0, 0, 0]) :: ws)
    else if nk > 6 ∧ i % nk = 4 then aesExpand nk n (i + 1) rc (xorBytes p (t.map aesSub) :: ws)
    else aesExpand nk n (i + 1) rc (xorBytes p t :: ws)

/-- The round keys of a 16- or 32-byte key, first round first. -/
def aesKeys (key : Bytes) : List Bytes :=
  let nk := key.length / 4
  let ws0 := ((List.range nk).map fun i => slice key (4 * i) 4).reverse
  let ws := (aesExpand nk (4 * (nk + 7) - nk) nk 1 ws0).reverse
  (List.range (nk + 7)).map fun r => (slice' ws r)
where slice' (ws : List Bytes) (r : Nat) : Bytes := ((ws.drop (4 * r)).take 4).flatten

/-- AES encryption of one block. -/
def aesEnc (key blk : Bytes) : Bytes :=
  match (aesKeys key).map leNat with
  | [] => blk
  | k0 :: ks =>
    let mid := ks.dropLast.foldl (fun v k => aesMix (aesSubShift aesSboxBits 1 v) ^^^ k) (leNat blk ^^^ k0)
    le 16 (aesSubShift aesSboxBits 1 mid ^^^ ks.getLastD 0)

/-- AES decryption of one block. -/
def aesDec (key blk : Bytes) : Bytes :=
  match ((aesKeys key).map leNat).reverse with
  | [] => blk
  | k0 :: ks =>
    let mid := ks.dropLast.foldl (fun v k => aesUnmix (aesSubShift aesInvSboxBits 3 v ^^^ k)) (leNat blk ^^^ k0)
    le 16 (aesSubShift aesInvSboxBits 3 mid ^^^ ks.getLastD 0)

/-! ### CMAC (SP 800-38B) -/

/-- Doubling of a 16-byte string in GF(2^128). -/
def cmacDouble (b : Bytes) : Bytes :=
  let v := beNat b
  be 16 ((v * 2 % 2 ^ 128) ^^^ (if v ≥ 2 ^ 127 then 0x87 else 0))

/-- Cipher block chaining over whole blocks. -/
def cbcMac (key : Bytes) : Nat → Bytes → Bytes → Bytes
  | 0, acc, _ => acc
  | n + 1, acc, m => cbcMac key n (aesEnc key (xorBytes acc (m.take 16))) (m.drop 16)

/-- AES CMAC of a message. -/
def cmac (key msg : Bytes) : Bytes :=
  let k1 := cmacDouble (aesEnc key (zeros 16))
  let n := (msg.length + 15) / 16
  let full := (n - 1) * 16
  let last := msg.drop full
  let tail := if last.length = 16 then xorBytes last k1
    else xorBytes (fit 16 (last ++ [0x80])) (cmacDouble k1)
  aesEnc key (xorBytes (cbcMac key (n - 1) (zeros 16) msg) tail)

/-! ### Key wrap (SP 800-38F) -/

/-- One wrapping step on the register A and the block queue. -/
def kwStep (key : Bytes) (t : Nat) (st : Bytes × List Bytes) : Bytes × List Bytes :=
  match st.2 with
  | [] => st
  | r :: rs =>
    let b := aesEnc key (st.1 ++ r)
    (be 8 (beNat (b.take 8) ^^^ t), rs ++ [b.drop 8])

/-- One unwrapping step. -/
def kwUnstep (key : Bytes) (t : Nat) (st : Bytes × List Bytes) : Bytes × List Bytes :=
  let r := st.2.getLastD []
  let b := aesDec key (be 8 (beNat st.1 ^^^ t) ++ r)
  (b.take 8, b.drop 8 :: st.2.dropLast)

/-- 64-bit blocks of a string. -/
def blocks8 (b : Bytes) : List Bytes := (List.range (b.length / 8)).map fun i => slice b (8 * i) 8

/-- The wrapping function W on 2 or more blocks after the integrity value. -/
def kwW (key iv pt : Bytes) : Bytes :=
  let bl := blocks8 pt
  let r := (List.range (6 * bl.length)).foldl (fun st t => kwStep key (t + 1) st) (iv, bl)
  r.1 ++ r.2.flatten

/-- The unwrapping function: integrity value and plaintext. -/
def kwWinv (key ct : Bytes) : Bytes × Bytes :=
  match blocks8 ct with
  | [] => ([], [])
  | a :: bl =>
    let r := (List.range (6 * bl.length)).foldl (fun st t => kwUnstep key (6 * bl.length - t) st) (a, bl)
    (r.1, r.2.flatten)

/-- AES-KW wrap. -/
def aesKw (key pt : Bytes) : Bytes := kwW key (List.replicate 8 0xA6) pt

/-- AES-KWP wrap. -/
def aesKwp (key pt : Bytes) : Bytes :=
  let iv : Bytes := [0xA6, 0x59, 0x59, 0xA6] ++ be 4 pt.length
  let padded := fit ((pt.length + 7) / 8 * 8) pt
  if padded.length ≤ 8 then aesEnc key (iv ++ padded) else kwW key iv padded

/-- AES-KWP unwrap; none when the integrity check fails. -/
def aesKwpInv (key ct : Bytes) : Option Bytes :=
  if ct.length % 8 ≠ 0 ∨ ct.length < 16 then none
  else
    let r := if ct.length = 16 then (let b := aesDec key ct; (b.take 8, b.drop 8)) else kwWinv key ct
    let n := beNat (r.1.drop 4)
    if r.1.take 4 = [0xA6, 0x59, 0x59, 0xA6] ∧ n ≤ r.2.length ∧ r.2.length < n + 8 ∧ (r.2.drop n).all (· = 0)
    then some (r.2.take n) else none

/-- AES in counter mode from a function giving the counter block of each index. -/
def aesCtr (key : Bytes) (ctr : Nat → Bytes) (data : Bytes) : Bytes :=
  (List.range ((data.length + 15) / 16)).flatMap fun i => xorBytes (slice data (16 * i) 16) (aesEnc key (ctr i))

/-! ### SHA-256 (FIPS 180-4) -/

/-- The round constants, constant i in bits [32 i + 31 : 32 i]. -/
def shaKBits : Nat := 0xc67178f2bef9a3f7a4506ceb90befffa8cc7020884c8781478a5636f748f82ee682e6ff35b9cca4f4ed8aa4a391c0cb334b0bcb52748774c1e376c0819a4c116106aa070f40e3585d6990624d192e819c76c51a3c24b8b70a81a664ba2bfe8a192722c8581c2c92e766a0abb650a735453380d134d2c6dfc2e1b213827b70a851429296706ca6351d5a79147c6e00bf3bf597fc7b00327c8a831c66d983e515276f988da5cb0a9dc4a7484aa2de92c6f240ca1cc0fc19dc6efbe4786e49b69c1c19bf1749bdc06a780deb1fe72be5d74550c7dc3243185be12835b01d807aa98ab1c5ed5923f82a459f111f13956c25be9b5dba5b5c0fbcf71374491428a2f98

/-- Round constant `i`. -/
def shaK (i : Nat) : Word := word (shaKBits >>> (32 * i))

/-- The message schedule: `n` further words, newest first. -/
def shaSched : Nat → List Word → List Word
  | 0, ws => ws
  | n + 1, ws =>
    let w2 := ws.getD 1 0
    let w15 := ws.getD 14 0
    let s1 := w2.rotateRight 17 ^^^ w2.rotateRight 19 ^^^ (w2 >>> 10)
    let s0 := w15.rotateRight 7 ^^^ w15.rotateRight 18 ^^^ (w15 >>> 3)
    shaSched n ((ws.getD 15 0 + s0 + ws.getD 6 0 + s1) :: ws)

/-- One round on the working variables a to h. -/
def shaRound (v : List Word) (k w : Word) : List Word :=
  match v with
  | [a, b, c, d, e, f, g, h] =>
    let s1 := e.rotateRight 6 ^^^ e.rotateRight 11 ^^^ e.rotateRight 25
    let ch := (e &&& f) ^^^ (~~~e &&& g)
    let t1 := h + s1 + ch + k + w
    let s0 := a.rotateRight 2 ^^^ a.rotateRight 13 ^^^ a.rotateRight 22
    let mj := (a &&& b) ^^^ (a &&& c) ^^^ (b &&& c)
    [t1 + s0 + mj, a, b, c, d + t1, e, f, g]
  | _ => v

/-- One block of 64 bytes. -/
def shaBlock (h : List Word) (blk : Bytes) : List Word :=
  let w0 := ((List.range 16).map fun i => word (beNat (slice blk (4 * i) 4))).reverse
  let ws := (shaSched 48 w0).reverse
  let v := ws.zipIdx.foldl (fun v p => shaRound v (shaK p.2) p.1) h
  List.zipWith (· + ·) h v

/-- SHA-256. -/
def sha256 (msg : Bytes) : Bytes :=
  let z := (119 - msg.length % 64) % 64
  let m := msg ++ [0x80] ++ zeros z ++ be 8 (8 * msg.length)
  let h := (List.range (m.length / 64)).foldl (fun h i => shaBlock h (slice m (64 * i) 64))
    ([1779033703, 3144134277, 1013904242, 2773480762, 1359893119, 2600822924, 528734635, 1541459225].map word)
  h.flatMap fun w => be 4 w.toNat

/-! ### SP 800-108 in counter mode with AES-256 CMAC (R264) -/

/-- `bits` bits derived from a key under a label and a context. -/
def kdf (key label ctx : Bytes) (bits : Nat) : Bytes :=
  ((List.range ((bits + 127) / 128)).flatMap fun i =>
    cmac key (be 4 (i + 1) ++ label ++ [0] ++ ctx ++ be 4 bits)).take (bits / 8)

/-! ### P-256 (FIPS 186-5, SP 800-56A) -/

/-- The field prime. -/
def p256p : Nat := 2 ^ 256 - 2 ^ 224 + 2 ^ 192 + 2 ^ 96 - 1

/-- The group order. -/
def p256n : Nat := 0xffffffff00000000ffffffffffffffffbce6faada7179e84f3b9cac2fc632551

/-- The curve coefficient b. -/
def p256b : Nat := 0x5ac635d8aa3a93e7b3ebbd55769886bc651d06b0cc53b0f63bce3c3e27d2604b

/-- The base point. -/
def p256g : Nat × Nat :=
  (0x6b17d1f2e12c4247f8bce6e563a440f277037d812deb33a0f4a13945d898c296,
   0x4fe342e2fe1a7f9b8ee7eb4a7c0f9e162bce33576b315ececbb6406837bf51f5)

/-- Modular power by `n` steps over the bits of the exponent, low bit first. -/
def powMod (m : Nat) : Nat → Nat → Nat → Nat → Nat
  | 0, _, _, acc => acc
  | n + 1, b, e, acc => powMod m n (b * b % m) (e / 2) (if e % 2 = 1 then acc * b % m else acc)

/-- Inverse modulo a prime of at most 256 bits. -/
def invMod (m a : Nat) : Nat := powMod m 256 (a % m) (m - 2) 1

/-- Difference modulo the field prime. -/
def subP (a b : Nat) : Nat := (a + p256p - b % p256p) % p256p

/-- Addition of points; none is the point at infinity. -/
def ecAdd (a b : Option (Nat × Nat)) : Option (Nat × Nat) :=
  match a, b with
  | none, q => q
  | q, none => q
  | some (x1, y1), some (x2, y2) =>
    if x1 = x2 ∧ (y1 + y2) % p256p = 0 then none
    else
      let l := if x1 = x2 then subP (3 * x1 * x1) 3 * invMod p256p (2 * y1) % p256p
        else subP y2 y1 * invMod p256p (subP x2 x1) % p256p
      let x3 := subP (l * l) (x1 + x2)
      some (x3, subP (l * subP x1 x3) y1)

/-- Scalar multiplication over `n` bits, low bit first. -/
def ecMulBits : Nat → Nat → Option (Nat × Nat) → Option (Nat × Nat) → Option (Nat × Nat)
  | 0, _, _, acc => acc
  | n + 1, k, q, acc => ecMulBits n (k / 2) (ecAdd q q) (if k % 2 = 1 then ecAdd acc q else acc)

/-- Scalar multiplication. -/
def ecMul (k : Nat) (q : Option (Nat × Nat)) : Option (Nat × Nat) := ecMulBits 256 k q none

/-- The point lies on the curve and its coordinates are reduced. -/
def onCurve (x y : Nat) : Bool := x < p256p && y < p256p && y * y % p256p == (subP (x * x * x) (3 * x) + p256b) % p256p

/-- X ‖ Y of 64 bytes as a point of the curve. -/
def pointOf (b : Bytes) : Option (Nat × Nat) :=
  let x := beNat (b.take 32)
  let y := beNat (slice b 32 32)
  if b.length = 64 ∧ onCurve x y then some (x, y) else none

/-- X ‖ Y of a point, each big-endian (R11); zeros for the point at infinity. -/
def pointBytes (q : Option (Nat × Nat)) : Bytes :=
  match q with
  | some (x, y) => be 32 x ++ be 32 y
  | none => zeros 64

/-- X ‖ Y of the public key of a scalar. -/
def pubOf (d : Nat) : Bytes := pointBytes (ecMul d (some p256g))

/-- ECDSA P-256 over a SHA-256 digest with the per-message number `k`. -/
def ecdsaSign (d k : Nat) (digest : Bytes) : Bytes :=
  match ecMul k (some p256g) with
  | none => zeros 64
  | some (x, _) =>
    let r := x % p256n
    be 32 r ++ be 32 (invMod p256n k * (beNat digest + r * d) % p256n)

/-- ECDSA P-256 verification. -/
def ecdsaVerify (pub digest sig : Bytes) : Bool :=
  match pointOf pub with
  | none => false
  | some q =>
    let r := beNat (sig.take 32)
    let s := beNat (slice sig 32 32)
    if sig.length ≠ 64 ∨ r = 0 ∨ r ≥ p256n ∨ s = 0 ∨ s ≥ p256n then false
    else
      let w := invMod p256n s
      match ecAdd (ecMul (beNat digest * w % p256n) (some p256g)) (ecMul (r * w % p256n) (some q)) with
      | none => false
      | some (x, _) => x % p256n == r

/-- The x-coordinate of ECDH as 32 bytes; none when the peer's point is not on the curve. -/
def ecdhX (d : Nat) (peer : Bytes) : Option Bytes :=
  match pointOf peer with
  | none => none
  | some q => (ecMul d (some q)).map fun r => be 32 r.1

end Sys2Proof.Machine
end

