-- ==== Sys2Proof/Machine/BootCert.lean ====
section
/-! DEFINITION. What Irvenstol writes to BOOT beside the firmware: anchor 5 and the chain of certificates that covers the attestation key (R261, R264, R265, R287), as X.509 v3
certificates of RFC 5280 in DER. Where they lie in BOOT is not stated (log 181). -/
namespace Sys2Proof.Machine

/-- DEVICE_UID as 8 bytes, least significant first (R264). -/
def uidBytes : Bytes := le 8 Config.deviceUid.toNat

/-- The attestation scalar from its 320 derived bits (R264). -/
def attScalar (c : Bytes) : Nat := beNat c % (p256n - 1) + 1

/-! ### DER -/

/-- Length octets. -/
def derLen (n : Nat) : Bytes := if n < 128 then [byte n] else if n < 256 then [0x81, byte n] else [0x82, byte (n / 256), byte n]

/-- A value under its tag. -/
def der (tag : Byte) (b : Bytes) : Bytes := tag :: (derLen b.length ++ b)

/-- An unsigned INTEGER from its big-endian bytes. -/
def derInt (b : Bytes) : Bytes :=
  let v := b.dropWhile (· == 0)
  der 0x02 (if (v.headD 0).msb || v.isEmpty then 0 :: v else v)

/-- The algorithm ecdsa-with-SHA256. -/
def derEcdsa : Bytes := der 0x30 ([0x06, 0x08, 0x2A, 0x86, 0x48, 0xCE, 0x3D, 0x04, 0x03, 0x02])

/-- A public key on P-256 as SubjectPublicKeyInfo, from X ‖ Y. -/
def derKey (pub : Bytes) : Bytes :=
  der 0x30 (der 0x30 [0x06, 0x07, 0x2A, 0x86, 0x48, 0xCE, 0x3D, 0x02, 0x01, 0x06, 0x08, 0x2A, 0x86, 0x48, 0xCE, 0x3D, 0x03, 0x01, 0x07] ++
    der 0x03 ([0x00, 0x04] ++ pub))

/-- An upper-case hex digit as its ASCII byte. -/
def hexDigit (n : Nat) : Byte := byte (if n < 10 then 0x30 + n else 0x37 + n)

/-- A number of 64 bits in 16 upper-case hex digits. -/
def hex16 (v : Nat) : Bytes := (List.range 16).map fun i => hexDigit (v / 16 ^ (15 - i) % 16)

/-- A subject with a serial number, an attribute 2.5.4.5 as PrintableString, before its other attributes. -/
def derSubject (serial others : Bytes) : Bytes := der 0x30 (der 0x31 (der 0x30 ([0x06, 0x03, 0x55, 0x04, 0x05] ++ der 0x13 serial)) ++ others)

/-! ### The chain (R287) -/

/-- The signed part of a certificate; `i` is its number among Config's open fields: 0 the device certificate, 1 the production intermediate certificate. -/
def tbsOf (i : Nat) (subject pub : Bytes) : Bytes :=
  der 0x30 (der 0xA0 (derInt [0x02]) ++ derInt ((Config.certSerial i).take 16) ++ derEcdsa ++ (Config.certIssuer i).take 128 ++ (Config.certValidity i).take 32 ++
    subject ++ derKey pub ++ (Config.certExtensions i).take 96)

/-- A certificate signed with ECDSA P-256 and SHA-256 under a scalar. -/
def x509 (i d : Nat) (tbs : Bytes) : Bytes :=
  let sig := ecdsaSign d (Config.certNumber i) (sha256 tbs)
  der 0x30 (tbs ++ derEcdsa ++ der 0x03 (0x00 :: der 0x30 (derInt (sig.take 32) ++ derInt (sig.drop 32))))

/-- The attestation scalar of the root that left Irvenstol in set 0 (R260, R261, R264): the device certificate covers its public key. -/
def factoryAttD : Nat := attScalar (kdf (be 32 (Config.otpShare0 ^^^ Config.otpShare1)) (ascii "OZS-ATT") uidBytes 320)

/-- The device certificate (R287): its subject's serial number is DEVICE_UID in hex, its key the attestation public key; the intermediate's key signs it. -/
def deviceCert : Bytes := x509 0 Config.intermediateD (tbsOf 0 (derSubject (hex16 Config.deviceUid.toNat) ((Config.certSubject 0).take 64)) (pubOf factoryAttD))

/-- The production intermediate certificate (R287), signed by Irvenstol's published attestation root. -/
def intermediateCert : Bytes := x509 1 Config.attestRootD (tbsOf 1 ((Config.certSubject 1).take 128) (pubOf Config.intermediateD))

/-- The 72 bytes of anchor 5, the Irvenstol service root (R265). -/
def anchor5Bytes : Bytes := le 4 Config.serviceKeyId.toNat ++ [0x01, 0, 0, 0] ++ fit 64 Config.serviceRoot

/-- A byte of BOOT as Irvenstol wrote it: of the device certificate, the intermediate certificate or anchor 5 where they lie, of the firmware elsewhere. -/
def bootDefault (a : Nat) : Byte :=
  let within := fun (lo : Nat) (b : Bytes) => if lo ≤ a then b[a - lo]? else none
  (((within (Config.deviceCertAt % 0x23000) deviceCert).or (within (Config.intermediateCertAt % 0x23000) intermediateCert)).or
    (within (Config.anchor5At % 0x23000) anchor5Bytes)).getD (Config.bootByte a)

end Sys2Proof.Machine
end

