-- ==== Sys2Proof/Machine/State.lean ====
section
/-! DEFINITION. The state of the OZS-7720 as plain data, the reasons a step can stop, and the state after reset. Each part of
the state names the chapter and rules that give it. -/
namespace Sys2Proof.Machine

/-- Why a command stops the model. -/
inductive Fault where
  /-- The part stands outside its absolute maximum ratings, where the manual gives only damage (R584). No command of the table says
  so, and no meaning raises it. Safe: nothing is claimed of a machine that stopped. -/
  | beyondRatings
  deriving DecidableEq, Repr

/-- Why a command is refused. -/
inductive Refusal where
  /-- The command has no meaning in this model yet. Raised by the dispatch alone. Safe: nothing is claimed of it. -/
  | notModelled (mnemonic : String)
  deriving DecidableEq, Repr

/-- A lane of an LF drive: its channel, the delay of its carrier in 1/64 of a cycle and its amplitude in 1/32 of the table current (R100, R102, R127). -/
structure Lane where
  ch    : Nat
  phase : Nat
  amp   : Nat
  deriving DecidableEq, Repr

/-- What a transmission is sent with: the synthesiser's code in steps of 24 MHz / 2^24, the preset or PHY, the power index, its PA code, the sub-band's correction
in units of 0.25 dB (R134, R136, R147, R152). -/
structure AirTx where
  code   : Nat
  preset : Nat
  index  : Nat
  pa     : Nat
  corr   : Int
  deriving DecidableEq, Repr

/-- What the device drove outward during the last command, for the world outside to see. -/
inductive Emission where
  | uartTx (bytes : Bytes)
  | debugTx (bytes : Bytes)
  /-- One symbol part on the LF aerials: carrier on these lanes, each with its phase and amplitude, or no carrier with no lane, for a time in 96 MHz cycles
  (R100, R106). -/
  | lfDrive (lanes : List Lane) (ticks : Nat)
  /-- A frame on air with what it is sent with (R148, R152). -/
  | radioTx (bandH : Bool) (air : AirTx) (frame : Bytes)
  /-- An unmodulated carrier of a calibration: band, frequency in Hz, power index, time in µs (R155, R156). -/
  | radioCw (bandH : Bool) (freq index us : Nat)
  /-- A ranging procedure: 0 rapid bit exchange, 1 MCP, 2 Channel Sounding; its opening PDU and the frequencies it uses, in kHz (R175, R181, R187). -/
  | rngStart (kind : Nat) (pdu : Bytes) (freqs : List Nat)
  /-- A response of the block in responder mode: the acknowledgement, the response bits, the confirmation, the frequency in kHz (R175, R180). -/
  | rngRespond (ack responses confirm : Bytes) (freq : Nat)
  | leSend (record : Nat) (data : Bytes)
  | canTx (controller : Nat) (id : Nat) (xid : Bool) (data : Bytes)
  | plcTx (mid : Nat) (data : Bytes)
  | linTx (pid : Byte) (data : Bytes)
  | coupling (unit : Nat) (pdu : Bytes)
  | isoData (lining : Bool) (wheel : Byte) (v1 v2 alert : Nat)
  | hirqPulse
  deriving DecidableEq, Repr

/-! ### Host link (chapter 10) -/

/-- An output packet waiting on a version 2 port: a reply or an event (R333, R334, R352). -/
structure OutPkt where
  verFlags : Byte
  code     : Byte
  status   : Byte
  tag      : Half
  payload  : Bytes
  /-- The packet stands in the 384-byte reserve for refusals (R346). -/
  reserve  : Bool
  /-- The slot of the command it answers; none for an event. -/
  slot     : Option Nat
  deriving DecidableEq, Repr

/-- Where a reply that comes later goes: slot, port, and the header fields it repeats (R337). -/
structure ReplyTo where
  slot   : Nat
  port   : VPort
  opcode : Byte
  tag    : Half
  flags  : Byte
  deriving DecidableEq, Repr

/-- A command taken on a port whose reply has not gone to the output queue: where its reply goes, the room kept for it, and the
reply once it is known. A command without its reply occupies an input buffer (R337, R346). -/
structure OpenSlot where
  ret  : ReplyTo
  room : Nat
  pkt  : Option OutPkt
  deriving DecidableEq, Repr

/-- One version 2 port: its output queue, oldest first, the last consumed packet, and the commands taken and not yet
answered, in the order in which they completed check 4 (R337, R341, R346). -/
structure PortState where
  outq : List OutPkt
  last : Option OutPkt
  opn  : List OpenSlot
  deriving DecidableEq, Repr

/-- A packet held in the Dawn queue or in an input buffer in Dusk (R355, R554). -/
structure HeldPacket where
  opcode : Byte
  packet : Packet
  ret     : ReplyTo
  deriving DecidableEq, Repr

/-- The host link: ports, dropped events, the Dawn queue, version 1 and the values that wait for a reply
(R342–R346, R355, R359–R364). -/
structure HostLink where
  hcs0      : PortState
  uart      : PortState
  /-- The bytes driven on HMISO in the last SPI transaction (R341, R359). -/
  miso      : Bytes
  /-- HIRQ_N level; true is high (R347). -/
  hirq      : Bool
  /-- The HIF answers: t0 + 1.6 ms has passed (R354). -/
  answers   : Bool
  /-- E0 is restarting after a hang (R41, R342). -/
  e0Restart : Bool
  /-- Dropped events since the last EVT_LOST: count and first code (R346, R353). -/
  lostHcs0  : Nat × Byte
  lostUart  : Nat × Byte
  dawnq     : List HeldPacket
  /-- Packets held in the input buffers until Dusk has ended (R554). -/
  held      : List HeldPacket
  /-- Number of the next reply slot. -/
  nextSlot  : Nat
  /-- The version 1 reply that the next transaction delivers: status, opcode echo, D0–D9 (R359, R360). -/
  v1Reply   : Option Bytes
  /-- The version 1 command that waits on an object of version 2 work or for Noon (R38, R361, R554): opcode and P0–P10. -/
  v1Wait    : Option Bytes
  /-- The version 1 command whose reply follows an event: a poll or a test telegram (R360, R400). -/
  v1Busy    : Option Byte
  /-- HIF_CFG, HIF_V1_CFG and HIF_UART_CFG values written by a command: address, value, and the slot of the reply after
  whose consumption they take effect (R343, R364). -/
  cfgPend   : List (Nat × Word × Option Nat)
  /-- A RESET, POWER or SOFT_RESET request and the slot of its reply; none once the reply has been consumed or sent (R377,
  R378, R400). -/
  afterReply : Option (AfterReply × Option Nat)
  deriving DecidableEq, Repr

/-! ### Journal (R317–R322) -/

/-- STATE of a journal record (R318); FREE is absence from the list. -/
inductive WorkState where
  | accepted | running | done
  deriving DecidableEq, Repr

/-- A host journal record with its payload area, or untagged work in SRAM (R318, R351). -/
structure Work where
  seq      : Nat
  tag      : Half
  opcode   : Byte
  options  : Byte
  flags    : Byte
  src      : VPort
  pktCrc   : Word
  payload  : Bytes
  area     : Nat
  /-- Its host record, 0–31 (R317). -/
  recNo    : Nat := 0
  state    : WorkState
  step     : Nat
  pct      : Nat
  status   : Byte
  /-- STEP_DATA: values fixed at acceptance or at a boundary (R318). -/
  stepData : Bytes
  result   : Bytes
  /-- The role of the credential verified at acceptance (R371). -/
  cred     : Option CredRole
  /-- What the running step has found so far: the status and the result it will end with. -/
  ready    : Option (Byte × Bytes)
  /-- The step was interrupted by a reset or a hung engine and waits to run again from its start (R32, R41). -/
  parked   : Bool
  /-- The COMPLETE event of a DONE record has not been consumed yet (R346). -/
  completeDue : Bool
  deriving DecidableEq, Repr

/-- An entry of the completed-result ring (R318, R320): the completion number and the record's first 32 bytes and
result. -/
structure RingEntry where
  num      : Nat
  seq      : Nat
  tag      : Half
  opcode   : Byte
  options  : Byte
  flags    : Byte
  plen     : Nat
  pktCrc   : Word
  status   : Byte
  result   : Bytes
  deriving DecidableEq, Repr

/-- A command whose acceptance commit is in flight (R319, R34). -/
structure Accepting where
  work  : Work
  ret    : ReplyTo
  /-- Identical resends that wait for the same answer (R34). -/
  twins : List ReplyTo
  deriving DecidableEq, Repr

/-- One physical copy of a page: its GEN and whether its CRC checks (R301, R303); `stale` is what it holds where that is older than what the page reads as, after a commit
that was cut between its two copies. -/
structure CopyMeta where
  gen : Word
  ok  : Bool
  stale : Option Bytes := none
  deriving DecidableEq, Repr

/-- The two copies of a unit that are not both valid with GEN 0, and the copy a DEGRADED one has lost (R301–R303). `page` is the logical page, or the number of a
journal record, ring entry or CONFIG item among its own kind. -/
structure PageMeta where
  page : Nat
  c0   : CopyMeta
  c1   : CopyMeta
  degraded : Option Bool
  deriving DecidableEq, Repr

/-- The journal: records, works in SRAM, acceptances in flight, ring, numbers (R317–R322). -/
structure Journal where
  /-- JRN_EN in force, and the CONFIG item that the next Dawn loads (R322). -/
  enabled   : Bool
  enabledCfg : Bool
  recovered : Bool
  works     : List Work
  /-- Untagged journaled commands, at most 4 (R351). -/
  loose     : List Work
  accepting : List Accepting
  ring      : List RingEntry
  nextSeq   : Nat
  nextNum   : Nat
  /-- Internal records in use: couplings 1–3, auto-location, Curfew, learn window (R317). -/
  internal  : List Nat
  /-- The two copies of each record and ring entry: host record r by r, the ring entry at position e by 32 + e, internal record i by 96 + i (R317). -/
  copies    : List PageMeta
  deriving DecidableEq, Repr

/-! ### FeRAM (chapter 9) -/

/-- A slot of a monotonic counter: its value and whether its CRC checks (R309, R310). -/
structure CounterSlot where
  value : Nat
  ok    : Bool
  deriving DecidableEq, Repr

/-- A counter with its slots A and B (R309). -/
structure Counter where
  index : Nat
  a : CounterSlot
  b : CounterSlot
  deriving DecidableEq, Repr

/-- What a page commit in flight is for (R301, R319). -/
inductive CommitKind where
  /-- Joint acceptance commit of the oldest `n` journal records being accepted, at most 4 (R319). -/
  | acceptance (n : Nat)
  /-- One page of a FeRAM write of the accepted work with this SEQ (R305). -/
  | workPage (seq : Nat)
  /-- One page of an untagged write, by its position in the list of such work (R351). -/
  | loosePage (seq : Nat)
  /-- A version 1 EE_WRITE page; the reply follows (R362). -/
  | legacy
  /-- A page written for the OEM service of R412. -/
  | oem (engine : Nat)
  deriving DecidableEq, Repr

/-- A page commit in flight: what it is for, the logical address of its first byte and its bytes (R301, R302). `raw` says that the bytes are those that the copies take, as a page of
an ENC region had them made before its storage key was zeroised (R316). -/
structure Commit where
  kind : CommitKind
  addr : Nat
  data : Bytes
  raw  : Bool := false
  deriving DecidableEq, Repr

/-- One entry of the USER region table with its password verifier (R313, R314, R332). -/
structure Region where
  start : Nat
  pages : Nat
  rpw   : Bool
  wpw   : Bool
  enc   : Bool
  image : Bool
  /-- The verifier of the region's password; none before one is set. -/
  verifier : Option Quad
  runlk : Bool
  wunlk : Bool
  deriving DecidableEq, Repr

/-- The FeRAM outside the structured items: bytes of BOOT and USER pages, page metadata, counters, commits in flight,
regions and the password lockout (R298–R316). -/
structure Feram where
  /-- Bytes of the logical space that no structured item holds, in canonical form (BOOT, USER). -/
  mem      : List Host.Cell
  pages    : List PageMeta
  counters : List Counter
  /-- A counter increment being written: its index (R310). -/
  incr     : Option Nat
  commits  : List Commit
  /-- The first commit of the queue has not begun: an immediate read may run between two commits of a write (R305). -/
  gap      : Bool
  /-- The copies of the CONFIG items, by item (R299, R301). -/
  config   : List PageMeta
  /-- How the next commits that E8 makes by itself within this command read back; both copies at once where the list ends (R302). -/
  reads    : List ReadBack
  regions  : List Region
  /-- BASE of R315. -/
  pwBase   : Nat
  /-- CLK_US ticks since the last unlock attempt or since Dawn, at most 60 s (R315). -/
  pwSince  : Nat
  /-- Page the patrol visits next (R304). -/
  patrol   : Nat
  /-- The page of the next SCAN visit, when a round started by SCAN runs (R328). -/
  scan     : Option Nat
  /-- GEN of the last Sundown save, and what each SHADOW page holds: its GEN, none where no copy is valid (R324, R325). -/
  shadowGen : Word
  shadow   : List (Option Word)
  /-- The saved image: sensor runtime, decision ring, token times, system page, OEM durable areas, as bytes of pages 0–15 (R323). -/
  image    : List Host.Cell
  deriving DecidableEq, Repr
/-! ### Key store (chapter 8) -/

/-- State of the key store (R294). -/
inductive KsState where
  | closed | opening | open | lockdown | tamperHold | rootFail
  deriving DecidableEq, Repr

/-- State of the root (R295). -/
inductive RootState where
  | blank | committed | failed | eccFail
  deriving DecidableEq, Repr

/-- One root set of the anti-fuse OTP: its shares S0 and S1, whether any bit is programmed, COMMIT and VOID (R260). -/
structure RootSet where
  s0 : Nat
  s1 : Nat
  programmed : Bool
  commit : Bool
  void   : Bool
  /-- The next load finds an uncorrectable error in a share, or corrects a single-bit error (R263, R295). -/
  eccBad : Bool
  eccCorr : Bool
  deriving DecidableEq, Repr

/-- The clear header of a blob: 32 bytes (R269). -/
structure BlobHeader where
  magic    : Nat
  version  : Nat
  ktype    : Nat
  usage    : Nat
  attr     : Nat
  epochIdx : Nat
  epochVal : Nat
  keyId    : Nat
  owner    : Nat
  deriving DecidableEq, Repr

/-- A half of a blob-store handle: the blob's bytes (header and WRAP), or none when free; `readable` is false when the
page has no valid copy (R276, R277). -/
structure BlobHalf where
  blob     : Bytes
  readable : Bool
  deriving DecidableEq, Repr

/-- A handle with its halves A and B; absent handles have both halves free (R276). -/
structure Handle where
  index : Nat
  a : BlobHalf
  b : BlobHalf
  deriving DecidableEq, Repr

/-- An occupied key slot: the header it came with, the member's own type and usage, its key material, and the
operation bookkeeping of R280, R292 and R297. -/
structure Slot where
  index   : Nat
  header  : BlobHeader
  ktype   : Nat
  usage   : Nat
  key     : Bytes
  /-- The blob-store handle it was loaded from. -/
  handle  : Option Nat
  busy    : Bool
  /-- An unload or eviction waits for the end of the operation (R292). -/
  dropDue : Bool
  /-- Order of last use (R280). -/
  used    : Nat
  deriving DecidableEq, Repr

/-- A trust anchor of 72 bytes (R265). -/
structure Anchor where
  index : Nat
  keyId : Word
  valid : Bool
  pub   : Bytes
  deriving DecidableEq, Repr

/-- The import session of R274. -/
structure ImportSession where
  d : Nat
  x : Bytes
  y : Bytes
  challenge : Bytes
  deriving DecidableEq, Repr

/-- The key store (R259–R297). -/
structure KeyStore where
  state     : KsState
  root      : RootState
  sets      : List RootSet
  /-- CORR of KST_ROOT: the last load corrected a single-bit error. -/
  corr      : Bool
  /-- The share registers are loaded: the mask Q of R263 and the masked shares; none when zeroised. -/
  shares    : Option (Nat × Nat)
  /-- KWK, storage key and attestation scalar of R264; none when zeroised. -/
  kwk       : Option Bytes
  storage   : Option Bytes
  attD      : Option Nat
  /-- The test root is in use, the debug fuse, the unlock in CONFIG, a change that the next Dawn applies (R288). -/
  testRoot  : Bool
  fuse      : Bool
  unlock    : Bool
  unlockNext : Bool
  slots     : List Slot
  useClock  : Nat
  handles   : List Handle
  anchors   : List Anchor
  timeFloor : Word
  /-- Outstanding AUTH_NONCE values, oldest first (R267). -/
  nonces    : List Bytes
  session   : Option ImportSession
  /-- A tamper hold has ever been cleared (R286). -/
  tamperHistory : Bool
  /-- Set by KST_CTRL.CLOSE: the key store stays closed until the next Dawn (R296). -/
  closedByCtrl : Bool
  deriving DecidableEq, Repr

/-! ### Access (chapter 2) -/

/-- A token record in KEYS that is not FREE (R72), with its last-seen time and zone (R323). -/
structure TokenRec where
  index   : Nat
  state   : TokState
  cls     : TokClass
  bandH   : Bool
  tokenId : Quad
  keyHandle : Word
  expiry  : Word
  enrolNum : Half
  revokeEpoch : Half
  lastSeen : Word
  lastZone : Byte
  deriving DecidableEq, Repr

/-- A trigger of a decision, waiting or running (R44, R25). -/
structure Trigger where
  kind   : TrigKind
  sought : Sought
  /-- The door of a wake pin or LIN handle (R55). -/
  door   : Option Nat
  /-- CLK_US at the trigger. -/
  t0     : Word
  /-- The accepted work that asked for it or was merged into it: tagged work by its SEQ, untagged work by its number in SRAM. -/
  works  : List (Option Nat × Option Nat)
  /-- A version 1 T2_POLL asked for it. -/
  v1     : Bool
  /-- What a driver grant names (R71). -/
  grant  : Option DriverGrantData
  deriving DecidableEq, Repr

/-- Where a running decision stands (R49): its windows and phones awaited, MCP, the rapid bit exchange. -/
inductive DecPhase where
  | poll | ranging | rbe
  deriving DecidableEq, Repr

/-- A slot to be re-polled: slot number, round, and the tokens that already verified in it (R60, R61). -/
structure RepollItem where
  slot  : Nat
  round : Nat
  known : List Quad
  deriving DecidableEq, Repr

/-- A verified token of a running decision with its evidence (R67, R68, R190–R195). -/
structure Candidate where
  record : Nat
  cls    : TokClass
  bandH  : Bool
  tokenId : Quad
  /-- The LFV of a T3 reply, or the peak RSSI of a T2 reply. -/
  lfv    : Bytes
  expired : Bool
  suspended : Bool
  /-- Zone from the LF field alone (R57, R193); none when nothing was measured. -/
  lfZone : Option Zone
  fit    : Option LfvFit
  /-- The LE RSSI of a phone places it in Z2 or closer (R67). -/
  leNear : Bool
  /-- MCP or PBR distance, and that the MCP report failed its MAC (R184, R186, R188). -/
  mcpCm  : Option Nat
  mcpBad : Bool
  mcpDone : Bool
  /-- RBE bound or RTT distance, and RES of the exchange (R179, R188). -/
  rbeCm  : Option Nat
  rbeRes : Nat
  rbeDone : Bool
  /-- The fused zone and its ZX cause (R195). -/
  zone   : Option Zone
  zxCause : Nat
  deriving DecidableEq, Repr

/-- The running access decision (R44–R69). -/
structure Decision where
  trig    : Trigger
  num     : Word
  phase   : DecPhase
  nonce   : Word
  t2Nonce : Word
  phNonce : Quad
  /-- Aerials measured, those of them whose slot is synthesised, the T2 aerial set (R55, R103). -/
  aerials : List Nat
  synth   : List Nat
  t2Set   : Byte
  /-- LF could not be used although AER_MASK asks for it (R98). -/
  lfOut   : Bool
  /-- The telegram of the poll or of the re-poll has not begun: its windows are armed when it does (R49, R60). -/
  lfDue   : Bool
  /-- Receivers whose window is awaited: T3 windows, and the T2 window, which opens at `t2At` of CLK_TS (R49). -/
  t3Wins  : List Nat
  t2Win   : Option Nat
  t2Due   : Bool
  t2At    : Word
  t2Run   : Bool
  phRun   : Bool
  /-- Phones that have not answered, with the connection events they have left (R58), and phones whose Channel Sounding runs. -/
  phones  : List (Nat × Nat)
  csPend  : List Nat
  /-- The window being collected: slots found collided, slots with tokens that verified (R59, R60). -/
  collided : List Nat
  heard   : List (Nat × Quad)
  todo    : List RepollItem
  /-- The slot being re-polled with N1, N2 and SPLIT (R60). -/
  repoll  : Option (RepollItem × Half × Half × Nat)
  /-- Re-poll rounds run (R86). -/
  rounds  : Nat
  unresolved : Bool
  foreign : Nat
  anyReply : Bool
  expiredSeen : Bool
  cands   : List Candidate
  /-- Records whose MCP has not begun, and the record whose exchange is set up. -/
  mcpTodo : List Nat
  rbeUsed : Nat
  deriving DecidableEq, Repr

/-- A decision record of 24 bytes (R86). -/
structure DecRecord where
  num     : Word
  trigger : Byte
  outcome : Byte
  reason  : Byte
  record  : Byte
  cls     : Byte
  zone    : Byte
  rbeCm   : Half
  mcpCm   : Half
  foreign : Byte
  repoll  : Byte
  t0      : Word
  duration : Half
  flags   : Byte
  deriving DecidableEq, Repr

/-- A standing release and the generator's pins and readbacks (R24, R78–R82, R92). -/
structure Release where
  active   : Bool
  outcome  : Sought
  record   : Byte
  tokenId  : Quad
  /-- DEC_NUM of the decision of the newest grant; a DRIVER_GRANT went out in this release (R220). -/
  decNum   : Word
  told     : Bool
  /-- CLK_US at the newest grant, and its DURATION_S (R80). -/
  grantAt  : Word
  durS     : Nat
  /-- The level SLO_A is driven to now, SLO_B being its complement, while a release stands; levels at the last readback (R78, R92). -/
  driven   : Bool
  rbA      : Bool
  rbB      : Bool
  /-- Consecutive tracks outside Z0 and without a reply (R81). -/
  failTracks : Nat
  silentTracks : Nat
  /-- Track periods without a repeated grant (R221). -/
  missedGrants : Nat
  /-- Readback mismatches of the last two readbacks per kind: SLO_A, SLO_B, pair (R82). -/
  rbHist   : List (Bool × Bool × Bool)
  idleBad  : Nat
  periodBad : Nat
  endCause : Byte
  /-- The track in progress: its nonce, the receiver whose window is awaited, none for Channel Sounding and before the window is armed; whether the token
  answered (R81). -/
  track    : Option (Word × Option Nat × Bool)
  deriving DecidableEq, Repr

/-- An enrolment in progress (R74, R75, R619). -/
structure Enrol where
  work    : Option Nat
  loose   : Option Nat
  step    : Nat
  record  : Nat
  tokenId : Quad
  cls     : TokClass
  bandH   : Bool
  /-- The nonce of the confirming challenge for T3 and T2, and for a phone; the receiver whose window is awaited. -/
  nonce   : Word
  phNonce : Quad
  rx      : Option Nat
  /-- The learn message of step 3 has gone out, or the new token has answered its challenge in step 4. -/
  confirmed : Bool
  deriving DecidableEq, Repr

/-- The access logic (chapter 2). -/
structure Access where
  tokens   : List TokenRec
  denylist : List Quad
  decision : Option Decision
  triggers : List Trigger
  /-- DECIDE commands that wait outside the full queue (R25). -/
  waiting  : List Trigger
  dropped  : Nat
  decNum   : Word
  ring     : List DecRecord
  curfew   : Bool
  /-- SYS_RTC at the end of Curfew and the DURATION_S journaled with it (R63). -/
  curfewEnd : Word
  curfewDur : Nat
  /-- RTC instants, in ticks of 1/32768 s, of the foreign replies in the sliding window. -/
  foreignAt : List Nat
  release  : Release
  enrol    : Option Enrol
  /-- LIFETIME limit of CONFIG (R76), ACC_CTRL of CONFIG (R93), SLO_FAULT and RB_FAULT of CONFIG (R82), profiles. -/
  enrolLimit : Nat
  sloFault : Bool
  rbFault  : Bool
  /-- A T2_POLL reply is owed to version 1 for the running or queued decision. -/
  v1Poll   : Bool
  deriving DecidableEq, Repr
/-! ### LF field system (chapter 3) -/

/-- The paired set of aerial mask and current table (R118). -/
structure LfPair where
  mask : Byte
  cur  : List Nat
  deriving DecidableEq, Repr

/-- A part of an entry between two symbol boundaries (R106, R107, R110): carrier or none on the lanes in effect, a part of a slice of a wake burst, a half-bit of the
sync byte. `first` marks the first part of a slice or of the sync. -/
inductive LfSym where
  | part (carrier : Bool) (ticks : Nat)
  | slice (group : List Nat) (first : Bool) (ticks : Nat)
  | sync (combo : Nat) (first carrier : Bool) (ticks : Nat)
  deriving DecidableEq, Repr

/-- Whose reply windows follow a telegram that E1 builds (R49, R60, R81, R619). -/
inductive PlanOwner where
  | decision | repoll | track | enrol
  deriving DecidableEq, Repr

/-- The windows to arm when a telegram begins: T3 windows on Band L and Band H and the T2 window, with their opening in µs from the first bridge edge, and the
nonce whose channel Band H uses (R49, R138). -/
structure WinPlan where
  owner : PlanOwner
  bandL : Bool
  bandH : Bool
  t3Us  : Nat
  t2Us  : Option Nat
  nonce : Word
  deriving DecidableEq, Repr

/-- The telegram in progress (R102–R110, R114). -/
structure Telegram where
  nco      : Word
  estimate : Nat
  /-- Charged so far, in pJ. -/
  charged  : Nat
  /-- WIN_LIMIT + 95 mJ with the LIMIT at the grant, in pJ (R114). -/
  ceiling  : Nat
  /-- The lanes of the DRIVE in effect, as latched when it executed (R102, R119), and those of the running slice or sync. -/
  lanes    : List Lane
  wake     : List Lane
  driven   : Bool
  /-- What is left of the entry that plays, in parts between symbol boundaries (R110). -/
  rest     : List LfSym
  /-- The open and detune checks of the drive in effect have been made (R115). -/
  checked  : Bool
  /-- Air time so far in 96 MHz cycles, and the LFX_EVENTS bits raised since the start (R388). -/
  ticks    : Nat
  events   : Nat
  excluded : Byte
  /-- The early end asked for: it takes place at the next symbol boundary (R110). -/
  endDue   : Bool
  deriving DecidableEq, Repr

/-- An energy request: class, estimate in µJ, CLK_US at which it was first made, LIMIT at its grant, and the entries that E1 loads when it is granted
(R113, R114). -/
structure EnergyReq where
  cls : Nat
  estimate : Nat
  due : Word
  limit : Nat
  words : List Word
  plan  : Option WinPlan
  /-- The open channel whose retest pulse it is for (R116). -/
  retest : Option Nat
  deriving DecidableEq, Repr

/-- A host test telegram that accepted or version 1 work waits for (R109, R388). -/
structure LfTestJob where
  work  : Option Nat
  loose : Option Nat
  entries : List Word
  /-- The learn telegram of an enrolment (R74). -/
  learn   : Bool
  started : Bool
  /-- Once the telegram has ended: ended early, energy in pJ, air time in 96 MHz cycles, LFX_EVENTS bits. -/
  result  : Option (Bool × Nat × Nat × Nat)
  deriving DecidableEq, Repr

/-- The LFX block beside its registers (R95–R127). -/
structure LfField where
  live     : LfPair
  staged   : Option LfPair
  fifo     : List Word
  telegram : Option Telegram
  /-- Consecutive drives found open and detuned, per channel (R115). -/
  openRun  : List Nat
  detuneRun : List Nat
  excluded : Byte
  /-- A retest of the channel after an open is asked for (R116). -/
  retest   : Byte
  /-- A retest of the channel after a short is asked for (R116). -/
  shortRetest : Byte
  /-- Energy charged to each channel beyond whole µJ, in pJ (R120). -/
  frac     : List Nat
  vlfLow   : Bool
  vlfHigh  : Bool
  tamperBlk : Bool
  reduced  : Bool
  /-- Charge of the present bin and of the 99 completed bins before it, newest first, in pJ (R111). -/
  bin      : Nat
  bins     : List Nat
  /-- Reserved estimates, in pJ (R113). -/
  reserved : Nat
  grant    : Option EnergyReq
  deferred : List EnergyReq
  /-- Telegrams of E1 that wait until the LF block has neither a telegram nor a grant, before their first request. -/
  waiting  : List EnergyReq
  defer    : Bool
  /-- Estimated ambient + 40 °C and core power in mW as last measured (R112). -/
  tamb     : Nat
  pcore    : Nat
  /-- An ISOFS calibration asked for waits for the telegram's end (R117). -/
  isofsDue : Bool
  /-- Host replies owed when the calibration has run: LF_OFFSET_CAL commands in order. -/
  isofsReply : List ReplyTo
  tests    : List LfTestJob
  deriving DecidableEq, Repr

/-! ### Radio chains (chapter 4) -/

/-- State of a chain (R143). -/
inductive ChainState where
  | off | sleep | idle | cal | rx | tx | duplex
  deriving DecidableEq, Repr

/-- A synthesiser's live and staged channel and IF (R146). -/
structure Synth where
  freq   : Word
  ifSel  : Word
  staged : Option (Word × Word)
  failed : Bool
  deriving DecidableEq, Repr

/-- A receiver: frame in progress, changes that wait for its end, slot window contents (R129, R135, R141, R142). -/
structure Receiver where
  frame    : Bool
  /-- RSSI as it reads now (R137, R162). -/
  level    : Byte
  cfgLive  : Word
  winOpen  : Bool
  /-- Slots closed with: number of valid frames, collision evidence, per slot. -/
  slots    : List (Nat × Bool)
  /-- The window's opening instant fell in a calibration: it opens at its end (R161). -/
  winHeld  : Bool
  recalPend : Bool
  deriving DecidableEq, Repr

/-- One band: transmit buffer, descriptor order, sending descriptor, mismatch run (R148–R155). -/
structure Band where
  buf      : Bytes
  order    : List Nat
  sending  : Option Nat
  /-- A frame with a valid CRC has ended last on the transmitter's chain: the instant of a TURN (R148). -/
  turn     : Bool
  deriving DecidableEq, Repr

/-- A RADIO_TX whose reply follows the end of its descriptor (R388). -/
structure RadioJob where
  bandH : Bool
  desc  : Nat
  ret    : ReplyTo
  /-- CLK_TS of its first preamble bit; all ones before it is sent. -/
  ts    : Word
  deriving DecidableEq, Repr

/-- What a calibration covers: steps 2–9 of R156, those of Band H, or one receiver after a drift (R157, R158, R170). -/
inductive CalKind where
  | full | bandH | rx (r : Nat)
  deriving DecidableEq, Repr

/-- A calibration that runs: what it covers, what it measures and the time it has left in µs (R156–R158). -/
structure CalRun where
  kind : CalKind
  meas : CalMeas
  left : Nat
  deriving DecidableEq, Repr

/-- Both radios beside their registers (R128–R170). -/
structure Radio where
  l1       : ChainState
  l2       : ChainState
  hTx      : ChainState
  hRx      : ChainState
  syn1     : Synth
  syn2     : Synth
  txlo     : Synth
  rxlo     : Synth
  rxA      : Receiver
  rxB      : Receiver
  rxH      : Receiver
  bandL    : Band
  bandH    : Band
  isoLow   : Bool
  cal      : Option CalRun
  /-- Calibrations asked for that wait for a gap, with what they will measure (R157, R170). -/
  calDue   : List (CalKind × CalMeas)
  /-- The RADIO_CAL that asked: tagged, number. -/
  calFor   : Option (Bool × Nat)
  mismatchRun : Nat
  sweepDue : Option Nat
  sniff    : Bool
  /-- The frame held by a sniff (R160). -/
  held     : Bytes
  jobs     : List RadioJob
  deriving DecidableEq, Repr

/-! ### Ranging (chapter 5) -/

/-- The RBE exchange in progress (R174, R175, R179, R180). -/
structure RbeRun where
  /-- The token record, or the coupling unit of a partner exchange. -/
  record   : Option Nat
  unit     : Option Nat
  nonceR   : Quad
  started  : Bool
  retried  : Bool
  deriving DecidableEq, Repr

/-- Ranging beside its registers (R171–R205). -/
structure Ranging where
  /-- R_0 and R_1, loaded by RNG_RBE_KEYLD (R174). -/
  resp     : Option (Quad × Quad)
  rbe      : Option RbeRun
  /-- The partner NONCE_R armed in responder mode (R180). -/
  armed    : Option Quad
  mcp      : Option Nat
  mcpNonce : Quad
  /-- The Band L steps of the event run: they wait while a reply window is open on RX-B (R186). -/
  mcpL     : Bool
  /-- Capture slots that were usable when the event began (R198). -/
  mcpSlots : Nat
  /-- Timestamps of the tone starts of the last event: of MCP Band H then Band L, of Channel Sounding in their order (R172, R182). -/
  tones    : List Word
  cs       : Option Nat
  /-- Per-bit log: transmitted and received timestamps (R199). -/
  log      : List (Word × Word)
  /-- Usable capture slots: 8 or 4 (R183). -/
  slots    : Nat
  /-- The field model of CONFIG, 136 bytes; empty when none was ever written (R189). -/
  model    : Bytes
  /-- TMIN as it takes effect at the exchange's end (R198). -/
  tminLive : Word
  /-- RANGE work in progress: SEQ or SRAM number, WHAT, evidence so far (R388). -/
  rangeJob : Option (Option Nat × Option Nat × Nat × Candidate)
  deriving DecidableEq, Repr
/-! ### Rig coupling (chapter 6) -/

/-- STATE of a coupling (R229). -/
inductive CplState where
  | none | handshake | trusted | basic | suspended | backoff
  deriving DecidableEq, Repr

/-- The PDU that a coupling waits for next (R26, R212, R214). -/
inductive CplWait where
  | nothing | hello | cert | keyshare | confirm | rbeOwn | rbePartner | roster | rosterAck
  deriving DecidableEq, Repr

/-- One coupling, unit 1, 2 or 3 (R206–R229). -/
structure Coupling where
  unit     : Nat
  state    : CplState
  cls      : Nat
  noBound  : Bool
  rosterTrunc : Bool
  rosterFail : Bool
  reason   : Nat
  j2497    : Bool
  dolly    : Bool
  partner  : Quad
  ownCm    : Nat
  partnerCm : Nat
  /-- The tractor side of the handshake is this device's. -/
  waiting  : CplWait
  ownHello : Bytes
  peerHello : Bytes
  ownCert  : Bytes
  peerCert : Bytes
  /-- Ephemeral private key, own and partner ephemeral public keys (R212). -/
  ephD     : Nat
  ownEph   : Bytes
  peerEph  : Bytes
  transcript : Bytes
  /-- K_MAC ‖ K_WRAP ‖ K_RBE as the session slots hold them is in the key store; the coupling serial of C35. -/
  serial   : Nat
  seqTx    : Nat
  seqRx    : Nat
  lastPdu  : Bytes
  /-- The first STEP_TO has passed and the last PDU was resent (R214). -/
  resent   : Bool
  ownPass  : Bool
  peerPass : Bool
  rbeRetried : Bool
  /-- Roster part awaited or to be acknowledged next, LAST of part 0, entries taken, hash input (R218). -/
  part     : Nat
  partLast : Option Nat
  taken    : Nat
  rosterBytes : Bytes
  /-- Step 6 has been reached with this partner; SHA-256 of the roster entries as they were handed over then, and the K_WRAP they travelled under (R223; log 54). -/
  rosterDone : Bool
  oldRoster : Bytes
  oldWrap  : Bytes
  resume   : Bool
  /-- After a reset step 5 must run again before a grant is taken (R224). -/
  boundStale : Bool
  /-- Journaled boundary of R26: 0, 4, 6, 8, 9. -/
  boundary : Nat
  attempts : Nat
  grantSeq : Nat
  axles    : Nat
  axleBase : Nat
  linkUp   : Bool
  /-- CLK_US of the MAC failures within 10 s while trusted (R225). -/
  macFails : List Word
  work     : Option Nat
  loose    : Option Nat
  deriving DecidableEq, Repr

/-- All couplings with the lists of CONFIG and the hostile bookkeeping (R215, R225). -/
structure CouplingSet where
  units    : List Coupling
  allow    : List Quad
  deny     : List Quad
  /-- The coupling certificate of CONFIG, 148 bytes; empty when absent (R210, R386). -/
  cert     : Bytes
  hostileAt : List Word
  restartsOff : Bool
  /-- GRANT_SEQ of the last new grant sent (R220). -/
  grantSent : Nat
  deriving DecidableEq, Repr

/-! ### Wheel-end sensing (chapter 7) -/

/-- STATE of a sensor record; FREE is absence (R236). -/
inductive SnsState where
  | own | partner | learning
  deriving DecidableEq, Repr

/-- A sensor record of CONFIG with its runtime state (R236, R237, R247–R251). -/
structure Sensor where
  index    : Nat
  state    : SnsState
  s2       : Bool
  kind     : Nat
  family   : Nat
  id       : Word
  wheelPos : Byte
  conf     : Nat
  locFlags : Byte
  srcUnit  : Nat
  nominal  : Nat
  thrSet   : Nat
  /-- Runtime: last eight DATA bytes, counter, alert, seconds since the last accepted frame. -/
  data     : Bytes
  flags    : Byte
  lastFcnt : Nat
  alert    : Nat
  age      : Nat
  heard    : Bool
  /-- The last three pressures with their RTC times (R250); the levels that the last two frames left uncleared (R251). -/
  presses  : List (Nat × Word)
  held     : List Nat
  /-- Codes per aerial and the phase result of the running pass; candidate position (R247). -/
  codes    : List Nat
  phase    : Option (Int × Int)
  macBad   : Bool
  candPos  : Byte
  /-- Motion confirmation: frames at speed, rate failures, qualifying frames and how many agree (R249). -/
  moveFrames : Nat
  rateFails : Nat
  qual     : Nat
  agree    : Nat
  conflictDue : Bool
  /-- Learning: frames heard, seconds of forward movement at 20 km/h or more since the first, RTC of the last, RSSI codes, gap found (R240). -/
  learnN   : Nat
  learnMove : Nat
  learnLast : Word
  learnRssi : List Nat
  learnGap : Bool
  /-- History entries written and the value of the last one (R237). -/
  histNext : Nat
  histPrimary : Nat
  /-- RSSI code and input of the last accepted frame. -/
  rssi     : Byte
  input    : Byte
  deriving DecidableEq, Repr

/-- An accepted frame that waits for the commit of its FCNT (R234). -/
structure WaitFrame where
  record : Nat
  fcnt   : Nat
  alarm  : Bool
  data   : Bytes
  flags  : Byte
  rssi   : Byte
  input  : Byte
  deriving DecidableEq, Repr

/-- Auto-location in progress (R246): stage 1 waking, 2 phase location. -/
structure LocPass where
  stage    : Nat
  /-- Aerials still to be woken, the head being woken now, and the wakes sent for it. -/
  aerials  : List Nat
  wakes    : Nat
  nonce16  : Half
  /-- Telegram bits [47:8] of the wake in use, as 5 bytes. -/
  wakeBits : Bytes
  /-- The channel whose current-table entry AXLE_CUR replaces, with the entry it had (R242). -/
  oldCur   : Option (Nat × Nat)
  /-- Records still to be located by phase; NONCE of the SLOC sent to the head of them, none before it is sent. -/
  slocDue  : List Nat
  slocNonce : Option Word
  /-- CLK_US when the SLOC was asked for. -/
  slocAt   : Word
  /-- The descriptor that sends the SLOC, and the µs that the tones after it still last (R148, R248). -/
  slocDesc : Option Nat
  tonesLeft : Nat
  skipped  : List Nat
  retries  : Nat
  lfDefer  : Bool
  /-- A roster change during the pass asks for another (R254); the pass runs again after a CONFLICT (R249). -/
  again    : Bool
  rerun    : Bool
  work     : Option Nat
  loose    : Option Nat
  deriving DecidableEq, Repr

/-- The wheel-end sensing logic (chapter 7). -/
structure Sensing where
  sensors : List Sensor
  /-- The frame-counter table of KEYS pages 1040–1041: record and FCNT, zero entries left out (R234). -/
  fcnt    : List (Nat × Nat)
  frames  : List WaitFrame
  /-- The wheel model of CONFIG, 100 bytes; empty when never written (R245). -/
  model   : Bytes
  loc     : Option LocPass
  locStage : Nat
  /-- A wake was skipped in the newest pass (R257). -/
  locDefer : Bool
  learn   : Bool
  /-- SENSOR_STATE messages waiting to be sent: records (R253). -/
  publish : List Nat
  /-- Records whose Dusk alarm is reported at the next Noon (R241). -/
  dueNoon : List Nat
  deriving DecidableEq, Repr
/-! ### Jorsol engines (chapters 12 and 13) -/

/-- STATE of an engine (R434). -/
inductive EngState where
  | reset | loading | run | siesta | halt | fault
  deriving DecidableEq, Repr

/-- A mailbox message: its source endpoint and its bytes (R421). -/
structure Message where
  src  : Nat
  data : Bytes
  deriving DecidableEq, Repr

/-- An entry of the store buffer: address, size in bytes, value (R407). -/
structure BufStore where
  addr  : Nat
  size  : Nat
  value : Word
  deriving DecidableEq, Repr

/-- One engine (R401–R437). G0–G15 are a vector; ST is the whole word of R402. -/
structure Engine where
  state    : EngState
  g        : Vector Word 16
  pc       : Half
  st       : Word
  sa       : Word
  da       : Word
  rc       : Word
  sd       : Word
  blo      : Word
  bhi      : Word
  tpc      : Half
  tst      : Word
  tcause   : Word
  tval     : Word
  epc      : Half
  est      : Word
  evtPend  : Word
  /-- WAIT's mask while in Siesta by WAIT or SIESTA; none in a forced Siesta (R419, R420). -/
  waitMask : Option Word
  forced   : Bool
  pmemValid : Bool
  mode12   : Bool
  wdtStage1 : Bool
  /-- A first watchdog expiry held because TM = 1 (R415). -/
  wdtHeld  : Bool
  wdkBad   : Bool
  wrRej    : Bool
  scrub    : Bool
  txResult : Nat
  lastDest : Nat
  inbox    : List Message
  /-- Messages for the host, E9–E11 (R421). -/
  hostBox  : List Message
  /-- A SEND of this engine was answered FULL by these endpoints (R421). -/
  blocked  : List Nat
  stores   : List BufStore
  /-- Scratch bytes, canonical: unlisted addresses read 0 (R424 clears it to zero). -/
  scratch  : List Host.Cell
  /-- Program words that are not 0, by word address (R13, R425). -/
  pmem     : List (Nat × Half)
  /-- Microcode entries that are not 0 (R470, R471). -/
  ucode    : List (Nat × Nat)
  loadWords : Nat
  loadUc   : Nat
  loadOk   : Bool
  loadSrc  : Nat
  /-- CLK_US of the fault resets of the last 60 s (R424). -/
  faultAt  : List Word
  /-- Autostart region in CONFIG (R428). -/
  autostart : Option Nat
  /-- Words announced by J12_BEGIN and those written since (R429). -/
  j12Words : Nat
  /-- A fault reset waits for the reload and restart (R424). -/
  restartDue : Bool
  deriving DecidableEq, Repr

/-! ### Timers (chapter 14) -/

/-- A TMB counter beside its registers: live and staged pair, run state, divider restart, linked actions that take
place at its next clock (R477–R486). -/
structure Counter32 where
  count  : Word
  live   : Word
  staged : Option Word
  run    : Bool
  /-- A linked reset takes place at the next clock; a write of the count was lost to it. -/
  resetDue : Bool
  deriving DecidableEq, Repr

/-- A TMB unit beside its registers (R480–R488). -/
structure TmbUnit where
  armed   : Bool
  /-- Written since the last clock of its counter (R481). -/
  fresh   : Bool
  capFull : Bool
  fires   : Nat
  lateVal : Word
  deriving DecidableEq, Repr

/-- The TMB block (chapter 14): counters, units and the levels of the TMB outputs of the 24 pins. -/
structure Timers where
  counters : List Counter32
  units    : List TmbUnit
  outs     : List Bool
  deriving DecidableEq, Repr
/-! ### Vehicle buses (chapter 15) -/

/-- State of a CAN controller (R498, R504). -/
inductive CanState where
  | config | listen | active | busOff
  deriving DecidableEq, Repr

/-- A CAN frame with the stamps of the receive FIFO (R500, R521). -/
structure CanFrame where
  ts     : Word
  id     : Nat
  xid    : Bool
  fd     : Bool
  brs    : Bool
  esi    : Bool
  dlc    : Nat
  filter : Nat
  data   : Bytes
  deriving DecidableEq, Repr

/-- A CAN_TX host frame in a buffer: the reply to give when it ends (R395, R501). -/
structure CanJob where
  buffer : Nat
  /-- None when TMO_MS was 0: the reply has been given on queueing. -/
  ret     : Option ReplyTo
  /-- CLK_US at which TMO_MS has passed; of no use when TMO_MS was 0. -/
  due     : Word
  deriving DecidableEq, Repr

/-- An entry of the rate limiter of a controller (R502): identifier, the window of its last frame, its frames in that window, consecutive windows beyond the
limit up to that one. -/
structure LimitEntry where
  id    : Nat
  xid   : Bool
  win   : Nat
  count : Nat
  run   : Nat
  deriving DecidableEq, Repr

/-- One CAN controller beside its registers (R496–R505). -/
structure Can where
  state    : CanState
  /-- Waiting for 11 consecutive recessive bits (R498). -/
  integrating : Bool
  /-- Staged and live bit timing: NBT and DBT (R498). -/
  staged   : Option (Word × Word)
  live     : Word × Word
  /-- Transmit and receive error counters of ISO 11898-1 (R504, R521). -/
  txErr    : Nat
  rxErr    : Nat
  rx0      : List CanFrame
  rx1      : List CanFrame
  ovf0     : Bool
  ovf1     : Bool
  /-- Transmit buffers that are pending. -/
  pend     : List Nat
  jobs     : List CanJob
  /-- Identifiers followed by the limiter, most recently seen last, at most 64 (R502). -/
  limits   : List LimitEntry
  /-- CLK_US of the last flood record; window and count of host frames sent (R502). -/
  floodAt  : Option Word
  hostWin  : Nat
  hostSent : Nat
  /-- CLK_US of the bus-off events within 10 s, newest first (R504). -/
  boAt     : List Word
  faulted  : Bool
  failedOver : Bool
  deriving DecidableEq, Repr

/-- A PDU being sent or assembled by the coupling transport, per route and medium (R510, R513). -/
structure TpRun where
  unit    : Nat
  onPlc   : Bool
  sending : Bool
  length  : Nat
  data    : Bytes
  next    : Nat
  resent  : Bool
  deriving DecidableEq, Repr

/-- A J2497 message (R511, R525): MID, priority, data, receive time. -/
structure PlcMsg where
  mid  : Nat
  prio : Nat
  data : Bytes
  ts   : Word
  deriving DecidableEq, Repr

/-- A message waiting for the J2497 bus and who waits for its reply (R513, R525). -/
structure PlcJob where
  msg  : PlcMsg
  host : Option ReplyTo
  deriving DecidableEq, Repr

/-- A LIN transfer requested by LIN_XFER or LIN_XFER_CTL.GO (R516). -/
structure LinJob where
  pid  : Byte
  publish : Bool
  enh  : Bool
  len  : Nat
  data : Bytes
  host : Option ReplyTo
  deriving DecidableEq, Repr

/-- A Bluetooth LE connection (R518): phone record, connection events missed in a row, link authenticated. -/
structure LeConn where
  record : Nat
  missed : Nat
  central : Bool
  deriving DecidableEq, Repr

/-- The vehicle buses and LE connections (chapter 15). -/
structure Buses where
  can0   : Can
  can1   : Can
  /-- Frames received in Dawn, at most 64 (R562): controller and frame. -/
  dawn   : List (Nat × CanFrame)
  tp     : List TpRun
  plcRx  : List PlcMsg
  plcTx  : List PlcJob
  /-- Per MID: the second of its last message and its messages in it (R514). -/
  midCount : List (Nat × Nat × Nat)
  linSlot : Nat
  /-- Touch bit of the last correct response per door, and consecutive silent slots per door (R516). -/
  touch   : List (Nat × Bool)
  silent  : List (Nat × Nat)
  linJob  : List LinJob
  /-- A wake-up was seen in this Dusk (R517, R525). -/
  wakeSeen : Bool
  conns   : List LeConn
  deriving DecidableEq, Repr

/-! ### Tamper, error detection and fault injection (chapter 16) -/

/-- A fault record (R533): the bytes of its 16-byte form as numbers. -/
structure FaultRec where
  seq      : Nat
  detector : Nat
  severity : Nat
  unit     : Nat
  action   : Nat
  flags    : Nat
  info     : Word
  time     : Word
  deriving DecidableEq, Repr

/-- A live injection handed to E0 (R536, R537). -/
structure Injection where
  detector : Nat
  param    : Nat
  acted    : Bool
  /-- Address of the word that a live memory injection has corrupted. -/
  addr     : Option Nat
  deriving DecidableEq, Repr

/-- The SAF block beside its registers (chapter 16). -/
structure Saf where
  /-- Tamper sensors that assert now, latched sources, first source, its time (R526–R528). -/
  raw     : Word
  latched : Word
  first   : Nat
  firstAt : Word
  /-- Sources latched by Vigil and how often (R531). -/
  vigil   : Word
  vigilN  : Nat
  vigilAt : Word
  /-- The tamper record of CONFIG: sources that stand until TAMPER_CLEAR, and the count of clears (R530, R532). -/
  record  : Word
  clears  : Nat
  faults  : List FaultRec
  nextSeq : Nat
  /-- Records written since the last Dawn. -/
  sinceDawn : Nat
  /-- Per detector and unit: CLK_US of its last record (R535). -/
  recent  : List (Nat × Nat × Word)
  inject  : Option Injection
  /-- The record that a monitor's reset owes after Dawn: detector, INFO, injected (R538). -/
  due     : Option (Nat × Nat × Bool)
  /-- Banks marked out, at most 2 (R41, R43). -/
  banksOut : List Nat
  deriving DecidableEq, Repr

/-! ### Power, clocks, reset and pins (chapters 17 and 18) -/

/-- Power state (R545 and chapter 17), with the states in which the device waits for a supply or a boot image. -/
inductive PowerState where
  | dawn | noon | dusk | midnight | held | bootFail
  deriving DecidableEq, Repr

/-- Where Dawn stands (R561). -/
inductive DawnStage where
  | waitXo | booted | selfTested | done
  deriving DecidableEq, Repr

/-- The recovery session of BOOT_FAIL (R565). -/
structure Recovery where
  nonce    : Bytes
  failures : Nat
  verified : Bool
  deriving DecidableEq, Repr

/-- Power, clocks and reset (chapter 17). -/
structure Power where
  state    : PowerState
  stage    : DawnStage
  pll      : Bool
  /-- CLK_US, CLK_TS and the RTC: seconds, sub-second ticks, crystal running (R551, R552). -/
  clkUs    : Word
  clkTs    : Word
  rtc      : Word
  rtcSub   : Nat
  rtcRun   : Bool
  rtcValid : Bool
  /-- Cause of this reset and of the one before, cause of the pending Dawn (R559). -/
  cause    : Nat
  prev     : Nat
  resets   : Nat
  saveOk   : Bool
  /-- The next Dawn restores SHADOW: SRAM has lost its contents (R325, R559). -/
  restoreDue : Bool
  vddioOk  : Bool
  vlfMv    : Nat
  /-- VSUP stands above the POR release (R547). -/
  vsupOk   : Bool
  duskDue  : Bool
  /-- A cause of R554 has been seen: Dusk ends in Noon. -/
  exitDue  : Bool
  /-- Engines that the entry to Dusk sent into Siesta (R553). -/
  duskEngs : List Nat
  xoFails  : Nat
  failPage : Nat
  recovery : Option Recovery
  /-- RST_N, TEST_N levels as driven from outside; true is high. -/
  rstN     : Bool
  testN    : Bool
  deriving DecidableEq, Repr

/-- GPIO pads and the other inputs whose level is kept (R545, R610–R613). -/
structure Pins where
  /-- Level of each GPIO pad as the board and the outputs make it. -/
  gpio   : List Bool
  /-- WAKE0–3 levels. -/
  wake   : List Bool
  deriving DecidableEq, Repr

/-- The CRY accelerator beside its registers (R614–R616). -/
structure Cry where
  queue   : List Word
  drbgOk  : Bool
  trngOk  : Bool
  halt    : Bool
  gen     : Nat
  reseedDue : Bool
  /-- CLK_US of the health failures within 60 s (R616). -/
  failAt  : List Word
  deriving DecidableEq, Repr

/-- Items of the CONFIG partition that no other part of State holds (R299, R323, R499, R93). -/
structure ConfigItems where
  role     : RigRole
  roleNext : RigRole
  vid      : Word
  region   : Option Bool
  regionNext : Option Bool
  vidNext  : Word
  /-- Register values that CONFIG holds, by register address (R91, R152, R499 and the like). -/
  saved    : List (Nat × Word)
  deriving DecidableEq, Repr

/-- The state of the OZS-7720. -/
structure State where
  /-- The commands that wait, first in, first out. -/
  pending : List Instr
  /-- What the last command drove outward (the model's own record). -/
  emit    : List Emission
  /-- How many free values have been drawn (the model's own counter). -/
  drawn   : Nat
  /-- Registers whose value differs from their reset value, by address (R602). -/
  regs    : List (Nat × Word)
  /-- Shared SRAM, unlisted bytes reading 0 (R15). -/
  sram    : List Host.Cell
  power   : Power
  pins    : Pins
  link    : HostLink
  jrn     : Journal
  fer     : Feram
  cfg     : ConfigItems
  ks      : KeyStore
  cry     : Cry
  acc     : Access
  lf      : LfField
  rad     : Radio
  rng     : Ranging
  cpl     : CouplingSet
  sns     : Sensing
  eng     : Vector Engine 12
  tmb     : Timers
  bus     : Buses
  saf     : Saf
  deriving DecidableEq, Repr

/-! ### The state after reset -/

/-- A port with nothing queued (R346). -/
def PortState.empty : PortState := { outq := [], last := none, opn := [] }

/-- The host link at POR (R354, R364). -/
def HostLink.reset : HostLink :=
  { hcs0 := .empty, uart := .empty, miso := [], hirq := true, answers := false, e0Restart := false,
    lostHcs0 := (0, 0), lostUart := (0, 0), dawnq := [], held := [], nextSlot := 0, v1Reply := none, v1Wait := none,
    v1Busy := none, cfgPend := [], afterReply := none }

/-- The journal of a part as shipped: enabled (R322), every record free, the first SEQ and completion number 1. -/
def Journal.reset : Journal :=
  { enabled := true, enabledCfg := true, recovered := false, works := [], loose := [], accepting := [], ring := [],
    nextSeq := 1, nextNum := 1, internal := [], copies := [] }

/-- A region table entry with no region (R332). -/
def Region.none : Region :=
  { start := 0, pages := 0, rpw := false, wpw := false, enc := false, image := false, verifier := Option.none,
    runlk := false, wunlk := false }

/-- The FeRAM of a part as shipped (R298, R311): USER bytes zero, all counters zero. -/
def Feram.reset : Feram :=
  { mem := [], pages := [], counters := [], incr := none, commits := [], gap := false, config := [], reads := [], regions := List.replicate 16 .none,
    pwBase := 0, pwSince := 0, patrol := 0, scan := none, shadowGen := 0, shadow := List.replicate 16 none, image := [] }

/-- CONFIG of a part as shipped: no role (R2), no vehicle identifier, region unset. -/
def ConfigItems.reset : ConfigItems :=
  { role := .none, roleNext := .none, vid := 0, region := none, regionNext := none, vidNext := 0, saved := [] }

/-- The key store in Dawn before it opens (R263): set 0 committed at Irvenstol (R261), anchor 5 in BOOT (R265). -/
def KeyStore.reset : KeyStore :=
  { state := .closed, root := .committed,
    sets := [{ s0 := Config.otpShare0, s1 := Config.otpShare1, programmed := true, commit := true, void := false,
               eccBad := false, eccCorr := false },
             { s0 := 0, s1 := 0, programmed := false, commit := false, void := false, eccBad := false, eccCorr := false },
             { s0 := 0, s1 := 0, programmed := false, commit := false, void := false, eccBad := false, eccCorr := false }],
    corr := false, shares := none, kwk := none, storage := none, attD := none, testRoot := false, fuse := false,
    unlock := false, unlockNext := false, slots := [], useClock := 0, handles := [],
    anchors := [{ index := 5, keyId := Config.serviceKeyId, valid := true, pub := Config.serviceRoot }],
    timeFloor := 0, nonces := [], session := none, tamperHistory := false, closedByCtrl := false }

/-- The accelerator before its Dawn start-up (R615). -/
def Cry.reset : Cry :=
  { queue := [], drbgOk := false, trngOk := false, halt := false, gen := 0, reseedDue := false, failAt := [] }

/-- The release generator at rest: both pins low (R539, R560). -/
def Release.reset : Release :=
  { active := false, outcome := .door, record := 0xFF, tokenId := 0, grantAt := 0, durS := 0, driven := false, rbA := false, rbB := false,
    failTracks := 0, silentTracks := 0, missedGrants := 0, rbHist := [], idleBad := 0, periodBad := 0, endCause := 0, track := none,
    decNum := 0, told := false }

/-- The access logic of a part as shipped: no tokens, empty deny list, no decision (R72, R77). -/
def Access.reset : Access :=
  { tokens := [], denylist := [], decision := none, triggers := [], waiting := [], dropped := 0, decNum := 0, ring := [],
    curfew := false, curfewEnd := 0, curfewDur := 0, foreignAt := [], release := .reset, enrol := none,
    enrolLimit := 48, sloFault := false, rbFault := false, v1Poll := false }

/-- The LF block after reset (R120–R127). -/
def LfField.reset : LfField :=
  { live := { mask := 0xFF, cur := [120, 120, 120, 120, 80, 80, 80, 80] }, staged := none, fifo := [], telegram := none,
    openRun := List.replicate 8 0, detuneRun := List.replicate 8 0, excluded := 0, retest := 0, shortRetest := 0, frac := List.replicate 8 0, vlfLow := true,
    vlfHigh := false, tamperBlk := false, reduced := false, bin := 0, bins := List.replicate 99 0, reserved := 0,
    grant := none, deferred := [], waiting := [], defer := false, tamb := 0, pcore := 0, isofsDue := false, isofsReply := [], tests := [] }

/-- A synthesiser after reset: live pair as its shadow (R165, R170). -/
def Synth.reset (freq ifSel : Nat) : Synth := { freq := BitVec.ofNat 32 freq, ifSel := BitVec.ofNat 32 ifSel, staged := none, failed := false }

/-- A receiver after reset, its configuration as its register resets (R166). -/
def Receiver.reset (cfg : Nat) : Receiver := { frame := false, level := 0, cfgLive := BitVec.ofNat 32 cfg, winOpen := false, slots := [], winHeld := false, recalPend := false }

/-- A band after reset. -/
def Band.reset : Band := { buf := [], order := [], sending := none, turn := false }

/-- The radios after reset: every chain OFF (R143, R161). -/
def Radio.reset : Radio :=
  { l1 := .off, l2 := .off, hTx := .off, hRx := .off, syn1 := .reset 868300000 1, syn2 := .reset 433920000 1,
    txlo := .reset 2402000000 0, rxlo := .reset 2402000000 0,
    rxA := .reset 0x340002, rxB := .reset 0x340011, rxH := .reset 0, bandL := .reset, bandH := .reset, isoLow := false, cal := none,
    calDue := [], calFor := none, mismatchRun := 0, sweepDue := none, sniff := false, held := [], jobs := [] }

/-- Ranging after reset (R199–R205). -/
def Ranging.reset : Ranging :=
  { resp := none, rbe := none, armed := none, mcp := none, mcpNonce := 0, mcpL := false, mcpSlots := 8, tones := [], cs := none, log := [], slots := 8, model := [],
    tminLive := 3059, rangeJob := none }

/-- A unit with no coupling (R229). -/
def Coupling.reset (u : Nat) : Coupling :=
  { unit := u, state := .none, cls := 0, noBound := false, rosterTrunc := false, rosterFail := false, reason := 0,
    j2497 := false, dolly := false, partner := 0, ownCm := 0xFFFF, partnerCm := 0xFFFF, waiting := .nothing,
    ownHello := [], peerHello := [], ownCert := [], peerCert := [], ephD := 0, ownEph := [], peerEph := [],
    transcript := [], serial := 0, seqTx := 0, seqRx := 0, lastPdu := [], resent := false, ownPass := false,
    peerPass := false, rbeRetried := false, part := 0, partLast := Option.none, taken := 0, rosterBytes := [],
    rosterDone := false, oldRoster := [], oldWrap := [], resume := false, boundStale := false, boundary := 0, attempts := 0, grantSeq := 0, axles := 0,
    axleBase := 0, linkUp := false, macFails := [], work := Option.none, loose := Option.none }

/-- All couplings after reset. -/
def CouplingSet.reset : CouplingSet :=
  { units := [.reset 1, .reset 2, .reset 3], allow := [], deny := [], cert := [], hostileAt := [], restartsOff := false,
    grantSent := 0 }

/-- The sensing logic of a part as shipped: no sensor records. -/
def Sensing.reset : Sensing :=
  { sensors := [], fcnt := [], frames := [], model := [], loc := none, locStage := 0, locDefer := false, learn := false, publish := [], dueNoon := [] }

/-- An engine after reset (R401, R402, R434). -/
def Engine.reset : Engine :=
  { state := .reset, g := (Vector.replicate 16 0).set 14 0x8000, pc := 0x0010, st := 0, sa := 0, da := 0, rc := 0, sd := 0,
    blo := 0, bhi := 0xFFFFFFFF, tpc := 0, tst := 0, tcause := 0, tval := 0, epc := 0, est := 0, evtPend := 0,
    waitMask := none, forced := false, pmemValid := false, mode12 := false, wdtStage1 := false, wdtHeld := false,
    wdkBad := false, wrRej := false, scrub := false, txResult := 0, lastDest := 0, inbox := [], hostBox := [],
    blocked := [], stores := [], scratch := [], pmem := [], ucode := [], loadWords := 0, loadUc := 0, loadOk := false,
    loadSrc := 0, faultAt := [], autostart := none, j12Words := 0, restartDue := false }

/-- The timers after reset: counters stopped at 0, outputs low (R477, R487). -/
def Timers.reset : Timers :=
  { counters := List.replicate 8 { count := 0, live := 1, staged := none, run := false, resetDue := false },
    units := List.replicate 32 { armed := false, fresh := false, capFull := false, fires := 0, lateVal := 0 },
    outs := List.replicate 24 false }

/-- A CAN controller after reset: in CONFIG, its live pair as its shadow (R499, R522). -/
def Can.reset (nbrp : Nat) : Can :=
  { state := .config, integrating := false, staged := none,
    live := (BitVec.ofNat 32 (nbrp + 83 * 256 + 12 * 65536 + 12 * 2 ^ 23), BitVec.ofNat 32 (1 + 32 + 35 * 256 + 12 * 65536 + 12 * 2 ^ 20)),
    txErr := 0, rxErr := 0, rx0 := [], rx1 := [], ovf0 := false, ovf1 := false, pend := [], jobs := [], limits := [], floodAt := none, hostWin := 0,
    hostSent := 0, boAt := [], faulted := false, failedOver := false }

/-- The buses after reset. -/
def Buses.reset : Buses :=
  { can0 := .reset 8, can1 := .reset 2, dawn := [], tp := [], plcRx := [], plcTx := [], midCount := [], linSlot := 0,
    touch := [], silent := [], linJob := [], wakeSeen := false, conns := [] }

/-- The SAF block of a part as shipped (R543, R544). -/
def Saf.reset : Saf :=
  { raw := 0, latched := 0, first := 0, firstAt := 0, vigil := 0, vigilN := 0, vigilAt := 0, record := 0, clears := 0,
    faults := [], nextSeq := 0, sinceDawn := 0, recent := [], inject := none, due := none, banksOut := [] }

/-- Power right after the POR release (R559, R561): Dawn waits for the XO, reset cause POWER_ON, the RTC at 0 and not valid. -/
def Power.reset : Power :=
  { state := .dawn, stage := .waitXo, pll := false, clkUs := 0, clkTs := 0, rtc := 0, rtcSub := 0, rtcRun := true,
    rtcValid := false, cause := 1, prev := 0, resets := 0, saveOk := false, restoreDue := true, vddioOk := false,
    vlfMv := 0, vsupOk := true, duskDue := false, exitDue := false, duskEngs := [], xoFails := 0, failPage := 0,
    recovery := none, rstN := true, testN := true }

/-- The machine right after the POR release of a part as Irvenstol ships it: in Dawn, every register at its reset value
(R559, R561, R605). -/
def State.reset : State :=
  { pending := [], emit := [], drawn := 0, regs := [], sram := [], power := .reset,
    pins := { gpio := List.replicate 24 false, wake := List.replicate 4 true }, link := .reset, jrn := .reset,
    fer := .reset, cfg := .reset, ks := .reset, cry := .reset, acc := .reset, lf := .reset, rad := .reset, rng := .reset,
    cpl := .reset, sns := .reset, eng := Vector.replicate 12 .reset, tmb := .reset, bus := .reset, saf := .reset }

end Sys2Proof.Machine
end

