-- ==== Sys2Proof/Machine/Regs.lean ====
section
/-! DEFINITION. The register map: one row per register or array of registers, with its access type, its writable, action and
read-only fields, its reset value and the values its fields may take (R602–R604 and the register tables of the chapters). -/
namespace Sys2Proof.Machine

/-- Access type of a register as its table gives it (R604, R606). -/
inductive RegKind where
  | rw | ro | wo | w1c | rc | rwl
  deriving DecidableEq, Repr

/-- A row of the register map. `w` holds the writable fields (for a W1C register its W1C fields), `act` the WO action fields, `ro` the
read-only fields; every other bit is reserved. `lim` gives for a field (low bit, width) its least and greatest value. -/
structure RegRow where
  base  : Nat
  stride : Nat
  n     : Nat
  kind  : RegKind
  w     : Nat
  act   : Nat
  ro    : Nat
  rst   : Nat
  lim   : List (Nat × Nat × Nat × Nat)
  deriving DecidableEq, Repr

/-- A row for `n` registers from `base`, `stride` bytes apart. -/
def row (base : Nat) (kind : RegKind) (w act ro rst : Nat) (lim : List (Nat × Nat × Nat × Nat)) (n stride : Nat) : RegRow :=
  { base := base, stride := stride, n := n, kind := kind, w := w, act := act, ro := ro, rst := rst, lim := lim }

/-- All 32 bits. -/
def all32 : Nat := 0xFFFFFFFF

/-- Read-only registers. -/
def roRow (base rst n : Nat) : RegRow := row base .ro 0 0 all32 rst [] n 4

/-- Read-clear counters of `width` bits. -/
def rcRow (base width n : Nat) : RegRow := row base .rc 0 0 (2 ^ width - 1) 0 [] n 4

/-- An event register with its W1C bits. -/
def evRow (base bits : Nat) : RegRow := row base .w1c bits 0 0 0 [] 1 4

/-- The SYS block (R568, R571, R572). -/
def sysRows : List RegRow :=
  [roRow 0x40000000 0x77200B01 1, roRow 0x40000004 0 3, evRow 0x40000010 0x7F, roRow 0x40000014 0 1,
   rcRow 0x40000018 16 1,
   row 0x4000001C .rw 0xFFFFFF07 0 0 (1 + 60 * 256 + 1440 * 65536) [(8, 8, 1, 255), (16, 16, 1, 65535)] 1 4,
   row 0x40000020 .rw 0x1F 0 0x20 0xF [] 1 4, evRow 0x40000024 0xFF, roRow 0x40000028 0 2,
   row 0x40000030 .rw all32 0 0 0 [] 1 4, roRow 0x40000034 0 8, roRow 0x40000060 0 8]

/-- The HIF block (R364–R368). -/
def hifRows : List RegRow :=
  [row 0x40010000 .rw 0x1F 0 0 0x12 [(2, 2, 0, 2)] 1 4, roRow 0x40010004 0 1, evRow 0x40010008 0x1FF,
   row 0x4001000C .rw 0x7FF 0 0 0x7FF [] 1 4,
   row 0x40010010 .rw 0xFFFFFF 0 0 (26 + 4096 + 32 * 65536) [(0, 12, 1, 4095)] 1 4,
   row 0x40010014 .rw 0x3FF7 0 0 (3 + 496 * 16) [(4, 10, 0, 496)] 1 4,
   roRow 0x40010018 0 3, rcRow 0x40010024 16 8, roRow 0x40010044 0 1]

/-- The KST block (R293). -/
def kstRows : List RegRow :=
  [row 0x40080000 .rw 0 3 0 0 [] 1 4, roRow 0x40080004 0 1, evRow 0x40080008 0x1FF, roRow 0x4008000C 0 3,
   rcRow 0x40080018 16 4, roRow 0x40080028 0 4, roRow 0x40080040 0 16, roRow 0x40080100 0 48, roRow 0x40080200 0 64]

/-- The NVM block (R327, R328). -/
def nvmRows : List RegRow :=
  [row 0x40090000 .rw 0xFF01 2 0 (1 + 20 * 256) [(8, 8, 1, 255)] 1 4, roRow 0x40090004 0 1, evRow 0x40090008 0x1FF,
   rcRow 0x4009000C 32 1, rcRow 0x40090010 16 2, roRow 0x40090018 0 8, roRow 0x40090040 0 6, roRow 0x40090080 0 16]

/-- `n` registers of every engine page at one offset: for engines `k` from `k0` on. -/
def engRow (off k0 ks : Nat) (kind : RegKind) (w act ro rst : Nat) (lim : List (Nat × Nat × Nat × Nat)) : RegRow :=
  row (0x400A0000 + k0 * 0x1000 + off) kind w act ro rst lim ks 0x1000

/-- Arrays of `n` words in every engine page. -/
def engArr (off n : Nat) (kind : RegKind) (w ro : Nat) : List RegRow :=
  (List.range n).map fun i => engRow (off + 4 * i) 0 12 kind w 0 ro 0 []

/-- The ENG block (R430, R432–R437). -/
def engRows : List RegRow :=
  [engRow 0x000 0 9 .rw 0x10 3 0xC 8 [], engRow 0x000 9 3 .rw 0x1C 3 0 0 [], engRow 0x004 0 12 .ro 0 0 0x7FF 0 [],
   engRow 0x008 0 12 .ro 0 0 0xFFFF 0 [], engRow 0x00C 0 12 .ro 0 0 0x3FF 0 [], engRow 0x010 0 12 .rw 0xFFFF 0 0 0 [],
   engRow 0x014 0 12 .rw 0x3FF 0 0 0 [], engRow 0x018 0 12 .ro 0 0 0x1FFF 0 [], engRow 0x01C 0 12 .ro 0 0 all32 0 [],
   engRow 0x020 0 12 .rw 0xFFFF 0 0 0 [], engRow 0x024 0 12 .rw 0x3FF 0 0 0 [],
   engRow 0x028 0 9 .rw 0xFFFF 0 0 625 [(0, 16, 1, 65535)], engRow 0x028 9 3 .rw 0xFFFF 0 0 0 [],
   engRow 0x02C 0 12 .wo 0 0xFFFF 0 0 [], engRow 0x030 0 12 .w1c all32 0 0 0 [], engRow 0x034 0 12 .rw all32 0 0 0 []]
  ++ engArr 0x038 7 .rw all32 0
  ++ [engRow 0x054 0 12 .rc 0 0 0xFFFFFF 0 [], engRow 0x058 0 12 .ro 0 0 0x1FFFFFFF 0 [], engRow 0x05C 0 12 .ro 0 0 all32 0 [],
      engRow 0x060 0 12 .rc 0 0 all32 0 [], engRow 0x070 0 12 .rw 0x7FF 0x80000000 0 0 [(0, 4, 0, 12), (4, 7, 0, 64)],
      engRow 0x074 0 12 .ro 0 0 0x3F 0 [], engRow 0x078 0 12 .rw 0 0x80000000 0x3FFF 0 []]
  ++ engArr 0x080 16 .rw all32 0 ++ engArr 0x0C0 16 .ro 0 all32
  ++ [engRow 0x100 9 3 .ro 0 0 all32 0x8CC1 [], engRow 0x104 9 3 .ro 0 0 all32 0xC00 [],
      engRow 0x108 9 1 .ro 0 0 all32 0xF0000 [], engRow 0x108 10 1 .ro 0 0 all32 0xF00000 [],
      engRow 0x108 11 1 .ro 0 0 all32 0xF000000 [],
      engRow 0x110 9 1 .ro 0 0 all32 0x10380002 [], engRow 0x110 10 1 .ro 0 0 all32 0x10390002 [],
      engRow 0x110 11 1 .ro 0 0 all32 0x103A0002 [], engRow 0x114 9 3 .ro 0 0 all32 0x10000 [],
      engRow 0x118 9 3 .ro 0 0 all32 0x103B0001 [], engRow 0x11C 9 3 .ro 0 0 all32 0x10000 [],
      engRow 0x120 9 3 .ro 0 0 all32 0x10140001 [], engRow 0x124 9 3 .ro 0 0 all32 0x100000 [],
      engRow 0x128 9 3 .ro 0 0 all32 0 [], engRow 0x12C 9 3 .ro 0 0 all32 0 [],
      engRow 0x130 9 3 .rw 0x1FF 0 0 0 [], engRow 0x134 9 3 .rw 0xFF 0 0 0 [], engRow 0x138 9 3 .wo 0 all32 0 0 [],
      roRow 0x400AC000 0x184010FB 1, roRow 0x400AC004 (15 + 2 * 16 + 8 * 64 + 4 * 1024) 1, roRow 0x400AC008 (0xFF + 48 * 256) 1,
      roRow 0x400AC00C (128 + 64 * 256 + 2 * 0x8000 + 0x20000 + 0x40000 + 24 * 0x80000) 1, roRow 0x400AC010 0 2]

/-- The GPIO block (R610, R611). -/
def gpioRows : List RegRow :=
  [row 0x400F0000 .rw 0x1FF 0 0 8 [(0, 3, 0, 2), (3, 2, 0, 2)] 24 4, roRow 0x400F0060 0 1,
   row 0x400F0064 .rw 0xFFFFFF 0 0 0 [] 1 4, row 0x400F0068 .wo 0 0xFFFFFF 0 0 [] 3 4, evRow 0x400F0074 0x1FFFFFF,
   row 0x400F0078 .rwl 0xFFFFFF 0 0 0 [] 1 4, roRow 0x400F007C 0xFF0000 1]

/-- The SAF block (R542). -/
def safRows : List RegRow :=
  [roRow 0x40100000 0 1, evRow 0x40100004 0x7F, roRow 0x40100008 0 4, rcRow 0x40100018 16 1, roRow 0x4010001C 0 5,
   row 0x40100030 .rw all32 0 0 0 [] 1 4, row 0x40100034 .wo 0 3 0 0 [] 1 4, roRow 0x40100038 0 2, rcRow 0x40100040 16 12]

/-- The CRY block (R614). -/
def cryRows : List RegRow :=
  [row 0x40110000 .rw 0 3 0 0 [] 1 4, roRow 0x40110004 0 1, evRow 0x40110008 0x1F, roRow 0x4011000C 0 1,
   rcRow 0x40110010 32 2, rcRow 0x40110018 16 1, roRow 0x4011001C 0 1, rcRow 0x40110020 16 1, rcRow 0x40110024 8 2,
   roRow 0x4011002C 0 1]

/-- The LFX block (R120–R127). -/
def lfxRows : List RegRow :=
  [row 0x40020000 .rw 0x1FF 0 0 0x147 [(4, 4, 2, 15)] 8 0x100, row 0x40020004 .rw 0xFF 0 0 0x78 [(0, 8, 0, 200)] 4 0x100,
   row 0x40020404 .rw 0xFF 0 0 0x50 [(0, 8, 0, 200)] 4 0x100, row 0x40020008 .ro 0 0 all32 0 [] 8 0x100,
   row 0x4002000C .w1c 0xF 0 0x10 0 [] 8 0x100, row 0x40020010 .ro 0 0 all32 0 [] 8 0x100, row 0x40020014 .ro 0 0 all32 0 [] 8 0x100,
   row 0x40020018 .ro 0 0 all32 0 [] 8 0x100, row 0x4002001C .rc 0 0 all32 0 [] 8 0x100,
   row 0x40020800 .rw 0x3F00 7 0 0 [(8, 6, 0, 32)] 1 4, roRow 0x40020804 0 1, row 0x40020808 .rw 0xFF 0 0 0xFF [] 1 4,
   roRow 0x4002080C 0 1, row 0x40020810 .wo 0 1 0 0 [] 1 4, row 0x40020814 .rw 0x3FFFF 0 0 125000 [(0, 18, 20000, 150000)] 1 4,
   roRow 0x40020818 0 1, row 0x40020820 .wo 0 all32 0 0 [] 1 4, roRow 0x40020824 0 2, evRow 0x4002082C 0xFFF,
   rcRow 0x40020830 16 1,
   row 0x40020840 .rw 0xFFFFFFF 0 0 (600 + 300 * 1024 + 64 * 2 ^ 20) [(0, 10, 1, 600), (10, 10, 1, 300), (20, 8, 16, 255)] 1 4,
   row 0x40020844 .wo 0 0x7FFFFFF 0 0 [(24, 3, 0, 5)] 1 4, roRow 0x40020848 0 2, rcRow 0x40020850 16 1,
   row 0x40020854 .rw 0xFF 0 0 (3 + 16 * 4) [(0, 2, 1, 3), (2, 6, 4, 63)] 1 4,
   row 0x40020858 .rw 0x77777 0 0 (6 + 7 * 16 + 7 * 256 + 6 * 4096 + 7 * 65536) [] 1 4,
   row 0x4002085C .rw 0x7FF 0 0 (2 + 2 * 8 + 16 * 32) [(0, 3, 0, 4), (3, 2, 1, 2), (5, 6, 1, 32)] 1 4]
  ++ ((List.range 8).flatMap fun k =>
    let lane := fun (en ch : Nat) => ch + 8 * en + 1024 * 32
    let e := if k < 6 then 0 else 1
    let c := if k < 6 then k else if k = 6 then 4 else 0
    [row (0x40020880 + 8 * k) .rw all32 0 0 (lane 1 (c % 8) + 65536 * lane e ((c + 1) % 8)) [(10, 6, 0, 32), (26, 6, 0, 32)] 1 4,
     row (0x40020884 + 8 * k) .rw 0xFFFF 0 0 (lane e ((c + 2) % 8)) [(10, 6, 0, 32)] 1 4])

/-- Four descriptors of a band at a base address: CTL with its writable bits and limits, BUF, AT, DL (R162, R168, R170). -/
def txdRows (base w : Nat) (lim : List (Nat × Nat × Nat × Nat)) : List RegRow :=
  [row base .rw w 0 0 0 lim 4 16, row (base + 4) .rw 0x3FF01FF 0 0 0 [(16, 10, 0, 512)] 4 16, row (base + 8) .rw all32 0 0 0 [] 4 16,
   row (base + 12) .rw all32 0 0 0 [] 4 16]

/-- The RFL block (R162–R169). -/
def rflRows : List RegRow :=
  [roRow 0x40030000 0 1, evRow 0x40030004 0x3FFFF, row 0x40030008 .wo 0 3 0 0 [] 1 4,
   row 0x40030010 .rw 0x3FFFFFFF 0 0 868300000 [(0, 30, 300000000, 960000000)] 1 4, row 0x40030014 .rw 3 0 0 1 [] 2 16,
   roRow 0x40030018 0 2, row 0x40030020 .rw 0x3FFFFFFF 0 0 433920000 [(0, 30, 300000000, 960000000)] 1 4, roRow 0x40030028 0 2,
   row 0x40030030 .rw 0x3FFFFF 0 0 (2 + 2 * 2 ^ 17 + 3 * 2 ^ 20) [(0, 4, 0, 5), (17, 2, 0, 2)] 1 4,
   row 0x40030048 .rw 0x3FFFFF 0 0 (1 + 16 + 2 * 2 ^ 17 + 3 * 2 ^ 20) [(0, 4, 0, 5), (17, 2, 0, 2)] 1 4,
   row 0x40030034 .rw all32 0 0 0 [] 2 24, row 0x40030038 .ro 0 0 all32 0 [] 2 24, row 0x4003003C .rw all32 0 0 0 [] 2 24,
   row 0x40030040 .rw 0xFFFF1 0 0 (1200 * 256) [(4, 4, 0, 8), (8, 12, 100, 4000)] 2 24, row 0x40030044 .ro 0 0 all32 0 [] 2 24,
   row 0x40030060 .rw 0xFF 0 0 0x50 [] 1 4, roRow 0x40030064 0 1, row 0x40030068 .rw 0x3F 0 0 63 [] 1 4, row 0x4003006C .rw all32 0 0 0 [] 1 4,
   row 0x40030070 .rw 0xFFFFFF 0 0 (3 * 65536 + 32 * 2 ^ 18) [(18, 6, 8, 63)] 1 4, roRow 0x40030074 0 1,
   row 0x40030078 .rw 0x3FFFF 0 0 (50 + 0x32 * 1024) [(0, 10, 0, 1000)] 1 4, row 0x4003007C .rw 2 1 0 2 [] 1 4, roRow 0x40030080 0 1,
   rcRow 0x40030084 16 2, row 0x40030200 .rw 0x3FF 0 0 0 [] 64 4, row 0x40030300 .rw 0xFFFF 0 0 0 [] 32 4,
   row 0x40030380 .rw 0xFF 0 0 0 [] 4 4, row 0x40030390 .rw 0xFF 0 0 0 [] 4 4]
  ++ txdRows 0x40030100 0xFFFF [(1, 2, 0, 2), (6, 4, 0, 5)]

/-- Lowest and highest Band H channel (R147). -/
def bandHLim : List (Nat × Nat × Nat × Nat) := [(0, 32, 2400000000, 2483500000)]

/-- The RFH block (R170). PHY codes 4 and 5 of a descriptor belong to RNG and are refused as reserved values are (DEDUCED, log 153). -/
def rfhRows : List RegRow :=
  [roRow 0x40040000 0 1, evRow 0x40040004 0x1DFD5, row 0x40040008 .wo 0 3 0 0 [] 1 4,
   row 0x40040010 .rw all32 0 0 2402000000 bandHLim 1 4, roRow 0x40040014 0 1, row 0x40040018 .rw all32 0 0 2402000000 bandHLim 1 4,
   row 0x4004001C .rw 1 0 0 0 [] 1 4, roRow 0x40040020 0 2,
   row 0x40040030 .rw 0x3FFFFF 0 0 0 [(0, 4, 0, 5), (16, 6, 0, 39)] 1 4, row 0x40040034 .rw all32 0 0 0 [] 1 4, roRow 0x40040038 0 1,
   row 0x4004003C .rw all32 0 0 0 [] 1 4, row 0x40040040 .rw 0xFFFF1 0 0 (1200 * 256) [(4, 4, 0, 8), (8, 12, 100, 4000)] 1 4,
   roRow 0x40040044 0 1, row 0x40040048 .rw 0xFF 0 0 0x64 [] 1 4, roRow 0x4004004C 0 1, row 0x40040050 .rw 0x1F 0 0 31 [] 1 4,
   roRow 0x40040054 0 1, row 0x40040058 .rw 2 1 0 2 [] 1 4, roRow 0x4004005C 0 1, rcRow 0x40040060 16 1,
   row 0x40040064 .rw all32 0 0 0 [] 1 4, row 0x40040068 .rw 0xFFFFFF 0 0 0 [] 2 4, row 0x40040200 .rw 0x3FF 0 0 0 [] 32 4,
   row 0x40040300 .rw 0xFFFF 0 0 0 [] 8 4, row 0x40040340 .rw 0xFF 0 0 0 [] 2 4]
  ++ txdRows 0x40040100 0x3F7FFF [(1, 2, 0, 2), (6, 4, 0, 3), (16, 6, 0, 39)]

/-- The RNG block (R199–R205); RNG_CS_TIMING resets to the least values of R187 (DESIGN CHOICE, log 33). -/
def rngRows : List RegRow :=
  [row 0x40050000 .rw 5 2 0 0 [] 1 4, roRow 0x40050004 0 1, evRow 0x40050008 0x3F, roRow 0x4005000C 0 1,
   row 0x40050020 .rw 0x3FF1F7F 0x80000000 0 (64 + 2 * 65536 + 31 * 2 ^ 20 + 2 ^ 25) [(8, 5, 0, 28), (16, 4, 0, 8)] 1 4, roRow 0x40050024 0 1,
   row 0x40050028 .rw 0x1FFF 0 0 3059 [(0, 13, 3000, 3100)] 1 4, roRow 0x4005002C 0 1, row 0x40050030 .rw all32 0 0 0 [] 2 4,
   roRow 0x40050038 0 5, roRow 0x4005004C 0xFFFF 1, roRow 0x40050050 0 1, row 0x40050054 .wo 0 1 0 0 [] 1 4,
   row 0x40050080 .rw 0xFF3 4 0 (3 + 64 * 16) [] 1 4, row 0x40050084 .rw all32 0 0 all32 [] 2 4, row 0x4005008C .rw 0xFF 0 0 0xFF [] 1 4,
   row 0x40050090 .rw all32 0 0 all32 [] 1 4, row 0x40050094 .rw 0x77 0 0 0 [] 1 4, roRow 0x40050098 0 1, roRow 0x4005009C 0xFFFF 2,
   row 0x400500A4 .rw 0xFFFF 0 0 0 [] 1 4,
   row 0x400500C0 .rw 0x7FFF 0 0 (72 + 8 * 128 + 2 * 4096) [(0, 7, 1, 72), (7, 5, 4, 16), (12, 3, 1, 4)] 1 4,
   row 0x400500C4 .rw 0x3FFFFFF 0 0 (10 + 10 * 256 + 20 * 65536) [(0, 8, 10, 255), (8, 8, 10, 255), (16, 8, 20, 255), (24, 2, 0, 2)] 1 4,
   roRow 0x400500C8 0 1, roRow 0x400500CC all32 1,
   row 0x40050100 .rw all32 0 0 (200 + 400 * 1024 + 850 * 2 ^ 21) [] 1 4,
   row 0x40050104 .rw all32 0 0 (50 + 75 * 256 + 75 * 65536 + 60 * 2 ^ 24) [] 1 4,
   row 0x40050108 .rw all32 0 0 (8 + 6 * 256 + 12 * 65536 + 0xB5 * 2 ^ 24) [] 1 4, roRow 0x4005010C 0 1,
   roRow 0x40050120 (7 + 0x3F * 4096) 1, roRow 0x40050124 0 2, rcRow 0x4005012C 16 2]

/-- The ACC block (R87–R94). -/
def accRows : List RegRow :=
  [roRow 0x40060000 8 1, roRow 0x40060004 0 2, row 0x4006000C .rw 0xFFFFFFF 0 0 (4 + 10 * 256 + 120 * 65536) [(16, 12, 0, 3600)] 1 4,
   roRow 0x40060010 0 1, row 0x40060014 .rw 0xFF03FFFF 0 0 (0xFF + 0xF000 + 3 * 65536 + 0x14 * 2 ^ 24) [] 1 4,
   row 0x40060018 .rw 0xFFFF 0 0 0xF9 [] 1 4, row 0x4006001C .rw 0xFFFF 0 0 0x80A0 [] 1 4, roRow 0x40060020 15 1, roRow 0x40060024 11 1,
   roRow 0x40060028 0x43 1, roRow 0x4006002C 2 1, row 0x40060030 .rw 0xFF1F 0 0 0xA1E [(0, 5, 0, 30), (8, 8, 2, 40)] 1 4,
   roRow 0x40060034 0xFF00 1, roRow 0x40060038 0 1, row 0x40060040 .rw 7 0 0 5 [] 1 4,
   row 0x40060044 .rw 0x1FFFFFFF 0 0 0x1A3 [] 1 4, row 0x40060048 .rw 0x1FFFFFFF 0 0 0x1A4 [] 1 4, row 0x4006004C .rw 0x1FFFFFFF 0 0 0x1A0 [] 1 4,
   roRow 0x40060050 48 1, roRow 0x40060054 0 4]

/-- One CAN controller's page; the link registers stand in the CAN0 page alone (R521–R524). The reset values of CAN_ISO_ADDR are the ISO 11992-2
addresses (PRESUMED, log 40). -/
def canPage (b : Nat) (link : Bool) : List RegRow :=
  [row b .rw 3 0xC 0 0 [(0, 2, 0, 2)] 1 4, roRow (b + 4) 0 1, evRow (b + 8) 0x7FF,
   row (b + 0xC) .rw 0x3FFFFFFF 0 0 ((if link then 8 else 2) + 83 * 256 + 12 * 65536 + 12 * 2 ^ 23)
     [(0, 8, 1, 255), (8, 8, 2, 255), (16, 7, 1, 127), (23, 7, 1, 127)] 1 4,
   row (b + 0x10) .rw 0xFF3F3F 0 0 (1 + 32 + 35 * 256 + 12 * 65536 + 12 * 2 ^ 20) [(0, 5, 1, 31), (8, 6, 1, 63), (16, 4, 1, 15), (20, 4, 1, 15)] 1 4,
   roRow (b + 0x14) 0 2, row (b + 0x1C) .rw 0x7FFFF 0 0 (100 * 8 + 50 * 2 ^ 11) [(3, 8, 1, 255), (11, 8, 1, 255)] 1 4,
   rcRow (b + 0x20) 16 10, roRow (b + 0x48) 0 5, row (b + 0x60) .rw 0x7FFFFFFF 0 0 0 [] 8 4,
   row (b + 0x400) .rw 0x7FFFFFFF 0 0 0 [] 64 16, row (b + 0x404) .rw 0x7FFFFFFF 0 0 0 [] 64 16,
   row (b + 0x408) .rw 0xFFF 0 0 4 [(1, 2, 0, 2)] 32 16, row (b + 0x608) .rw 0xFFF 0 0 4 [(1, 2, 1, 2)] 32 16,
   row (b + 0x800) .rw 0xFF 0x100 0 0 [] 16 0x50, row (b + 0x804) .rw 0x1FFFFFFF 0 0 0 [] 16 0x50]
  ++ ((List.range 16).map fun w => row (b + 0x808 + 4 * w) .rw all32 0 0 0 [] 16 0x50)
  ++ [row (b + 0xE00) .ro 0 0 all32 0 [] 2 0x60, row (b + 0xE04) .ro 0 0 all32 0 [] 2 0x60, row (b + 0xE08) .rw 0 0x80000000 0x7FF 0 [] 2 0x60]
  ++ ((List.range 16).map fun w => row (b + 0xE0C + 4 * w) .ro 0 0 all32 0 [] 2 0x60)
  ++ (if link then
    [row (b + 0x80) .rw 3 0 0 0 [] 1 4, row (b + 0x84) .rw all32 0 0 0xC0C820 [] 1 4, row (b + 0x88) .rw 0x1FFFFF00 0 0 0x18FFA000 [] 1 4,
     row (b + 0x8C) .rw 0x1FFFFF00 0 0 0x18FFA100 [] 1 4, row (b + 0x90) .rw 0x3FFFFFFF 0 0 0 [] 1 4,
     row (b + 0x94) .rw 0x7FFFFF 0 0 0 [(4, 12, 1, 4095)] 1 4] else [])

/-- The CAN block (R521). -/
def canRows : List RegRow := canPage 0x400C0000 true ++ canPage 0x400C4000 false

/-- The PLC block (R525); PRIO 0 stands for priority 8 (DEDUCED, log 41). -/
def plcRows : List RegRow :=
  [row 0x400D0000 .rw 1 6 0 0 [] 1 4, roRow 0x400D0004 0 1, evRow 0x400D0008 0xFF, row 0x400D000C .rw 0x7FF 0 0 0 [] 1 4,
   row 0x400D0010 .rw 0xFFFFFF 0 0 (137 + 138 * 256) [] 1 4, rcRow 0x400D0014 16 7, row 0x400D0030 .rw 0x1F 0 0 0 [(0, 5, 1, 21)] 1 4,
   row 0x400D0034 .rw all32 0 0 0 [] 6 4, roRow 0x400D004C 0 7]

/-- The LIN block (R525). -/
def linRows : List RegRow :=
  [row 0x400E0000 .rw 7 0 0 0 [] 1 4, roRow 0x400E0004 0 1, evRow 0x400E0008 0x3FF, row 0x400E000C .rw 0x7FFF 0 0 19200 [(0, 15, 1000, 19200)] 1 4,
   rcRow 0x400E0010 16 3, row 0x400E0020 .rw 0xFFFFF 0 0 0 [(8, 4, 1, 8)] 16 4, row 0x400E0060 .rw 0x7F3F 0 0 0 [] 4 4,
   row 0x400E0070 .rw all32 0 0 0 [] 2 4, row 0x400E0078 .rw 0xFFF 0x1000 0 0 [(8, 4, 1, 8)] 1 4]

/-- The CPL block (R227, R228, R255–R258). SPD_SRC takes the value of the role when Dawn loads it. -/
def cplRows : List RegRow :=
  [row 0x40070000 .rw 0xFF7F 0 0 (1 + 4 + 32 + 64 + 30 * 256) [(4, 2, 0, 2)] 1 4,
   row 0x40070004 .rw all32 0 0 (1800 + 3500 * 65536) [(0, 16, 1, 3700), (16, 16, 1, 3700)] 1 4,
   row 0x40070008 .rw all32 0 0 (1000 + 5000 * 65536) [(0, 16, 200, 10000), (16, 16, 1000, 30000)] 1 4,
   rcRow 0x4007000C 16 3, roRow 0x40070020 0 3, roRow 0x4007002C 0xFFFFFFFF 1, roRow 0x40070030 0 3, roRow 0x4007003C 0xFFFFFFFF 1,
   roRow 0x40070040 0 3, roRow 0x4007004C 0xFFFFFFFF 1,
   row 0x40070100 .rw 0xFFFFFFF 0 0 (1 + 64 * 16 + 60 * 4096 + 30 * 2 ^ 20) [(2, 2, 0, 2)] 1 4, roRow 0x40070104 (128 * 2 ^ 24) 1,
   evRow 0x40070108 0x1FF, roRow 0x4007010C 0 1, rcRow 0x40070110 16 3, roRow 0x4007011C 0 2,
   row 0x40070140 .rw all32 0 0 (80 + 70 * 256 + 125 * 65536 + 95 * 2 ^ 24) [] 8 8,
   row 0x40070144 .rw all32 0 0 (51 + 15 * 256 + 150 * 65536 + 50 * 2 ^ 24) [(8, 8, 0, 100)] 8 8, roRow 0x40070200 0 256]

/-- The TMB block (R491–R495). LINK resets to the unit's own counter. -/
def tmbRows : List RegRow :=
  [row 0x400B0000 .rw all32 0 0 0 [] 8 16, row 0x400B0004 .rw 0x3FF 0 0 1 [(0, 9, 1, 256)] 8 16, row 0x400B0008 .rw 0 7 0x300 0 [] 8 16,
   row 0x400B000C .ro 0 0 all32 1 [] 8 16, row 0x400B0100 .rw all32 0 0 0 [] 32 16] ++
  ((List.range 8).map fun c => row (0x400B0104 + 64 * c) .rw 0x1F3F7F 0x1000000 0 (16 * c) [(0, 2, 0, 2), (2, 2, 0, 2), (16, 5, 0, 23)] 4 16) ++
  [row 0x400B0108 .ro 0 0 all32 0 [] 32 16, row 0x400B010C .ro 0 0 all32 0 [] 32 16, evRow 0x400B0300 all32, roRow 0x400B0304 0 1, evRow 0x400B0308 all32,
   evRow 0x400B030C 3]


/-- The whole register map (R602). -/
def regTable : List RegRow :=
  sysRows ++ hifRows ++ kstRows ++ nvmRows ++ engRows ++ gpioRows ++ safRows ++ cryRows ++ lfxRows ++ rflRows ++ rfhRows ++ rngRows ++ accRows ++ canRows ++ plcRows ++ linRows ++ cplRows ++ tmbRows

/-- How many registers the rows of a block hold. -/
def rowCount (rows : List RegRow) : Nat := rows.foldl (fun a r => a + r.n) 0

/-- The row covers this address. -/
def RegRow.has (r : RegRow) (a : Nat) : Bool :=
  r.base ≤ a && (a - r.base) % r.stride == 0 && (a - r.base) / r.stride < r.n

/-- The row of a mapped register (R603). -/
def regFind (a : Nat) : Option RegRow := regTable.find? (·.has a)

/-- The reset value of a register; 0 for an unmapped address. -/
def regReset (a : Nat) : Word := word ((regFind a).map (·.rst) |>.getD 0)

/-- The value a register holds. -/
def regGet (s : State) (a : Nat) : Word := kvGet regReset s.regs a

/-- The state with a register holding a value. -/
def regSet (a : Nat) (v : Word) (s : State) : State := { s with regs := kvSet regReset s.regs a v }

/-- A field of a register. -/
def regFld (s : State) (a lo n : Nat) : Nat := wfld (regGet s a) lo n

/-- One bit of a register. -/
def regBit (s : State) (a i : Nat) : Bool := wbit (regGet s a) i

/-- The state with bits of a register set. -/
def regOr (a mask : Nat) (s : State) : State := regSet a (regGet s a ||| word mask) s

/-- The state with bits of a register cleared. -/
def regAndNot (a mask : Nat) (s : State) : State := regSet a (regGet s a &&& ~~~ word mask) s

/-- The state with a field of a register set. -/
def regPutFld (a lo n v : Nat) (s : State) : State := regSet a (setFld (regGet s a) lo n v) s

/-- The state with a saturating counter field raised by `k` (R604). -/
def regCount (a lo n k : Nat) (s : State) : State := regPutFld a lo n (satAdd n (regFld s a lo n) k) s

/-- The state with a counter register of `n` bits raised by one. -/
def regInc (a n : Nat) (s : State) : State := regCount a 0 n 1 s

/-- Source codes of an engine's event line field (R436). -/
def evtSrcOk (c : Nat) : Bool := c ≤ 0x12 || (0x40 ≤ c && c ≤ 0x77)

/-- Reserved values that no single range of a field says: engine event sources (R436), a descriptor beyond the transmit buffer (R162),
NBITS (R200), the order of the zone limits (R202), SNIFF_PERIOD of 1–9 (R169), a filter's RATE of 0 with LIM_EN (R524), a LIN slot's TIME of 1–4 (R525). -/
def specialOk (a n : Nat) : Bool :=
  if 0x400A0000 ≤ a ∧ a < 0x400AC000 ∧ 0x38 ≤ a % 0x1000 ∧ a % 0x1000 < 0x54 then
    (List.range 4).all (fun j => evtSrcOk (fld n (8 * j) 8))
  else if (a / 0x10000 = 0x4003 ∨ a / 0x10000 = 0x4004) ∧ 0x100 ≤ a % 0x10000 ∧ a % 0x10000 < 0x140 ∧ a % 16 = 4 then
    decide (fld n 0 9 + fld n 16 10 ≤ 512)
  else if a = 0x40050020 then fld n 0 7 == 0 || decide (32 ≤ fld n 0 7 ∧ fld n 0 7 ≤ 64)
  else if a = 0x40050100 then
    let l := [fld n 0 10, fld n 10 11, fld n 21 11].filter (· != 0)
    decide (l.Pairwise (· < ·))
  else if 0x40070140 ≤ a ∧ a < 0x40070180 ∧ a % 8 = 0 then fld n 0 8 == 0 || fld n 8 8 == 0 || decide (fld n 8 8 < fld n 0 8)
  else if 0x400B0104 ≤ a ∧ a < 0x400B0300 ∧ a % 16 = 4 then fld n 0 2 != 2 || fld n 11 2 == 0
  else if a = 0x40030078 then fld n 0 10 == 0 || 10 ≤ fld n 0 10
  else if a / 0x10000 = 0x400C ∧ 0x400 ≤ a % 0x4000 ∧ a % 0x4000 < 0x800 ∧ a % 16 = 8 then !bit n 3 || fld n 4 8 != 0
  else if a / 0x10000 = 0x400E ∧ 0x20 ≤ a % 0x10000 ∧ a % 0x10000 < 0x60 then fld n 12 8 == 0 || 5 ≤ fld n 12 8
  else true

/-- The value has no reserved bit and no reserved field value (R604). -/
def valueOk (r : RegRow) (a : Nat) (v : Word) : Bool :=
  let n := v.toNat
  (n &&& (r.w ||| r.act ||| r.ro)) == n &&
  r.lim.all (fun l => l.2.2.1 ≤ fld n l.1 l.2.1 && fld n l.1 l.2.1 ≤ l.2.2.2) &&
  specialOk a n

/-- Index of a block (R602). -/
def blockOf (a : Nat) : Nat := a / 0x10000 % 0x20

/-- Event source code of the block whose EVENTS register lies at an address (R436). -/
def blockEvent (a : Nat) : Nat :=
  match blockOf a with
  | 0x00 => 1 | 0x01 => 2 | 0x02 => 3 | 0x03 => 4 | 0x04 => 5 | 0x05 => 6 | 0x06 => 7 | 0x07 => 8 | 0x08 => 9
  | 0x09 => 10 | 0x0B => 11 | 0x0C => (if a % 0x10000 < 0x4000 then 12 else 13) | 0x0D => 14 | 0x0E => 15
  | 0x0F => 16 | 0x10 => 17 | 0x11 => 18 | _ => 0

end Sys2Proof.Machine
end

