-- ==== Sys2Proof/Machine/Ops.lean ====
section
/-! DEFINITION. The named operations every meaning is written with: free values, event lines, host replies and events, fault
records, counters and pages of the FeRAM. -/
namespace Sys2Proof.Machine

/-! ### Free values -/

/-- The free value `i` places ahead of those drawn so far. -/
def peek (s : State) (i : Nat) : Word := Config.freeWord (s.drawn + i)

/-- The state with `n` free values drawn. -/
def draw (n : Nat) (s : State) : State := { s with drawn := s.drawn + n }

/-- `n` bytes of free values, from `i` places ahead on; `n / 4` words rounded up are used. -/
def peekBytes (s : State) (i n : Nat) : Bytes :=
  ((List.range ((n + 3) / 4)).flatMap fun j => le 4 (peek s (i + j)).toNat).take n

/-! ### The state of the world outside -/

/-- The record of outward signals and of MISO starts empty at every command. -/
def fresh (s : State) : State := { s with emit := [], link := { s.link with miso := [] } }

/-- The state with one more outward signal recorded. -/
def emitOut (e : Emission) (s : State) : State := { s with emit := s.emit ++ [e] }

/-- CLK_US now. -/
def now (s : State) : Word := s.power.clkUs

/-- The RTC seconds as fields of the manual carry them: 0 while the RTC is not valid (R551). -/
def rtcField (s : State) : Word := if s.power.rtcValid then s.power.rtc else 0

/-- The device runs: Dawn past the first clocks, Noon or Dusk. -/
def running (s : State) : Bool :=
  match s.power.state with
  | .noon => true
  | .dusk => true
  | .dawn => s.power.pll
  | .midnight => false
  | .held => false
  | .bootFail => true

/-- Noon. -/
def inNoon (s : State) : Bool := s.power.state == .noon

/-- Noon or Dusk. -/
def awake (s : State) : Bool := s.power.state == .noon || s.power.state == .dusk

/-- A cause of R554 in Dusk: the exit to Noon is due. -/
def exitDusk (s : State) : State :=
  if s.power.state = .dusk then { s with power := { s.power with exitDue := true } } else s

/-! ### Engines and their event lines (R418, R419, R436) -/

/-- Engine `k`. -/
def engOf (s : State) (k : Fin 12) : Engine := s.eng[k]

/-- The state with engine `k` replaced. -/
def setEng (k : Fin 12) (e : Engine) (s : State) : State := { s with eng := s.eng.set k e }

/-- The state with engine `k` changed. -/
def modEng (k : Fin 12) (f : Engine → Engine) (s : State) : State := setEng k (f (engOf s k)) s

/-- The engine of a number 0–11; engine 0 for other numbers. -/
def engNo (n : Nat) : Fin 12 := if h : n < 12 then ⟨n, h⟩ else 0

/-- Engines 9–11, the OEM engines (R13). -/
def isOem (k : Fin 12) : Bool := 9 ≤ k.val

/-- Address of a register in the page of engine `k`. -/
def engAddr (k : Fin 12) (off : Nat) : Nat := 0x400A0000 + k.val * 0x1000 + off

/-- An engine in Siesta by WAIT or SIESTA runs again when a line of its mask is pending (R419). -/
def wakeEng (e : Engine) : Engine :=
  match e.waitMask with
  | some m => if e.state == .siesta && !e.forced && (e.evtPend &&& m) != 0 then { e with state := .run, waitMask := none } else e
  | none => e

/-- Line `n` of engine `k` rises (R418). -/
def pendLine (k : Fin 12) (n : Nat) (s : State) : State :=
  modEng k (fun e => wakeEng { e with evtPend := setBit e.evtPend n }) s

/-- The lines of engine `k` that EVTSRC routes from a source (R436). -/
def linesOf (s : State) (k : Fin 12) (src : Nat) : List Nat :=
  (List.range 28).filter fun i => fld (regGet s (engAddr k (0x38 + 4 * (i / 4)))).toNat (8 * (i % 4)) 8 == src

/-- A source rises: its line is latched in every engine that routes it. -/
def lineUp (src : Nat) (s : State) : State :=
  if src = 0 then s
  else (List.finRange 12).foldl (fun s k => (linesOf s k src).foldl (fun s i => pendLine k (4 + i) s) s) s

/-- Bits of a block's EVENTS register are set; the block's source rises when the register was 0 (R418, R604). -/
def raise (a bits : Nat) (s : State) : State :=
  let s' := regOr a bits s
  if regGet s a = 0 ∧ regGet s' a ≠ 0 then lineUp (blockEvent a) s' else s'

/-! ### Output packets (R333–R338, R345–R347) -/

/-- A port of the host link. -/
def portOf (s : State) (p : VPort) : PortState :=
  match p with
  | .hcs0 => s.link.hcs0
  | .uart => s.link.uart

/-- The state with a port replaced. -/
def setPort (p : VPort) (x : PortState) (s : State) : State :=
  match p with
  | .hcs0 => { s with link := { s.link with hcs0 := x } }
  | .uart => { s with link := { s.link with uart := x } }

/-- The length of an output packet (R333). -/
def OutPkt.size (o : OutPkt) : Nat := 12 + o.payload.length

/-- The bytes of an output packet (R333, R335). -/
def OutPkt.bytes (o : OutPkt) : Bytes :=
  let b := [0xC3, o.verFlags, o.code, o.status] ++ le 2 o.tag.toNat ++ le 2 o.payload.length ++ o.payload
  b ++ le 4 (crc32c b).toNat

/-- Room taken in the output queue outside the reserve, the replies of taken commands counted (R346). -/
def outUsed (p : PortState) : Nat :=
  (p.outq.map fun o => if o.reserve then 0 else o.size).sum +
  (p.opn.map fun w => match w.pkt with
    | some o => if o.reserve then 0 else o.size
    | none => w.room).sum

/-- Room taken in the reserve (R346). -/
def reserveUsed (p : PortState) : Nat :=
  (p.outq.map fun o => if o.reserve then o.size else 0).sum +
  (p.opn.map fun w => match w.pkt with
    | some o => if o.reserve then o.size else 0
    | none => 0).sum

/-- Input buffers occupied: commands taken and not answered (R346). -/
def bufsUsed (p : PortState) : Nat := (p.opn.filter fun w => w.pkt.isNone).length

/-- Bytes free in the output queue outside the reserve (R346). -/
def outRoom (p : PortState) : Nat := 8192 - 384 - outUsed p

/-- RX_READY (R346). -/
def rxReady (p : PortState) : Bool := bufsUsed p < 2 && 2060 ≤ outRoom p && reserveUsed p == 0

/-- A command is taken on a port: it opens a slot with room for its reply (R337, R346). -/
def openSlot (r : ReplyTo) (room : Nat) (s : State) : State :=
  let ps := portOf s r.port
  let s := setPort r.port { ps with opn := ps.opn ++ [{ ret := r, room := room, pkt := none }] } s
  { s with link := { s.link with nextSlot := s.link.nextSlot + 1 } }

/-- The packet of a reply (R334, R337). -/
def replyPkt (r : ReplyTo) (status : Byte) (payload : Bytes) (reserve : Bool) : OutPkt :=
  { verFlags := 0x21 ||| (r.flags &&& 4), code := r.opcode, status := status, tag := r.tag, payload := payload,
    reserve := reserve, slot := some r.slot }

/-- Counting of BUSY_RETRY and DUP_TAG replies (R364, R366). -/
def countStatus (status : Byte) (s : State) : State :=
  if status = 0x20 then raise 0x40010008 0x08 (regInc 0x40010030 16 s)
  else if status = 0x14 then regInc 0x40010034 16 s
  else s

/-- The reply of a slot is known; it leaves in the order of the commands (R337). -/
def reply (r : ReplyTo) (status : Byte) (payload : Bytes) (s : State) : State :=
  let ps := portOf s r.port
  let s := setPort r.port { ps with
    opn := modFirst (fun w => w.ret.slot == r.slot && w.pkt.isNone) (fun w => { w with pkt := some (replyPkt r status payload false) }) ps.opn } s
  countStatus status s

/-- The payload of a refusal: OFFSET, CODE, reserved (R338). -/
def refusalBytes (offset code : Nat) : Bytes := le 2 offset ++ [byte code, 0]

/-- A reply that refuses with OFFSET and CODE. -/
def refuse (r : ReplyTo) (status : Byte) (offset code : Nat) (s : State) : State :=
  reply r status (refusalBytes offset code) s

/-- The payload of BUSY_RETRY (R338); the suggested wait is 0, at once (DESIGN CHOICE, log 12). -/
def busyBytes (cause : Nat) : Bytes := le 2 0 ++ [byte cause, 0]

/-- A host-event packet (R352). -/
def eventPkt (code : Byte) (tag : Half) (payload : Bytes) : OutPkt :=
  { verFlags := 0x23, code := code, status := 0, tag := tag, payload := payload, reserve := false, slot := none }

/-- An event that found no room on a port is counted for EVT_LOST (R346, R353). -/
def loseEvent (p : VPort) (code : Byte) (s : State) : State :=
  let bump := fun (l : Nat × Byte) => (min (l.1 + 1) 0xFFFF, if l.1 = 0 then code else l.2)
  let s := match p with
    | .hcs0 => { s with link := { s.link with lostHcs0 := bump s.link.lostHcs0 } }
    | .uart => { s with link := { s.link with lostUart := bump s.link.lostUart } }
  raise 0x40010008 0x10 (regInc 0x40010038 16 s)

/-- An event packet joins a port's queue when there is room outside the reserve (R346). -/
def queueEvent (p : VPort) (o : OutPkt) (s : State) : State :=
  let ps := portOf s p
  if o.size ≤ outRoom ps then setPort p { ps with outq := ps.outq ++ [o] } s else loseEvent p o.code s

/-- HIF_EVT_MASK bit of an event code; none for codes that are not maskable (R353). -/
def evtMaskBit (code : Byte) : Option Nat :=
  match code.toNat with
  | 0x10 => some 0 | 0x11 => some 1 | 0x12 => some 2 | 0x13 => some 3 | 0x20 => some 4 | 0x21 => some 5
  | 0x30 => some 6 | 0x31 => some 7 | 0x40 => some 8 | 0x41 => some 9 | 0x50 => some 10 | _ => none

/-- Ports of EVT_DEST (R365). -/
def evtPorts (s : State) : List VPort :=
  match regFld s 0x40010000 2 2 with
  | 0 => [.hcs0]
  | 1 => [.uart]
  | _ => [.hcs0, .uart]

/-- A maskable event goes to the ports of EVT_DEST when its mask bit is 1 (R352). -/
def hostEvent (code : Byte) (payload : Bytes) (s : State) : State :=
  match evtMaskBit code with
  | none => s
  | some b => if regBit s 0x4001000C b then (evtPorts s).foldl (fun s p => queueEvent p (eventPkt code 0 payload) s) s else s

/-- The ports the RESET event goes to (R352). -/
def resetPorts (s : State) : List VPort := if regBit s 0x40010000 1 then [.hcs0, .uart] else [.hcs0]

/-! ### Consumption of output (R341, R345, R364, R377) -/

/-- What follows the consumption of an output packet: configuration writes that waited for their reply take effect, a
requested reset may come, a COMPLETE needs no repeat. -/
def afterConsumed (o : OutPkt) (s : State) : State :=
  match o.slot with
  | some id =>
    let s := { s with link := { s.link with cfgPend := s.link.cfgPend.map fun (c : Nat × Word × Option Nat) => if c.2.2 = some id then (c.1, c.2.1, none) else c } }
    match s.link.afterReply with
    | some (w, some i) => if i = id then { s with link := { s.link with afterReply := some (w, none) } } else s
    | _ => s
  | none =>
    if o.code = 0x01 then
      let done := fun (w : Work) => w.tag == o.tag && w.state == .done
      { s with jrn := { s.jrn with
          works := modAll (fun w => done w && o.tag != 0) (fun w => { w with completeDue := false }) s.jrn.works,
          loose := if o.tag = 0 then s.jrn.loose.eraseP done else s.jrn.loose } }
    else s

/-- Answered commands at the head of a port's order move to its output queue (R337); a packet that reaches the queue of HCS0_N in pulse mode
pulses HIRQ_N (R347). -/
def releaseReplies (p : VPort) (s : State) : State :=
  let ps := portOf s p
  let ready := (ps.opn.takeWhile fun w => w.pkt.isSome).filterMap (·.pkt)
  let s := setPort p { ps with outq := ps.outq ++ ready, opn := ps.opn.dropWhile fun w => w.pkt.isSome } s
  if p = .hcs0 ∧ ready ≠ [] ∧ regBit s 0x40010000 0 then emitOut .hirqPulse s else s

/-- The UART sends what is queued, each packet consumed once sent (R345); nothing while UART_EN is 0 (R365). -/
def sendUart (s : State) : State :=
  if regBit s 0x40010000 1 then
    let q := s.link.uart.outq
    let s := setPort .uart { s.link.uart with outq := [], last := q.getLast?.or s.link.uart.last } s
    q.foldl (fun s o => afterConsumed o (emitOut (.uartTx o.bytes) s)) s
  else s

/-- The COMPLETE event of a DONE record (R353). -/
def completePkt (w : Work) : OutPkt :=
  eventPkt 0x01 w.tag ([w.status, 0] ++ le 2 w.result.length ++ w.result)

/-- The COMPLETE event of this tag stands in a port's queue. -/
def completeQueued (s : State) (w : Work) : Bool := (portOf s w.src).outq.any fun o => o == completePkt w

/-- The COMPLETE event is queued when there is room; otherwise it stays due (R346). -/
def queueComplete (w : Work) (s : State) : State :=
  let ps := portOf s w.src
  let o := completePkt w
  if !w.completeDue || completeQueued s w then s
  else if o.size ≤ outRoom ps then setPort w.src { ps with outq := ps.outq ++ [o] } s else s

/-- EVT_LOST goes out when it has room (R346, R353). -/
def queueLost (p : VPort) (s : State) : State :=
  let l := match p with | .hcs0 => s.link.lostHcs0 | .uart => s.link.lostUart
  let ps := portOf s p
  if l.1 = 0 ∨ outRoom ps < 16 then s
  else
    let s := setPort p { ps with outq := ps.outq ++ [eventPkt 0x03 0 (le 2 l.1 ++ [l.2, 0])] } s
    match p with
    | .hcs0 => { s with link := { s.link with lostHcs0 := (0, 0) } }
    | .uart => { s with link := { s.link with lostUart := (0, 0) } }

/-- The COMPLETE event of every DONE record that has not been consumed is raised again where room has come free (R346); nothing before the
RESET event of Noon. -/
def requeueComplete (s : State) : State :=
  (s.jrn.works ++ s.jrn.loose).foldl (fun s w => if awake s && w.state == .done && w.completeDue then queueComplete w s else s) s

/-- A version 1 reply that is not IN_PROGRESS waits (R361). -/
def v1Ready (s : State) : Bool :=
  match s.link.v1Reply with
  | some r => byteAt r 0 != 0x03
  | none => false

/-- The level of HIRQ_N in level mode: low while output is pending (R347); true is high. -/
def hirqLevel (s : State) : Bool :=
  if !s.link.answers then true
  else if regBit s 0x40010000 0 then true
  else !(s.link.hcs0.outq != [] || (regBit s 0x40010014 2 && v1Ready s))

/-- The end of every command: replies in order to the queues, the UART, HIRQ_N; no read-back is left for the commits of another command. -/
def settle (s : State) : State :=
  let s := sendUart (releaseReplies .uart (releaseReplies .hcs0 s))
  { s with link := { s.link with hirq := hirqLevel s }, fer := { s.fer with reads := [] } }

/-- A meaning: the effect `f` between the start and the end that every command shares, on everything but the queue of waiting commands. -/
def act (f : State → State) (s : State) : Host.Outcome State Fault Refusal := .next { settle (f (fresh s)) with pending := s.pending }

/-! ### Fault records (R533–R535) -/

/-- The 16 bytes of a fault record (R533). -/
def FaultRec.bytes (f : FaultRec) : Bytes :=
  le 2 f.seq ++ le 2 f.detector ++ [byte f.severity, byte f.unit, byte f.action, byte f.flags] ++ le 4 f.info.toNat ++ le 4 f.time.toNat

/-- A record of this detector and unit was written within 100 ms (R535). -/
def faultRecent (det unit : Nat) (s : State) : Bool :=
  s.saf.recent.any fun r => r.1 == det && r.2.1 == unit && decide (ticksFrom r.2.2 (now s) < 100000)

/-- A fault record is written into the ring and reported, or counted as suppressed (R533, R535, R544). -/
def fault (det sev unit action flags : Nat) (info : Word) (s : State) : State :=
  if sev < 4 && faultRecent det unit s then regInc 0x40100040 16 s
  else
    let f : FaultRec :=
      { seq := (s.saf.nextSeq + 1) % 65536, detector := det, severity := sev, unit := unit, action := action,
        flags := flags, info := info, time := now s }
    let s := { s with saf := { s.saf with
      faults := (f :: s.saf.faults).take 64, nextSeq := f.seq, sinceDawn := min (s.saf.sinceDawn + 1) 0xFFFF,
      recent := (det, unit, now s) :: s.saf.recent.filter fun r => !(r.1 == det && r.2.1 == unit) } }
    hostEvent 0x30 f.bytes (raise 0x40100004 0x02 s)

/-! ### Key store and NVM events -/

/-- Number of STATE in KST_STATUS (R294). -/
def KsState.code : KsState → Nat
  | .closed => 0 | .opening => 1 | .open => 2 | .lockdown => 3 | .tamperHold => 4 | .rootFail => 5

/-- The handle of which this work may be a key update (R282): that of KEY_UPDATE, or the coupling or immobiliser key's in PROVISION. -/
def Work.updates (w : Work) : Option Nat :=
  match w.opcode.toNat with
  | 0x36 => some (byteAt w.payload 0)
  | 0x3F => (match byteAt w.payload 0 with
    | 1 => some 192
    | 2 => none
    | _ => some 193)
  | _ => none

/-- The handle that this work updates on KE0 now: its step 1 has been journaled, its step 3 has not ended (R278, R282, R294). -/
def Work.updating (w : Work) : Option Nat := if w.state != .done && decide (1 ≤ w.step) then w.updates else none

/-- KST_STATUS (R294). -/
def kstStatus (s : State) : Nat :=
  s.ks.state.code + 8 * b2n (s.ks.slots.any (·.busy)) + 16 * b2n s.ks.testRoot + 32 * (48 - s.ks.slots.length) +
  2 ^ 11 * b2n ((s.jrn.works ++ s.jrn.loose).any fun w => w.updating.isSome) +
  2 ^ 12 * s.ks.nonces.length + 2 ^ 15 * b2n s.ks.session.isSome

/-- Bits of KST_EVENTS are raised with the KEY event (R296, R353). -/
def raiseKst (bits : Nat) (s : State) : State :=
  let s := raise 0x40080008 bits s
  hostEvent 0x40 (le 4 bits ++ le 4 (kstStatus s)) s

/-- Bits of NVM_EVENTS are raised with the NVM event (R330, R353). -/
def raiseNvm (bits : Nat) (s : State) : State :=
  let s := raise 0x40090008 bits s
  hostEvent 0x41 (le 4 bits ++ le 4 (regGet s 0x4009001C).toNat) s

/-! ### Live injections (R536, R537) -/

/-- PARAM of the live injection that acts on a detector now (R536). -/
def injected (det : Nat) (s : State) : Option Nat :=
  match s.saf.inject with
  | some i => if i.acted && i.detector == det then some i.param else none
  | none => none

/-- An injection reaches its final OUTCOME (R536, R537). -/
def injectEnd (outcome action seq : Nat) (s : State) : State :=
  let s := regSet 0x40100038 (word (outcome + 256 * action + 65536 * seq)) { s with saf := { s.saf with inject := none } }
  raise 0x40100004 8 s

/-- A fault record that a real fault or, with `inj`, a live injection causes; the injection then has its outcome (R536). -/
def faultBy (inj : Bool) (outcome det sev unit action flags : Nat) (info : Word) (s : State) : State :=
  let s' := fault det sev unit action (flags ||| b2n inj) info s
  if inj then injectEnd outcome action (if s'.saf.nextSeq = s.saf.nextSeq then 0xFFFF else s'.saf.nextSeq) s' else s'

/-! ### Monotonic counters (R309–R311) -/

/-- Counter `c`; a counter never written reads 0 from both slots. -/
def ctrOf (s : State) (c : Nat) : Counter :=
  (s.fer.counters.find? (·.index == c)).getD { index := c, a := { value := 0, ok := true }, b := { value := 0, ok := true } }

/-- The value of a counter: the greater of its valid slots; none with both failing (R310). -/
def Counter.read (x : Counter) : Option Nat :=
  match x.a.ok, x.b.ok with
  | true, true => some (max x.a.value x.b.value)
  | true, false => some x.a.value
  | false, true => some x.b.value
  | false, false => none

/-- The value of a counter. -/
def ctrRead (s : State) (c : Nat) : Option Nat := (ctrOf s c).read

/-- An increment writes slot B: the slot whose CRC fails, or the lesser, slot A on equal values (R310, R311). -/
def Counter.writesB (x : Counter) : Bool :=
  if !x.a.ok then false else if !x.b.ok then true else decide (x.b.value < x.a.value)

/-- The counter with the slot of an increment changed. -/
def Counter.put (x : Counter) (slot : CounterSlot) : Counter := if x.writesB then { x with b := slot } else { x with a := slot }

/-- The state with a counter replaced. -/
def setCtr (x : Counter) (s : State) : State :=
  { s with fer := { s.fer with counters := x :: s.fer.counters.filter (·.index != x.index) } }

/-- A whole increment: the slot is written and read back (R310). Nothing at the maximum or with both slots failing. -/
def ctrInc (c : Nat) (s : State) : State :=
  let x := ctrOf s c
  match x.read with
  | none => s
  | some v => if v ≥ 2 ^ 64 - 1 then s else setCtr (x.put { value := v + 1, ok := true }) s

/-! ### Pages of the FeRAM (R298–R305) -/

/-- The copies of a unit in a list of those that have been written; one never written has both copies valid with GEN 0. -/
def metaIn (l : List PageMeta) (n : Nat) : PageMeta :=
  (l.find? (·.page == n)).getD { page := n, c0 := { gen := 0, ok := true }, c1 := { gen := 0, ok := true }, degraded := none }

/-- The list with the copies of a unit changed. -/
def metaPut (m : PageMeta) (l : List PageMeta) : List PageMeta := m :: l.filter (·.page != m.page)

/-- What the copies of a page hold (R301). -/
def metaOf (s : State) (page : Nat) : PageMeta := metaIn s.fer.pages page

/-- The state with the copies of a page changed. -/
def setMeta (m : PageMeta) (s : State) : State := { s with fer := { s.fer with pages := metaPut m s.fer.pages } }

/-- Generation `g1` is newer than `g2` (R303). -/
def genNewer (g1 g2 : Word) : Bool := 1 ≤ (g1 - g2).toNat && (g1 - g2).toNat ≤ 2 ^ 31 - 1

/-- Copy 1 is the copy a read takes (R303). -/
def PageMeta.reads1 (m : PageMeta) : Bool :=
  if m.c0.ok && m.c1.ok then genNewer m.c1.gen m.c0.gen else m.c1.ok

/-- The page has a valid copy (R303). -/
def PageMeta.readable (m : PageMeta) : Bool := m.c0.ok || m.c1.ok

/-- The newest valid GEN; the greater of the two fields found when neither copy is valid (R303). -/
def PageMeta.newest (m : PageMeta) : Word :=
  if m.readable then (if m.reads1 then m.c1.gen else m.c0.gen)
  else if m.c0.gen.toNat ≥ m.c1.gen.toNat then m.c0.gen else m.c1.gen

/-- Copy 1 is copy A of the next commit (R301). -/
def PageMeta.copyA1 (m : PageMeta) : Bool :=
  if m.c0.ok && m.c1.ok && m.c0.gen == m.c1.gen then false
  else if m.readable then !m.reads1 else false

/-- The copies after a whole commit with these read-backs (R301, R302). -/
def PageMeta.commit (m : PageMeta) (rb : ReadBack) : PageMeta :=
  let g := m.newest + 1
  match m.degraded with
  | some false => { m with c1 := { gen := g, ok := rb.a != 2 } }
  | some true => { m with c0 := { gen := g, ok := rb.a != 2 } }
  | none =>
    let a1 := m.copyA1
    let ca : CopyMeta := { gen := g, ok := rb.a != 2 }
    let cb : CopyMeta := { gen := g, ok := rb.b != 2 }
    { m with c0 := if a1 then cb else ca, c1 := if a1 then ca else cb,
             degraded := if rb.a = 2 then some a1 else if rb.b = 2 then some (!a1) else none }

/-- KEYS, JOURNAL, CONFIG, USER, SHADOW: first page and length of each partition, BOOT first (R299). -/
def partitions : List (Nat × Nat) := [(0, 576), (576, 480), (1056, 256), (1312, 64), (1376, 528), (1904, 16)]

/-- The number of the partition of a page (R299). -/
def partOf (page : Nat) : Nat :=
  if page < 576 then 0 else if page < 1056 then 1 else if page < 1312 then 2 else if page < 1376 then 3
  else if page < 1904 then 4 else 5

/-- What a commit leaves to tell (R302, R330): NVM_COMMIT_CNT, and a unit that became DEGRADED. A journal record, a ring entry and a CONFIG item have no page
number; what stands for it is a free value (log 120). -/
def commitTell (page : Option Nat) (old new : PageMeta) (s : State) : State :=
  let s := regInc 0x4009000C 32 s
  if new.degraded.isSome ∧ old.degraded.isNone then
    let copy := b2n (new.degraded.getD false)
    let x := match page with
      | some p => (p, s)
      | none => ((peek s 0).toNat % 2048, draw 1 s)
    let s := regSet 0x4009001C (word (x.1 + 2048 * copy + 2 * 4096)) x.2
    raiseNvm 8 (fault 0x0005 3 copy 0 0 (word (x.1 + 2048 * copy)) s)
  else s

/-- The state after a commit of a page: its copies, NVM_COMMIT_CNT, and a page that became DEGRADED (R302, R330). A write that covers only part of a page without a valid
copy leaves KIND 3 for the page (R303). -/
def pageCommit (page : Nat) (whole : Bool) (rb : ReadBack) (s : State) : State :=
  let m := metaOf s page
  let m' := m.commit rb
  let s := setMeta m' s
  commitTell (some page) m m' (if !m.readable && !whole then regSet 0x4009001C (word (page + 3 * 4096)) s else s)

/-- How the next commit that E8 makes by itself reads back, and the state without it (R302). -/
def takeRead (s : State) : ReadBack × State := (s.fer.reads.headD { a := 0, b := 0 }, { s with fer := { s.fer with reads := s.fer.reads.tail } })

/-- A page commit that E8 makes by itself. -/
def ownCommit (page : Nat) (whole : Bool) (s : State) : State := let x := takeRead s; pageCommit page whole x.1 x.2

/-- A CONFIG item is committed (R299, R301): its own copies take it; which page it lies in is not stated (log 80). -/
def configCommit (item : Nat) (s : State) : State :=
  let x := takeRead s
  let m := metaIn s.fer.config item
  let m' := m.commit x.1
  commitTell none m m' { x.2 with fer := { x.2.fer with config := metaPut m' x.2.fer.config } }

/-- Numbers of a ring entry by its completion number, and of an internal record, among the copies of the journal (R317, R318). -/
def ringUnit (num : Nat) : Nat := 32 + num % 64
def internalUnit (i : Nat) : Nat := 96 + i

/-- A journal record or ring entry is committed (R317). -/
def jrnCommit (unit : Nat) (s : State) : State :=
  if !s.jrn.enabled then s
  else
    let x := takeRead s
    let m := metaIn s.jrn.copies unit
    let m' := m.commit x.1
    commitTell none m m' { x.2 with jrn := { x.2.jrn with copies := metaPut m' x.2.jrn.copies } }

/-- Bytes that FeRAM pages read as when nothing was written: BOOT as Irvenstol wrote it, USER zero (DESIGN CHOICE, log 8). -/
def feramDefault (a : Nat) : Byte := if a < 0x24000 then bootDefault a else 0

/-- The stored byte at a logical address of BOOT or USER. -/
def feramByte (s : State) (a : Nat) : Byte := kvGet feramDefault s.fer.mem a

/-- The state with stored bytes of BOOT or USER changed. -/
def feramPut (a : Nat) (bs : Bytes) (s : State) : State :=
  { s with fer := { s.fer with mem := bs.zipIdx.foldl (fun m p => kvSet feramDefault m (a + p.2) p.1) s.fer.mem } }

/-- The region of a USER page, if any (R313, R332). -/
def regionOfPage (s : State) (page : Nat) : Option (Nat × Region) :=
  if page < 1376 then none
  else (s.fer.regions.zipIdx.find? fun r => decide (r.1.start ≤ page - 1376 ∧ page - 1376 < r.1.start + r.1.pages)).map fun r => (r.2, r.1)

/-- The page lies in an ENC region. -/
def pageEnc (s : State) (page : Nat) : Bool :=
  match regionOfPage s page with
  | some (_, r) => r.enc
  | none => false

/-- The 128-bit counter block of ENC storage (R316). -/
def encBlock (page : Nat) (gen : Word) (i : Nat) : Bytes := le 2 page ++ le 4 gen.toNat ++ zeros 6 ++ le 4 i

/-- A page's plain bytes under the storage key, or its cipher bytes: counter mode is its own inverse (R316). -/
def encPage (s : State) (page : Nat) (gen : Word) (bs : Bytes) : Bytes :=
  match s.ks.storage with
  | some k => aesCtr k (encBlock page gen) bs
  | none => bs

/-- The 256 bytes of a BOOT or USER page as a host read sees them (R303, R316). -/
def userPage (s : State) (page : Nat) : Bytes :=
  let raw := (List.range 256).map fun i => feramByte s (256 * page + i)
  if pageEnc s page then encPage s page (metaOf s page).newest raw else raw

/-- The part of a write that falls into a page: offset in the page and bytes. -/
def pagePart (addr : Nat) (data : Bytes) (page : Nat) : Nat × Bytes :=
  if addr ≥ 256 * page then (addr - 256 * page, data.take (256 * page + 256 - addr))
  else (0, slice data (256 * page - addr) 256)

/-- The bytes that the copies of a page of BOOT or USER take in a commit (R301, R303, R316): the page with the part of the write that falls into it, zero for what no copy
can tell, under the storage key in an ENC region. -/
def mergedPage (addr : Nat) (data : Bytes) (page : Nat) (s : State) : Bytes :=
  let old := if (metaOf s page).readable then userPage s page else zeros 256
  let p := pagePart addr data page
  let new := fit 256 (old.take p.1 ++ p.2 ++ old.drop (p.1 + p.2.length))
  if pageEnc s page then encPage s page ((metaOf s page).newest + 1) new else new

/-- One page of a write to BOOT or USER is merged and committed (R301, R303, R305, R316). -/
def pageWrite (addr : Nat) (data : Bytes) (page : Nat) (rb : ReadBack) (s : State) : State :=
  feramPut (256 * page) (mergedPage addr data page s) (pageCommit page ((pagePart addr data page).2.length == 256) rb s)

/-- The stored bytes of a page (R301). -/
def storedPage (s : State) (page : Nat) : Bytes := (List.range 256).map fun i => feramByte s (256 * page + i)

/-- The commit is of journal records, not of a page. -/
def Commit.isAcceptance (c : Commit) : Bool :=
  match c.kind with
  | .acceptance _ => true
  | _ => false

/-- The bytes that the page of a commit takes. -/
def Commit.stored (c : Commit) (s : State) : Bytes := if c.raw then c.data else mergedPage c.addr c.data (c.addr / 256) s

/-- Pages that a byte range touches (R305). -/
def pagesOf (addr len : Nat) : List Nat :=
  if len = 0 then [] else (List.range ((addr + len - 1) / 256 - addr / 256 + 1)).map fun i => addr / 256 + i

/-- A copy that fails its CRC is counted and repaired from the other (R303, R304). -/
def repairPage (page : Nat) (s : State) : State :=
  let m := metaOf s page
  if m.degraded.isSome then s
  else if m.c0.ok != m.c1.ok then
    let g := m.newest
    let copy := b2n m.c0.ok
    let s := setMeta { m with c0 := { gen := g, ok := true }, c1 := { gen := g, ok := true } } s
    raiseNvm 2 (regSet 0x4009001C (word (page + 2048 * copy + 4096)) (regInc 0x40090010 16 s))
  else s

/-- A read of a page with no valid copy is counted (R303). -/
def readFailed (page : Nat) (s : State) : State :=
  raiseNvm 4 (regSet 0x4009001C (word (page + 3 * 4096)) (regInc 0x40090014 16 s))

/-- A commit is in flight: the first of the queue. -/
def inFlight (s : State) : Option Commit := if s.fer.gap then none else s.fer.commits.head?

/-- A commit of any kind is in flight (R304), or E8 restarts (R41). -/
def commitBusy (s : State) : Bool := (inFlight s).isSome || (engOf s 8).restartDue

/-- A copy of a page fails its CRC from now on: the page reads as its other copy holds it (R303). -/
def copyFails (page : Nat) (second : Bool) (s : State) : State :=
  let m := metaOf s page
  let s := match (if second then m.c0.stale else m.c1.stale) with
    | some b => if m.reads1 = second then feramPut (256 * page) b s else s
    | none => s
  setMeta (if second then { m with c1 := { m.c1 with ok := false } } else { m with c0 := { m.c0 with ok := false } }) s

/-! ### Journal views -/

/-- Works of the journal or of SRAM with this state. -/
def countWorks (s : State) (f : Work → Bool) : Nat := (s.jrn.works.filter f).length

/-- NVM_JRN_STAT (R331). -/
def jrnStat (s : State) : Nat :=
  countWorks s (fun _ => true) + 64 * countWorks s (fun w => w.state != .done) + 2 ^ 12 * countWorks s (fun w => w.state == .done) +
  2 ^ 18 * min 64 s.jrn.ring.length + 2 ^ 25 * s.jrn.internal.length

end Sys2Proof.Machine
end

