-- ==== Sys2Proof/Machine/KeyOps.lean ====
section
/-! DEFINITION. The key store's operations: root, derivation, blobs, handles, slots, credentials, attestation and zeroisation
(R259–R292). A refusal of a key operation is a status with its CODE, or with the CAUSE where the status is BUSY_RETRY. -/
namespace Sys2Proof.Machine

/-! ### Status codes (R357) -/

def stOk : Byte := 0x00
def stAccepted : Byte := 0x01
def stQueuedDawn : Byte := 0x02
def stInProgress : Byte := 0x03
def stBadOpcode : Byte := 0x10
def stBadField : Byte := 0x11
def stBadLength : Byte := 0x12
def stBadCrc : Byte := 0x13
def stDupTag : Byte := 0x14
def stBusyRetry : Byte := 0x20
def stNvmBusy : Byte := 0x21
def stDenied : Byte := 0x30
def stLocked : Byte := 0x31
def stTamper : Byte := 0x32
def stCurfew : Byte := 0x33
def stLate : Byte := 0x40
def stTimeout : Byte := 0x41
def stPartnerAbsent : Byte := 0x42
def stHwFault : Byte := 0x50

/-- A refusal: status, and CODE (or CAUSE of a BUSY_RETRY). -/
abbrev Refused := Byte × Nat

/-! ### Root and derivation (R260–R264, R288) -/

/-- The number of the active root set: the lowest committed and not void (R260). -/
def activeSet (sets : List RootSet) : Option Nat := (positions (fun r => r.commit && !r.void) sets).head?

/-- The root as the 32 bytes the masked core uses, most significant first (DEDUCED, log 17); the test root when it is in use (R288). -/
def rootBytes (s : State) : Option Bytes :=
  if s.ks.testRoot then some (be 32 Config.testRoot)
  else match s.ks.shares with
    | some (a, b) => some (be 32 (a ^^^ b))
    | none => none

/-- The state with the keys of R264 derived from the loaded root. -/
def deriveKeys (s : State) : State :=
  match rootBytes s with
  | none => s
  | some r =>
    { s with ks := { s.ks with
        kwk := some (kdf r (ascii "OZS-KWK") uidBytes 256),
        storage := some (kdf r (ascii "OZS-STO") uidBytes 256),
        attD := some (attScalar (kdf r (ascii "OZS-ATT") uidBytes 320)) } }

/-- All slots read zero (R290). -/
def zeroiseSlots (s : State) : State :=
  let s := { s with ks := { s.ks with slots := [], session := none } }
  let s := regInc 0x40080018 16 (regSet 0x40080014 (now s) s)
  raiseKst 1 s

/-- A commit in flight completes whatever happens to the key store (R326): the bytes that its page of an ENC region takes have been made with the storage key. -/
def sealHead (s : State) : State :=
  match s.fer.gap, s.fer.commits with
  | false, c :: rest =>
    if s.ks.storage.isSome && !c.isAcceptance && pageEnc s (c.addr / 256) then
      { s with fer := { s.fer with commits := { c with addr := 256 * (c.addr / 256), data := c.stored s, raw := true } :: rest } }
    else s
  | _, _ => s

/-- Slots, share registers, derived keys and RNG response registers read zero (R289). -/
def zeroiseAll (s : State) : State :=
  let s := sealHead s
  let s := { s with ks := { s.ks with shares := none, kwk := none, storage := none, attD := none },
                    rng := { s.rng with resp := none } }
  zeroiseSlots s

/-! ### Refusals of R291 -/

/-- Why the key store refuses every operation now; none when it is OPEN (R291). -/
def ksRefusal (s : State) : Option Refused :=
  match s.ks.state with
  | .open => none
  | .lockdown => some (stTamper, 0)
  | .tamperHold => some (stTamper, 0)
  | .rootFail => some (stHwFault, 0)
  | .closed => if s.ks.closedByCtrl then some (stDenied, 8) else some (stBusyRetry, 6)
  | .opening => some (stBusyRetry, 6)

/-- Bookkeeping of a refused key operation: a failed unwrap and a missing usage are counted (R271, R273). -/
def countKeyRefusal (r : Refused) (s : State) : State :=
  if r.1 = stDenied ∧ r.2 = 0x0A then raiseKst 2 (regInc 0x4008001C 16 s)
  else if r.1 = stDenied ∧ r.2 = 0x05 then raiseKst 4 (regInc 0x40080020 16 s)
  else s

/-- Blob-store handle of a sensor record's key (R276). -/
def snsHandle (r : Nat) : Nat := 64 + r

/-! ### Blobs (R269–R273) -/

/-- Bytes of key material of a key type; none for a reserved type (R270). -/
def keyLen (ktype : Nat) : Option Nat :=
  match ktype with
  | 1 => some 16 | 2 => some 32 | 3 => some 32 | 4 => some 32 | 5 => some 64 | _ => none

/-- Size of a blob with `k` bytes of key material (R269). -/
def blobSize (k : Nat) : Nat := 32 + 8 * ((32 + k + 7) / 8) + 8

/-- The 32 bytes of a clear header (R269). -/
def BlobHeader.bytes (h : BlobHeader) : Bytes :=
  le 2 h.magic ++ le 1 h.version ++ le 1 h.ktype ++ le 2 h.usage ++ le 1 h.attr ++ le 1 h.epochIdx ++ le 8 h.epochVal ++
  le 8 h.keyId ++ le 4 h.owner ++ zeros 4

/-- The header that 32 bytes spell. -/
def headerOf (b : Bytes) : BlobHeader :=
  { magic := at_ b 0 2, version := at_ b 2 1, ktype := at_ b 3 1, usage := at_ b 4 2, attr := at_ b 6 1, epochIdx := at_ b 7 1,
    epochVal := at_ b 8 8, keyId := at_ b 16 8, owner := at_ b 24 4 }

/-- Check 1 of R273. -/
def headerCheck (b : Bytes) : Option Refused :=
  let h := headerOf b
  match keyLen h.ktype with
  | none => some (stBadField, 2)
  | some k =>
    if b.length ≠ blobSize k then some (stBadLength, 0)
    else if h.magic ≠ 0x4B42 ∨ h.version ≠ 1 ∨ h.usage ≥ 128 ∨ h.attr ≥ 32 ∨ (h.epochIdx > 31 ∧ h.epochIdx ≠ 0xFF) ∨
        h.keyId = 0 ∨ (h.owner ≠ 0 ∧ !bit h.attr 3) ∨ at_ b 28 4 ≠ 0 then some (stBadField, 2)
    else none

/-- Checks 1–4 of R273: the header and the key material of a blob under the present root. -/
def openBlob (s : State) (b : Bytes) : Except Refused (BlobHeader × Bytes) :=
  match headerCheck b, s.ks.kwk with
  | some r, _ => .error r
  | none, none => .error (stDenied, 0x0A)
  | none, some kwk =>
    let h := headerOf b
    if bit h.attr 2 != s.ks.testRoot then .error (stDenied, 8)
    else match aesKwpInv kwk (b.drop 32) with
      | none => .error (stDenied, 0x0A)
      | some pt => if pt.take 32 = b.take 32 ∧ (some (pt.length - 32)) = keyLen h.ktype then .ok (h, pt.drop 32) else .error (stDenied, 0x0A)

/-- The blob of a header and key material (R269). -/
def mkBlob (s : State) (h : BlobHeader) (key : Bytes) : Bytes :=
  h.bytes ++ aesKwp (s.ks.kwk.getD (zeros 32)) (h.bytes ++ key)

/-- A header for a new key: ORIGIN as the key store sets it, TEST as the root stands (R269, R272, R288). -/
def newHeader (s : State) (ktype usage attrBits : Nat) (origin : Bool) (epochIdx epochVal keyId : Nat) : BlobHeader :=
  { magic := 0x4B42, version := 1, ktype := ktype, usage := usage,
    attr := (attrBits &&& 0x1A) ||| b2n origin ||| (4 * b2n s.ks.testRoot), epochIdx := epochIdx, epochVal := epochVal,
    keyId := keyId, owner := 0 }

/-- The value of epoch counter KEe; 0 when it cannot be read. -/
def epochOf (s : State) (e : Nat) : Nat := (ctrRead s e).getD 0

/-- Check 5 of R273 for a host-held blob (R277). -/
def epochOk (s : State) (h : BlobHeader) : Bool := h.epochIdx == 0xFF || h.epochVal == epochOf s h.epochIdx

/-- Check 6 of R273: a bound blob's coupling is still TRUSTED or SUSPENDED. -/
def ownerOk (s : State) (h : BlobHeader) : Bool :=
  if bit h.attr 3 then
    s.cpl.units.any fun c => c.unit == h.owner % 256 && c.serial == h.owner / 256 && (c.state == .trusted || c.state == .suspended)
  else true

/-! ### Handles (R276–R278) -/

/-- A free half (R269). -/
def BlobHalf.free : BlobHalf := { blob := [], readable := true }

/-- Handle `n`. -/
def handleOf (s : State) (n : Nat) : Handle := (s.ks.handles.find? (·.index == n)).getD { index := n, a := .free, b := .free }

/-- The state with a handle replaced. -/
def setHandle (h : Handle) (s : State) : State :=
  { s with ks := { s.ks with handles := h :: s.ks.handles.filter (·.index != h.index) } }

/-- The half is free. -/
def BlobHalf.isFree (h : BlobHalf) : Bool := h.readable && h.blob.isEmpty

/-- A half as a candidate or a PENDING half: header and key, when it passes checks 1–4 (R277). -/
def halfKey (s : State) (h : BlobHalf) : Option (BlobHeader × Bytes) :=
  if h.readable && !h.blob.isEmpty then (openBlob s h.blob).toOption else none

/-- The half is a candidate: it opens and its epoch is not above KE0. -/
def halfCandidate (s : State) (h : BlobHalf) : Option (BlobHeader × Bytes) := (halfKey s h).filter fun p => p.1.epochVal ≤ epochOf s 0

/-- The valid half of a handle: true for half B, with header and key; or the refusal of a load (R277). -/
def validHalf (s : State) (n : Nat) : Except Refused (Bool × BlobHeader × Bytes) :=
  let h := handleOf s n
  match halfCandidate s h.a, halfCandidate s h.b with
  | some x, some y =>
    if x.1.epochVal = y.1.epochVal then .error (stHwFault, 0)
    else if x.1.epochVal > y.1.epochVal then .ok (false, x) else .ok (true, y)
  | some x, none => .ok (false, x)
  | none, some y => .ok (true, y)
  | none, none => if h.a.readable && h.b.readable then .error (stDenied, 0x0D) else .error (stHwFault, 0)

/-- Page of a half (R276). -/
def halfPage (n : Nat) (isB : Bool) : Nat := 576 + 2 * n + b2n isB

/-- One page commit writes a half (R278). -/
def writeHalf (n : Nat) (isB : Bool) (blob : Bytes) (s : State) : State :=
  let h := handleOf s n
  let x : BlobHalf := { blob := blob, readable := true }
  ownCommit (halfPage n isB) true (setHandle (if isB then { h with b := x } else { h with a := x }) s)

/-- A half is retired: written with MAGIC 0x0000 (R278). Nothing for a free half. -/
def retireHalf (n : Nat) (isB : Bool) (s : State) : State :=
  let h := handleOf s n
  if (if isB then h.b else h.a).isFree then s else writeHalf n isB [] s

/-- A handle is destroyed: the half that is not valid first, the valid half last (R278). -/
def destroyHandle (n : Nat) (s : State) : State :=
  match validHalf s n with
  | .ok (true, _) => retireHalf n true (retireHalf n false s)
  | _ => retireHalf n false (retireHalf n true s)

/-- Both halves of a handle are free. -/
def handleFree (s : State) (n : Nat) : Bool := (handleOf s n).a.isFree && (handleOf s n).b.isFree

/-- Scrub at open: every PENDING and every superseded half is retired, but for the halves of an update that recovery resumed
(R278). `spare` names the handles of such updates. -/
def scrub (spare : List Nat) (s : State) : State :=
  s.ks.handles.foldl (fun s h =>
    if spare.contains h.index then s
    else
      let bad := fun (s : State) (x : BlobHalf) (isB : Bool) =>
        match halfKey s x with
        | none => false
        | some (hd, _) => hd.epochVal > epochOf s 0 ||
            (match validHalf s h.index with
             | .ok (v, _) => v != isB
             | .error _ => false)
      let s1 := if bad s h.a false then raiseKst 0x40 (retireHalf h.index false s) else s
      if bad s1 h.b true then raiseKst 0x40 (retireHalf h.index true s1) else s1) s

/-! ### Slots (R279, R280) -/

/-- The key in a slot. -/
def slotOf (s : State) (i : Nat) : Option Slot := s.ks.slots.find? (·.index == i)

/-- A slot is emptied. -/
def dropSlot (i : Nat) (s : State) : State := { s with ks := { s.ks with slots := s.ks.slots.filter (·.index != i) } }

/-- A key is placed in a slot. -/
def putSlot (x : Slot) (s : State) : State :=
  { s with ks := { s.ks with slots := { x with used := s.ks.useClock } :: s.ks.slots.filter (·.index != x.index), useClock := s.ks.useClock + 1 } }

/-- The slot is used now (R280). -/
def touchSlot (i : Nat) (s : State) : State :=
  { s with ks := { s.ks with slots := modAll (·.index == i) (fun x => { x with used := s.ks.useClock }) s.ks.slots, useClock := s.ks.useClock + 1 } }

/-- The lowest free slot of a range. -/
def freeSlot (s : State) (lo n : Nat) : Option Nat := ((List.range n).map (lo + ·)).find? fun i => (slotOf s i).isNone

/-- The least recently used cache slot that is not BUSY. Every operation ends within the command that runs it, so a request that finds every cache slot BUSY has waited
for the least recently used of them (R280, R292; DEDUCED, log 180). -/
def oldestCache (s : State) : Nat :=
  let cache := s.ks.slots.filter fun x => 12 ≤ x.index && x.index ≤ 39
  let free := cache.filter fun x => !x.busy
  ((if free.isEmpty then cache else free).foldl (fun (b : Nat × Nat) x => if x.used < b.1 then (x.used, x.index) else b) (2 ^ 64, 12)).2

/-- A cache slot for a load: the lowest free, or the least recently used one after its eviction (R280). -/
def cacheSlot (s : State) : Nat × State :=
  match freeSlot s 12 28 with
  | some i => (i, s)
  | none => let i := oldestCache s; (i, raiseKst 0x10 (dropSlot i s))

/-- A slot value for key material with its header. -/
def mkSlot (i : Nat) (h : BlobHeader) (ktype usage : Nat) (key : Bytes) (handle : Option Nat) : Slot :=
  { index := i, header := h, ktype := ktype, usage := usage, key := key, handle := handle, busy := false, dropDue := false, used := 0 }

/-- A key stands in a cache slot for use: in the one that holds it already, or in the one its load takes (R279, R280). -/
def cacheLoad (handle : Option Nat) (h : BlobHeader) (key : Bytes) (s : State) : Slot × State :=
  match s.ks.slots.find? (fun x => 12 ≤ x.index && x.index ≤ 39 && x.handle == handle && x.header.keyId == h.keyId && x.header.epochVal == h.epochVal) with
  | some x => (x, touchSlot x.index s)
  | none =>
    let c := cacheSlot s
    let x := mkSlot c.1 h h.ktype h.usage key handle
    (x, putSlot x c.2)

/-- A key of the blob store for an engine's use, loaded into the cache after the checks of R273 (R277, R280). -/
def handleKey (n : Nat) (s : State) : Except Refused (Slot × State) :=
  match ksRefusal s with
  | some r => .error r
  | none =>
    match validHalf s n with
    | .error r => .error r
    | .ok (_, h, key) => if ownerOk s h then .ok (cacheLoad (some n) h key s) else .error (stDenied, 8)

/-- The key of a handle when its usage has one of the bits of `mask`; key bytes and state. -/
def useHandle (n mask : Nat) (s : State) : Except Refused (Bytes × State) :=
  match handleKey n s with
  | .error r => .error r
  | .ok (x, s') => if x.usage &&& mask = 0 then .error (stDenied, 5) else .ok (x.key, s')

/-- The key of a slot when its usage has one of the bits of `mask` (R271). -/
def useSlot (i mask : Nat) (s : State) : Except Refused Slot :=
  match ksRefusal s with
  | some r => .error r
  | none =>
    match slotOf s i with
    | none => .error (stDenied, 0x0D)
    | some x => if x.usage &&& mask = 0 then .error (stDenied, 5) else .ok x

/-- A counter move zeroises the slots whose blobs it makes stale or superseded (R281). -/
def dropStale (e : Nat) (s : State) : State :=
  let v := epochOf s e
  let stale := fun (x : Slot) => x.header.epochIdx == e &&
    (if e = 0 then (match x.handle with
        | some n => (match validHalf s n with
            | .ok (_, h, _) => h.epochVal != x.header.epochVal
            | .error _ => true)
        | none => false)
     else x.header.epochVal != v)
  { s with ks := { s.ks with slots := s.ks.slots.filter fun x => !stale x } }

/-- An epoch counter has been incremented: stale slots are zeroised, EPOCH is raised (R281, R296). -/
def epochMoved (e : Nat) (s : State) : State := raiseKst 8 (dropStale e s)

/-! ### Credentials (R265–R267) -/

/-- The KEYS page of an anchor (R265). -/
def anchorPage (i : Nat) : Nat := if i < 3 then 1028 else 1029

/-- The anchor written at an index; none on a page without a valid copy (R265, R303). -/
def writtenAnchor (s : State) (i : Nat) : Option Anchor :=
  if (metaOf s (anchorPage i)).readable then s.ks.anchors.find? (·.index == i) else none

/-- The VALID anchor of an index. -/
def anchorOf (s : State) (i : Nat) : Option Anchor := (writtenAnchor s i).filter (·.valid)

/-- What a page of KEYS without a valid copy held is zero once it is written in part (R303). -/
def keysZero (page : Nat) (s : State) : State :=
  if (metaOf s page).readable then s
  else if page = 1028 ∨ page = 1029 then { s with ks := { s.ks with anchors := s.ks.anchors.filter fun a => a.index == 5 || anchorPage a.index != page } }
  else if 1030 ≤ page ∧ page < 1038 then { s with acc := { s.acc with tokens := s.acc.tokens.filter fun t => 1030 + t.index / 8 != page } }
  else if page = 1038 then { s with acc := { s.acc with denylist := s.acc.denylist.drop 32 } }
  else if page = 1039 then { s with acc := { s.acc with denylist := s.acc.denylist.take 32 } }
  else if page = 1040 ∨ page = 1041 then { s with sns := { s.sns with fcnt := s.sns.fcnt.filter fun x => 1040 + x.1 / 64 != page } }
  else if page = 1042 then { s with ks := { s.ks with timeFloor := 0 } }
  else s

/-- An item of a KEYS page is written by E8: the rest of a page without a valid copy is zero, then `put` and one page commit (R301, R303). -/
def keysCommit (page : Nat) (put : State → State) (s : State) : State := ownCommit page false (put (keysZero page s))

/-- The time floor rises to the RTC when that is valid, and is committed; it never falls (R266). -/
def raiseFloor (s : State) : State :=
  if s.power.rtcValid && decide (s.ks.timeFloor.toNat < s.power.rtc.toNat) then keysCommit 1042 (fun s => { s with ks := { s.ks with timeFloor := s.power.rtc } }) s else s

/-- The tamper response stands (R528, R530, R532): also with the key store closed by KST_CTRL.CLOSE since. -/
def tamperStands (s : State) : Bool := s.ks.state == .lockdown || s.ks.state == .tamperHold || s.saf.record != 0

/-- The role a certificate of R210 names for a credential (R266). -/
def certRole (b : Bytes) : Option CredRole :=
  match byteAt b 1 with
  | 0x10 => some .dealer
  | 0x11 => some .fleetHost
  | 0x12 => some .service
  | _ => none

/-- NOT_AFTER passes for a credential (R266). -/
def notAfterOk (s : State) (na : Nat) : Bool :=
  na == 0 || (if s.power.rtcValid then decide (s.power.rtc.toNat ≤ na) else decide (s.ks.timeFloor.toNat ≤ na))

/-- The certificate of a credential meets the conditions of R266 but for the role the operation accepts. -/
def certOk (s : State) (cert : Bytes) (anchor : Nat) : Bool :=
  byteAt cert 0 == 1 &&
  match anchorOf s anchor with
  | none => false
  | some a => at_ cert 16 4 == a.keyId.toNat && ecdsaVerify a.pub (sha256 (cert.take 84)) (slice cert 84 64) && notAfterOk s (at_ cert 12 4)

/-- The bytes a credential signs for one nonce (R266). -/
def credDigest (nonce : Bytes) (opcode options : Byte) (tag : Half) (payload : Bytes) : Bytes :=
  sha256 (ascii "OZS-AUTH" ++ nonce ++ [opcode, options] ++ le 2 tag.toNat ++ payload)

/-- A credential check: the verified role, or none with CRED_FAIL counted. The nonce under which the signature verifies is consumed; with
none, every outstanding nonce is (DEDUCED, log 18). -/
def credCheck (opcode options : Byte) (tag : Half) (payload cred : Bytes) (roles : List CredRole) (s : State) : Option CredRole × State :=
  let cert := cred.take 148
  let sig := cred.drop 148
  let role := certRole cert
  let named := s.ks.nonces.find? fun n => ecdsaVerify (slice cert 20 64) (credDigest n opcode options tag payload) sig
  let good : Bool := match role with
    | some r => certOk s cert (if r = .service then 5 else 0) && roles.contains r && named.isSome
    | none => false
  let s' := { s with ks := { s.ks with nonces := match named with
    | some n => s.ks.nonces.erase n
    | none => [] } }
  if good then (role, s') else (none, raiseKst 0x80 (regInc 0x40080024 16 s'))

/-! ### Attestation (R286) -/

/-- KEY_DIGEST of R286. -/
def keyDigest (ktype : Nat) (key : Bytes) : Bytes :=
  if ktype = 4 then sha256 (pubOf (beNat key))
  else if ktype = 5 then sha256 (ascii "OZS-KCV" ++ cmac (key.take 16) (zeros 16))
  else sha256 (ascii "OZS-KCV" ++ cmac key (zeros 16))

/-- A per-message or ephemeral scalar drawn from the DRBG: 1 to n − 1. -/
def drawScalar (s : State) (i : Nat) : Nat := beNat (peekBytes s i 32) % (p256n - 1) + 1

/-- An attestation statement (R286); eight free values from `i` places ahead make the signature's number. -/
def attest (s : State) (i : Nat) (policy digest challenge : Bytes) : Bytes :=
  let b := ascii "OZAT" ++ [0x01, byte (b2n s.ks.testRoot + 2 * b2n s.ks.tamperHistory), 0, 0] ++ fit 32 policy ++ uidBytes ++
    le 4 0x77200B01 ++ le 4 (rtcField s).toNat ++ fit 16 challenge ++ digest ++ le 8 ((ctrRead s 34).getD 0)
  b ++ ecdsaSign (s.ks.attD.getD 1) (drawScalar s i) (sha256 b)

/-! ### Randomness (R616) -/

/-- Fresh randomness is available (R616). -/
def randomOk (s : State) : Bool := !s.cry.halt

/-- One DRBG generate request: `n` words drawn; the DRBG reseeds after 4,096 requests (R616). -/
def generate (n : Nat) (s : State) : State :=
  let s := draw n s
  if s.cry.gen + 1 ≥ 4096 then raise 0x40110008 8 (regInc 0x40110020 16 { s with cry := { s.cry with gen := 0 } })
  else { s with cry := { s.cry with gen := s.cry.gen + 1 } }

/-- A KEY_ID drawn from the DRBG: never 0 (R269). -/
def peekKeyId (s : State) (i : Nat) : Nat := max 1 (leNat (peekBytes s i 8))

end Sys2Proof.Machine
end

