-- ==== Sys2Proof/Machine/Operands.lean ====
section
/-! DEFINITION. The operands of version 2 commands: for each opcode its kind, its length, the values its fields may take, the credential
roles it accepts and the largest reply (R346, R369–R375 and the command tables). -/
namespace Sys2Proof.Machine

/-- Kind of an opcode (R369). -/
inductive OpKind where
  | i | j | jl
  deriving DecidableEq, Repr

/-- Kind of an opcode; none for an undefined one (R369, R374, the command tables of R377–R397). -/
def opKind (op : Nat) : Option OpKind :=
  if op ∈ [0x00, 0x01, 0x02, 0x03, 0x04, 0x05, 0x06, 0x09, 0x10, 0x11, 0x12, 0x13, 0x14, 0x20, 0x22, 0x23, 0x26, 0x30, 0x32, 0x33,
      0x35, 0x38, 0x39, 0x3A, 0x3C, 0x41, 0x42, 0x43, 0x51, 0x61, 0x71, 0x76, 0x77, 0x82, 0x8A, 0x8B, 0x90, 0x91, 0x92, 0x93,
      0xA1, 0xA2, 0xA3, 0xA4, 0xB0, 0xB1, 0xB2, 0xC0, 0xC1] then some .i
  else if op ∈ [0x07, 0x08, 0x24, 0x25, 0x31, 0x34, 0x37, 0x3B, 0x3D, 0x3E, 0x40, 0x50, 0x52, 0x60, 0x62, 0x63, 0x70, 0x73, 0x74,
      0x75, 0x81, 0x83, 0x84, 0x85, 0x86, 0x88, 0x89, 0x8C, 0x94, 0xC2] then some .j
  else if op ∈ [0x21, 0x36, 0x3F, 0x72, 0x80, 0x87, 0xA0] then some .jl
  else none

/-- Bytes of a CAN data field for a DLC (ISO 11898-1). -/
def dlcBytes (fd : Bool) (dlc : Nat) : Nat :=
  if dlc ≤ 8 then dlc
  else if !fd then 8
  else match dlc with
    | 9 => 12 | 10 => 16 | 11 => 20 | 12 => 24 | 13 => 32 | 14 => 48 | _ => 64

/-- Size of the blob whose KTYPE byte is given; none for a reserved type (R270). -/
def blobLen (ktype : Nat) : Option Nat := (keyLen ktype).map blobSize

/-- Total length of `n` ROSTER_ADD entries from an offset (R392): 12 bytes each, and a BLOB of 88 for class S2. -/
def rosterLen (b : Bytes) : Nat → Nat → Nat
  | 0, off => off
  | n + 1, off => rosterLen b n (off + 12 + (if byteAt b (off + 4) = 2 then 88 else 0))

/-- The payload length an opcode's layout gives, its count and length fields resolved, without the credential (R372); a selector
with a reserved value leaves the length as it is. -/
def opLen (op : Nat) (b : Bytes) (given : Nat) : Nat :=
  match op with
  | 0x03 => 2 | 0x04 => 2 | 0x05 => 1 | 0x06 => 6
  | 0x07 => (match byteAt b 0 with
      | 1 => 2 | 2 => 6 | 3 => 2 | _ => given)
  | 0x08 => 4 | 0x10 => 6 | 0x11 => 6 + 4 * at_ b 4 2 | 0x12 => 12 | 0x13 => 6 | 0x14 => 6 + at_ b 4 2
  | 0x20 => 6 | 0x21 => 6 + at_ b 4 2 | 0x22 => 10 | 0x23 => 2 | 0x24 => 18 | 0x25 => 128 | 0x26 => 1
  | 0x31 => 8 | 0x32 => 8 | 0x33 => 16 | 0x34 => 82 + at_ b 80 2 | 0x35 => 82 + at_ b 80 2
  | 0x36 => (match byteAt b 1 with
      | 0 => 6 | 1 => 83 + at_ b 81 2 | _ => given)
  | 0x37 => 1 + byteAt b 0
  | 0x38 => (match byteAt b 1 with
      | 0 => 4 + (blobLen (byteAt b 7)).getD (given - 4) | 1 => 8 | _ => given)
  | 0x39 => 1 | 0x3A => 6 + at_ b 4 2 | 0x3B => 1 | 0x3C => 20 | 0x3D => 1 | 0x3E => 76
  | 0x3F => (match byteAt b 0 with
      | 1 => 4 | 2 => 152 | 3 => 85 + at_ b 83 2 | _ => given)
  | 0x40 => 6 + (at_ b 4 2 + 7) / 8 | 0x41 => 1 | 0x43 => 12 | 0x51 => 14 + at_ b 12 2 | 0x52 => 1 | 0x60 => 136
  | 0x62 => 4 | 0x63 => 4 | 0x70 => 1 | 0x71 => 5
  | 0x72 => (match byteAt b 19 with
      | 1 => 104 | 2 => 120 | _ => given)
  | 0x73 => 2 | 0x74 => 2 | 0x75 => 8 | 0x76 => 2 | 0x80 => 1 | 0x81 => 1 | 0x82 => 1
  | 0x83 => 4 + 8 * byteAt b 2 | 0x84 => rosterLen b (byteAt b 0) 4 | 0x85 => 1 + byteAt b 0 | 0x86 => 4
  | 0x88 => 100 | 0x8A => 2 | 0x8B => 4 | 0x8C => 4
  | 0x90 => 8 + dlcBytes (bit (byteAt b 1) 1) (byteAt b 2) | 0x91 => 2 | 0x92 => 4 + byteAt b 2
  | 0x93 => 4 + (if byteAt b 1 = 0 then byteAt b 2 else 0) | 0x94 => 1
  | 0xA0 => 4 | 0xA1 => 2 | 0xA2 => 4 + at_ b 2 2 | 0xA3 => 1 | 0xA4 => 6 + 5 * at_ b 4 2
  | 0xB0 => 1 | 0xB1 => 8 | 0xB2 => 4 | 0xC0 => 3 | 0xC1 => 4
  | _ => 0

/-- The bytes that resolve the length must themselves be there; a payload too short for them is too short (R372). -/
def opMinLen (op : Nat) : Nat :=
  match op with
  | 0x07 => 1 | 0x11 => 6 | 0x14 => 6 | 0x21 => 6 | 0x34 => 82 | 0x35 => 82 | 0x36 => 2 | 0x37 => 1 | 0x38 => 8 | 0x3A => 6
  | 0x3F => 4 | 0x40 => 6 | 0x51 => 14 | 0x72 => 20 | 0x83 => 4 | 0x84 => 4 | 0x85 => 1 | 0x90 => 8 | 0x92 => 4 | 0x93 => 4
  | 0xA2 => 4 | 0xA4 => 6 | _ => 0

/-- Check 11 (R372). -/
def lenOk (op : Nat) (cred : Bool) (b : Bytes) : Bool :=
  let extra := if cred then 212 else 0
  opMinLen op + extra ≤ b.length && b.length == opLen op b (b.length - extra) + extra

/-- The first failing field: offset, whether it fails, its CODE (R373). -/
def firstBad : List (Nat × Bool × Nat) → Option (Nat × Nat)
  | [] => none
  | (off, bad, code) :: r => if bad then some (off, code) else firstBad r

/-- A byte outside a range. -/
def outside (b : Bytes) (off lo hi : Nat) : Bool := byteAt b off < lo || byteAt b off > hi

/-- The fields of a ROSTER_ADD entry that are reserved or out of range (R392). -/
def rosterBad (b : Bytes) : Nat → Nat → List (Nat × Bool × Nat)
  | 0, _ => []
  | n + 1, off =>
    let s2 := byteAt b (off + 4) == 2
    [(off + 4, outside b (off + 4) 1 2, 2), (off + 5, if s2 then outside b (off + 5) 1 4 else byteAt b (off + 5) != 1, 2), (off + 6, if s2 then byteAt b (off + 6) != 0 else outside b (off + 6) 1 2, 2),
     (off + 7, byteAt b (off + 7) > 1 || (s2 && byteAt b (off + 7) != 0), 2), (off + 10, byteAt b (off + 10) > 7, 3),
     (off + 11, byteAt b (off + 11) != 0, 2)] ++ rosterBad b n (off + 12 + (if s2 then 88 else 0))

/-- The fields of KEY_IMPORT from FORM onward, from an offset (R384). -/
def importBad (b : Bytes) (o : Nat) (resv : Bool) : List (Nat × Bool × Nat) :=
  let form := byteAt b o
  [(o, form > 1, 2), (o + 1, if form = 0 then byteAt b (o + 1) < 40 || byteAt b (o + 1) > 47 else byteAt b (o + 1) != 0xFF, 3),
   (o + 2, outside b (o + 2) 1 4, 2), (o + 3, at_ b (o + 3) 2 ≥ 128, 2), (o + 5, (byteAt b (o + 5) &&& 0xED) != 0, 2),
   (o + 6, if resv then byteAt b (o + 6) != 0 else byteAt b (o + 6) > 1, 2), (o + 7, at_ b (o + 7) 8 == 0, 2),
   (o + 15, form = 0 && (slice b (o + 15) 64).any (· != 0), 2)]

/-- The fields of the region table: reserved bits, bytes and ranges (R313, R382). -/
def regionsBad (b : Bytes) : List (Nat × Bool × Nat) :=
  (List.range 16).flatMap fun i =>
    let o := 8 * i
    let st := at_ b o 2
    let n := at_ b (o + 2) 2
    let clash := (List.range i).any fun j =>
      let st' := at_ b (8 * j) 2
      let n' := at_ b (8 * j + 2) 2
      decide (n ≠ 0 ∧ n' ≠ 0 ∧ st < st' + n' ∧ st' < st + n)
    [(o, st > 527 || clash, 3), (o + 2, decide (st + n > 528), 3), (o + 4, byteAt b (o + 4) > 15, 2),
     (o + 5, (slice b (o + 5) 3).any (· != 0), 2)]

/-- Field tests one after the other. -/
def cat (a b : List (Nat × Bool × Nat)) : List (Nat × Bool × Nat) := a ++ b

/-- Check 12 for the payload: the first reserved or out-of-range field (R373 and the rows of the command tables). -/
def opFields (op : Nat) (b : Bytes) : Option (Nat × Nat) :=
  firstBad (match op with
  | 0x03 => [(0, at_ b 0 2 == 0, 3)]
  | 0x04 => []
  | 0x05 => [(0, byteAt b 0 != 0xA5, 2)]
  | 0x06 => [(0, outside b 0 1 3, 2), (1, byteAt b 1 > 15, 2)]
  | 0x07 => cat [(0, outside b 0 1 3, 2)] ((match byteAt b 0 with
      | 1 => [(1, byteAt b 1 > 2, 2)] | 2 => [(5, byteAt b 5 > 1, 2)] | _ => [(1, byteAt b 1 > 1, 2)]))
  | 0x08 => [(0, at_ b 0 4 == 0, 3)]
  | 0x10 => [(4, at_ b 4 2 > 256, 3)]
  | 0x11 => [(4, at_ b 4 2 > 256, 3)]
  | 0x13 => [(4, at_ b 4 2 > 2048, 3)]
  | 0x14 => [(4, at_ b 4 2 > 2048, 3)]
  | 0x20 => [(0, at_ b 0 4 > 0x77FFF, 3), (4, at_ b 4 2 > 2048, 3)]
  | 0x21 => [(0, at_ b 0 4 > 0x77FFF, 3), (4, at_ b 4 2 > 2048, 3)]
  | 0x22 => [(0, byteAt b 0 > 15, 3), (1, byteAt b 1 > 3, 2)]
  | 0x24 => [(0, byteAt b 0 > 15, 3), (1, byteAt b 1 != 0, 2), (10, at_ b 10 8 == 0, 2)]
  | 0x25 => regionsBad b
  | 0x26 => [(0, byteAt b 0 > 63, 3)]
  | 0x31 => [(0, outside b 0 197 223, 3), (1, outside b 1 1 4, 2), (2, at_ b 2 2 ≥ 128, 2), (4, (byteAt b 4 &&& 0xED) != 0, 2),
      (5, (slice b 5 3).any (· != 0), 2)]
  | 0x32 => [(0, outside b 0 1 4, 2), (1, at_ b 1 2 ≥ 128, 2), (3, (byteAt b 3 &&& 0xED) != 0, 2),
      (4, outside b 4 1 31 && byteAt b 4 != 0xFF, 3), (5, byteAt b 5 > 1, 2), (6, at_ b 6 2 != 0, 2)]
  | 0x34 => cat [(0, outside b 0 197 223, 3)] (importBad b 1 true)
  | 0x35 => cat [(0, outside b 0 1 31 && byteAt b 0 != 0xFF, 3)] (importBad b 1 false)
  | 0x36 => cat [(0, outside b 0 197 223, 3), (1, byteAt b 1 > 1, 2)] ((if byteAt b 1 = 0 then
      [(2, outside b 2 1 4, 2), (3, at_ b 3 2 ≥ 128, 2), (5, (byteAt b 5 &&& 0xED) != 0, 2)] else importBad b 2 true))
  | 0x37 => cat [(0, byteAt b 0 > 27, 3)] ((List.range (byteAt b 0)).map fun i => (1 + i, outside b (1 + i) 197 223, 3))
  | 0x38 => [(0, outside b 0 40 47 && byteAt b 0 != 0xFF, 3), (1, byteAt b 1 > 1, 2), (2, at_ b 2 2 != 0, 2)] ++
      (if byteAt b 1 = 1 then [(4, decide (at_ b 4 4 < 0x100C5 ∨ at_ b 4 4 > 0x100DF), 3)] else [])
  | 0x3A => [(0, outside b 0 40 47, 3), (1, outside b 1 1 6, 2), (2, at_ b 2 2 != 0, 2), (4, (at_ b 4 2 > 1024) ||
      (match byteAt b 1 with
       | 2 => at_ b 4 2 < 16 | 3 => at_ b 4 2 != 32 | 4 => at_ b 4 2 != 64 | 5 => at_ b 4 2 < 1 || at_ b 4 2 > 64
       | 6 => at_ b 4 2 != 1 | _ => false), 3),
      (6, byteAt b 1 == 6 && outside b 6 40 47, 3)]
  | 0x3B => [(0, outside b 0 1 31, 3)]
  | 0x3C => [(0, byteAt b 0 > 2, 2), (1, (byteAt b 0 == 0 && byteAt b 1 > 47) || (byteAt b 0 == 1 && byteAt b 1 > 223) ||
      (byteAt b 0 == 2 && byteAt b 1 != 0), 3), (2, at_ b 2 2 != 0, 2)]
  | 0x3D => [(0, byteAt b 0 > 1, 2)]
  | 0x3E => [(0, byteAt b 0 > 4, 3), (1, (slice b 1 3).any (· != 0), 2), (8, byteAt b 8 > 1, 2), (9, (slice b 9 3).any (· != 0), 2)]
  | 0x3F => cat [(0, outside b 0 1 3, 2), (1, (slice b 1 3).any (· != 0), 2)] ((match byteAt b 0 with
      | 2 => [(4, byteAt b 4 != 1, 2)] | 3 => importBad b 4 true ++ [(6, byteAt b 6 != 1, 2)] | _ => []))
  | 0x40 => [(1, byteAt b 1 > 1, 2), (2, byteAt b 2 > 15, 2), (3, byteAt b 3 != 0, 2), (4, at_ b 4 2 > 512, 3)]
  | 0x43 => cat [(1, (slice b 1 3).any (· != 0), 2)] ((List.range 8).map fun i => (4 + i, byteAt b (4 + i) > 200, 3))
  | 0x51 =>
    let h : Bool := byteAt b 0 == 1
    let lo := if h then 2400000000 else 300000000
    let hi := if h then 2483500000 else 960000000
    [(0, byteAt b 0 > 1, 2), (1, byteAt b 1 > (if h then 3 else 5), 2), (2, byteAt b 2 > (if h then 31 else 63), 3), (3, byteAt b 3 > 1, 2),
     (4, at_ b 4 4 < lo || at_ b 4 4 > hi, 3), (12, at_ b 12 2 > 512, 3)]
  | 0x52 => [(0, byteAt b 0 > 15, 2)]
  | 0x60 => cat [(0, byteAt b 0 != 1, 2), (1, outside b 1 1 8, 3), (2, at_ b 2 2 != 0, 2)]
      (((List.range 8).map fun k => (14 + 12 * k, at_ b (14 + 12 * k) 2 != 0, 2)) ++
       [(130, at_ b 130 2 != 0, 2), (132, word (at_ b 132 4) != crc32c (b.take 132), 3)])
  | 0x62 => [(0, byteAt b 0 > 63, 3), (1, byteAt b 1 > 7, 2), (2, at_ b 2 2 != 0, 2)]
  | 0x63 => [(2, at_ b 2 2 != 0, 2)]
  | 0x70 => [(0, outside b 0 2 3, 2)]
  | 0x71 => [(4, byteAt b 4 > 64, 3)]
  | 0x72 => [(0, byteAt b 0 > 3 || (byteAt b 3 == 1 && byteAt b 0 == 0), 3), (1, !(byteAt b 1 == 2 || byteAt b 1 == 3 || byteAt b 1 == 0x10), 2),
      (2, byteAt b 2 > (if byteAt b 1 = 3 then 1 else 0), 2), (3, byteAt b 3 > 1, 2), (8, byteAt b 1 != 0x10 && at_ b 8 4 != 0, 2), (19, outside b 19 1 2, 2)]
  | 0x73 => [(0, byteAt b 0 > 63, 3), (1, byteAt b 1 > 1, 2)]
  | 0x74 => [(0, byteAt b 0 > 63, 3), (1, outside b 1 1 2, 2)]
  | 0x75 => [(0, outside b 0 1 7, 2), (1, (slice b 1 3).any (· != 0), 2),
      (4, (let v := at_ b 4 4
           match byteAt b 0 with
           | 1 => v > 2 | 2 => v > 1 | 3 => v > 1 | 4 => v != 0 | 5 => v != 0
           | 6 => (v &&& 0x37F) != v | 7 => v > 255 || v == 0 | _ => false), if byteAt b 0 = 7 then 3 else 2)]
  | 0x76 => [(0, byteAt b 0 > 63, 3), (1, byteAt b 0 + byteAt b 1 > 64, 3)]
  | 0x80 => [(0, outside b 0 1 3, 3)]
  | 0x81 => [(0, outside b 0 1 3, 3)]
  | 0x82 => [(0, byteAt b 0 > 3, 3)]
  | 0x83 => [(0, byteAt b 0 > 1, 2), (1, byteAt b 1 > 1, 2), (2, byteAt b 2 > 32, 3), (3, byteAt b 3 != 0, 2)]
  | 0x84 => cat [(0, byteAt b 0 > 20, 3), (1, (slice b 1 3).any (· != 0), 2)] (rosterBad b (byteAt b 0) 4)
  | 0x85 => cat [(0, byteAt b 0 > 64, 3)] ((List.range (byteAt b 0)).map fun i => (1 + i, byteAt b (1 + i) > 127, 3))
  | 0x86 => [(0, byteAt b 0 > 127, 3), (1, (byteAt b 2 == 0 && byteAt b 1 != 0xFF) ||
        (byteAt b 2 == 1 && byteAt b 1 != 0xFF && byteAt b 1 / 32 > 2), 2), (2, byteAt b 2 > 1, 2), (3, byteAt b 3 != 0, 2)]
  | 0x88 => cat [(0, byteAt b 0 != 1, 2), (1, byteAt b 1 > 8, 3), (2, at_ b 2 2 != 0, 2)]
      (((List.range 8).flatMap fun k =>
        [(9 + 8 * k, decide (byteAt b (9 + 8 * k) > 3), 2), (10 + 8 * k, byteAt b (10 + 8 * k) > 7 && byteAt b (10 + 8 * k) != 0xFF, 3),
         (11 + 8 * k, byteAt b (11 + 8 * k) > 7 && byteAt b (11 + 8 * k) != 0xFF, 3)]) ++
       [(92, outside b 92 1 200, 3), (93, at_ b 93 3 != 0, 2), (96, word (at_ b 96 4) != crc32c (b.take 96), 3)])
  | 0x8A => [(0, byteAt b 0 > 127, 3), (1, byteAt b 0 + byteAt b 1 > 128, 3)]
  | 0x8B => [(0, byteAt b 0 > 127, 3), (1, byteAt b 1 != 0, 2), (3, byteAt b 3 > 64, 3)]
  | 0x8C => [(0, byteAt b 0 > 127, 3), (1, byteAt b 1 > 7, 3)]
  | 0x90 => [(0, byteAt b 0 > 1, 3), (1, byteAt b 1 > 7 || (bit (byteAt b 1) 2 && !bit (byteAt b 1) 1), 2), (2, byteAt b 2 > 15, 3),
      (4, at_ b 4 4 ≥ (if bit (byteAt b 1) 0 then 2 ^ 29 else 2 ^ 11), 3)]
  | 0x91 => [(0, byteAt b 0 > 1, 3), (1, byteAt b 1 > 32, 3)]
  | 0x92 => [(1, outside b 1 1 8, 3), (2, outside b 2 1 21, 3), (3, byteAt b 3 != 0, 2)]
  | 0x93 => [(0, byteAt b 0 > 63, 3), (1, byteAt b 1 > 1, 2), (2, outside b 2 1 8, 3), (3, byteAt b 3 != 0, 2)]
  | 0x94 => [(0, byteAt b 0 > 15, 2)]
  | 0xA0 => [(0, outside b 0 9 11, 3), (1, byteAt b 1 > 15, 3), (2, byteAt b 2 > 1, 2), (3, byteAt b 3 != 0, 2)]
  | 0xA1 => [(0, outside b 0 9 11, 3), (1, byteAt b 1 > 2, 2)]
  | 0xA2 => [(0, outside b 0 9 11, 3), (1, byteAt b 1 != 0, 2), (2, at_ b 2 2 > 64, 3)]
  | 0xA3 => [(0, outside b 0 9 11, 3)]
  | 0xA4 => [(0, outside b 0 9 11, 3), (1, byteAt b 1 != 0, 2), (2, at_ b 2 2 > 511, 3), (4, at_ b 4 2 > 400 || decide (at_ b 2 2 + at_ b 4 2 > 512), 3)]
  | 0xB0 => [(0, byteAt b 0 > 7, 3)]
  | 0xB1 => [(0, byteAt b 0 > 31, 3), (2, at_ b 2 2 != 0, 2)]
  | 0xB2 => [(0, decide (at_ b 0 2 < 1 ∨ at_ b 0 2 > 256), 3), (2, byteAt b 2 > 1, 2), (3, byteAt b 3 > 1, 2)]
  | 0xC0 => [(2, byteAt b 2 > 64, 3)]
  | _ => [])

/-- The credential a command takes (R371): none, required with these roles, or in some cases with these roles. -/
inductive AuthRule where
  | no
  | must (roles : List CredRole)
  | may (roles : List CredRole)
  deriving DecidableEq, Repr

/-- The Auth column of the command tables. -/
def opAuth (op : Nat) (b : Bytes) : AuthRule :=
  let df : List CredRole := [.dealer, .fleetHost]
  match op with
  | 0x07 => .must df | 0x08 => .must df | 0x24 => .may [.dealer] | 0x25 => .may [.dealer]
  | 0x31 => .must df | 0x32 => .must df | 0x34 => .must df | 0x35 => .must df | 0x36 => .must df | 0x37 => .must df
  | 0x3B => .must df | 0x3D => .must [.service] | 0x3E => .may [.dealer] | 0x3F => .must df | 0x63 => .must [.dealer]
  | 0x72 => if byteAt b 3 = 1 then .no else .may [.dealer]
  | 0x73 => if byteAt b 1 = 1 then .no else .may df
  | 0x74 => .may df | 0x75 => .must df | 0x83 => .must [.dealer]
  | 0xC1 => .may [.dealer, .service] | 0xC2 => .must [.dealer, .service]
  | _ => .no

/-- Check 12 for the options byte (R370, R371): true when it is allowed. -/
def optionsOk (op : Nat) (options : Byte) (b : Bytes) : Bool :=
  (options &&& (if op = 0x21 then 0x7E else 0x7F)) == 0 && (options.msb == false || opAuth op b != .no)

/-- The largest reply of an opcode with its 12 bytes of frame (R346). -/
def maxReply (op : Nat) : Nat :=
  match opKind op with
  | none => 16
  | some .j => 88
  | some .jl => 88
  | some .i =>
    match op with
    | 0x01 => 48 | 0x02 => 32 | 0x03 => 96 | 0x04 => 88 | 0x09 => 142 | 0x10 => 1036 | 0x12 => 20 | 0x13 => 2060 | 0x20 => 2060
    | 0x26 => 20 | 0x30 => 28 | 0x32 => 180 | 0x33 => 252 | 0x35 => 116 | 0x3A => 76 | 0x3C => 188 | 0x42 => 28 | 0x61 => 148
    | 0x71 => 1548 | 0x76 => 2060 | 0x77 => 528 | 0x82 => 72 | 0x8A => 1548 | 0x8B => 2060 | 0x91 => 2060 | 0x93 => 20
    | 0xA3 => 78 | 0xB0 => 48 | 0xC0 => 1036 | _ => 16

end Sys2Proof.Machine
end

