-- ==== Sys2Proof/Machine/HostFlow.lean ====
section
/-! DEFINITION. The host link: SPI transactions, the checks of a version 2 packet in their order, the tag check, acceptance and completion of
journaled work (R333–R358, R28–R40, R317–R322). -/
namespace Sys2Proof.Machine

/-! ### SPI transactions on HCS0_N (R339–R342) -/

/-- HIF_STAT (R342). -/
def hifStat (s : State) : Nat :=
  0xA0 + flagsWord [(0, s.link.hcs0.outq != []), (1, rxReady s.link.hcs0), (2, s.power.state == .dawn || s.power.state == .bootFail),
    (3, s.link.lostHcs0.1 != 0), (4, s.link.e0Restart)]

/-- MISO of a transaction of `n` bytes that shows the output packet `o` (R341). -/
def misoBytes (stat : Nat) (o : Option OutPkt) (n : Nat) : Bytes :=
  let b := match o with
    | some o => byte stat :: le 2 o.size ++ o.bytes
    | none => [byte stat, 0, 0]
  (b ++ List.replicate (n - b.length) 0xFF).take n

/-- The link serves: it has answered since POR and the device is neither held in reset nor in Midnight (R354, R576), and VDDIO has
qualified (R546). -/
def linkUp (s : State) : Bool := s.link.answers && s.power.vddioOk && s.power.state != .midnight && s.power.state != .held

/-- Output in a transaction of `n` bytes on HCS0_N: the oldest packet is shown, and consumed when all of it was clocked (R341). -/
def spiOutput (n : Nat) (s : State) : State :=
  let q := s.link.hcs0.outq
  let s1 := { s with link := { s.link with miso := misoBytes (hifStat s) q.head? n } }
  match q with
  | [] => s1
  | o :: rest =>
    if 3 + o.size ≤ n then afterConsumed o (setPort .hcs0 { s1.link.hcs0 with outq := rest, last := some o } s1) else s1

/-- Output in a replay: the last consumed packet, nothing consumed (R340, R341). -/
def spiReplay (n : Nat) (s : State) : State :=
  { s with link := { s.link with miso := misoBytes (hifStat s) s.link.hcs0.last n } }

/-- HIF_LAST_ERR is written (R364). -/
def lastErr (kind port tag : Nat) (s : State) : State := regSet 0x40010044 (word (kind + 16 * port + 65536 * tag)) s

/-- Number of a port in HIF_LAST_ERR. -/
def portCode : VPort → Nat
  | .hcs0 => 0 | .uart => 1

/-- Check 1 failed (R336, R366). -/
def syncErr (port : Nat) (s : State) : State := lastErr 1 port 0 (raise 0x40010008 1 (regInc 0x40010024 16 s))

/-- Checks 2–4 failed (R336, R366). -/
def lenErr (port tag : Nat) (s : State) : State := lastErr 2 port tag (raise 0x40010008 2 (regInc 0x40010028 16 s))

/-- Check 5 failed (R336, R366). -/
def crcErr (port tag : Nat) (s : State) : State := lastErr 3 port tag (raise 0x40010008 4 (regInc 0x4001002C 16 s))

/-! ### Replies without an input buffer (R346) -/

/-- A reply that no input buffer was taken for: outside the reserve when there is room and the reserve is not asked for, otherwise from
the reserve, and with the reserve full the packet is discarded (R346). -/
def replyAtOnce (fromReserve : Bool) (p : VPort) (op : Byte) (tag : Half) (flags status : Byte) (payload : Bytes) (s : State) : State :=
  let ps := portOf s p
  let size := 12 + payload.length
  let r : ReplyTo := { slot := s.link.nextSlot, port := p, opcode := op, tag := tag, flags := flags }
  let put := fun (res : Bool) =>
    let s := setPort p { ps with opn := ps.opn ++ [{ ret := r, room := 0, pkt := some (replyPkt r status payload res) }] } s
    countStatus status { s with link := { s.link with nextSlot := s.link.nextSlot + 1 } }
  if !fromReserve && size ≤ outRoom ps then put false
  else if reserveUsed ps + size ≤ 384 then put true
  else lastErr 7 (portCode p) tag.toNat (raise 0x40010008 0x80 (regInc 0x40010030 16 s))

/-- The header bytes and payload of a packet, over which its CRC runs (R335). -/
def pktBytes (p : Packet) (op : Byte) : Bytes :=
  [0xC3, p.verFlags, op, p.options] ++ le 2 p.tag.toNat ++ le 2 p.len ++ p.payload

/-- The CRC a packet must carry. -/
def pktCrc (p : Packet) (op : Byte) : Word := crc32c (pktBytes p op)

/-- CRED = 1 (R370). -/
def pktCred (p : Packet) : Bool := p.options.msb

/-- The payload before the credential (R371). -/
def pktBody (p : Packet) : Bytes := if (pktCred p) then p.payload.take (p.payload.length - 212) else p.payload

/-! ### Answers of the tag check (R34) -/

/-- IN_PROGRESS: PCT, STEP, reserved, SEQ (R338). -/
def progressBytes (pct step seq : Nat) : Bytes := [byte pct, byte step, 0, 0] ++ le 8 seq

/-- The answer for work that is accepted or running: ACCEPTED before it starts, IN_PROGRESS after; IN_PROGRESS with the journal disabled (R34, R338). -/
def answerPending (enabled : Bool) (w : Work) : Byte × Bytes :=
  if w.state == .accepted && enabled then (stAccepted, le 8 w.seq)
  else (stInProgress, progressBytes w.pct w.step (if enabled then w.seq else 0))

/-- The content of a command equals that of earlier work (R34). -/
def sameContent (op : Byte) (p : Packet) (op' options' : Byte) (len' : Nat) (crc' : Word) : Bool :=
  op == op' && p.options == options' && p.payload.length == len' && pktCrc p op == crc'

/-- What the tag check finds (R34). -/
inductive TagFound where
  | nowhere
  | inFlight
  | answer (status : Byte) (payload : Bytes)
  deriving DecidableEq, Repr

/-- The tag check of R34 for a non-zero tag: commands being accepted, the records, then the ring (R319, R320). -/
def tagCheck (op : Byte) (p : Packet) (s : State) : TagFound :=
  let dup : TagFound := .answer stDupTag (refusalBytes 0xFFFF 0)
  if p.tag = 0 then .nowhere
  else match s.jrn.accepting.find? (fun a => a.work.tag == p.tag) with
  | some a => if sameContent op p a.work.opcode a.work.options a.work.payload.length a.work.pktCrc then .inFlight else dup
  | none =>
    match s.jrn.works.find? (fun w => w.tag == p.tag) with
    | some w =>
      if !sameContent op p w.opcode w.options w.payload.length w.pktCrc then dup
      else if w.state == .done then .answer w.status w.result
      else let a := answerPending s.jrn.enabled w; .answer a.1 a.2
    | none =>
      match s.jrn.ring.find? (fun e => e.tag == p.tag) with
      | some e => if sameContent op p e.opcode e.options e.plen e.pktCrc then .answer e.status e.result else dup
      | none => .nowhere

/-! ### Acceptance (R28, R31, R319, R351) -/

/-- The lowest payload area not in use. -/
def freeArea (s : State) : Nat :=
  let used := s.jrn.works.map (·.area) ++ s.jrn.accepting.map (·.work.area)
  ((List.range 32).find? fun i => !used.contains i).getD 0xFF

/-- The lowest host record not in use (R317). -/
def freeRecNo (s : State) : Nat :=
  let used := s.jrn.works.map (·.recNo) ++ s.jrn.accepting.map (·.work.recNo)
  ((List.range 32).find? fun i => !used.contains i).getD 0

/-- The record of a command at acceptance (R318). -/
def newWork (op : Byte) (p : Packet) (seq area : Nat) (cred : Option CredRole) (stepData : Bytes) : Work :=
  { seq := seq, tag := p.tag, opcode := op, options := p.options, flags := p.verFlags, src := p.port, pktCrc := pktCrc p op,
    payload := p.payload, area := area, state := .accepted, step := 0, pct := 0, status := 0, stepData := stepData, result := [],
    cred := cred, ready := none, parked := false, completeDue := false }

/-- The payload of accepted work before its credential. -/
def Work.body (w : Work) : Bytes := if w.options.msb then w.payload.take (w.payload.length - 212) else w.payload

/-- Host records in use, those being accepted counted (R39). -/
def queueUsed (s : State) : Nat := s.jrn.works.length + s.jrn.accepting.length

/-- The commits of the queue with one more record to commit: it joins an acceptance commit of fewer than 4 records that has not begun, or a commit of its own
follows those in the queue (R319). The head of the queue is the commit in flight. -/
def joinAcceptance : List Commit → List Commit
  | [] => [{ kind := .acceptance 1, addr := 0, data := [] }]
  | c :: rest =>
    c :: match rest.reverse with
      | ⟨.acceptance n, a, d, _⟩ :: front => if n < 4 then front.reverse ++ [{ kind := .acceptance (n + 1), addr := a, data := d }] else rest ++ [{ kind := .acceptance 1, addr := 0, data := [] }]
      | _ => rest ++ [{ kind := .acceptance 1, addr := 0, data := [] }]

/-- The record of a command joins the commits (R319). -/
def startAcceptance (s : State) : State := { s with fer := { s.fer with commits := joinAcceptance s.fer.commits } }

/-- A journaled command has passed every check: it is accepted (R319), or runs from SRAM, untagged or with the journal disabled
(R322, R351). -/
def accept (op : Byte) (p : Packet) (r : ReplyTo) (cred : Option CredRole) (stepData : Bytes) (s : State) : State :=
  if p.tag = 0 then
    let w := newWork op p r.slot 0xFF cred stepData
    reply r stInProgress (progressBytes 0 0 0) { s with jrn := { s.jrn with loose := s.jrn.loose ++ [w] } }
  else if !s.jrn.enabled then
    let w := newWork op p s.jrn.nextSeq 0xFF cred stepData
    reply r stInProgress (progressBytes 0 0 0)
      { s with jrn := { s.jrn with works := s.jrn.works ++ [w], nextSeq := s.jrn.nextSeq + 1 } }
  else
    let w := { newWork op p 0 (if p.payload.isEmpty then 0xFF else freeArea s) cred stepData with recNo := freeRecNo s }
    startAcceptance { s with jrn := { s.jrn with accepting := s.jrn.accepting ++ [{ work := w, ret := r, twins := [] }] } }

/-- The refusals that every journaled command meets first at check 13: NOEVT on untagged work, a full queue (R39, R351). -/
def queueRefusal (p : Packet) (s : State) : Option (Byte × Bytes) :=
  if p.tag = 0 then
    if bit p.verFlags.toNat 2 then some (stBadField, refusalBytes 0xFFFF 2)
    else if 4 ≤ (s.jrn.loose.filter fun w => w.state != .done).length then some (stBusyRetry, busyBytes 2) else none
  else if 32 ≤ queueUsed s then some (stBusyRetry, busyBytes 2) else none

/-- The credential of a packet is checked for an operation (R266, R371). -/
def packetCred (op : Byte) (p : Packet) (roles : List CredRole) (s : State) : Option CredRole × State :=
  credCheck op p.options p.tag (pktBody p) (p.payload.drop (p.payload.length - 212)) roles s

/-- A refusal of check 13. -/
abbrev Refusal13 := Option (Byte × Nat)

/-- The payload that goes with a refusal of check 13: CAUSE for BUSY_RETRY, OFFSET 0xFFFF and CODE otherwise (R338). -/
def refused13 (r : ReplyTo) (x : Byte × Nat) (s : State) : State :=
  if x.1 = stBusyRetry then reply r x.1 (busyBytes x.2) s else refuse r x.1 0xFFFF x.2 s

/-- A command runs its body once its credential is verified: `roles` are those accepted, `need` says that one is required now (R371). -/
def withCred (op : Byte) (p : Packet) (r : ReplyTo) (roles : List CredRole) (need : Bool)
    (body : Option CredRole → State → State) (s : State) : State :=
  if (pktCred p) then
    let v := packetCred op p roles s
    match v.1 with
    | some role => body (some role) v.2
    | none => refuse r stDenied 0xFFFF 7 v.2
  else if need then refuse r stDenied 0xFFFF 7 s
  else body none s

/-- Check 13 and acceptance of a journaled command: queue, the command's own refusal, credential, then acceptance with the STEP_DATA that
`prep` fixes (R318, R336). -/
def journaled (op : Byte) (p : Packet) (r : ReplyTo) (own : Refusal13) (roles : List CredRole) (need : Bool)
    (prep : State → Bytes × State) (s : State) : State :=
  match queueRefusal p s, own with
  | some x, _ => reply r x.1 x.2 s
  | none, some x => refused13 r x s
  | none, none => withCred op p r roles need (fun c s => let d := prep s; accept op p r c d.1 d.2) s

/-- No STEP_DATA. -/
def noData (s : State) : Bytes × State := ([], s)

/-! ### Completion (R320, R346) -/

/-- The ring entry of a completed record (R318). -/
def ringEntry (num : Nat) (w : Work) : RingEntry :=
  { num := num, seq := w.seq, tag := w.tag, opcode := w.opcode, options := w.options, flags := w.flags, plen := w.payload.length,
    pktCrc := w.pktCrc, status := w.status, result := w.result }

/-- A completed record is committed with its result, then its ring entry (R320). -/
def recordDone (w : Work) (s : State) : State :=
  let num := s.jrn.nextNum
  jrnCommit (ringUnit num) (jrnCommit w.recNo { s with jrn := { s.jrn with
    works := modAll (·.seq == w.seq) (fun _ => w) s.jrn.works, ring := (ringEntry num w :: s.jrn.ring).take 64, nextNum := num + 1 } })

/-- Tagged work completes: its result is committed with STATE DONE, then its ring entry, and COMPLETE is raised (R320, R353). -/
def finishWork (seq : Nat) (status : Byte) (result : Bytes) (s : State) : State :=
  match s.jrn.works.find? (·.seq == seq) with
  | none => s
  | some w =>
    let w' := { w with state := .done, pct := 100, status := status, result := result.take 76, ready := none,
                       completeDue := !bit w.flags.toNat 2 }
    queueComplete w' (recordDone w' s)

/-- Untagged work completes: its result goes into its COMPLETE event alone (R351). -/
def finishLoose (seq : Nat) (status : Byte) (result : Bytes) (s : State) : State :=
  match s.jrn.loose.find? (·.seq == seq) with
  | none => s
  | some w =>
    let w' := { w with state := .done, pct := 100, status := status, result := result.take 76, ready := none, completeDue := true }
    queueComplete w' { s with jrn := { s.jrn with loose := modAll (·.seq == seq) (fun _ => w') s.jrn.loose } }

/-- What a piece of work is known by: its SEQ when it is tagged, its number in SRAM otherwise. -/
def finishAny (work loose : Option Nat) (status : Byte) (result : Bytes) (s : State) : State :=
  match work, loose with
  | some q, _ => finishWork q status result s
  | none, some q => finishLoose q status result s
  | none, none => s

/-- The status and result that a running step of this work will end with (R32). -/
def readyWork (work loose : Option Nat) (status : Byte) (result : Bytes) (s : State) : State :=
  let set := fun (w : Work) => { w with ready := some (status, result) }
  { s with jrn := { s.jrn with
      works := modAll (fun w => some w.seq == work && w.state == .running && !w.parked) set s.jrn.works,
      loose := modAll (fun w => work.isNone && some w.seq == loose && w.state == .running && !w.parked) set s.jrn.loose } }

/-- A version 1 reply is ready for its next transaction (R359, R360). -/
def v1Answer (status op : Byte) (d : Bytes) (s : State) : State :=
  { s with link := { s.link with v1Reply := some ([status, op] ++ fit 10 d), v1Busy := none } }

/-- The reply that a version 1 command awaits is known (R400); nothing when it no longer awaits one (R360). -/
def v1Deliver (status op : Nat) (d : Bytes) (s : State) : State :=
  if s.link.v1Busy = some (byte op) then v1Answer (byte status) (byte op) d s else s

/-! ### The path of a packet (R336) -/

/-- A command taken at check 7 is served: checks 9–12, then `run`, which makes check 13 and acts (R336). -/
def serve (run : Byte → Packet → ReplyTo → State → State) (op : Byte) (p : Packet) (r : ReplyTo) (s : State) : State :=
  match opKind op.toNat with
  | none => refuse r stBadOpcode 0xFFFF 0 s
  | some _ =>
    match tagCheck op p s with
    | .inFlight =>
      { s with jrn := { s.jrn with
          accepting := modFirst (fun a => a.work.tag == p.tag) (fun a => { a with twins := a.twins ++ [r] }) s.jrn.accepting } }
    | .answer st pl => reply r st pl s
    | .nowhere =>
      if !lenOk op.toNat (pktCred p) p.payload then refuse r stBadLength 0xFFFF 0 s
      else if !optionsOk op.toNat p.options (pktBody p) then refuse r stBadField 0xFFFF 1 s
      else match opFields op.toNat (pktBody p) with
        | some (o, c) => refuse r stBadField o c s
        | none => run op p r s

/-- Position of an identical packet in the Dawn queue, or that its tag stands there with other content (R355). -/
def dawnFind (op : Byte) (p : Packet) (s : State) : Option (Nat × Bool) :=
  if p.tag = 0 then none
  else match s.link.dawnq.zipIdx.find? fun h => h.1.packet.tag == p.tag with
    | none => none
    | some (h, i) => some (i + 1, h.opcode == op && h.packet.payload == p.payload && h.packet.options == p.options && h.packet.verFlags == p.verFlags)

/-- QUEUED_DAWN: POSITION, reserved (R338). -/
def dawnBytes (pos : Nat) : Bytes := [byte pos, 0, 0, 0]

/-- A command in Dawn after check 7: held in the Dawn queue (R355). -/
def holdDawn (op : Byte) (p : Packet) (r : ReplyTo) (s : State) : State :=
  match dawnFind op p s with
  | some (pos, same) => if same then reply r stQueuedDawn (dawnBytes pos) s else refuse r stDupTag 0xFFFF 0 s
  | none =>
    if 32 ≤ s.link.dawnq.length then reply r stBusyRetry (busyBytes 1) s
    else reply r stQueuedDawn (dawnBytes (s.link.dawnq.length + 1))
      { s with link := { s.link with dawnq := s.link.dawnq ++ [{ opcode := op, packet := p, ret := r }] } }

/-- A packet that passed checks 1–6 meets checks 7 and 8 (R336). `identify` answers IDENTIFY from the boot ROM (R564). -/
def takeCommand (run : Byte → Packet → ReplyTo → State → State) (identify : ReplyTo → State → State) (op : Byte) (p : Packet)
    (s : State) : State :=
  let ps := portOf s p.port
  if 2 ≤ bufsUsed ps ∨ outRoom ps < maxReply op.toNat then replyAtOnce true p.port op p.tag p.verFlags stBusyRetry (busyBytes 4) s
  else
    let r : ReplyTo := { slot := s.link.nextSlot, port := p.port, opcode := op, tag := p.tag, flags := p.verFlags }
    let s := openSlot r (maxReply op.toNat) s
    let s := { s with power := { s.power with duskDue := false } }
    if s.link.e0Restart then reply r stBusyRetry (busyBytes 3) s
    else match s.power.state with
      | .bootFail => if op = 0x01 then identify r s else refuse r stHwFault 0xFFFF 0 s
      | .dawn => holdDawn op p r s
      | .dusk => exitDusk { s with link := { s.link with held := s.link.held ++ [{ opcode := op, packet := p, ret := r }] } }
      | _ => serve run op p r s

/-- A packet as it arrives: the transaction's output first on SPI, then checks 2–6 of the HIF hardware (R336, R341). -/
def hostPacket (run : Byte → Packet → ReplyTo → State → State) (identify : ReplyTo → State → State) (op : Byte) (p : Packet)
    (s : State) : State :=
  if !linkUp s || (p.port == .uart && !regBit s 0x40010000 1) then s
  else
    let s := if p.port = .hcs0 then spiOutput p.clocked s else s
    if p.header < 8 then lenErr (portCode p.port) 0 s
    else if p.len > 2048 ∨ p.payload.length ≠ p.len ∨ p.crc.isNone then
      replyAtOnce false p.port op p.tag p.verFlags stBadLength (refusalBytes 0xFFFF 0) (lenErr (portCode p.port) p.tag.toNat s)
    else if p.crc ≠ some (pktCrc p op) then
      replyAtOnce false p.port op p.tag p.verFlags stBadCrc (refusalBytes 0xFFFF 0) (crcErr (portCode p.port) p.tag.toNat s)
    else if (p.verFlags &&& 0xFB) ≠ 0x20 then
      replyAtOnce false p.port op p.tag p.verFlags stBadField (refusalBytes 0xFFFF 2) (lastErr 4 (portCode p.port) p.tag.toNat s)
    else takeCommand run identify op p s

end Sys2Proof.Machine
end

