-- ==== Sys2Proof/Machine/Lf.lean ====
section
/-! DEFINITION. The LF field system: telegrams, the symbol FIFO, drive combinations, the energy accountant, diagnostics and the
paired mask and current table (chapter 3, R95–R127). -/
namespace Sys2Proof.Machine

/-- Address of a register in the part of channel `n`. -/
def lfCh (n off : Nat) : Nat := 0x40020000 + 256 * n + off

/-- Bits of LFX_EVENTS are raised; a telegram in progress remembers them (R125, R388). -/
def lfxEvent (bits : Nat) (s : State) : State :=
  let s := raise 0x4002082C bits s
  { s with lf := { s.lf with telegram := s.lf.telegram.map fun t => { t with events := t.events ||| bits } } }

/-! ### Channels and the effective mask (R116, R121) -/

/-- Channel `n` is in the live mask, enabled and not excluded (R116, R121). -/
def chanLive (s : State) (n : Nat) : Bool :=
  bit s.lf.live.mask.toNat n && regBit s (lfCh n 0) 0 && !bit s.lf.excluded.toNat n

/-- The channel can carry current in the telegram in progress: exclusions found since its start apply from the next one, shorts at once, and until the retest of a
cleared short has passed (R116, R119). -/
def chanUsable (s : State) (t : Telegram) (n : Nat) : Bool :=
  bit s.lf.live.mask.toNat n && regBit s (lfCh n 0) 0 && !bit t.excluded.toNat n &&
  !regBit s (lfCh n 0xC) 1 && !regBit s (lfCh n 0xC) 2 && !bit s.lf.shortRetest.toNat n

/-- Live current-table entry of a channel, in units of 10 mA. -/
def curOf (s : State) (n : Nat) : Nat := s.lf.live.cur.getD n 0

/-- The channel joins or leaves the excluded ones. -/
def setExcluded (n : Nat) (x : Bool) (s : State) : State :=
  { s with lf := { s.lf with excluded := BitVec.ofNat 8 (setFld (s.lf.excluded.zeroExtend 32) n 1 (b2n x)).toNat } }

/-- A flag of LFX_CHn_DIAG is set or cleared (R123). -/
def setDiag (n i : Nat) (x : Bool) (s : State) : State := regPutFld (lfCh n 0xC) i 1 (b2n x) s

/-- Kind of an LF fault: 0 open, 1 short to ground, 2 short to VLF, 3 detuned (R538). -/
abbrev LfKind := Nat

/-- The bridge of a channel is off at once; the other lanes of the running telegram go on (R110, R115, R119). -/
def bridgeOff (n : Nat) (s : State) : State :=
  let off := fun (l : List Lane) => l.filter (·.ch != n)
  { s with lf := { s.lf with telegram := s.lf.telegram.map fun t => { t with lanes := off t.lanes, wake := off t.wake } } }

/-- An LF channel fault: its flag, a short's bridge off, its exclusion unless it is a detune, an event to E1, a fault record (R115, R538). -/
def lfFault (inj : Bool) (n : Nat) (kind : LfKind) (s : State) : State :=
  let s := if kind = 1 ∨ kind = 2 then bridgeOff n s else s
  let s := lineUp 3 (setDiag n kind true s)
  let s := if kind = 3 then s else setExcluded n true s
  faultBy inj 3 0x000B 3 n (if kind = 3 then 0 else 7) 0 (word (n + 16 * kind)) s

/-! ### The energy accountant (R111–R114) -/

/-- LIMIT in mW now (R112). -/
def lfLimit (s : State) : Nat :=
  let c := 0x40020840
  if s.lf.reduced then min (regFld s c 10 10) (1250 - s.lf.pcore) else regFld s c 0 10

/-- WIN_LIMIT for a LIMIT, in pJ: LIMIT × 10 s − 100 mJ (R111). -/
def winLimit (limit : Nat) : Nat := limit * 10000000000 - 100000000000

/-- Charge of the present bin and the 99 completed ones before it, in pJ (R111). -/
def lfCharge (s : State) : Nat := s.lf.bin + s.lf.bins.sum

/-- R_path in tenths of a milliohm at a junction temperature in °C (R111). -/
def rPath (tj : Int) : Nat := (4500 + 25 * (tj - 25)).toNat

/-- Dissipation of a lane in µW from its sensed peak in units of 10 mA (R111). -/
def laneMicrowatts (s : State) (freq : Nat) (tj : Int) (peak : Nat) : Nat :=
  peak * peak * rPath tj / 200 + 8000 * freq * s.power.vlfMv / 1500000000

/-- Energy of a lane in pJ over a time in 96 MHz cycles. -/
def laneEnergy (s : State) (freq : Nat) (tj : Int) (peak ticks : Nat) : Nat := laneMicrowatts s freq tj peak * ticks / 96

/-- A channel's energy is charged to it and to the present bin (R111, R120); its register counts whole µJ, the rest is kept. -/
def chargeChannel (n pj : Nat) (s : State) : State :=
  let sum := s.lf.frac.getD n 0 + pj
  let s := regCount (lfCh n 0x1C) 0 32 (sum / 1000000) s
  { s with lf := { s.lf with
      frac := s.lf.frac.set n (sum % 1000000)
      bin := s.lf.bin + pj
      telegram := s.lf.telegram.map fun t => { t with charged := t.charged + pj } } }

/-- The charge, the reserved estimates and a further estimate in µJ fit WIN_LIMIT (R113). -/
def energyFits (s : State) (estimate : Nat) : Bool :=
  estimate == 0 || decide (lfCharge s + s.lf.reserved + estimate * 1000000 ≤ winLimit (lfLimit s))

/-- A grant stands and its estimate is reserved; a grant that stood before gives way (R113; DESIGN CHOICE, log 31). The entries that E1 holds for it go into
the FIFO. -/
def grantEnergy (r : EnergyReq) (s : State) : State :=
  let old := match s.lf.grant with
    | some g => g.estimate * 1000000
    | none => 0
  { s with lf := { s.lf with
      grant := some { r with limit := lfLimit s }, defer := false,
      fifo := if r.words.isEmpty || s.lf.telegram.isSome then s.lf.fifo else r.words,
      reserved := s.lf.reserved - old + r.estimate * 1000000 } }

/-- A request is granted at once or deferred (R113). LFX_EACC_DEFER_CNT counts a request's first deferral, not a resubmission that still does not fit
(DESIGN CHOICE, log 123). -/
def submitEnergy (r : EnergyReq) (s : State) : State :=
  if energyFits s r.estimate then grantEnergy r s
  else regInc 0x40020850 16 { s with lf := { s.lf with deferred := s.lf.deferred ++ [r], defer := true } }

/-- A write of LFX_EACC_REQ (R113). -/
def energyRequest (cls estimate : Nat) (s : State) : State :=
  submitEnergy { cls := cls, estimate := estimate, due := now s, limit := 0, words := [], plan := none, retest := none } s

/-- Deferred requests in class order, first come first within a class (R113). -/
def deferredOrder (l : List EnergyReq) : List EnergyReq := (List.range 6).flatMap fun c => l.filter (·.cls == c)

/-- At a bin boundary deferred requests are submitted again in class order; the first that fits is granted, when no grant stands (R113). -/
def resubmit (s : State) : State :=
  if s.lf.grant.isSome then s
  else match (deferredOrder s.lf.deferred).find? fun r => energyFits s r.estimate with
    | none => s
    | some r => grantEnergy r { s with lf := { s.lf with deferred := s.lf.deferred.erase r } }

/-- E1 makes its first requests for the telegrams that wait, in class order, once the LF block has neither a telegram nor a grant (R113). -/
def e1Next (s : State) : State :=
  (deferredOrder s.lf.waiting).foldl (fun s r =>
    if s.lf.grant.isSome || s.lf.telegram.isSome then s
    else submitEnergy { r with due := now s } { s with lf := { s.lf with waiting := s.lf.waiting.erase r } }) s

/-- The bins move on (R111). -/
def shiftBins (s : State) : State :=
  { s with lf := { s.lf with bins := (s.lf.bin :: s.lf.bins).take 99, bin := 0 } }

/-- The ambient estimate in thousandths of a °C (R112). -/
def ambientMilli (s : State) (tj : Int) : Int :=
  1000 * tj - (regFld s 0x40020840 20 8 * (s.lf.pcore * 10000000000 + lfCharge s) / 40000000000 : Nat)

/-- The estimate, the mode and P_core are renewed (R112); the manual names no instant for it, the model does it at the bin boundaries (DESIGN CHOICE,
log 124). -/
def renewLimit (tj : Int) (pcore : Nat) (s : State) : State :=
  let s := { s with lf := { s.lf with pcore := pcore } }
  let t := ambientMilli s tj
  { s with lf := { s.lf with
      tamb := min 255 ((t + 40000) / 1000).toNat
      reduced := if t > 95000 then true else if t < 92000 then false else s.lf.reduced } }

/-- A bin boundary: bins, estimate, BIN event, deferred requests (R111–R113). -/
def binBoundary (tj : Int) (pcore : Nat) (s : State) : State :=
  e1Next (resubmit (lfxEvent 0x800 (renewLimit tj pcore (shiftBins s))))

/-- A grant is given back and its estimate released; entries that E1 had loaded for it leave the FIFO. -/
def grantBack (g : EnergyReq) (s : State) : State :=
  { s with lf := { s.lf with grant := none, reserved := s.lf.reserved - g.estimate * 1000000, fifo := if !g.words.isEmpty && s.lf.fifo == g.words then [] else s.lf.fifo } }

/-- A grant lapses (R113): E1 keeps a telegram or a retest that has not begun, and submits it again at the next bin boundary. -/
def grantLapse (s : State) : State :=
  match s.lf.grant with
  | some g =>
    let s := grantBack g s
    e1Next (if g.words.isEmpty && g.retest.isNone then s else { s with lf := { s.lf with deferred := s.lf.deferred ++ [g] } })
  | none => s

/-! ### Starting and ending a telegram (R104, R110, R118) -/

/-- LF is blocked: a supply flag or tamper (R98, R104). -/
def lfBlocked (s : State) : Bool := s.lf.vlfLow || s.lf.vlfHigh || s.lf.tamperBlk

/-- A start trigger (R104, R119). -/
def startTelegram (s : State) : State :=
  match s.lf.grant.filter (·.retest.isNone), s.lf.telegram with
  | some g, none =>
    if s.lf.fifo.isEmpty || lfBlocked s then lfxEvent 0x80 s
    else
      let f := regFld s 0x40020814 0 18
      let t : Telegram :=
        { nco := word f, estimate := g.estimate, charged := 0, ceiling := winLimit g.limit + 95000000000, lanes := [], wake := [], driven := false,
          rest := [], checked := false, ticks := 0, events := 0, excluded := s.lf.excluded, endDue := false }
      let tests := modFirst (fun j => j.entries.isPrefixOf s.lf.fifo) (fun j => { j with started := true }) s.lf.tests
      regSet 0x40020818 (word f) { s with lf := { s.lf with telegram := some t, grant := none, tests := tests } }
  | _, _ => lfxEvent 0x80 s

/-- A start trigger from its source: 0 the GO write, 1–32 a TMB compare unit; another source starts nothing (R104, R124). -/
def lfTrigger (src : Nat) (s : State) : State := if regFld s 0x40020800 8 6 = src then startTelegram s else s

/-- The paired set that a commit stages (R118). -/
def shadowPair (s : State) : LfPair :=
  { mask := BitVec.ofNat 8 (regFld s 0x40020808 0 8), cur := (List.range 8).map fun n => regFld s (lfCh n 4) 0 8 }

/-- The staging set becomes live. -/
def applyPair (s : State) : State :=
  match s.lf.staged with
  | some p => { s with lf := { s.lf with live := p, staged := none } }
  | none => s

/-- LFX_COMMIT: staged, and live at once when no telegram runs (R118). -/
def lfCommit (s : State) : State :=
  let s := { s with lf := { s.lf with staged := some (shadowPair s) } }
  if s.lf.telegram.isSome then s else applyPair s

/-- The current-sense offsets are measured: 12 bits each, from the world outside; step 9 of R156 is done (R117, R162). -/
def measureOffsets (s : State) : State :=
  regOr 0x40030080 0x100 (draw 8 ((List.range 8).foldl (fun s' n => regSet (lfCh n 0x18) (word (fld (peek s n).toNat 0 12)) s') s))

/-- An offset calibration that waited for the telegram's end runs, and the commands that asked for it are answered (R117). -/
def runOffsets (s : State) : State :=
  if s.lf.isofsDue then
    let rs := s.lf.isofsReply
    let s := measureOffsets { s with lf := { s.lf with isofsDue := false, isofsReply := [] } }
    let ofs := (List.range 8).flatMap fun n => le 2 (wrap 16 (signed 12 (regGet s (lfCh n 0x18)).toNat))
    rs.foldl (fun s r => reply r 0x00 ofs s) s
  else s

/-- A host test telegram that has ended: the step of its work is over, or the version 1 reply is ready (R388, R400). The learn telegram of an enrolment has been
sent once it ends normally (R74; DEDUCED, log 76). -/
def finishTest (s : State) (j : LfTestJob) : State :=
  match j.result with
  | none => s
  | some (early, pj, ticks, events) =>
    let uj := le 4 (pj / 1000000)
    if j.learn then (if early then s else { s with acc := { s.acc with enrol := s.acc.enrol.map fun e => { e with confirmed := true } } })
    else if j.work.isNone && j.loose.isNone then v1Deliver (if early then 0x50 else 0) 0x28 uj s
    else readyWork j.work j.loose (if early then stHwFault else stOk)
      (if early then refusalBytes 0xFFFF 0 else uj ++ le 4 (ticks / 96) ++ le 4 events) s

/-- Host test telegrams that have ended are told and leave the list. -/
def finishTests (s : State) : State :=
  (s.lf.tests.filter (·.result.isSome)).foldl finishTest { s with lf := { s.lf with tests := s.lf.tests.filter (·.result.isNone) } }

/-- A grant that stands at a telegram's end has its entries loaded, what is left of the old telegram leaving the FIFO. -/
def loadGranted (s : State) : State :=
  match s.lf.grant with
  | some g => if g.words.isEmpty then s else { s with lf := { s.lf with fifo := g.words } }
  | none => s

/-- The running telegram ends: its reservation is released, a staged set becomes live, a waiting calibration runs, E1 goes on to the next telegram (R110,
R117, R118); a host test telegram leaves its figures with its job (R388). -/
def endTelegram (early : Bool) (s : State) : State :=
  match s.lf.telegram with
  | none => s
  | some t =>
    let bits := if early then 2 else 1
    let s := raise 0x4002082C bits s
    let s := { s with lf := { s.lf with
      telegram := none
      reserved := s.lf.reserved - t.estimate * 1000000
      tests := modFirst (·.started) (fun j => { j with result := some (early, t.charged, t.ticks, t.events ||| bits) }) s.lf.tests } }
    e1Next (loadGranted (runOffsets (applyPair (finishTests s))))

/-- An early end is asked for: it takes place at the next symbol boundary (R110). -/
def endDue (s : State) : State :=
  { s with lf := { s.lf with telegram := s.lf.telegram.map fun t => { t with endDue := true } } }

/-! ### The FIFO and its entries (R104–R108) -/

/-- An entry written into the FIFO; with 64 entries there it is lost (DESIGN CHOICE, log 32). -/
def fifoWrite (w : Word) (s : State) : State :=
  if s.lf.fifo.length < 64 then { s with lf := { s.lf with fifo := s.lf.fifo ++ [w] } } else s

/-- A telegram's entries written one after another. -/
def fifoWriteAll (ws : List Word) (s : State) : State := ws.foldl (fun s w => fifoWrite w s) s

/-- FLUSH: empties the FIFO when no telegram runs (R124). -/
def fifoFlush (s : State) : State := if s.lf.telegram.isSome then s else { s with lf := { s.lf with fifo := [] } }

/-- Lane `i` of combination `k` as its register field holds it (R127). -/
def comboLane (s : State) (k i : Nat) : Nat := regFld s (0x40020880 + 8 * k + 4 * (i / 2)) (16 * (i % 2)) 16

/-- The enabled lanes of a combination. -/
def comboLanes (s : State) (k : Nat) : List Lane :=
  ((List.range 3).map (comboLane s k)).filterMap fun w =>
    if bit w 3 then some { ch := fld w 0 3, phase := fld w 4 6, amp := fld w 10 6 } else none

/-- Two lanes enabled on one channel, or an amplitude above 32, in the two words of a combination (R101). -/
def comboBad (a b : Nat) : Bool :=
  let lanes := [fld a 0 16, fld a 16 16, fld b 0 16]
  let on := (lanes.filter fun w => bit w 3).map fun w => fld w 0 3
  lanes.any (fun w => fld w 10 6 > 32) || !decide on.Nodup

/-- The lanes of a drive that carry current: usable and of non-zero I_eff (R102). -/
def carrying (s : State) (t : Telegram) (ls : List Lane) : List Lane :=
  ls.filter fun l => chanUsable s t l.ch && curOf s l.ch * l.amp != 0

/-- R97: at most three channels, and at most 1.20 A each when there are three; I_eff is CUR × AMP / 32. -/
def driveOk (s : State) (ls : List Lane) : Bool :=
  ls.length ≤ 3 && (if ls.length = 3 then ls.all (fun l => curOf s l.ch * l.amp ≤ 120 * 32)
                    else ls.all (fun l => curOf s l.ch * l.amp ≤ 200 * 32))

/-- The telegram with its lanes in effect. -/
def setTelegram (t : Telegram) (s : State) : State := { s with lf := { s.lf with telegram := some t } }

/-- A DRIVE selects `ls`: R97 is checked, a lane on a masked or excluded channel stays silent (R102). -/
def doDrive (ls : List Lane) (s : State) : State :=
  match s.lf.telegram with
  | none => s
  | some t =>
    let c := carrying s t ls
    if !driveOk s c then endTelegram true (lfxEvent 8 s)
    else
      let s := setTelegram { t with lanes := c, driven := true, checked := false } s
      if ls.all (fun l => chanUsable s t l.ch) then s else lfxEvent 0x40 s

/-- The measurement of a channel in this entry. -/
def measOf (m : LfMeas) (n : Nat) : Option LaneMeas := m.lanes.find? (·.ch.val == n)

/-- Number of drives in a row that find a channel open or detuned, after one more. -/
def runNext (l : List Nat) (n : Nat) (bad : Bool) : List Nat := l.set n (if bad then l.getD n 0 + 1 else 0)

/-- The open and detune checks of one lane with I_eff ≥ 100 mA (R115); an injection of this channel makes the check fail (R538). -/
def checkLane (l : Lane) (x : LaneMeas) (s : State) : State :=
  if curOf s l.ch * l.amp < 10 * 32 then s
  else
    let inj := injected 0x000B s
    let hit := fun (k : Nat) => inj == some (l.ch + 16 * k)
    if hit 1 || hit 2 then lfFault true l.ch (if hit 1 then 1 else 2) s
    else if !regBit s (lfCh l.ch 0) 8 then s
    else
      let open_ : Bool := decide (x.peak.toNat * 128 < curOf s l.ch * l.amp) || hit 0
      let tol := regFld s 0x40020854 2 6
      let det : Bool := decide ((signed 8 x.phase.toNat).natAbs > tol) || hit 3
      let s := { s with lf := { s.lf with openRun := runNext s.lf.openRun l.ch open_, detuneRun := runNext s.lf.detuneRun l.ch det } }
      let due := fun (flag run n : Nat) => decide (n ≤ run) && !regBit s (lfCh l.ch 0xC) flag
      let s := if due 0 (s.lf.openRun.getD l.ch 0) (regFld s 0x40020854 0 2) && open_ then lfFault (hit 0) l.ch 0 s else s
      if due 3 (s.lf.detuneRun.getD l.ch 0) 3 && det then lfFault (hit 3) l.ch 3 s else s

/-- Carrier on lanes `ls` for a time in 96 MHz cycles: what is measured is recorded and charged; the checks run once a drive. -/
def carrierOn (m : LfMeas) (check : Bool) (ls : List Lane) (ticks : Nat) (s : State) : State :=
  match s.lf.telegram with
  | none => s
  | some t =>
    ls.foldl (fun s l =>
      match measOf m l.ch with
      | none => s
      | some x =>
        let s := regSet (lfCh l.ch 0x10) (word (x.peak.toNat + 256 * x.cond.toNat)) s
        let s := regSet (lfCh l.ch 0x14) (word x.phase.toNat) s
        let s := chargeChannel l.ch (laneEnergy s t.nco.toNat m.tj x.peak.toNat ticks) s
        if check then checkLane l x s else s) s

/-- A symbol part on the lanes in effect (R105, R106): `on` says that it is carrier. With no DRIVE before, silent, and NO_DRIVE. -/
def playCarrier (m : LfMeas) (on : Bool) (ticks : Nat) (s : State) : State :=
  match s.lf.telegram with
  | none => s
  | some t =>
    let s := setTelegram { t with ticks := t.ticks + ticks, checked := t.checked || on } s
    if !on then emitOut (.lfDrive [] ticks) s
    else if !t.driven then emitOut (.lfDrive [] ticks) (lfxEvent 0x20 s)
    else emitOut (.lfDrive t.lanes ticks) (carrierOn m (!t.checked) t.lanes ticks s)

/-- Number of one bits among the `cnt` most significant of 16. -/
def onesIn (bits cnt : Nat) : Nat := ((List.range cnt).filter fun i => bit bits (15 - i)).length

/-- The parts of the `cnt` most significant of 16 bits, bit 15 first: a bit 1 plays `one`, a bit 0 plays `zero` (R105, R106). -/
def bitSyms (one zero : List LfSym) (bits cnt : Nat) : List LfSym := (List.range cnt).flatMap fun i => if bit bits (15 - i) then one else zero

/-- Manchester half-bits (R106). -/
def manSyms : Nat → Nat → List LfSym := bitSyms [.part true 6144, .part false 6144] [.part false 6144, .part true 6144]

/-- The parts of bits in the T2 gap code (R106). -/
def gapSyms : Nat → Nat → List LfSym := bitSyms [.part true 15360, .part false 9216] [.part true 21504, .part false 3072]

/-- The aerials of a set, ascending. -/
def aerials (mask : Nat) : List Nat := (List.range 8).filter fun i => bit mask i

/-- Groups of three of a wake burst (R107). -/
def burstGroups : List Nat → List (List Nat)
  | a :: b :: c :: rest => [a, b, c] :: burstGroups rest
  | [] => []
  | l => [l]

/-- The parts of a slice: each 0.992 ms from its start, and what is left (R110). -/
def sliceSyms (len : Nat) (g : List Nat) : List LfSym :=
  (List.range ((len + 95231) / 95232)).map fun i => .slice g (i == 0) (min 95232 (len - 95232 * i))

/-- The half-bits of the sync byte 0x96, highest bit first, on a combination (R106, R107). -/
def syncSyms (k : Nat) : List LfSym :=
  (List.range 8).flatMap fun i =>
    let one := bit 0x96 (7 - i)
    [.sync k (i == 0) one 6144, .sync k false (!one) 6144]

/-- The parts of a WAKE entry: burst slices, then the sync byte; a SET of zero is silent for the whole burst (R107). -/
def wakeSyms (set : Nat) (sync : Option Nat) : List LfSym :=
  let gs := burstGroups (aerials set)
  (if gs.isEmpty then List.replicate 3 (.part false 95232) else gs.flatMap (sliceSyms (285696 / gs.length))) ++
  (match sync with
   | some k => syncSyms k
   | none => [])

/-- The lanes of one slice: a channel above 1.20 A in a group of three is turned down (R107). A masked or excluded aerial of the SET is left out and sets no
LANE_MASKED (DESIGN CHOICE, log 125). -/
def sliceLanes (s : State) (t : Telegram) (g : List Nat) : List Lane :=
  carrying s t (g.map fun n =>
    { ch := n, phase := 0, amp := if g.length = 3 && curOf s n > 120 then 32 * 120 / curOf s n else 32 })

/-- A part of a slice of the burst; its lanes are latched at the slice's start. -/
def playSlice (m : LfMeas) (g : List Nat) (first : Bool) (ticks : Nat) (s : State) : State :=
  match s.lf.telegram with
  | none => s
  | some t =>
    let ls := if first then sliceLanes s t g else t.wake
    let s := setTelegram { t with wake := ls, ticks := t.ticks + ticks } s
    emitOut (.lfDrive ls ticks) (carrierOn m first ls ticks s)

/-- A half-bit of the sync byte on its combination, latched at the sync's start; no DRIVE takes effect with it (R105, R107). A combination that breaks R97 ends
the telegram as a DRIVE of it does (DEDUCED, log 126). -/
def playSync (m : LfMeas) (k : Nat) (first carrier : Bool) (ticks : Nat) (s : State) : State :=
  match s.lf.telegram with
  | none => s
  | some t =>
    let all := comboLanes s k
    let ls := if first then carrying s t all else t.wake
    if first && !driveOk s ls then endTelegram true (lfxEvent 8 s)
    else
      let s := setTelegram { t with wake := ls, ticks := t.ticks + ticks } s
      let s := if first && !all.all (fun l => chanUsable s t l.ch) then lfxEvent 0x40 s else s
      if carrier then emitOut (.lfDrive ls ticks) (carrierOn m first ls ticks s) else emitOut (.lfDrive [] ticks) s

/-- One part of the entry that plays. -/
def playSym (m : LfMeas) (y : LfSym) (s : State) : State :=
  match y with
  | .part on n => playCarrier m on n s
  | .slice g first n => playSlice m g first n s
  | .sync k first on n => playSync m k first on n s

/-- An entry ends the telegram as reserved (R105). -/
def reservedEntry (s : State) : State := endTelegram true (lfxEvent 0x10 s)

/-- The first of these parts plays, the others are left for the steps that follow. -/
def playSyms (m : LfMeas) (ys : List LfSym) (s : State) : State :=
  match ys, s.lf.telegram with
  | y :: rest, some t => playSym m y (setTelegram { t with rest := rest } s)
  | _, _ => s

/-- One FIFO entry begins (R105): an entry that takes no time has its effect, an entry of symbols plays its first part. -/
def playEntry (m : LfMeas) (e : Word) (s : State) : State :=
  let n := e.toNat
  let op := fld n 28 4
  let dur := fld n 0 17
  let cnt := fld n 16 5
  let bits := fld n 0 16
  match op with
  | 0 => if fld n 0 28 = 0 then endTelegram false s else reservedEntry s
  | 1 => if dur > 96000 ∨ fld n 17 11 ≠ 0 then reservedEntry s else playSyms m (if dur = 0 then [] else [.part true dur]) s
  | 2 => if dur > 96000 ∨ fld n 17 11 ≠ 0 then reservedEntry s else playSyms m (if dur = 0 then [] else [.part false dur]) s
  | 3 => if cnt > 16 ∨ fld n 21 7 ≠ 0 then reservedEntry s else playSyms m (manSyms bits cnt) s
  | 4 => if cnt > 16 ∨ fld n 21 7 ≠ 0 then reservedEntry s else playSyms m (gapSyms bits cnt) s
  | 5 => if fld n 4 24 ≠ 0 then reservedEntry s
         else if bit n 3 then doDrive (comboLanes s (fld n 0 3)) s
         else doDrive [{ ch := fld n 0 3, phase := 0, amp := 32 }] s
  | 6 => if fld n 8 20 ≠ 0 then reservedEntry s
         else lfxEvent 0x400 (regSet 0x40020828 s.power.clkTs (regSet 0x40020824 (word (fld n 0 8)) s))
  | 7 => if fld n 12 16 ≠ 0 then reservedEntry s
         else playSyms m (wakeSyms (fld n 0 8) (if bit n 11 then some (fld n 8 3) else none)) s
  | _ => reservedEntry s

/-- R114: the estimate exceeded by more than 25 %, or the window at the ceiling. -/
def overEnergy (s : State) (t : Telegram) : Bool :=
  decide (t.charged > t.estimate * 1250000) || decide (lfCharge s ≥ t.ceiling)

/-- A telegram found over its energy after a part ends at that part's boundary (R114). -/
def energyCheck (s : State) : State :=
  match s.lf.telegram with
  | some t => if overEnergy s t && !t.endDue then endDue (lfxEvent 0x100 s) else s
  | none => s

/-- The running telegram goes on by one part between two symbol boundaries: of the entry that plays, or of the next FIFO entry; or it ends there, asked for, by an
empty FIFO, or by the entry (R23, R105, R110). -/
def nextEntry (m : LfMeas) (s : State) : State :=
  match s.lf.telegram, s.lf.fifo with
  | none, _ => s
  | some t, fifo =>
    if t.endDue then endTelegram true s
    else match t.rest, fifo with
      | y :: rest, _ => energyCheck (playSym m y (setTelegram { t with rest := rest } s))
      | [], [] => endTelegram true (lfxEvent 4 (regInc 0x40020830 16 s))
      | [], e :: left => energyCheck (playEntry m e { s with lf := { s.lf with fifo := left } })

/-! ### Supply window and diagnostics (R98, R115, R116) -/

/-- VLF flags with their hysteresis (R98). -/
def vlfFlags (mv : Nat) (s : State) : State :=
  { s with power := { s.power with vlfMv := mv }, lf := { s.lf with
      vlfLow := if mv < 5700 then true else if mv > 6000 then false else s.lf.vlfLow,
      vlfHigh := if mv > 19000 then true else if mv < 18500 then false else s.lf.vlfHigh } }

/-- VLF moves; outside its window a running telegram ends at the next symbol boundary (R98). -/
def vlfChange (mv : Nat) (s : State) : State :=
  let s := vlfFlags mv s
  if s.lf.vlfLow || s.lf.vlfHigh then endDue s else s

/-- A short: the channel stops at once, the other lanes go on (R115, R119). -/
def lfShort (n : Nat) (toVlf : Bool) (s : State) : State := lfFault false n (if toVlf then 2 else 1) s

/-- A byte with one bit cleared. -/
def byteDrop (b : Byte) (n : Nat) : Byte := BitVec.ofNat 8 (setFld (b.zeroExtend 32) n 1 0).toNat

/-- The retest of channel `n` for an open, or for a short, is no longer asked for. -/
def retestDone (n : Nat) (s : State) : State := { s with lf := { s.lf with retest := byteDrop s.lf.retest n } }
def shortRetestDone (n : Nat) (s : State) : State := { s with lf := { s.lf with shortRetest := byteDrop s.lf.shortRetest n } }

/-- The channel is excluded as long as an open or a short is flagged, or the retest of a cleared short or open has not passed (R116). -/
def excludeByFlags (n : Nat) (s : State) : State :=
  setExcluded n (regBit s (lfCh n 0xC) 0 || regBit s (lfCh n 0xC) 1 || regBit s (lfCh n 0xC) 2 || bit s.lf.retest.toNat n || bit s.lf.shortRetest.toNat n) s

/-- E1's request for the retest pulse of an open channel, in class 5: 200 µs at 0.30 A (R116; the estimate at 25 °C: DESIGN CHOICE, log 43). -/
def retestReq (n : Nat) (s : State) : EnergyReq :=
  { cls := 5, estimate := laneEnergy s (regFld s 0x40020814 0 18) 25 30 19200 / 1000000 + 1, due := now s, limit := 0, words := [], plan := none, retest := some n }

/-- The retest pulse of an open channel: charged; 25 % of 0.30 A or more passes and clears OPEN (R115, R116). -/
def retestPulse (n peak : Nat) (tj : Int) (s : State) : State :=
  let s := retestDone n (chargeChannel n (laneEnergy s (regFld s 0x40020814 0 18) tj peak 19200) s)
  if 120 ≤ peak * 4 * 4 then
    excludeByFlags n (setDiag n 0 false { s with lf := { s.lf with openRun := s.lf.openRun.set n 0 } })
  else if regBit s (lfCh n 0xC) 0 then s else lfFault false n 0 s

/-- The retest of an open channel is due: its request is granted at once or deferred and submitted again as every request of E1 is; the pulse uses its grant (R113,
R116). While another grant stands or a telegram runs it waits. -/
def openRetest (n peak : Nat) (tj : Int) (s : State) : State :=
  let mine := fun (r : EnergyReq) => r.retest == some n
  if s.lf.telegram.isSome || lfBlocked s then s
  else
    let s := if s.lf.grant.isSome || s.lf.deferred.any mine then s else submitEnergy (retestReq n s) s
    match s.lf.grant with
    | some g => if mine g then e1Next (retestPulse n peak tj (grantBack g s)) else s
    | none => s

/-- A short's flags are cleared and its 20 µs retest pulse at 0.20 A runs: `found` is the short it meets (R116, R123). -/
def shortRetest (n flags : Nat) (found : Option Bool) (s : State) : State :=
  let s := shortRetestDone n (regAndNot (lfCh n 0xC) (flags &&& 6) s)
  match found with
  | none => excludeByFlags n s
  | some v => lfFault false n (if v then 2 else 1) s

/-- LF_RETEST: the flags of the channels in a mask are cleared and the retests of those that were flagged asked for, each for its own fault; a channel with no fault
is retested as an open one is (R116, R388; DEDUCED, log 127). -/
def askRetest (mask : Nat) (s : State) : State :=
  let short := fun (n : Nat) => regBit s (lfCh n 0xC) 1 || regBit s (lfCh n 0xC) 2
  let opens := fun (n : Nat) => regBit s (lfCh n 0xC) 0 || !short n
  let pick := fun (f : Nat → Bool) => byte (((aerials mask).filter f).foldl (fun a n => a + 2 ^ n) 0)
  let s := { s with lf := { s.lf with retest := s.lf.retest ||| pick opens, shortRetest := s.lf.shortRetest ||| pick short } }
  (aerials mask).foldl (fun s n => regAndNot (lfCh n 0xC) 0xF
    { s with lf := { s.lf with openRun := s.lf.openRun.set n 0, detuneRun := s.lf.detuneRun.set n 0 } }) s

/-- An ISOFS calibration is asked for (R117). -/
def askOffsets (r : Option ReplyTo) (s : State) : State :=
  let s := { s with lf := { s.lf with isofsDue := true, isofsReply := s.lf.isofsReply ++ r.toList } }
  if s.lf.telegram.isSome then s else runOffsets s

/-! ### Telegrams that E1 builds (R49, R51, R55, R60, R107–R109) -/

/-- CRC-8 with polynomial 0x2F and initial value 0xFF, most significant bit first (R51, R138). -/
def crc8 (bs : Bytes) : Nat :=
  bs.foldl (fun c b => (List.range 8).foldl (fun c _ => if c ≥ 128 then (c * 2 % 256) ^^^ 0x2F else c * 2) (c ^^^ b.toNat)) 0xFF

/-- The 64 bits of a T3 challenge (R51). -/
def t3Payload (purpose : Nat) (vid nonce : Word) : Nat :=
  let h := 3 * 2 ^ 60 + purpose * 2 ^ 56 + vid.toNat % 65536 * 2 ^ 40 + nonce.toNat * 256
  h + crc8 (be 7 (h / 256))

/-- The 48 bits of a T2 challenge (R55). -/
def t2Payload (vid : Word) (nonce : Nat) : Nat :=
  let h := vid.toNat % 65536 * 2 ^ 32 + nonce % 2 ^ 24 * 256
  h + crc8 (be 5 (h / 256))

/-- The 48 bits of a re-poll (R60). -/
def repollPayload (slot round split : Nat) (n1 n2 : Half) : Nat :=
  0x3A * 2 ^ 40 + slot * 2 ^ 37 + round * 2 ^ 35 + split * 2 ^ 32 + n1.toNat * 65536 + n2.toNat

/-- WAKE on a set with its sync on a combination (R105, R107). -/
def wakeWord (set sync : Nat) : Word := word (0x70000800 + 256 * sync + set)

/-- WAKE on a set with SYNC_EN = 0 (R105, R242). -/
def silentWake (set : Nat) : Word := word (0x70000000 + set)

/-- DRIVE of a combination, or of one channel (R105). -/
def comboWord (k : Nat) : Word := word (0x50000008 + k)
def plainWord (k : Nat) : Word := word (0x50000000 + k)

/-- `n` payload bits, highest first, as entries of code `op`: 3 MAN, 4 GAP2 (R105). -/
def codeWords (op n v : Nat) : List Word :=
  (List.range (n / 16)).map fun i => word (op * 2 ^ 28 + 16 * 65536 + v / 2 ^ (n - 16 - 16 * i) % 65536)

/-- The measurement sequence (R108); `synth` lists the aerials whose slot drives a combination instead of the plain channel, in the order of the
combinations (R103). -/
def measureWords (aers synth : List Nat) : List Word :=
  aers.flatMap fun k =>
    [if synth.contains k then comboWord (synth.idxOf k) else plainWord k, word (2 ^ 28 + (872 - 16 * k) * 96), word (2 * 2 ^ 28 + (128 + 16 * k) * 96)]

/-- The drive of a T2 challenge on its set (R109): a plain drive names one channel, so a set of more is driven through combination 4, which E1 writes with the first
three aerials of the set in phase at full amplitude, in a group of three turned down to 1.20 A (R97; DESIGN CHOICE, log 42). -/
def t2Drive (set : List Nat) (s : State) : Word × State :=
  match set with
  | [k] => (plainWord k, s)
  | _ =>
    let g := set.take 3
    let lane := fun (i : Nat) =>
      match g[i]? with
      | some n => n + 8 + 1024 * (if g.length = 3 && curOf s n > 120 then 32 * 120 / curOf s n else 32)
      | none => 32 * 1024
    (comboWord 4, regSet 0x400208A4 (word (lane 2)) (regSet 0x400208A0 (word (lane 0 + 65536 * lane 1)) s))

/-- Energy of lanes over a time when each draws its effective current at 25 °C. -/
def estLanes (s : State) (ls : List Lane) (ticks : Nat) : Nat :=
  (ls.map fun l => if chanLive s l.ch then laneEnergy s (regFld s 0x40020814 0 18) 25 (curOf s l.ch * l.amp / 32) ticks else 0).sum

/-- An entry's part of the estimate: the lanes in effect after it and the energy in pJ so far. -/
def estEntry (s : State) (a : List Lane × Nat) (e : Word) : List Lane × Nat :=
  let n := e.toNat
  let cnt := fld n 16 5
  let ones := onesIn (fld n 0 16) cnt
  match fld n 28 4 with
  | 1 => (a.1, a.2 + estLanes s a.1 (fld n 0 17))
  | 3 => (a.1, a.2 + estLanes s a.1 (cnt * 6144))
  | 4 => (a.1, a.2 + estLanes s a.1 (ones * 15360 + (cnt - ones) * 21504))
  | 5 => (if bit n 3 then comboLanes s (fld n 0 3) else [{ ch := fld n 0 3, phase := 0, amp := 32 }], a.2)
  | 7 =>
    let gs := burstGroups (aerials (fld n 0 8))
    let burst := (gs.map fun g => estLanes s (g.map fun k => { ch := k, phase := 0, amp := 32 }) (285696 / gs.length)).sum
    let ls := if bit n 11 then comboLanes s (fld n 8 3) else a.1
    (ls, a.2 + burst + (if bit n 11 then estLanes s ls 49152 else 0))
  | _ => a

/-- E1's estimate of a telegram in µJ: R111 on the effective currents at 25 °C (DESIGN CHOICE, log 43: the manual does not say how E1 estimates). -/
def estimateOf (s : State) (ws : List Word) : Nat := min ((ws.foldl (estEntry s) ([], 0)).2 / 1000000 + 1) 0xFFFFFF

/-- E1 asks for the energy of a telegram: at once when the LF block is free, otherwise when the telegram or the grant that stands is over (R113). `plan` says which
windows follow the telegram. -/
def e1Plan (plan : Option WinPlan) (cls : Nat) (ws : List Word) (s : State) : State :=
  let r : EnergyReq := { cls := cls, estimate := estimateOf s ws, due := now s, limit := 0, words := ws, plan := plan, retest := none }
  if s.lf.telegram.isSome || s.lf.grant.isSome then { s with lf := { s.lf with waiting := s.lf.waiting ++ [r] } }
  else submitEnergy r s

/-- E1 asks for the energy of a telegram that no reply window follows. -/
def e1Request (cls : Nat) (ws : List Word) (s : State) : State := e1Plan none cls ws s

/-- A telegram of E1 with this class. -/
def ofClass (cls : Nat) (r : EnergyReq) : Bool := r.cls == cls && !r.words.isEmpty

/-- A telegram of this class still waits for its energy. -/
def e1Waits (s : State) (cls : Nat) : Bool := (s.lf.deferred ++ s.lf.waiting).any (ofClass cls)

/-- A telegram of this class is asked for and has not begun. -/
def e1Asked (s : State) (cls : Nat) : Bool := e1Waits s cls || s.lf.grant.any (ofClass cls)

/-- Telegrams of a class that have not begun are given up, with the grant of one. -/
def e1Drop (cls : Nat) (s : State) : State :=
  let s := { s with lf := { s.lf with deferred := s.lf.deferred.filter (!ofClass cls ·), waiting := s.lf.waiting.filter (!ofClass cls ·) } }
  match s.lf.grant with
  | some g => if ofClass cls g then e1Next (grantBack g s) else s
  | none => s

/-- The synthesised slots of a measurement sequence are drawn and their combinations written: aerials drawn, in order, from `n` free values on (R103; the
combinations used are 0 to 3, DESIGN CHOICE, log 44). A slot of three lanes breaks R97 when all three carry current and one of them more than 1.20 A. -/
def drawSynth (aers : List Nat) (s : State) : List Nat × State :=
  let cfg := 0x4002085C
  let want := min (min (regFld s cfg 0 3) 4) aers.length
  let pick := (List.range want).foldl (fun (p : List Nat × List Nat) i =>
    let k := p.2.getD ((peek s i).toNat % p.2.length) 0
    (p.1 ++ [k], p.2.erase k)) ([], aers)
  let amp := fun (x : Nat) => let lo := regFld s cfg 5 6; lo + x % (33 - min 32 lo)
  let one := fun (s' : State) (p : Nat × Nat) =>
    let k := p.1
    let v := (peek s (4 + 2 * p.2)).toNat
    let u := (peek s (5 + 2 * p.2)).toNat
    let others := aers.erase k
    let p1 := others.getD (fld u 0 8 % others.length) 0
    let rest := others.erase p1
    let two : Bool := decide (regFld s cfg 3 2 = 2) && bit u 31 && rest != []
    let p2 := rest.getD (fld u 8 8 % rest.length) 0
    let ls := [(k, amp (fld v 0 5)), (p1, amp (fld v 5 5)), (p2, amp (fld v 10 5))]
    let three : Bool := two && ls.all fun l => curOf s l.1 * l.2 != 0
    let top := fun (ls : List (Nat × Nat)) =>
      (ls.map fun l => if three && curOf s l.1 * l.2 > 120 * 32 then 120 * 32 / curOf s l.1 * 1024 / l.2 else 1024).foldl min 1024
    let f := top (if two then ls else ls.take 2)
    let lane := fun (i ph : Nat) (en : Bool) => let l := ls.getD i (0, 0); l.1 + 8 * b2n en + 16 * ph + 1024 * (l.2 * f / 1024)
    let s' := regSet (0x40020880 + 8 * p.2) (word (lane 0 0 true + 65536 * lane 1 (fld v 16 6) (others != []))) s'
    regSet (0x40020884 + 8 * p.2) (word (if two then lane 2 (fld v 22 6) true else p2)) s'
  (pick.1, draw 12 (pick.1.zipIdx.foldl one s))

/-! ### Views (R120) -/

/-- LFX registers that show state. -/
def lfxView (s : State) (off : Nat) : Option Nat :=
  let l := s.lf
  if off < 0x800 then
    let n := off / 256
    match off % 256 with
    | 0x08 => some (curOf s n)
    | 0x0C => some ((regGet s (lfCh n 0xC)).toNat % 16 + 16 * b2n (!chanLive s n))
    | _ => none
  else match off with
    | 0x804 => some (flagsWord [(0, l.telegram.isSome), (1, l.staged.isSome), (2, l.vlfLow), (3, l.vlfHigh), (4, l.reduced), (5, l.tamperBlk)] +
        64 * l.fifo.length)
    | 0x80C => some (l.live.mask.toNat + 256 * l.excluded.toNat)
    | 0x848 => some (b2n l.grant.isSome + 2 * b2n l.defer + 4 * (lfLimit s) + 4096 * l.tamb)
    | 0x84C => some (min (lfCharge s / 1000000) 0xFFFFFF)
    | _ => none

end Sys2Proof.Machine
end

