-- ==== Sys2Proof/Machine/Link.lean ====
section
/-! DEFINITION. The coupling transport's sending side and the PDUs that a coupling sends (R211, R510–R513). -/
namespace Sys2Proof.Machine

/-- The role of the device. -/
def roleOf (s : State) : RigRole := s.cfg.role

/-- The coupling of unit `u`; unit 1 for a number out of range. -/
def unitOf (s : State) (u : Nat) : Coupling := (s.cpl.units.find? (·.unit == u)).getD (.reset u)

/-- The state with the coupling of a unit changed. -/
def modUnit (u : Nat) (f : Coupling → Coupling) (s : State) : State :=
  { s with cpl := { s.cpl with units := modAll (·.unit == u) f s.cpl.units } }

/-- Slot of a session key of unit `u`: 0 K_MAC, 1 K_WRAP, 2 K_RBE (R213, R279). -/
def sessionSlot (u i : Nat) : Nat := 3 * (u - 1) + i

/-- A session key of unit `u`, when its slots are loaded. -/
def sessionKey (s : State) (u i : Nat) : Option Bytes := (slotOf s (sessionSlot u i)).map (·.key)

/-! ### Transport frames (R510, R513) -/

/-- PDU bytes in a first frame, in a consecutive one, and frames in a block: ISO 11992 or J2497. -/
def tpSizes (plc : Bool) : Nat × Nat × Nat := if plc then (12, 14, 8) else (4, 6, 16)

/-- How many consecutive frames a PDU of `n` bytes takes. -/
def tpCount (plc : Bool) (n : Nat) : Nat := (n - (tpSizes plc).1 + (tpSizes plc).2.1 - 1) / (tpSizes plc).2.1

/-- The device's own channel: 0 in the tractor role, CHANNEL of CAN_ISO_CFG in the trailer role (R507). -/
def ownChannel (s : State) : Nat := if roleOf s = .trailer then regFld s 0x400C0080 0 2 else 0

/-- The channel of the partner of unit `u` (R507). -/
def peerChannel (s : State) (u : Nat) : Nat := if roleOf s = .trailer then 0 else u

/-- ISO 11992 address of a channel (R507). -/
def isoAddr (s : State) (c : Nat) : Nat := regFld s 0x400C0084 (8 * c) 8

/-- ROUTE of a frame that this device sends to unit `u` (R510). -/
def routeByte (s : State) (u : Nat) : Byte := byte (16 * ownChannel s + peerChannel s u)

/-- Bytes of segment `i` of a PDU: 0 the first frame, `i` the consecutive frame with that count. -/
def tpSegment (plc : Bool) (pdu : Bytes) (i : Nat) : Bytes :=
  let z := tpSizes plc
  if i = 0 then byte 0x40 :: (le 2 pdu.length ++ pdu.take z.1)
  else byte (0x80 + i % 64) :: (let b := slice pdu (z.1 + (i - 1) * z.2.1) z.2.1; if plc then b else fit z.2.1 b)

/-- A frame of the transport leaves: on CAN0, or as a message queued for the J2497 bus with its priority (R510, R513). -/
def tpFrame (plc : Bool) (prio : Nat) (seg : Byte) (u : Nat) (body : Bytes) (s : State) : State :=
  if plc then
    let mid := regFld s 0x400D000C 0 8
    let bytes := [byte 0xFE, byte (2 + body.length), seg, routeByte s u] ++ body
    { s with bus := { s.bus with plcTx := s.bus.plcTx ++ [{ msg := { mid := mid, prio := prio, data := bytes, ts := now s }, host := none }] } }
  else
    let id := (regGet s 0x400C0088).toNat + isoAddr s (ownChannel s)
    emitOut (.canTx 0 id true ([seg, routeByte s u] ++ fit 6 body)) (regInc 0x400C0024 16 s)

/-- The transport run of a unit on a medium in a direction. -/
def tpRunOf (s : State) (u : Nat) (plc sending : Bool) : Option TpRun :=
  s.bus.tp.find? fun r => r.unit == u && r.onPlc == plc && r.sending == sending

/-- The state without that run. -/
def tpDrop (u : Nat) (plc sending : Bool) (s : State) : State :=
  { s with bus := { s.bus with tp := s.bus.tp.filter fun r => !(r.unit == u && r.onPlc == plc && r.sending == sending) } }

/-- The state with a run in place of the run of its route and direction. -/
def tpPut (r : TpRun) (s : State) : State :=
  let s := tpDrop r.unit r.onPlc r.sending s
  { s with bus := { s.bus with tp := s.bus.tp ++ [r] } }

/-- Segments `a` to `b` of a run go out. -/
def tpSend (r : TpRun) (a b : Nat) (s : State) : State :=
  ((List.range (b + 1 - a)).map (a + ·)).foldl (fun s i =>
    let x := tpSegment r.onPlc r.data i
    tpFrame r.onPlc 6 (x.headD 0) r.unit x.tail s) s

/-- The last segment of the block that begins with segment `a`: the first frame goes with the first block. -/
def blockEnd (plc : Bool) (n a : Nat) : Nat := min (tpCount plc n) ((if a = 0 then 0 else a - 1) + (tpSizes plc).2.2)

/-- A PDU starts on its route: the first block goes out, and the run waits for its acknowledgement. -/
def tpStart (u : Nat) (plc : Bool) (pdu : Bytes) (s : State) : State :=
  let e := blockEnd plc pdu.length 0
  let r : TpRun := { unit := u, onPlc := plc, sending := true, length := pdu.length, data := pdu, next := e + 1, resent := false }
  tpSend r 0 e (tpPut r s)

/-! ### Coupling PDUs (R211) -/

/-- The bytes of a PDU; with a key, MACED with its MAC (R211). -/
def pduOf (type flags seq : Nat) (payload : Bytes) (key : Option Bytes) : Bytes :=
  let b := [byte type, byte (flags + 2 * b2n key.isSome)] ++ le 2 seq ++ le 2 payload.length ++ payload
  match key with
  | some k => b ++ (cmac k b).take 8
  | none => b

/-- The medium of a unit (R208): CPL_CFG.MEDIUM selects ISO 11992 or J2497; with both, what the coupling stands on. True for J2497. -/
def cplPlc (s : State) (u : Nat) : Bool :=
  match regFld s 0x40070000 4 2 with
  | 0 => false
  | 1 => true
  | _ => (unitOf s u).j2497

/-- A PDU goes to the partner of unit `u` over its medium. SEQ starts at 0 in a session; from CONFIRM on every PDU carries its MAC (R211). The PDUs of steps 1–6 are the
ones that R214 waits on and resends: a KEEPALIVE, a grant or a BYE between them changes neither. -/
def cplSend (u type flags : Nat) (maced : Bool) (payload : Bytes) (s : State) : State :=
  let c := unitOf s u
  let pdu := pduOf type flags c.seqTx payload (if maced then some ((sessionKey s u 0).getD (zeros 16)) else none)
  let s := modUnit u (fun c => { c with
    seqTx := c.seqTx + 1, lastPdu := if type ≤ 8 then pdu else c.lastPdu, resent := if type ≤ 8 then false else c.resent }) s
  tpStart u (cplPlc s u) pdu (emitOut (.coupling u pdu) s)

/-- Couplings that allow driver grants now (R216, R220, R226). -/
def grantUnits (s : State) : List Nat :=
  (s.cpl.units.filter fun c => c.state == .trusted && !c.noBound && (c.cls == 1 || (c.cls == 2 && regBit s 0x40070000 3))).map (·.unit)

/-- DRIVER_GRANT to every coupling that allows grants; `new` for a new grant (R220). -/
def sendGrants (tokenId : Quad) (num : Word) (new : Bool) (s : State) : State :=
  let s := if new then { s with cpl := { s.cpl with grantSent := s.cpl.grantSent + 1 } } else s
  (grantUnits s).foldl (fun s u => cplSend u 0x09 0 true (le 8 tokenId.toNat ++ le 4 num.toNat ++ le 4 s.cpl.grantSent ++ [0]) s) s

/-- DRIVER_LEFT to every coupling that allows grants (R220). -/
def sendLeft (s : State) : State := (grantUnits s).foldl (fun s u => cplSend u 0x0A 0 true (le 4 s.cpl.grantSent) s) s

end Sys2Proof.Machine
end

