-- ==== Sys2Proof/Machine/Radio.lean ====
section
/-! DEFINITION. The radio chains: receivers with their slot windows, synthesisers and their commits, transmit descriptors, tuner,
calibrations, lock loss and failover, and the Dusk sniff (chapter 4, R128–R170). Receiver 0 is RX-A, 1 RX-B, 2 Band H; synthesiser 0
is SYN-L1, 1 SYN-L2, 2 TX-LO, 3 RX-LO. -/
namespace Sys2Proof.Machine

/-! ### Access to the parts -/

/-- The state with the radio changed. -/
def modRad (f : Radio → Radio) (s : State) : State := { s with rad := f s.rad }

/-- Base address of a band's block. -/
def bandBase (h : Bool) : Nat := if h then 0x40040000 else 0x40030000

/-- Band of a receiver. -/
def rxBand (r : Nat) : Bool := r == 2

/-- Address of a receiver's registers: CFG, SYNC or AA, RSSI, WIN_START, WIN_CFG, SLOTSTAT follow one another (R162, R170). -/
def rxAddr (r off : Nat) : Nat := (if r = 0 then 0x40030030 else if r = 1 then 0x40030048 else 0x40040030) + off

/-- Bits of a band's EVENTS are raised (R164, R170). -/
def radEvent (h : Bool) (bits : Nat) (s : State) : State := raise (bandBase h + 4) bits s

/-- A receiver. -/
def rxOf (s : State) (r : Nat) : Receiver := if r = 0 then s.rad.rxA else if r = 1 then s.rad.rxB else s.rad.rxH

/-- The state with a receiver changed. -/
def modRx (r : Nat) (f : Receiver → Receiver) (s : State) : State :=
  modRad (fun x => if r = 0 then { x with rxA := f x.rxA } else if r = 1 then { x with rxB := f x.rxB } else { x with rxH := f x.rxH }) s

/-- A band. -/
def bandOf (s : State) (h : Bool) : Band := if h then s.rad.bandH else s.rad.bandL

/-- The state with a band changed. -/
def modBand (h : Bool) (f : Band → Band) (s : State) : State :=
  modRad (fun x => if h then { x with bandH := f x.bandH } else { x with bandL := f x.bandL }) s

/-- A synthesiser. -/
def synOf (s : State) (i : Nat) : Synth :=
  if i = 0 then s.rad.syn1 else if i = 1 then s.rad.syn2 else if i = 2 then s.rad.txlo else s.rad.rxlo

/-- The state with a synthesiser changed. -/
def modSyn (i : Nat) (f : Synth → Synth) (s : State) : State :=
  modRad (fun x => if i = 0 then { x with syn1 := f x.syn1 } else if i = 1 then { x with syn2 := f x.syn2 }
    else if i = 2 then { x with txlo := f x.txlo } else { x with rxlo := f x.rxlo }) s

/-- The chain that a synthesiser serves: L1, L2, the transmit and the receive half of H. -/
def chainOf (s : State) (i : Nat) : ChainState :=
  if i = 0 then s.rad.l1 else if i = 1 then s.rad.l2 else if i = 2 then s.rad.hTx else s.rad.hRx

/-- The state with a chain in another state. -/
def setChain (i : Nat) (c : ChainState) (s : State) : State :=
  modRad (fun x => if i = 0 then { x with l1 := c } else if i = 1 then { x with l2 := c } else if i = 2 then { x with hTx := c }
    else { x with hRx := c }) s

/-- The synthesiser behind a receiver: SYN-L1 for RX-A, SYN-L2 for RX-B, RX-LO for Band H, or TX-LO while it serves both (R128, R130, R159). -/
def rxSyn (s : State) (r : Nat) : Nat := if r = 0 then 0 else if r = 1 then 1 else if s.rad.rxlo.failed then 2 else 3

/-- The receivers that a synthesiser serves. -/
def synRxs (s : State) (i : Nat) : List Nat := [0, 1, 2].filter fun r => rxSyn s r == i

/-- The synthesiser that drives a band's transmitter: SYN-L1, or SYN-L2 while it has taken over; TX-LO, or RX-LO (R128, R159). -/
def txSyn (s : State) (h : Bool) : Nat :=
  if h then (if s.rad.txlo.failed then 3 else 2) else (if s.rad.syn1.failed then 1 else 0)

/-! ### What ranging holds of the chains (R128, R130, R182, R187, R248) -/

/-- The state with the ranging block changed. -/
def modRng (f : Ranging → Ranging) (s : State) : State := { s with rng := f s.rng }

/-- The present timestamp in u, low 32 bits: the count of CLK_TS, eight phases each, and the phase (R171) (the phase: DESIGN CHOICE, log 154). -/
def tsNow (s : State) : Nat := (s.power.clkTs.toNat * 8 + (Config.tsPhase s.power.clkTs).toNat) % 2 ^ 32

/-- A band is measured: its BAND bit is 1 and its tone mask is not zero (R181). -/
def mcpBand (s : State) (h : Bool) : Bool :=
  if h then regBit s 0x40050080 0 && (regGet s 0x40050084 != 0 || regGet s 0x40050088 != 0 || regGet s 0x4005008C != 0)
  else regBit s 0x40050080 1 && regGet s 0x40050090 != 0

/-- Frequency of tone `k` of a band in kHz (R181). -/
def toneFreq (s : State) (h : Bool) (k : Nat) : Nat :=
  if h then (if k ≤ 20 then 2404000 + 1000 * k else 2407000 + 1000 * k)
  else if s.cfg.region = some true then 902500 + 750 * k else 863200 + 200 * k

/-- The mask bit of tone `k` is 1 (R181). -/
def toneMask (s : State) (h : Bool) (k : Nat) : Bool := if h then regBit s (0x40050084 + 4 * (k / 32)) (k % 32) else regBit s 0x40050090 k

/-- A tone is measured: its band is, and its mask bit is 1 (R181). -/
def toneOn (s : State) (h : Bool) (k : Nat) : Bool := mcpBand s h && toneMask s h k

/-- The tones that an event measures. -/
def mcpTones (s : State) (h : Bool) : List Nat := (List.range (if h then 72 else 32)).filter (toneOn s h)

/-- Length of a step in µs, and where the token's tone stands in it (R182, R186): in failover with a retune for each turnaround. In the 104 µs step of R186 the token's
tone is put at 44 µs, behind the device's tone of 20 µs and a retune of 24 µs (DEDUCED, log 166). -/
def mcpStep (s : State) (h : Bool) : Nat × Nat :=
  if h then (if s.rad.txlo.failed || s.rad.rxlo.failed then (60, 30) else (42, 22)) else (if s.rad.syn2.failed then (104, 44) else (80, 36))

/-- The timestamps of the tone starts of a band whose steps begin in `us` from now: of each step the device's tone and the other side's (R172, R182). -/
def toneStamps (s : State) (h : Bool) (us : Nat) (ks : List Nat) : List Word :=
  ks.flatMap fun k =>
    let t := tsNow s + 6144 * (us + (mcpStep s h).1 * k)
    [word t, word (t + 6144 * (mcpStep s h).2)]

/-- The tones of SLOC's sequence are on air (R248). -/
def slocTonesRun (s : State) : Bool := s.sns.loc.any fun p => decide (0 < p.tonesLeft)

/-- Ranging transmits on a band: the steps of an MCP event, the tones after a SLOC; on Band H a Channel Sounding procedure, but for the windows that open in it (R130,
R182, R187, R248). -/
def airHeld (s : State) (h : Bool) : Bool :=
  if h then (s.rng.mcp.isSome && mcpBand s true) || (s.rng.cs.isSome && !s.rad.rxH.winOpen)
  else (s.rng.mcp.isSome && s.rng.mcpL && mcpBand s false) || slocTonesRun s

/-- RX-B captures Band L tones, but for the windows that open on it (R128, R182, R186). -/
def capturing (s : State) (r : Nat) : Bool := r == 1 && airHeld s false && !s.rad.rxB.winOpen

/-! ### Receiver configuration (R129, R134–R136, R143) -/

/-- STATE_REQ of a receiver's live configuration. -/
def stateReq (r : Nat) (cfg : Word) : Nat := if r = 2 then wfld cfg 5 2 else wfld cfg 6 2

/-- Lowest IF of a preset or PHY, as a code of the synthesiser's IF_SEL (R134, R136, R165, R170). -/
def lowestIf (r : Nat) (cfg : Word) : Nat :=
  let p := wfld cfg 0 4
  if r = 2 then (if p = 1 then 1 else 0)
  else match p with
    | 0 => 0 | 1 => 1 | 2 => 1 | 3 => 2 | 4 => 3 | _ => 0

/-- The chain of a receiver takes the state its configuration asks for (R135, R143); a transmission, a calibration or a failed
synthesiser comes first, on Band H also a transmission on the other synthesiser (R130). The IF of Band H is RX-LO's, also where TX-LO receives for it. -/
def applyReq (r : Nat) (s : State) : State :=
  let i := rxSyn s r
  let c := chainOf s i
  let cfg := (rxOf s r).cfgLive
  if c = .tx ∨ c = .cal ∨ c = .duplex ∨ (r = 2 ∧ (s.rad.hTx = .tx ∨ s.rad.hRx = .tx)) then s
  else if (synOf s i).failed then setChain i .off s
  else match stateReq r cfg with
    | 0 => setChain i .off s
    | 1 => setChain i .sleep s
    | 2 => setChain i .idle s
    | _ =>
      if lowestIf r cfg > (synOf s (if r = 2 then 3 else i)).ifSel.toNat then radEvent (rxBand r) 0x8000 (setChain i .idle s)
      else setChain i .rx s

/-- RXx_CFG as written takes effect: at once, or at the end of a frame in progress (R129, R135). -/
def rxCfgWrite (r : Nat) (s : State) : State :=
  if (rxOf s r).frame then s
  else applyReq r (modRx r (fun x => { x with cfgLive := regGet s (rxAddr r 0) }) s)

/-! ### The Band H reply access address (R139) -/

/-- The access-address rules of the Core Specification, those for the Coded PHYs among them: no run of seven equal bits, no four equal octets, at most 24 transitions,
at least two in the most significant six bits, not the advertising address nor one bit off it, at least three ones in the least significant eight bits, at most
eleven transitions in the least significant sixteen (PRESUMED, log 143). -/
def accessOk (a : Nat) : Bool :=
  let moves := fun (lo n : Nat) => (List.range n).countP fun i => bit a (lo + i) != bit a (lo + i + 1)
  let off := (List.range 32).countP fun i => bit a i != bit 0x8E89BED6 i
  ((List.range 26).all fun i => (List.range 6).any fun j => bit a (i + j) != bit a (i + j + 1)) &&
  !(fld a 0 8 == fld a 8 8 && fld a 8 8 == fld a 16 8 && fld a 16 8 == fld a 24 8) && decide (moves 0 31 ≤ 24) && decide (2 ≤ moves 26 5) && decide (2 ≤ off) &&
  decide (3 ≤ (List.range 8).countP (bit a)) && decide (moves 0 15 ≤ 11)

/-- From a candidate on, the first address that breaks no rule; `fuel` bounds the additions. -/
def accessFrom : Nat → Nat → Nat
  | 0, a => a
  | n + 1, a => if accessOk a then a else accessFrom n ((a + 0x01000001) % 2 ^ 32)

/-- The access address of a vehicle identifier is derived and loaded into RFH_RX_AA (R139). -/
def loadAccess (vid : Word) (s : State) : State := regSet 0x40040034 (word (accessFrom 1024 (vid ^^^ 0x5A3C96E1).toNat)) s

/-! ### Synthesiser commits (R146) -/

/-- The shadow pair of a synthesiser. -/
def shadowSyn (s : State) (i : Nat) : Word × Word :=
  match i with
  | 0 => (regGet s 0x40030010, regGet s 0x40030014)
  | 1 => (regGet s 0x40030020, regGet s 0x40030024)
  | 2 => (regGet s 0x40040010, 0)
  | _ => (regGet s 0x40040018, regGet s 0x4004001C)

/-- The staged pair of a synthesiser becomes live. -/
def applySyn (i : Nat) (s : State) : State :=
  modSyn i (fun y => match y.staged with
    | some p => { y with freq := p.1, ifSel := p.2, staged := none }
    | none => y) s

/-- Control word of descriptor `d` of a band. -/
def txdAddr (h : Bool) (d off : Nat) : Nat := bandBase h + 0x100 + 16 * d + off

/-- MODE of a descriptor (R168). -/
def txdMode (s : State) (h : Bool) (d : Nat) : Nat := regFld s (txdAddr h d 0) 1 2

/-- A TURN descriptor is armed on the chain of a band (R146). -/
def turnArmed (s : State) (h : Bool) : Bool := (bandOf s h).order.any fun d => txdMode s h d == 2

/-- A staged pair waits (R146): for a frame, for an armed TURN frame, for a transmission or a calibration. On Band H a change while the other
synthesiser is the active one is made at once. -/
def synWaits (s : State) (i : Nat) : Bool :=
  match chainOf s i with
  | .off => false
  | .sleep => false
  | .idle => false
  | .rx => (synRxs s i).any (fun r => (rxOf s r).frame) || (if i < 2 then txSyn s false == i && turnArmed s false else turnArmed s true)
  | _ => true

/-- A COMMIT of one synthesiser (R146). -/
def commitSyn (i : Nat) (s : State) : State :=
  let s := modSyn i (fun y => { y with staged := some (shadowSyn s i) }) s
  if synWaits s i then s else applySyn i s

/-- A commit that waited is tried again. -/
def retrySyn (i : Nat) (s : State) : State := if synWaits s i then s else applySyn i s

/-- The commits of a band that waited are tried again. -/
def retryBand (h : Bool) (s : State) : State := if h then retrySyn 3 (retrySyn 2 s) else retrySyn 1 (retrySyn 0 s)

/-- A write of RFL_COMMIT or RFH_COMMIT (R146). -/
def commitWrite (h : Bool) (mask : Nat) (s : State) : State :=
  let i := if h then 2 else 0
  let s := if bit mask 0 then commitSyn i s else s
  if bit mask 1 then commitSyn (i + 1) s else s

/-! ### Transmit descriptors (R148–R153) -/

/-- Address of TXSTAT. -/
def txstatAddr (h : Bool) : Nat := if h then 0x4004004C else 0x40030064

/-- Status of a descriptor (R168). -/
def setTxStat (h : Bool) (d v : Nat) (s : State) : State := regPutFld (txstatAddr h) (4 * d) 4 v s

/-- A descriptor is queued by a write of VALID (R148, R168). VALID reads 1 until the descriptor ends: a write of 0 to one that is queued or sending does not
withdraw it, and of one that is queued it replaces the other fields and leaves its status (DESIGN CHOICE, log 167). A TURN descriptor waits for a frame that ends after
it was queued (R148). -/
def queueDesc (h : Bool) (d : Nat) (ctl : Word) (s : State) : State :=
  let b := bandOf s h
  if b.order.contains d || b.sending == some d then regSet (txdAddr h d 0) (ctl ||| 1) s
  else
    let s := regSet (txdAddr h d 0) ctl s
    if !wbit ctl 0 then s
    else
      let fresh : Bool := wfld ctl 1 2 == 2 && !turnArmed s h
      setTxStat h d (if wfld ctl 1 2 = 2 then 8 else 1) (modBand h (fun b => { b with order := b.order ++ [d], turn := b.turn && !fresh }) s)

/-- Jobs of RADIO_TX whose descriptor has ended with status `st` (4 sent, 5 LATE, 6 ABORT, 7 EMPTY) are answered (R388). -/
def answerTx (h : Bool) (d st : Nat) (s : State) : State :=
  let js := s.rad.jobs.filter fun j => j.bandH == h && j.desc == d
  let s := modRad (fun x => { x with jobs := x.jobs.filter fun j => !(j.bandH == h && j.desc == d) }) s
  let status : Byte := if st = 4 ∨ st = 7 then 0x00 else if st = 5 then 0x40 else 0x50
  js.foldl (fun s j => reply j.ret status (if status = 0 then le 4 j.ts.toNat else refusalBytes 0xFFFF 0) s) s

/-- A descriptor ends with a status: VALID clears, the event is raised (TX_ABORT for a truncated transmission alone), a RADIO_TX is answered, and commits that
waited for it are tried again (R146, R148, R164, R168). -/
def endDesc (h : Bool) (d st : Nat) (s : State) : State :=
  let cut : Bool := (bandOf s h).sending == some d
  let turn : Bool := txdMode s h d == 2
  let s := setTxStat h d st (regPutFld (txdAddr h d 0) 0 1 0 s)
  let s := modBand h (fun b => { b with
    order := b.order.erase d, sending := if b.sending = some d then none else b.sending, turn := b.turn && !turn }) s
  let ev := if st = 5 then 0x80 else if st = 6 then (if cut then 0x100 else 0) else 0x40
  retryBand h (answerTx h d st (radEvent h ev s))

/-- An instant counts as reached (R148). -/
def reached (ts t : Word) : Bool := (ts - t).toNat < 2 ^ 31

/-- DEADLINE applies and has passed (R150). -/
def deadlinePast (s : State) (h : Bool) (d : Nat) : Bool :=
  let dl := regGet s (txdAddr h d 12)
  regBit s (txdAddr h d 0) 3 && reached s.power.clkTs dl && s.power.clkTs != dl

/-- Power index of a descriptor, held to PWRCAP (R153): the index sent and whether it was clipped. -/
def powerIndex (s : State) (h : Bool) (d : Nat) : Nat × Bool :=
  let want := regFld s (txdAddr h d 0) 10 (if h then 5 else 6)
  let cap := if h then regFld s 0x40040050 0 5 else regFld s 0x40030068 0 6
  (min want cap, decide (want > cap))

/-- The bytes of a descriptor's frame in the transmit buffer. -/
def descBytes (s : State) (h : Bool) (d : Nat) : Bytes :=
  slice (fit 512 (bandOf s h).buf) (regFld s (txdAddr h d 4) 0 9) (regFld s (txdAddr h d 4) 16 10)

/-- Sub-band of a Band L frequency (R154). -/
def subBand (f : Nat) : Nat := if f < 470000000 then 0 else if f < 700000000 then 1 else if f < 890000000 then 2 else 3

/-- The synthesiser's code for a frequency: the nearest step of 24 MHz / 2^24 (R147). -/
def synCode (f : Nat) : Nat := (f * 2 ^ 24 + 12000000) / 24000000

/-! #### Checks and the framing of LE (R136, R138, R140) -/

/-- Bits of bytes as they go on air, most or least significant bit of each byte first. -/
def msbBits (b : Bytes) : List Bool := b.flatMap fun x => (List.range 8).map fun i => bit x.toNat (7 - i)
def lsbBits (b : Bytes) : List Bool := b.flatMap fun x => (List.range 8).map fun i => bit x.toNat i

/-- A CRC of `w` bits over bits in their order on air. -/
def crcAir (w poly init : Nat) (bits : List Bool) : Nat :=
  bits.foldl (fun c b => let t := c * 2 % 2 ^ w; if (decide (2 ^ (w - 1) ≤ c)) != b then t ^^^ poly else t) init

/-- CRC-16 and CRC-8 of R138. -/
def crc16Air (b : Bytes) : Nat := crcAir 16 0x1021 0xFFFF (msbBits b)
def crc8Air (b : Bytes) : Nat := crcAir 8 0x2F 0xFF (msbBits b)

/-- CRC-24 of the Core Specification (PRESUMED, log 144). -/
def crc24Air (init : Nat) (bits : List Bool) : Nat := crcAir 24 0x00065B init bits

/-- Whitening of the Core Specification over bits in air order, from the register's state (PRESUMED, log 144). -/
def whiten : Nat → List Bool → List Bool
  | _, [] => []
  | r, b :: l =>
    let o := bit r 6
    (b != o) :: whiten ((r * 2 % 128 + b2n o) ^^^ (16 * b2n o)) l

/-- The register's state for a channel index: position 0 set, then the index, most significant bit first (PRESUMED, log 144). -/
def whitenSeed (ch : Nat) : Nat := 1 + ((List.range 6).map fun i => 2 ^ (i + 1) * b2n (bit ch (5 - i))).sum

/-- Bytes of bits in air order, least significant bit first. -/
def airBytes (l : List Bool) : Bytes :=
  (List.range (l.length / 8)).map fun i => byte ((List.range 8).map fun j => 2 ^ j * b2n (l.getD (8 * i + j) false)).sum

/-- The convolutional code of the Coded PHYs over bits in air order, from the last three bits: two bits for each (PRESUMED, log 144). -/
def fecBits : Bool → Bool → Bool → List Bool → List Bool
  | _, _, _, [] => []
  | x, y, z, b :: l => (b ^^ x ^^ y ^^ z) :: (b ^^ y ^^ z) :: fecBits b x y l

/-- A block of FEC with its three termination bits. -/
def fecBlock (l : List Bool) : List Bool := fecBits false false false (l ++ [false, false, false])

/-- Pattern mapping with four symbols a bit (PRESUMED, log 144). -/
def map4 (l : List Bool) : List Bool := l.flatMap fun b => [b, b, !b, !b]

/-- The framing that RFH adds to a PDU (R136): preamble, access address, the PDU and its CRC-24 whitened; on the Coded PHYs the access address with the coding
indicator and the rest are two blocks of FEC, the first and on S8 both mapped to four symbols a bit, filled up with zeros to a whole byte (PRESUMED, log 144). -/
def leFrame (phy aa init ch : Nat) (pdu : Bytes) : Bytes :=
  let crc := crc24Air init (lsbBits pdu)
  let tail := (List.range 24).map fun i => bit crc (23 - i)
  let body := whiten (whitenSeed ch) (lsbBits pdu ++ tail)
  if 2 ≤ phy then
    let second := fecBlock body
    let l := map4 (fecBlock (lsbBits (le 4 aa) ++ [phy == 2, false])) ++ (if phy = 2 then second else map4 second)
    List.replicate 10 0x3C ++ airBytes (l ++ List.replicate (7 - (l.length + 7) % 8) false)
  else List.replicate (phy + 1) (if bit aa 0 then 0x55 else 0xAA) ++ le 4 aa ++ airBytes body

/-- What goes on air for a descriptor: the buffer's frame on Band L, the framed PDU on Band H (R136, R148, R170). -/
def airFrame (s : State) (h : Bool) (d : Nat) : Bytes :=
  let b := descBytes s h d
  let ctl := txdAddr h d 0
  if h then leFrame (regFld s ctl 6 4) (regGet s 0x40040064).toNat (regFld s 0x40040068 0 24) (regFld s ctl 16 6) b else b

/-- What a descriptor is sent with (R147, R152, R153). -/
def airTx (s : State) (h : Bool) (d : Nat) : AirTx :=
  let p := (powerIndex s h d).1
  let f := (synOf s (txSyn s h)).freq.toNat
  { code := synCode f, preset := regFld s (txdAddr h d 0) 6 4, index := p, pa := regFld s (bandBase h + 0x200 + 4 * p) 0 10,
    corr := if h then 0 else signed 8 (regFld s 0x4003006C (8 * subBand f) 8) }

/-- The TUNE entry of a frequency's sub-band becomes the live tuner state (R154). -/
def tuneLive (f : Nat) (s : State) : State := regPutFld 0x40030074 8 4 (regFld s 0x40030070 (4 * subBand f) 4) s

/-- Transmission of a descriptor begins (R148, R151, R153, R154). On Band H the receive half leaves RX: half duplex (R130). -/
def sendDesc (h : Bool) (d : Nat) (s : State) : State :=
  let p := powerIndex s h d
  let i := txSyn s h
  let s := if p.2 then radEvent h 0x4000 s else s
  let s := setTxStat h d 3 (modBand h (fun b => { b with sending := some d, order := b.order.erase d, turn := false }) s)
  let s := modRad (fun x => { x with jobs := modAll (fun j => j.bandH == h && j.desc == d) (fun j => { j with ts := s.power.clkTs }) x.jobs }) s
  let s := if h then s else tuneLive (synOf s i).freq.toNat s
  let s := if h ∧ s.rad.hRx = .rx then setChain 3 .idle s else s
  emitOut (.radioTx h (airTx s h d) (airFrame s h d)) (setChain i .tx s)

/-- What waited for a receiver's frame takes effect when the frame is over or discarded: configuration and staged pair, then the state asked for (R129, R135, R146). -/
def frameGone (r : Nat) (s : State) : State :=
  let s := modRx r (fun x => { x with frame := false, cfgLive := regGet s (rxAddr r 0) }) s
  applyReq r (retrySyn (rxSyn s r) s)

/-- A frame in progress on a receiver is discarded. -/
def dropFrame (r : Nat) (s : State) : State := if (rxOf s r).frame then frameGone r s else s

/-- The receiver that shares the transmitter's synthesiser or chain. -/
def txRx (s : State) (h : Bool) : Nat := if h then 2 else if txSyn s false = 1 then 1 else 0

/-- The chain of a band's transmitter cannot start a frame: it calibrates, is off or in DUPLEX, or ranging has borrowed it (R143, R150, R182). A descriptor on a chain
that is OFF is held until something else turns the chain on; it does not itself power the chain up (DESIGN CHOICE, log 168). -/
def txBusy (s : State) (h : Bool) : Bool :=
  let c := chainOf s (txSyn s h)
  c == .cal || c == .off || (h && (s.rad.hTx == .duplex || s.rad.hRx == .duplex)) || airHeld s h

/-- The start instant of a descriptor (R148–R151): the first in the order of the queue, at START_AT, or at the turnaround after a frame with a valid CRC.
`ready`: the chain neither settles nor changes channel. -/
def startDesc (h : Bool) (d : Nat) (ready : Bool) (s : State) : State :=
  let b := bandOf s h
  let turn : Bool := txdMode s h d == 2
  let r := txRx s h
  if b.order.head? ≠ some d || b.sending.isSome then s
  else if txdMode s h d = 1 ∧ !reached s.power.clkTs (regGet s (txdAddr h d 8)) then s
  else if turn && !b.turn then (if deadlinePast s h d then endDesc h d 5 s else s)
  else if regFld s (txdAddr h d 4) 16 10 = 0 then endDesc h d 7 s
  else if !regBit s (txdAddr h d 0) 5 then endDesc h d 5 s
  else if deadlinePast s h d then endDesc h d 5 s
  else if !ready || txBusy s h then (if turn then endDesc h d 5 s else setTxStat h d 2 s)
  else if (rxOf s r).frame then
    if turn then endDesc h d 5 s
    else if regBit s (txdAddr h d 0) 4 then sendDesc h d (dropFrame r (if h then s else radEvent h 0x20000 s))
    else setTxStat h d 2 s
  else sendDesc h d s

/-- A descriptor that is not in use. -/
def freeDesc (s : State) (h : Bool) : Option Nat :=
  (List.range 4).find? fun d => !(bandOf s h).order.contains d && (bandOf s h).sending != some d

/-- Bytes of the transmit buffer that descriptors in use hold: the first free byte behind them. -/
def txBufTop (s : State) (h : Bool) : Nat :=
  (((bandOf s h).order ++ (bandOf s h).sending.toList).map fun d => regFld s (txdAddr h d 4) 0 9 + regFld s (txdAddr h d 4) 16 10).foldl max 0

/-- A frame is placed: its channel set and committed, its bytes in the buffer, its descriptor queued with READY (R146–R149). -/
def placeFrame (h : Bool) (d base freq at' preset pwr mode : Nat) (b : Bytes) (s : State) : State :=
  let syn := txSyn s h
  let s := regSet ([0x40030010, 0x40030020, 0x40040010, 0x40040018].getD syn 0x40030010) (word freq) s
  let s := commitSyn syn s
  let s := modBand h (fun x => { x with buf := (fit 512 x.buf).take base ++ b ++ (fit 512 x.buf).drop (base + b.length) }) s
  let s := regSet (txdAddr h d 8) (word at') (regSet (txdAddr h d 4) (word (base + 65536 * b.length)) s)
  queueDesc h d (word (1 + 2 * mode + 32 + 64 * preset + 1024 * pwr)) s

/-- Bit rate of a Band L preset (R134). -/
def presetRate (p : Nat) : Nat :=
  match p with
  | 0 => 2400 | 1 => 19200 | 2 => 50000 | 3 => 100000 | 4 => 200000 | _ => 0

/-- The reflected power of a sent Band L frame is judged (R155). -/
def judgeReturn (d : Nat) (rl : Nat) (s : State) : State :=
  let rate := presetRate (regFld s (txdAddr false d 0) 6 4)
  let bits := 8 * regFld s (txdAddr false d 4) 16 10
  let judged : Bool := rate != 0 && decide (bits * 10000 ≥ rate) && decide ((powerIndex s false d).1 ≥ 20)
  if !judged then s
  else
    let s := regPutFld 0x40030074 0 8 rl s
    let run := if rl < regFld s 0x40030070 18 6 then s.rad.mismatchRun + 1 else 0
    let s := modRad (fun x => { x with mismatchRun := run }) s
    if 3 ≤ run then
      let s := radEvent false 0x800 s
      if regBit s 0x40030070 16 then modRad (fun x => { x with sweepDue := some (subBand (synOf s (txSyn s false)).freq.toNat) }) s else s
    else s

/-! ### Calibration (R132, R156–R158) -/

/-- A window is open, or due within some ticks of CLK_TS. -/
def windowNear (s : State) (ticks r : Nat) : Bool :=
  (rxOf s r).winOpen || (rxOf s r).winHeld || (regBit s (rxAddr r 0x10) 0 && decide (0 < regFld s (rxAddr r 0x10) 4 4) &&
    decide (ticksFrom s.power.clkTs (regGet s (rxAddr r 0xC)) < ticks))

/-- No descriptor of a band is queued or sending. -/
def noDesc (s : State) (h : Bool) : Bool := (bandOf s h).order.isEmpty && (bandOf s h).sending.isNone

/-- Ranging leaves the chains of a band alone: no exchange, no tones. -/
def airFree (s : State) (h : Bool) : Bool := !airHeld s h && !(h && (s.rad.hTx == .duplex || s.rad.hRx == .duplex))

/-- A gap of so many ticks of CLK_TS on receivers, with the bands of the synthesisers used: no window open or due, no frame in progress, of ranging neither, no
descriptor queued. -/
def gapOn (s : State) (rs : List Nat) (hs : List Bool) (ticks : Nat) : Bool :=
  rs.all (fun r => !windowNear s ticks r && !(rxOf s r).frame && airFree s (rxBand r)) && hs.all (noDesc s) && s.rad.cal.isNone

/-- The band whose descriptors use a receiver's synthesiser (R128, R130, R159). -/
def descBands (s : State) (r : Nat) : List Bool := if rxSyn s r = txSyn s (rxBand r) then [rxBand r] else []

/-- The gap of a calibration on request: 12 ms on every receiver (R157). -/
def radioFree (s : State) : Bool := gapOn s [0, 1, 2] [false, true] 9216000

/-- The gap of a band of so many ticks. -/
def bandFree (s : State) (h : Bool) (ticks : Nat) : Bool := gapOn s (if h then [2] else [0, 1]) [h] ticks

/-- The corrections that a calibration measures for `n` registers of `bits` bits from an address: what the analogue parts give. -/
def calRegs (a n bits : Nat) (s : State) : State :=
  draw n ((List.range n).foldl (fun s' i => regSet (a + 4 * i) (word (fld (peek s i).toNat 0 bits)) s') s)

/-- Isolation measured: RFH_ISO and ISO_LOW, with a carrier at 2440 MHz and index 0 (R132, R156). -/
def setIsolation (m : CalMeas) (s : State) : State :=
  let low : Bool := decide (m.iso0.toNat < 45) && decide (m.iso1.toNat < 45)
  emitOut (.radioCw true 2440000000 0 400)
    (modRad (fun x => { x with isoLow := low }) (regSet 0x40040054 (word (m.iso0.toNat + 256 * m.iso1.toNat + 65536 * b2n low)) s))

/-- Reference frequencies of the sub-bands (R154). -/
def subRefs : List Nat := [433920000, 600000000, 868300000, 915000000]

/-- The sweep of the four sub-bands, a carrier of 480 µs at index 0 on each reference frequency (R155, R156). -/
def sweepAll (m : CalMeas) (s : State) : State :=
  subRefs.foldl (fun s f => emitOut (.radioCw false f 0 480) s) (regPutFld 0x40030070 0 16 m.tune.toNat s)

/-- A pending recalibration of some receivers is met by a calibration of theirs. -/
def pendMet (rs : List Nat) (s : State) : State := rs.foldl (fun s r => modRx r (fun x => { x with recalPend := false }) s) s

/-- The Band H steps of R156: VCOs, DC and IQ of both inputs, RSSI offsets, isolation; DONE of steps 1, 2, 5, 6, 8 (R170). -/
def calBandH (m : CalMeas) (s : State) : State :=
  let s := setIsolation m (calRegs 0x40040340 2 8 (calRegs 0x40040300 8 16 s))
  radEvent true 0x1000 (pendMet [2] (regSet 0x4004005C (word (0xB3 + 65536 * m.imgH.toNat)) s))

/-- Steps 2–8 of R156, with the sweep unless it is skipped; step 9, the LF offsets, sets its own DONE bit. -/
def calibrate (m : CalMeas) (s : State) : State :=
  let s := calRegs 0x40030380 8 8 (calRegs 0x40030300 32 16 s)
  let sweep := regBit s 0x40030070 17
  let s := if sweep then sweepAll m s else s
  let s := regSet 0x40030080 (word (0xBF + 0x40 * b2n sweep + 65536 * m.imgA.toNat + 2 ^ 24 * m.imgB.toNat)) s
  radEvent false 0x1000 (pendMet [0, 1] (calBandH m s))

/-- A receiver recalibrates its DC offset and IQ gain and phase at its live frequency (R158). -/
def recalOne (r : Nat) (s : State) : State :=
  let f := (synOf s (rxSyn s r)).freq.toNat
  let a := if r = 2 then 0x40040300 + 16 * wfld (rxOf s r).cfgLive 4 1 else 0x40030300 + 64 * r + 16 * subBand f
  radEvent (rxBand r) 0x1000 (pendMet [r] (calRegs a 4 16 s))

/-- The chains that a calibration takes: one of START in RFH_CAL_CTL takes the Band L chains too, and waits for a gap on both bands (DESIGN CHOICE, log 169). -/
def calChains (s : State) : CalKind → List Nat
  | .rx r => [rxSyn s r]
  | _ => [0, 1, 2, 3]

/-- How long a calibration takes in µs: the typical times of R156–R158 (DESIGN CHOICE, log 149). -/
def calTime (s : State) : CalKind → Nat
  | .rx _ => 900
  | .bandH => 4620
  | .full => if regBit s 0x40030070 17 then 11600 else 9600

/-- A calibration begins: its chains are in CAL (R143, R157). -/
def calBegin (k : CalKind) (m : CalMeas) (s : State) : State :=
  let s := (calChains s k).foldl (fun s i => if (synOf s i).failed then s else setChain i .cal s) s
  modRad (fun x => { x with cal := some { kind := k, meas := m, left := calTime s k } }) s

/-- A recalibration is not suspended by TEMP_EN (R169). -/
def tempEn (s : State) (r : Nat) : Bool := regBit s (bandBase (rxBand r) + (if r = 2 then 0x58 else 0x7C)) 1

/-- What a recalibration of one receiver measures beyond its correction registers: nothing. -/
def noMeas : CalMeas := { iso0 := 0, iso1 := 0, imgA := 0, imgB := 0, imgH := 0, tune := 0 }

/-- What waits for a gap begins when there is one: the calibrations asked for in their order, a receiver's recalibration in a gap of 1.0 ms on its synthesiser
(R157, R158). -/
def runGaps (s : State) : State :=
  let s := match s.rad.calDue with
    | (k, m) :: l => if radioFree s then calBegin k m (modRad (fun x => { x with calDue := l }) s) else s
    | [] => s
  [0, 1, 2].foldl (fun s r =>
    if (rxOf s r).recalPend && tempEn s r && gapOn s [r] (descBands s r) 768000 then calBegin (.rx r) noMeas s else s) s

/-- START of a calibration (R157, R170): one that still waits is not asked for twice. -/
def calStart (k : CalKind) (m : CalMeas) (s : State) : State :=
  runGaps (modRad (fun x => { x with calDue := if x.calDue.any (·.1 == k) then x.calDue else x.calDue ++ [(k, m)] }) s)

/-- A receiver has drifted by 20 °C (R158). -/
def recalDue (r : Nat) (s : State) : State :=
  if tempEn s r then runGaps (modRx r (fun x => { x with recalPend := true }) s) else s

/-- A window opens with its slots. -/
def winBegin (r : Nat) (s : State) : State :=
  modRx r (fun x => { x with winOpen := true, winHeld := false, slots := List.replicate (regFld s (rxAddr r 0x10) 4 4) (0, false) }) s

/-- The receivers of a band go on after a transmission. -/
def resumeRx (h : Bool) (s : State) : State := if h then applyReq 2 s else applyReq 1 (applyReq 0 s)

/-- The transmitter's chain of a band follows ranging: while it holds the band its synthesiser is in TX, on Band H with the receive half IDLE, and frames in progress
on the chain are lost, on Band L with RX-B in RX for the captures; afterwards the receivers go on. The chain states stand for the transmit steps of the event (R128, R130, R143, R182, R187). A transmission, a
calibration and DUPLEX come first. -/
def rngAir (h : Bool) (s : State) : State :=
  let i := txSyn s h
  if (bandOf s h).sending.isSome || (synOf s i).failed || chainOf s i == .cal || chainOf s i == .duplex then s
  else if airHeld s h then
    let s := dropFrame (txRx s h) s
    let s := if h ∧ chainOf s (5 - i) = .rx then setChain (5 - i) .idle s else s
    let s := if !h ∧ capturing s 1 ∧ i = 0 ∧ !s.rad.syn2.failed then setChain 1 .rx (dropFrame 1 s) else s
    setChain i .tx (if h then s else tuneLive (1000 * toneFreq s false 0) s)
  else if chainOf s i = .tx then resumeRx h (retryBand h (setChain i .idle s))
  else s

/-- Chains come back from a calibration: pairs staged in it are live, then the receivers take what they ask for; in Dusk the sniff (R143, R146, R160). -/
def calRelease (k : CalKind) (s : State) : State :=
  let l := calChains s k
  let dusk : Bool := s.power.state == .dusk
  let s := l.foldl (fun s i => if chainOf s i = .cal then setChain i (if !dusk then .idle else if i = 0 then .sleep else .off) s else s) s
  let s := retryBand true (retryBand false s)
  let s := if dusk then s else [0, 1, 2].foldl (fun s r => if l.contains (rxSyn s r) then applyReq r s else s) s
  rngAir true (rngAir false s)

/-- A calibration ends: its results stand, windows that it held open late (R157, R158, R161). -/
def calEnd (c : CalRun) (s : State) : State :=
  let s := modRad (fun x => { x with cal := none }) s
  let s := match c.kind with
    | .full => calibrate c.meas s
    | .bandH => calBandH c.meas s
    | .rx r => recalOne r s
  runGaps ([0, 1, 2].foldl (fun s r => if (rxOf s r).winHeld then winBegin r s else s) (calRelease c.kind s))

/-- A µs of a calibration passes. -/
def calTick (s : State) : State :=
  match s.rad.cal with
  | none => s
  | some c => if c.left ≤ 1 then calEnd c s else modRad (fun x => { x with cal := some { c with left := c.left - 1 } }) s

/-! ### Ends of frames and windows -/

/-- A transmission ends and its descriptor is marked sent (R146, R148, R155). -/
def endSending (h : Bool) (rl : Nat) (s : State) : State :=
  match (bandOf s h).sending with
  | none => s
  | some d =>
    let s := if h then s else judgeReturn d rl s
    runGaps (rngAir h (resumeRx h (endDesc h d 4 (setChain (txSyn s h) .idle s))))

/-- Slot `k` of an open window takes a frame or evidence of a collision (R141, R142). -/
def markSlot (r k : Nat) (good coll : Bool) (s : State) : State :=
  modRx r (fun x => { x with slots := modAt k (fun y => (y.1 + b2n good, y.2 || coll || (good && decide (1 ≤ y.1)))) x.slots }) s

/-- The sync word a receiver looks for: SLEN bits of SYNC, the access address on Band H (R162, R166, R170). -/
def rxSync (s : State) (r : Nat) : Nat :=
  if r = 2 then (regGet s 0x40040034).toNat else (regGet s (rxAddr r 4)).toNat % 2 ^ (8 * (wfld (rxOf s r).cfgLive 20 2 + 1))

/-- The receiver hears a frame: it is in RX and captures no tones, on the frame's preset and coding, and the sync word is the one it looks for (R135, R138, R140, R166,
R182). -/
def rxHeard (s : State) (f : RxFrame) : Bool :=
  let r := f.rx.val
  let cfg := (rxOf s r).cfgLive
  chainOf s (rxSyn s r) == .rx && !capturing s r && wfld cfg 0 4 == f.preset && (r == 2 || wbit cfg 19 == f.manch) && rxSync s r == f.sync.toNat

/-- The frame is received as an LE PDU: Band H with a length in its header (R136, R138, R170). A frame of fixed length is a T3 reply, whose bits are not whitened
(PRESUMED, log 144). -/
def rxLe (s : State) (f : RxFrame) : Bool := f.rx == 2 && !wbit (rxOf s 2).cfgLive 7

/-- The convolutional code of the Coded PHYs undone, from the last three bits: the first bit of each pair gives the bit sent (PRESUMED, log 144). -/
def unfecBits : Bool → Bool → Bool → List Bool → List Bool
  | x, y, z, a :: _ :: l => (a ^^ x ^^ y ^^ z) :: unfecBits (a ^^ x ^^ y ^^ z) x y l
  | _, _, _, _ => []

/-- Pattern mapping undone: the first of four symbols (PRESUMED, log 144). -/
def unmap4 : List Bool → List Bool
  | a :: _ :: _ :: _ :: l => a :: unmap4 l
  | _ => []

/-- What a receiver on a PHY reads of an LE frame: FEC and pattern mapping undone, the rest whitened back with its channel index; the PDU by the length in its second
byte, and whether the CRC-24 after it is right (R136, R170; PRESUMED, log 144). -/
def leRead (phy ch init : Nat) (data : Bytes) : Bytes × Bool :=
  let air := lsbBits data
  let bits := whiten (whitenSeed ch) (if phy = 2 then unfecBits false false false air else if phy = 3 then unfecBits false false false (unmap4 air) else air)
  let n := 2 + byteAt (airBytes (bits.take 16)) 1
  let crc := (bits.drop (8 * n)).take 24
  (airBytes (bits.take (8 * n)), decide (8 * n + 24 ≤ bits.length) && crc24Air init (bits.take (8 * n)) == crc.foldl (fun c b => 2 * c + b2n b) 0)

/-- What the Band H receiver reads of an LE frame, with RFH_RX_CFG.WHITE_CH and RFH_RX_CRCINIT (R170). -/
def rxLeRead (s : State) (f : RxFrame) : Bytes × Bool :=
  leRead (wfld (rxOf s 2).cfgLive 0 4) (wfld (rxOf s 2).cfgLive 16 6) (regFld s 0x4004006C 0 24) f.data

/-- The length that a receiver takes a frame for is its length: FLEN bytes, or the byte after the sync word (R140, R166, R170). -/
def rxLenOk (s : State) (f : RxFrame) : Bool :=
  let cfg := (rxOf s f.rx.val).cfgLive
  let n := f.data.length
  if f.rx = 2 then wfld cfg 8 8 == n || wfld cfg 8 8 == 0
  else if wbit cfg 8 then wfld cfg 9 8 == n || wfld cfg 9 8 == 0 else n == 1 + byteAt f.data 0

/-- The check that a receiver computes over a frame that is no LE PDU (R138, R166): none when CHECK is none or FLEN 0 delivers no payload. On Band H it is a T3
reply, most significant bit first (R138). -/
def rxCheck (s : State) (f : RxFrame) : Option Nat :=
  let cfg := (rxOf s f.rx.val).cfgLive
  if f.rx = 2 then (if wfld cfg 8 8 = 0 then none else some (crc24Air (regFld s 0x4004006C 0 24) (msbBits f.data)))
  else if wbit cfg 8 && wfld cfg 9 8 == 0 then none
  else match wfld cfg 17 2 with
    | 1 => some (crc8Air f.data)
    | 2 => some (crc16Air f.data)
    | _ => none

/-- A frame's check is valid. -/
def rxOk (s : State) (f : RxFrame) : Bool :=
  if rxLe s f then (rxLeRead s f).2 else rxLenOk s f && (match rxCheck s f with | some c => c == f.check | none => true)

/-- A live injection makes the receiver's next valid check fail (R538). -/
def rxInjected (s : State) (f : RxFrame) : Bool := injected 0x000C s == some f.rx.val

/-- A frame ends that a receiver hears, and its check is reported valid (R138, R538). -/
def rxGood (s : State) (f : RxFrame) : Bool := f.ends && rxHeard s f && rxOk s f && !rxInjected s f

/-- What a receiver delivers of a frame: nothing with FLEN 0 (R166). -/
def rxPayload (s : State) (f : RxFrame) : Bytes :=
  let cfg := (rxOf s f.rx.val).cfgLive
  if rxLe s f then (rxLeRead s f).1
  else if (if f.rx = 2 then wfld cfg 8 8 == 0 else wbit cfg 8 && wfld cfg 9 8 == 0) then [] else f.data

/-- The dual-preamble detector reports (R142): a second sync word within 10 dB, or a step of more than 6 dB; levels are in 0.5 dB. -/
def dualHit (f : RxFrame) : Bool := (f.second.any fun l => decide (f.rssi.toNat ≤ l.toNat + 20) && decide (l.toNat ≤ f.rssi.toNat + 20)) || decide (12 < f.rise.toNat)

/-- The sync word of a frame is detected: a frame is in progress, and RSSI reads its level (R129, R137). -/
def frameBegins (f : RxFrame) (s : State) : State :=
  modRx f.rx.val (fun x => { x with frame := true, level := f.rssi }) s

/-- A frame ends on a receiver (R138, R140–R142). A live injection on the receiver's check makes a valid one fail (R538). PEAK keeps its level, RSSI reads what
is there after it (log 146). On the transmitter's chain a valid one is what a TURN that is armed waits for, a failed one is not (R148, R161). -/
def frameEnds (f : RxFrame) (s : State) : State :=
  let r := f.rx.val
  let h := rxBand r
  let good := rxOk s f
  let inj : Bool := good && rxInjected s f
  let ok := good && !inj
  let i := if r = 1 then 1 else 0
  let s := draw 1 (modRx r (fun x => { x with level := byte (wfld (peek s 0) 0 8) }) (regPutFld (rxAddr r 8) 8 8 f.rssi.toNat s))
  let s := match f.slot with
    | some k => if (rxOf s r).winOpen then markSlot r k.val ok (dualHit f || inj) s else s
    | none => s
  let s := if ok then radEvent h (2 ^ i) s
    else radEvent h (2 ^ (2 + i)) (regInc (if h then 0x40040060 else 0x40030084) 16 s)
  let s := if inj then faultBy true 2 0x000C 2 r 0 0 (word r) s else s
  let s := if r = txRx s h then modBand h (fun b => { b with turn := ok && turnArmed s h }) s else s
  runGaps (frameGone r s)

/-- A frame on a receiver: its sync word is detected, or it ends (R129, R138, R140–R142; log 145). -/
def rxFrame (f : RxFrame) (s : State) : State :=
  if !rxHeard s f then s else if f.ends then frameEnds f s else frameBegins f s

/-- An armed window opens (R141), or is held by a calibration of its receiver (R161). -/
def openWindow (r : Nat) (s : State) : State :=
  if regBit s (rxAddr r 0x10) 0 && decide (0 < regFld s (rxAddr r 0x10) 4 4) then
    if chainOf s (rxSyn s r) = .cal then modRx r (fun x => { x with winHeld := true }) s else rngAir (rxBand r) (winBegin r s)
  else s

/-- Status of a slot (R141): `energy` says that the energy detector reported. -/
def slotCode (x : Nat × Bool) (energy : Bool) : Nat :=
  if x.1 = 0 then (if x.2 || energy then 2 else 0) else if x.2 then 3 else 1

/-- SLOTSTAT of a window (R141). -/
def slotWord (slots : List (Nat × Bool)) (energy : List Nat) : Nat :=
  (slots.zipIdx.map fun p => slotCode p.1 (energy.contains p.2) * 4 ^ p.2).sum

/-- The slots that the energy detector reports: those in which the RSSI held a level above ENERGY_THR for 100 µs in total (R142). -/
def energySlots (s : State) (r : Nat) (l : List (Nat × Nat)) : List Nat :=
  (l.filter fun p => decide (regFld s (if r = 2 then 0x40040048 else 0x40030060) 0 8 < p.2)).map (·.1)

/-- The slots of an open window as they stand: status, ARM cleared, WIN_DONE (R141, R167); `levels` gives the level that each slot's RSSI held for 100 µs in total. -/
def closeSlots (r : Nat) (levels : List (Nat × Nat)) (s : State) : State :=
  if !(rxOf s r).winOpen then s
  else
    let s := regSet (rxAddr r 0x14) (word (slotWord (rxOf s r).slots (energySlots s r levels))) s
    let s := regPutFld (rxAddr r 0x10) 0 1 0 (modRx r (fun x => { x with winOpen := false }) s)
    radEvent (rxBand r) (if r = 1 then 32 else 16) s

/-- The Band L steps of an MCP event that waited for a window on RX-B begin (R172, R186). -/
def bandLSteps (s : State) : State :=
  if s.rng.mcp.isSome ∧ !s.rng.mcpL ∧ !s.rad.rxB.winOpen then
    modRng (fun r => { r with mcpL := true, tones := r.tones ++ toneStamps s false 0 (mcpTones s false) }) s
  else s

/-- The last slot closes (R141): what waited for the window goes on. -/
def closeWindow (r : Nat) (levels : List (Nat × Nat)) (s : State) : State :=
  if !(rxOf s r).winOpen then s
  else runGaps (rngAir (rxBand r) (bandLSteps (closeSlots r levels s)))

/-! ### Tuner sweep (R155) -/

/-- The sweep after a MISMATCH, in a gap of 0.6 ms on Band L: the best state is kept; MISMATCH stands when even that is below RL_THR (R155). -/
def tunerSweep (best rl : Nat) (s : State) : State :=
  match s.rad.sweepDue with
  | none => s
  | some sb =>
    if !bandFree s false 460800 then s
    else
      let s := emitOut (.radioCw false (subRefs.getD sb 0) 0 480) s
      let s := regPutFld 0x40030070 (4 * sb) 4 best (modRad (fun x => { x with sweepDue := none, mismatchRun := 0 }) s)
      let s := regSet 0x40030074 (word (rl + 256 * best)) s
      if rl < regFld s 0x40030070 18 6 then s else regAndNot 0x40030004 0x800 s

/-! ### Lock loss and failover (R159) -/

/-- The band of a synthesiser. -/
def synBand (i : Nat) : Bool := 2 ≤ i

/-- A transmission on a synthesiser ends ABORT, and its chain resumes (R159). -/
def abortSending (h : Bool) (s : State) : State :=
  match (bandOf s h).sending with
  | some d => rngAir h (resumeRx h (endDesc h d 6 (setChain (txSyn s h) .idle s)))
  | none => s

/-- A synthesiser loses lock; `relocks` says whether its one recalibration locks (R41, R159, R538). A lost window, release or decision is for
those who use the chain. -/
def lockLoss (i : Nat) (relocks : Bool) (s : State) : State :=
  let h := synBand i
  let inj := (injected 0x000A s).filter fun p => p % 4 == i
  let relocks := match inj with
    | some p => !bit p 4
    | none => relocks
  let s := if txSyn s h = i then abortSending h s else s
  let s := radEvent h 0x200 ((synRxs s i).foldl (fun s r => dropFrame r s) s)
  if relocks then faultBy inj.isSome 3 0x000A 2 i 2 0 (word i) (runGaps s)
  else
    let s := rngAir h (resumeRx h (modSyn i (fun y => { y with failed := true }) (setChain i .off s)))
    faultBy inj.isSome 3 0x000A 3 i 6 0 (word i) (runGaps (radEvent h 0x400 s))

/-- The retry of a failed synthesiser, in a gap of 1.0 ms on its band, locks (R159). -/
def retryLocks (i : Nat) (locks : Bool) (s : State) : Bool := (synOf s i).failed && locks && bandFree s (synBand i) 768000

/-- The retry of a failed synthesiser (R159). -/
def failRetry (i : Nat) (locks : Bool) (s : State) : State :=
  let h := synBand i
  if retryLocks i locks s then
    let s := modSyn i (fun y => { y with failed := false }) (setChain i .idle s)
    let s := if h ∧ chainOf s (5 - i) = .rx then setChain (5 - i) .idle s else s
    radEvent h 0x400 (rngAir h (resumeRx h s))
  else s

/-- A rapid bit exchange can start (R132, R159, R173): both Band H synthesisers work, an input is isolated, and chain H can enter DUPLEX: it neither transmits nor
calibrates. -/
def duplexOk (s : State) : Bool :=
  !s.rad.isoLow && !s.rad.txlo.failed && !s.rad.rxlo.failed && s.rad.hTx != .tx && s.rad.hTx != .cal && s.rad.hRx != .cal

/-- The input of a rapid bit exchange: RFH_IN0 when its isolation reaches 45 dB, else RFH_IN1 (R132). -/
def rbeInput (s : State) : Nat := if 45 ≤ regFld s 0x40040054 0 8 then 0 else 1

/-- Chain H enters DUPLEX: TX-LO on f, RX-LO on f + 24 MHz, on the isolated input (R131, R132, R143). -/
def enterDuplex (f : Nat) (s : State) : State :=
  let s := modSyn 3 (fun y => { y with freq := word (f + 24000000) }) (modSyn 2 (fun y => { y with freq := word f }) s)
  let s := modRx 2 (fun x => { x with frame := false, cfgLive := setFld x.cfgLive 4 1 (rbeInput s) }) s
  setChain 2 .duplex (setChain 3 .duplex s)

/-! ### Dusk sniff (R160) -/

/-- A sniffed frame: a length byte of 1–16 before the payload, CRC-16 over both (R140). -/
def sniffOk (b : Bytes) (check : Nat) : Bool :=
  decide (1 ≤ byteAt b 0) && decide (byteAt b 0 ≤ 16) && b.length == 1 + byteAt b 0 && crc16Air b == check

/-- One sniff window (R160): extended when the RSSI lay above SNIFF_THR for 200 µs, skipped during a calibration (R157). A good frame is held and wakes E2. RX-A
is back in SLEEP at its end. -/
def sniffWindow (level : Nat) (x : SniffFind) (s : State) : State :=
  if s.power.state != .dusk || regFld s 0x40030078 0 10 = 0 || s.rad.syn1.failed || s.rad.cal.isSome then s
  else if level ≤ regFld s 0x40030078 10 8 then s
  else match x with
    | .noSync => regInc 0x40030088 16 s
    | .frame b check =>
      if !sniffOk b check then radEvent false 4 (regInc 0x40030084 16 s)
      else
        let s := modEng 2 (fun e => if e.state = .siesta then { e with state := .run, waitMask := none } else e) (regPutFld 0x40030038 8 8 level s)
        radEvent false 0x2001 (modRad (fun x => { x with held := b }) s)

/-! ### All chains off (R161) -/

/-- Every descriptor ends with a status. -/
def endAll (h : Bool) (st : Nat) (s : State) : State :=
  let b := bandOf s h
  (b.sending.toList ++ b.order).foldl (fun s d => endDesc h d st s) s

/-- Every chain goes OFF: transmissions and queued descriptors end with `st`: ABORT at a Sundown, LATE at Midnight; a descriptor that was only queued at a Sundown
ends ABORT without TX_ABORT (DESIGN CHOICE, log 150). Frames being received are lost, windows close with their slots as reached, a calibration is over (R161). -/
def radioOff (st : Nat) (s : State) : State :=
  let s := modRad (fun x => { x with cal := none, calDue := [] }) s
  let s := [0, 1, 2, 3].foldl (fun s i => setChain i .off s) s
  let s := endAll true st (endAll false st s)
  [0, 1, 2].foldl (fun s r => closeSlots r [] (modRx r (fun x => { x with frame := false, winHeld := false }) s)) s

/-! ### Views (R163, R170) -/

/-- Number of a chain state (R143, R163). -/
def ChainState.code : ChainState → Nat
  | .off => 0 | .sleep => 1 | .idle => 2 | .cal => 3 | .rx => 4 | .tx => 5 | .duplex => 6

/-- RSSI of a receiver: the level now and PEAK of the last frame (R162). -/
def rssiView (s : State) (r : Nat) : Nat := (rxOf s r).level.toNat + 256 * regFld s (rxAddr r 8) 8 8

/-- RFL registers that show state. CAL_BUSY shows any calibration that runs, that of a Band H receiver alone too (DESIGN CHOICE, log 170). -/
def rflView (s : State) (off : Nat) : Option Nat :=
  let x := s.rad
  match off with
  | 0x000 => some (x.l1.code + 8 * x.l2.code + flagsWord [(6, x.rxA.frame), (7, x.rxB.frame), (8, x.syn1.staged.isSome),
      (9, x.syn2.staged.isSome), (10, x.syn1.failed), (11, x.syn2.failed), (12, x.cal.isSome), (13, x.rxA.recalPend), (14, x.rxB.recalPend),
      (15, x.sniff)])
  | 0x038 => some (rssiView s 0)
  | 0x050 => some (rssiView s 1)
  | 0x018 => some x.syn1.freq.toNat
  | 0x01C => some x.syn1.ifSel.toNat
  | 0x028 => some x.syn2.freq.toNat
  | 0x02C => some x.syn2.ifSel.toNat
  | _ => none

/-- RFH registers that show state. CAL_BUSY shows any calibration that runs, that of a Band L receiver alone too (DESIGN CHOICE, log 170). -/
def rfhView (s : State) (off : Nat) : Option Nat :=
  let x := s.rad
  match off with
  | 0x000 => some (x.hTx.code + 8 * x.hRx.code + flagsWord [(6, x.rxH.frame), (8, x.txlo.staged.isSome), (9, x.rxlo.staged.isSome),
      (10, x.txlo.failed), (11, x.rxlo.failed), (12, x.cal.isSome), (13, x.rxH.recalPend), (14, x.isoLow)])
  | 0x038 => some (rssiView s 2)
  | 0x014 => some x.txlo.freq.toNat
  | 0x020 => some x.rxlo.freq.toNat
  | 0x024 => some x.rxlo.ifSel.toNat
  | _ => none

end Sys2Proof.Machine
end

