-- ==== Sys2Proof/Machine/Ranging.lean ====
section
/-! DEFINITION. Ranging and proximity fusion: the rapid bit exchange, multi-carrier phase ranging, Channel Sounding, the LF field-vector checks and the
fusion into zones (chapter 5, R171–R205). -/
namespace Sys2Proof.Machine

/-- Bits of RNG_EVENTS are raised (R199). -/
def rngEvent (bits : Nat) (s : State) : State := raise 0x40050008 bits s

/-! ### Rapid bit exchange (R173–R180) -/

/-- KFIX (R178). -/
def kfix (s : State) : Nat := regFld s 0x40050024 0 12 + 768 + fld s.rng.tminLive.toNat 0 13

/-- A write of TMIN takes effect at once, or at the end of an exchange that runs (R198). -/
def tminApply (s : State) : State :=
  match s.rng.rbe with
  | some x => if x.started then s else modRng (fun r => { r with tminLive := regGet s 0x40050028 }) s
  | none => modRng (fun r => { r with tminLive := regGet s 0x40050028 }) s

/-- K_RBE of a key, a nonce, a vehicle identifier and an identifier (R174). -/
def kRbe (key : Bytes) (nonceR : Quad) (vid : Word) (ident : Bytes) : Bytes :=
  cmac key ([0x52, 0x42, 0x45] ++ le 8 nonceR.toNat ++ le 4 vid.toNat ++ ident)

/-- R_0 and R_1: the leftmost and the rightmost 64 bits (R174), read as numbers most significant byte first (DEDUCED, log 34). -/
def respRegs (k : Bytes) : Quad × Quad := (BitVec.ofNat 64 (beNat (k.take 8)), BitVec.ofNat 64 (beNat (slice k 8 8)))

/-- RES codes of RNG_RBE_BOUND (R199). -/
def resNone : Nat := 0
def resOk : Nat := 1
def resUnavail : Nat := 2
def resNoAck : Nat := 3
def resMiss : Nat := 4
def resFailBits : Nat := 5
def resFailConfirm : Nat := 6
def resAbort : Nat := 7
def resFar : Nat := 8

/-- An exchange is set up for a token record or a coupling unit: NONCE_R, the challenge bits and F_IDX are drawn (R173, R174). -/
def rbeSetup (record unit : Option Nat) (retried : Bool) (s : State) : State :=
  let n : Quad := BitVec.ofNat 64 (leNat (peekBytes s 0 8))
  let s1 := regSet 0x40050034 (peek s 3) (regSet 0x40050030 (peek s 2) s)
  let s1 := regPutFld 0x40050020 8 5 ((peek s 4).toNat % 29) s1
  draw 5 (modRng (fun r => { r with
    rbe := some { record := record, unit := unit, nonceR := n, started := false, retried := retried }, resp := none }) s1)

/-- The result of an exchange is written (R179, R199). RBE_FAIL is raised for FAIL_BITS and FAIL_CONFIRM alone (DESIGN CHOICE, log 172: R199 only names the bit). -/
def rbeResult (res bound : Nat) (s : State) : State :=
  let s := regSet 0x4005004C (word (bound + 65536 * res)) s
  rngEvent (if res = resFailBits ∨ res = resFailConfirm then 17 else 1) s

/-- Why no exchange runs: NONE with NBITS 0, UNAVAIL when R173 forbids; the result is written (R173, R179). -/
def rbeBarred (s : State) : Option (Nat × State) :=
  if regFld s 0x40050020 0 7 = 0 then some (resNone, regSet 0x4005004C 0xFFFF s)
  else if !duplexOk s then some (resUnavail, rbeResult resUnavail 0xFFFF (modRng (fun r => { r with resp := none }) s))
  else none

/-- f of an exchange in Hz (R173). -/
def rbeFreq (i : Nat) : Nat := 2402000000 + 2000000 * i

/-- RBE_START: NONCE_R, F_IDX, NBITS, and who is to answer: TOKEN_ID, or the responder's DEVICE_ID (R175, R217). -/
def rbeStartPdu (s : State) (x : RbeRun) : Bytes :=
  let who : Bytes := match x.record, x.unit with
    | some r, _ => le 4 (((s.acc.tokens.find? (·.index == r)).map (·.tokenId.toNat)).getD 0)
    | none, some u => le 8 ((s.cpl.units.find? (·.unit == u)).map (fun c => at_ c.peerCert 4 8) |>.getD 0)
    | none, none => zeros 4
  le 8 x.nonceR.toNat ++ [byte (regFld s 0x40050020 8 5), byte (regFld s 0x40050020 0 7)] ++ who

/-- START in RNG_RBE_CFG: nothing when barred; not started without its bit sequence (R23, R173, R179). RBE_START goes out on f and chain H is in DUPLEX
(R175). -/
def rbeStart (s : State) : State :=
  match s.rng.rbe with
  | none => s
  | some x =>
    if x.started then s
    else match rbeBarred s with
      | some b => b.2
      | none =>
        if s.rng.resp.isNone then s
        else
          let f := rbeFreq (regFld s 0x40050020 8 5)
          let s := regInc 0x40050130 16 (modRng (fun r => { r with rbe := some { x with started := true } }) s)
          emitOut (.rngStart 0 (rbeStartPdu s x) [f / 1000, f / 1000 + 24000]) (enterDuplex f s)

/-- Counts of an exchange: MISS, WRONG, EARLY, LATE, the OK delays, the responses received (R177). -/
structure RbeCount where
  miss  : Nat
  wrong : Nat
  early : Nat
  late  : Nat
  oks   : List Nat
  resp  : Nat
  deriving DecidableEq, Repr

/-- Expected response of bit `i` (R174). -/
def rbeExpect (resp : Quad × Quad) (chal i : Nat) : Bool := if bit chal i then bit resp.2.toNat i else bit resp.1.toNat i

/-- One bit is classified (R177). -/
def rbeBit (kf : Nat) (expect : Bool) (i : Nat) (x : Option (Nat × Bool)) (c : RbeCount) : RbeCount :=
  match x with
  | none => { c with miss := c.miss + 1 }
  | some (d, v) =>
    let e : Int := (d : Int) - kf
    let c := if v then { c with resp := c.resp + 2 ^ i } else c
    if e < -12 then { c with early := c.early + 1 }
    else if e ≤ 1537 then (if v = expect then { c with oks := d :: c.oks } else { c with wrong := c.wrong + 1 })
    else if d < 6144 then { c with late := c.late + 1 }
    else { c with miss := c.miss + 1 }

/-- All bits of an exchange; a bit with no entry is a MISS. -/
def rbeCount (kf n chal : Nat) (resp : Quad × Quad) (bits : List (Option (Nat × Bool))) : RbeCount :=
  (List.range n).foldl (fun c i => rbeBit kf (rbeExpect resp chal i) i ((bits.getD i none)) c)
    { miss := 0, wrong := 0, early := 0, late := 0, oks := [], resp := 0 }

/-- BOUND_CM of the largest delay among the OK bits (R178). -/
def boundCm (kf dmax : Nat) : Nat := ((dmax - kf) * 243972 + 99999) / 100000

/-- The challenge bits of an exchange, as 8 bytes. -/
def chalBytes (s : State) : Bytes := le 4 (regGet s 0x40050030).toNat ++ le 4 (regGet s 0x40050034).toNat

/-- The responses that the challenge bits call for, as 8 bytes. -/
def expectBytes (n chal : Nat) (resp : Quad × Quad) : Bytes :=
  le 8 ((List.range n).foldl (fun a i => if rbeExpect resp chal i then a + 2 ^ i else a) 0)

/-- RBE_CONFIRM verifies: the echo equals the challenge bits and the MAC is right (R179). -/
def confirmOk (key : Option Bytes) (nonceR : Quad) (chal exp : Bytes) (pdu : Option Bytes) : Bool :=
  match key, pdu with
  | some k, some b =>
    b.length == 16 && b.take 8 == chal && b.drop 8 == (cmac k ([0x52, 0x42, 0x43] ++ le 8 nonceR.toNat ++ chal ++ exp)).take 8
  | _, _ => false

/-- The challenge bits beyond NBITS are not part of the exchange. -/
def maskBits (n : Nat) (b : Bytes) : Bytes := le 8 (leNat b % 2 ^ n)

/-- The result of an exchange in the order of R179: RES, bound. -/
def rbeDecide (errMax kf : Nat) (c : RbeCount) (confirm : Bool) : Nat × Nat :=
  if c.wrong + c.early > errMax then (resFailBits, 0xFFFF)
  else if !confirm then (resFailConfirm, 0xFFFF)
  else if c.late > errMax then (resFar, 0xFFFE)
  else if c.miss > errMax then (resMiss, 0xFFFF)
  else (resOk, min 0xFFFD (boundCm kf (c.oks.foldl max 0)))

/-- The end of an exchange: response registers cleared, chain H back in RX on the synthesiser that serves the receiver, pairs staged in DUPLEX live, and what waited for
the band goes on (R146, R159, R174, R175); a TMIN that waited takes effect. The frequencies and the input of the exchange stand until the next commit or change of
RX_CFG (DESIGN CHOICE, log 171: R130 and R175 do not say when they go back). -/
def rbeEnd (s : State) : State :=
  let s := modRng (fun r => { r with resp := none, rbe := r.rbe.map fun x => { x with started := false } }) s
  let s := [2, 3].foldl (fun s i => if chainOf s i = .duplex then setChain i (if (synOf s i).failed then .off else .idle) s else s) s
  let s := retryBand true s
  let s := if (synOf s (rxSyn s 2)).failed ∨ chainOf s (rxSyn s 2) ≠ .idle then s else setChain (rxSyn s 2) .rx s
  tminApply (runGaps s)

/-- What the block records of an exchange (R199). -/
def rbeRecord (m : RbeMeas) (c : RbeCount) (s : State) : State :=
  let s := regSet 0x40050038 (word c.resp) (regSet 0x4005003C (word (c.resp / 2 ^ 32)) s)
  let s := regSet 0x40050040 (word (min 255 c.miss + 256 * min 255 c.wrong + 65536 * min 255 c.early + 2 ^ 24 * min 255 c.late)) s
  let s := regSet 0x40050044 (word (c.oks.foldl max 0)) s
  let s := regSet 0x40050048 (word (c.oks.foldl min (c.oks.headD 0))) s
  let s := regSet 0x40050050 m.t0 s
  modRng (fun r => { r with log := m.bits.zipIdx.map fun p =>
    let t := m.t0 + word (6144 * p.2)
    (t, match p.1 with
      | some (d, _) => t + word d
      | none => 0) }) s

/-- The evaluation of an exchange that ran: the result is written and answered; `key` is the token key or the session key (R177–R179). -/
def rbeEvaluate (key : Option Bytes) (m : RbeMeas) (s : State) : (Nat × Nat) × State :=
  match s.rng.rbe, s.rng.resp with
  | some x, some resp =>
    if !m.ack then ((resNoAck, 0xFFFF), rbeEnd (rbeResult resNoAck 0xFFFF s))
    else
      let n := regFld s 0x40050020 0 7
      let chal := leNat (chalBytes s)
      let kf := kfix s
      let c := rbeCount kf n chal resp m.bits
      let ok := confirmOk key x.nonceR (maskBits n (chalBytes s)) (expectBytes n chal resp) m.confirm
      let r := rbeDecide (regFld s 0x40050020 16 4) kf c ok
      (r, rbeEnd (rbeResult r.1 r.2 (rbeRecord m c s)))
  | _, _ => ((resNone, 0xFFFF), s)

/-- An exchange that runs is aborted (R179, R198). Another that is set up loses its response registers. -/
def rbeAbort (s : State) : State :=
  match s.rng.rbe with
  | some x =>
    let s' := modRng (fun r => { r with resp := none }) s
    if x.started then rbeEnd (rbeResult resAbort 0xFFFF s') else s'
  | none => modRng (fun r => { r with resp := none }) s

/-- A partner's RBE_START is answered in responder mode (R175, R176, R180): RBE_ACK, whose 4 bytes are not given (log 151), the responses to the challenge bits
received, and RBE_CONFIRM with their echo and its MAC, on f + 24 MHz. -/
def rbeAnswer (key : Bytes) (nonce : Quad) (fIdx nbits : Nat) (chal : Quad) (s : State) : State :=
  match s.rng.resp with
  | none => s
  | some resp =>
    let c := le 8 (chal.toNat % 2 ^ nbits)
    let r := expectBytes nbits chal.toNat resp
    let mac := (cmac key ([0x52, 0x42, 0x43] ++ le 8 nonce.toNat ++ c ++ r)).take 8
    draw 1 (emitOut (.rngRespond (peekBytes s 0 4) r (c ++ mac) (rbeFreq fIdx / 1000 + 24000)) s)

/-! ### Multi-carrier phase ranging (R181–R186) -/

/-- MCP_OFS, signed cm. -/
def mcpOfs (s : State) : Int := signed 16 (regFld s 0x400500A4 0 16)

/-- A distance as MCP_CM holds it. -/
def cmField (d : Int) : Nat := min 0xFFFE d.toNat

/-- Band H distance with its 149.9 m ambiguity resolved by Band L: n nearest to d_L (R184). -/
def unfoldH (h l : Int) : Int := h + 14990 * ((l - h + 7495) / 14990)

/-- The result of an event from the two bands; none of a band whose Q lies below Q_MIN (R184): distance, AMB. -/
def mcpResult (ofs : Int) (h l : Option Int) : Option Nat × Bool :=
  match h, l with
  | some h, some l => (some (cmField (unfoldH h l - ofs)), false)
  | some h, none => (some (cmField (h - ofs)), true)
  | none, some l => (some (cmField (l - ofs)), false)
  | none, none => (none, false)

/-- MCP_START: nonce, HMASK, LMASK, flags; the flags hold the BAND bits (DEDUCED, log 152). -/
def mcpPdu (s : State) (n : Quad) : Bytes :=
  le 8 n.toNat ++ le 4 (regGet s 0x40050084).toNat ++ le 4 (regGet s 0x40050088).toNat ++ le 1 (regFld s 0x4005008C 0 8) ++ le 4 (regGet s 0x40050090).toNat ++
    [byte (regFld s 0x40050080 0 2)]

/-- Frequency of an LE data channel. -/
def leFreq (c : Nat) : Nat := if c ≤ 10 then 2404000000 + 2000000 * c else 2428000000 + 2000000 * (c - 11)

/-- MCP_START on air: in the framing of LE 2M, on the Band H reply channel of the decision's NONCE, to the derived access address, at the highest power allowed (R138,
R139, R153, R182; DEDUCED, log 173). Without a decision it goes out on the channel that TX-LO stands on, whitened with index 0. -/
def mcpAir (s : State) (nonce : Option Word) (pdu : Bytes) (s' : State) : State :=
  let ch := (nonce.map fun n => n.toNat % 37).getD 0
  let f := match nonce with | some _ => leFreq ch | none => (synOf s (txSyn s true)).freq.toNat
  let p := regFld s 0x40040050 0 5
  emitOut (.radioTx true { code := synCode f, preset := 1, index := p, pa := regFld s (0x40040200 + 4 * p) 0 10, corr := 0 }
    (leFrame 1 (regGet s 0x40040034).toNat 0x555555 ch pdu)) s'

/-- An MCP event begins on a token's record, the `j`-th of a decision with its NONCE: its own nonce is drawn, its slots are 2j and 2j + 1; the Band L steps wait while a
reply window is open on RX-B (R182, R183, R186). -/
def mcpBegin (record : Nat) (j : Option (Nat × Word)) (s : State) : State :=
  let n : Quad := BitVec.ofNat 64 (leNat (peekBytes s 0 8))
  let s := match j with
    | some j => regSet 0x40050094 (word (2 * j.1 + 16 * (2 * j.1 + 1))) s
    | none => s
  let wait : Bool := s.rad.rxB.winOpen
  let tones := toneStamps s true 196 (mcpTones s true) ++ (if wait then [] else toneStamps s false 196 (mcpTones s false))
  let s := modRng (fun r => { r with mcp := some record, mcpNonce := n, mcpL := !wait, mcpSlots := r.slots, tones := tones }) s
  let s := mcpAir s (j.map (·.2)) (mcpPdu s n) (draw 2 s)
  rngAir true (rngAir false (emitOut (.rngStart 1 (mcpPdu s n) ((mcpTones s true).map (toneFreq s true) ++ (mcpTones s false).map (toneFreq s false))) s))

/-- Where a sample lies in shared SRAM (R183). -/
def iqAddr (slot : Nat) (x : IqSample) : Nat :=
  0x10000000 + 0x24000 * slot + ((x.tone.val * 2 + x.dir.val) * 4 + x.path.val) * 256 + 4 * x.n.val

/-- Samples lie in their slots: those of tones that are measured, in slots that were usable at the beginning (R181, R183, R198). -/
def iqCapture (on : Bool → Nat → Bool) (l : List IqSample) (s : State) : State :=
  l.foldl (fun s x =>
    let slot := regFld s 0x40050094 (if x.bandH then 0 else 4) 3
    if on x.bandH x.tone.val && decide (slot < s.rng.mcpSlots) && (x.bandH || decide (x.tone.val < 32)) then
      { s with sram := memSet s.sram (iqAddr slot x) (le 4 x.iq.toNat) } else s) s

/-- The samples of an MCP event (R183). -/
def mcpCapture (l : List IqSample) (s : State) : State := iqCapture (toneOn s) l s

/-- Ranging has given the chains back: the receivers go on, and what waited for a gap (R157, R158, R182, R187). -/
def rngOver (s : State) : State := runGaps (rngAir true (rngAir false s))

/-- An MCP event ends (R184, R186): distance of the token, and that its report failed its MAC. -/
def mcpFinish (key : Option Bytes) (m : McpMeas) (s : State) : (Option Nat × Bool) × State :=
  let nonce := le 8 s.rng.mcpNonce.toNat
  let mac : Option Bool := match m.report, key with
    | some b, some k => some (b.length == 185 && b.drop 177 == (cmac k (nonce ++ b.take 177)).take 8)
    | some _, none => some false
    | none, _ => none
  let use := m.ack && mac == some true
  let qmin := regFld s 0x40050080 4 8
  let h := if use && mcpBand s true && decide (qmin ≤ m.hq.toNat) then some m.h else none
  let l := if use && mcpBand s false && decide (qmin ≤ m.lq.toNat) then some m.l else none
  let r := mcpResult (mcpOfs s) h l
  let bad := m.ack && mac == some false
  let s := regSet 0x40050098 (word (flagsWord [(0, h.isSome), (1, l.isSome), (2, r.2), (3, bad), (4, !m.ack)])) s
  let f := fun (x : Option Int) (q : Byte) => word ((match x with
    | some d => cmField (d - mcpOfs s)
    | none => 0xFFFF) + 65536 * q.toNat)
  let s := regSet 0x400500A0 (f l m.lq) (regSet 0x4005009C (f h m.hq) s)
  ((r.1, bad), rngOver (rngEvent 2 (modRng (fun r => { r with mcp := none }) (mcpCapture m.iq s))))

/-! ### Channel Sounding (R187, R188) -/

/-- The middle of a list of numbers; the mean of the two middle ones of an even list (DESIGN CHOICE, log 35). -/
def median (l : List Nat) : Nat :=
  let a := l.mergeSort
  let n := a.length
  if n % 2 = 1 then a.getD (n / 2) 0 else (a.getD (n / 2 - 1) 0 + a.getD (n / 2) 0) / 2

/-- RTT_CM: none with fewer than 4 verified steps (R188). -/
def rttCm (l : List Nat) : Option Nat := if l.length < 4 then none else some (min 0xFFFE (median l * 243972 / 100000))

/-- The channels of a Channel Sounding procedure: the 72-channel map, or the subset that RNG_MCP_HMASK leaves of it (R181, R187; DEDUCED, log 174). -/
def csChannels (s : State) : List Nat := (List.range 72).filter (toneMask s true)

/-- The modes of the steps of a procedure: a mode-0 step, then the MODE2_STEPS mode-2 steps with the MODE1_STEPS mode-1 steps spread among them (R187; the order: DESIGN
CHOICE, log 174). -/
def csSteps (s : State) : List Nat :=
  let two := regFld s 0x400500C0 0 7
  let one := regFld s 0x400500C0 7 5
  0 :: (List.range two).flatMap fun i => 2 :: List.replicate ((i + 1) * one / two - i * one / two) 1

/-- A Channel Sounding procedure with a phone's record begins: steps, antenna paths and timing as configured, its channels, and a fresh 128-bit random sequence
(R187). -/
def csBegin (record : Nat) (s : State) : State :=
  let cfg := le 4 (regGet s 0x400500C0).toNat ++ le 4 (regGet s 0x400500C4).toNat ++ peekBytes s 0 16 ++ (csSteps s).map byte
  rngAir true (emitOut (.rngStart 2 cfg ((csChannels s).map (toneFreq s true))) (draw 4 (modRng (fun r => { r with cs := some record }) s)))

/-- A Channel Sounding procedure ends: PBR_CM, RTT_CM, the timestamps of its tones (R172, R188). -/
def csFinish (m : CsMeas) (s : State) : (Option Nat × Option Nat) × State :=
  let pbr := m.pbr.map (min 0xFFFE)
  let rtt := rttCm m.rtt
  let s := regSet 0x400500C8 (word (flagsWord [(0, pbr.isSome), (1, rtt.isSome)] + 4 * min 31 m.rtt.length)) s
  let s := regSet 0x400500CC (word (pbr.getD 0xFFFF + 65536 * rtt.getD 0xFFFF)) s
  ((pbr, rtt), rngOver (rngEvent 4 (modRng (fun r => { r with cs := none, tones := m.starts }) s)))

/-- Tamper or a Sundown save (R198): a running exchange is aborted, MCP and Channel Sounding are abandoned. -/
def rngShed (s : State) : State := rngOver (modRng (fun r => { r with mcp := none, cs := none }) (rbeAbort s))

/-! ### The field model and the LF field vector (R189–R193) -/

/-- VERSION, N_AER and the CRC check (R189). -/
def modelOk (b : Bytes) : Bool :=
  b.length == 136 && byteAt b 0 == 1 && byteAt b 1 != 0 && byteAt b 1 ≤ 8 && at_ b 132 4 == (crc32c (b.take 132)).toNat

/-- A signed 16-bit coordinate of the model. -/
def modelS16 (b : Bytes) (off : Nat) : Int := signed 16 (at_ b off 2)

/-- How far a coordinate lies outside an interval. -/
def outBy (x lo hi : Int) : Int := max 0 (max (lo - x) (x - hi))

/-- A position within the search of the fit: OUTLINE expanded by 8 m on every side (R191). -/
def clampFit (b : Bytes) (f : LfvFit) : LfvFit :=
  let c := fun (x : Int) (o : Nat) => max (modelS16 b o - 800) (min (modelS16 b (o + 2) + 800) x)
  { f with x := c f.x 112, y := c f.y 116, z := c f.z 120 }

/-- Squared distance from a position to a box of the model. -/
def boxDist2 (b : Bytes) (off : Nat) (f : LfvFit) : Int :=
  let d := fun (x : Int) (o : Nat) => outBy x (modelS16 b o) (modelS16 b (o + 2))
  let dx := d f.x off
  let dy := d f.y (off + 4)
  let dz := d f.z (off + 8)
  dx * dx + dy * dy + dz * dz

/-- The LFV zone of a fit (R193). -/
def fitZone (b : Bytes) (f : LfvFit) : Zone :=
  if boxDist2 b 100 f = 0 then .z0
  else if boxDist2 b 112 f ≤ 150 * 150 then .z1
  else if boxDist2 b 112 f ≤ 600 * 600 then .z2 else .z3

/-- DIST_CM of a fit (R191). -/
def fitDist (b : Bytes) (f : LfvFit) : Nat :=
  let dx := f.x - modelS16 b 124
  let dy := f.y - modelS16 b 126
  let dz := f.z - modelS16 b 128
  Nat.sqrt (dx * dx + dy * dy + dz * dz).toNat

/-- 10 to the power r/20 for r from 0 to 19, in units of 10^-24. -/
def tenTwentieth : List Nat :=
  [1000000000000000000000000, 1122018454301963435591038, 1258925411794167210423954, 1412537544622754302155607,
   1584893192461113485202101, 1778279410038922801225421, 1995262314968879601352455, 2238721138568339611954950,
   2511886431509580111085032, 2818382931264453819101923, 3162277660168379331998893, 3548133892335754584332187,
   3981071705534972507702523, 4466835921509631185562505, 5011872336272722850015541, 5623413251903490803949510,
   6309573444801932494343601, 7079457843841379108022149, 7943282347242815020659182, 8912509381337455299531086]

/-- The power of a field code: 10 to the power (c − 1)/20, in units of 10^-24, for c − 1 = k (R190). -/
def fieldPower (k : Nat) : Nat := tenTwentieth.getD (k % 20) 0 * 10 ^ (k / 20)

/-- The codes of aerial `k` in a T3 reply (R52). -/
def aerialCodes (bandH : Bool) (lfv : Bytes) (k : Nat) : List Nat :=
  if bandH then (List.range 3).map fun i => byteAt lfv (3 * k + i) else [byteAt lfv k]

/-- The magnitude of an aerial, as the sum of powers over the axes whose code is not zero (R190); 0 when nothing was heard. `up` raises every
code. -/
def magnitude (codes : List Nat) (up : Nat) : Nat := ((codes.filter (· != 0)).map fun c => fieldPower (c - 1 + up)).sum

/-- Role of an aerial in ACC_AER_ROLE: 0 interior (R87). -/
def aerRole (s : State) (k : Nat) : Nat := regFld s 0x40060018 (2 * k) 2

/-- The LFV zone without a fit (R193). -/
def lfvZonePlain (s : State) (bandH : Bool) (lfv : Bytes) (aers : List Nat) : Zone :=
  let mags := fun (interior : Bool) (up : Nat) =>
    ((aers.filter fun k => (aerRole s k == 0) == interior).map fun k => magnitude (aerialCodes bandH lfv k) up).foldl max 0
  let delta := regFld s 0x40050108 16 8
  let z1 := regFld s 0x40050108 24 8
  let ext := if mags false delta = 0 then fieldPower delta else mags false delta
  if mags true 0 ≠ 0 ∧ mags true 0 ≥ ext then .z0
  else if mags false 0 ≠ 0 ∧ mags false 0 ≥ fieldPower (z1 - 1) then .z1
  else if aers.any (fun k => (aerialCodes bandH lfv k).any (· != 0)) then .z2 else .z3

/-- Aerials with a non-zero code whose slot was not synthesised (R191). -/
def plainHeard (bandH : Bool) (lfv : Bytes) (aers synth : List Nat) : Nat :=
  (aers.filter fun k => !synth.contains k && (aerialCodes bandH lfv k).any (· != 0)).length

/-- A fit exists with a valid model and at least 4 plain aerials heard (R191). -/
def fitExists (s : State) (bandH : Bool) (lfv : Bytes) (aers synth : List Nat) : Bool :=
  modelOk s.rng.model && decide (4 ≤ plainHeard bandH lfv aers synth)

/-! ### Fusion (R194, R195) -/

/-- Order of the zones Z0 to Z3; ZX is not ordered. -/
def Zone.ord : Zone → Nat
  | .z0 => 0 | .z1 => 1 | .z2 => 2 | .z3 => 3 | .zx => 4

/-- The farther of two zones; one not obtained is ignored (R194, R195). -/
def farther (a b : Option Zone) : Option Zone :=
  match a, b with
  | none, b => b
  | a, none => a
  | some a, some b => some (if Zone.ord a ≥ Zone.ord b then a else b)

/-- Z0 limit of a class in cm (R188, R202, R203). -/
def z0Limit (s : State) (ph : Bool) : Nat := if ph then 2 * regFld s 0x40050104 24 8 else regFld s 0x40050100 0 10

/-- The zone of a distance (R194); a limit of zero admits none. -/
def rangeZone (s : State) (ph : Bool) (d : Nat) : Zone :=
  let within := fun (l : Nat) => l != 0 && decide (d ≤ l)
  if within (z0Limit s ph) then .z0
  else if within (regFld s 0x40050100 10 11) then .z1
  else if within (regFld s 0x40050100 21 11) then .z2 else .z3

/-- The limit of a zone; none is unbounded (R194). -/
def zoneLimit (s : State) (ph : Bool) (z : Zone) : Option Nat :=
  match z with
  | .z0 => some (z0Limit s ph)
  | .z1 => some (regFld s 0x40050100 10 11)
  | .z2 => some (regFld s 0x40050100 21 11)
  | _ => none

/-- The fusion of a candidate's evidence (R195): zone and ZX cause. -/
def fuseZone (s : State) (c : Candidate) : Zone × Nat :=
  let ph : Bool := c.cls == .ph
  let zone := farther c.lfZone (c.mcpCm.map (rangeZone s ph))
  let cfg := 0x40050104
  let bound : Option Nat := if c.rbeRes = resOk ∨ c.rbeRes = resFar then c.rbeCm else none
  let fitBad : Nat := match c.fit with
    | none => 0
    | some f =>
      if f.res > regFld s 0x40050108 0 8 then 1
      else if f.syn > regFld s 0x40050108 8 8 then 2
      else match c.mcpCm with
        | some m => if ((m : Int) - (fitDist s.rng.model f : Int)).natAbs > 2 * regFld s cfg 16 8 then 3 else 0
        | none => 0
  if fitBad ≠ 0 then (.zx, fitBad)
  else if c.mcpBad then (.zx, 4)
  else if c.rbeRes = resFailBits then (.zx, 5)
  else if c.rbeRes = resFailConfirm then (.zx, 6)
  else
    let past := fun (z : Option Zone) => match bound, z with
      | some b, some z => (match zoneLimit s ph z with
          | some l => decide (b > l + 2 * regFld s cfg 8 8)
          | none => false)
      | _, _ => false
    let beyond : Bool := match bound, c.mcpCm with
      | some b, some m => decide (m > b + 2 * regFld s cfg 0 8)
      | _, _ => false
    if beyond then (.zx, 7)
    else if past zone then (.zx, if ph then 9 else 8)
    else
      let z := farther zone (bound.map (rangeZone s ph))
      let z := if c.cls = .t3 ∧ z = some .z0 ∧ c.lfZone ≠ some .z0 then some .z1 else z
      (z.getD .z3, 0)

/-- The last fused candidate is shown (R205). Where it has no fit, RNG_RES_LFV keeps the values of the last candidate that had one (DESIGN CHOICE, log 175). -/
def showFused (s : State) (c : Candidate) : State :=
  let z := fuseZone s c
  let src := flagsWord [(8, c.lfZone.isSome), (9, c.mcpCm.isSome), (10, c.rbeCm.isSome), (11, c.fit.isSome)]
  let s := regSet 0x40050120 (word (Zone.ord z.1 + 16 * z.2 + src + 4096 * c.record)) s
  let s := regSet 0x40050124 (word (c.rbeCm.getD 0xFFFF + 65536 * c.mcpCm.getD 0xFFFF)) s
  match c.fit with
  | some f => regSet 0x40050128 (word (min 255 f.res + 256 * min 255 f.syn + 65536 * min 0xFFFF (fitDist s.rng.model f))) s
  | none => s

/-- A candidate is fused and shown; a ZX is counted (R195, R199). -/
def fuse (c : Candidate) (s : State) : Candidate × State :=
  let z := fuseZone s c
  let s := showFused s c
  let s := if z.1 = .zx then rngEvent 8 (regInc 0x4005012C 16 s) else s
  ({ c with zone := some z.1, zxCause := z.2 }, s)

/-! ### Views (R199) -/

/-- An exchange runs. -/
def rbeBusy (s : State) : Bool :=
  match s.rng.rbe with
  | some x => x.started
  | none => false

/-- RNG registers that show state. -/
def rngView (s : State) (off : Nat) : Option Nat :=
  match off with
  | 0x004 => some (flagsWord [(0, rbeBusy s), (1, s.rng.mcp.isSome), (2, s.rng.cs.isSome), (3, s.rad.hTx == .duplex),
      (4, modelOk s.rng.model), (5, !duplexOk s)] + 64 * s.rng.slots)
  | 0x00C => some (tsNow s)
  | 0x02C => some (kfix s)
  | 0x10C => some (if modelOk s.rng.model then 1 + 2 * byteAt s.rng.model 1 else 0)
  | _ => none

end Sys2Proof.Machine
end

