-- ==== Sys2Proof/Machine/Access.lean ====
section
/-! DEFINITION. Token access: triggers, the poll, replies and collisions, foreign replies and Curfew, the ranking and the policy, the decision record, releases
with their tracking and readbacks, and the immobiliser answer (chapter 2, R24, R25, R44–R94). -/
namespace Sys2Proof.Machine

/-- The state with the access logic changed. -/
def modAcc (f : Access → Access) (s : State) : State := { s with acc := f s.acc }

/-- The state with the running decision changed. -/
def modDec (f : Decision → Decision) (s : State) : State := modAcc (fun a => { a with decision := a.decision.map f }) s

/-- The state with the release changed. -/
def modRel (f : Release → Release) (s : State) : State := modAcc (fun a => { a with release := f a.release }) s

/-- The token record of an index that is not FREE. -/
def tokOf (s : State) (i : Nat) : Option TokenRec := s.acc.tokens.find? (·.index == i)

/-- The state with a token record changed. -/
def modTok (i : Nat) (f : TokenRec → TokenRec) (s : State) : State :=
  modAcc (fun a => { a with tokens := modAll (·.index == i) f a.tokens }) s

/-- CLASS of a token record as a byte (R72). -/
def clsCode : TokClass → Nat
  | .t2 => 2 | .t3 => 3 | .ph => 0x10

/-- OUTCOME of what is sought (R46). -/
def soughtCode : Sought → Nat
  | .door => 2 | .start => 3 | .park => 4

/-- OUTCOME codes that no grant sought names. -/
def outNone : Nat := 0x00
def outApproach : Nat := 0x01
def outRefused : Nat := 0x80

/-- REASON codes (R46). -/
def rsNone : Nat := 0
def rsNoReply : Nat := 1
def rsForeign : Nat := 2
def rsZone : Nat := 3
def rsRight : Nat := 4
def rsRelay : Nat := 5
def rsCurfew : Nat := 6
def rsT2 : Nat := 7
def rsExpired : Nat := 8
def rsCollision : Nat := 9
def rsBudget : Nat := 0xA
def rsOverride : Nat := 0xB
def rsNoCoupling : Nat := 0xC
def rsHw : Nat := 0xD
def rsTamper : Nat := 0xE
def rsSlo : Nat := 0xF
def rsNoRole : Nat := 0x10

/-- TRIGGER codes (R86); a version 1 poll counts as a host request (DEDUCED, log 45). -/
def trigCode : TrigKind → Nat
  | .wakePin => 1 | .lin => 2 | .startFrame => 3 | .presence => 5 | .grant => 6 | _ => 4

/-- Policy word of a record's profile (R66, R90). -/
def profileOf (s : State) (record : Nat) : Word := regGet s (0x40060020 + 4 * (record / 16))

/-! ### Curfew (R62–R65) -/

/-- The RTC in ticks of 1/32768 s. -/
def rtcTicks (s : State) : Nat := s.power.rtc.toNat * 32768 + s.power.rtcSub

/-- Curfew is entered or its duration restarted, and journaled (R63). -/
def curfewStart (s : State) : State :=
  let d := regFld s 0x4006000C 16 12
  let s := modAcc (fun a => { a with curfew := true, curfewEnd := s.power.rtc + word d, curfewDur := d }) s
  jrnCommit (internalUnit 4) { s with jrn := { s.jrn with internal := if s.jrn.internal.contains 4 then s.jrn.internal else s.jrn.internal ++ [4] } }

/-- Seconds of Curfew left (R87). -/
def curfewLeft (s : State) : Nat :=
  if s.acc.curfew then (if (s.acc.curfewEnd - s.power.rtc).toNat < 2 ^ 31 then (s.acc.curfewEnd - s.power.rtc).toNat else 0) else 0

/-- Curfew ends (R63, R65). -/
def curfewStop (s : State) : State :=
  if !s.acc.curfew then s
  else hostEvent 0x12 ([0, 0] ++ le 2 0) { modAcc (fun a => { a with curfew := false }) s with jrn := { s.jrn with internal := s.jrn.internal.erase 4 } }

/-- A foreign reply: life count, decision count, sliding window, Curfew (R62, R63). -/
def foreignReply (s : State) : State :=
  let s := modDec (fun d => { d with foreign := d.foreign + 1 }) (regInc 0x40060008 32 s)
  let cfg := 0x4006000C
  let thr := regFld s cfg 0 8
  let win := regFld s cfg 8 8
  let d := regFld s cfg 16 12
  let t := rtcTicks s
  let l := t :: s.acc.foreignAt.filter fun x => decide (x ≤ t ∧ t - x ≤ win * 32768)
  let s := modAcc (fun a => { a with foreignAt := l }) s
  if s.acc.curfew then (if d = 0 then s else curfewStart s)
  else if thr ≠ 0 ∧ win ≠ 0 ∧ d ≠ 0 ∧ thr ≤ l.length then hostEvent 0x12 ([1, 0] ++ le 2 d) (curfewStart s)
  else s

/-- A reply whose identifier stands on the deny list raises DENYLIST and is foreign (R62). -/
def denyHit (id : Quad) (s : State) : State :=
  if s.acc.denylist.contains id then hostEvent 0x11 (le 8 id.toNat ++ le 4 s.acc.decNum.toNat) s else s

/-! ### Replies (R52–R58) -/

/-- Slot of a T3 token for a sub-nonce: the low 3 bits of byte 0 of the hash (R54). -/
def t3Slot (id : Nat) (nonce : Word) (sub : Half) : Nat := byteAt (sha256 (le 4 id ++ le 4 nonce.toNat ++ le 2 sub.toNat)) 0 % 8

/-- Split bit `i` of a token (R60). -/
def splitBit (id i : Nat) : Bool := bit (byteAt (sha256 (le 4 id)) 0) i

/-- The sub-nonce a token uses and the slot it replies in: first window, or a re-poll with its N1, N2 and SPLIT (R54, R60). -/
def t3Place (id : Nat) (nonce : Word) (rp : Option (RepollItem × Half × Half × Nat)) : Half × Nat :=
  match rp with
  | none => (0, t3Slot id nonce 0)
  | some (_, n1, n2, i) => if splitBit id i then (n2, 4 + t3Slot id nonce n2 % 4) else (n1, t3Slot id nonce n1 % 4)

/-- Slot of a T2 token (R56). -/
def t2Slot (id nonce : Nat) : Nat := ((id % 256) ^^^ (id / 256 % 256) ^^^ (nonce % 256)) % 8

/-- Length of a T3 reply on its band (R52). -/
def t3Len (bandH : Bool) : Nat := if bandH then 37 else 21

/-- MAC of a T3 reply (R53). -/
def t3Mac (key : Bytes) (vid nonce : Word) (sub : Half) (body : Bytes) : Bytes :=
  (cmac key (le 4 vid.toNat ++ le 4 nonce.toNat ++ le 2 sub.toNat ++ body)).take 8

/-- MAC of a T2 reply (R56). -/
def t2Mac (key : Bytes) (vid : Word) (nonce : Nat) (body : Bytes) : Bytes :=
  (aesEnc key (le 2 (vid.toNat % 65536) ++ le 3 nonce ++ body ++ zeros 5)).take 4

/-- MAC of a phone's answer over its 16-byte challenge (R58). -/
def phoneMac (key : Bytes) (vid : Word) (nonce : Quad) (num : Word) : Bytes :=
  (cmac key (le 4 vid.toNat ++ le 8 nonce.toNat ++ le 4 num.toNat)).take 8

/-- The key of a token record, for token authentication (R271). -/
def tokenKey (t : TokenRec) (s : State) : Option Bytes × State :=
  match useHandle (t.keyHandle.toNat % 65536) 1 s with
  | .ok (k, s') => (some k, s')
  | .error r => (none, countKeyRefusal r s)

/-- A record that may stand behind a reply: ACTIVE, of this class, band and identifier, its identifier not denied (R62). Where a suspension commits after the trigger and
before the reply, the reply is foreign as R62 says of every record that is not ACTIVE; R85 refuses with RIGHT only a token that had already replied (DEDUCED, log
177). -/
def recordFor (s : State) (cls : TokClass) (bandH : Bool) (id : Quad) : Option TokenRec :=
  if s.acc.denylist.contains id then none
  else s.acc.tokens.find? fun t => t.state == .active && t.cls == cls && t.bandH == bandH && t.tokenId == id

/-- The record is expired (R68). -/
def expiredNow (s : State) (t : TokenRec) : Bool :=
  t.expiry != 0 && (if s.power.rtcValid then decide (t.expiry.toNat ≤ s.power.rtc.toNat)
    else s.ks.timeFloor != 0 && decide (t.expiry.toNat ≤ s.ks.timeFloor.toNat))

/-- LF zone of a T3 reply with its fit (R191, R193); without a fit synthesised slots are ignored (R192). -/
def lfZoneT3 (s : State) (bandH : Bool) (lfv : Bytes) (aers synth : List Nat) (fit : Option LfvFit) : Zone × Option LfvFit :=
  let plain := aers.filter fun k => !synth.contains k
  match fit with
  | some f =>
    let f := clampFit s.rng.model f
    if fitExists s bandH lfv aers synth then (fitZone s.rng.model f, some f) else (lfvZonePlain s bandH lfv plain, none)
  | none => (lfvZonePlain s bandH lfv plain, none)

/-- LF zone of a T2 reply (R57). -/
def lfZoneT2 (s : State) (set : List Nat) (rssi : Nat) : Zone :=
  if set.all (fun k => aerRole s k == 0) then (if rssi ≥ regFld s 0x4006001C 0 8 then .z0 else .z3)
  else if rssi ≥ regFld s 0x4006001C 8 8 then .z1 else .z3

/-- A verified token with nothing ranged yet. -/
def candOf (s : State) (t : TokenRec) (lfv : Bytes) (z : Option Zone) (fit : Option LfvFit) : Candidate :=
  { record := t.index, cls := t.cls, bandH := t.bandH, tokenId := t.tokenId, lfv := lfv, expired := expiredNow s t, suspended := t.state == .suspended,
    lfZone := z, fit := fit, leNear := false, mcpCm := none, mcpBad := false, mcpDone := false, rbeCm := none, rbeRes := resNone, rbeDone := false,
    zone := none, zxCause := 0 }

/-- A verified reply joins the candidates; an expired record is only remembered (R68). -/
def addCand (c : Candidate) (s : State) : State :=
  modDec (fun d => if c.expired then { d with expiredSeen := true, anyReply := true } else { d with cands := d.cands ++ [c], anyReply := true }) s

/-! ### Windows (R49, R138, R141, R159) -/

/-- The frames that E2 and E3 take in their windows, as they set the receiver for them (R138, R140): preset or PHY, IF, sync word with its code in SLEN, fixed
length or none for a length byte, CHECK. -/
inductive AirFrame where
  | t3L | t3H | t2 | s2 | s1
  deriving DecidableEq, Repr

def AirFrame.preset : AirFrame → Nat
  | .t3L => 4 | .t3H => 0 | .t2 => 3 | .s2 => 2 | .s1 => 1

def AirFrame.ifSel : AirFrame → Nat
  | .t3L => 3 | .t3H => 0 | .t2 => 2 | .s2 => 1 | .s1 => 1

/-- Sync word and SLEN code. -/
def AirFrame.sync : AirFrame → Nat × Nat
  | .t3L => (0xD391, 1) | .t3H => (0, 0) | .t2 => (0xD3, 0) | .s2 => (0x7A0E93C5, 3) | .s1 => (0x7E, 0)

/-- FLEN of a frame of fixed length. -/
def AirFrame.flen : AirFrame → Option Nat
  | .t3L => some 21 | .t3H => some 37 | .t2 => some 10 | .s2 => none | .s1 => some 10

/-- CHECK code. -/
def AirFrame.check : AirFrame → Nat
  | .t2 => 1 | .s1 => 0 | _ => 2

/-- A receiver's configuration for a frame: sync word, length, check (R138, R140, R166, R170); the access address is R139's. -/
def setFrame (r : Nat) (f : AirFrame) (s : State) : State :=
  let cfg := rxAddr r 0
  let s := regPutFld cfg 0 4 f.preset s
  if r = 2 then
    regSet 0x4004006C 0x555555 (regPutFld cfg 5 2 3 (regPutFld cfg 8 8 (f.flen.getD 0) (regPutFld cfg 7 1 (b2n f.flen.isSome) s)))
  else
    let s := regPutFld cfg 6 2 3 (regPutFld cfg 9 8 (f.flen.getD 0) (regPutFld cfg 8 1 (b2n f.flen.isSome) s))
    let s := regPutFld cfg 20 2 f.sync.2 (regPutFld cfg 19 1 (b2n (f == .s1)) (regPutFld cfg 17 2 f.check s))
    regSet (rxAddr r 4) (word f.sync.1) s

/-- A receiver is tuned, set for a frame and asked into RX (R135, R146). -/
def tuneRx (r freq : Nat) (f : AirFrame) (s : State) : State :=
  let i := rxSyn s r
  let a := if r = 0 then 0x40030010 else if r = 1 then 0x40030020 else if i = 2 then 0x40040010 else 0x40040018
  let s := if i = 2 then s else regSet (a + 4) (word f.ifSel) s
  rxCfgWrite r (setFrame r f (commitSyn i (regSet a (word freq) s)))

/-- A receiver is set for a frame, and its window of eight slots of 1.2 ms armed. -/
def armWindow (r freq : Nat) (f : AirFrame) (start : Word) (s : State) : State :=
  regSet (rxAddr r 0x10) (word (1 + 8 * 16 + 1200 * 256)) (regSet (rxAddr r 0xC) start (tuneRx r freq f s))

/-- S2 channel (R140). -/
def s2Freq (s : State) : Nat := if s.cfg.region = some true then 915000000 else 868300000

/-- The sensor frames that E2 listens for on a Band L receiver: S2 on RX-A, S1 on RX-B; in failover the one that is left takes turns, from one second of the RTC to the
next (R128, R159; the turns: DESIGN CHOICE, log 147). -/
def listenFor (s : State) (r : Nat) : AirFrame :=
  if s.rad.syn1.failed ∨ s.rad.syn2.failed then (if wbit s.power.rtc 0 then .s1 else .s2) else if r = 0 then .s2 else .s1

/-- A window of a receiver is armed or open. -/
def windowUse (s : State) (r : Nat) : Bool := regBit s (rxAddr r 0x10) 0 || (rxOf s r).winOpen || (rxOf s r).winHeld

/-- In Noon E2 sets a Band L receiver that no window uses for sensor frames (R128, R140, R235, R243; that it does so at the start of Noon and after each window: DESIGN
CHOICE, log 147). -/
def sensorListen (r : Nat) (s : State) : State :=
  if s.power.state ≠ .noon ∨ r = 2 ∨ (synOf s (rxSyn s r)).failed ∨ windowUse s r then s
  else tuneRx r (if listenFor s r = .s1 then 433920000 else s2Freq s) (listenFor s r) s

/-- Both Band L receivers. -/
def sensorsListen (s : State) : State := sensorListen 1 (sensorListen 0 s)

/-- A window that is no longer wanted; what waited for it goes on. -/
def disarm (r : Nat) (s : State) : State :=
  sensorListen r (runGaps (rngAir (rxBand r) (bandLSteps (regPutFld (rxAddr r 0x10) 0 1 0 (modRx r (fun x => { x with winOpen := false }) s)))))

/-- Band L channel of T3 replies (R138). -/
def t3Freq (s : State) : Nat := if s.cfg.region = some true then 916500000 else 869525000

/-- The receiver for Band L windows of T3 and T2, in failover the one that is left (R159). -/
def t3Rx (s : State) : Option Nat := if !s.rad.syn1.failed then some 0 else if !s.rad.syn2.failed then some 1 else none
def t2Rx (s : State) : Option Nat := if !s.rad.syn2.failed then some 1 else if !s.rad.syn1.failed then some 0 else none

/-- Band H can receive. -/
def hRxOk (s : State) : Bool := !(s.rad.rxlo.failed && s.rad.txlo.failed)

/-- CLK_TS so many µs ahead. -/
def tsAhead (s : State) (us : Nat) : Word := s.power.clkTs + word (768 * us)

/-- The T3 windows of a poll are armed for an instant of CLK_TS: those receivers (R49, R52). -/
def armT3 (bandL bandH : Bool) (nonce at' : Word) (s : State) : List Nat × State :=
  let l := if bandL then (t3Rx s).toList else []
  let h : List Nat := if bandH && hRxOk s then [2] else []
  let s := l.foldl (fun s r => armWindow r (t3Freq s) .t3L at' s) s
  let ch := nonce.toNat % 37
  let s := h.foldl (fun s r => armWindow r (leFreq ch) .t3H at' (regPutFld 0x40040030 16 6 ch s)) s
  (l ++ h, s)

/-- The T2 window is armed for an instant of CLK_TS (R49, R50). -/
def armT2 (at' : Word) (s : State) : Option Nat × State :=
  match t2Rx s with
  | some r => (some r, armWindow r 433920000 .t2 at' s)
  | none => (none, s)

/-! ### Releases (R24, R78–R81, R92) -/

/-- ACC_REL_STAT (R92). -/
def relStat (s : State) : Nat :=
  let r := s.acc.release
  flagsWord [(0, r.active), (1, s.acc.rbFault), (2, r.rbA), (3, r.rbB)] + 16 * r.endCause.toNat + 256 * r.record.toNat

/-- The RELEASE event (R353). -/
def relEvent (s : State) : State := hostEvent 0x13 (le 4 (relStat s)) s

/-- The record's profile has the TRAILER right (R66, R220). -/
def trailerRight (s : State) (record : Nat) : Bool := decide (record < 64) && wbit (profileOf s record) 3

/-- The immobiliser key goes into slot 9 at a grant in the tractor role (R84, R279). -/
def loadImmo (s : State) : State :=
  if roleOf s != .tractor || (ksRefusal s).isSome then s
  else match validHalf s 193 with
    | .ok (_, h, key) => putSlot (mkSlot 9 h h.ktype h.usage key (some 193)) s
    | .error r => countKeyRefusal r s

/-- DRIVER_GRANT for the standing release: the granting token and the number of the decision that granted it (R220). -/
def grantSend (new : Bool) (s : State) : State :=
  modRel (fun r => { r with told := true }) (sendGrants s.acc.release.tokenId s.acc.release.decNum new s)

/-- A release starts, or a new grant restarts it (R80); a START release stays one when a DOOR grant restarts it (DEDUCED, log 156). A DURATION_S of 0 opens none. -/
def openRelease (o : Sought) (record : Nat) (tokenId : Quad) (num : Word) (s : State) : State :=
  let d := regFld s 0x40060030 0 5
  if d = 0 then s
  else
    let was := s.acc.release.active
    let s := modRel (fun r => { r with
      active := true, outcome := if was && r.outcome == .start then .start else o, record := byte record, tokenId := tokenId, decNum := num,
      told := was && r.told, grantAt := now s, durS := d, driven := if was then r.driven else true,
      failTracks := 0, silentTracks := 0, missedGrants := 0, rbHist := if was then r.rbHist else [], periodBad := 0, track := none }) s
    let s := loadImmo s
    let s := if was then s else relEvent s
    if roleOf s = .tractor ∧ s.acc.release.outcome = .start ∧ trailerRight s record then grantSend true s else s

/-- The release ends with a cause: both pins low, the immobiliser key out of its slot, DRIVER_LEFT for a START release (R79, R84, R92, R220). RECORD goes on showing
the last granting record until the next grant or reset (DESIGN CHOICE, log 130: R92 does not say when it reads 0xFF again). -/
def endRelease (cause : Nat) (s : State) : State :=
  let r := s.acc.release
  if !r.active then s
  else
    let s := modRel (fun r => { r with active := false, endCause := byte cause, driven := false, track := none, rbHist := [] }) s
    let s := match r.track with
      | some (_, some x, _) => disarm x s
      | _ => s
    let s := relEvent (dropSlot 9 s)
    if roleOf s = .tractor ∧ r.told then sendLeft s else s

/-! ### The end of a decision (R46, R68, R86) -/

/-- The 24 bytes of a decision record (R86). -/
def DecRecord.bytes (r : DecRecord) : Bytes :=
  le 4 r.num.toNat ++ [r.trigger, r.outcome, r.reason, r.record, r.cls, r.zone] ++ le 2 r.rbeCm.toNat ++ le 2 r.mcpCm.toNat ++
  [r.foreign, r.repoll] ++ le 4 r.t0.toNat ++ le 2 r.duration.toNat ++ [r.flags, 0]

/-- D0–D8 of T2_POLL and T2_RESULT (R400). -/
def v1Decision (r : DecRecord) : Bytes := [r.outcome, r.reason, r.record, r.cls, r.zone] ++ le 4 r.num.toNat

/-- The state with records added to the ring of 64 (R86). -/
def ringAdd (rs : List DecRecord) (s : State) : State :=
  modAcc (fun a => { a with ring := (a.ring ++ rs).drop (a.ring.length + rs.length - 64) }) s

/-- A record joins the ring and DECISION is raised (R86, R353). -/
def logDecision (r : DecRecord) (s : State) : State := hostEvent 0x10 r.bytes (ringAdd [r] s)

/-- The record of a decision that is over. FOREIGN above 255 and DURATION above 0xFFFF are held there (DESIGN CHOICE, log 131: R86 says neither). -/
def recordOf (s : State) (d : Decision) (outcome reason : Nat) (c : Option Candidate) : DecRecord :=
  { num := d.num, trigger := byte (trigCode d.trig.kind), outcome := byte outcome, reason := byte reason,
    record := byte ((c.map (·.record)).getD 0xFF), cls := byte ((c.map fun c => clsCode c.cls).getD 0),
    zone := byte ((c.map fun c => Zone.ord (c.zone.getD .z3)).getD 0xFF),
    rbeCm := BitVec.ofNat 16 ((c.bind (·.rbeCm)).getD 0xFFFF), mcpCm := BitVec.ofNat 16 ((c.bind (·.mcpCm)).getD 0xFFFF),
    foreign := byte (min 255 d.foreign), repoll := byte d.rounds, t0 := d.trig.t0, duration := BitVec.ofNat 16 (min 0xFFFF (ticksFrom d.trig.t0 (now s) / 100)),
    flags := byte (flagsWord [(0, s.acc.curfew), (1, d.t2Run), (2, d.phRun)]) }

/-- Last-seen time and zone of the tokens that verified (R72). -/
def noteSeen (d : Decision) (s : State) : State :=
  d.cands.foldl (fun s c => modTok c.record (fun t => { t with lastSeen := rtcField s, lastZone := byte (Zone.ord (c.zone.getD .z3)) }) s) s

/-- The result of RANGE (R387): zone, ZX cause, RES, bound, distance, quality, distance of the fit. -/
def rangeBytes (s : State) (c : Option Candidate) : Bytes :=
  match c with
  | none => [0xFF, 0xFF, 0xFF, 0] ++ List.replicate 5 0xFF ++ [0] ++ le 2 0xFFFF
  | some c =>
    let st := regGet s 0x40050098
    let q := if c.mcpCm.isNone then 0xFF else if wbit st 0 then regFld s 0x4005009C 16 8 else regFld s 0x400500A0 16 8
    [byte (Zone.ord (c.zone.getD .z3)), byte c.zxCause, byte c.rbeRes, 0] ++ le 2 (c.rbeCm.getD 0xFFFF) ++ le 2 (c.mcpCm.getD 0xFFFF) ++ [byte q, 0] ++
    le 2 ((c.fit.map (fitDist s.rng.model)).getD 0xFFFF)

/-- What a decision holds on air is given back: windows, telegram, exchange. -/
def decClean (s : State) : State :=
  match s.acc.decision with
  | none => s
  | some d =>
    let s := (d.t3Wins ++ d.t2Win.toList).foldl (fun s r => disarm r s) (e1Drop 0 s)
    let s := if s.rng.rbe.any (·.record.isSome) then modRng (fun r => { r with rbe := none }) (rbeAbort s) else s
    modAcc (fun a => { a with decision := none }) (modRng (fun r => { r with mcp := none, cs := none, rangeJob := none }) s)

/-- Everyone who asked for a decision gets its outcome: accepted work its result, version 1 its reply (R389, R400). -/
def decAnswer (t : Trigger) (status : Byte) (result : Bytes) (v1 : Bytes) (s : State) : State :=
  let s := t.works.foldl (fun s w => readyWork w.1 w.2 status result s) s
  if t.v1 then v1Deliver 0 0x18 v1 s else s

/-- A decision ends: its record, its event, its answers (R46, R86). A search for a MASTER token and a RANGE end with their work's result alone: a MASTER token that was
not found, or not found in Z0 with a bound, is no authority (R73, R75). -/
def endDecision (outcome reason : Nat) (c : Option Candidate) (s : State) : State :=
  match s.acc.decision with
  | none => s
  | some d =>
    let s := noteSeen d s
    match d.trig.kind with
    | .master => decAnswer d.trig (if reason = rsNone then stOk else stDenied) (if reason = rsNone then [] else refusalBytes 0xFFFF 8) [] (decClean s)
    | .range => decAnswer d.trig stOk (rangeBytes s d.cands.head?) [] (decClean s)
    | _ =>
      let r := recordOf s d outcome reason c
      decAnswer d.trig stOk r.bytes (v1Decision r) (logDecision r (decClean s))

/-- A decision that could not begin ends REFUSED at once. -/
def refuseDecision (reason : Nat) (s : State) : State := endDecision outRefused reason none s

/-! ### Ranking and policy (R64, R67–R71) -/

/-- An APPROACH decision (R44, R45). -/
def seeksApproach (t : Trigger) : Bool := t.kind == .presence

/-- The zone of a candidate so far. -/
def candZone (c : Candidate) : Zone := c.zone.getD .z3

/-- DOOR needs Z1 or Z0; in the trailer role the rear-door zone Z0 (R67, R71). -/
def doorZone (s : State) (z : Zone) : Bool := z == .z0 || (z == .z1 && roleOf s != .trailer)

/-- Z2 or closer. -/
def nearZone (z : Zone) : Bool := Zone.ord z ≤ 2

/-- The highest outcome that right and zone allow: 3 START, 2 DOOR, 1 APPROACH, 0 none (R68). -/
def candLevel (s : State) (c : Candidate) : Nat :=
  let p := profileOf s c.record
  let z := candZone c
  if wbit p 0 && z == .z0 && roleOf s != .trailer then 3 else if wbit p 1 && doorZone s z then 2 else if nearZone z || c.leNear then 1 else 0

/-- Rank of a candidate as one number, least first (R68). -/
def candKey (s : State) (c : Candidate) : Nat := ((3 - candLevel s c) * 131072 + c.mcpCm.getD 65536) * 64 + c.record

/-- Candidates in rank order. -/
def ranked (s : State) (l : List Candidate) : List Candidate := l.mergeSort fun a b => candKey s a ≤ candKey s b

/-- A candidate still needs its rapid bit exchange. -/
def needsRbe : Nat := 0x100

/-- The bound a T3 candidate must have: OK and, for START, within the Z0 limit; HW where no exchange could start (R67, R132). -/
def boundReason (s : State) (c : Candidate) (limit : Bool) : Nat :=
  if c.rbeRes = resOk then
    (match c.rbeCm with
     | some b => if !limit || decide (b ≤ z0Limit s false) then rsNone else rsZone
     | none => rsZone)
  else if !c.rbeDone then needsRbe
  else if c.rbeRes = resUnavail then rsHw else rsZone

/-- START for one candidate: its reason, 0 when it qualifies; the conditions of R67 in the order of its columns (R64, R67, R68). -/
def startReason (s : State) (c : Candidate) : Nat :=
  let p := profileOf s c.record
  if candZone c ≠ .z0 then rsZone
  else if !wbit p 0 then rsRight
  else match c.cls with
    | .t2 => if !wbit p 4 then rsT2 else if s.acc.curfew then rsCurfew else rsNone
    | .t3 => boundReason s c true
    | .ph =>
        (match c.rbeCm with
         | some b => if b ≤ z0Limit s true then rsNone else rsZone
         | none => rsZone)

/-- DOOR for one candidate (R64, R67). A T3 token whose MCP is absent has nothing to agree with its LFV (R186): ZONE. -/
def doorReason (s : State) (c : Candidate) : Nat :=
  let p := profileOf s c.record
  if !doorZone s (candZone c) then rsZone
  else if !wbit p 1 then rsRight
  else match c.cls with
    | .t2 => rsNone
    | .t3 => if c.mcpCm.isNone then rsZone else if wbit p 5 || s.acc.curfew then boundReason s c false else rsNone
    | .ph => if s.acc.curfew then (if c.rbeCm.isSome then rsNone else rsZone) else if c.mcpCm.isSome || c.rbeCm.isSome then rsNone else rsZone

/-- APPROACH for one candidate (R67): any right will do, or none (DEDUCED, log 132). The manual names the LE RSSI of a phone without a threshold or a measurement: whether
it places the phone in Z2 or closer is a free value (log 133). -/
def approachReason (c : Candidate) : Nat :=
  match c.cls with
  | .t2 => if nearZone (candZone c) then rsNone else rsZone
  | .t3 => if nearZone (candZone c) && c.mcpCm.isSome then rsNone else rsZone
  | .ph => if (nearZone (candZone c) && (c.mcpCm.isSome || c.rbeCm.isSome)) || c.leNear then rsNone else rsZone

/-- A MASTER token: right, Z0 and a bound (R73). -/
def masterReason (s : State) (c : Candidate) : Nat :=
  if !wbit (profileOf s c.record) 2 then rsRight
  else if candZone c ≠ .z0 then rsZone
  else match c.cls with
    | .t2 => rsZone
    | .t3 => boundReason s c true
    | .ph => if c.rbeCm.isSome then rsNone else rsZone

/-- The first condition of R67 that a candidate fails; 0 when it meets all. A token suspended during the decision is refused with RIGHT (R68, R77, R85). -/
def candReason (s : State) (d : Decision) (c : Candidate) : Nat :=
  if d.trig.kind = .range then
    (match s.rng.rangeJob with
     | some (_, _, what, _) => if bit what 1 && c.cls == .t3 && !c.rbeDone then needsRbe else rsNone
     | none => rsNone)
  else if c.suspended || (tokOf s c.record).any (fun t => t.state == .suspended) then rsRight
  else if d.trig.kind = .master then masterReason s c
  else if seeksApproach d.trig then approachReason c
  else match d.trig.sought with
    | .start => startReason s c
    | .door => doorReason s c
    | .park => rsRight

/-- The candidate still has its record: one revoked during the decision is foreign (R85). -/
def stillEnrolled (s : State) (c : Candidate) : Bool := (tokOf s c.record).any fun t => t.tokenId == c.tokenId

/-- Further tokens that qualify for what a decision grants (R69). -/
def alsoQualify (s : State) (d : Decision) (c : Candidate) : List Candidate :=
  d.cands.filter fun x => x.record != c.record && stillEnrolled s x && candZone x != .zx && candReason s d x == rsNone

/-- A decision is granted to a candidate. Each other token that qualifies is reported in the decision log by a record of its own behind the decision's, with its
DEC_NUM, OUTCOME 0x00 and REASON 0x00, and raises no event (R69; DESIGN CHOICE, log 134: the manual gives the log no other form). -/
def grantDecision (outcome : Nat) (c : Candidate) (s : State) : State :=
  match s.acc.decision with
  | none => s
  | some d => ringAdd ((alsoQualify s d c).map fun x => recordOf s d 0 rsNone (some x)) (endDecision outcome rsNone (some c) s)

/-- A candidate qualifies: the outcome is granted unless an override or a latched fault forbids it (R68, R70, R82). -/
def grantTo (c : Candidate) (s : State) : State :=
  match s.acc.decision with
  | none => s
  | some d =>
    if d.trig.kind = .master ∨ d.trig.kind = .range then endDecision 0 rsNone (some c) s
    else if regFld s 0x40060000 0 2 = 1 then endDecision outRefused rsOverride (some c) s
    else if s.acc.sloFault then endDecision outRefused rsSlo (some c) s
    else if seeksApproach d.trig then grantDecision outApproach c s
    else grantDecision (soughtCode d.trig.sought) c (if roleOf s = .trailer then s else openRelease d.trig.sought c.record c.tokenId d.num s)

/-- No candidate qualifies (R46, R61, R68, R98). A bound still missing after two exchanges is ZONE. -/
def refuseAll (s : State) : State :=
  match s.acc.decision with
  | none => s
  | some d =>
    let own := d.cands.filter (stillEnrolled s)
    let fair := ranked s (own.filter fun c => candZone c != .zx)
    if d.lfOut then refuseDecision rsHw s
    else match fair, own with
      | c :: _, _ => endDecision outRefused (if candReason s d c = needsRbe then rsZone else candReason s d c) (some c) s
      | [], c :: _ => endDecision outRefused rsRelay (some c) s
      | [], [] =>
        if d.expiredSeen then refuseDecision rsExpired s
        else if d.unresolved then refuseDecision rsCollision s
        else if d.anyReply || d.foreign != 0 then refuseDecision rsForeign s
        else endDecision outNone rsNoReply none s

/-- The state with a candidate of the decision replaced. -/
def putCand (c : Candidate) (s : State) : State := modDec (fun d => { d with cands := modAll (·.record == c.record) (fun _ => c) d.cands }) s

/-- A candidate is fused; a ZX is foreign (R62, R195). T2 tokens keep their LF zone (R57). -/
def fuseCand (c : Candidate) (s : State) : State :=
  if c.cls = .t2 then putCand { c with zone := c.lfZone } s
  else
    let r := fuse c s
    let s := putCand r.1 r.2
    if r.1.zone = some .zx then foreignReply s else s

/-- An exchange for a candidate is set up, or found impossible or not wanted at once (R173, R179). -/
def beginRbe (c : Candidate) (s : State) : State :=
  modDec (fun d => { d with rbeUsed := d.rbeUsed + 1 }) (rbeSetup (some c.record) none false s)

/-- The policy step (R68): the first candidate in rank that qualifies is granted; the first that needs an exchange gets one, two at most. `fuel` bounds
the candidates whose exchange is impossible. -/
def policyStep : Nat → State → State
  | 0, s => refuseAll s
  | fuel + 1, s =>
    match s.acc.decision with
    | none => s
    | some d =>
      let l := ranked s ((d.cands.filter (stillEnrolled s)).filter fun c => candZone c != .zx)
      let ok := fun c => candReason s d c == rsNone
      let wait := fun c => candReason s d c == needsRbe && decide (d.rbeUsed < 2)
      match l.find? fun c => ok c || wait c with
      | none => refuseAll s
      | some c =>
        if ok c then grantTo c s
        else match rbeBarred s with
          | some (res, s) => policyStep fuel (modDec (fun d => { d with rbeUsed := d.rbeUsed + 1 }) (putCand { c with rbeDone := true, rbeRes := res } s))
          | none => beginRbe c s

/-- Ranging is over: every candidate is fused without a bound, then the policy (R68, R195). -/
def toPolicy (s : State) : State :=
  match s.acc.decision with
  | none => s
  | some d =>
    let s := modDec (fun d => { d with phase := .rbe }) s
    let s := d.cands.foldl (fun s c => fuseCand c s) s
    policyStep (d.cands.length + 2) s

/-- WHAT of the running RANGE; 7 for a decision. -/
def rangeWhat (s : State) (d : Decision) : Nat :=
  match d.trig.kind, s.rng.rangeJob with
  | .range, some (_, _, what, _) => what
  | _, _ => 7

/-- The accepted work of a pair of numbers: its SEQ when it is tagged, its number in SRAM otherwise. -/
def workOf (s : State) (w : Option Nat × Option Nat) : Option Work :=
  match w with
  | (some q, _) => s.jrn.works.find? (·.seq == q)
  | (none, some q) => s.jrn.loose.find? (·.seq == q)
  | (none, none) => none

/-- A RANGE notes its record and WHAT as it starts (R388). -/
def rangeSetup (t : Trigger) (s : State) : State :=
  match t.works.head? with
  | none => s
  | some p =>
    match workOf s p with
    | none => s
    | some w =>
      match tokOf s (byteAt w.payload 0) with
      | none => s
      | some x => modRng (fun r => { r with rangeJob := some (p.1, p.2, byteAt w.payload 1, candOf s x [] none none) }) s

/-- A RANGE ranges its T3 token whether or not an LFV poll was asked for or answered (R388). -/
def rangeCand (s : State) (d : Decision) : List Candidate :=
  match d.trig.kind, s.rng.rangeJob with
  | .range, some (_, _, _, c) => if d.cands = [] ∧ c.cls = .t3 then [c] else d.cands
  | _, _ => d.cands

/-- The poll is over: MCP on the first four verified T3 tokens in provisional order, two with a capture bank lost (R68, R183, R186). -/
def toRanging (s : State) : State :=
  match s.acc.decision with
  | none => s
  | some d =>
    let cands := rangeCand s d
    let pre := cands.map fun c => { c with zone := some (fuseZone s c).1 }
    let todo := ((ranked s (pre.filter fun c => c.cls == .t3)).map (·.record)).take (s.rng.slots / 2)
    let todo := if bit (rangeWhat s d) 0 then todo else []
    let s := modDec (fun d => { d with phase := .ranging, mcpTodo := todo, cands := cands }) s
    if todo.isEmpty then toPolicy s else s

/-! ### The poll (R48–R61) -/

/-- Broadcast combination of a decision (R107). -/
def bcOf (s : State) (t : Trigger) : Nat :=
  if seeksApproach t then regFld s 0x40020858 8 3 else if t.sought = .start then regFld s 0x40020858 0 3 else regFld s 0x40020858 4 3

/-- The T2 aerial set (R55). -/
def t2Aerials (s : State) (t : Trigger) : List Nat :=
  let mask := regFld s 0x40060014 0 8
  let set : List Nat :=
    if seeksApproach t then (List.range 8).filter fun k => aerRole s k != 0
    else if t.sought = .start then aerials (regFld s 0x40060014 8 8)
    else match t.door with
      | some n => (List.range 8).filter fun k => aerRole s k == (if n = 0 then 1 else if n = 1 then 2 else 3)
      | none => (List.range 8).filter fun k => aerRole s k != 0
  set.filter fun k => bit mask k && chanLive s k

/-- A re-poll is asked for: N1, N2 and SPLIT are drawn, the T3 windows armed again as its telegram begins (R60). REPOLL of R86 gives the highest round that ran in any
slot (DESIGN CHOICE, log 178). -/
def startRepoll (it : RepollItem) (rest : List RepollItem) (s : State) : State :=
  match s.acc.decision with
  | none => s
  | some d =>
    let n1 : Half := BitVec.ofNat 16 (peek s 0).toNat
    let n2 : Half := BitVec.ofNat 16 (peek s 1).toNat
    let i := (peek s 2).toNat % 8
    let s := draw 3 s
    let ws := comboWord (bcOf s d.trig) :: codeWords 3 48 (repollPayload it.slot it.round i n1 n2) ++ [word 0]
    let act := fun (h : Bool) => s.acc.tokens.any fun t => t.cls == .t3 && t.bandH == h && t.state == .active
    let plan : WinPlan := { owner := .repoll, bandL := act false, bandH := act true, t3Us := 7344, t2Us := none, nonce := d.nonce }
    modDec (fun d => { d with lfDue := true, todo := rest, repoll := some (it, n1, n2, i), collided := [], heard := [] })
      (e1Plan (some plan) 0 ws s)

/-- The rest of the poll: the next re-poll, the phones, then ranging (R49). -/
def decRest (s : State) : State :=
  match s.acc.decision with
  | none => s
  | some d =>
    match d.todo with
    | it :: rest => startRepoll it rest s
    | [] => if d.phones = [] ∧ d.csPend = [] then toRanging s else s

/-- The poll goes on once its telegram has begun and its windows have closed: the T2 window, then the rest (R49). Without a receiver for it no T2 window opens (R159). -/
def decNext (s : State) : State :=
  match s.acc.decision with
  | none => s
  | some d =>
    if d.phase ≠ .poll ∨ d.lfDue ∨ d.t3Wins ≠ [] ∨ d.t2Win.isSome then s
    else if d.t2Due then
      let w := armT2 d.t2At s
      let s := modDec (fun d => { d with t2Due := false, t2Win := w.1 }) w.2
      if w.1.isSome then s else decRest s
    else decRest s

/-- A slot stays collided after the last round: one foreign reply (R61). -/
def slotLost (s : State) : State := foreignReply (modDec (fun d => { d with unresolved := true }) s)

/-- The T3 windows of a round have closed: each collided slot is re-polled or lost (R60, R61). -/
def t3Closed (s : State) : State :=
  match s.acc.decision with
  | none => s
  | some d =>
    let round := (d.repoll.map fun r => r.1.round).getD 0
    let slots := (List.range 8).filter d.collided.contains
    let s := modDec (fun d => { d with collided := [], repoll := none }) s
    if round < regFld s 0x40060014 16 2 then
      modDec (fun d => { d with todo := d.todo ++ slots.map fun k =>
        { slot := k, round := round + 1, known := (d.heard.filter fun h => h.1 == k).map (·.2) } }) s
    else slots.foldl (fun s _ => slotLost s) s

/-- A window of the decision closes with these collided slots (R59–R61). -/
def decWindow (rx : Nat) (slots : List Nat) (s : State) : State :=
  match s.acc.decision with
  | none => s
  | some d =>
    if d.t3Wins.contains rx then
      let s := modDec (fun d => { d with t3Wins := d.t3Wins.erase rx, collided := d.collided ++ slots }) s
      decNext (if d.t3Wins = [rx] then t3Closed s else s)
    else if d.t2Win = some rx then decNext (slots.foldl (fun s _ => slotLost s) (modDec (fun d => { d with t2Win := none }) s))
    else s

/-- The verdict on a T3 reply: the record whose MAC verifies in its slot (R53, R54, R60, R62). -/
def t3Verify (bandH : Bool) (nonce : Word) (place : Half × Nat) (slot : Option Nat) (data : Bytes) (s : State) : Option TokenRec × State :=
  let n := t3Len bandH
  let id : Quad := BitVec.ofNat 64 (at_ data 0 4)
  match recordFor s .t3 bandH id with
  | none => (none, denyHit id s)
  | some t =>
    let k := tokenKey t s
    match k.1 with
    | none => (none, k.2)
    | some key =>
      if data.length = n ∧ (slot = none ∨ slot = some place.2) ∧ data.drop (n - 8) = t3Mac key s.cfg.vid nonce place.1 (data.take (n - 8))
      then (some t, k.2) else (none, k.2)

/-- A T3 reply of the running decision (R52–R54, R59–R62). -/
def decT3 (r slot : Nat) (data : Bytes) (fit : Option LfvFit) (s : State) : State :=
  match s.acc.decision with
  | none => s
  | some d =>
    let bandH := r == 2
    let id := at_ data 0 4
    let v := t3Verify bandH d.nonce (t3Place id d.nonce d.repoll) (some slot) data s
    let s := modDec (fun d => { d with anyReply := true }) v.2
    match v.1 with
    | none => foreignReply s
    | some t =>
      let s := modDec (fun d => { d with heard := d.heard ++ [(slot, t.tokenId)] }) s
      if d.cands.any (fun c => c.record == t.index) then s
      else
        let lfv := slice data 5 (if bandH then 24 else 8)
        let z := lfZoneT3 s bandH lfv d.aerials d.synth fit
        addCand (candOf s t lfv (some z.1) z.2) s

/-- The verdict on a T2 reply (R56, R62). -/
def t2Verify (nonce : Nat) (slot : Option Nat) (data : Bytes) (s : State) : Option TokenRec × State :=
  let id : Quad := BitVec.ofNat 64 (at_ data 0 4)
  match recordFor s .t2 false id with
  | none => (none, denyHit id s)
  | some t =>
    let k := tokenKey t s
    match k.1 with
    | none => (none, k.2)
    | some key =>
      if data.length = 10 ∧ (slot = none ∨ slot = some (t2Slot id.toNat nonce)) ∧ data.drop 6 = t2Mac key s.cfg.vid nonce (data.take 6)
      then (some t, k.2) else (none, k.2)

/-- A T2 reply of the running decision (R56, R57). -/
def decT2 (slot : Nat) (data : Bytes) (s : State) : State :=
  match s.acc.decision with
  | none => s
  | some d =>
    let v := t2Verify (d.t2Nonce.toNat % 2 ^ 24) (some slot) data s
    let s := modDec (fun d => { d with anyReply := true }) v.2
    match v.1 with
    | none => foreignReply s
    | some t =>
      if d.cands.any (fun c => c.record == t.index) then s
      else addCand (candOf s t [byte (byteAt data 4)] (some (lfZoneT2 s (aerials d.t2Set.toNat) (byteAt data 4))) none) s

/-- A phone's answer (R58): verified, Channel Sounding begins. -/
def decPhone (record : Nat) (answer : Bytes) (s : State) : State :=
  match s.acc.decision, tokOf s record with
  | some d, some t =>
    if !d.phones.any (fun p => p.1 == record) then s
    else
      let s := modDec (fun d => { d with phones := d.phones.filter (·.1 != record), anyReply := true }) s
      let k := tokenKey t s
      let good : Bool := match k.1 with
        | some key => answer == phoneMac key s.cfg.vid d.phNonce d.num && recordFor s .ph false t.tokenId == some t
        | none => false
      if good then
        let near : Bool := seeksApproach d.trig && wbit (peek k.2 0) 0
        let s := if seeksApproach d.trig then draw 1 k.2 else k.2
        let s := addCand { candOf s t [] none none with leNear := near } s
        if expiredNow s t then decNext s
        else csBegin record (modDec (fun d => { d with csPend := d.csPend ++ [record] }) s)
      else decNext (foreignReply (denyHit t.tokenId k.2))
  | _, _ => s

/-- A Channel Sounding procedure of the decision ends (R188). -/
def decCs (record : Nat) (r : Option Nat × Option Nat) (s : State) : State :=
  match s.acc.decision with
  | none => s
  | some d =>
    if !d.csPend.contains record then s
    else decNext (modDec (fun d => { d with
      csPend := d.csPend.erase record
      cands := modAll (·.record == record) (fun c => { c with mcpCm := r.1, rbeCm := r.2, rbeRes := if r.2.isSome then resOk else resNone }) d.cands }) s)

/-- The evidence that an MCP event gives a candidate: its distance, and a position fit that E4 finds only now, with the LFV zone that follows from it (R184, R191,
R193). -/
def mcpCand (s : State) (d : Decision) (r : Option Nat × Bool) (fit : Option LfvFit) (c : Candidate) : Candidate :=
  let z := lfZoneT3 s c.bandH c.lfv d.aerials d.synth fit
  let c := { c with mcpCm := r.1, mcpBad := r.2, mcpDone := true }
  if c.lfZone.isNone ∨ z.2.isNone then c else { c with lfZone := some z.1, fit := z.2 }

/-- An MCP event of the decision ends (R184, R186). -/
def decMcp (record : Nat) (r : Option Nat × Bool) (fit : Option LfvFit) (s : State) : State :=
  match s.acc.decision with
  | none => s
  | some d =>
    if d.phase ≠ .ranging then s
    else
      let s := modDec (fun d => { d with cands := modAll (·.record == record) (mcpCand s d r fit) d.cands }) s
      if d.mcpTodo = [] then toPolicy s else s

/-- A rapid bit exchange of the decision ends (R178, R179): retried, or fused into its candidate. -/
def decRbe (record : Nat) (retried : Bool) (res bound : Nat) (s : State) : State :=
  match s.acc.decision with
  | none => s
  | some d =>
    if d.phase ≠ .rbe then s
    else if (res = resNoAck ∨ res = resMiss) ∧ !retried ∧ regBit s 0x40050020 25 then rbeSetup (some record) none true s
    else match d.cands.find? (·.record == record) with
      | none => policyStep (d.cands.length + 2) s
      | some c =>
        let c := { c with rbeDone := true, rbeRes := res, rbeCm := if bound = 0xFFFF then none else some bound }
        policyStep (d.cands.length + 2) (fuseCand c (putCand c s))

/-- The blank decision of a trigger. -/
def newDecision (t : Trigger) (num : Word) : Decision :=
  { trig := t, num := num, phase := .poll, nonce := 0, t2Nonce := 0, phNonce := 0, aerials := [], synth := [], t2Set := 0, lfOut := false, lfDue := false,
    t3Wins := [], t2Win := none, t2Due := false, t2At := 0, t2Run := false, phRun := false, phones := [], csPend := [], collided := [], heard := [], todo := [], repoll := none,
    rounds := 0, unresolved := false, foreign := 0, anyReply := false, expiredSeen := false, cands := [], mcpTodo := [], rbeUsed := 0 }

/-- The token classes a poll looks for: a RANGE looks for its record alone, a MASTER search for no T2 (R48, R73, R388). -/
def pollFor (s : State) (t : Trigger) (x : TokenRec) : Bool :=
  x.state == .active &&
  match t.kind, s.rng.rangeJob with
  | .range, some (_, _, _, c) => x.index == c.record
  | .range, none => false
  | .master, _ => x.cls != .t2
  | _, _ => true

/-- A decision's poll takes the air from a track: its telegram is given up, its window disarmed, and it counts neither way (DESIGN CHOICE, log 135). -/
def dropTrack (s : State) : State :=
  let s := e1Drop 2 s
  let s := match s.acc.release.track with
    | some (_, some r, _) => disarm r s
    | _ => s
  modRel (fun r => { r with track := none }) s

/-- The poll of a decision begins (R48, R49, R98, R103, R109). -/
def startPoll (s : State) : State :=
  match s.acc.decision with
  | none => s
  | some d =>
    let s := dropTrack s
    let t := d.trig
    let mask := regFld s 0x40060014 0 8
    let lf := decide (mask ≠ 0) && !lfBlocked s && (t.kind != .range || bit (rangeWhat s d) 2)
    let has := fun (f : TokenRec → Bool) => s.acc.tokens.any fun x => pollFor s t x && f x
    let l := lf && has fun x => x.cls == .t3 && !x.bandH
    let h := lf && has fun x => x.cls == .t3 && x.bandH
    let set := t2Aerials s t
    let t2 := lf && !set.isEmpty && t.kind != .range && has fun x => x.cls == .t2
    let aers := if l || h then (aerials mask).filter (chanLive s) else []
    let nonce := peek s 0
    let t2n := peek s 1 &&& 0xFFFFFF
    let phn : Quad := BitVec.ofNat 64 (leNat (peekBytes s 2 8))
    let y := if l || h then drawSynth aers (draw 4 s) else ([], draw 4 s)
    let s := y.2
    let bc := bcOf s t
    let td := if t2 then t2Drive set s else (word 0, s)
    let s := td.2
    let ws := [wakeWord mask bc] ++
      (if l || h then comboWord bc :: codeWords 3 64 (t3Payload 1 s.cfg.vid nonce) ++ measureWords aers y.1 else []) ++
      (if t2 then td.1 :: codeWords 4 48 (t2Payload s.cfg.vid t2n.toNat) else []) ++ [word 0]
    let n := 1000 * aers.length
    let plan : WinPlan :=
      { owner := .decision, bandL := l, bandH := h, t3Us := 13392 + n, t2Us := if t2 then some (if l || h then 25680 + n else 17488) else none, nonce := nonce }
    let s := if l || h || t2 then e1Plan (some plan) 0 ws s else s
    let calls := (s.bus.conns.filter fun c => (tokOf s c.record).any fun x => x.cls == .ph && pollFor s t x).map (·.record)
    let s := calls.foldl (fun s r => emitOut (.leSend r (le 4 s.cfg.vid.toNat ++ le 8 phn.toNat ++ le 4 d.num.toNat)) s) s
    decNext (modDec (fun d => { d with
      nonce := nonce, t2Nonce := t2n, phNonce := phn, aerials := aers, synth := y.1, t2Set := byte (set.foldl (fun a k => a + 2 ^ k) 0),
      lfOut := lfBlocked s && decide (mask ≠ 0), lfDue := l || h || t2, t2Due := t2, phRun := !calls.isEmpty,
      phones := calls.map fun r => (r, 2) }) s)

/-- The trailer's one coupling has had its grant accepted: a lower GRANT_SEQ is dropped from now on (R221). -/
def grantTaken (g : Option DriverGrantData) (s : State) : State :=
  match g with
  | none => s
  | some g => modUnit 1 (fun c => { c with grantSeq := g.seq }) s

/-- A driver grant is decided at once (R71, R216): the coupling, the tractor's Z0, the trailer's own list. Its decision record has RECORD 0xFF, CLASS 0 and ZONE 0xFF,
also when an own record matched, whose index the release shows (DESIGN CHOICE, log 136). In Curfew a PARK_RELEASE needs a bound (R64) and a driver grant carries none:
CURFEW_UNRANGED (DEDUCED, log 137). -/
def decideGrant (s : State) : State :=
  match s.acc.decision with
  | none => s
  | some d =>
    let g := d.trig.grant.getD { tokenId := 0, zone := 0xFF, seq := 0 }
    let own := s.acc.tokens.find? fun t => t.tokenId == g.tokenId && t.state == .active
    let record := (own.map (·.index)).getD 0xFF
    if regFld s 0x40060000 0 2 = 2 then
      if s.acc.sloFault then refuseDecision rsSlo s
      else endDecision (soughtCode .park) rsNone none (openRelease .park 0xFF 0 d.num (grantTaken d.trig.grant (regPutFld 0x40060000 0 2 0 s)))
    else if grantUnits s = [] then refuseDecision rsNoCoupling s
    else if g.zone ≠ 0 then refuseDecision rsZone s
    else if regBit s 0x40060000 2 && own.isNone then refuseDecision rsRight s
    else if s.acc.curfew then refuseDecision rsCurfew s
    else if regFld s 0x40060000 0 2 = 1 then refuseDecision rsOverride s
    else if s.acc.sloFault then refuseDecision rsSlo s
    else endDecision (soughtCode .park) rsNone none (openRelease .park record g.tokenId d.num (grantTaken d.trig.grant s))

/-- A search for a MASTER token or a RANGE, which makes no decision record (R73, R388). -/
def quietTrigger (t : Trigger) : Bool := t.kind == .master || t.kind == .range

/-- A trigger of a device with no role set leaves its record at once, whatever runs or waits (R47). -/
def noRoleRecord (t : Trigger) (s : State) : State :=
  let num := s.acc.decNum + 1
  let r : DecRecord :=
    { num := num, trigger := byte (trigCode t.kind), outcome := byte outRefused, reason := byte rsNoRole, record := 0xFF, cls := 0, zone := 0xFF, rbeCm := 0xFFFF,
      mcpCm := 0xFFFF, foreign := 0, repoll := 0, t0 := t.t0, duration := 0, flags := byte (b2n s.acc.curfew) }
  decAnswer t stOk r.bytes (v1Decision r) (logDecision r (modAcc (fun a => { a with decNum := num }) s))

/-- A decision starts (R46–R48, R70). SERVICE is spent by the release it grants. -/
def startDecision (t : Trigger) (s : State) : State :=
  let quiet := quietTrigger t
  let num := if quiet then s.acc.decNum else s.acc.decNum + 1
  if roleOf s = .none && !quiet then noRoleRecord t s
  else
    let s := modAcc (fun a => { a with decNum := num, decision := some (newDecision t num) }) s
    let s := if t.kind = .range then rangeSetup t s else s
    if tamperStands s then refuseDecision rsTamper s
    else if t.kind = .grant then decideGrant s
    else if regFld s 0x40060000 0 2 = 2 ∧ t.sought = .start ∧ !quiet then
      if s.acc.sloFault then refuseDecision rsSlo s
      else endDecision (soughtCode .start) rsNone none (openRelease .start 0xFF 0 num (regPutFld 0x40060000 0 2 0 s))
    else startPoll s

/-! ### Triggers (R25, R44, R47) -/

/-- Source class of a trigger: wake pin, CAN, Dusk beacon; a MASTER search and a RANGE belong to none (R25, R44). -/
def trigClass : TrigKind → Option Nat
  | .wakePin => some 0 | .lin => some 0 | .presence => some 2 | .master => none | .range => none | .track => none | _ => some 1

/-- A trigger that is accepted work or answers version 1 is never dropped (R25). -/
def keptTrigger (t : Trigger) : Bool := !t.works.isEmpty || t.v1

/-- LF learning of an enrolment holds decisions back (R85). -/
def learnBusy (s : State) : Bool :=
  match s.acc.enrol with
  | some e => e.step == 3
  | none => false

/-- A decision can start now: in Noon, with none running, no LF learning and no radio calibration (R25, R85, R157), while none of the engines that serve it
restarts (R41). -/
def decisionFree (s : State) : Bool :=
  inNoon s && s.acc.decision.isNone && !learnBusy s && s.rad.cal.isNone && !([1, 2, 3, 4, 5].any fun n => (engOf s (engNo n)).restartDue)

/-- A trigger merges into the running decision of its class. -/
def mergeTrigger (t : Trigger) (s : State) : State :=
  modDec (fun d => { d with trig := { d.trig with works := d.trig.works ++ t.works, v1 := d.trig.v1 || t.v1 } }) s

/-- A trigger joins the queue of 4, waits outside it, or is counted and dropped (R25). -/
def queueTrigger (t : Trigger) (s : State) : State :=
  if s.acc.triggers.length < 4 ∧ s.acc.waiting = [] then modAcc (fun a => { a with triggers := a.triggers ++ [t] }) s
  else if keptTrigger t then modAcc (fun a => { a with waiting := a.waiting ++ [t] }) s
  else modAcc (fun a => { a with dropped := a.dropped + 1 }) s

/-- A trigger arrives (R25, R44). With no role set it only leaves its record (R47). -/
def trigger (t : Trigger) (s : State) : State :=
  let s := exitDusk { s with power := { s.power with duskDue := false } }
  if roleOf s = .none && !quietTrigger t then noRoleRecord t s
  else match s.acc.decision with
    | some d => if (trigClass t.kind).isSome ∧ trigClass t.kind = trigClass d.trig.kind then mergeTrigger t s else queueTrigger t s
    | none => if decisionFree s ∧ s.acc.triggers = [] ∧ s.acc.waiting = [] then startDecision t s else queueTrigger t s

/-- A place of the queue is free: a waiting DECIDE takes it (R25). -/
def fillQueue (s : State) : State :=
  match s.acc.waiting with
  | w :: ws => if s.acc.triggers.length < 4 then modAcc (fun a => { a with triggers := a.triggers ++ [w], waiting := ws }) s else s
  | [] => s

/-- The next queued trigger starts its decision (R25). -/
def startQueued (s : State) : State :=
  if !decisionFree s then s
  else match (fillQueue s).acc.triggers with
    | t :: ts => startDecision t (fillQueue (modAcc (fun a => { a with triggers := ts }) (fillQueue s)))
    | [] => s

/-- A trigger of a kind, seeking an outcome, now. -/
def mkTrigger (k : TrigKind) (o : Sought) (door : Option Nat) (s : State) : Trigger :=
  { kind := k, sought := o, door := door, t0 := now s, works := [], v1 := false, grant := none }

/-- LF_BUDGET: the poll's energy request has waited more than 500 ms (R85, R113). -/
def budgetCheck (s : State) : State :=
  match s.acc.decision with
  | none => s
  | some _ =>
    if s.lf.deferred.any (fun r => r.cls == 0 && !r.words.isEmpty && decide (500000 < ticksFrom r.due (now s))) then refuseDecision rsBudget s else s

/-! ### Tracking (R81, R197, R220) -/

/-- Interior aerials of AER_MASK that can be driven (R81, R109, R116). -/
def interiorAerials (s : State) : List Nat := (aerials (regFld s 0x40060014 0 8)).filter fun k => aerRole s k == 0 && chanLive s k

/-- The granting token answered: outside Z0 or inside (R81). -/
def trackAnswer (outside : Bool) (s : State) : State :=
  let s := modRel (fun r => { r with
    track := r.track.map fun t => (t.1, t.2.1, true), silentTracks := 0, failTracks := if outside then r.failTracks + 1 else 0 }) s
  if s.acc.release.failTracks = 2 then endRelease 2 s else s

/-- A track is over without an answer (R81). -/
def trackSilent (s : State) : State :=
  let s := modRel (fun r => { r with track := none, failTracks := 0, silentTracks := r.silentTracks + 1 }) s
  if s.acc.release.silentTracks = 2 then endRelease 0xA s else s

/-- The track in progress still awaits its window or its Channel Sounding. -/
def trackRuns (s : State) : Bool :=
  match s.acc.release.track with
  | none => false
  | some (_, some r, _) => regBit s (rxAddr r 0x10) 0 || (rxOf s r).winOpen
  | some (_, none, _) => s.rng.cs == some s.acc.release.record.toNat

/-- The track's telegram has been asked for: its window is armed when it begins. -/
def trackAsked (nonce : Word) (s : State) : State := modRel (fun r => { r with track := some (nonce, none, false) }) s

/-- A track of a START release begins (R81, R109): WAKE on AER_MASK, the interior aerials of it measured. Nothing while a decision has the air or the last track still
awaits its answer; a telegram of the last one that was deferred until now is given up, and counts neither way. -/
def startTrack (s : State) : State :=
  let r := s.acc.release
  if !r.active ∨ r.outcome ≠ .start ∨ r.record = 0xFF ∨ roleOf s ≠ .tractor then s
  else
    let s := if trailerRight s r.record.toNat then grantSend false s else s
    if s.acc.decision.isSome ∨ trackRuns s then s
    else match tokOf s r.record.toNat with
      | none => s
      | some t =>
        let nonce := peek s 0
        let s := draw 1 (e1Drop 2 s)
        let aers := interiorAerials s
        let bc := regFld s 0x40020858 12 3
        let wake := wakeWord (regFld s 0x40060014 0 8) bc
        let plan : WinPlan := { owner := .track, bandL := !t.bandH, bandH := t.bandH, t3Us := 13392 + 1000 * aers.length, t2Us := none, nonce := nonce }
        match t.cls with
        | .ph => csBegin t.index (modRel (fun r => { r with track := some (nonce, none, false) }) s)
        | .t3 =>
          if lfBlocked s then trackSilent s
          else
            let ws := [wake, comboWord bc] ++ codeWords 3 64 (t3Payload 2 s.cfg.vid nonce) ++ measureWords aers [] ++ [word 0]
            e1Plan (some plan) 2 ws (trackAsked nonce s)
        | .t2 =>
          if lfBlocked s then trackSilent s
          else
            let td := t2Drive aers s
            let ws := [wake, td.1] ++ codeWords 4 48 (t2Payload s.cfg.vid nonce.toNat) ++ [word 0]
            e1Plan (some { plan with t2Us := some 17488 }) 2 ws (trackAsked nonce td.2)

/-- A T3 reply of a track (R81, R197). -/
def trackT3 (r : Nat) (slot : Nat) (data : Bytes) (fit : Option LfvFit) (s : State) : State :=
  match s.acc.release.track with
  | some (nonce, some rx, _) =>
    if rx ≠ r then s
    else
      let bandH := r == 2
      let v := t3Verify bandH nonce (t3Place (at_ data 0 4) nonce none) (some slot) data s
      match v.1 with
      | some t =>
        if t.index = v.2.acc.release.record.toNat then
          let lfv := slice data 5 (if bandH then 24 else 8)
          let z := lfZoneT3 v.2 bandH lfv (interiorAerials v.2) [] fit
          let far := (z.2.map fun f => decide (f.res > regFld v.2 0x40050108 0 8)).getD false
          trackAnswer (far || z.1 != .z0) v.2
        else v.2
      | none => foreignReply v.2
  | _ => s

/-- A T2 reply of a track (R81). -/
def trackT2 (r slot : Nat) (data : Bytes) (s : State) : State :=
  match s.acc.release.track with
  | some (nonce, some rx, _) =>
    if rx ≠ r then s
    else
      let v := t2Verify (nonce.toNat % 2 ^ 24) (some slot) data s
      match v.1 with
      | some t =>
        if t.index = v.2.acc.release.record.toNat then trackAnswer (lfZoneT2 v.2 (interiorAerials v.2) (byteAt data 4) != .z0) v.2 else v.2
      | none => foreignReply v.2
  | _ => s

/-- The telegram of a plan begins: its reply windows are armed, counted from its first bridge edge (R49, R60, R81, R619). A T3 window that no receiver can take is
passed over as closed with nothing heard (R159). -/
def planBegun (p : WinPlan) (s : State) : State :=
  let t3 := armT3 p.bandL p.bandH p.nonce (tsAhead s p.t3Us) s
  let one := match p.t2Us with
    | some us => armT2 (tsAhead s us) s
    | none => (t3.1.head?, t3.2)
  match p.owner with
  | .decision => decNext (modDec (fun d => { d with lfDue := false, t3Wins := t3.1, t2At := tsAhead s (p.t2Us.getD 0), t2Run := p.t2Us.isSome }) t3.2)
  | .repoll =>
    let s := modDec (fun d => { d with lfDue := false, t3Wins := t3.1, rounds := max d.rounds ((d.repoll.map fun r => r.1.round).getD 0) }) t3.2
    if t3.1 = [] then decNext (t3Closed s) else s
  | .track =>
    if s.acc.release.track.isNone then s
    else if one.1.isNone then trackSilent one.2
    else modRel (fun r => { r with track := r.track.map fun t => (t.1, one.1, t.2.2) }) one.2
  | .enrol => if s.acc.enrol.isNone then s else modAcc (fun a => { a with enrol := a.enrol.map fun e => { e with rx := one.1 } }) one.2

/-- What an enrolment holds on the air is given back. -/
def enrolClean (s : State) : State :=
  let s := match s.acc.enrol.bind (·.rx) with
    | some r => disarm r s
    | none => s
  let s := e1Drop 1 { s with lf := { s.lf with tests := s.lf.tests.filter fun j => !j.learn } }
  modAcc (fun a => { a with enrol := none }) s

/-- The track's window closes. -/
def trackWindow (rx : Nat) (s : State) : State :=
  match s.acc.release.track with
  | some (_, some r, heard) => if r ≠ rx then s else if heard then modRel (fun r => { r with track := none }) s else trackSilent s
  | _ => s

/-- Channel Sounding of a track ends (R81, R197): one that fuses to ZX is foreign, and its track one without a reply. -/
def trackCs (record : Nat) (r : Option Nat × Option Nat) (s : State) : State :=
  match s.acc.release.track, tokOf s record with
  | some (_, none, _), some t =>
    if record ≠ s.acc.release.record.toNat then s
    else if r.1.isNone && r.2.isNone then trackSilent s
    else
      let c := { candOf s t [] none none with mcpCm := r.1, rbeCm := r.2, rbeRes := if r.2.isSome then resOk else resNone }
      let v := fuse c s
      let z := v.1.zone.getD .z3
      if z = .zx then trackSilent (foreignReply v.2) else modRel (fun r => { r with track := none }) (trackAnswer (z != .z0) v.2)
  | _, _ => s

/-! ### Readbacks (R82, R92, R538, R539) -/

/-- The release path latches: the release ends, SLO_FAULT and RB_FAULT are set and kept, SAF records it (R82). -/
def sloLatch (inj : Bool) (pin : Nat) (s : State) : State :=
  let s := endRelease 6 s
  let s := modAcc (fun a => { a with sloFault := true, rbFault := true }) s
  let s := regInc 0x4009000C 32 s
  faultBy inj 3 0x000F 4 0 9 0 (word pin) s

/-- The injection of a readback: the pin whose readback is inverted, and whether it persists (R538). -/
def rbInjected (s : State) : Option (Nat × Bool) := (injected 0x000F s).map fun p => (p % 2, bit p 1)

/-- The levels read, with an injection's inversion. -/
def rbLevels (a b : Bool) (s : State) : Bool × Bool :=
  match rbInjected s with
  | some (0, _) => (!a, b)
  | some _ => (a, !b)
  | none => (a, b)

/-- A mismatch is counted per pin in SAF_REL_MON (R543). -/
def countMismatch (ma mb : Bool) (s : State) : State :=
  let s := if ma then regCount 0x4010002C 0 8 1 s else s
  if mb then regCount 0x4010002C 8 8 1 s else s

/-- A one-shot readback injection has been seen: its record, no latch (R538). -/
def rbOnce (s : State) : State :=
  match rbInjected s with
  | some (pin, false) => faultBy true 2 0x000F 2 0 0 0 (word pin) s
  | _ => s

/-- A readback of a standing release (R82): `a` and `b` are the levels of the pins. -/
def releaseReadback (a b : Bool) (s : State) : State :=
  let r := s.acc.release
  if !r.active then s
  else
    let x := rbLevels a b s
    let ma := x.1 != r.driven
    let mb := x.2 == r.driven
    let mp := x.1 == x.2
    let once := (rbInjected s).any fun p => !p.2
    let persists := (rbInjected s).any (·.2)
    let hist := r.rbHist.take 2
    let latch := !once && ((ma && hist.any (·.1)) || (mb && hist.any (·.2.1)) || (mp && hist.any (·.2.2)))
    let s := countMismatch ma mb (modRel (fun r => { r with
      rbA := x.1, rbB := x.2, driven := !r.driven, rbHist := ((if once then (false, false, false) else (ma, mb, mp)) :: r.rbHist).take 2 }) s)
    if latch then sloLatch persists (if ma then 0 else if mb then 1 else 2) s else rbOnce s

/-- A readback with no release standing (R539): two mismatches in a row latch. -/
def idleReadback (a b : Bool) (s : State) : State :=
  let r := s.acc.release
  if r.active then s
  else
    let x := rbLevels a b s
    let bad := x.1 || x.2
    let once := (rbInjected s).any fun p => !p.2
    let n := if bad && !once then r.idleBad + 1 else 0
    let s := countMismatch x.1 x.2 (modRel (fun r => { r with rbA := x.1, rbB := x.2, idleBad := n }) s)
    if n ≥ 2 && !s.acc.sloFault then sloLatch ((rbInjected s).any (·.2)) (if x.1 then 0 else 1) s else rbOnce s

/-- A half period of a release as the internal oscillator measures it, in µs; two in a row outside 490–510 µs are an error (R539). -/
def periodMonitor (us : Nat) (s : State) : State :=
  if !s.acc.release.active then s
  else
    let bad : Bool := us < 490 || 510 < us
    let n := if bad then s.acc.release.periodBad + 1 else 0
    let s := modRel (fun r => { r with periodBad := n }) s
    if n ≥ 2 then sloLatch false 3 (regOr 0x4010002C 0x10000 s) else s

/-- A static self-test: each readback gives the levels read while SLO_A (true) or SLO_B is driven high (R82, R563). True when two in a row mismatch for the
Dawn test, or when any mismatches. -/
def testMismatches (reads : List (Bool × Bool × Bool)) : List Bool := reads.map fun r => r.2.1 != r.1 || r.2.2 == r.1

/-- SLOA_RB and SLOB_RB show the last readback of a self-test (R92). -/
def lastReadback (reads : List (Bool × Bool × Bool)) (s : State) : State :=
  match reads.getLast? with
  | some x => modRel (fun r => { r with rbA := x.2.1, rbB := x.2.2 }) s
  | none => s

/-- Two mismatches in a row. -/
def twoInRow : List Bool → Bool
  | a :: b :: l => (a && b) || twoInRow (b :: l)
  | _ => false

/-! ### Immobiliser (R83, R84) -/

/-- The answer's bytes; none when nothing is sent (R84). While a release stands and slot 9 holds no immobiliser key the locked answer is sent, also with LOCKED_ANS 0
(DESIGN CHOICE, log 138). -/
def immoAnswer (s : State) (chal : Bytes) : Option Bytes :=
  let seq := byte (byteAt chal 6)
  let locked : Option Bytes := if regBit s 0x40060000 3 then some ([0xA5, seq] ++ zeros 6) else none
  match s.acc.release.active, slotOf s 9 with
  | true, some x => some ([0x5A, seq] ++ (cmac x.key (le 4 s.cfg.vid.toNat ++ chal.take 6 ++ [seq, 0x5A])).take 6)
  | true, none => some ([0xA5, seq] ++ zeros 6)
  | false, _ => locked

/-- A frame of the immobiliser or start-request identifiers: its bus, identifier and kind match (R44, R83, R94). -/
def immoMatch (s : State) (idReg : Nat) (f : BusFrame) : Bool :=
  roleOf s == .tractor && decide (f.bus.val = regFld s 0x40060040 0 1) && f.xid == regBit s 0x40060040 1 && !f.fd && f.id == (regGet s idReg).toNat

/-- A challenge frame (R83, R84). One with another VERSION is counted in CAN_DROP_CNT of its controller (DESIGN CHOICE, log 139: R83 does not name the counter). -/
def immoChallenge (f : BusFrame) (s : State) : State :=
  if !immoMatch s 0x40060044 f || f.data.length != 8 then s
  else if byteAt f.data 7 ≠ 1 then regInc (0x400C0028 + 0x4000 * f.bus.val) 16 s
  else match immoAnswer s f.data with
    | some b => emitOut (.canTx f.bus.val (regGet s 0x40060048).toNat f.xid b) (regInc (0x400C0024 + 0x4000 * f.bus.val) 16 s)
    | none => s

/-- A start-request frame (R44, R94). -/
def startRequest (f : BusFrame) (s : State) : State :=
  if immoMatch s 0x4006004C f && regBit s 0x40060040 2 then trigger (mkTrigger .startFrame .start none s) s else s

/-! ### Tamper and loss (R85) -/

/-- Tamper in Noon, or the loss of E0: the decision and the release end (R85, R528). -/
def accessTamper (s : State) : State := endRelease 7 (refuseDecision rsTamper s)

/-- Revocation or suspension of the granting token ends its release (R85). -/
def releaseRevoked (record : Nat) (s : State) : State :=
  if s.acc.release.active && s.acc.release.record.toNat == record then endRelease 5 s else s

/-! ### Views (R87, R92) -/

/-- Used entries of the deny list. -/
def denyCount (s : State) : Nat := s.acc.denylist.length

/-- ACC registers that show state. -/
def accView (s : State) (off : Nat) : Option Nat :=
  let a := s.acc
  match off with
  | 0x004 => some (flagsWord [(0, a.decision.isSome), (1, a.curfew), (5, a.sloFault)] + 4 * a.triggers.length)
  | 0x010 => some (curfewLeft s)
  | 0x034 => some (relStat s)
  | 0x038 => some (if a.release.active then (a.release.durS * 1000000 - ticksFrom a.release.grantAt (now s)) / 1000 else 0)
  | 0x050 => some a.enrolLimit
  | 0x054 => some (min 0xFFFF ((ctrRead s 32).getD 0))
  | 0x058 => some (min 0xFFFF ((ctrRead s 33).getD 0))
  | 0x05C => some (denyCount s)
  | 0x060 => some a.decNum.toNat
  | _ => none

end Sys2Proof.Machine
end

