-- ==== Sys2Proof/Machine/Sensors.lean ====
section
/-! DEFINITION. Wheel-end sensor records: the roster, history, thresholds and alerts (R230–R239, R250–R253, R255–R258). -/
namespace Sys2Proof.Machine

/-- The state with the sensing logic changed. -/
def modSensing (f : Sensing → Sensing) (s : State) : State := { s with sns := f s.sns }

/-- A sensor record; none when FREE (R236). -/
def snsOf (s : State) (r : Nat) : Option Sensor := s.sns.sensors.find? (·.index == r)

/-- The state with a sensor record changed. -/
def modSns (r : Nat) (f : Sensor → Sensor) (s : State) : State :=
  modSensing (fun x => { x with sensors := modAll (·.index == r) f x.sensors }) s

/-- The record of an identifier in state OWN or PARTNER (R233); LEARNING records count when asked for (R235). -/
def snsById (s : State) (id : Nat) (learning : Bool) : Option Sensor :=
  s.sns.sensors.find? fun x => x.id.toNat == id && (learning || x.state != .learning)

/-- The lowest FREE record (R238). -/
def freeRecord (s : State) : Option Nat := (List.range 128).find? fun r => (snsOf s r).isNone

/-- A record just taken (R238): position unknown, CONF 0, nothing heard. -/
def newSensor (r : Nat) (st : SnsState) (s2 : Bool) (kind family : Nat) (id : Word) : Sensor :=
  { index := r, state := st, s2 := s2, kind := kind, family := family, id := id, wheelPos := 0xFF, conf := 0, locFlags := 0, srcUnit := 0,
    nominal := 0, thrSet := 0, data := zeros 8, flags := 0, lastFcnt := 0, alert := 0, age := 0, heard := false, presses := [], held := [],
    codes := List.replicate 8 0, phase := none, macBad := false, candPos := 0xFF, moveFrames := 0, rateFails := 0, qual := 0, agree := 0,
    conflictDue := false, learnN := 0, learnMove := 0, learnLast := 0, learnRssi := [], learnGap := false, histNext := 0, histPrimary := 0,
    rssi := 0, input := 0 }

/-- A record joins the roster in its place. -/
def putSensor (x : Sensor) (s : State) : State :=
  modSensing (fun n => { n with sensors := n.sensors.filter (·.index < x.index) ++ [x] ++ n.sensors.filter (x.index < ·.index) }) s

/-- First byte of a record's history ring (R237). -/
def histBase (r : Nat) : Nat := 0x10140000 + 0x2000 * r

/-- A record becomes FREE (R234, R238): its table entry 0, its waiting frames dropped, its key destroyed, its history cleared. -/
def dropSensor (r : Nat) (s : State) : State :=
  match snsOf s r with
  | none => s
  | some x =>
    let s := modSensing (fun n => { n with
      sensors := n.sensors.filter (·.index != r), fcnt := n.fcnt.filter (·.1 != r), frames := n.frames.filter (·.record != r),
      publish := n.publish.filter (· != r) }) s
    let s := { s with sram := s.sram.filter fun c => !(histBase r ≤ c.1 && c.1 < histBase r + 0x2000) }
    if x.s2 then destroyHandle (snsHandle r) s else s

/-! ### Events and vehicle speed -/

/-- CONF_MIN. -/
def confMin (s : State) : Nat := regFld s 0x40070100 4 8

/-- The WHEEL_POS that a record is reported with: unknown while its CONF lies below CONF_MIN (R247). -/
def shownPos (s : State) (x : Sensor) : Byte := if x.conf < confMin s then 0xFF else x.wheelPos

/-- Bits of CPL_SNS_EVENTS are raised, with a SENSOR event for a record (R255, R353). -/
def snsEvent (bits : Nat) (r : Option Nat) (s : State) : State :=
  let x := r.bind (snsOf s)
  let b : Bytes := match x with
    | some x => [byte x.index, shownPos s x, byte x.alert, byte x.conf]
    | none => [byte (r.getD 0xFF), 0xFF, 0, 0]
  hostEvent 0x21 (le 4 bits ++ b) (raise 0x40070108 bits s)

/-- CPL_SPEED: speed in 1/256 km/h, direction, validity (R255). -/
def speedOf (s : State) : Nat × Nat × Bool := (regFld s 0x4007011C 0 16, regFld s 0x4007011C 16 2, regBit s 0x4007011C 18)

/-- CPL_SPEED shows DIR forward and at least so many km/h. -/
def forwardAt (s : State) (kmh : Nat) : Bool := let v := speedOf s; v.2.2 && v.2.1 == 1 && decide (kmh * 256 ≤ v.1)

/-- The vehicle moves. -/
def vehicleMoves (s : State) : Bool := let v := speedOf s; v.2.2 && v.1 != 0

/-! ### Values and thresholds (R232, R250, R253) -/

/-- V1 of a record: P, STROKE, WEAR or P. -/
def sensorV1 (x : Sensor) : Nat := if x.kind = 3 then byteAt x.data 0 else at_ x.data 0 2

/-- V2 of a record: T sign-extended (DEDUCED, log 50), PEAK, DISC_T, HEIGHT. -/
def sensorV2 (x : Sensor) : Nat :=
  match x.kind with
  | 1 => wrap 16 (signed 8 (byteAt x.data 2))
  | 3 => at_ x.data 1 2
  | _ => at_ x.data 2 2

/-- A field of a threshold set: word A or B, low bit. -/
def thrFld (s : State) (x : Sensor) (b : Bool) (lo : Nat) : Nat := regFld s (0x40070140 + 8 * x.thrSet + 4 * b2n b) lo 8

/-- P falls faster than 20 kPa per minute over the last 3 frames; with a margin, than 19.6 (R250, R251). -/
def fallsFast (x : Sensor) (margin : Bool) : Bool :=
  match x.presses with
  | [a, _, c] => decide ((if margin then 196 else 200) * (ticksFrom a.2 c.2 : Int) < 300 * ((a.1 : Int) - c.1))
  | _ => false

/-- The conditions of R250 that a frame's values meet, with their levels: with `margin` a condition stays met until it is cleared by 2 % of its threshold, or
by 2 °C (R251). The margin of the height band is taken of HEIGHT_TOL (DESIGN CHOICE, log 51). -/
def sensorConds (s : State) (x : Sensor) (margin : Bool) : List (Bool × Nat) :=
  let lo := if margin then 102 else 100
  let hi := if margin then 98 else 100
  let dt : Int := if margin then 2 else 0
  let t := thrFld s x
  let bat := (bit x.flags.toNat 1, 1)
  match x.kind with
  | 1 =>
    let p := sensorV1 x
    let temp := signed 8 (byteAt x.data 2)
    [(t false 8 != 0 && decide (p * 10000 < t false 8 * x.nominal * lo), 3), (fallsFast x margin, 3),
     (t false 0 != 0 && decide (p * 10000 < t false 0 * x.nominal * lo), 2),
     (t false 16 != 0 && x.nominal != 0 && decide (t false 16 * x.nominal * hi < p * 10000), 2),
     (t false 24 != 0 && decide ((t false 24 : Int) - dt < temp), 2), bat]
  | 2 => [(t true 0 != 0 && decide (t true 0 * 10 * hi < at_ x.data 2 2 * 100), 2), bat]
  | 3 =>
    [(t true 16 != 0 && decide ((4 * t true 16 : Int) - dt < signed 16 (at_ x.data 1 2)), 3),
     (t true 8 != 0 && decide (byteAt x.data 0 * 100 < t true 8 * lo), 2), bat]
  | _ =>
    let d := ((at_ x.data 2 2 : Int) - x.nominal).natAbs
    [(t true 24 != 0 && decide (t true 24 * hi < d * 100), 2), bat]

/-- The highest level met (R251). -/
def sensorLevel (s : State) (x : Sensor) (margin : Bool) : Nat :=
  (sensorConds s x margin).foldl (fun a c => if c.1 then max a c.2 else a) 0

/-! ### History and alerts (R237, R251) -/

/-- A history entry of a record as it stands now (R237). -/
def histEntry (s : State) (x : Sensor) : Bytes :=
  le 4 (rtcField s).toNat ++ [x.flags, x.rssi, x.input, byte x.alert] ++ fit 8 x.data ++ le 2 (speedOf s).1 ++ zeros 2 ++
    le 4 (if x.s2 then x.lastFcnt else 0) ++ zeros 8

/-- An entry is appended to a record's ring of 256 (R237). -/
def histAppend (r : Nat) (s : State) : State :=
  match snsOf s r with
  | none => s
  | some x =>
    let s := { s with sram := memSet s.sram (histBase r + 32 * (x.histNext % 256)) (histEntry s x) }
    modSns r (fun y => { y with histNext := y.histNext + 1, histPrimary := sensorV1 y }) s

/-- A record of the trailer's own waits for its SENSOR_STATE (R252, R253). -/
def publishDue (r : Nat) (s : State) : State :=
  match snsOf s r with
  | some x =>
    if roleOf s = .trailer ∧ x.state = .own ∧ !s.sns.publish.contains r then modSensing (fun n => { n with publish := n.publish ++ [r] }) s
    else s
  | none => s

/-- A record's alert level changes: history, event, publication (R237, R251, R253). In Dusk a level below CRIT is reported at the next Noon (R241). -/
def setAlert (r lvl : Nat) (s : State) : State :=
  let s := histAppend r (modSns r (fun x => { x with alert := lvl }) s)
  if s.power.state = .dusk ∧ lvl < 3 then modSensing (fun n => { n with dueNoon := n.dueNoon.filter (· != r) ++ [r] }) s
  else publishDue r (snsEvent 1 (some r) (exitDusk s))

/-- The alarms of Dusk are reported in Noon (R241). -/
def reportDusk (s : State) : State :=
  s.sns.dueNoon.foldl (fun s r => publishDue r (snsEvent 1 (some r) s)) (modSensing (fun n => { n with dueNoon := [] }) s)

/-- The alert of a record after an accepted frame whose own level is `lvl`, and `held` with the margin: a rise at once; a fall to the highest level that one of the last
three frames left uncleared (R251). -/
def judgeAlert (r lvl held : Nat) (s : State) : State :=
  match snsOf s r with
  | none => s
  | some x =>
    let three := x.held ++ [held]
    let top := three.foldl max 0
    let s := modSns r (fun y => { y with held := three.drop (three.length - 2) }) s
    if x.alert < lvl then setAlert r lvl s
    else if 3 ≤ three.length ∧ top < x.alert then setAlert r top s
    else s

/-- The primary value has moved by more than 2 % since the last entry (R237). -/
def primaryMoved (x : Sensor) : Bool :=
  decide (x.histPrimary < 50 * ((sensorV1 x : Int) - x.histPrimary).natAbs)

/-- A level that an alarm code gives (R241): 3 CRIT, 2 WARN, 1 INFO. -/
def alarmLevel (code : Nat) : Nat := if code = 1 ∨ code = 2 then 3 else if code = 3 then 2 else 1

/-- The values of an accepted frame take effect in its record: values, history, alert (R234, R237, R250). -/
def takeValues (r : Nat) (data : Bytes) (flags rssi input : Byte) (s : State) : State :=
  let s := modSns r (fun x => { x with
    data := fit 8 data, flags := flags, age := 0, heard := true, rssi := rssi, input := input,
    presses := if x.kind = 1 then (x.presses ++ [(at_ data 0 2, s.power.rtc)]).drop (x.presses.length - 2) else [] }) s
  match snsOf s r with
  | none => s
  | some x =>
    let s := judgeAlert r (sensorLevel s x false) (sensorLevel s x true) s
    match snsOf s r with
    | some y => if primaryMoved y then histAppend r s else s
    | none => s

/-- No accepted frame for STALE_S (R250): INFO, WARN for a TYRE sensor silent for 30 s while the vehicle moves. -/
def staleRecord (r : Nat) (s : State) : State :=
  match snsOf s r with
  | none => s
  | some x =>
    let lvl := if x.kind = 1 ∧ vehicleMoves s ∧ 30 ≤ x.age then 2 else if regFld s 0x40070100 20 8 ≠ 0 ∧ 10 * regFld s 0x40070100 20 8 ≤ x.age then 1 else 0
    if lvl = 0 then s
    else
      let s := snsEvent 64 (some r) s
      if x.alert < lvl then setAlert r lvl s else s

/-- AXLE_BASE of this device: the dolly's AXLES for a second trailer behind it, otherwise 0 (R222; log 56). -/
def ownAxleBase (s : State) : Nat := if roleOf s = .trailer ∧ ownChannel s = 3 then Config.dollyAxles % 8 else 0

/-- A coupling has resumed: the wheel assignments stand, and rotation confirms them anew (R223, R249). -/
def locReconfirm (s : State) : State :=
  if s.sns.locStage < 3 then s
  else
    let again := fun (x : Sensor) => x.state == .own && x.s2 && x.kind == 1 && bit x.locFlags.toNat 0
    let open_ := fun (x : Sensor) => { x with locFlags := x.locFlags &&& 0xFE, moveFrames := 0, rateFails := 0, qual := 0, agree := 0 }
    let l := if s.sns.sensors.any again ∧ !s.jrn.internal.contains 3 then s.jrn.internal ++ [3] else s.jrn.internal
    modSensing (fun n => { n with
      sensors := n.sensors.map fun x => if again x then open_ x else x, locStage := if n.sensors.any again then 3 else n.locStage })
      { s with jrn := { s.jrn with internal := l } }

/-! ### Views (R255) -/

/-- How many records satisfy a test, as an 8-bit field. -/
def snsCount (s : State) (f : Sensor → Bool) : Nat := s.sns.sensors.countP f

/-- CPL_LOC_STAT (R257). -/
def locStat (s : State) : Nat :=
  let unsure := fun (x : Sensor) => decide (x.conf < confMin s) || bit x.locFlags.toNat 1 || bit x.locFlags.toNat 2
  let stage := s.sns.locStage
  stage + 8 * (if stage = 3 ∨ stage = 4 then 80 else if stage = 5 then 100 else 0) +
    1024 * b2n (match s.sns.loc with | some p => p.lfDefer | none => s.sns.locDefer) +
    2048 * min 255 (snsCount s fun x => x.wheelPos != 0xFF && decide (confMin s ≤ x.conf)) + 2 ^ 19 * min 255 (snsCount s unsure)

/-- CPL_SNSr_POS (R255). -/
def snsPosWord (s : State) (x : Sensor) : Nat :=
  (shownPos s x).toNat + 256 * x.conf + 65536 * (x.locFlags.toNat % 32) +
    2 ^ 21 * (match x.state with | .own => 1 | .partner => 2 | .learning => 3) + 2 ^ 23 * b2n x.s2 + 2 ^ 24 * (x.kind % 16)

/-- CPL_SNSr_VAL (R255). -/
def snsValWord (x : Sensor) : Nat := sensorV1 x + 65536 * x.alert + 2 ^ 18 * min x.age 0x3FFF

/-- Sensor registers of CPL that show state. -/
def snsView (s : State) (off : Nat) : Option Nat :=
  if off = 0x104 then
    let o := snsCount s (·.state == .own)
    let p := snsCount s (·.state == .partner)
    let l := snsCount s (·.state == .learning)
    some (o + 256 * p + 65536 * l + 2 ^ 24 * (128 - (o + p + l)))
  else if off = 0x10C then some (locStat s)
  else if off = 0x120 then
    some (snsCount s (·.alert == 3) + 256 * snsCount s (·.alert == 2) + 65536 * snsCount s (·.alert == 1))
  else if 0x200 ≤ off ∧ off < 0x600 then
    match snsOf s ((off - 0x200) / 8) with
    | some x => some (if off % 8 = 0 then snsPosWord s x else snsValWord x)
    | none => some 0
  else none

end Sys2Proof.Machine
end

