-- ==== Sys2Proof/Machine/Coupling.lean ====
section
/-! DEFINITION. Rig coupling (chapter 6): certificates, handshake, distance bound, roster handover, driver grants, link loss, failures. -/
namespace Sys2Proof.Machine

/-- REASON codes of CPL_Uu_STATE (R229). -/
def rnCertSig : Nat := 1
def rnUnknownFleet : Nat := 2
def rnNotAllowed : Nat := 3
def rnExpired : Nat := 4
def rnClock : Nat := 5
def rnKeyshareSig : Nat := 6
def rnConfirm : Nat := 7
def rnDistance : Nat := 8
def rnRbeBits : Nat := 9
def rnRbeUnavail : Nat := 10
def rnAbsent : Nat := 11
def rnDenyList : Nat := 12
def rnMacErrors : Nat := 13
def rnTamper : Nat := 14
def rnAxles : Nat := 15

/-- Units that the device can couple in its role (R207, R227). -/
def cplUnits (s : State) : List Nat := match roleOf s with | .tractor => [1, 2, 3] | .trailer => [1] | .none => []

/-! ### State words (R227, R229) -/

/-- Number of a coupling state. -/
def CplState.code : CplState → Nat
  | .none => 0 | .handshake => 1 | .trusted => 2 | .basic => 3 | .suspended => 4 | .backoff => 5

/-- CPL_Uu_STATE (R229). -/
def cplWord (s : State) (u : Nat) : Nat :=
  let c := unitOf s u
  c.state.code + 8 * c.cls + 32 * b2n c.noBound + 64 * b2n c.rosterTrunc + 128 * b2n c.rosterFail + 256 * c.reason + 8192 * b2n (cplPlc s u) +
    16384 * b2n c.dolly + 32768 * (s.sns.sensors.countP fun x => x.state == .partner && x.srcUnit == u)

/-- CPL_Uu_BOUND. -/
def cplBound (c : Coupling) : Nat := c.ownCm % 65536 + 65536 * (c.partnerCm % 65536)

/-- Coupling registers of CPL that show state (R227). -/
def cplView (s : State) (off : Nat) : Option Nat :=
  if 0x20 ≤ off ∧ off < 0x50 then
    let u := (off - 0x10) / 16
    let c := unitOf s u
    match off % 16 with
    | 0 => some (cplWord s u)
    | 4 => some (c.partner.toNat % 2 ^ 32)
    | 8 => some (c.partner.toNat / 2 ^ 32)
    | _ => some (cplBound c)
  else snsView s off

/-- The COUPLING event of a unit (R353). -/
def cplEvent (u : Nat) (s : State) : State := hostEvent 0x20 ([byte u, 0, 0, 0] ++ le 4 (cplWord s u)) s

/-- A unit takes a state; the event tells of a change (R353). -/
def cplState (u : Nat) (st : CplState) (s : State) : State :=
  let was := (unitOf s u).state
  let s := modUnit u (fun c => { c with state := st }) s
  if was = st then s else cplEvent u s

/-- The result of COUPLE (R392). -/
def coupleResult (s : State) (u : Nat) : Bytes := [byte u, 0, 0, 0] ++ le 4 (cplWord s u) ++ le 4 (cplBound (unitOf s u))

/-- The COUPLE that waits on this unit completes with a status. -/
def coupleDone (u : Nat) (status : Byte) (s : State) : State :=
  let c := unitOf s u
  finishAny c.work c.loose status (coupleResult s u) (modUnit u (fun c => { c with work := none, loose := none }) s)

/-- A boundary of R26 is journaled: the record of a COUPLE, or the internal record of the unit (R317, R393). -/
def cplBoundary (u n pct : Nat) (s : State) : State :=
  let c := unitOf s u
  let s := modUnit u (fun c => { c with boundary := n }) s
  let at' := fun (w : Work) => { w with step := n, pct := pct }
  let j := { s.jrn with
    works := modAll (fun w => some w.seq == c.work) at' s.jrn.works,
    loose := modAll (fun w => c.work.isNone && some w.seq == c.loose) at' s.jrn.loose,
    internal := if s.jrn.internal.contains (u - 1) then s.jrn.internal else s.jrn.internal ++ [u - 1] }
  jrnCommit (((s.jrn.works.find? fun w => some w.seq == c.work).map (·.recNo)).getD (internalUnit (u - 1))) { s with jrn := j }

/-! ### The end of a session, hostile outcomes and failures (R223, R225) -/

/-- The session keys of a unit are zeroised. -/
def dropSession (u : Nat) (s : State) : State := (List.range 3).foldl (fun s i => dropSlot (sessionSlot u i) s) s

/-- Release of a trailer that a coupling's end withdraws (R79, R221). -/
def cplRelease (s : State) : State := if roleOf s = .trailer then endRelease 8 s else s

/-- What an attempt holds is given up: an exchange being set up or running, keys and PDUs of the handshake. -/
def cplClear (u : Nat) (s : State) : State :=
  let s := match s.rng.rbe with
    | some x => if x.unit = some u then modRng (fun r => { r with rbe := none }) (rbeAbort s) else s
    | none => s
  let s := tpDrop u true true (tpDrop u false true s)
  modUnit u (fun c => { c with
    waiting := .nothing, ownHello := [], peerHello := [], ownCert := [], peerCert := [], ephD := 0, ownEph := [], peerEph := [], transcript := [],
    ownPass := false, peerPass := false, rbeRetried := false, resent := false, lastPdu := [], macFails := [] }) s

/-- The partner's keys and records go (R223): session keys, the blob of R213, the imported sensor blobs with every slot that holds one (R280), the records. -/
def cplForget (u : Nat) (s : State) : State :=
  let owner := u + 256 * (unitOf s u).serial
  let s := destroyHandle (193 + u) (dropSession u s)
  let s := { s with ks := { s.ks with slots := s.ks.slots.filter fun x => !(bit x.header.attr 3 && x.header.owner == owner) } }
  let gone := (s.sns.sensors.filter fun x => x.state == .partner && x.srcUnit == u).map (·.index)
  let s := gone.foldl (fun s r => dropSensor r s) s
  if gone.isEmpty then s else snsEvent 128 none s

/-- A unit that is not coupled still holds what a resume needs: a RESUME attempt was abandoned before HOLD_S passed (R223, R226). -/
def cplHeld (c : Coupling) : Bool := c.state == .none && decide (4 ≤ c.boundary)

/-- Decoupling (R223): keys, blob, imported keys and the partner's records go; the host is told, and a COUPLE that still waits on the unit ends with PARTNER_ABSENT
(R209, R225; DEDUCED, log 158). The medium stays that of a link that is alive (R208). -/
def decouple (u : Nat) (s : State) : State :=
  let c := unitOf s u
  let s := cplRelease (cplForget u (cplClear u s))
  let s := { s with jrn := { s.jrn with internal := s.jrn.internal.filter (· != u - 1) } }
  let s := modUnit u (fun c => { Coupling.reset u with linkUp := c.linkUp, work := c.work, loose := c.loose, j2497 := c.j2497 && c.linkUp }) s
  coupleDone u stPartnerAbsent (if c.state = .none ∧ !cplHeld c then s else cplEvent u s)

/-- A hostile outcome (R225): counted, and the third within 60 s suspends automatic restarts. -/
def cplHostile (u : Nat) (s : State) : State :=
  let recent := s.cpl.hostileAt.filter fun t => ticksFrom t (now s) ≤ 60000000
  let s := { s with cpl := { s.cpl with hostileAt := (recent ++ [now s]).drop (recent.length - 2), restartsOff := s.cpl.restartsOff || 2 ≤ recent.length } }
  cplEvent u (regInc 0x4007000C 16 s)

/-- The reason is hostile (R225). -/
def hostileReason (r : Nat) : Bool :=
  r == rnCertSig || r == rnDenyList || r == rnKeyshareSig || r == rnConfirm || r == rnDistance || r == rnRbeBits || r == rnMacErrors

/-- The status of a Coupling-family command for a reason (R225). -/
def reasonStatus (r : Nat) : Byte :=
  if r = rnAbsent then stPartnerAbsent else if r = rnRbeUnavail then stHwFault else if r = rnTamper then stTamper else stDenied

/-- An attempt, or a trusted coupling, ends with class BASIC (R225): a failed attempt restarts while it has restarts left. -/
def cplFail (u reason : Nat) (status : Byte) (s : State) : State :=
  let s := cplClear u (if (unitOf s u).state = .trusted then cplRelease s else s)
  let s := dropSession u s
  let s := modUnit u (fun c => { c with cls := 0, noBound := false, reason := reason, boundary := 0 }) s
  let s := if hostileReason reason then cplHostile u s else s
  let again := (unitOf s u).attempts < 3 && !s.cpl.restartsOff && reason != rnTamper
  let s := cplState u (if again then .backoff else .basic) s
  coupleDone u status s

/-- The device that fails tells its partner why (R217). -/
def cplFailBye (u reason : Nat) (s : State) : State :=
  cplFail u reason (reasonStatus reason) (cplSend u 0x0C 0 true [byte reason] s)

/-! ### Identity and certificates (R210, R215) -/

/-- DEVICE_ID of a certificate. -/
def certId (b : Bytes) : Nat := at_ b 4 8

/-- The partner's root: its anchor, 0 for the own fleet root, 1–4 for partner fleets (R210, R265). -/
def cplAnchor (s : State) (cert : Bytes) : Option Anchor :=
  (s.ks.anchors.filter fun a => a.valid && a.index ≤ 4 && a.keyId.toNat == at_ cert 16 4).head?

/-- A partner certificate is judged (R215): the class, or the reason it fails. A wrong ROLE counts as CERT_SIG (DESIGN CHOICE, log 47). -/
def certJudge (s : State) (cert : Bytes) : Except Nat Nat :=
  let id : Quad := BitVec.ofNat 64 (certId cert)
  let role := byteAt cert 1
  let na := at_ cert 12 4
  if cert.length ≠ 148 ∨ byteAt cert 0 ≠ 1 then .error rnCertSig
  else if s.cpl.deny.contains id then .error rnDenyList
  else match cplAnchor s cert with
    | none => .error rnUnknownFleet
    | some a =>
      if a.index ≠ 0 ∧ !regBit s 0x40070000 2 then .error rnUnknownFleet
      else if !ecdsaVerify a.pub (sha256 (cert.take 84)) (cert.drop 84) then .error rnCertSig
      else if role = 0 ∨ 3 < role ∨ role = byteAt s.cpl.cert 1 then .error rnCertSig
      else if na ≠ 0 ∧ !s.power.rtcValid then .error rnClock
      else if na ≠ 0 ∧ na < s.power.rtc.toNat then .error rnExpired
      else if regBit s 0x40070000 1 ∧ !s.cpl.allow.contains id then .error rnNotAllowed
      else .ok (if a.index = 0 then 1 else 2)

/-- The coupling key with its header, when it may sign (R210, R271). -/
def couplingKey (s : State) : Except Refused (BlobHeader × Bytes) :=
  match ksRefusal s with
  | some r => .error r
  | none =>
    match validHalf s 192 with
    | .error r => .error r
    | .ok (_, h, key) => if h.usage &&& 4 = 0 ∨ h.usage &&& 32 = 0 then .error (stDenied, 5) else .ok (h, key)

/-- A handshake signature over a digest: the coupling key stands in slot 10 while it signs, no longer (R210, R279). -/
def couplingSign (k : BlobHeader × Bytes) (digest : Bytes) (s : State) : Bytes × State :=
  let s := putSlot (mkSlot 10 k.1 k.1.ktype k.1.usage k.2 (some 192)) s
  let key := ((slotOf s 10).map (·.key)).getD []
  (ecdsaSign (beNat key) (drawScalar s 0) digest, dropSlot 10 (generate 8 s))

/-! ### Starting an attempt (R209, R212) -/

/-- ROLE byte of this device, as its certificate has it. -/
def ownRole (s : State) : Nat := byteAt s.cpl.cert 1

/-- UNIT that HELLO names: the unit of the towed device (R207, R507). -/
def helloUnit (s : State) (u : Nat) : Nat := min 2 (if roleOf s = .trailer then ownChannel s else u)

/-- Axles of the wheel model (R245). -/
def ownAxles (s : State) : Nat := byteAt s.sns.model 1

/-- CAPS of HELLO: a rapid bit exchange is possible, J2497 is provisioned (DEDUCED, log 48). -/
def helloCaps (s : State) : Nat := b2n (duplexOk s) + 2 * b2n (regFld s 0x400D000C 0 8 != 0)

/-- Why no attempt can begin: no certificate, no usable coupling key, no randomness, J2497 without an own MID (R210, R512, R616; the status is a DESIGN CHOICE,
log 49). -/
def cplObstacle (s : State) (u : Nat) : Option Byte :=
  if s.cpl.cert.length ≠ 148 then some stDenied
  else match couplingKey s with
    | .error r => some r.1
    | .ok _ => if !randomOk s ∨ (cplPlc s u ∧ regFld s 0x400D000C 0 8 = 0) then some stHwFault else none

/-- The device's HELLO for a unit goes out, under the journaled keys when it resumes (R212, R223). -/
def sendHello (u : Nat) (resume : Bool) (s : State) : State :=
  let nonce := peekBytes s 0 16
  let h := nonce ++ [byte (ownRole s), byte (helloUnit s u), byte (helloCaps s), byte (ownAxles s)]
  cplSend u 0x01 (b2n resume) resume h (generate 4 (modUnit u (fun c => { c with ownHello := h, seqTx := 0 }) s))

/-- An attempt begins on a unit: HANDSHAKE, fresh nonces and keys (R26, R33, R209); none on a unit that the role does not couple (R2, R207). -/
def cplStart (u : Nat) (resume : Bool) (s : State) : State :=
  match (if (cplUnits s).contains u then cplObstacle s u else some stDenied) with
  | some st => coupleDone u st s
  | none =>
    let s := cplClear u (if (unitOf s u).state = .trusted then cplRelease s else s)
    let s := modUnit u (fun c => { c with
      rosterDone := resume && c.rosterDone, waiting := .hello, resume := resume, seqRx := 0, noBound := false, rosterFail := false, rosterTrunc := if resume then c.rosterTrunc else false,
      cls := 0, reason := 0, boundary := if resume then c.boundary else 0 }) s
    sendHello u resume (cplState u .handshake s)

/-- A PDU payload waits for the next step: what the unit awaits, its first timeout again before it (R214). -/
def cplAwait (u : Nat) (w : CplWait) (s : State) : State := modUnit u (fun c => { c with waiting := w, resent := false }) s

/-- CERT goes out. -/
def sendCert (u : Nat) (s : State) : State :=
  cplSend u 0x02 0 false s.cpl.cert (modUnit u (fun c => { c with ownCert := s.cpl.cert }) s)

/-! ### Steps 1–4 (R212) -/

/-- Axles that unit 2 carries with a HELLO's AXLES added: those of its other coupling count from its HELLO on (R222). -/
def axleSum (s : State) (u axles : Nat) : Nat :=
  let counts := fun (c : Coupling) => c.state == .handshake || c.state == .trusted || c.state == .suspended
  if u = 1 then axles else axles + ((s.cpl.units.filter fun c => c.unit != 1 && c.unit != u && counts c).map (·.axles)).sum

/-- Both HELLOs are there: the tractor goes on with its CERT, the trailer waits for it. -/
def bothHello (u : Nat) (s : State) : State :=
  let s := cplAwait u .cert s
  if roleOf s = .tractor then sendCert u s else s

/-- HELLO (R209, R212, R222, R223, R225). -/
def cplHello (u : Nat) (p : CplPdu) (s : State) : State :=
  let c := unitOf s u
  let resume := bit p.flags.toNat 0
  let axles := byteAt p.payload 19
  if p.payload.length ≠ 20 then regInc 0x40070014 16 s
  else if c.state = .handshake ∧ c.peerHello = p.payload then regInc 0x40070010 16 s
  else if c.state = .trusted ∧ c.linkUp ∧ !resume then cplHostile u s
  else if !regBit s 0x40070000 6 ∧ c.state ≠ .handshake ∧ !resume then s
  else
    let begun := c.state == .handshake && c.waiting == .hello
    let s := if begun then s else cplStart u (resume && c.boundary ≥ 4) s
    if (unitOf s u).state ≠ .handshake then s
    else
      let s := modUnit u (fun c => { c with peerHello := p.payload, seqRx := p.seq.toNat + 1, axles := axles }) s
      if 8 < axleSum s u axles then cplFail u rnAxles (reasonStatus rnAxles) s else bothHello u s

/-- Another DEVICE_ID couples on the unit: the coupling held until now is DECOUPLED, the event names the unit with no coupling, and the attempt goes on (R223). -/
def cplReplaced (u : Nat) (s : State) : State :=
  let s := modUnit u (fun c => { c with rosterDone := false, oldRoster := [], oldWrap := [], boundary := 0, partner := 0 }) (cplForget u s)
  cplState u .handshake (cplState u .none s)

/-- CERT (R212, R215, R223). -/
def cplCert (u : Nat) (p : CplPdu) (s : State) : State :=
  let c := unitOf s u
  if c.waiting ≠ .cert then s
  else match certJudge s p.payload with
    | .error r => cplFail u r (reasonStatus r) s
    | .ok cls =>
      let id : Quad := BitVec.ofNat 64 (certId p.payload)
      let s := if c.partner ≠ 0 ∧ c.partner ≠ id then cplReplaced u s else s
      let s := modUnit u (fun c => { c with
        peerCert := p.payload, cls := cls, dolly := byteAt p.payload 1 == 3, partner := id, resume := c.resume && c.partner == id }) s
      let s := cplAwait u .keyshare s
      if roleOf s = .tractor then
        let d := drawScalar s 0
        let eph := pubOf d
        let s := generate 8 (modUnit u (fun c => { c with ephD := d, ownEph := eph }) s)
        let c := unitOf s u
        let t := sha256 (c.ownHello ++ c.peerHello ++ c.ownCert ++ c.peerCert ++ eph)
        match couplingKey s with
        | .ok key => let x := couplingSign key t s; cplSend u 0x03 0 false (eph ++ x.1) x.2
        | .error r => cplFail u 0 r.1 s
      else sendCert u s

/-- The transcript of both sides, the tractor's part first (R212). -/
def transcriptOf (tractor : Bool) (c : Coupling) : Bytes :=
  if tractor then c.ownHello ++ c.peerHello ++ c.ownCert ++ c.peerCert ++ c.ownEph ++ c.peerEph
  else c.peerHello ++ c.ownHello ++ c.peerCert ++ c.ownCert ++ c.peerEph ++ c.ownEph

/-- The 64 bytes of session keys from Z (R212). -/
def sessionKeys (tractor : Bool) (c : Coupling) (z : Bytes) : Bytes :=
  let t := if tractor then (c.ownHello, c.peerHello, c.ownCert, c.peerCert) else (c.peerHello, c.ownHello, c.peerCert, c.ownCert)
  kdf z (ascii "OZS-CPL") (t.1.take 16 ++ t.2.1.take 16 ++ le 8 (certId t.2.2.1) ++ le 8 (certId t.2.2.2)) 512

/-- The session keys take the unit's slots under their set's header: K_MAC, K_WRAP, K_RBE (R213, R270, R279). -/
def putSession (u : Nat) (h : BlobHeader) (k : Bytes) (s : State) : State :=
  let s := putSlot (mkSlot (sessionSlot u 0) h 1 4 (k.take 16) none) s
  let s := putSlot (mkSlot (sessionSlot u 1) h 2 20 (slice k 16 32) none) s
  putSlot (mkSlot (sessionSlot u 2) h 1 4 (slice k 48 16) none) s

/-- The journaled session keys are reloaded into the unit's slots (R213). -/
def loadSession (u : Nat) (s : State) : State :=
  match validHalf s (193 + u) with
  | .ok (_, h, k) => putSession u h k s
  | .error _ => s

/-- TAG of CONFIRM for a sender's ROLE (R212). -/
def confirmTag (kmac transcript : Bytes) (role : Nat) : Bytes := (cmac kmac (ascii "CNF" ++ sha256 transcript ++ [byte role])).take 8

/-- CONFIRM goes out. -/
def sendConfirm (u : Nat) (s : State) : State :=
  let k := (sessionKey s u 0).getD (zeros 16)
  cplSend u 0x04 0 true (confirmTag k (unitOf s u).transcript (ownRole s)) s

/-- KEYSHARE (R212): the signature covers the transcript with the ephemeral keys that its sender knew (DEDUCED, log 46). -/
def cplKeyshare (u : Nat) (p : CplPdu) (s : State) : State :=
  let c := unitOf s u
  let tractor : Bool := roleOf s == .tractor
  let eph := p.payload.take 64
  if c.waiting ≠ .keyshare then s
  else
    let c' := { c with peerEph := eph }
    let signed := sha256 (if tractor then transcriptOf true c' else transcriptOf false { c' with ownEph := [] })
    let sigOk := p.payload.length == 128 && ecdsaVerify (slice c.peerCert 20 64) signed (p.payload.drop 64)
    let d := if tractor then c.ephD else drawScalar s 0
    match (if sigOk then ecdhX d eph else none), couplingKey s with
    | none, _ => cplFail u rnKeyshareSig (reasonStatus rnKeyshareSig) s
    | _, .error r => cplFail u 0 r.1 s
    | some z, .ok key =>
      let s := if tractor then s else generate 8 (modUnit u (fun c => { c with ownEph := pubOf d }) s)
      let s := modUnit u (fun c => { c with peerEph := eph, ephD := 0 }) s
      let c := unitOf s u
      let t := transcriptOf tractor c
      let s := modUnit u (fun c => { c with transcript := t }) s
      let s := putSession u (newHeader s 5 4 2 true 0 (epochOf s 0) (peekKeyId s 0)) (sessionKeys tractor c z) (generate 2 s)
      let s := cplAwait u .confirm s
      if tractor then sendConfirm u s
      else
        let x := couplingSign key (sha256 t) s
        cplSend u 0x03 0 false (c.ownEph ++ x.1) x.2

/-! ### Step 5: the distance bound (R217) -/

/-- The vehicle identifier of the tractor: this device's own, or the one the trailer holds of its partner, which no message carries (R217; log 52). -/
def tractorVid (s : State) : Word := if roleOf s = .tractor then s.cfg.vid else Config.tractorVid

/-- The limit of a unit: DIST1_CM or DIST2_CM. -/
def cplLimit (s : State) (u : Nat) : Nat :=
  let n := if roleOf s = .trailer then max 1 (ownChannel s) else u
  regFld s 0x40070004 (if n = 1 then 0 else 16) 16

/-- RBE_RESULT goes out. -/
def sendRbeResult (u res bound : Nat) (s : State) : State := cplSend u 0x06 0 true (byte res :: le 2 bound) s

/-- The own exchange is announced and set up; it waits while an access decision needs chain H (R217, R226). -/
def cplExchange (u : Nat) (s : State) : State :=
  if s.acc.decision.isSome || s.rng.rbe.isSome then s
  else
    let s := cplSend u 0x05 0 true (le 8 (certId s.cpl.cert) ++ le 4 (tsNow s)) s
    rbeSetup none (some u) (unitOf s u).rbeRetried s

/-- Step 5 is reached, or runs again after a reset (R224). -/
def cplStep5 (u : Nat) (s : State) : State :=
  let s := modUnit u (fun c => { c with ownPass := false, peerPass := false, rbeRetried := false }) s
  if roleOf s = .tractor then cplExchange u (cplAwait u .rbeOwn s) else cplAwait u .rbePartner s

/-- The KEY_ID that a unit's session set was given when its keys were derived (R269). -/
def sessionKeyId (s : State) (u : Nat) : Nat := ((slotOf s (sessionSlot u 0)).map (·.header.keyId)).getD 0

/-- CONFIRM (R212): with the tags checked, step 4 is journaled and step 5 begins (R26, R213). -/
def cplConfirm (u : Nat) (p : CplPdu) (s : State) : State :=
  let c := unitOf s u
  let k := (sessionKey s u 0).getD (zeros 16)
  if c.waiting ≠ .confirm then s
  else if p.payload ≠ confirmTag k c.transcript (byteAt c.peerCert 1) then cplFailBye u rnConfirm s
  else
    let s := if roleOf s = .trailer then sendConfirm u s else s
    let s := if c.resume then s else modUnit u (fun c => { c with serial := ((ctrRead s 35).getD 0 + 1) % 2 ^ 24 }) (ctrInc 35 s)
    let keys := ((List.range 3).map fun i => (sessionKey s u i).getD []).flatten
    let h := newHeader s 5 4 2 true 0 (epochOf s 0) (sessionKeyId s u)
    let s := putSession u h keys (writeHalf (193 + u) false (mkBlob s h keys) (destroyHandle (193 + u) s))
    cplStep5 u (cplBoundary u 4 50 s)

/-- The key of a record may leave the device: NOEXPORT is 0 (R275); S1 records have none. -/
def keyExports (s : State) (x : Sensor) : Bool :=
  !x.s2 || (match validHalf s (snsHandle x.index) with | .ok (_, h, _) => !bit h.attr 1 | .error _ => false)

/-- The sensors that a trailer hands over: its own (R218), but for those whose key may not be exported (R275; DESIGN CHOICE, log 159). -/
def sensorsToHand (s : State) : List Sensor := s.sns.sensors.filter fun x => x.state == .own && keyExports s x

/-- Key material of a record's handle. -/
def snsKeyOf (s : State) (r : Nat) : Bytes := match validHalf s (snsHandle r) with | .ok (_, _, k) => k | .error _ => zeros 16

/-- A roster entry with its key under K_WRAP (R218). -/
def rosterEntry (s : State) (kwrap : Bytes) (x : Sensor) : Bytes :=
  le 4 x.id.toNat ++ [if x.s2 then 2 else 1, byte x.kind, shownPos s x, byte x.conf] ++ (if x.s2 then fit 24 (aesKwp kwrap (snsKeyOf s x.index)) else zeros 24)

/-- K_WRAP of a unit's session. -/
def kWrapOf (s : State) (u : Nat) : Bytes := (sessionKey s u 1).getD (zeros 32)

/-- The roster's SHA-256: over the entries of all parts, in order, as they travel under a K_WRAP (R218). -/
def rosterHash (s : State) (kwrap : Bytes) : Bytes := sha256 ((sensorsToHand s).flatMap (rosterEntry s kwrap))

/-- Index of the last part of a roster of `n` entries: 63 a part (R218). -/
def rosterLast (n : Nat) : Nat := (n - 1) / 63

/-- Part `i` of the roster goes out (R218). -/
def sendRoster (u i : Nat) (s : State) : State :=
  let l := sensorsToHand s
  let part := (l.drop (63 * i)).take 63
  let b := [byte (helloUnit s u), byte part.length, byte (ownAxleBase s), byte (i + 4 * rosterLast l.length)]
  cplAwait u .rosterAck (cplSend u 0x07 0 true (b ++ part.flatMap (rosterEntry s (kWrapOf s u))) (modUnit u (fun c => { c with part := i }) s))

/-- Step 6 is over: its boundary, and the COUPLE completes (R26, R393). A trailer keeps the hash of the roster that it has handed over. -/
def cplStep6 (u : Nat) (s : State) : State :=
  let k := kWrapOf s u
  let s := if roleOf s = .trailer then modUnit u (fun c => { c with oldRoster := rosterHash s k, oldWrap := k }) s else s
  coupleDone u stOk (cplBoundary u 6 100 (cplAwait u .nothing (modUnit u (fun c => { c with rosterDone := true }) s)))

/-- A resumed coupling skips step 6: its wheel assignments stand, pending re-confirmation by rotation, so steps 7 and 8 have nothing to do (R223). -/
def cplSkip6 (u : Nat) (s : State) : State := locReconfirm (cplBoundary u 8 100 (cplStep6 u s))

/-- The coupling awaits its roster from the first part on. -/
def rosterExpect (u : Nat) (s : State) : State := modUnit u (fun c => { c with part := 0, partLast := none, taken := 0, rosterBytes := [] }) s

/-- Both bounds stand (R217): TRUSTED (DEDUCED, log 53), then the roster. A resume skips step 6 when it was over before and the trailer's roster, under the keys it
travelled with, has the hash it had then (R223, R226; DEDUCED, log 54); the tractor, which cannot know, takes a roster that comes all the same. -/
def cplTrusted (u : Nat) (s : State) : State :=
  let s := cplState u .trusted (modUnit u (fun c => { c with attempts := 0, boundStale := false, reason := 0, grantSeq := if c.resume then c.grantSeq else 0 }) s)
  let c := unitOf s u
  let again := c.resume && c.rosterDone
  if 6 ≤ c.boundary then cplAwait u .nothing s
  else if roleOf s = .trailer then (if again ∧ c.oldRoster = rosterHash s c.oldWrap then cplSkip6 u s else sendRoster u 0 s)
  else if again then cplSkip6 u (rosterExpect u s)
  else cplAwait u .roster (rosterExpect u s)

/-- What a device's own result means (R217): pass, pass without a bound, or the reason it fails. -/
def rbeVerdict (s : State) (u res bound : Nat) : Except Nat Bool :=
  let req := regBit s 0x40070000 0
  if res = resOk ∧ bound ≤ cplLimit s u then .ok false
  else if res = resOk ∨ res = resFar then .error rnDistance
  else if res = resFailBits ∨ res = resFailConfirm then .error rnRbeBits
  else if !req then .ok true
  else if res = resNoAck ∨ res = resMiss then .error rnAbsent
  else .error rnRbeUnavail

/-- The own exchange of a unit has ended (R217). -/
def cplRbe (u res bound : Nat) (s : State) : State :=
  let c := unitOf s u
  if c.waiting ≠ .rbeOwn then s
  else if (res = resNoAck ∨ res = resMiss) ∧ !c.rbeRetried ∧ regBit s 0x40050020 25 then
    cplExchange u (modUnit u (fun c => { c with rbeRetried := true }) s)
  else
    let s := sendRbeResult u res bound (modUnit u (fun c => { c with ownCm := bound }) s)
    match rbeVerdict s u res bound with
    | .error r => cplFailBye u r s
    | .ok nb =>
      let s := modUnit u (fun c => { c with ownPass := true, noBound := nb || (c.peerPass && c.noBound) }) s
      if (unitOf s u).peerPass then cplTrusted u s else cplAwait u .rbePartner s

/-- An own exchange that waited for the air begins; one that cannot start is UNAVAIL at once (R173, R226). -/
def cplPump (s : State) : State :=
  s.cpl.units.foldl (fun s c =>
    if (unitOf s c.unit).waiting = .rbeOwn ∧ (s.rng.rbe.isNone || s.rng.rbe.any (·.unit == some c.unit)) ∧ s.acc.decision.isNone then
      match rbeBarred s with
      | some (_, s) => cplRbe c.unit resUnavail 0xFFFF (modRng (fun r => { r with rbe := none }) s)
      | none => if s.rng.rbe.isNone then cplExchange c.unit s else s
    else s) s

/-- RBE_ARM (R180, R217): the block answers in responder mode. A coupling that stands joins its partner's step 5, which the partner's reset made run again (R224). -/
def cplArm (u : Nat) (p : CplPdu) (s : State) : State :=
  let c := unitOf s u
  let joins := c.state == .trusted && c.waiting != .rbeOwn && c.waiting != .rbePartner
  if p.payload.length ≠ 12 ∨ !(c.waiting = .rbePartner ∨ joins) then s
  else
    let s := if joins then modUnit u (fun c => { c with ownPass := false, peerPass := false, rbeRetried := false }) s else s
    regPutFld 0x40050000 0 1 1 (cplAwait u .rbePartner s)

/-- The responder is armed with the initiator's nonce, in responder mode: R_0 and R_1 from K_RBE and this device's identifier, and the exchange that its RBE_START
opens is answered (R174, R176, R180, R199). -/
def cplRespond (u : Nat) (nonce : Quad) (fIdx nbits : Nat) (chal : Quad) (s : State) : State :=
  match sessionKey s u 2 with
  | some k =>
    if !regBit s 0x40050000 0 || s.rng.rbe.isSome then s
    else
      let k := kRbe k nonce (tractorVid s) (le 8 (certId s.cpl.cert))
      let s := regOr 0x40050000 4 (modRng (fun r => { r with armed := some nonce, resp := some (respRegs k) }) s)
      rbeAnswer ((sessionKey s u 2).getD (zeros 16)) nonce fIdx nbits chal s
  | none => s

/-- RBE_RESULT (R217): the partner's own bound. It passes by the verdict that this device's own limit and RBE_REQ give on it (DEDUCED, log 142); a result that
does not pass leaves the step to the partner's BYE. -/
def cplResult (u : Nat) (p : CplPdu) (s : State) : State :=
  let c := unitOf s u
  let res := byteAt p.payload 0
  let bound := at_ p.payload 1 2
  if p.payload.length ≠ 3 ∨ c.waiting ≠ .rbePartner then s
  else
    let s := regAndNot 0x40050000 5 (modRng (fun r => { r with armed := none, resp := none }) s)
    let s := modUnit u (fun c => { c with partnerCm := bound, resent := false }) s
    match rbeVerdict s u res bound with
    | .error _ => s
    | .ok nb =>
      let s := modUnit u (fun c => { c with peerPass := true, noBound := nb || (c.ownPass && c.noBound) }) s
      if c.ownPass then cplTrusted u s else cplPump (cplExchange u (cplAwait u .rbeOwn s))

/-! ### Step 6: the roster (R218, R219) -/

/-- One entry is taken: into the record that already holds the sensor for this unit, or into a free record; none when there is none, or when its key does
not unwrap. A sensor that another record holds is not taken (DEDUCED, log 55). -/
def takeEntry (u : Nat) (e : Bytes) (s : State) : Option State :=
  let id := at_ e 0 4
  let s2 := byteAt e 4 == 2
  let old := s.sns.sensors.find? fun x => x.id.toNat == id
  let key := if s2 then aesKwpInv ((sessionKey s u 1).getD (zeros 32)) (e.drop 8) else some []
  let spot := match old with
    | some x => if x.state = .partner ∧ x.srcUnit = u then some x.index else none
    | none => freeRecord s
  match spot, key with
  | some r, some k =>
    let c := unitOf s u
    let x := { newSensor r .partner s2 (byteAt e 5) (if s2 then 0 else 1) (word id) with
      wheelPos := byte (byteAt e 6), candPos := byte (byteAt e 6), conf := byteAt e 7, srcUnit := u }
    let s := putSensor (match old with | some o => { o with wheelPos := x.wheelPos, candPos := x.candPos, conf := x.conf } | none => x) s
    if s2 then
      let h := { newHeader s 1 8 10 false 0 (epochOf s 0) (peekKeyId s 0) with owner := u + 256 * c.serial }
      some (writeHalf (snsHandle r) false (mkBlob s h (fit 16 k)) (generate 2 (destroyHandle (snsHandle r) s)))
    else some s
  | _, _ => none

/-- A part is refused (R218). -/
def rosterRefused (c : Coupling) (b : Bytes) : Bool :=
  let count := byteAt b 1
  let index := fld (byteAt b 3) 0 2
  let last := fld (byteAt b 3) 2 2
  b.length < 4 || b.length != 4 + 32 * count || decide (63 < count) || (c.partLast.isSome && c.partLast != some last) || index != c.part ||
    (index != last && decide (count < 63)) || c.rosterFail

/-- ROSTER (R218, R219). -/
def cplRoster (u : Nat) (p : CplPdu) (s : State) : State :=
  let c := unitOf s u
  let b := p.payload
  if roleOf s ≠ .tractor ∨ c.state ≠ .trusted then s
  else if rosterRefused c b then cplStep6 u (cplEvent u (modUnit u (fun c => { c with rosterFail := true }) s))
  else
    let last := fld (byteAt b 3) 2 2
    let s := modUnit u (fun c => { c with axleBase := byteAt b 2 }) s
    let step := fun (a : Nat × State) (j : Nat) =>
      match takeEntry u (slice b (4 + 32 * j) 32) a.2 with
      | some s' => (a.1 + 1, s')
      | none => a
    let t := (List.range (byteAt b 1)).foldl step (0, s)
    let trunc := decide (t.1 < byteAt b 1)
    let s := modUnit u (fun c => { c with
      part := c.part + 1, partLast := some last, taken := c.taken + t.1, rosterBytes := c.rosterBytes ++ b.drop 4, rosterTrunc := c.rosterTrunc || trunc }) t.2
    let s := if t.1 = 0 then s else snsEvent 128 none s
    let s := cplSend u 0x08 0 true [byte (fld (byteAt b 3) 0 2), byte t.1, byte (b2n trunc)] s
    if fld (byteAt b 3) 0 2 = last then cplStep6 u (modUnit u (fun c => { c with part := 0, partLast := none }) s) else s

/-- ROSTER_ACK (R218): the next part, or the end of step 6. -/
def cplRosterAck (u : Nat) (p : CplPdu) (s : State) : State :=
  let c := unitOf s u
  if c.waiting ≠ .rosterAck ∨ p.payload.length ≠ 3 ∨ byteAt p.payload 0 ≠ c.part then s
  else
    let s := modUnit u (fun c => { c with rosterTrunc := c.rosterTrunc || byteAt p.payload 2 != 0 }) s
    if c.part < rosterLast (sensorsToHand s).length then sendRoster u (c.part + 1) s else cplStep6 u s

/-! ### Driver grants (R220, R221, R226) -/

/-- DRIVER_GRANT (R220, R221): a repeat keeps the release, a new grant triggers a decision, one below the last accepted is dropped; with a ZONE other than 0 it is no
grant. -/
def cplGrant (u : Nat) (p : CplPdu) (s : State) : State :=
  let c := unitOf s u
  let b := p.payload
  let seq := at_ b 12 4
  if b.length ≠ 17 ∨ byteAt b 16 ≠ 0 ∨ roleOf s ≠ .trailer ∨ !(grantUnits s).contains u ∨ c.boundStale ∨ seq < c.grantSeq then s
  else if seq = c.grantSeq ∧ s.acc.release.active then modRel (fun r => { r with missedGrants := 0 }) s
  else
    let g : DriverGrantData := { tokenId := BitVec.ofNat 64 (at_ b 0 8), zone := byte (byteAt b 16), seq := seq }
    trigger { mkTrigger .grant .park none s with grant := some g } s

/-- DRIVER_LEFT (R221). -/
def cplLeft (_u : Nat) (_p : CplPdu) (s : State) : State := if roleOf s = .trailer then endRelease 2 s else s

/-- Two track periods without a repeated grant end the trailer's release (R221). -/
def grantMissed (s : State) : State :=
  if roleOf s ≠ .trailer ∨ !s.acc.release.active then s
  else
    let s := modRel (fun r => { r with missedGrants := r.missedGrants + 1 }) s
    if 2 ≤ s.acc.release.missedGrants then endRelease 0xA s else s

/-! ### BYE, link and timers (R208, R209, R214, R223) -/

/-- BYE (R217, R223): a running handshake, and a standing coupling whose partner failed step 5, fall to BASIC with the partner's reason; otherwise a standing
coupling is decoupled. -/
def cplBye (u : Nat) (p : CplPdu) (s : State) : State :=
  let r := byteAt p.payload 0
  if (unitOf s u).state = .trusted ∧ rnDistance ≤ r ∧ r ≤ rnAbsent then cplFail u r (reasonStatus r) s
  else if (unitOf s u).state = .handshake then
    if r = 0 ∨ 15 < r then decouple u s else cplFail u r (reasonStatus r) s
  else if (unitOf s u).state = .trusted ∨ (unitOf s u).state = .suspended then decouple u s else s

/-- The link of a unit comes up on a medium (R208, R209, R223, R224): `plc` names J2497, `long` that it had been down for 10 s. -/
def cplLinkUp (u : Nat) (plc long : Bool) (s : State) : State :=
  let c := unitOf s u
  let medium := regFld s 0x40070000 4 2
  if !(cplUnits s).contains u ∨ (plc ∧ medium ≠ 1 ∧ !(medium == 2 && c.j2497)) ∨ (!plc ∧ medium = 1) then s
  else
    let s := if long then { s with cpl := { s.cpl with restartsOff := false } } else s
    let s := modUnit u (fun c => { c with linkUp := true, j2497 := plc, attempts := 0 }) s
    match c.state with
    | .trusted => if c.boundStale then cplPump (cplStep5 u s) else s
    | .suspended => if roleOf s = .tractor then cplStart u true s else s
    | .handshake => if 4 ≤ c.boundary then cplPump (cplStep5 u s) else if c.waiting = .nothing then cplStart u false s else s
    | _ => if regBit s 0x40070000 6 ∧ roleOf s = .tractor ∧ !s.cpl.restartsOff then cplStart u (cplHeld (unitOf s u)) s else s

/-- ISO 11992 has stayed down for 2 s after J2497 traffic began (R208). -/
def cplFallback (u : Nat) (s : State) : State :=
  if regFld s 0x40070000 4 2 = 2 ∧ (cplUnits s).contains u ∧ !(unitOf s u).linkUp then
    cplLinkUp u true false (modUnit u (fun c => { c with j2497 := true }) s)
  else s

/-- No valid frame for LOSS_MS (R223, R226): traffic on J2497 has to begin again before a coupling may stand on it (R208). An attempt is abandoned without SUSPENDED;
one with RESUME leaves the held keys and records as they were until HOLD_S passes (DEDUCED, log 160). -/
def cplLinkLoss (u : Nat) (s : State) : State :=
  let c := unitOf s u
  let s := modUnit u (fun c => { c with linkUp := false, j2497 := false }) s
  match c.state with
  | .trusted =>
    let s := cplRelease (cplState u .suspended (cplAwait u .nothing s))
    if regFld s 0x40070000 8 8 = 0 then decouple u s else s
  | .handshake =>
    let s := if c.resume then loadSession u (cplClear u s) else dropSession u (modUnit u (fun c => { c with boundary := 0 }) (cplClear u s))
    let s := modUnit u (fun c => { c with cls := 0 }) s
    coupleDone u stPartnerAbsent (cplState u .none s)
  | _ => s

/-- HOLD_S has passed (R223). -/
def cplHold (u : Nat) (s : State) : State :=
  if (unitOf s u).state = .suspended ∨ cplHeld (unitOf s u) then decouple u s else s

/-- A backoff is over (R225). -/
def cplRestart (u : Nat) (s : State) : State :=
  let c := unitOf s u
  if c.state ≠ .backoff then s
  else if s.cpl.restartsOff ∨ !c.linkUp then cplState u .basic s
  else cplStart u false (modUnit u (fun c => { c with attempts := c.attempts + 1 }) s)

/-- A PDU has been awaited for STEP_TO (R214). A trailer that a reset sent back to step 5 waits for the tractor's exchange first; when none is announced it announces its
own, which tells a partner that was not reset to join (R224; DESIGN CHOICE, log 161). -/
def cplStepTo (u : Nat) (s : State) : State :=
  let c := unitOf s u
  if c.waiting = .nothing ∨ !(c.state = .handshake ∨ c.state = .trusted) then s
  else if c.resent then cplFail u rnAbsent stPartnerAbsent s
  else if c.boundStale ∧ c.waiting = .rbePartner ∧ !c.ownPass then modUnit u (fun c => { c with resent := true }) (cplPump (cplAwait u .rbeOwn s))
  else
    let s := modUnit u (fun c => { c with resent := true }) s
    if c.lastPdu = [] then s else tpStart u (cplPlc s u) c.lastPdu (emitOut (.coupling u c.lastPdu) s)

/-- A trailer that sees no handshake for 3 s begins one (R209). -/
def cplHelloWait (u : Nat) (s : State) : State :=
  let c := unitOf s u
  if roleOf s = .trailer ∧ u = 1 ∧ c.linkUp ∧ regBit s 0x40070000 6 ∧ c.state ≠ .handshake ∧ c.state ≠ .trusted ∧ !s.cpl.restartsOff then
    cplStart u (c.state = .suspended || cplHeld c) s
  else s

/-- KEEPALIVE goes out (R223). -/
def cplKeepalive (u : Nat) (s : State) : State :=
  if (unitOf s u).state = .trusted ∧ (cplUnits s).contains u then cplSend u 0x0B 0 true [] s else s

/-! ### A PDU received (R211, R225) -/

/-- The bytes of a PDU before its MAC. -/
def cplPduHead (type : Nat) (p : CplPdu) : Bytes := [byte type, p.flags] ++ le 2 p.seq.toNat ++ le 2 p.payload.length ++ p.payload

/-- A MAC or SEQ failure (R211, R225): counted; the eighth within 10 s while trusted is hostile and restarts the coupling. -/
def cplMacError (u : Nat) (s : State) : State :=
  let s := regInc 0x40070010 16 s
  if (unitOf s u).state ≠ .trusted then s
  else
    let l := (unitOf s u).macFails.filter (fun t => ticksFrom t (now s) ≤ 10000000) ++ [now s]
    if 8 ≤ l.length then cplFail u rnMacErrors (reasonStatus rnMacErrors) s else modUnit u (fun c => { c with macFails := l }) s

/-- A type needs its MAC: from CONFIRM on, and a HELLO that resumes; a BYE before the keys exist carries none (R211, R223). -/
def macNeeded (c : Coupling) (keys : Bool) (type : Nat) (resume : Bool) : Bool :=
  if type = 1 then resume
  else if type = 0x0C then keys && c.waiting != .cert && c.waiting != .keyshare && c.waiting != .hello
  else 4 ≤ type

/-- The medium that a PDU came by is one that CPL_CFG.MEDIUM selects (R208). -/
def cplOnMedium (s : State) (p : CplPdu) : Bool :=
  if p.j2497 then cplPlc s (p.unit.val + 1) else regFld s 0x40070000 4 2 != 1

/-- A PDU of a type meets the checks of R211, then its step: a PDU that carries a MAC must verify, whatever its type. One on the medium that CPL_CFG.MEDIUM
does not select is dropped uncounted (DESIGN CHOICE, log 140); one on ISO 11992 moves a coupling that stands on J2497 there (R208). HELLO opens a session, so
no earlier SEQ of it can be repeated or lowered (log 141). -/
def cplReceive (type : Nat) (p : CplPdu) (step : Nat → CplPdu → State → State) (s : State) : State :=
  let u := p.unit.val + 1
  let c := unitOf s u
  let key := sessionKey s u 0
  if !(cplUnits s).contains u ∨ !cplOnMedium s p then s
  else if p.payload.length > 2040 ∨ p.flags.toNat > 3 then regInc 0x40070014 16 s
  else
    let maced := bit p.flags.toNat 1
    let good := match key with
      | some k => p.mac == (cmac k (cplPduHead type p)).take 8
      | none => false
    if (maced || macNeeded c key.isSome type (bit p.flags.toNat 0)) && !(maced && good) then cplMacError u s
    else if type ≠ 1 ∧ p.seq.toNat < c.seqRx then cplMacError u s
    else
      let s := if type = 1 then s else modUnit u (fun c => { c with seqRx := p.seq.toNat + 1 }) s
      step u p (modUnit u (fun c => { c with linkUp := true, j2497 := p.j2497 }) s)

/-- A received KEEPALIVE only shows that the partner lives (R223). -/
def cplAlive (_u : Nat) (_p : CplPdu) (s : State) : State := s

/-- What a PDU of each type does; none for a type that R211 does not list. -/
def cplSteps (type : Nat) : Option (Nat → CplPdu → State → State) :=
  match type with
  | 0x01 => some cplHello | 0x02 => some cplCert | 0x03 => some cplKeyshare | 0x04 => some cplConfirm | 0x05 => some cplArm | 0x06 => some cplResult
  | 0x07 => some cplRoster | 0x08 => some cplRosterAck | 0x09 => some cplGrant | 0x0A => some cplLeft | 0x0B => some cplAlive | 0x0C => some cplBye
  | _ => none

/-- A PDU assembled by the transport (R211): a type that R211 does not list, or a LEN that differs from its length, is dropped and counted. -/
def cplAssembled (u : Fin 3) (plc : Bool) (b : Bytes) (s : State) : State :=
  let len := at_ b 4 2
  let maced := bit (byteAt b 1) 1
  if b.length < 6 ∨ b.length ≠ 6 + len + 8 * b2n maced then regInc 0x40070014 16 s
  else match cplSteps (byteAt b 0) with
    | none => regInc 0x40070014 16 s
    | some f =>
      let p : CplPdu :=
        { unit := u, j2497 := plc, flags := byte (byteAt b 1), seq := BitVec.ofNat 16 (at_ b 2 2), payload := slice b 6 len, mac := b.drop (6 + len) }
      cplReceive (byteAt b 0) p f s

/-! ### Commands, tamper, reset -/

/-- A coupling goes on from the boundary of step 4: step 5 runs again when the link is there and nothing is awaited (R26, R224). -/
def cplResume5 (u : Nat) (s : State) : State :=
  let c := unitOf s u
  if 4 ≤ c.boundary ∧ c.linkUp ∧ c.waiting = .nothing then cplPump (cplStep5 u s) else s

/-- COUPLE runs (R32, R393): OK on a TRUSTED unit once step 6 is done; a step that a reset or a restart interrupted goes on from its boundary (R26);
otherwise an attempt begins. A unit that the role does not couple is DENIED (R2). -/
def coupleWork (u : Nat) (work loose : Option Nat) (s : State) : State :=
  if !(cplUnits s).contains u then finishAny work loose stDenied [] s
  else
  let s := modUnit u (fun c => { c with work := work, loose := loose }) s
  let c := unitOf s u
  match c.state with
  | .trusted => if 6 ≤ c.boundary then coupleDone u stOk s else if c.boundStale then cplResume5 u s else s
  | .handshake => if c.boundary < 4 ∧ c.waiting = .nothing then cplStart u false s else cplResume5 u s
  | st => cplStart u (decide (st = .suspended) || cplHeld c) (modUnit u (fun c => { c with attempts := 0 }) s)

/-- DECOUPLE runs (R226, R393). -/
def decoupleWork (u : Nat) (s : State) : State :=
  match (unitOf s u).state with
  | .none => if cplHeld (unitOf s u) then decouple u s else s
  | .handshake => decouple u (cplSend u 0x0C 0 (sessionKey s u 0).isSome [0] s)
  | .trusted => decouple u (cplSend u 0x0C 0 true [0] s)
  | _ => decouple u s

/-- Tamper (R225, R226): the journaled session blobs are destroyed, every coupling is BASIC. -/
def cplTamper (s : State) : State :=
  s.cpl.units.foldl (fun s c =>
    if c.state = .none then s else cplFail c.unit rnTamper stTamper (destroyHandle (193 + c.unit) s)) s

/-- Couplings at Dawn, once the key store is open (R26, R213, R224): journaled keys are reloaded, step 5 is due again; an attempt before the boundary of
step 4 starts over at the next link-up. A unit that the role in force does not couple is decoupled (R2, R207). -/
def cplRecover (s : State) : State :=
  s.cpl.units.foldl (fun s c =>
    let u := c.unit
    let s := modUnit u (fun c => { c with linkUp := false, waiting := .nothing, boundStale := true }) s
    if !(cplUnits s).contains u then (if c.state = .none then s else decouple u s)
    else if 4 ≤ c.boundary then loadSession u s
    else if c.state = .handshake ∨ c.state = .backoff then modUnit u (fun c => { c with state := .none, cls := 0 }) (cplClear u s)
    else s) s

end Sys2Proof.Machine
end

