-- ==== Sys2Proof/Machine/Locate.lean ====
section
/-! DEFINITION. Wheel-end frames, auto-location, motion confirmation, S1 learning and publication (R231–R235, R239–R249, R252–R254). -/
namespace Sys2Proof.Machine

/-! ### The wheel model (R245) -/

/-- The wheel model is valid: version, axle count, reserved bytes, current and CRC. -/
def wheelModelOk (b : Bytes) : Bool :=
  b.length == 100 && byteAt b 0 == 1 && decide (byteAt b 1 ≤ 8) && at_ b 2 2 == 0 && decide (1 ≤ byteAt b 92 ∧ byteAt b 92 ≤ 200) && at_ b 93 3 == 0 &&
    at_ b 96 4 == (crc32c (b.take 96)).toNat

/-- X of axle `k` in cm. -/
def axleX (b : Bytes) (k : Nat) : Int := signed 16 (at_ b (4 + 8 * k) 2)

/-- Axle `k` has dual wheels; its inner rims are reversed. -/
def axleDual (b : Bytes) (k : Nat) : Bool := bit (byteAt b (9 + 8 * k)) 0
def axleDualRev (b : Bytes) (k : Nat) : Bool := bit (byteAt b (9 + 8 * k)) 1

/-- The aerials at the wheels of an axle: left, right; 0xFF none. -/
def axleAerials (b : Bytes) (k : Nat) : Nat × Nat := (byteAt b (10 + 8 * k), byteAt b (11 + 8 * k))

/-- Axles of the model, as a list of indices. -/
def modelAxles (b : Bytes) : List Nat := List.range (min 8 (byteAt b 1))

/-- Aerials named in the model, in its order. -/
def modelAerials (b : Bytes) : List Nat :=
  ((modelAxles b).flatMap fun k => [(axleAerials b k).1, (axleAerials b k).2]).filter (· < 8) |>.eraseDups

/-- Axle and side of an aerial: the first place the model gives it. -/
def aerialPlace (b : Bytes) (a : Nat) : Option (Nat × Nat) :=
  (modelAxles b).findSome? fun k =>
    let x := axleAerials b k
    if x.1 = a then some (k, 0) else if x.2 = a then some (k, 1) else none

/-- The axle whose X lies nearest to a position. -/
def nearestAxle (b : Bytes) (x : Int) : Nat :=
  (modelAxles b).foldl (fun best k => if (axleX b k - x).natAbs < (axleX b best - x).natAbs then k else best) 0

/-- Unit field of a position code (R245). -/
def unitField (s : State) : Nat :=
  if roleOf s = .trailer then
    let c := unitOf s 1
    if c.state = .trusted ∨ c.state = .suspended then max 1 (helloUnit s 1) else 1
  else 0

/-- A wheel position code (R236). -/
def wheelCode (s : State) (axle side pos : Nat) : Byte := byte (32 * unitField s + 4 * ((ownAxleBase s + axle) % 8) + 2 * side + pos)

/-! ### A pass (R242–R248) -/

/-- Records that auto-location runs on (R246). -/
def locCands (s : State) : List Sensor := s.sns.sensors.filter fun x => x.state == .own && x.s2 && !bit x.locFlags.toNat 3

/-- The state with the pass changed. -/
def modLoc (f : LocPass → LocPass) (s : State) : State := modSensing (fun n => { n with loc := n.loc.map f }) s

/-- The 48 bits of a wake (R242). -/
def wakeBits48 (cmd aer : Nat) (nonce : Half) (nslot : Nat) : Nat :=
  let hi := 5 * 2 ^ 36 + cmd * 2 ^ 32 + aer * 2 ^ 29 + nonce.toNat * 2 ^ 8 + nslot * 16
  hi * 256 + crc8 (be 5 hi)

/-- Entries of a wake telegram (R242). -/
def wakeTelegram (aer v : Nat) : List Word :=
  [silentWake (2 ^ aer), plainWord aer, word (3 * 2 ^ 28 + 8 * 65536 + 0x96 * 256)] ++ codeWords 3 48 v ++ [word 0]

/-- The table current of the channel that a wake replaced is put back. -/
def locRestore (s : State) : State :=
  match s.sns.loc.bind (·.oldCur) with
  | some (ch, v) => lfCommit (regPutFld (lfCh ch 4) 0 8 v (modLoc (fun p => { p with oldCur := none }) s))
  | none => s

/-- The head aerial is woken with a fresh NONCE16 (R242–R244): eight slots; AXLE_CUR stands in its table entry until its window closes (DESIGN CHOICE,
log 57). -/
def locWake (s : State) : State :=
  match s.sns.loc with
  | none => s
  | some p =>
    match p.aerials with
    | [] => s
    | a :: _ =>
      let n : Half := BitVec.ofNat 16 (peek s 0).toNat
      let v := wakeBits48 2 a n 8
      let s := locRestore s
      let old := regFld s (lfCh a 4) 0 8
      let s := lfCommit (regPutFld (lfCh a 4) 0 8 (byteAt s.sns.model 92) s)
      let s := modLoc (fun p => { p with wakes := p.wakes + 1, nonce16 := n, wakeBits := be 5 (v / 256), oldCur := some (a, old) }) s
      e1Request 3 (wakeTelegram a v) (generate 1 s)

/-- The reply window of a wake is armed as its telegram starts: it opens 2.0 ms after the telegram's 10.144 ms (R242, R243). -/
def locArm (s : State) : State :=
  match s.sns.loc with
  | some p =>
    if p.stage = 1 ∧ p.aerials ≠ [] then
      regSet (rxAddr 0 0x10) (word (1 + 8 * 16 + 4000 * 256)) (armWindow 0 (s2Freq s) .s2 (tsAhead s 12144) s)
    else s
  | none => s

/-- A start trigger: with the telegram that begins, the reply windows that follow it are armed (R49, R104, R242). -/
def lfGo (src : Nat) (s : State) : State :=
  let begun := fun (s' : State) => s.lf.telegram.isNone && s'.lf.telegram.isSome
  let s' := lfTrigger src s
  match s.lf.grant with
  | none => s'
  | some g =>
    if !begun s' then s'
    else if g.cls = 3 then locArm s'
    else match g.plan with
      | some p => planBegun p s'
      | none => s'

/-- An S2 frame as E2 lays it in the transmit buffer: preamble, sync word, length byte, payload, CRC-16 over length and payload (R140, R148). -/
def s2Air (b : Bytes) : Bytes :=
  let body := byte b.length :: b
  be 4 0xAAAAAAAA ++ be 4 0x7A0E93C5 ++ body ++ be 2 (crc16Air body)

/-- The next SLOC goes out when no decision holds the capture slots (R198, R248, R254), through a transmit descriptor of Band L (R148); with none free, or no room in
the buffer, it waits. It is sent ASAP with preset 2 at the top power index, which PWRCAP holds down (DESIGN CHOICE, log 148). -/
def locPump (s : State) : State :=
  match s.sns.loc with
  | none => s
  | some p =>
    match p.stage, p.slocDue, p.slocNonce with
    | 2, r :: _, none =>
      let n := peek s 0
      let id := ((snsOf s r).map (·.id)).getD 0
      let b := s2Air ([0x10] ++ le 4 id.toNat ++ le 4 n.toNat ++ le 4 (regGet s 0x40050090).toNat)
      match (if s.acc.decision.isSome ∨ 512 < txBufTop s false + b.length then none else freeDesc s false) with
      | none => s
      | some d => placeFrame false d (txBufTop s false) (s2Freq s) 0 2 63 0 b
        (generate 1 (modLoc (fun p => { p with slocNonce := some n, slocAt := now s, slocDesc := some d }) s))
    | _, _, _ => s

/-- The Band L tones that SLOC names by its LMASK (R248). -/
def slocTones (s : State) : List Nat := (List.range 32).filter (toneMask s false)

/-- A SLOC has been sent: the Band L sequence of R182 follows at once, with no MCP_ACK, its captures in slot 1 (R183, R248; which slot: DESIGN CHOICE, log 148). -/
def slocSent (d : Option Nat) (s : State) : State :=
  match s.sns.loc with
  | none => s
  | some p =>
    if p.slocDesc.isNone ∨ p.slocDesc ≠ d ∨ p.slocNonce.isNone then s
    else
      let s := modLoc (fun p => { p with slocDesc := none, tonesLeft := 32 * (mcpStep s false).1 }) (regPutFld 0x40050094 4 4 1 s)
      let s := modRng (fun r => { r with tones := toneStamps s false 0 (slocTones s) }) s
      rngAir false (emitOut (.rngStart 3 [] ((slocTones s).map (toneFreq s false))) s)

/-- A µs of the tones passes; at their end the receivers go on. -/
def slocMoves (s : State) : State :=
  match s.sns.loc with
  | none => s
  | some p => if p.tonesLeft = 0 then s else
    let s := modLoc (fun p => { p with tonesLeft := p.tonesLeft - 1 }) s
    if p.tonesLeft = 1 then rngOver s else s

/-! ### Assignment (R247) -/

/-- Where a sensor was placed: from LF (axle, side, best code), its confidence, position and conflict. -/
structure Placed where
  r     : Nat
  kind  : Nat
  lf    : Option (Nat × Nat × Nat)
  conf  : Nat
  pos   : Nat
  clash : Bool
  deriving DecidableEq, Repr

/-- LF placement of one sensor: the best aerial, and the margin to aerials elsewhere. -/
def placeLf (b : Bytes) (x : Sensor) : Placed :=
  let codes := ((List.range 8).map fun a => (a, x.codes.getD a 0)).filter fun c => (aerialPlace b c.1).isSome
  let best := codes.foldl (fun (m : Nat × Nat) c => if m.2 < c.2 then c else m) (0, 0)
  match (if best.2 = 0 then none else aerialPlace b best.1) with
  | none => { r := x.index, kind := x.kind, lf := none, conf := 0, pos := 0, clash := false }
  | some at' =>
    let second := ((codes.filter fun c => aerialPlace b c.1 != some at').map (·.2)).foldl max 0
    { r := x.index, kind := x.kind, lf := some (at'.1, at'.2, best.2), conf := min 191 (12 * (best.2 - second) / 2), pos := 0, clash := false }

/-- The dual-wheel rules for one placed sensor among all. -/
def placeDual (b : Bytes) (all : List Placed) (p : Placed) : Placed :=
  match p.lf with
  | none => p
  | some (axle, side, code) =>
    if !axleDual b axle then p
    else
      let mates := all.filter fun q => q.r != p.r && q.kind == p.kind && (match q.lf with | some (k, d, _) => k == axle && d == side | none => false)
      match mates with
      | [] => { p with conf := min p.conf 96 }
      | [q] =>
        let other := match q.lf with | some (_, _, c) => c | none => 0
        let diff := max code other - min code other
        { p with pos := b2n (decide (other < code)), conf := min p.conf (12 * diff / 2) }
      | _ => { p with conf := 0, clash := true }

/-- The whole outcome for a sensor: axle, side, position and confidence; none when unknown (R247, R248). -/
def placeFinal (b : Bytes) (x : Sensor) (p : Placed) : Option (Nat × Nat × Nat) × Nat × Bool :=
  let phase := x.phase.map fun f => (nearestAxle b f.1, if 0 < f.2 then 0 else 1)
  let cap := fun (c : Nat) => if x.macBad then min 32 c else c
  match p.lf, phase with
  | some (axle, side, _), some (pa, ps) =>
    let clear := (modelAxles b).all fun k => k == axle ||
      decide ((axleX b axle - (x.phase.getD (0, 0)).1).natAbs < (axleX b k - (x.phase.getD (0, 0)).1).natAbs)
    if clear ∧ ps = side then (some (axle, side, p.pos), cap (min 191 (p.conf + 32)), p.clash)
    else if axleAerials b pa = (0xFF, 0xFF) then (some (pa, ps, p.pos), cap 48, p.clash)
    else (some (axle, side, p.pos), cap (p.conf / 4), p.clash)
  | some (axle, side, _), none => (some (axle, side, p.pos), cap p.conf, p.clash)
  | none, some (pa, ps) => (some (pa, ps, 0), cap 48, false)
  | none, none => (none, 0, false)

/-- The phase position lies outside OUTLINE expanded by 100 cm (R239). -/
def offRig (s : State) (x : Sensor) : Bool :=
  modelOk s.rng.model && match x.phase with
    | some (px, py) =>
      decide (100 < outBy px (modelS16 s.rng.model 112) (modelS16 s.rng.model 114)) || decide (100 < outBy py (modelS16 s.rng.model 116) (modelS16 s.rng.model 118))
    | none => false

/-- One sensor takes its place (R239, R247, R249, R253). In a pass that a CONFLICT made run again, a record already CONFIRMED keeps its place (DEDUCED, log 164). -/
def takePlace (rerun : Bool) (skipped : List Nat) (all : List Placed) (s : State) (x : Sensor) : State :=
  if rerun && bit x.locFlags.toNat 0 then s
  else
  let b := s.sns.model
  let p := ((all.find? (·.r == x.index)).map (placeDual b all)).getD { r := x.index, kind := x.kind, lf := none, conf := 0, pos := 0, clash := false }
  let f := placeFinal b x p
  let off := offRig s x
  let code : Byte := match f.1 with | some (a, d, q) => if off then 0xFF else wheelCode s a d q | none => 0xFF
  let conf := if off ∨ code = 0xFF then 0
    else if x.kind ≠ 1 ∧ x.candPos = code then max f.2.1 (min 223 (x.conf + 16)) else f.2.1
  let lacks := skipped.any fun a => x.codes.getD a 0 == 0
  let flags := 4 * b2n f.2.2 + 16 * b2n lacks
  let was := shownPos s x
  let s := modSns x.index (fun y => { y with
    candPos := code, wheelPos := code, conf := conf, locFlags := byte flags, moveFrames := 0, rateFails := 0, qual := 0, agree := 0,
    conflictDue := false }) s
  let s := if off then snsEvent 8 (some x.index) s else s
  if was = shownPos s { x with wheelPos := code, conf := conf } ∧ x.conf = conf then s else publishDue x.index s

/-- The result of LOCATE (R392). -/
def locateResult (s : State) : Bytes :=
  let w := locStat s
  [byte (fld w 11 8), byte (fld w 19 8), byte (fld w 10 1), 0]

/-- Couplings whose step 6 is over reach step 8 or 9 (R26). -/
def cplLocated (n : Nat) (s : State) : State :=
  s.cpl.units.foldl (fun s c =>
    if c.state = .trusted ∧ 6 ≤ c.boundary ∧ c.boundary < n then cplBoundary c.unit n 100 s else s) s

/-- Every TYRE record with a position to confirm is decided. -/
def allConfirmed (s : State) : Bool :=
  (locCands s).all fun x => x.kind != 1 || x.candPos == 0xFF || bit x.locFlags.toNat 0 || bit x.locFlags.toNat 1

/-- Step 4 is over when every TYRE record with a position to confirm is decided, at once where there is none: its boundary, step 9 of a coupling (R26, R246). -/
def confirmEnd (s : State) : State :=
  if (s.sns.locStage = 3 ∨ s.sns.locStage = 4) ∧ s.sns.loc.isNone ∧ allConfirmed s then
    let s := modSensing (fun n => { n with locStage := 5 }) { s with jrn := { s.jrn with internal := s.jrn.internal.filter (· != 3) } }
    cplLocated 9 (jrnCommit (internalUnit 3) s)
  else s

/-- Assignment ends the stationary stage (R246): LOC_DONE, its boundary, LOCATE completes. -/
def locAssign (s : State) : State :=
  match s.sns.loc with
  | none => s
  | some p =>
    let s := locRestore s
    let s := if p.aerials = [] then s else disarm 0 (e1Drop 3 s)
    let cands := locCands s
    let all := cands.map (placeLf s.sns.model)
    let s := cands.foldl (takePlace p.rerun p.skipped all) s
    let s := snsEvent 2 none (modSensing (fun n => { n with locStage := 3, locDefer := p.lfDefer }) s)
    let s := if p.lfDefer then snsEvent 256 none s else s
    let s := cplLocated 8 (jrnCommit (internalUnit 3) s)
    let res := locateResult s
    confirmEnd (finishAny p.work p.loose stOk res (rngOver (modSensing (fun n => { n with loc := none }) s)))

/-- Auto-location starts (R246): codes and phases of the records it runs on are forgotten. With a pass running, another follows (R254). -/
def locStart (work loose : Option Nat) (s : State) : State :=
  if byteAt s.sns.model 1 = 0 then finishAny work loose stBadField (refusalBytes 0xFFFF 3) s
  else if s.sns.loc.isSome then modLoc (fun p => if work.isSome || loose.isSome then { p with work := work, loose := loose } else { p with again := true }) s
  else
    let s := (locCands s).foldl (fun s x => modSns x.index (fun y => { y with codes := List.replicate 8 0, phase := none, macBad := false }) s) s
    let p : LocPass :=
      { stage := 1, aerials := modelAerials s.sns.model, wakes := 0, nonce16 := 0, wakeBits := [], oldCur := none, slocDue := [], slocNonce := none, slocAt := 0, slocDesc := none, tonesLeft := 0,
        skipped := [], retries := 0, lfDefer := false, again := false, rerun := false, work := work, loose := loose }
    let j := if s.jrn.internal.contains 3 then s.jrn.internal else s.jrn.internal ++ [3]
    let s := modSensing (fun n => { n with loc := some p, locStage := 1, locDefer := false }) { s with jrn := { s.jrn with internal := j } }
    if p.aerials = [] then locAssign s else locWake s

/-- A pass is over; a roster change during it starts another with AUTO_LOC = 1 (R254). -/
def locEnd (s : State) : State :=
  let again := match s.sns.loc with | some p => p.again | none => false
  let s := locAssign s
  if again && regBit s 0x40070100 0 then locStart none none s else s

/-- The SLOC at the head is done with: the next one goes out, or the stationary stage ends. -/
def slocNext (s : State) : State :=
  let s := modLoc (fun p => { p with slocDue := p.slocDue.tail, slocNonce := none, slocDesc := none }) s
  if (s.sns.loc.map (·.slocDue)) = some [] then locEnd s else locPump s

/-- A sensor that has not answered its SLOC for the 2.0 s that CMD 0x2 lets it listen has no phase result, and the next SLOC goes out (R242, R248; DESIGN CHOICE,
log 165). -/
def slocSilent (s : State) : State :=
  match s.sns.loc with
  | none => s
  | some p => if p.stage = 2 ∧ p.slocNonce.isSome ∧ 2000000 ≤ ticksFrom p.slocAt (now s) then slocNext s else s

/-- After a roster change, with AUTO_LOC = 1 (R246). -/
def rosterChanged (s : State) : State :=
  if regBit s 0x40070100 0 && byteAt s.sns.model 1 != 0 then locStart none none s else s

/-- Step 2: the sensors heard are located by phase (R246, R248). -/
def locPhase (s : State) : State :=
  let due := ((locCands s).filter fun x => x.codes.any (· != 0)).map (·.index)
  let s := modSensing (fun n => { n with locStage := 2 }) (modLoc (fun p => { p with stage := 2, slocDue := due, slocNonce := none }) s)
  if due = [] then locEnd s else locPump s

/-- The head aerial is done: the next, the wait for skipped ones, or step 2. -/
def locNext (s : State) : State :=
  let s := locRestore (modLoc (fun p => { p with aerials := p.aerials.tail, wakes := 0 }) s)
  match s.sns.loc with
  | none => s
  | some p =>
    if p.aerials ≠ [] then locWake s
    else if p.skipped ≠ [] ∧ p.retries < 3 then s
    else locPhase s

/-- The window of a wake closes with these collided slots (R243). -/
def locWindow (rx : Nat) (collided : List Nat) (s : State) : State :=
  match s.sns.loc with
  | none => s
  | some p =>
    if rx ≠ 0 ∨ p.stage ≠ 1 ∨ p.aerials = [] then s
    else if collided ≠ [] ∧ p.wakes < 3 then locWake s
    else locNext s

/-- A wake deferred by more than 2.0 s is skipped (R244). -/
def locDeferred (s : State) : State :=
  match s.sns.loc with
  | none => s
  | some p =>
    match p.stage, p.aerials with
    | 1, a :: _ =>
      if e1Waits s 3 then
        locNext (modLoc (fun p => { p with skipped := p.skipped ++ [a], lfDefer := true }) (e1Drop 3 s))
      else s
    | _, _ => s

/-- Skipped aerials are tried again after 10 s (R244). -/
def locRetry (s : State) : State :=
  match s.sns.loc with
  | none => s
  | some p =>
    if p.stage = 1 ∧ p.aerials = [] ∧ p.skipped ≠ [] ∧ p.retries < 3 then
      locWake (modLoc (fun p => { p with aerials := p.skipped, skipped := [], retries := p.retries + 1, wakes := 0 }) s)
    else s

/-- The stationary stage ends at 20 s (R246). -/
def locTimeout (s : State) : State := if s.sns.loc.isSome then locEnd s else s

/-- Tamper abandons a pass (R254). -/
def locTamper (s : State) : State :=
  match s.sns.loc with
  | none => s
  | some p =>
    let s := rngOver (modSensing (fun n => { n with loc := none, locStage := 0 }) (disarm 0 (e1Drop 3 (locRestore s))))
    let s := { s with jrn := { s.jrn with internal := s.jrn.internal.filter (· != 3) } }
    finishAny p.work p.loose stTamper [] s

/-! ### Motion confirmation (R249) -/

/-- A record is confirmed with a confidence at a position. -/
def confirmAt (r : Nat) (code : Byte) (conf : Nat) (s : State) : State :=
  let s := modSns r (fun y => { y with
    candPos := code, wheelPos := code, conf := conf, locFlags := byte ((y.locFlags.toNat &&& 0x18) + 1),
    conflictDue := false }) s
  publishDue r (snsEvent 4 (some r) s)

/-- Four qualifying frames decide a record (R249). -/
def confirmDecide (x : Sensor) (s : State) : State :=
  let r := x.index
  let mate := s.sns.sensors.find? fun y => y.index != r && y.kind == 1 && y.candPos != 0xFF && y.candPos.toNat == x.candPos.toNat ^^^ 1
  if x.agree = 4 then confirmAt r x.candPos 255 s
  else if x.agree = 3 then confirmAt r x.candPos 224 s
  else if x.agree = 2 then modSns r (fun y => { y with qual := 0, agree := 0 }) s
  else match mate with
    | some m =>
      if m.conflictDue then confirmAt m.index x.candPos 160 (confirmAt r m.candPos 160 s)
      else modSns r (fun y => { y with conf := 32, locFlags := y.locFlags ||| 4, conflictDue := true }) s
    | none => modSns r (fun y => { y with conf := 32, locFlags := y.locFlags ||| 4, conflictDue := true }) s

/-- A DATA frame of a TYRE sensor in step 4 (R249). |ROT| is compared with the speed (DEDUCED, log 58). -/
def confirmFrame (r : Nat) (s : State) : State :=
  match snsOf s r with
  | none => s
  | some x =>
    if s.sns.locStage < 3 ∨ x.kind ≠ 1 ∨ !x.s2 ∨ x.state ≠ .own ∨ x.candPos = 0xFF ∨ (x.locFlags.toNat &&& 0x0B) ≠ 0 ∨ x.conflictDue ∨ !forwardAt s 10 then s
    else
      let b := s.sns.model
      let axle := (x.candPos.toNat / 4 % 8 + 8 - ownAxleBase s) % 8
      let rot := signed 8 (byteAt x.data 3)
      let circ := byteAt b (8 + 8 * axle)
      let v := (speedOf s).1
      let rate := circ == 0 || decide (((rot.natAbs * circ * 18 * 256 : Nat) - (1000 * v : Nat) : Int).natAbs ≤ 150 * v)
      let s := modSensing (fun n => { n with locStage := if n.locStage = 3 then 4 else n.locStage }) s
      let s := modSns r (fun y => { y with
        moveFrames := y.moveFrames + 1, rateFails := y.rateFails + b2n (rot != 0 && !rate && decide (y.moveFrames < 12)) }) s
      let x := (snsOf s r).getD x
      if 8 ≤ x.rateFails ∧ x.moveFrames ≤ 12 then
        confirmEnd (publishDue r (modSns r (fun y => { y with wheelPos := 0xFF, candPos := 0xFF, conf := 0, locFlags := y.locFlags ||| 2 }) s))
      else if rot = 0 ∨ !rate then s
      else
        let left := !bit x.candPos.toNat 1
        let inner := bit x.candPos.toNat 0 && axleDualRev b axle
        let agree := decide (0 < rot) == (left != inner)
        let x := { x with qual := x.qual + 1, agree := x.agree + b2n agree }
        let s := modSns r (fun y => { y with qual := x.qual, agree := x.agree }) s
        if x.qual < 4 then s else confirmEnd (confirmDecide x s)

/-- The vehicle has stood for 30 s after rotation contradicted a position: the stationary stage runs again (R249). -/
def locNextStop (s : State) : State :=
  if s.sns.sensors.any (·.conflictDue) ∧ s.sns.loc.isNone then modLoc (fun p => { p with rerun := true }) (locStart none none s) else s

/-- An internal record of auto-location goes on from its last boundary: steps 1–3 run again, step 4 just continues (R32, R246, R317). -/
def locResume (s : State) : State :=
  if s.jrn.internal.contains 3 ∧ s.sns.loc.isNone ∧ s.sns.locStage < 3 then locStart none none s else s

/-! ### S2 frames (R231–R234, R239, R241, R243, R248) -/

/-- A MAC of an S2 frame under the record's key; none when the key store refuses the key. -/
def snsMac (r : Nat) (msg mac : Bytes) (s : State) : Option Bool × State :=
  match useHandle (snsHandle r) 8 s with
  | .ok (k, s') => (some ((cmac k msg).take mac.length == mac), s')
  | .error e => (none, countKeyRefusal e s)

/-- A frame of an identifier without a record (R239). -/
def snsForeign (s : State) : State := snsEvent 16 none (regInc 0x40070110 16 s)

/-- DATA or ALARM: MAC and FCNT are checked, and the frame waits for its commit (R233, R234). Its FCNT counts against later frames while it waits, and becomes LAST_FCNT
with the commit alone: a frame that a reset cuts off is accepted once when it is heard again. -/
def countedFrame (alarm : Bool) (b : Bytes) (rssi input : Byte) (s : State) : State :=
  match snsById s (at_ b 1 4) false with
  | none => snsForeign s
  | some x =>
    let n := if alarm then 12 else 19
    let v := snsMac x.index (b.take n) (b.drop n) s
    match v.1 with
    | none => v.2
    | some false => regInc 0x40070118 16 v.2
    | some true =>
      let fcnt := at_ b (if alarm then 8 else 6) 4
      let last := (s.sns.frames.filter (·.record == x.index)).foldl (fun m w => max m w.fcnt) x.lastFcnt
      if fcnt ≤ last then regInc 0x40070114 16 v.2
      else
        let w : WaitFrame :=
          { record := x.index, fcnt := fcnt, alarm := alarm, data := if alarm then slice b 5 3 else slice b 11 8, flags := byte (if alarm then 0 else byteAt b 10),
            rssi := rssi, input := input }
        modSensing (fun m => { m with frames := m.frames ++ [w] }) v.2

/-- LOC: the code of the aerial being woken (R231, R243, R247). -/
def locFrame (b : Bytes) (s : State) : State :=
  match snsById s (at_ b 1 4) false, s.sns.loc with
  | none, _ => snsForeign s
  | some _, none => s
  | some x, some p =>
    if at_ b 5 2 ≠ p.nonce16.toNat ∨ p.stage ≠ 1 then s
    else
      let v := snsMac x.index ([0x4C] ++ p.wakeBits ++ b.take 8) (b.drop 8) s
      match v.1, p.aerials with
      | some true, a :: _ =>
        if (locCands v.2).any (·.index == x.index) then modSns x.index (fun y => { y with codes := modAt a (fun _ => byteAt b 7) y.codes }) v.2 else v.2
      | some false, _ => regInc 0x40070118 16 v.2
      | _, _ => v.2

/-- The phase result that the first-path delays of an SREPORT give: none with fewer than three inputs at Q_MIN or above (R248). -/
def phaseFit (f : SnsFrame) (s : State) : Option (Int × Int) :=
  if 3 ≤ f.q.countP (fun q => decide (regFld s 0x40050080 4 8 ≤ q.toNat)) then f.fit else none

/-- SREPORT: the phase result of the sensor that SLOC named; the samples of its tones lie in the capture slot (R183, R248). -/
def phaseFrame (f : SnsFrame) (b : Bytes) (s : State) : State :=
  match snsById s (at_ b 1 4) false, s.sns.loc with
  | none, _ => snsForeign s
  | some _, none => s
  | some x, some p =>
    match p.slocNonce, p.slocDue with
    | some n, r :: _ =>
      if r ≠ x.index then s
      else
        let v := snsMac r (le 4 n.toNat ++ b.take 38) (b.drop 38) s
        let s := match v.1 with
          | some true => modSns r (fun y => { y with phase := phaseFit f v.2 }) (iqCapture (fun h k => !h && toneMask v.2 false k) f.iq v.2)
          | some false => modSns r (fun y => { y with macBad := true }) (regInc 0x40070118 16 v.2)
          | none => v.2
        slocNext s
    | _, _ => s

/-- The receiver is set for S2 frames, or for alarm bursts: preset, sync word, a length byte, CRC-16 (R140). -/
def rxS2 (s : State) (r : Nat) (burst : Bool) : Bool :=
  let cfg := (rxOf s r).cfgLive
  r != 2 && wfld cfg 0 4 == (if burst then 0 else 2) && rxSync s r == (if burst then 0x93C5 else 0x7A0E93C5) && wfld cfg 20 2 == (if burst then 1 else 3) &&
    !wbit cfg 8 && wfld cfg 17 2 == 2 && !wbit cfg 19

/-- The receiver is set for S1 frames: Manchester decoding, sync word 0x7E, FLEN 10, CHECK none (R140, R235). -/
def rxS1 (s : State) (r : Nat) : Bool :=
  let cfg := (rxOf s r).cfgLive
  r != 2 && wfld cfg 0 4 == 1 && rxSync s r == 0x7E && wfld cfg 20 2 == 0 && wbit cfg 8 && wfld cfg 9 8 == 10 && wfld cfg 17 2 == 0 && wbit cfg 19

/-- The input that a receiver listens on (R129, R166). -/
def rxInput (s : State) (r : Nat) : Byte := byte (wfld (rxOf s r).cfgLive 4 2)

/-- A payload of an alarm burst: an ALARM, or of a type that R231 does not give it, which is dropped and counted. -/
def burstFrame (b : Bytes) (rssi input : Byte) (s : State) : State :=
  if byteAt b 0 = 3 ∧ b.length = 16 then countedFrame true b rssi input s else regInc 0x40070118 16 s

/-- An S2 payload by its FTYPE and length (R231): others are dropped and counted. -/
def s2Payload (f : SnsFrame) (b : Bytes) (rssi input : Byte) (s : State) : State :=
  match byteAt b 0, b.length with
  | 1, 27 => countedFrame false b rssi input s
  | 2, 12 => locFrame b s
  | 4, 46 => phaseFrame f b s
  | _, _ => regInc 0x40070118 16 s

/-- In Dusk the frame that the sniff holds is handled, and only that one (R160, R241). -/
def heldFrame (f : SnsFrame) (s : State) : State :=
  if s.rad.held = [] ∨ s.rad.held ≠ f.air.data then s
  else burstFrame (s.rad.held.drop 1) (byte (regFld s 0x40030038 8 8)) (rxInput s 0) (modRad (fun x => { x with held := [] }) s)

/-- An S2 frame (R140, R231): its receiver takes it as it takes every frame, and where it is one E2 handles its payload of 1–64 bytes, of an alarm burst 1–16. -/
def s2Frame (f : SnsFrame) (s : State) : State :=
  if s.power.state = .dusk then heldFrame f s
  else
    let r := f.air.rx.val
    let b := (rxPayload s f.air).drop 1
    let s' := rxFrame f.air s
    if !rxGood s f.air ∨ b = [] then s'
    else if rxS2 s r false ∧ b.length ≤ 64 then s2Payload f b f.air.rssi (rxInput s r) s'
    else if rxS2 s r true ∧ b.length ≤ 16 then burstFrame b f.air.rssi (rxInput s r) s'
    else s'

/-- An ALARM takes effect (R241, R250, R251): its code's level where that is a rise; no frame without values clears a level. A CRIT alarm always ends Dusk, is raised to
the host and published, also on a record that stands at CRIT. -/
def alarmEffect (r lvl : Nat) (s : State) : State :=
  match snsOf s r with
  | none => s
  | some x =>
    let s' := judgeAlert r lvl (max lvl x.alert) s
    if x.alert = 3 ∧ lvl = 3 then publishDue r (snsEvent 1 (some r) (exitDusk s')) else s'

/-- An accepted frame takes effect once its FCNT is durable (R234, R241). -/
def frameEffect (s : State) (w : WaitFrame) : State :=
  let s := modSns w.record (fun x => { x with lastFcnt := w.fcnt }) s
  if w.alarm then
    alarmEffect w.record (alarmLevel (byteAt w.data 0)) (modSns w.record (fun x => { x with age := 0, heard := true, rssi := w.rssi, input := w.input }) s)
  else confirmFrame w.record (takeValues w.record w.data w.flags w.rssi w.input s)

/-- A commit of the frame-counter table (R234): every FCNT accepted since the last one, then the waiting frames take effect. A page both of whose copies
fail commits nothing. -/
def fcntCommit (rb : ReadBack) (s : State) : State :=
  let ws := s.sns.frames
  let pages := ([0, 1].filter fun p => ws.any fun w => w.record / 64 == p).map (1040 + ·)
  let s := pages.foldl (fun s p => pageCommit p false rb (keysZero p s)) (modSensing (fun n => { n with frames := [] }) s)
  if rb.a = 2 ∧ rb.b = 2 then s
  else
    let s := ws.foldl (fun s w => modSensing (fun n => { n with fcnt := kvSet (fun _ => 0) n.fcnt w.record w.fcnt }) s) s
    ws.foldl frameEffect s

/-! ### S1 frames and learning (R235, R240) -/

/-- CRC-8 with polynomial 0x07 and initial value 0. -/
def s1Crc8 (bs : Bytes) : Nat :=
  bs.foldl (fun c x => (List.range 8).foldl (fun c _ => (c * 2 % 256) ^^^ (if 128 ≤ c then 7 else 0)) (c ^^^ x.toNat)) 0

/-- CRC-16 with polynomial 0x1021 and initial value 0xFFFF. -/
def s1Crc16 (bs : Bytes) : Nat :=
  bs.foldl (fun c x => (List.range 8).foldl (fun c _ => (c * 2 % 65536) ^^^ (if 32768 ≤ c then 0x1021 else 0)) (c ^^^ (x.toNat * 256))) 0xFFFF

/-- The reading of an S1 frame: family, identifier, pressure in 0.5 kPa, temperature byte, STAT (R235). -/
def s1Decode (b : Bytes) : Option (Nat × Nat × Nat × Nat × Nat) :=
  if b.length < 10 then none
  else if s1Crc16 (b.take 8) = beNat (slice b 8 2) then some (2, beNat (b.take 4), beNat (slice b 4 2), byteAt b 6, byteAt b 7)
  else if s1Crc8 (b.take 7) = byteAt b 7 then some (1, beNat (b.take 4), 8 * byteAt b 4, byteAt b 5, byteAt b 6)
  else none

/-- A LEARNING record qualifies (R240): −80 dBm is code 120. -/
def learnOk (x : Sensor) : Bool :=
  decide (8 ≤ x.learnN) && decide (120 ≤ x.learnMove) && decide (120 ≤ median x.learnRssi) && !x.learnGap

/-- A frame counts for learning: forward at 20 km/h or more in the window; the record becomes OWN with the frame that meets the conditions (R240). -/
def learnFrame (r : Nat) (rssi : Byte) (s : State) : State :=
  if s.sns.learn && forwardAt s 20 then
    let t := s.power.rtc
    let s := modSns r (fun x => { x with
      learnN := x.learnN + 1, learnLast := t, learnRssi := x.learnRssi ++ [rssi.toNat],
      learnGap := x.learnGap || (x.learnN != 0 && decide (60 ≤ ticksFrom x.learnLast t)) }) s
    if (snsOf s r).any learnOk then rosterChanged (snsEvent 128 none (modSns r (fun x => { x with state := .own }) s)) else s
  else s

/-- The reading of an S1 frame reaches its record; an unknown identifier becomes a LEARNING record while learning is permitted, a window runs and the vehicle moves (R235,
R240). -/
def s1Reading (fam id p t stat : Nat) (rssi input : Byte) (s : State) : State :=
  let data := le 2 p ++ [byte (t + 256 - 50)] ++ zeros 5
  let flags := byte (b2n (bit stat 1) + 2 * b2n (bit stat 0))
  match s.sns.sensors.find? (fun x => x.id.toNat == id) with
  | some x =>
    if x.s2 ∨ x.family ≠ fam then s
    else
      let s := takeValues x.index data flags rssi input s
      if x.state = .learning then learnFrame x.index rssi s else s
  | none =>
    if s.sns.learn ∧ regBit s 0x40070100 1 ∧ forwardAt s 20 then
      match freeRecord s with
      | some r => snsEvent 32 (some r) (learnFrame r rssi (takeValues r data flags rssi input (putSensor (newSensor r .learning false 1 fam (word id)) s)))
      | none => s
    else s

/-- An S1 frame on a receiver that is set for it (R235). -/
def s1Frame (f : SnsFrame) (s : State) : State :=
  let r := f.air.rx.val
  let s' := rxFrame f.air s
  if !rxGood s f.air ∨ !rxS1 s r then s'
  else match s1Decode (rxPayload s f.air) with
    | none => s'
    | some (fam, id, p, t, stat) => s1Reading fam id p t stat f.air.rssi (rxInput s r) s'

/-- The learn window ends: every record still LEARNING returns to FREE (R240). -/
def learnEnd (s : State) : State :=
  let l := s.sns.sensors.filter (·.state == .learning)
  let s := modSensing (fun n => { n with learn := false }) { s with jrn := { s.jrn with internal := s.jrn.internal.filter (· != 5) } }
  let s := l.foldl (fun s x => dropSensor x.index s) s
  if l = [] then s else rosterChanged (snsEvent 128 none s)

/-- The learn window opens for 600 s (R240). -/
def learnStart (s : State) : State :=
  modSensing (fun n => { n with learn := true })
    { s with jrn := { s.jrn with internal := if s.jrn.internal.contains 5 then s.jrn.internal else s.jrn.internal ++ [5] } }

/-! ### Publication (R252, R253, R508) -/

/-- The 8 bytes of SENSOR_STATE (R253). -/
def sensorState (s : State) (x : Sensor) : Bytes :=
  [shownPos s x, byte x.kind] ++ le 2 (sensorV1 x) ++ le 2 (sensorV2 x) ++ [byte x.alert, byte x.conf]

/-- Tyre or wheel identification of a position (R508). -/
def isoWheel (b : Bytes) (base code : Nat) : Byte :=
  let axle := code / 4 % 8
  let side := code / 2 % 2
  let inner := code % 2
  let n := if axleDual b ((axle + 8 - base) % 8) then (if side = 0 then 1 + inner else 4 - inner) else 1 + side
  byte (16 * (axle + 1) + n)

/-- A trailer publishes one of its own sensors (R216, R252, R253): the standard data once it is located, SENSOR_STATE to a trusted partner. -/
def publishSensor (r : Nat) (s : State) : State :=
  match snsOf s r with
  | none => s
  | some x =>
    if roleOf s ≠ .trailer ∨ x.state ≠ .own then s
    else
      let s := modSensing (fun n => { n with publish := n.publish.filter (· != r) }) s
      let c := unitOf s 1
      let w := isoWheel s.sns.model (ownAxleBase s) x.wheelPos.toNat
      let s := if !c.j2497 ∧ x.wheelPos ≠ 0xFF ∧ confMin s ≤ x.conf ∧ (x.kind = 1 ∨ x.kind = 3) then
          emitOut (.isoData (x.kind == 3) w (sensorV1 x) (sensorV2 x) x.alert) s
        else s
      if c.state ≠ .trusted then s
      else if c.j2497 then tpFrame true 6 0 1 (sensorState s x) s
      else
        let id := (regGet s 0x400C008C).toNat + isoAddr s (ownChannel s)
        emitOut (.canTx 0 id true (sensorState s x)) (regInc 0x400C0024 16 s)

/-- SENSOR_STATE of a partner (R253): position and confidence of its PARTNER record, which the message does not name (log 59). -/
def partnerState (u r : Nat) (b : Bytes) (s : State) : State :=
  match snsOf s r with
  | some x =>
    if b.length = 8 ∧ x.state = .partner ∧ x.srcUnit = u ∧ x.kind = byteAt b 1 then
      modSns r (fun y => { y with wheelPos := byte (byteAt b 0), candPos := byte (byteAt b 0), conf := byteAt b 7 }) s
    else s
  | none => s

end Sys2Proof.Machine
end

