-- ==== Sys2Proof/Machine/Buses.lean ====
section
/-! DEFINITION. The vehicle buses (chapter 15): CAN controllers, the coupling transport's receiving side, J2497, LIN, Bluetooth LE connections. -/
namespace Sys2Proof.Machine

/-! ### CAN controllers (R496–R505) -/

/-- First address of a controller's page. -/
def canBase (b : Nat) : Nat := 0x400C0000 + 0x4000 * b

/-- A controller. -/
def canOf (s : State) (b : Nat) : Can := if b = 0 then s.bus.can0 else s.bus.can1

/-- The state with a controller changed. -/
def modCan (b : Nat) (f : Can → Can) (s : State) : State :=
  { s with bus := if b = 0 then { s.bus with can0 := f s.bus.can0 } else { s.bus with can1 := f s.bus.can1 } }

/-- Bits of CAN_EVENTS. -/
def canEvent (b bits : Nat) (s : State) : State := raise (canBase b + 8) bits s

/-- A counter of the page at 0x020 + 4 i: RX, TX, DROP, FLOOD, SPOOF, NOMATCH, BUSOFF, STALE, RTR, TP_ABORT. -/
def canCount (b i : Nat) (s : State) : State := regInc (canBase b + 0x20 + 4 * i) 16 s

/-- A pair may become live (R497): nominal and data rate in range, SJW at most TSEG2. Rates are compared at 96 MHz. -/
def timingOk (n d : Word) : Bool :=
  let nb := wfld n 0 8 * (1 + wfld n 8 8 + wfld n 16 7)
  let db := wfld d 0 5 * (1 + wfld d 8 6 + wfld d 16 4)
  nb != 0 && db != 0 && decide (96 ≤ nb) && decide (nb ≤ 768) && decide (96000000 ≤ 5000000 * db) && decide (wfld n 23 7 ≤ wfld n 16 7) &&
    decide (wfld d 20 4 ≤ wfld d 16 4)

/-- The staged pair becomes live; on the bus the controller integrates anew (R498). -/
def canApply (b : Nat) (s : State) : State :=
  modCan b (fun c => match c.staged with
    | some p => { c with staged := none, live := p, integrating := c.integrating || c.state == .listen || c.state == .active }
    | none => c) s

/-- COMMIT with a frame in progress or not (R497, R498); a pair out of range leaves the live pair and sets WR_REJ. -/
def canCommit (b : Nat) (frame : Bool) (s : State) : State :=
  let n := regGet s (canBase b + 0xC)
  let d := regGet s (canBase b + 0x10)
  if !timingOk n d then canEvent b 0x400 s
  else
    let s := modCan b (fun c => { c with staged := some (n, d) }) s
    if frame ∧ ((canOf s b).state = .listen ∨ (canOf s b).state = .active) then s else canApply b s

/-- A STATE_REQ as written takes effect: ACTIVE and LISTEN begin with integration; a controller in BUS_OFF stays (R498, R499, R504). -/
def canStateReq (b : Nat) (s : State) : State :=
  let want : CanState := match regFld s (canBase b) 0 2 with | 1 => .listen | 2 => .active | _ => .config
  let c := canOf s b
  if c.state = .busOff ∨ c.state = want then s
  else modCan b (fun c => { c with state := want, integrating := if c.state = .config then want != .config else c.integrating }) s

/-- A filter of a controller takes a frame (R500). -/
def filterTakes (s : State) (b n : Nat) (f : CanRx) : Bool :=
  let a := canBase b + 0x400 + 16 * n
  let id := regGet s a
  let mask := regGet s (a + 4)
  regBit s (a + 8) 0 && ((BitVec.ofNat 29 f.id ^^^ BitVec.ofNat 29 id.toNat) &&& BitVec.ofNat 29 mask.toNat) == 0 &&
    (!wbit mask 29 || f.xid == wbit id 29) && (!wbit mask 30 || f.fd == wbit id 30)

/-- The filter that takes a frame: the controller's own, then filters 0–31 of a controller that has failed over to it (R500, R505): controller and number. -/
def filterFind (s : State) (f : CanRx) : Option (Nat × Nat) :=
  let b := f.bus.val
  match (List.range 64).find? fun n => filterTakes s b n f with
  | some n => some (b, n)
  | none =>
    if (canOf s (1 - b)).failedOver then ((List.range 32).find? fun n => filterTakes s (1 - b) n f).map fun n => (1 - b, n)
    else none

/-- The limiter (R502): the frame's entry after it, and whether the frame is over its limit. -/
def limitEntry (c : Can) (win rate : Nat) (f : CanRx) : LimitEntry × Bool :=
  let e := (c.limits.find? fun e => e.id == f.id && e.xid == f.xid).getD { id := f.id, xid := f.xid, win := win, count := 0, run := 0 }
  let e := if e.win = win then e
    else { e with win := win, count := 0, run := if e.win + 1 = win ∧ rate < e.count then e.run else 0 }
  let excess := decide (rate ≤ e.count)
  ({ e with count := e.count + 1, run := if e.count = rate then e.run + 1 else e.run }, excess)

/-- A limited frame: over its rate it is counted, latched and dropped; ten windows in a row raise a record, one a second (R502; detector DESIGN CHOICE,
log 61). -/
def canLimit (b rate : Nat) (f : CanRx) (s : State) : Bool × State :=
  let r := limitEntry (canOf s b) ((now s).toNat / 100000) rate f
  let s := modCan b (fun c =>
    let rest := c.limits.filter fun e => !(e.id == f.id && e.xid == f.xid)
    { c with limits := rest.drop (rest.length - 63) ++ [r.1] }) s
  if !r.2 then (false, s)
  else
    let s := canEvent b 32 (regSet (canBase b + 0x48) (word (f.id + 2 ^ 29 * b2n f.xid)) (canCount b 3 s))
    let due : Bool := match (canOf s b).floodAt with | some t => decide (1000000 ≤ ticksFrom t (now s)) | none => true
    if 10 ≤ r.1.run ∧ due then (true, fault 0x000D 2 b 0 0 (word f.id) (modCan b (fun c => { c with floodAt := some (now s) }) s))
    else (true, s)

/-- A frame joins a FIFO of 32; a full FIFO drops it (R500). -/
def fifoPush (b : Nat) (host : Bool) (f : CanFrame) (s : State) : State :=
  let c := canOf s b
  if 32 ≤ (if host then c.rx1 else c.rx0).length then
    canEvent b 16 (canCount b 2 (modCan b (fun c => if host then { c with ovf1 := true } else { c with ovf0 := true }) s))
  else
    canEvent b (if host then 2 else 1) (modCan b (fun c => if host then { c with rx1 := c.rx1 ++ [f] } else { c with rx0 := c.rx0 ++ [f] }) s)

/-- CPL_SPEED takes a speed frame (R509): the tractor's configured frame on CAN1, the trailer's wheel-based speed of ISO 11992-2. -/
def takeSpeed (f : CanRx) (s : State) : State :=
  let put := fun (v dir : Nat) => regSet 0x4007011C (word (v % 65536 + 65536 * dir + 2 ^ 18)) s
  match regFld s 0x40070100 2 2, roleOf s with
  | 1, .tractor =>
    let id := regGet s 0x400C0090
    let cfg := regGet s 0x400C0094
    if f.bus = 1 ∧ f.id = wfld id 0 29 ∧ f.xid = wbit id 29 then
      let at' := wfld cfg 0 3
      let raw := if wbit cfg 3 then beNat (slice f.data at' 2) else at_ f.data at' 2
      put (raw * wfld cfg 4 12 / 256) (if bit (byteAt f.data (wfld cfg 16 3)) (wfld cfg 19 3) = wbit cfg 22 then 1 else 2)
    else s
  | 0, .trailer =>
    match f.speed with
    | some (v, d) => if f.bus = 0 then put v (if d = 0 then (if 15 * 256 < v then 1 else 0) else d.val) else s
    | none => s
  | _, _ => s

/-- A coupling frame that a trailer passes on unchanged between its two links (R206). -/
def forwards (s : State) (f : CanRx) : Bool :=
  let cpl := f.id / 256 == (regGet s 0x400C0088).toNat / 256
  let ss := f.id / 256 == (regGet s 0x400C008C).toNat / 256
  roleOf s == .trailer && f.xid && ((ss && f.bus == 1) || (cpl && (f.bus == 1 || byteAt f.data 1 % 16 != ownChannel s)))

/-- A frame that the filters judge is delivered (R500–R502, R506). -/
def canDeliver (ts : Word) (f : CanRx) (s : State) : State :=
  let b := f.bus.val
  match filterFind s f with
  | none => canCount b 5 s
  | some (fb, n) =>
    let cfg := regGet s (canBase fb + 0x408 + 16 * n)
    let lim := if wbit cfg 3 then canLimit b (wfld cfg 4 8) f s else (false, s)
    if lim.1 then lim.2
    else
      let fr : CanFrame :=
        { ts := ts, id := f.id, xid := f.xid, fd := f.fd, brs := f.brs, esi := f.esi, dlc := f.dlc.val, filter := n, data := f.data }
      match wfld cfg 1 2 with
      | 0 =>
        let s := takeSpeed f (exitDusk (fifoPush b false fr lim.2))
        if forwards s f then emitOut (.canTx (1 - b) f.id true f.data) s else s
      | 1 => exitDusk (fifoPush b true fr lim.2)
      | _ => canCount b 5 lim.2

/-- The frame carries an own identifier, or on ISO 11992 a partner's address from the wrong link (R503). -/
def canSpoof (s : State) (f : CanRx) : Bool :=
  let b := f.bus.val
  let own := (List.range 8).any fun i =>
    let w := regGet s (canBase b + 0x60 + 4 * i)
    wbit w 30 && wfld w 0 29 == f.id && wbit w 29 == f.xid
  let iso := f.xid && (f.id / 256 == (regGet s 0x400C0088).toNat / 256 || f.id / 256 == (regGet s 0x400C008C).toNat / 256)
  let sa := f.id % 256
  let wrong := roleOf s == .trailer && iso &&
    ((b == 1 && sa == isoAddr s 0) || (b == 0 && (List.range 4).any fun c => decide (ownChannel s < c) && isoAddr s c != 0 && sa == isoAddr s c))
  own || wrong

/-- A received frame (R496, R498–R503, R538): nothing outside LISTEN and ACTIVE or while integrating. -/
def canReceive (f : CanRx) (s : State) : State :=
  let b := f.bus.val
  let c := canOf s b
  if !(c.state = .listen ∨ c.state = .active) ∨ c.integrating then s
  else if injected 0x000D s = some b then
    faultBy true 2 0x000D 2 b 2 0 (word f.id) (modCan b (fun c => { c with rxErr := min 255 (c.rxErr + 1) }) s)
  else if f.fd ∧ !regBit s (canBase b + 0x1C) 0 then modCan b (fun c => { c with rxErr := min 255 (c.rxErr + 1) }) s
  else
    let s := canCount b 0 (modCan b (fun c => { c with rxErr := c.rxErr - 1 }) s)
    let s := if f.rtr then canCount b 8 s
      else if s.power.state = .dawn then
        let fr : CanFrame := { ts := now s, id := f.id, xid := f.xid, fd := f.fd, brs := f.brs, esi := f.esi, dlc := f.dlc.val, filter := 0, data := f.data }
        let mine := (s.bus.dawn.filter (·.1 == b)).length
        let s := if 64 ≤ mine then canCount b 2 s else s
        let kept := if 64 ≤ mine then (match s.bus.dawn.findIdx? (·.1 == b) with | some i => s.bus.dawn.eraseIdx i | none => s.bus.dawn) else s.bus.dawn
        { s with bus := { s.bus with dawn := kept ++ [(b, fr)] } }
      else if canSpoof s f then canEvent b 64 (regSet (canBase b + 0x4C) (word (f.id + 2 ^ 29 * b2n f.xid)) (canCount b 4 s))
      else canDeliver (now s) f s
    canApply b s

/-- The head frame of a FIFO is removed (R521). -/
def canPop (b : Nat) (host : Bool) (s : State) : State :=
  modCan b (fun c => if host then { c with rx1 := c.rx1.tail, ovf1 := false } else { c with rx0 := c.rx0.tail, ovf0 := false }) s

/-! ### Transmission (R501, R502, R504, R505) -/

/-- Address of a transmit buffer's control word. -/
def txbAddr (b n : Nat) : Nat := canBase b + 0x800 + 0x50 * n

/-- Identifier and kind of the frame in a buffer. -/
def txbId (s : State) (b n : Nat) : Nat := regFld s (txbAddr b n + 4) 0 29
def txbXid (s : State) (b n : Nat) : Bool := regBit s (txbAddr b n) 6

/-- Data of the frame in a buffer. -/
def txbData (s : State) (b n : Nat) : Bytes :=
  let ctl := regGet s (txbAddr b n)
  (((List.range 16).map fun w => le 4 (regGet s (txbAddr b n + 8 + 4 * w)).toNat).flatten).take (dlcBytes (wbit ctl 4) (wfld ctl 0 4))

/-- Arbitration order of ISO 11898-1 as a number: base identifier, then standard before extended, then the extension. -/
def arbKey (xid : Bool) (id : Nat) : Nat := if xid then id / 2 ^ 18 * 2 ^ 20 + 2 ^ 19 + id % 2 ^ 18 else id * 2 ^ 20

/-- REQ: a buffer is pending (R501). -/
def canReq (b n : Nat) (s : State) : State :=
  let s := regPutFld (txbAddr b n) 7 1 1 s
  modCan b (fun c => { c with pend := if c.pend.contains n then c.pend else c.pend ++ [n] }) s

/-- A buffer is no longer pending. -/
def canUnpend (b n : Nat) (s : State) : State :=
  modCan b (fun c => { c with pend := c.pend.filter (· != n) }) (regPutFld (txbAddr b n) 7 1 0 s)

/-- The CAN_TX in a buffer is answered (R395, R501). -/
def canAnswer (b n : Nat) (status : Byte) (payload : Bytes) (s : State) : State :=
  let l := (canOf s b).jobs.filter (·.buffer == n)
  let s := modCan b (fun c => { c with jobs := c.jobs.filter (·.buffer != n) }) s
  l.foldl (fun s j => match j.ret with | some r => reply r status payload s | none => s) s

/-- The pending buffer that wins arbitration: lowest identifier, then the lower buffer; a host frame over HOST_RATE waits (R501, R502). -/
def canWinner (s : State) (b : Nat) : Option Nat :=
  let c := canOf s b
  let full := c.hostWin == (now s).toNat / 100000 && decide (regFld s (canBase b + 0x1C) 11 8 ≤ c.hostSent)
  let l := c.pend.filter fun n => n < 12 || !full
  l.foldl (fun (best : Option Nat) n => match best with
    | none => some n
    | some m =>
      let k := fun (i : Nat) => arbKey (txbXid s b i) (txbId s b i) * 16 + i
      some (if k n < k m then n else m)) none

/-- A frame has been sent (R501, R502). -/
def canSent (b : Nat) (s : State) : State :=
  let c := canOf s b
  if c.state ≠ .active ∨ c.integrating then s
  else match canWinner s b with
    | none => s
    | some n =>
      let s := emitOut (.canTx b (txbId s b n) (txbXid s b n) (txbData s b n)) s
      let w := (now s).toNat / 100000
      let s := modCan b (fun c => { c with
        txErr := c.txErr - 1, hostSent := if n < 12 then c.hostSent else if c.hostWin = w then c.hostSent + 1 else 1, hostWin := if n < 12 then c.hostWin else w }) s
      let s := canAnswer b n stOk (le 4 (now s).toNat) (canUnpend b n s)
      canApply b (canEvent b 4 (canCount b 1 s))

/-- A host frame has not been sent within its TMO_MS (R501); nothing for a frame that has none. -/
def canTimeout (b n : Nat) (s : State) : State :=
  if !(canOf s b).pend.contains n ∨ !(canOf s b).jobs.any fun j => j.buffer == n && j.ret.isSome then s
  else canEvent b 8 (canAnswer b n stTimeout (refusalBytes 0xFFFF 0) (canUnpend b n s))

/-- ABORT withdraws a pending buffer (R521). -/
def canAbort (b n : Nat) (s : State) : State :=
  if (canOf s b).pend.contains n then canAnswer b n stTimeout (refusalBytes 0xFFFF 0) (canUnpend b n s) else s

/-- A new frame's identifiers and data are placed in a buffer and requested (R395, R501). -/
def canPlace (b n : Nat) (flags dlc id : Nat) (data : Bytes) (s : State) : State :=
  let s := regSet (txbAddr b n) (word (dlc + 16 * b2n (bit flags 1) + 32 * b2n (bit flags 2) + 64 * b2n (bit flags 0))) s
  let s := regSet (txbAddr b n + 4) (word id) s
  let s := (List.range 16).foldl (fun s w => regSet (txbAddr b n + 8 + 4 * w) (word (at_ data (4 * w) 4)) s) s
  canReq b n s

/-- Failover: pending firmware frames of the faulted controller move to free buffers of the other in their order (R505). -/
def canFailover (b : Nat) (s : State) : State :=
  let o := 1 - b
  let ok := regBit s (canBase 0 + 0x1C) 1 && regBit s (canBase 1 + 0x1C) 1 && regBit s (canBase 0 + 0x1C) 2 && regBit s (canBase 1 + 0x1C) 2 &&
    s.bus.can0.live == s.bus.can1.live && !(canOf s o).faulted
  if !ok then s
  else
    let move := fun (s : State) (n : Nat) =>
      match (List.range 12).find? fun k => !(canOf s o).pend.contains k with
      | none => s
      | some k =>
        let ctl := regGet s (txbAddr b n)
        let fl := b2n (wbit ctl 6) + 2 * b2n (wbit ctl 4) + 4 * b2n (wbit ctl 5)
        canUnpend b n (canPlace o k fl (wfld ctl 0 4) (txbId s b n) (txbData s b n) s)
    modCan b (fun c => { c with failedOver := true }) (((canOf s b).pend.filter (· < 12)).foldl move s)

/-- A transport run on CAN is aborted (R510, R520). -/
def tpAbort (u : Nat) (plc sending : Bool) (s : State) : State :=
  let s := tpDrop u plc sending s
  if plc then raise 0x400D0008 64 (regInc 0x400D0028 16 s) else canEvent 0 512 (canCount 0 9 s)

/-- Bus-off (R504, R505, R520): host frames end HW_FAULT, transport PDUs abort; the third within 10 s is a fault. -/
def canBusOff (b : Nat) (s : State) : State :=
  if (canOf s b).state ≠ .active then s
  else
    let recent := ((canOf s b).boAt.filter fun t => ticksFrom t (now s) ≤ 10000000).take 2
    let s := modCan b (fun c => { c with state := .busOff, txErr := 255, boAt := now s :: recent }) s
    let s := canEvent b 128 (canCount b 6 s)
    let s := ((canOf s b).pend.filter (12 ≤ ·)).foldl (fun s n => canAnswer b n stHwFault (refusalBytes 0xFFFF 0) (canUnpend b n s)) s
    let s := if b = 0 then (s.bus.tp.filter (!·.onPlc)).foldl (fun s r => tpAbort r.unit false r.sending s) s else s
    let s := canApply b s
    if recent.length < 2 then s
    else fault 0x000D 4 b (b2n (regBit s (canBase b + 0x1C) 1) * 6) 0 0 (canFailover b (modCan b (fun c => { c with faulted := true }) s))

/-- The recovery sequence is complete (R504). -/
def canRecover (b : Nat) (s : State) : State :=
  if (canOf s b).state = .busOff ∧ !(canOf s b).faulted then modCan b (fun c => { c with state := .active, txErr := 0, rxErr := 0 }) s else s

/-- RESTART returns a faulted controller (R504). -/
def canRestart (b : Nat) (s : State) : State :=
  if (canOf s b).faulted then
    modCan b (fun c => { c with faulted := false, state := .active, integrating := true, txErr := 0, rxErr := 0, boAt := [] }) s
  else s

/-- 11 consecutive recessive bits (R498, R505). -/
def canIntegrated (b : Nat) (s : State) : State := modCan b (fun c => { c with integrating := false, failedOver := false }) s

/-- The shipped firmware's filters and own identifiers of a controller (R502, R503): the numbers of the filters are a DESIGN CHOICE (log 62). -/
def canFirmware (s : State) : State :=
  let setF := fun (b n : Nat) (id mask rate : Nat) (s : State) =>
    let a := canBase b + 0x400 + 16 * n
    regSet (a + 8) (word (1 + 8 + 16 * rate)) (regSet (a + 4) (word (mask + 2 ^ 29)) (regSet a (word id) s))
  let ib := regFld s 0x40060040 0 1
  let kind := 2 ^ 29 * regFld s 0x40060040 1 1
  let s := if roleOf s = .tractor then setF ib 1 (kind + (regGet s 0x40060044).toNat) (2 ^ 29 - 1) 10 s else s
  let s := if roleOf s = .tractor ∧ regBit s 0x40060040 2 then setF ib 0 (kind + (regGet s 0x4006004C).toNat) (2 ^ 29 - 1) 5 s else s
  let s := if roleOf s = .tractor then regSet (canBase ib + 0x68) (word ((regGet s 0x40060048).toNat + kind + 2 ^ 30)) s else s
  let cpl := (regGet s 0x400C0088).toNat
  let ss := (regGet s 0x400C008C).toNat
  let links := match roleOf s with | .tractor => [0] | .trailer => [0, 1] | .none => []
  let s := links.foldl (fun s b =>
    let s := setF b 3 (ss + 2 ^ 29) 0x1FFFFF00 40 (setF b 2 (cpl + 2 ^ 29) 0x1FFFFF00 120 s)
    let own := fun (i id : Nat) (s : State) => regSet (canBase b + 0x60 + 4 * i) (word (id + 2 ^ 29 + 2 ^ 30)) s
    own 1 (ss + isoAddr s (ownChannel s)) (own 0 (cpl + isoAddr s (ownChannel s)) s)) s
  if roleOf s = .tractor ∧ regFld s 0x40070100 2 2 = 1 then setF 1 4 (wfld (regGet s 0x400C0090) 0 30) (2 ^ 29 - 1) 20 s else s

/-- A start request or an immobiliser challenge, by its identifier and bus (R44, R83, R499). -/
def timedFrame (s : State) (b : Nat) (f : CanFrame) : Bool :=
  let bf : BusFrame := { bus := if b = 0 then 0 else 1, id := f.id, xid := f.xid, fd := f.fd, data := f.data }
  immoMatch s 0x40060044 bf || immoMatch s 0x4006004C bf

/-- Step 3 of R499: filters, own identifiers, the frames of Dawn in order, ACTIVE. -/
def canNoon (s : State) : State :=
  let s := canFirmware s
  let l := s.bus.dawn
  let s := { s with bus := { s.bus with dawn := [] } }
  let one := fun (s : State) (p : Nat × CanFrame) =>
    let x : CanRx :=
      { bus := if p.1 = 0 then 0 else 1, id := p.2.id, xid := p.2.xid, fd := p.2.fd, brs := p.2.brs, esi := p.2.esi, dlc := Fin.ofNat 16 p.2.dlc,
        rtr := false, data := p.2.data, speed := none }
    if timedFrame s p.1 p.2 ∧ 100000 < ticksFrom p.2.ts (now s) then canEvent p.1 256 (canCount p.1 7 s)
    else if canSpoof s x then canEvent p.1 64 (canCount p.1 4 s)
    else canDeliver p.2.ts x s
  let s := l.foldl one s
  [0, 1].foldl (fun s b => modCan b (fun c => { c with state := if c.state = .listen then .active else c.state }) (regPutFld (canBase b) 0 2 2 s)) s

/-- CPL_SPEED is no longer valid (R509). -/
def speedTimeout (s : State) : State := regPutFld 0x4007011C 18 1 0 s

/-! ### The coupling transport's receiving side (R510, R513) -/

/-- An acknowledgement goes out: SN of the next frame expected and STATUS. -/
def tpAck (u : Nat) (plc : Bool) (sn status : Nat) (s : State) : State :=
  tpFrame plc 4 (byte (0xC0 + sn % 64)) u (byte status :: (if plc then [] else zeros 5)) s

/-- A first or consecutive frame (R510, R513): a PDU that is complete goes to its coupling. -/
def tpReceive (f : TpFrame) (s : State) : State :=
  let u := f.unit.val + 1
  let kind := f.seg.toNat / 64
  let sn := f.seg.toNat % 64
  if !(cplUnits s).contains u then s
  else if kind = 1 then
    let total := at_ f.body 0 2
    if total < 14 ∨ 2054 < total ∨ sn ≠ 0 then tpDrop u f.plc false s
    else tpPut { unit := u, onPlc := f.plc, sending := false, length := total, data := f.body.drop 2, next := 1, resent := false } s
  else if kind = 2 then
    match tpRunOf s u f.plc false with
    | none => s
    | some r =>
      if sn ≠ r.next % 64 then tpAck u f.plc r.next 2 (tpAbort u f.plc false s)
      else
        let data := (r.data ++ f.body).take r.length
        if r.length ≤ data.length then
          cplAssembled f.unit f.plc data (tpAck u f.plc (r.next + 1) 1 (tpDrop u f.plc false s))
        else
          let s := tpPut { r with data := data, next := r.next + 1 } s
          if r.next % (tpSizes f.plc).2.2 = 0 then tpAck u f.plc (r.next + 1) 0 s else s
  else s

/-- An acknowledgement (R510): the next block, the end, or an abort. One that does not name the next frame changes nothing. -/
def tpAcked (u : Nat) (plc : Bool) (sn status : Nat) (s : State) : State :=
  match tpRunOf s u plc true with
  | none => s
  | some r =>
    if status = 1 then tpDrop u plc true s
    else if status = 2 then tpAbort u plc true s
    else if status = 0 ∧ sn = r.next % 64 ∧ r.next ≤ tpCount plc r.length then
      let e := blockEnd plc r.length r.next
      tpSend r r.next e (tpPut { r with next := e + 1, resent := false } s)
    else s

/-- A gap between the frames of one PDU (R510). -/
def tpGap (u : Nat) (plc : Bool) (s : State) : State := if (tpRunOf s u plc false).isSome then tpAbort u plc false s else s

/-- No acknowledgement in time (R510): the block is resent once, then the PDU aborts. -/
def tpSilent (u : Nat) (plc : Bool) (s : State) : State :=
  match tpRunOf s u plc true with
  | none => s
  | some r =>
    if r.resent then tpAbort u plc true s
    else
      let bs := (tpSizes plc).2.2
      let a := if r.next ≤ bs + 1 then 0 else (r.next - 2) / bs * bs + 1
      tpSend r a (r.next - 1) (tpPut { r with resent := true } s)

/-! ### J2497 (R511–R514, R525) -/

/-- OWN_MID. -/
def ownMid (s : State) : Nat := regFld s 0x400D000C 0 8

/-- A received J2497 message (R511, R513, R514): checksum, spoof, limit, then the queue of 8. A trailer passes coupling messages of others on (R206). -/
def plcReceive (f : PlcRx) (s : State) : State :=
  let mid := byteAt f.data 0
  if !regBit s 0x400D0000 0 ∨ s.power.state = .dusk then s
  else if !f.ok then raise 0x400D0008 8 (regInc 0x400D001C 16 s)
  else if mid = ownMid s ∧ mid ≠ 0 then raise 0x400D0008 32 (regInc 0x400D0024 16 s)
  else
    let sec := (now s).toNat / 1000000
    let n := match s.bus.midCount.find? (·.1 == mid) with | some (_, w, k) => if w = sec then k else 0 | none => 0
    let s := { s with bus := { s.bus with midCount := (mid, sec, n + 1) :: s.bus.midCount.filter (·.1 != mid) } }
    if 30 ≤ n then raise 0x400D0008 16 (regInc 0x400D0020 16 s)
    else
      let s := regInc 0x400D0014 16 s
      let s := if 8 ≤ s.bus.plcRx.length then regInc 0x400D002C 16 s
        else raise 0x400D0008 1 { s with bus := { s.bus with plcRx := s.bus.plcRx ++ [{ mid := mid, prio := 0, data := f.data, ts := now s }] } }
      if roleOf s = .trailer ∧ byteAt f.data 1 = 0xFE ∧ byteAt f.data 3 ≠ 0 ∧ byteAt f.data 4 % 16 ≠ ownChannel s ∧ byteAt f.data 4 / 16 ≠ ownChannel s then
        emitOut (.plcTx mid f.data) s
      else s

/-- A message waits for the bus (R513, R525). -/
def plcQueue (mid prio : Nat) (data : Bytes) (host : Option ReplyTo) (s : State) : State :=
  { s with bus := { s.bus with plcTx := s.bus.plcTx ++ [{ msg := { mid := mid, prio := prio, data := data, ts := now s }, host := host }] } }

/-- TX_REQ: the message of the transmit registers (R525); PRIO 0 stands for 8 (log 41). -/
def plcTxReq (s : State) : State :=
  let n := regFld s 0x400D0030 0 5
  if n = 0 then s
  else
    let data := (((List.range 6).map fun w => le 4 (regGet s (0x400D0034 + 4 * w)).toNat).flatten).take n
    let p := regFld s 0x400D000C 8 3
    plcQueue (byteAt data 0) (if p = 0 then 8 else p) data none s

/-- The queued message that gets the bus: the best priority, the oldest of those. -/
def plcWinner (s : State) : Option PlcJob :=
  s.bus.plcTx.foldl (fun (best : Option PlcJob) j => match best with
    | none => some j
    | some b => some (if j.msg.prio < b.msg.prio then j else b)) none

/-- A message leaves the queue. -/
def plcErase (j : PlcJob) (s : State) : State := { s with bus := { s.bus with plcTx := s.bus.plcTx.erase j } }

/-- A queued message has been sent (R525). -/
def plcSent (s : State) : State :=
  match plcWinner s with
  | none => s
  | some j =>
    let s := raise 0x400D0008 2 (regInc 0x400D0018 16 (emitOut (.plcTx j.msg.mid j.msg.data) (plcErase j s)))
    match j.host with
    | some r => reply r stOk [] s
    | none => s

/-- The oldest message has waited 1.0 s for the bus (R395, R513). -/
def plcTimeout (s : State) : State :=
  match s.bus.plcTx with
  | [] => s
  | j :: _ =>
    let s := raise 0x400D0008 4 (regInc 0x400D002C 16 (plcErase j s))
    match j.host with
    | some r => refuse r stTimeout 0xFFFF 0 s
    | none => s

/-- POP: the head received message is removed (R525). -/
def plcPop (s : State) : State := { s with bus := { s.bus with plcRx := s.bus.plcRx.tail } }

/-! ### LIN (R515–R517, R525) -/

/-- A field of LIN_SLOTk. -/
def slotFld (s : State) (k lo n : Nat) : Nat := regFld s (0x400E0020 + 4 * k) lo n

/-- LIN_DATA as bytes. -/
def linData (s : State) : Bytes := le 4 (regGet s 0x400E0070).toNat ++ le 4 (regGet s 0x400E0074).toNat

/-- LIN_DATA takes a frame's bytes. -/
def setLinData (b : Bytes) (s : State) : State :=
  let b := fit 8 b
  regSet 0x400E0074 (word (at_ b 4 4)) (regSet 0x400E0070 (word (at_ b 0 4)) s)

/-- Doors read through a PID (R516). -/
def doorsOf (s : State) (pid : Nat) : List Nat :=
  (List.range 4).filter fun n => regBit s (0x400E0060 + 4 * n) 14 && regFld s (0x400E0060 + 4 * n) 0 6 == pid

/-- Touch bits of a correct response: a bit that rises between two correct responses triggers its door (R44, R516). -/
def linTouch (pid : Nat) (b : Bytes) (s : State) : State :=
  (doorsOf s pid).foldl (fun s n =>
    let a := 0x400E0060 + 4 * n
    let bitNow := bit (byteAt b (regFld s a 8 3)) (regFld s a 11 3)
    let was := (s.bus.touch.find? (·.1 == n)).map (·.2)
    let s := { s with bus := { s.bus with touch := (n, bitNow) :: s.bus.touch.filter (·.1 != n), silent := s.bus.silent.filter (·.1 != n) } }
    if bitNow ∧ was = some false then trigger (mkTrigger .lin .door (some n) s) (raise 0x400E0008 (32 * 2 ^ n) s) else s) s

/-- A silent slot: three in a row for one door raise a fault record (R516; detector DESIGN CHOICE, log 61). -/
def linSilent (pid : Nat) (s : State) : State :=
  let s := raise 0x400E0008 2 (regInc 0x400E0010 16 s)
  (doorsOf s pid).foldl (fun s n =>
    let k := ((s.bus.silent.find? (·.1 == n)).map (·.2)).getD 0 + 1
    let s := { s with bus := { s.bus with silent := (n, k) :: s.bus.silent.filter (·.1 != n) } }
    if k = 3 then fault 0 3 n 0 0 (word pid) s else s) s

/-- A subscribed frame's answer (R516): the answer a host waits for, if any. -/
def linAnswer (pid len : Nat) (x : LinAnswer) (host : Option ReplyTo) (s : State) : State :=
  let give := fun (st : Byte) (b : Bytes) (s : State) => match host with | some r => reply r st b s | none => s
  match x with
  | .silent => give stTimeout (refusalBytes 0xFFFF 0) (linSilent pid s)
  | .badSum => give stHwFault (refusalBytes 0xFFFF 0) (raise 0x400E0008 4 (regInc 0x400E0014 16 s))
  | .data b =>
    if b.length ≠ len then give stHwFault (refusalBytes 0xFFFF 0) (raise 0x400E0008 4 (regInc 0x400E0014 16 s))
    else give stOk b (linTouch pid b (raise 0x400E0008 1 (setLinData b s)))

/-- A frame slot of the commander (R516): a transfer that waits takes its place, otherwise the schedule's slot runs. -/
def linSlot (x : LinAnswer) (s : State) : State :=
  if !regBit s 0x400E0000 1 ∨ regBit s 0x400E0000 0 then s
  else match s.bus.linJob with
    | j :: rest =>
      let s := { s with bus := { s.bus with linJob := rest } }
      if j.publish then
        let s := raise 0x400E0008 1 (emitOut (.linTx j.pid j.data) s)
        match j.host with | some r => reply r stOk [] s | none => s
      else linAnswer j.pid.toNat j.len x j.host s
    | [] =>
      let k := if slotFld s s.bus.linSlot 12 8 = 0 then 0 else s.bus.linSlot
      if !regBit s 0x400E0000 2 ∨ slotFld s k 12 8 = 0 ∨ s.power.state = .dusk then s
      else
        let pid := slotFld s k 0 6
        let s := { s with bus := { s.bus with linSlot := if k = 15 then 0 else k + 1 } }
        if slotFld s k 6 1 = 0 then raise 0x400E0008 1 (emitOut (.linTx (byte pid) ((linData s).take (slotFld s k 8 4))) s)
        else linAnswer pid (slotFld s k 8 4) x none s

/-- GO: one frame is requested (R516, R525). -/
def linGo (s : State) : State :=
  let v := regGet s 0x400E0078
  let j : LinJob :=
    { pid := byte (wfld v 0 6), publish := !wbit v 6, enh := wbit v 7, len := wfld v 8 4, data := (linData s).take (wfld v 8 4), host := none }
  { s with bus := { s.bus with linJob := s.bus.linJob ++ [j] } }

/-- A commander's header in the responder role (R515): the slot that names its PID answers or receives. -/
def linHeader (pid : Nat) (sync : Bool) (x : LinAnswer) (s : State) : State :=
  if !regBit s 0x400E0000 1 ∨ !regBit s 0x400E0000 0 then s
  else if !sync then raise 0x400E0008 8 (regInc 0x400E0018 16 s)
  else match (List.range 16).find? fun k => slotFld s k 12 8 != 0 && slotFld s k 0 6 == pid with
    | none => s
    | some k =>
      if slotFld s k 6 1 = 0 then raise 0x400E0008 1 (emitOut (.linTx (byte pid) ((linData s).take (slotFld s k 8 4))) s)
      else linAnswer pid (slotFld s k 8 4) x none s

/-- A LIN wake-up in Dusk (R517): E7 restarts the schedule, and the first touch read triggers. -/
def linWake (s : State) : State :=
  if s.power.state ≠ .dusk then s
  else
    raise 0x400E0008 16 { (exitDusk s) with bus := { s.bus with
      wakeSeen := true, linSlot := 0, touch := (List.range 4).map fun n => (n, false), silent := [] } }

/-! ### Bluetooth LE connections (R518) -/

/-- A phone connects: an ACTIVE PH record without a connection, eight connections at most. -/
def leConnect (r : Nat) (central : Bool) (s : State) : State :=
  let ph := (s.acc.tokens.any fun t => t.index == r && t.cls == .ph && t.state == .active) || s.acc.enrol.any fun e => e.record == r && e.cls == .ph
  if !ph ∨ s.bus.conns.any (·.record == r) ∨ 8 ≤ s.bus.conns.length then s
  else { s with bus := { s.bus with conns := s.bus.conns ++ [{ record := r, missed := 0, central := central }] } }

/-- A phone that a running decision awaited is absent (R58, R518). -/
def leAbsent (r : Nat) (s : State) : State :=
  match s.acc.decision with
  | some d =>
    if d.phones.any (·.1 == r) then decNext (modDec (fun d => { d with phones := d.phones.filter (·.1 != r) }) s) else s
  | none => s

/-- A connection event of a phone, skipped while chain H is in DUPLEX (R175, R198): missed, or kept; `lost` ends the connection at its supervision timeout (R58, R518). -/
def leEvent (r : Nat) (missed lost : Bool) (s : State) : State :=
  if !s.bus.conns.any (·.record == r) || s.rad.hTx == .duplex then s
  else if lost then leAbsent r { s with bus := { s.bus with conns := s.bus.conns.filter (·.record != r) } }
  else
    let s := { s with bus := { s.bus with
      conns := modAll (·.record == r) (fun c => { c with missed := if missed then c.missed + 1 else 0 }) s.bus.conns } }
    match s.acc.decision with
    | some d =>
      match d.phones.find? (·.1 == r) with
      | some (_, n) =>
        if n ≤ 1 then leAbsent r s else modDec (fun d => { d with phones := d.phones.map fun p => if p.1 = r then (r, n - 1) else p }) s
      | none => s
    | none => s

/-! ### Views (R521, R525) -/

/-- Number of a controller's state. -/
def CanState.code : CanState → Nat
  | .config => 0 | .listen => 1 | .active => 2 | .busOff => 3

/-- A word of the head frame of a FIFO. -/
def fifoWord (l : List CanFrame) (off : Nat) : Nat :=
  match l with
  | [] => 0
  | f :: _ =>
    if off = 0 then f.ts.toNat
    else if off = 4 then f.id + 2 ^ 29 * b2n f.xid + 2 ^ 30 * b2n f.fd + 2 ^ 31 * b2n f.brs
    else if off = 8 then f.dlc + 16 * f.filter + 1024 * b2n f.esi
    else at_ f.data (off - 12) 4

/-- CAN registers that show state (R521). -/
def canView (s : State) (off : Nat) : Option Nat :=
  let c := canOf s (off / 0x4000)
  let o := off % 0x4000
  if 0xE00 ≤ o ∧ o < 0xEC0 then some (fifoWord (if o < 0xE60 then c.rx0 else c.rx1) ((o - 0xE00) % 0x60))
  else match o with
    | 0x004 => some (c.state.code + 4 * b2n c.staged.isSome + 8 * b2n c.faulted + 16 * b2n c.failedOver + 32 * min 255 c.txErr + 8192 * min 255 c.rxErr)
    | 0x014 => some c.live.1.toNat
    | 0x018 => some c.live.2.toNat
    | 0x050 => some (c.rx0.length + 64 * b2n c.ovf0)
    | 0x054 => some (c.rx1.length + 64 * b2n c.ovf1)
    | 0x058 => some (flagsWord (c.pend.map fun n => (n, true)))
    | _ => none

/-- PLC registers that show state (R525). -/
def plcView (s : State) (off : Nat) : Option Nat :=
  let h := s.bus.plcRx.head?
  if off = 4 then some (2 * b2n (s.bus.plcTx != []) + 4 * s.bus.plcRx.length)
  else if off = 0x4C then some (match h with | some m => m.data.length + 256 * (m.ts.toNat % 2 ^ 24) | none => 0)
  else if 0x50 ≤ off ∧ off < 0x68 then some (match h with | some m => at_ m.data (off - 0x50) 4 | none => 0)
  else none

/-- LIN registers that show state (R525). -/
def linView (s : State) (off : Nat) : Option Nat :=
  if off = 4 then some (b2n (s.bus.linJob != []) + 2 * s.bus.linSlot + 32 * b2n s.bus.wakeSeen) else none

end Sys2Proof.Machine
end

