-- ==== Sys2Proof/Machine/Views.lean ====
section
/-! DEFINITION. Registers whose value the state gives: status and view registers of SYS, HIF, KST, NVM, ENG, GPIO, SAF and CRY.
A function answers none for a register that the register file itself holds. -/
namespace Sys2Proof.Machine

/-- SYS (R568, R569). -/
def sysView (s : State) (off : Nat) : Option Nat :=
  let p := s.power
  match off with
  | 0x004 => some (Config.deviceUid.toNat % 2 ^ 32)
  | 0x008 => some (Config.deviceUid.toNat / 2 ^ 32)
  | 0x00C => some ((match p.state with
      | .noon => 1 | .dusk => 2 | _ => 0) +
      flagsWord [(3, regBit s 0x4000000C 3), (4, p.state == .bootFail), (5, regBit s 0x4000000C 5), (6, regBit s 0x4000000C 6),
        (7, p.vddioOk), (8, regBit s 0x4000000C 8), (9, p.duskDue)])
  | 0x014 => some (p.cause + 256 * p.prev + 65536 * b2n p.saveOk)
  | 0x018 => some p.resets
  | 0x028 => some p.rtc.toNat
  | 0x02C => some p.rtcSub
  | 0x034 => some (flagsWord [(0, p.pll), (1, p.pll), (2, p.rtcRun), (3, p.rtcValid), (4, p.xoFails != 0), (5, regBit s 0x40000034 5),
      (6, p.state == .dusk)])
  | 0x038 => some ((Config.analog (0x038 + 2 ^ 12 * p.clkUs.toNat)).toNat % 2 ^ 13)
  | 0x03C => some (p.vlfMv % 65536)
  | 0x040 => some ((Config.analog (0x040 + 2 ^ 12 * p.clkUs.toNat)).toNat % 2 ^ 11)
  | 0x044 => some ((Config.analog (0x044 + 2 ^ 12 * p.clkUs.toNat)).toNat % 2 ^ 11)
  | 0x048 => some (s.lf.pcore % 2 ^ 11)
  | _ => none

/-- HIF_OUTQ of a port (R364). -/
def outqWord (p : PortState) : Nat :=
  (8192 - (p.outq.map OutPkt.size).sum) + 2 ^ 14 * min 63 p.outq.length

/-- HIF (R364). -/
def hifView (s : State) (off : Nat) : Option Nat :=
  let l := s.link
  match off with
  | 0x004 => some (flagsWord [(0, s.power.state == .dawn || s.power.state == .bootFail), (1, l.e0Restart), (2, l.hcs0.outq != []), (3, rxReady l.hcs0),
      (4, v1Ready s), (5, l.lostHcs0.1 != 0)])
  | 0x018 => some (outqWord l.hcs0)
  | 0x01C => some (outqWord l.uart)
  | 0x020 => some l.dawnq.length
  | _ => none

/-- KST_SLOTs_INFO (R297). -/
def slotInfo (s : State) (i : Nat) : Nat :=
  match slotOf s i with
  | none => 0
  | some x =>
    let h := x.header
    let owner := if i ≤ 8 then 1 else if i = 9 then 2 else if i = 10 then 1 else if i = 11 then 3 else if i < 40 then 0 else 4
    1 + 2 * b2n x.busy + 4 * b2n (bit h.attr 2) + 16 * (x.ktype % 16) + 256 * (x.usage % 128) +
    flagsWord [(15, bit h.attr 0), (16, bit h.attr 1), (17, bit h.attr 4), (18, bit h.attr 3), (24, h.epochIdx != 0xFF)] +
    (if h.epochIdx = 0xFF then 0 else 2 ^ 19 * (h.epochIdx % 32)) + 2 ^ 25 * owner

/-- Occupied slots as a number with bit s for slot s. -/
def slotMask (s : State) (f : Slot → Bool) : Nat := (s.ks.slots.filter f).foldl (fun a x => a ||| 2 ^ x.index) 0

/-- Word `k` of a coordinate of the attestation public key, least significant word first (R293). -/
def attPubWord (s : State) (y : Bool) (k : Nat) : Nat :=
  match s.ks.attD with
  | none => 0
  | some d => beNat (slice (pubOf d) (if y then 32 else 0) 32) / 2 ^ (32 * k) % 2 ^ 32

/-- KST (R293–R297). -/
def kstView (s : State) (off : Nat) : Option Nat :=
  let k := s.ks
  if off = 0x004 then some (kstStatus s)
  else if off = 0x00C then
    some ((match k.root with
      | .blank => 0 | .committed => 1 | .failed => 2 | .eccFail => 3) + 4 * ((activeSet k.sets).getD 3) +
      flagsWord ((k.sets.zipIdx.map fun r => (4 + r.2, r.1.void)) ++ (k.sets.zipIdx.map fun r => (7 + r.2, r.1.commit)) ++ [(10, k.corr)]))
  else if off = 0x010 then
    some (flagsWord [(0, k.testRoot), (1, k.fuse), (2, k.unlock), (3, k.unlock != k.unlockNext)] + 256 * (((ctrRead s 34).getD 0) % 2 ^ 24))
  else if off = 0x028 then some (slotMask s (fun _ => true) % 2 ^ 32)
  else if off = 0x02C then some (slotMask s (fun _ => true) / 2 ^ 32)
  else if off = 0x030 then some (slotMask s (·.busy) % 2 ^ 32)
  else if off = 0x034 then some (slotMask s (·.busy) / 2 ^ 32)
  else if 0x040 ≤ off ∧ off < 0x060 then some (attPubWord s false ((off - 0x040) / 4))
  else if 0x060 ≤ off ∧ off < 0x080 then some (attPubWord s true ((off - 0x060) / 4))
  else if 0x100 ≤ off ∧ off < 0x1C0 then some (slotInfo s ((off - 0x100) / 4))
  else if 0x200 ≤ off ∧ off < 0x300 then some (epochOf s ((off - 0x200) / 8) / 2 ^ (32 * ((off - 0x200) / 4 % 2)) % 2 ^ 32)
  else none

/-- Failures since the last success (R315). -/
def pwFails (s : State) : Nat := (ctrRead s 36).getD 0 - s.fer.pwBase

/-- NVM_USRr_CFG (R332). -/
def regionWord (r : Region) : Nat :=
  r.start + 1024 * r.pages + flagsWord [(20, r.rpw), (21, r.wpw), (22, r.enc), (23, r.image), (24, r.runlk), (25, r.wunlk)]

/-- NVM (R327–R332). -/
def nvmView (s : State) (off : Nat) : Option Nat :=
  let f := s.fer
  let degr := (f.pages.filter (·.degraded.isSome)).length
  if off = 0x004 then
    some (flagsWord [(0, regBit s 0x40090004 0), (1, commitBusy s), (2, s.jrn.enabled), (3, s.jrn.recovered), (4, degr != 0),
      (5, s.ks.storage.isSome), (6, decide (8 ≤ pwFails s))])
  else if off = 0x018 then some degr
  else if off = 0x020 then some (jrnStat s)
  else if off = 0x024 then some (s.jrn.nextSeq % 2 ^ 32)
  else if off = 0x028 then some (s.jrn.nextSeq / 2 ^ 32 % 2 ^ 32)
  else if off = 0x02C then
    some (flagsWord ((f.shadow.zipIdx.map fun g => (g.2, g.1.isSome)) ++ (f.shadow.zipIdx.map fun g => (16 + g.2, g.1 == some f.shadowGen))))
  else if off = 0x030 then some f.shadowGen.toNat
  else if off = 0x034 then some (min 255 (pwFails s) + 256 * (if pwFails s < 8 then 0 else (60000000 - min 60000000 f.pwSince + 999999) / 1000000))
  else if 0x040 ≤ off ∧ off < 0x058 then
    some (let p := partitions.getD ((off - 0x040) / 4) (0, 0); p.1 + 65536 * p.2)
  else if 0x080 ≤ off ∧ off < 0x0C0 then some (regionWord (f.regions.getD ((off - 0x080) / 4) .none))
  else none

/-- STATE of an engine (R434). -/
def EngState.code : EngState → Nat
  | .reset => 0 | .loading => 1 | .run => 2 | .siesta => 3 | .halt => 4 | .fault => 5

/-- ENG_Ek_STATUS (R434). -/
def engStatus (e : Engine) : Nat :=
  e.state.code + flagsWord [(3, wbit e.st 7), (4, wbit e.st 8), (5, e.mode12), (6, e.pmemValid), (7, e.wdtStage1), (8, e.wdkBad),
    (9, e.scrub), (10, e.wrRej)]

/-- The head message of an inbound queue. -/
def headMsg (e : Engine) : Message := e.inbox.headD { src := 0, data := [] }

/-- ENG, pages of the engines and the common page (R432–R437). -/
def engView (s : State) (off : Nat) : Option Nat :=
  if off ≥ 0xC000 then
    if off = 0xC010 then some ((List.range 8).foldl (fun a k => a + 16 ^ k * (engOf s (engNo k)).state.code) 0)
    else if off = 0xC014 then some ((List.range 4).foldl (fun a k => a + 16 ^ k * (engOf s (engNo (8 + k))).state.code) 0)
    else none
  else
    let k := engNo (off / 0x1000)
    let e := engOf s k
    let o := off % 0x1000
    match o with
    | 0x000 => some (4 * b2n e.mode12 + (if isOem k then 8 * b2n (regBit s (engAddr k 0) 3) else 8) + 16 * b2n (regBit s (engAddr k 0) 4))
    | 0x004 => some (engStatus e)
    | 0x008 => some e.pc.toNat
    | 0x00C => some e.st.toNat
    | 0x010 => some e.tpc.toNat
    | 0x014 => some e.tst.toNat
    | 0x018 => some e.tcause.toNat
    | 0x01C => some e.tval.toNat
    | 0x020 => some e.epc.toNat
    | 0x024 => some e.est.toNat
    | 0x030 => some e.evtPend.toNat
    | 0x058 => some (e.loadWords % 65536 + 65536 * (e.loadUc % 1024) + 2 ^ 26 * b2n e.loadOk + 2 ^ 27 * e.loadSrc)
    | 0x074 => some (e.txResult + 4 * e.lastDest)
    | 0x078 => some (e.inbox.length + 8 * (headMsg e).data.length + 1024 * (headMsg e).src)
    | _ => if 0x0C0 ≤ o ∧ o < 0x100 then some (at_ (fit 64 (headMsg e).data) (o - 0x0C0) 4) else none

/-- The levels of the pads as one number. -/
def padLevels (s : State) : Nat := flagsWord (s.pins.gpio.zipIdx.map fun p => (p.2, p.1))

/-- GPIO (R610). -/
def gpioView (s : State) (off : Nat) : Option Nat :=
  if off = 0x060 then some (if s.power.vddioOk then padLevels s else 0) else none

/-- SAF_STATUS (R543). -/
def safStatus (s : State) : Nat :=
  let f := s.saf
  flagsWord [(0, f.raw != 0), (1, f.latched != 0), (2, s.ks.state == .lockdown), (3, s.ks.state == .tamperHold), (4, f.vigil != 0),
    (5, f.inject.isSome), (6, s.acc.sloFault), (9, f.record != 0)] + 128 * min 2 f.banksOut.length

/-- SAF (R542, R543). -/
def safView (s : State) (off : Nat) : Option Nat :=
  let f := s.saf
  match off with
  | 0x000 => some (safStatus s)
  | 0x008 => some f.raw.toNat
  | 0x00C => some f.latched.toNat
  | 0x010 => some f.first
  | 0x014 => some f.firstAt.toNat
  | 0x01C => some (f.clears % 65536 + 65536 * b2n s.ks.tamperHistory)
  | 0x020 => some (f.vigil.toNat % 128 + 256 * f.vigilN)
  | 0x024 => some f.vigilAt.toNat
  | 0x028 => some (f.banksOut.foldl (fun a b => a ||| 2 ^ b) 0 + (match f.banksOut.getLast? with
      | some b => 65536 * b + 2 ^ 20
      | none => 0))
  | 0x03C => some (f.nextSeq % 65536 + 65536 * f.faults.length)
  | _ => none

/-- CRY (R614, R615). -/
def cryView (s : State) (off : Nat) : Option Nat :=
  let c := s.cry
  match off with
  | 0x004 => some (flagsWord [(0, c.queue != []), (5, c.drbgOk), (6, c.trngOk), (7, c.halt)] + 2 * c.queue.length)
  | 0x01C => some (c.gen % 8192)
  | _ => none

end Sys2Proof.Machine
end

