-- ==== Sys2Proof/Machine/Cry.lean ====
section
/-! DEFINITION. The CRY accelerator beside the operations that the key store uses it for (R465, R614–R616). -/
namespace Sys2Proof.Machine

/-- The DRBG is reseeded from the TRNG (R616). -/
def reseed (s : State) : State := raise 0x40110008 8 (regInc 0x40110020 16 { s with cry := { s.cry with gen := 0, reseedDue := false } })

/-- CRYI: a command word joins the queue of 8; with the queue full it is lost (DESIGN CHOICE, log 63). -/
def cryIssue (w : Word) (s : State) : State :=
  if s.cry.queue.length ≥ 8 then s else { s with cry := { s.cry with queue := s.cry.queue ++ [w] } }

/-- The word that CRYS reads. -/
def cryStatus (s : State) : Word := word ((cryView s 4).getD 0)

/-- The command at the head of the queue completes (R614): `code` as CRY_ERR has it, 0 for success, the slot it names, and which counter counts it: 0 AES, CMAC,
GCM and KW, 1 SHA-256 and HMAC, 2 P-256, 3 a DRBG request. While randomness is halted a DRBG request ends with code 6. -/
def cryDone (code slot kind : Nat) (s : State) : State :=
  match s.cry.queue with
  | [] => s
  | w :: rest =>
    let code := if kind = 3 ∧ s.cry.halt then 6 else code
    let s := regSet 0x4011002C w { s with cry := { s.cry with queue := rest } }
    let s := match kind with
      | 0 => regInc 0x40110010 32 s
      | 1 => regInc 0x40110014 32 s
      | 2 => regInc 0x40110018 16 s
      | _ => if code = 0 then generate 0 s else s
    let s := if s.cry.reseedDue then reseed s else s
    if code = 0 then raise 0x40110008 1 s else raise 0x40110008 2 (regSet 0x4011000C (word (code % 256 + 256 * (slot % 64))) s)

/-- CRY_CTRL.RESEED: at once, or after the generate request that runs (R616). -/
def cryReseed (s : State) : State := if s.cry.queue = [] then reseed s else { s with cry := { s.cry with reseedDue := true } }

/-- Health failures within the last 60 s, in CLK_US ticks. -/
def recentFails (s : State) : List Word := s.cry.failAt.filter fun t => decide (ticksFrom t (now s) < 60000000)

/-- A continuous health test fails (R616): `rct` for the repetition count test. -/
def healthFail (rct : Bool) (s : State) : State :=
  let s := regInc (if rct then 0x40110024 else 0x40110028) 8 s
  raise 0x40110008 4 { s with cry := { s.cry with halt := true, failAt := if 3 ≤ s.cry.failAt.length then s.cry.failAt else now s :: recentFails s } }

/-- The start-up tests that RETEST asks for end (R616): a pass clears HALT and reseeds, unless three failures fell within 60 s. -/
def retestEnd (pass : Bool) (s : State) : State :=
  if pass ∧ s.cry.failAt.length < 3 then reseed { s with cry := { s.cry with halt := false, trngOk := true } } else s

end Sys2Proof.Machine
end

