-- ==== Sys2Proof/Machine/Resume.lean ====
section
/-! DEFINITION. What a hung engine or a lost SRAM bank does to accepted work: the engines that serve a command, work parked at its last boundary, decisions put back
(R13, R27, R29, R31–R33, R41, R43). -/
namespace Sys2Proof.Machine

/-- The state with one record of accepted work changed. -/
def modWork (tagged : Bool) (seq : Nat) (f : Work → Work) (s : State) : State :=
  if tagged then { s with jrn := { s.jrn with works := modAll (·.seq == seq) f s.jrn.works } }
  else { s with jrn := { s.jrn with loose := modAll (·.seq == seq) f s.jrn.loose } }

/-- The engines that serve an opcode beside E0 and the journal's E8, by their roles (R13; which engine a step uses is DEDUCED, log 121). -/
def workEngines (op : Nat) : List Nat :=
  if 0x20 ≤ op ∧ op < 0x30 then [8]
  else if 0x30 ≤ op ∧ op < 0x40 then [5]
  else match op with
    | 0x40 => [1] | 0x50 => [2, 3] | 0x52 => [2, 3] | 0x60 => [4] | 0x63 => [4]
    | 0x62 => [1, 2, 3, 4, 5] | 0x70 => [1, 2, 3, 4, 5] | 0x72 => [1, 2, 3, 5] | 0x73 => [5] | 0x74 => [5] | 0x75 => [5]
    | 0x80 => [3, 4, 5, 6, 7] | 0x81 => [5, 6] | 0x84 => [2] | 0x85 => [2] | 0x86 => [2] | 0x87 => [1, 2, 4] | 0x89 => [2] | 0x8C => [2]
    | 0x94 => [6, 7] | 0xA0 => [8] | _ => []

/-- An engine waits for its reload and restart. -/
def engOut (s : State) (n : Nat) : Bool := (engOf s (engNo n)).restartDue

/-- An engine that serves a piece of work, or the journal's E8, restarts: its steps wait (R41). -/
def Work.engineOut (w : Work) (s : State) : Bool := (8 :: workEngines w.opcode.toNat).any (engOut s)

/-! ### What running work holds -/

/-- An attempt goes back to its last boundary (R26): before the boundary of step 4 nothing of it stands and it starts over at step 1, from it on step 5 is due again. -/
def cplPark (u : Nat) (s : State) : State :=
  let s := modUnit u (fun c => { c with work := none, loose := none }) s
  if (unitOf s u).boundary < 4 then
    if (unitOf s u).state = .handshake then modUnit u (fun c => { c with cls := 0 }) (dropSession u (cplClear u s)) else s
  else if (unitOf s u).boundary < 6 then modUnit u (fun c => { c with waiting := .nothing, boundStale := true }) s
  else s

/-- A pass of auto-location is dropped; its internal record stays and runs it anew (R246, R317). -/
def locDrop (s : State) : State :=
  if s.sns.loc.isSome then rngOver (modSensing (fun n => { n with loc := none, locStage := 0 }) (disarm 0 (e1Drop 3 (locRestore s)))) else s

/-- What a running piece of work holds outside its record is given back. -/
def workClean (tagged : Bool) (w : Work) (s : State) : State :=
  match w.opcode.toNat with
  | 0x40 =>
    e1Drop 5 { s with lf := { s.lf with tests := s.lf.tests.filter fun j => !(if tagged then j.work == some w.seq else j.work.isNone && j.loose == some w.seq) } }
  | 0x50 => modRad (fun x => { x with calFor := none }) s
  | 0x72 => if s.acc.enrol.isSome then enrolClean s else s
  | 0x80 => cplPark (byteAt w.payload 0) s
  | 0x87 => locDrop s
  | _ => s

/-- A decision that is running or waiting will answer this work. -/
def heldByDecision (s : State) (tagged : Bool) (w : Work) : Bool :=
  let id : Option Nat × Option Nat := if tagged then (some w.seq, none) else (none, some w.seq)
  ((s.acc.decision.map (·.trig)).toList ++ s.acc.triggers ++ s.acc.waiting).any fun t => t.works.contains id

/-- One running piece of work is halted: tagged work is parked at its last boundary and runs on from there, or completes with HW_FAULT when it can not be staged again
(`lost`); untagged work executes at most once and completes with HW_FAULT (R29, R31, R32, R43). -/
def haltOne (lost tagged : Bool) (w : Work) (s : State) : State :=
  let s := workClean tagged w s
  if tagged && !lost then modWork true w.seq (fun w => { w with ready := none, parked := true }) s
  else if tagged then finishWork w.seq stHwFault (refusalBytes 0xFFFF 0x08) s
  else finishLoose w.seq stHwFault (refusalBytes 0xFFFF 0x08) s

/-- The running work that a loss hits is halted. A write to FeRAM goes on from the commits in flight, so it is left. -/
def haltWorks (lost : Bool) (hit : Work → Bool) (s : State) : State :=
  let one := fun (tagged : Bool) (s : State) (w : Work) =>
    if w.state == .running && !w.parked && w.opcode != 0x21 && hit w && !heldByDecision s tagged w then haltOne lost tagged w s else s
  s.jrn.loose.foldl (one false) (s.jrn.works.foldl (one true) s)

/-! ### Decisions -/

/-- Kinds of trigger that only a host command makes. -/
def hostTrigger (t : Trigger) : Bool := t.kind == .decide || t.kind == .master || t.kind == .range

/-- A running decision is given up and its trigger is first in the queue again, for the tagged work that asked for it (R33, R41). What executes at most once, untagged
work and version 1 (R29), completes with HW_FAULT; a decision that only such commands asked for is not made again. -/
def decHalt (s : State) : State :=
  match s.acc.decision with
  | none => s
  | some d =>
    let kept := d.trig.works.filter (·.1.isSome)
    let t := { d.trig with works := kept, v1 := false }
    let s := modAcc (fun a => { a with
      triggers := if hostTrigger d.trig && kept.isEmpty then a.triggers else t :: a.triggers, decNum := if quietTrigger d.trig then a.decNum else a.decNum - 1 })
      (decClean s)
    let s := (d.trig.works.filter (·.1.isNone)).foldl (fun s w => finishAny w.1 w.2 stHwFault (refusalBytes 0xFFFF 0x08) s) s
    if d.trig.v1 then v1Deliver stHwFault.toNat 0x18 [] s else s

/-- A running decision that can not be staged again ends REFUSED with HW, the work that asked for it with HW_FAULT (R43, R46). -/
def decLost (s : State) : State :=
  match s.acc.decision with
  | none => s
  | some d =>
    let s := refuseDecision rsHw (modDec (fun d => { d with trig := { d.trig with works := [] } }) s)
    d.trig.works.foldl (fun s w => finishAny w.1 w.2 stHwFault (refusalBytes 0xFFFF 0x08) s) s

/-! ### A hung engine, a lost bank (R41, R43) -/

/-- The couplings in steps 1–6 go back to their last boundary (R26). -/
def cplHalt (s : State) : State :=
  s.cpl.units.foldl (fun s c => if c.state = .handshake ∨ (c.state = .trusted ∧ c.waiting ≠ .nothing) then cplPark c.unit s else s) s

/-- An engine that couplings or auto-location use runs again: what its loss took back goes on from its last boundary, once none of the engines it needs is out (R26,
R41, R246). -/
def autoResume (s : State) : State :=
  let s := if (workEngines 0x80).any (engOut s) then s
    else s.cpl.units.foldl (fun s c =>
      if !c.linkUp ∨ c.waiting ≠ .nothing ∨ !(cplUnits s).contains c.unit then s
      else if c.state = .handshake ∧ c.boundary < 4 then cplStart c.unit false s
      else if c.boundStale ∧ 4 ≤ c.boundary ∧ (c.state = .handshake ∨ c.state = .trusted) then cplPump (cplStep5 c.unit s)
      else s) s
  if (workEngines 0x87).any (engOut s) then s else locResume s

/-- E1–E8 hung: decisions that use the engine are put back, an exchange between devices is given up until E4 runs, the engine's work is parked, and couplings and a
pass of auto-location that no command asked for go back to their last boundary (records 0–3 of R317). -/
def engHalt (n : Nat) (s : State) : State :=
  let s := if 1 ≤ n ∧ n ≤ 5 then decHalt s else s
  let s := if n = 4 ∧ s.rng.rbe.any (·.unit.isSome) then modRng (fun r => { r with rbe := none }) (rbeAbort s) else s
  let s := haltWorks false (fun w => (workEngines w.opcode.toNat).contains n) s
  let s := if (workEngines 0x80).contains n then cplHalt s else s
  if (workEngines 0x87).contains n then locDrop s else s

/-- The work that uses a bank of shared SRAM (R16): ranging its capture slots, all running work the queues and the engines' data. -/
def bankHits (b : Nat) (w : Work) : Bool := decide (9 ≤ b ∧ b ≤ 14) || (decide (b ≤ 4) && (w.opcode == 0x62 || w.opcode == 0x70))

/-- A bank is marked out: what used it is staged again from the journal; after the second mark-out it completes with HW_FAULT (R41, R43).
An MCP event that runs at the second mark-out completes in its slots, and its decision goes on (R198). -/
def bankWork (b : Nat) (second : Bool) (s : State) : State :=
  let s := if (b ≤ 4 ∨ (9 ≤ b ∧ b ≤ 14)) ∧ !(second && s.rng.mcp.isSome) then (if second then decLost s else decHalt s) else s
  haltWorks second (bankHits b) s

/-- E0 is lost: running tagged work goes back to its last boundary as a reset leaves it, untagged work completes with HW_FAULT, attempts before the boundary of step
4 are over (R26, R29, R41; log 121). -/
def e0Works (s : State) : State :=
  let s := haltWorks false (fun _ => true) s
  let s := cplHalt s
  let back := fun (w : Work) => if w.state = .running ∧ w.step = 0 ∧ w.opcode ≠ 0x21 then { w with state := .accepted, ready := none, parked := false } else w
  { s with jrn := { s.jrn with works := s.jrn.works.map back } }

end Sys2Proof.Machine
end

