-- ==== Sys2Proof/Machine/Saf.lean ====
section
/-! DEFINITION. Tamper sensors and the tamper response, shared SRAM under SECDED, banks marked out, the opening of the key store (R15, R41, R43, R263, R289,
R526–R532, R538). -/
namespace Sys2Proof.Machine

/-! ### The key store opens (R263, R278, R289, R294, R295) -/

/-- The open sequence: shares, derived keys, scrub (R263). A blank, failed or unreadable root leaves it closed; a tamper record, the Vigil latch or a sensor
that asserts leads to LOCKDOWN (R530). -/
def ksOpen (spare : List Nat) (s : State) : State :=
  if s.saf.record ≠ 0 ∨ s.saf.vigil ≠ 0 ∨ s.saf.raw ≠ 0 then { s with ks := { s.ks with state := .lockdown } }
  else match (if s.ks.testRoot then some 3 else activeSet s.ks.sets) with
    | none => { s with ks := { s.ks with state := .rootFail } }
    | some i =>
      let set := s.ks.sets.getD i { s0 := 0, s1 := 0, programmed := false, commit := false, void := false, eccBad := false, eccCorr := false }
      if set.eccBad then { s with ks := { s.ks with state := .rootFail, root := .eccFail } }
      else
        let q := leNat (peekBytes s 0 32)
        let s := draw 8 { s with ks := { s.ks with shares := some (set.s0 ^^^ q, set.s1 ^^^ q), corr := set.eccCorr, closedByCtrl := false } }
        scrub spare (let s := deriveKeys s; { s with ks := { s.ks with state := .open } })

/-! ### The tamper response (R528–R530) -/

/-- Number of the power state in SAF_TMP_FIRST. -/
def pstateCode (s : State) : Nat := match s.power.state with | .noon => 1 | .dusk => 2 | .midnight => 3 | _ => 0

/-- The TAMPER event (R353). -/
def tamperEvent (s : State) : State := hostEvent 0x31 (le 4 s.saf.latched.toNat ++ [byte s.ks.state.code, 0, 0, 0]) s

/-- The tamper record is committed to CONFIG (R530). -/
def tamperRecord (s : State) : State := regInc 0x4009000C 32 { s with saf := { s.saf with record := s.saf.latched } }

/-- The work is a key operation of the key store (R289): KEY_GEN, KEY_IMPORT, KEY_UPDATE, KEY_DESTROY, EPOCH_INC, and PROVISION of a key. -/
def Work.keyWork (w : Work) : Bool :=
  w.opcode == 0x31 || w.opcode == 0x34 || w.opcode == 0x36 || w.opcode == 0x37 || w.opcode == 0x3B || (w.opcode == 0x3F && byteAt w.payload 0 != 2)

/-- Key work that runs is aborted by a tamper: it ends with TAMPER and is not resumed (R289, R292). -/
def keyTamper (s : State) : State :=
  let hit := fun (w : Work) => w.state == .running && w.keyWork
  let s := (s.jrn.works.filter hit).foldl (fun s w => finishWork w.seq stTamper (refusalBytes 0xFFFF 0) s) s
  (s.jrn.loose.filter hit).foldl (fun s w => finishLoose w.seq stTamper (refusalBytes 0xFFFF 0) s) s

/-- The hardware and firmware steps of R528 in Noon and Dusk. While a response stands the registers are zeroised again (R529); in LOCKDOWN, which began in Dawn, the
hardware steps act for the first time. -/
def tamperNoon (src : Nat) (inj : Bool) (s : State) : State :=
  let s := zeroiseAll s
  if s.ks.state = .tamperHold then tamperEvent (tamperRecord s)
  else if s.ks.state = .lockdown then tamperEvent (tamperRecord (accessTamper (endDue (rbeAbort { s with lf := { s.lf with tamperBlk := true } }))))
  else
    let s := { s with ks := { s.ks with state := .tamperHold }, cry := { s.cry with queue := [] } }
    let s := endDue (rbeAbort { s with lf := { s.lf with tamperBlk := true } })
    let s := tamperRecord (accessTamper (keyTamper <| modRng (fun r => { r with mcp := none, cs := none }) s))
    let s := faultBy inj 3 0x0009 5 src 10 4 s.saf.latched (tamperEvent s)
    locTamper (cplTamper s)

/-- A TAMPER_CLEAR that has been accepted will end with TAMPER (R532). -/
def tamperSeen (s : State) : State :=
  let f := fun (w : Work) => if w.opcode = 0xC2 ∧ w.state ≠ .done then { w with ready := some (stTamper, refusalBytes 0xFFFF 0) } else w
  { s with jrn := { s.jrn with
    works := s.jrn.works.map f, loose := s.jrn.loose.map f, accepting := s.jrn.accepting.map fun a => { a with work := f a.work } } }

/-- One sensor asserts (R528, R529, R541). -/
def tamperOne (src : Nat) (inj : Bool) (s : State) : State :=
  let s := tamperSeen s
  let s := if !inj && s.saf.inject.isSome then injectEnd 4 0 0xFFFF s else s
  let s := regInc 0x40100018 16 s
  let s := if s.saf.latched ≠ 0 then s
    else { s with saf := { s.saf with first := src + 16 * pstateCode s + 64 * b2n inj, firstAt := now s } }
  let s := raise 0x40100004 1 { s with saf := { s.saf with latched := setBit s.saf.latched src } }
  match s.power.state with
  | .noon | .dusk => tamperNoon src inj s
  | .dawn => faultBy inj 3 0x0009 5 src 10 4 s.saf.latched (tamperRecord (zeroiseAll { s with ks := { s.ks with state := .lockdown } }))
  | _ => s

/-- The sensors that assert now (R526): those that newly assert have their response. -/
def tamperSensors (m : BitVec 7) (s : State) : State :=
  let new := (List.range 7).filter fun i => m.getLsbD i && !wbit s.saf.raw i
  new.foldl (fun s i => tamperOne i false s) { s with saf := { s.saf with raw := word m.toNat } }

/-- Vigil in Midnight (R531): latched and counted; the wake into Dawn follows. -/
def vigilLatch (m : BitVec 7) (s : State) : State :=
  let src := m.toNat &&& 0x37
  if s.power.state ≠ .midnight ∨ src = 0 then s
  else { s with saf := { s.saf with
    vigil := s.saf.vigil ||| word src, vigilN := min 255 (s.saf.vigilN + 1), vigilAt := if s.saf.vigilN = 0 then s.power.rtc else s.saf.vigilAt } }

/-! ### Shared SRAM (R15, R41, R43, R538) -/

/-- Bank of an address of shared SRAM. -/
def bankOf (a : Nat) : Nat := (a - 0x10000000) / 0x40000

/-- A bank is marked out (R41, R43): its contents, the history and the captures in it among them, are lost, work that used it is staged again or over; a second one leaves four capture slots. -/
def bankOut (b : Nat) (s : State) : State :=
  if s.saf.banksOut.contains b ∨ 2 ≤ s.saf.banksOut.length then s
  else
    let s := { s with sram := s.sram.filter fun c => bankOf c.1 != b, saf := { s.saf with banksOut := s.saf.banksOut ++ [b] } }
    let s := modSensing (fun n => { n with
      sensors := modAll (fun x => bankOf (histBase x.index) == b) (fun x => { x with histNext := 0 }) n.sensors }) s
    let s := if s.saf.banksOut.length = 2 then modRng (fun r => { r with slots := 4 }) s else s
    raise 0x40100004 16 (bankWork b (s.saf.banksOut.length == 2) s)

/-- The live SRAM injection that has corrupted a word: its address and whether two bits are flipped. -/
def sramHit (s : State) (a n : Nat) : Option (Nat × Bool) :=
  match s.saf.inject with
  | some i =>
    if i.detector = 1 ∧ i.acted then
      match i.addr with
      | some x => if x < a + n ∧ a < x + 4 then some (x, bit i.param 14) else none
      | none => none
    else none
  | none => none

/-- A read of shared SRAM: its bytes, none when the word read holds an uncorrectable error, which marks its bank out (R538). -/
def sramRead (a n : Nat) (s : State) : Option Bytes × State :=
  match sramHit s a n with
  | some (x, false) => (some (memGet s.sram a n), faultBy true 1 0x0001 1 (bankOf x) 1 0 (word x) (regInc 0x40100044 16 s))
  | some (x, true) =>
    let two : Bool := !s.saf.banksOut.isEmpty
    let s := bankOut (bankOf x) (regInc 0x40100048 16 s)
    (none, faultBy true 3 0x0001 (if two then 3 else 2) (bankOf x) 4 0 (word x) s)
  | none => (some (memGet s.sram a n), s)

/-- A write of shared SRAM; a live injection of its bank corrupts the word (R538). -/
def sramWrite (a : Nat) (bs : Bytes) (s : State) : State :=
  let s := match s.saf.inject with
    | some i =>
      if i.detector = 1 ∧ i.acted ∧ i.addr.isNone ∧ bs ≠ [] ∧ bankOf a = i.param % 16 then { s with saf := { s.saf with inject := some { i with addr := some (a / 4 * 4) } } }
      else s
    | none => s
  { s with sram := memSet s.sram a bs }

end Sys2Proof.Machine
end

