-- ==== Sys2Proof/Machine/EngCore.lean ====
section
/-! DEFINITION. The Jorsol engines beside their instructions: trap entry, mailboxes, watchdog kicks, run and Siesta actions,
microcode and image loading (chapter 12). -/
namespace Sys2Proof.Machine

/-- Address of a register in an engine's own page. -/
def engReg (s : State) (k : Fin 12) (off : Nat) : Word := regGet s (engAddr k off)

/-- ST with its MODE12 mirror (R402). -/
def stMirror (m12 : Bool) (st : Word) : Word := setFld st 9 1 (b2n m12)

/-- The general registers after an engine reset: the stack pointer at 0x8000, G14, or G7 in Jorsol-12 mode (R401). -/
def blankRegs (m12 : Bool) : Vector Word 16 := if m12 then (Vector.replicate 16 0).set 7 0x8000 else (Vector.replicate 16 0).set 14 0x8000

/-- An engine in RESET takes its instruction set (R402, R403). -/
def setMode12 (m12 : Bool) (e : Engine) : Engine := { e with mode12 := m12, st := stMirror m12 e.st, g := blankRegs m12 }

/-- TM of an engine (R402). -/
def engTm (e : Engine) : Bool := wbit e.st 7
/-- EVM of an engine. -/
def engEvm (e : Engine) : Bool := wbit e.st 8

/-- What a trap saves (R413, R414, R445): its cause, TVAL, TLEN, DETAIL, the n of a TRAP, and the PC saved. -/
structure EngTrap where
  cause  : Nat
  tval   : Word
  tlen   : Nat
  detail : Nat
  n      : Nat
  pc     : Half
  deriving DecidableEq, Repr

/-- The vector of a cause (R413): UND, RSV, BND, ALN, MEM, ECC, DZ, WDT in order, SWT at 0x0014. -/
def trapVector (cause : Nat) : Half := if cause = 8 then 0x0014 else BitVec.ofNat 16 (2 * cause)

/-- TCAUSE of a trap (R435). -/
def tcauseOf (t : EngTrap) : Word := word (t.cause + 16 * t.n + 256 * t.tlen + 1024 * t.detail)

/-- Trap entry (R414): counted in FAULT_CNT. -/
def trapEnter (k : Fin 12) (t : EngTrap) (s : State) : State :=
  let s := modEng k (fun e =>
    { e with tpc := t.pc, tst := e.st, tcause := tcauseOf t, tval := t.tval, st := setFld (setFld e.st 7 1 1) 6 1 0,
             pc := trapVector t.cause }) s
  regCount (engAddr k 0x54) 0 16 1 s

/-! ### Mailboxes (R421, R422) -/

/-- RESULT of a SEND, by its number in TXSTAT (R437). -/
abbrev SendResult := Nat

/-- A message is posted from an endpoint to an endpoint (R421): its RESULT and the state. A message for the host stands in the queue
that its sender has for the host. -/
def mboxPost (src dest : Nat) (data : Bytes) (s : State) : SendResult × State :=
  if data.isEmpty then (0, s)
  else if 9 ≤ src ∧ src ≤ 11 ∧ !([0, 9, 10, 11, 12].contains dest) then (3, s)
  else if dest = 12 then
    let k := engNo src
    if (engOf s k).hostBox.length ≥ 4 then (2, s)
    else (1, modEng k (fun e => { e with hostBox := e.hostBox ++ [{ src := src, data := data }] }) s)
  else
    let k := engNo dest
    if (engOf s k).inbox.length ≥ 4 then (2, s)
    else
      let was := (engOf s k).inbox.isEmpty
      let s := modEng k (fun e => { e with inbox := e.inbox ++ [{ src := src, data := data }] }) s
      (1, if was then pendLine k 0 s else s)

/-- Words of the staging registers as bytes. -/
def stagedBytes (s : State) (k : Fin 12) (n : Nat) : Bytes :=
  ((List.range 16).flatMap fun w => le 4 (engReg s k (0x80 + 4 * w)).toNat).take n

/-- SEND of an engine (R418, R421): RESULT is set and MBX_OUT rises; a sender answered FULL hears of the next POP. -/
def mboxSend (k : Fin 12) (s : State) : State :=
  let ctl := (engReg s k 0x70).toNat
  let dest := fld ctl 0 4
  let r := mboxPost k.val dest (stagedBytes s k (fld ctl 4 7)) s
  let s := modEng k (fun e => { e with txResult := r.1, lastDest := dest,
                                       blocked := if r.1 = 2 then dest :: e.blocked.filter (· != dest) else e.blocked }) r.2
  pendLine k 1 s

/-- Senders that `dest` answered FULL hear that it has popped or discarded messages (R418, R431). -/
def unblock (dest : Nat) (s : State) : State :=
  (List.finRange 12).foldl (fun s j =>
    if (engOf s j).blocked.contains dest then
      pendLine j 1 (modEng j (fun e => { e with blocked := e.blocked.filter (· != dest) }) s)
    else s) s

/-- POP of an engine (R418, R422): nothing on an empty queue; line 0 rises again while messages are left. -/
def mboxPop (k : Fin 12) (s : State) : State :=
  match (engOf s k).inbox with
  | [] => s
  | _ :: rest =>
    let s := unblock k.val (modEng k (fun e => { e with inbox := rest }) s)
    if rest.isEmpty then s else pendLine k 0 s

/-- The host reads the oldest message an engine has for it (R395, R421). -/
def hostPop (k : Fin 12) (s : State) : Bytes × State :=
  match (engOf s k).hostBox with
  | [] => ([], s)
  | m :: rest =>
    let s := modEng k (fun e => { e with hostBox := rest }) s
    let s := if (engOf s k).blocked.contains 12 then pendLine k 1 (modEng k (fun e => { e with blocked := e.blocked.filter (· != 12) }) s) else s
    (m.data, s)

/-! ### Watchdog, events, run and Siesta (R418–R423) -/

/-- A write of WDKICK (R423). -/
def wdKick (k : Fin 12) (v : Word) (s : State) : State :=
  modEng k (fun e => if wfld v 0 16 = 0x5A5A then { e with wdtStage1 := false, wdtHeld := false } else { e with wdkBad := true }) s

/-- PERIOD of an engine's watchdog. -/
def wdPeriod (s : State) (k : Fin 12) : Nat := wfld (engReg s k 0x28) 0 16

/-- DBG_HALT acts on an engine (R431). -/
def dbgActs (s : State) (k : Fin 12) : Bool := isOem k || s.ks.testRoot

/-- The run action starts an engine from RESET or ends a forced Siesta (R420, R424); nothing while no verified image is
loaded (R426), and nothing in FAULT. An engine that was waiting goes on waiting. -/
def engRun (k : Fin 12) (s : State) : State :=
  let e := engOf s k
  match e.state with
  | .reset => if e.pmemValid then setEng k { e with state := .run, pc := 0x0010 } s else s
  | .siesta =>
    if e.forced then
      match e.waitMask with
      | none => setEng k { e with state := .run, forced := false } s
      | some _ => setEng k (wakeEng { e with forced := false }) s
    else s
  | _ => s

/-- The Siesta action: the engine stops at its next boundary (R420). -/
def engSiesta (k : Fin 12) (s : State) : State :=
  modEng k (fun e =>
    match e.state with
    | .run => { e with state := .siesta, forced := true }
    | .siesta => { e with forced := true }
    | _ => e) s

/-- DBG_HALT after a write of CTRL (R431, R433). -/
def engDebug (k : Fin 12) (s : State) : State :=
  let halt := wbit (engReg s k 0) 4 && dbgActs s k
  modEng k (fun e =>
    match e.state with
    | .run => if halt then { e with state := .halt } else e
    | .halt => if halt then e else { e with state := .run }
    | _ => e) s

/-- WAIT and SIESTA with a mask (R419). -/
def engWait (k : Fin 12) (mask : Word) (s : State) : State :=
  modEng k (fun e => if mask = 0 ∨ (e.evtPend &&& mask) ≠ 0 then e else { e with state := .siesta, waitMask := some mask }) s

/-! ### Microcode (R432, R470) -/

/-- A microcode entry. -/
def ucOf (e : Engine) (i : Nat) : Nat := kvGet (fun _ => 0) e.ucode i

/-- A whole microcode entry is stored with its parity. -/
def ucPut (k : Fin 12) (i v : Nat) (s : State) : State :=
  let s := match s.saf.inject with
    | some j => if j.detector = 4 ∧ j.acted ∧ 9 + j.param % 4 = k.val ∧ fld j.param 2 9 = i then { s with saf := { s.saf with inject := some { j with acted := false } } } else s
    | none => s
  modEng k (fun e => { e with ucode := kvSet (fun _ => 0) e.ucode i (v % 2 ^ 40) }) s

/-- A write of UC_LO: the entry at UC_ADDR, which moves on; only in Siesta (R432). -/
def ucLo (k : Fin 12) (v : Word) (s : State) : State :=
  if (engOf s k).state = .siesta then
    let i := wfld (engReg s k 0x130) 0 9
    regSet (engAddr k 0x130) (word ((i + 1) % 512)) (ucPut k i (v.toNat + 2 ^ 32 * wfld (engReg s k 0x134) 0 8) s)
  else s

/-! ### Images (R425, R426, R428, R429) -/

/-- Bytes of a USER region as its commands see them. -/
def regionBytes (s : State) (r : Region) : Bytes := (List.range r.pages).flatMap fun i => userPage s (1376 + r.start + i)

/-- The image header of a region is judged (R426): the DENIED code of its first failure. -/
def imageHeader (s : State) (r : Region) : Option Nat :=
  let b := slice (userPage s (1376 + r.start)) 0 32
  let words := at_ b 8 4
  let uc := at_ b 12 2
  if at_ b 0 4 ≠ 0x494A5A4F ∨ at_ b 28 4 ≠ (crc32c (b.take 28)).toNat then some 0x0A
  else if byteAt b 4 ≠ 1 ∨ byteAt b 5 > 1 ∨ byteAt b 6 > 1 ∨ (byteAt b 6 = 1 ∧ byteAt b 5 = 1) ∨ byteAt b 7 ≠ 0 ∨ at_ b 14 2 ≠ 0 ∨ at_ b 24 4 ≠ 0 then some 0x02
  else if words = 0 ∨ 49152 < words ∨ 512 < uc ∨ (uc ≠ 0 ∧ byteAt b 6 = 0) ∨ 256 * r.pages < 32 + 2 * words + 5 * uc then some 0x03
  else none

/-- Words of an image as program memory holds them. -/
def imageWords (code : Bytes) (words : Nat) : List (Nat × Half) :=
  (List.range words).filterMap fun i => let w := at_ code (2 * i) 2; if w = 0 then none else some (i, BitVec.ofNat 16 w)

/-- The check of the code and its load (R426 steps 2 and 3): the engine with the image, or the DENIED code of the failure. -/
def loadImage (s : State) (r : Region) (e : Engine) : Except Nat Engine :=
  match imageHeader s r with
  | some c => .error c
  | none =>
    let b := regionBytes s r
    let words := at_ b 8 4
    let uc := at_ b 12 2
    let code := slice b 32 (2 * words)
    let micro := slice b (32 + 2 * words) (5 * uc)
    let m12 := byteAt b 5 == 1
    if (List.range words).any fun i => decide (0x4000 ≤ at_ code (2 * i) 2) then .error 0x02
    else if at_ b 16 4 ≠ (crc32c (code ++ micro)).toNat then .error 0x0A
    else .ok { e with
      pmem := imageWords code words, ucode := (List.range uc).foldl (fun m i => kvSet (fun _ => 0) m i (at_ micro (5 * i) 5)) e.ucode,
      loadWords := words, loadUc := uc, loadOk := true, loadSrc := 1, mode12 := m12, st := stMirror m12 e.st, g := blankRegs m12, pmemValid := true }

/-- A failed load leaves the engine in RESET without a valid image (R426). -/
def loadFailed (e : Engine) : Engine := { e with pmemValid := false, loadOk := false, state := .reset }

end Sys2Proof.Machine
end

