-- ==== Sys2Proof/Machine/Pins.lean ====
section
/-! DEFINITION. GPIO pads and their outputs, and the TMB counters and units (chapter 14, R545, R610–R613). -/
namespace Sys2Proof.Machine

/-! ### Pads (R610–R613) -/

/-- FUNC of a pin (R611). -/
def pinFunc (s : State) (n : Nat) : Nat := regFld s (0x400F0000 + 4 * n) 0 3

/-- The pin is locked (R613). -/
def pinLocked (s : State) (n : Nat) : Bool := regBit s 0x400F0078 n

/-- A pad takes a level; an edge sets its event bit by EDGE and raises its line when it rises (R436, R611). -/
def padSet (n : Nat) (lv : Bool) (s : State) : State :=
  if s.pins.gpio.getD n false = lv then s
  else
    let s := { s with pins := { s.pins with gpio := modAt n (fun _ => lv) s.pins.gpio } }
    if !s.power.vddioOk then s
    else
      let s := if bit (regFld s (0x400F0000 + 4 * n) 6 2) (if lv then 0 else 1) then raise 0x400F0074 (2 ^ n) s else s
      if lv then lineUp (0x60 + n) s else s

/-- What the device drives on a pin; none while it is released (R487, R546, R611). -/
def pinDrive (s : State) (n : Nat) : Option Bool :=
  if !s.power.vddioOk then none
  else
    let lv := match pinFunc s n with
      | 1 => some (regBit s 0x400F0064 n)
      | 2 => some (s.tmb.outs.getD n false)
      | _ => none
    if lv = some true ∧ regBit s (0x400F0000 + 4 * n) 5 then none else lv

/-- Pads follow the outputs after a change: a driven pin takes its level, a pin just released that of its pull (DESIGN CHOICE, log 60). -/
def repad (before s : State) : State :=
  (List.range 24).foldl (fun s n =>
    match pinDrive s n with
    | some lv => padSet n lv s
    | none =>
      if (pinDrive before n).isNone then s
      else match regFld s (0x400F0000 + 4 * n) 3 2 with
        | 1 => padSet n false s
        | 2 => padSet n true s
        | _ => s) s

/-- GPIO_OUT takes a value in the bits of pins that are not locked (R612, R613). -/
def gpioOut (v : Word) (s : State) : State :=
  let lock := regGet s 0x400F0078
  repad s (regSet 0x400F0064 ((regGet s 0x400F0064 &&& lock) ||| (v &&& ~~~lock &&& 0xFFFFFF)) s)

/-- GPIO_SET, GPIO_CLR, GPIO_TGL. -/
def gpioSet (m : Word) (s : State) : State := gpioOut (regGet s 0x400F0064 ||| m) s
def gpioClr (m : Word) (s : State) : State := gpioOut (regGet s 0x400F0064 &&& ~~~m) s
def gpioTgl (m : Word) (s : State) : State := gpioOut (regGet s 0x400F0064 ^^^ m) s

/-- GPIO_PINn_CFG takes a value; a change of FUNC between the output sources makes no edge (R612). Nothing on a locked pin. -/
def gpioCfg (n : Nat) (v : Word) (s : State) : State :=
  if pinLocked s n then s
  else
    let f := pinFunc s n
    let g := wfld v 0 3
    let s1 := if f = 2 ∧ g = 1 then
        regSet 0x400F0064 (if s.pins.gpio.getD n false then setBit (regGet s 0x400F0064) n else clrBit (regGet s 0x400F0064) n) s
      else if f = 1 ∧ g = 2 then { s with tmb := { s.tmb with outs := modAt n (fun _ => regBit s 0x400F0064 n) s.tmb.outs } }
      else s
    repad s (regSet (0x400F0000 + 4 * n) v s1)

/-- GPIO_LOCK: bits are set until the next device reset (R613). -/
def gpioLock (m : Word) (s : State) : State := regOr 0x400F0078 (m.toNat % 2 ^ 24) s

/-! ### Counters (R477–R479, R484, R486) -/

/-- A counter. -/
def ctOf (s : State) (c : Nat) : Counter32 := s.tmb.counters.getD c { count := 0, live := 1, staged := none, run := false, resetDue := false }

/-- The state with a counter changed. -/
def modCt (c : Nat) (f : Counter32 → Counter32) (s : State) : State := { s with tmb := { s.tmb with counters := modAt c f s.tmb.counters } }

/-- A unit. -/
def unOf (s : State) (u : Nat) : TmbUnit := s.tmb.units.getD u { armed := false, fresh := false, capFull := false, fires := 0, lateVal := 0 }

/-- The state with a unit changed. -/
def modUn (u : Nat) (f : TmbUnit → TmbUnit) (s : State) : State := { s with tmb := { s.tmb with units := modAt u f s.tmb.units } }

/-- Addresses of a unit's compare value and configuration. -/
def cmpAddr (u : Nat) : Nat := 0x400B0100 + 16 * u
def ucfgAddr (u : Nat) : Nat := 0x400B0104 + 16 * u

/-- MODE of a unit: 0 off, 1 compare, 2 capture. -/
def unMode (s : State) (u : Nat) : Nat := regFld s (ucfgAddr u) 0 2

/-- START: nothing on a running counter (R479). -/
def ctStart (c : Nat) (s : State) : State := modCt c (fun x => { x with run := true }) s

/-- STOP; a linked reset due at the next clock leaves the counter at 0 (R479, R490). -/
def ctStop (c : Nat) (s : State) : State :=
  modCt c (fun x => { x with run := false, count := if x.resetDue then 0 else x.count, resetDue := false, live := x.staged.getD x.live, staged := none }) s

/-- COMMIT: the shadow pair is staged, live at once on a stopped counter (R478). -/
def ctCommit (c : Nat) (s : State) : State :=
  let v := regGet s (0x400B0004 + 16 * c)
  modCt c (fun x => if x.run then { x with staged := some v } else { x with live := v, staged := none }) s

/-- A write of TMB_CNTc: lost to a linked reset that is due (R479, R490). -/
def ctWrite (c : Nat) (v : Word) (s : State) : State :=
  if (ctOf s c).resetDue then regOr 0x400B030C 2 s else modCt c (fun x => { x with count := v }) s

/-! ### Compare and capture units (R480–R490) -/

/-- The pin actions taken at a firing: PACT on the TMB output of PIN. -/
def pinAction (s : State) (u : Nat) : Option (Nat × Bool) :=
  let n := regFld s (ucfgAddr u) 16 5
  match regFld s (ucfgAddr u) 11 2 with
  | 1 => some (n, true)
  | 2 => some (n, false)
  | 3 => some (n, !s.tmb.outs.getD n false)
  | _ => none

/-- A TMB output takes a level. -/
def outSet (n : Nat) (lv : Bool) (s : State) : State :=
  repad s { s with tmb := { s.tmb with outs := modAt n (fun _ => lv) s.tmb.outs } }

/-- EVT: the FIRE bit and the unit's event source (R436, R483). -/
def unEvent (u : Nat) (s : State) : State :=
  if regBit s (ucfgAddr u) 8 then lineUp (0x40 + u) (raise 0x400B0300 (2 ^ u) s) else s

/-- The counter actions of several firings at one clock: resets and starts, then stops (R484, R486, R490). A stopped counter takes its reset at once. -/
def linkActions (us : List Nat) (s : State) : State :=
  let pick := fun (k : Nat) => us.filter fun u => regFld s (ucfgAddr u) 9 2 == k
  let link := fun (u : Nat) => regFld s (ucfgAddr u) 4 3
  let s := (pick 2).foldl (fun s u => ctStart (link u) s) s
  let s := (pick 1).foldl (fun s u => modCt (link u) (fun x => { x with resetDue := true }) s) s
  let s := (pick 3).foldl (fun s u => ctStop (link u) s) s
  (pick 1).foldl (fun s u => if (ctOf s (link u)).run then s else modCt (link u) (fun x => { x with count := 0, resetDue := false }) s) s

/-- The compare condition: the count has reached the compare value within half the range (R481). -/
def cmpDue (s : State) (u : Nat) : Bool := decide (ticksFrom (regGet s (cmpAddr u)) (ctOf s (u / 4)).count < 2 ^ 31)

/-- Compare units fire at one clock: LATE, FIRES, disarming, events, linked counters, pins with the lower-numbered unit first (R481, R483, R490); the unit that
START_SRC selects starts a telegram (R104). -/
def fireUnits (us : List Nat) (s : State) : State :=
  let one := fun (s : State) (u : Nat) =>
    unEvent u (modUn u (fun x => { x with
      armed := regBit s (ucfgAddr u) 13, fresh := false, fires := (x.fires + 1) % 65536,
      lateVal := word (ticksFrom (regGet s (cmpAddr u)) (ctOf s (u / 4)).count) }) s)
  let pins := us.foldl (fun (l : List (Nat × Bool)) u => match pinAction s u with
    | some p => if l.any (·.1 == p.1) then l else l ++ [p]
    | none => l) []
  let s := linkActions us (us.foldl one s)
  us.foldl (fun s u => lfGo (u + 1) s) (pins.foldl (fun s p => outSet p.1 p.2 s) s)

/-- A write of TMB_CMPu: it arms a unit in compare mode (R481, R490). -/
def cmpWrite (u : Nat) (v : Word) (s : State) : State :=
  let s := regSet (cmpAddr u) v s
  if unMode s u = 1 then modUn u (fun x => { x with armed := true, fresh := true }) s else s

/-- A write of TMB_UCFGu: DISARM, and a MODE other than compare disarms (R490, R494). -/
def ucfgWrite (u : Nat) (v : Word) (s : State) : State :=
  let s := regSet (ucfgAddr u) (v &&& ~~~(0x1000000 : Word)) s
  if wbit v 24 ∨ wfld v 0 2 ≠ 1 then modUn u (fun x => { x with armed := false, fresh := false }) s else s

/-- DISARM (R481). -/
def unDisarm (u : Nat) (s : State) : State := modUn u (fun x => { x with armed := false, fresh := false }) s

/-- A unit is evaluated on the count just reached (R481): it fires when armed and due. -/
def unEvaluate (u : Nat) (s : State) : State :=
  if unMode s u = 1 ∧ (unOf s u).armed ∧ (ctOf s (u / 4)).run ∧ cmpDue s u then fireUnits [u] s else s

/-- A counter clock (R477, R478, R481, R484): the count moves or a linked reset applies, a staged pair becomes live, armed units are evaluated. A compare just
written may miss its first clock, as chance has it (R481, R482). -/
def ctClock (c : Nat) (s : State) : State :=
  let x := ctOf s c
  if !x.run then s
  else
    let n : Word := if x.resetDue then 0 else x.count + 1
    let s := modCt c (fun x => { x with count := n, resetDue := false, live := x.staged.getD x.live, staged := none }) s
    let us := (List.range 4).map (4 * c + ·)
    let skip := fun (u : Nat) => (unOf s u).fresh && bit (peek s 0).toNat u
    let due := us.filter fun u => unMode s u == 1 && (unOf s u).armed && !skip u && cmpDue s u
    let s' := if us.any fun u => (unOf s u).fresh then draw 1 s else s
    let s' := us.foldl (fun s u => modUn u (fun y => { y with fresh := false }) s) s'
    fireUnits due s'

/-- A capture edge (R488). -/
def unCapture (u : Nat) (rising : Bool) (s : State) : State :=
  let e := regFld s (ucfgAddr u) 2 2
  if unMode s u ≠ 2 ∨ !(e = 2 ∨ e = b2n (!rising)) then s
  else
    let s := if (unOf s u).capFull then regOr 0x400B0308 (2 ^ u) s else s
    let s := regSet (cmpAddr u) (ctOf s (u / 4)).count s
    linkActions [u] (unEvent u (modUn u (fun x => { x with capFull := true, fires := (x.fires + 1) % 65536 }) s))

/-- A read of TMB_CMPu clears CAP_FULL (R488). -/
def cmpRead (u : Nat) (s : State) : State := modUn u (fun x => { x with capFull := false }) s

/-- A fault reset of an OEM engine disarms its units and stops its counter (R489). -/
def oemTimerStop (k : Nat) (s : State) : State :=
  let c := k - 5
  ctStop c ((List.range 4).foldl (fun s i => unDisarm (4 * c + i) s) s)

/-- TMB registers that show state (R491–R495). -/
def tmbView (s : State) (off : Nat) : Option Nat :=
  if off < 0x80 then
    let x := ctOf s (off / 16)
    match off % 16 with
    | 0 => some x.count.toNat
    | 8 => some (256 * b2n x.run + 512 * b2n x.staged.isSome)
    | 12 => some x.live.toNat
    | _ => none
  else if 0x100 ≤ off ∧ off < 0x300 then
    let x := unOf s ((off - 0x100) / 16)
    match off % 16 with
    | 8 => some x.lateVal.toNat
    | 12 => some (b2n x.armed + 2 * b2n x.capFull + 65536 * x.fires)
    | _ => none
  else if off = 0x304 then some (flagsWord (s.tmb.units.zipIdx.map fun p => (p.2, p.1.armed)))
  else none

end Sys2Proof.Machine
end

