-- ==== Sys2Proof/Machine/RegAccess.lean ====
section
/-! DEFINITION. Access to the register space: what a read shows and clears, which writes a requester may make, and what a write
does in its block (R380, R409, R602–R609). The controls of engines and injections that need more of the machine are in
Machine/EngCtl.lean. -/
namespace Sys2Proof.Machine

/-! ### Reads -/

/-- Buffer words mapped beside the registers: the two transmit buffers and the per-bit log (R602). -/
def isBufWord (a : Nat) : Bool :=
  (0x40030800 ≤ a && a < 0x40030A00) || (0x40040800 ≤ a && a < 0x40040A00) || (0x40050400 ≤ a && a < 0x40050600)

/-- A word of the per-bit log (R199). -/
def logWord (s : State) (off : Nat) : Word :=
  let e := s.rng.log.getD (off / 8) (0, 0)
  if off % 8 < 4 then e.1 else e.2

/-- A buffer word. -/
def bufWord (s : State) (a : Nat) : Word :=
  if a < 0x40040000 then word (at_ (fit 512 s.rad.bandL.buf) (a - 0x40030800) 4)
  else if a < 0x40050000 then word (at_ (fit 512 s.rad.bandH.buf) (a - 0x40040800) 4)
  else logWord s (a - 0x40050400)

/-- Registers that show state rather than a stored word, by block (R602). -/
def blockView (s : State) (a : Nat) : Option Nat :=
  let off := a % 0x10000
  match blockOf a with
  | 0x00 => sysView s off
  | 0x01 => hifView s off
  | 0x02 => lfxView s off
  | 0x03 => rflView s off
  | 0x04 => rfhView s off
  | 0x05 => rngView s off
  | 0x06 => accView s off
  | 0x07 => cplView s off
  | 0x08 => kstView s off
  | 0x09 => nvmView s off
  | 0x0A => engView s off
  | 0x0B => tmbView s off
  | 0x0C => canView s off
  | 0x0D => plcView s off
  | 0x0E => linView s off
  | 0x0F => gpioView s off
  | 0x10 => safView s off
  | 0x11 => cryView s off
  | _ => none

/-- The link registers of the CAN1 page, which read 0 (R521, R603). -/
def isCan1Link (a : Nat) : Bool := 0x400C4080 ≤ a && a ≤ 0x400C4094 && a % 4 == 0

/-- A mapped register or buffer word (R603). -/
def regMapped (a : Nat) : Bool := a % 4 == 0 && (isBufWord a || (regFind a).isSome)

/-- What a word of the register space shows (R604): WO fields read 0. -/
def regShow (s : State) (a : Nat) : Word :=
  if isBufWord a then bufWord s a
  else match blockView s a with
    | some v => word v
    | none => regGet s a

/-- What a read leaves behind: an RC register is cleared unless an OEM engine reads it (R410, R604), WDK_BAD and WR_REJ of an engine's STATUS
are RC fields (R434), and a read of TMB_CMPu ends CAP_FULL (R488). -/
def regReadDone (oem : Bool) (a : Nat) (s : State) : State :=
  let s := match regFind a with
    | some r => if r.kind = .rc ∧ !oem then regSet a 0 s else s
    | none => s
  if 0x400B0100 ≤ a ∧ a < 0x400B0300 ∧ a % 16 = 0 then cmpRead ((a - 0x400B0100) / 16) s
  else if 0x400A0000 ≤ a ∧ a < 0x400AC000 ∧ a % 0x1000 = 4 ∧ !oem then
    modEng (engNo (a % 0x10000 / 0x1000)) (fun e => { e with wdkBad := false, wrRej := false }) s
  else s

/-- A read of a word: its value and the state after it. -/
def regRead (oem : Bool) (a : Nat) (s : State) : Word × State := (regShow s a, regReadDone oem a s)

/-! ### Values and reach -/

/-- Reserved values that depend on other registers (R94, R201, R485, R497, R505, R521). -/
def valueOkNow (s : State) (a : Nat) (v : Word) : Bool :=
  let n := v.toNat
  if 0x40020880 ≤ a ∧ a < 0x400208C0 then
    (if a % 8 = 0 then !comboBad n (regGet s (a + 4)).toNat else !comboBad (regGet s (a - 4)).toNat n)
  else if a = 0x40060040 then bit n 1 || [0x40060044, 0x40060048, 0x4006004C].all fun x => decide ((regGet s x).toNat ≤ 0x7FF)
  else if a = 0x40060044 ∨ a = 0x40060048 ∨ a = 0x4006004C then regBit s 0x40060040 1 || decide (n ≤ 0x7FF)
  else if a = 0x40050094 then decide (fld n 0 3 < s.rng.slots) && decide (fld n 4 3 < s.rng.slots)
  else if 0x400B0100 ≤ a ∧ a < 0x400B0300 ∧ a % 16 = 0 then
    let u := (a - 0x400B0100) / 16
    !(regBit s (a + 4) 13 && regFld s (a + 4) 4 3 == u / 4) || decide (n ≤ 0x80000000)
  else if 0x400B0100 ≤ a ∧ a < 0x400B0300 ∧ a % 16 = 4 then
    let u := (a - 0x400B0104) / 16
    !(bit n 13 && fld n 4 3 == u / 4) || decide ((regGet s (a - 4)).toNat ≤ 0x80000000)
  else if a = 0x400C001C ∨ a = 0x400C401C then !bit n 1 || s.bus.can0.live == s.bus.can1.live
  else if a = 0x400C0000 ∨ a = 0x400C4000 then !bit n 2 || timingOk (regGet s (a + 0xC)) (regGet s (a + 0x10))
  else if a = 0x400C0080 then s.cfg.role != .trailer || fld n 0 2 != 0
  else true

/-- A value may be written to a mapped register (R604); every value to a buffer word. -/
def valueGood (s : State) (a : Nat) (v : Word) : Bool :=
  isBufWord a || (match regFind a with
    | some r => valueOk r a v && valueOkNow s a v
    | none => false)

/-- A register that commands and engines write. -/
def regWritable (a : Nat) : Bool :=
  if isBufWord a then a < 0x40050000
  else match regFind a with
    | some r => r.kind != .ro && r.kind != .rc
    | none => false

/-- A TMB register of the host (R489). -/
def hostTmb (a : Nat) : Bool :=
  let o := a % 0x10000
  (0x70 ≤ o && o < 0x80) || (0x2C0 ≤ o && o < 0x300) || 0x300 ≤ o

/-- A CAN register that host commands may write (R501, R521). -/
def hostCan (a : Nat) : Bool :=
  let o := a % 0x4000
  (match regFind a with | some r => r.kind == .rw | none => false) &&
    !(0x060 ≤ o && o < 0x0A0) && (o < 0x400 || (0x600 ≤ o && o < 0x800) || (0x800 + 0x50 * 12 ≤ o && o < 0xE00))

/-- The register is locked: the configuration of a locked pin (R613), MODE12 (R433). -/
def regLocked (s : State) (a : Nat) : Bool :=
  0x400F0000 ≤ a && a < 0x400F0060 && pinLocked s ((a - 0x400F0000) / 4)

/-- Why a register command may not write an address whatever the value (R380, R489, R521, R568, R608, R613): status and CODE. -/
def hostReach (s : State) (a : Nat) : Option (Byte × Nat) :=
  let unwritable : Option (Byte × Nat) := if regWritable a && !regLocked s a then none else some (stBadField, 0x05)
  match blockOf a with
  | 0x00 => if [0x10, 0x1C, 0x20, 0x24, 0x30].contains (a % 0x10000) then none else some (stBadField, 0x05)
  | 0x0A =>
    let off := a % 0x10000
    if off < 0x9000 then some (stDenied, 0x06)
    else if off < 0xC000 ∧ [0x000, 0x028, 0x034].contains (off % 0x1000) then none else some (stBadField, 0x05)
  | 0x0B => if hostTmb a then unwritable else some (stDenied, 0x06)
  | 0x0C => if hostCan a then none else some (stDenied, 0x06)
  | 0x10 => if s.ks.testRoot then unwritable else some (stDenied, 0x06)
  | 0x11 => some (stDenied, 0x06)
  | _ => unwritable

/-- A value a register command may not write: reserved, a LINK of a host unit other than 7 (R489), or a change of the locked MODE12 bit (R606). -/
def hostValue (s : State) (a : Nat) (v : Word) : Option Nat :=
  if !valueGood s a v then some 0x02
  else if 0x400B02C0 ≤ a ∧ a < 0x400B0300 ∧ a % 16 = 4 ∧ wfld v 4 3 ≠ 7 then some 0x02
  else if 0x400A9000 ≤ a ∧ a < 0x400AC000 ∧ a % 0x1000 = 0 then
    let e := engOf s (engNo (a % 0x10000 / 0x1000))
    if e.state ≠ .reset ∧ wbit v 2 ≠ e.mode12 then some 0x05 else none
  else none

/-- What an engine's access meets before it starts (R404, R409, R410, R432, R446, R542, R614): the DETAIL of a MEM trap, for an own-page address in
direct form. -/
def engReach (k : Fin 12) (store : Bool) (a : Nat) (v : Word) : Option Nat :=
  let b := blockOf a
  let off := a % 0x10000
  if !store && isCan1Link a then (if isOem k then some 1 else none)
  else if !regMapped a then some 0
  else if b = 0x0A then
    if 0xC000 ≤ off then (if store then some 2 else none)
    else if off / 0x1000 ≠ k.val then
      if k = 0 then (if store && !regWritable a then some 2 else none) else some 4
    else if !store then none
    else
      let o := off % 0x1000
      if o = 0x000 ∨ 0x130 ≤ o ∨ !regWritable a then some 2
      else if isOem k ∧ 0x038 ≤ o ∧ o < 0x054 then
        if (List.range 4).all fun j =>
            let c := wfld v (8 * j) 8
            [0x00, 0x01, 0x07, 0x08].contains c || (0x60 + 16 ≤ c && c ≤ 0x77) ||
              (0x40 + 4 * (k.val - 5) ≤ c && c < 0x44 + 4 * (k.val - 5)) || !evtSrcOk c then none else some 1
      else none
  else if isOem k then
    if !store then (if [0x00, 0x06, 0x07, 0x0B, 0x0F].contains b then none else some 1)
    else if b ≠ 0x0B then some 1
    else
      let c := k.val - 5
      if off / 16 = c ∨ (0x100 ≤ off ∧ off < 0x300 ∧ (off - 0x100) / 64 = c) then none
      else if (off = 0x300 ∨ off = 0x308) ∧ v &&& ~~~(word (0xF * 2 ^ (4 * c))) = 0 then none
      else some 1
  else if !store then none
  else if b = 0x11 then (if k.val = 5 then none else some 2)
  else if b = 0x10 then (if k = 0 then none else some 2)
  else none

/-- An OEM engine's LINK or PIN outside its reach is a reserved value (R489). -/
def oemLink (k : Fin 12) (a : Nat) (v : Word) : Bool :=
  !isOem k || !(0x400B0100 ≤ a && a < 0x400B0300 && a % 16 == 4) || (wfld v 4 3 == k.val - 5 && decide (16 ≤ wfld v 16 5))

/-- WR_REJ of a block: the register and the bit; none where the block has none. -/
def wrRejOf (a : Nat) : Option (Nat × Nat) :=
  match blockOf a with
  | 0x00 => some (0x40000010, 6)
  | 0x01 => some (0x40010008, 8)
  | 0x02 => some (0x4002082C, 9)
  | 0x03 => some (0x40030004, 16)
  | 0x04 => some (0x40040004, 16)
  | 0x05 => some (0x40050008, 5)
  | 0x08 => some (0x40080008, 8)
  | 0x09 => some (0x40090008, 8)
  | 0x0B => some (0x400B030C, 0)
  | 0x0C => some (0x400C0008 + a % 0x10000 / 0x4000 * 0x4000, 10)
  | 0x0D => some (0x400D0008, 7)
  | 0x0E => some (0x400E0008, 9)
  | 0x0F => some (0x400F0074, 24)
  | 0x10 => some (0x40100004, 6)
  | 0x11 => some (0x40110008, 4)
  | _ => none

/-- An engine's write is refused: WR_REJ of the block, or of the engine's page (R432, R604). -/
def rejectWrite (a : Nat) (s : State) : State :=
  if blockOf a = 0x0A then
    if a % 0x10000 < 0xC000 then modEng (engNo (a % 0x10000 / 0x1000)) (fun e => { e with wrRej := true }) s else s
  else match wrRejOf a with
    | some (r, i) => if r = 0x400B030C then regOr r 1 s else raise r (2 ^ i) s
    | none => s

/-! ### What a write does -/

/-- LFX (R120–R127). A W1C of OPEN asks for no retest and leaves the channel excluded with no flag, so that the retest of every 60 s passes it by
(DESIGN CHOICE, log 128). FLUSH, ABORT and GO in one word act in this order (DESIGN CHOICE, log 129). -/
def fxLfx (off : Nat) (v : Word) (s : State) : State :=
  if off < 0x800 then
    if off % 0x100 = 0x0C then
      let n := off / 0x100
      if v &&& 6 ≠ 0 then { s with lf := { s.lf with shortRetest := setBit8 s.lf.shortRetest n } } else s
    else s
  else match off with
    | 0x800 =>
      let s := if wbit v 2 then fifoFlush s else s
      let s := if wbit v 1 ∧ s.lf.telegram.isSome then endDue s else s
      if wbit v 0 then lfGo 0 s else s
    | 0x810 => if wbit v 0 then lfCommit s else s
    | 0x820 => fifoWrite v s
    | 0x844 => energyRequest (wfld v 24 3) (wfld v 0 24) s
    | _ => s
where
  /-- A byte with one bit set. -/
  setBit8 (b : Byte) (n : Nat) : Byte := b ||| byte (2 ^ n)

/-- A calibration result when a register write starts the calibration: what the world outside makes of it (R156, R157). -/
def calFree (s : State) : CalMeas :=
  let w := peek s 0
  let x := peek s 1
  { iso0 := byte (wfld w 0 8), iso1 := byte (wfld w 8 8), imgA := byte (wfld w 16 8), imgB := byte (wfld w 24 8), imgH := byte (wfld x 16 8), tune := BitVec.ofNat 16 (wfld x 0 16) }

/-- Bytes of a transmit buffer with a word written. -/
def bufPut (b : Bytes) (off : Nat) (v : Word) : Bytes := (fit 512 b).take off ++ le 4 v.toNat ++ (fit 512 b).drop (off + 4)

/-- RFL and RFH (R162–R170). -/
def fxRad (h : Bool) (off : Nat) (v : Word) (s : State) : State :=
  if 0x800 ≤ off then modBand h (fun b => { b with buf := bufPut b.buf (off - 0x800) v }) s
  else if 0x100 ≤ off ∧ off < 0x140 ∧ off % 16 = 0 then queueDesc h ((off - 0x100) / 16) v s
  else if off = 0x008 then commitWrite h v.toNat s
  else if h then
    if off = 0x030 then rxCfgWrite 2 s
    else if off = 0x058 ∧ wbit v 0 then calStart .bandH (calFree s) (draw 2 s) else s
  else if off = 0x030 then rxCfgWrite 0 s
  else if off = 0x048 then rxCfgWrite 1 s
  else if off = 0x07C ∧ wbit v 0 then calStart .full (calFree s) (draw 2 s) else s

/-- An exchange is over: the decision or the coupling it was set up for goes on (R68, R179, R217). -/
def rbeOver (res bound : Nat) (s : State) : State :=
  match s.rng.rbe with
  | none => s
  | some x =>
    let s := modRng (fun r => { r with rbe := none }) s
    match x.record, x.unit with
    | some r, _ => decRbe r x.retried res bound s
    | none, some u => cplRbe u res bound s
    | none, none => s

/-- START in RNG_RBE_CFG: an exchange that cannot run is over at once, NONE with NBITS 0, UNAVAIL otherwise (R173, R179). -/
def rbeGo (s : State) : State :=
  if s.rng.rbe.any (·.started) then s
  else match rbeBarred s with
    | some (res, _) => rbeOver res 0xFFFF (rbeStart s)
    | none => rbeStart s

/-- ABORT: the response registers are cleared, and an exchange that runs is over (R179, R198). -/
def rbeStop (s : State) : State :=
  if s.rng.rbe.any (·.started) then rbeOver resAbort 0xFFFF (rbeAbort s) else rbeAbort s

/-- E5 writes RNG_RBE_KEYLD: R_0 and R_1 of the exchange that is set up, from the token key, or from the session key with the partner's identifier
(R174, R180). -/
def rbeKeyLoad (s : State) : State :=
  match s.rng.rbe with
  | none => s
  | some x =>
    if x.started then s
    else match x.record.bind (tokOf s), x.unit with
      | some t, _ =>
        let k := tokenKey t s
        (match k.1 with
        | some key => modRng (fun r => { r with resp := some (respRegs (kRbe key x.nonceR s.cfg.vid (le (if t.cls = .ph then 8 else 4) t.tokenId.toNat))) }) k.2
        | none => k.2)
      | none, some u =>
        (match sessionKey s u 2 with
        | some k => modRng (fun r => { r with resp := some (respRegs (kRbe k x.nonceR (tractorVid s) (le 8 (certId (unitOf s u).peerCert)))) }) s
        | none => s)
      | none, none => s

/-- START in RNG_MCP_CFG (R182): on the next token of the decision; an event that no decision asked for names no token, record 255. -/
def mcpStart (s : State) : State :=
  if s.rng.mcp.isSome then s
  else match s.acc.decision with
    | some d => mcpBegin (d.mcpTodo.headD 255) (some (d.cands.countP (·.mcpDone) % 4, d.nonce)) (modDec (fun d => { d with mcpTodo := d.mcpTodo.tail }) s)
    | none => mcpBegin 255 none s

/-- RNG (R198–R201). -/
def fxRng (off : Nat) (v : Word) (s : State) : State :=
  match off with
  | 0x000 => if wbit v 1 then rbeStop s else s
  | 0x020 => if wbit v 31 then rbeGo s else s
  | 0x028 => tminApply s
  | 0x080 => if wbit v 2 then mcpStart s else s
  | _ => s

/-- KST (R290, R296): STATE reads CLOSED after CLOSE whatever it was (DEDUCED, log 179). -/
def fxKst (off : Nat) (v : Word) (s : State) : State :=
  if off = 0 then
    let s := if wbit v 0 then zeroiseSlots s else s
    if wbit v 1 then
      let s := zeroiseAll s
      { s with ks := { s.ks with state := .closed, closedByCtrl := true } }
    else s
  else s

/-- ENG, every register of a page but CTRL (R414, R423, R432, R437, R446). -/
def fxEng (own : Bool) (k : Fin 12) (o : Nat) (v : Word) (s : State) : State :=
  match o with
  | 0x010 => modEng k (fun e => if !own || engTm e then { e with tpc := BitVec.ofNat 16 (wfld v 0 16) } else e) s
  | 0x014 => modEng k (fun e => if !own || engTm e then { e with tst := v &&& 0x3FF } else e) s
  | 0x020 => modEng k (fun e => if !own || engEvm e then { e with epc := BitVec.ofNat 16 (wfld v 0 16) } else e) s
  | 0x024 => modEng k (fun e => if !own || engEvm e then { e with est := v &&& 0x3FF } else e) s
  | 0x02C => wdKick k v s
  | 0x030 => modEng k (fun e => { e with evtPend := e.evtPend &&& ~~~v }) s
  | 0x070 => if wbit v 31 then mboxSend k s else s
  | 0x078 => if wbit v 31 then mboxPop k s else s
  | 0x138 => ucLo k v s
  | _ => s

/-- TMB (R477–R495). -/
def fxTmb (off : Nat) (v : Word) (s : State) : State :=
  if off < 0x80 then
    let c := off / 16
    match off % 16 with
    | 0 => ctWrite c v s
    | 8 =>
      let s := if wbit v 2 then ctCommit c s else s
      let s := if wbit v 0 then ctStart c s else s
      if wbit v 1 then ctStop c s else s
    | _ => s
  else if off < 0x300 then
    let u := (off - 0x100) / 16
    match off % 16 with
    | 0 => cmpWrite u v s
    | 4 => ucfgWrite u v s
    | _ => s
  else s

/-- CAN (R498, R501, R504, R521); the bus is taken as idle at a commit (DESIGN CHOICE, log 64). -/
def fxCan (off : Nat) (v : Word) (s : State) : State :=
  let b := off / 0x4000
  let o := off % 0x4000
  if o = 0 then
    let s := canStateReq b s
    let s := if wbit v 2 then canCommit b false s else s
    if wbit v 3 then canRestart b s else s
  else if 0x800 ≤ o ∧ o < 0xD00 ∧ (o - 0x800) % 0x50 = 0 then
    let n := (o - 0x800) / 0x50
    let s := if wbit v 7 then canReq b n s else s
    if wbit v 8 then canAbort b n s else s
  else if o = 0xE08 ∧ wbit v 31 then canPop b false s
  else if o = 0xE68 ∧ wbit v 31 then canPop b true s
  else s

/-- PLC (R525). -/
def fxPlc (off : Nat) (v : Word) (s : State) : State :=
  if off = 0 then
    let s := if wbit v 1 then plcTxReq s else s
    if wbit v 2 then plcPop s else s
  else s

/-- LIN (R516, R525). -/
def fxLin (off : Nat) (v : Word) (s : State) : State := if off = 0x78 ∧ wbit v 12 then linGo s else s

/-- GPIO (R610–R613). -/
def fxGpio (off : Nat) (v : Word) (s : State) : State :=
  if off < 0x60 then gpioCfg (off / 4) v s
  else match off with
    | 0x064 => gpioOut v s
    | 0x068 => gpioSet v s
    | 0x06C => gpioClr v s
    | 0x070 => gpioTgl v s
    | 0x078 => gpioLock v s
    | _ => s

/-- Blocks that keep the written word themselves: TMB counters and units, GPIO pins, outputs and locks, radio descriptors. -/
def ownStore (a : Nat) : Bool :=
  let off := a % 0x10000
  match blockOf a with
  | 0x03 => decide (0x100 ≤ off) && decide (off < 0x140) && off % 16 == 0
  | 0x04 => decide (0x100 ≤ off) && decide (off < 0x140) && off % 16 == 0
  | 0x0A => off % 0x1000 == 0x10 || off % 0x1000 == 0x14 || off % 0x1000 == 0x20 || off % 0x1000 == 0x24
  | 0x0B => decide (off < 0x80) && off % 16 == 0 || decide (0x100 ≤ off) && decide (off < 0x300) && (off % 16 == 0 || off % 16 == 4)
  | 0x0F => decide (off < 0x60) || off == 0x64 || off == 0x78
  | _ => false

/-- The writable fields take their values, or W1C bits clear (R604). -/
def regStore (a : Nat) (v : Word) (s : State) : State :=
  match regFind a with
  | some r =>
    if ownStore a then s
    else match r.kind with
      | .rw => if r.w = 0 then s else regSet a ((regGet s a &&& ~~~(word r.w)) ||| (v &&& word r.w)) s
      | .rwl => regSet a (v &&& word r.w) s
      | .w1c => regAndNot a (v.toNat &&& r.w) s
      | _ => s
  | none => s

/-- A write whose value is good takes effect in its block (R604, R608, R609). `by_` is the requesting engine, none for the host and the debug port. Engine
CTRL and the injection registers are left to Machine/EngCtl.lean. -/
def regEffect (by_ : Option (Fin 12)) (a : Nat) (v : Word) (s : State) : State :=
  let off := a % 0x10000
  if a = 0x40050054 then
    if by_ = some 5 then (if wbit v 0 then rbeKeyLoad s else s) else rejectWrite a s
  else if a = 0x40110000 then
    let s := if wbit v 0 then cryReseed s else s
    s
  else
    let s := regStore a v s
    match blockOf a with
    | 0x02 => fxLfx off v s
    | 0x03 => fxRad false off v s
    | 0x04 => fxRad true off v s
    | 0x05 => fxRng off v s
    | 0x08 => fxKst off v s
    | 0x09 => if off = 0 ∧ wbit v 1 then { s with fer := { s.fer with scan := some 0 } } else s
    | 0x0A =>
      let k := engNo (off / 0x1000)
      if off < 0xC000 then fxEng (by_ == some k) k (off % 0x1000) v s else s
    | 0x0B => fxTmb off v s
    | 0x0C => fxCan off v s
    | 0x0D => fxPlc off v s
    | 0x0E => fxLin off v s
    | 0x0F => fxGpio off v s
    | _ => s

end Sys2Proof.Machine
end

