-- ==== Sys2Proof/Machine/Inject.lean ====
section
/-! DEFINITION. Fault injection as INJECT and SAF_INJ_GO start it (R536–R538): the test kinds are over at once, a live one
becomes the pending injection that its target's next use meets. -/
namespace Sys2Proof.Machine

/-- Bits of PARAM that a detector defines; none for an undefined detector (R538). -/
def paramMask (det : Nat) : Option Nat :=
  match det with
  | 1 => some 0xC3FF | 2 => some 0xC3FF | 3 => some 0xC1FF | 4 => some 0x87FF | 5 => some 0x0FFF | 6 => some 0x1F
  | 7 => some 1 | 8 => some 3 | 9 => some 7 | 10 => some 0x13 | 11 => some 0x37 | 12 => some 3 | 13 => some 1
  | 14 => some 0x1F | 15 => some 3 | _ => none

/-- PARAM has no reserved bit and no reserved value (R538). -/
def paramOk (det p : Nat) : Bool :=
  match paramMask det with
  | none => false
  | some m =>
    (p &&& m) == p && (match det with
      | 1 => decide (fld p 4 6 ≤ 38)
      | 2 => decide (fld p 4 6 ≤ 38) && decide (fld p 0 4 ≤ 11)
      | 3 => decide (fld p 4 5 ≤ 19) && decide (fld p 0 4 ≤ 11)
      | 4 => fld p 0 2 != 3 && bit p 15
      | 5 => decide (fld p 0 11 ≤ 1919)
      | 6 => decide (1 ≤ fld p 0 5) && decide (fld p 0 5 ≤ 0x12)
      | 9 => fld p 0 3 != 7
      | 12 => fld p 0 2 != 3
      | 14 => decide (fld p 0 4 ≤ 11)
      | _ => true)

/-- RESULT of R537. -/
def injResult (outcome action seq : Nat) : Nat := outcome + 256 * action + 65536 * seq

/-- RESULT of an injection that is over at once; INJ_DONE is raised. -/
def injNow (outcome action seq : Nat) (s : State) : Nat × State :=
  (injResult outcome action seq, raise 0x40100004 8 (regSet 0x40100038 (word (injResult outcome action seq)) s))

/-- SEQ of the record that a fault wrote, 0xFFFF where it wrote none. -/
def seqOf (before after : State) : Nat := if after.saf.nextSeq = before.saf.nextSeq then 0xFFFF else after.saf.nextSeq

/-- The counter of a counter page whose slot in a copy an injection corrupts (R538): the lowest-numbered one whose slot there is valid and not above its other valid slot. -/
def injCounter (s : State) (page copy : Nat) : Option Nat :=
  ((List.range 16).map (16 * (page - 1024) + ·)).find? fun c =>
    let x := ctrOf s c
    x.a.ok && x.b.ok && (if copy = 0 then decide (x.a.value ≤ x.b.value) else decide (x.b.value ≤ x.a.value))

/-- Corruption of a copy of a FeRAM page (R538, detector 0x0005), found and repaired at once. -/
def injectCopy (page copy : Nat) (s : State) : Nat × State :=
  let info := word (page + 2048 * copy)
  if 1024 ≤ page ∧ page ≤ 1027 then
    match injCounter s page copy with
    | none => injNow 5 0 0xFFFF s
    | some c =>
      let x := ctrOf s c
      let s := setCtr (if copy = 0 then { x with a := { x.a with ok := false } } else { x with b := { x.b with ok := false } }) s
      let s := raiseNvm 2 (regSet 0x4009001C (word (page + 2048 * copy + 4096)) (regInc 0x40090010 16 s))
      let s' := fault 0x0005 1 copy 0 1 info s
      injNow 2 0 (seqOf s s') s'
  else
    let m := metaOf s page
    if m.degraded.isSome ∨ !(m.c0.ok && m.c1.ok) then injNow 5 0 0xFFFF s
    else
      let s := repairPage page (copyFails page (copy != 0) s)
      let s' := fault 0x0005 1 copy 5 1 info s
      injNow 1 5 (seqOf s s') s'

/-- INJECT after its checks of PARAM (R536): RESULT and the state; none while a live injection is pending. -/
def injectGo (det p : Nat) (s : State) : Option (Nat × State) :=
  if s.saf.inject.isSome then none
  else
    let s := regSet 0x40100030 (word (det + 65536 * p)) s
    if det ≤ 3 ∧ !bit p 15 then
      let base := match det with | 1 => 0x40100044 | 2 => 0x4010004C | _ => 0x40100054
      some (if bit p 14 then injNow 2 0 0xFFFF (regInc (base + 4) 16 s) else injNow 1 1 0xFFFF (regInc base 16 s))
    else if det = 5 then some (injectCopy (fld p 0 11) (fld p 11 1) s)
    else
      let r := injResult 0 0 0xFFFF
      some (r, regSet 0x40100038 (word r) { s with saf := { s.saf with inject := some { detector := det, param := p, acted := false, addr := none } } })

/-- A pending injection is withdrawn without effect (R536, R541). -/
def injectWithdraw (s : State) : State := if s.saf.inject.isSome then injectEnd 4 0 0xFFFF s else s

/-- SAF_INJ_GO (R542): GO hands SAF_INJ_CTRL over, with the checks of R536; WITHDRAW withdraws. -/
def fxInj (v : Word) (s : State) : State :=
  let s := if wbit v 1 then injectWithdraw s else s
  if wbit v 0 then
    let det := regFld s 0x40100030 0 16
    let p := regFld s 0x40100030 16 16
    if paramOk det p then
      match injectGo det p s with
      | some r => r.2
      | none => s
    else s
  else s

end Sys2Proof.Machine
end

