-- ==== Sys2Proof/Machine/EngCtl.lean ====
section
/-! DEFINITION. Writes to the whole register space, the store buffer, engine resets and what the loss of E0 means
(R24, R41, R407, R424, R618). -/
namespace Sys2Proof.Machine

/-- ENG_Ek_CTRL (R433) but for its reset action, which Machine/EngCtl.lean adds below. -/
def fxCtrl (k : Fin 12) (v : Word) (s : State) : State :=
  let s := if isOem k ∧ (engOf s k).state = .reset then modEng k (setMode12 (wbit v 2)) s else s
  let s := engDebug k s
  match wfld v 0 2 with
  | 1 => engRun k s
  | 2 => engSiesta k s
  | _ => s

/-- A write of an engine's own page or of a block, with no engine reset in it. -/
def regPart (by_ : Option (Fin 12)) (a : Nat) (v : Word) (s : State) : State :=
  let s := regEffect by_ a v s
  if a = 0x40100034 then fxInj v s
  else if 0x400A0000 ≤ a ∧ a < 0x400AC000 ∧ a % 0x1000 = 0 then fxCtrl (engNo (a % 0x10000 / 0x1000)) v s
  else s

/-- A write of an engine that leaves its store buffer: refused with WR_REJ when the value is reserved, the register is not writable or locked
(R432, R604, R606, R613). -/
def engWriteBy (write : Option (Fin 12) → Nat → Word → State → State) (k : Fin 12) (a : Nat) (v : Word) (s : State) : State :=
  if !regWritable a || regLocked s a || !valueGood s a v || !oemLink k a v then rejectWrite a s else write (some k) a v s

/-- The injection of interconnect parity on a block (R538): the write is retried once and goes through. -/
def busParity (a : Nat) (s : State) : State :=
  match injected 6 s with
  | some p =>
    if blockEvent (a / 0x10000 * 0x10000 + (if blockOf a = 0x0C then a % 0x10000 / 0x4000 * 0x4000 else 0)) = p ∨ p = parityCode a then
      faultBy true 3 0x0006 2 p 2 0 (word a) (regInc 0x40100060 16 s)
    else s
  | none => s
where
  /-- Block code of R436 of an address. -/
  parityCode (a : Nat) : Nat :=
    let b := blockOf a
    if b < 0x0A then b + 1
    else if b = 0x0B then 0x0B
    else if b = 0x0C then (if a % 0x10000 < 0x4000 then 0x0C else 0x0D)
    else if 0x0D ≤ b ∧ b ≤ 0x11 then b + 1
    else 0

/-- A store leaves the buffer (R407): into shared SRAM, or into its block. -/
def drainOne (write : Option (Fin 12) → Nat → Word → State → State) (k : Fin 12) (s : State) (b : BufStore) : State :=
  if b.addr < 0x20000000 then sramWrite b.addr (le b.size b.value.toNat) s
  else engWriteBy write k b.addr b.value (busParity b.addr s)

/-- The whole store buffer drains, in program order. -/
def drainWith (write : Option (Fin 12) → Nat → Word → State → State) (k : Fin 12) (s : State) : State :=
  let l := (engOf s k).stores
  l.foldl (drainOne write k) (modEng k (fun e => { e with stores := [] }) s)

/-! ### Engine resets (R424) -/

/-- The engine's registers, trap registers, pending lines, inbound queue and scratch at reset values; program memory, microcode, the
host-bound queue, load status and the history of faults stay. -/
def engBlank (e : Engine) (st : EngState) : Engine :=
  { Engine.reset with
    state := st, st := stMirror e.mode12 0, g := blankRegs e.mode12, pmemValid := e.pmemValid, mode12 := e.mode12, hostBox := e.hostBox, pmem := e.pmem,
    ucode := e.ucode, loadWords := e.loadWords, loadUc := e.loadUc, loadOk := e.loadOk, loadSrc := e.loadSrc, faultAt := e.faultAt,
    autostart := e.autostart, j12Words := e.j12Words, restartDue := e.restartDue }

/-- Offsets of the page's registers that an engine reset returns to their reset values: WDT, EVT_EN, EVTSRC, staging registers, microcode access
(DEDUCED, log 65). -/
def pageResets : List Nat :=
  [0x28, 0x34] ++ (List.range 7).map (fun n => 0x38 + 4 * n) ++ [0x70] ++ (List.range 16).map (fun w => 0x80 + 4 * w) ++ [0x130, 0x134]

/-- An engine reset to a state (R424): its stores drain first, senders blocked on its queue hear of it (R431). -/
def engResetTo (k : Fin 12) (st : EngState) (s : State) : State :=
  let s := drainWith regPart k s
  let s := modEng k (fun e => engBlank e st) s
  let s := pageResets.foldl (fun s o => let a := engAddr k o; regSet a (regReset a) s) s
  unblock k.val s

/-- A port's commands that E0 had taken are answered by the HIF hardware (R618): HW_FAULT, or BUSY_RETRY when still held in the input buffer. -/
def hangReplies (p : VPort) (s : State) : State :=
  let held := s.link.held.filter fun h => h.ret.port == p
  let s := held.foldl (fun s h => reply h.ret stBusyRetry (busyBytes 3) s) s
  let ps := portOf s p
  setPort p { ps with opn := ps.opn.map fun w =>
    if w.pkt.isNone then { w with pkt := some (replyPkt w.ret stHwFault (refusalBytes 0xFFFF 0x08) false) } else w } s

/-- The packets held in the input buffers are gone: they have had their BUSY_RETRY. -/
def hangForget (s : State) : State := { s with link := { s.link with held := [] } }

/-- The version 1 command that E0 had taken reads HW_FAULT (R360). -/
def hangV1 (s : State) : State :=
  match s.link.v1Busy, s.link.v1Wait with
  | some op, _ => v1Answer stHwFault op [] s
  | none, some c => v1Answer stHwFault (c.headD 0) [] { s with link := { s.link with v1Wait := none } }
  | none, none => s

/-- E0 is reset (R24, R41, R85, R618): a standing release ends, decisions end without a record and are re-run where the journal asks for them,
running work goes back to its last boundary, every taken command has its reply. Before Noon Dawn runs again from row 6 (R564). -/
def e0Lost (s : State) : State :=
  let s := endRelease 3 s
  let s := modAcc (fun a => { a with decision := none, triggers := [], waiting := [], enrol := none }) (enrolClean (decClean s))
  let s := e0Works s
  let s := hangV1 (hangForget (hangReplies .uart (hangReplies .hcs0 s)))
  { s with link := { s.link with e0Restart := true },
           power := { s.power with stage := if s.power.state = .dawn then .waitXo else s.power.stage } }

/-- Fault resets of the last 60 s with this one (R424). -/
def faultTimes (e : Engine) (t : Word) : List Word := t :: e.faultAt.filter fun x => decide (ticksFrom x t < 60000000)

/-- A fault reset (R424): by the second watchdog expiry, a double trap or an uncorrectable error. `inj` says that a live injection provoked it, `det` is its
detector. E0–E8 wait for reload and restart, their work for them (R41); an OEM engine does so with AUTORESTART and an autostart region, until the third fault within 60 s. -/
def engFault (inj : Bool) (det : Nat) (info : Word) (k : Fin 12) (s : State) : State :=
  let e := engOf s k
  let times := faultTimes e (now s)
  let auto : Bool := regBit s (engAddr k 0) 3 && e.autostart.isSome && decide (times.length < 3)
  let again : Bool := !isOem k || auto
  let s := modEng k (fun e => { e with faultAt := times, restartDue := again }) s
  let s := engResetTo k (if again then .reset else .fault) s
  let s := regCount (engAddr k 0x54) 16 8 1 s
  let s := if isOem k then oemTimerStop k.val s else s
  let flags := if k.val = 0 ∨ k.val = 8 then 2 * b2n (s.jrn.works.any fun w => w.state != .done) else 0
  let s := faultBy inj 3 det (if again then 2 else 4) k.val (if again then 3 else 0) flags info s
  let s := pendLine 0 2 s
  if k.val = 0 then e0Lost s else if k.val < 9 then engHalt k.val s else s

/-- A trap (R413–R415): entered, or a double trap while a handler runs, which resets the engine. -/
def engTrap (k : Fin 12) (t : EngTrap) (s : State) : State :=
  if engTm (engOf s k) ∧ t.cause ≠ 7 then
    let s := regCount (engAddr k 0x54) 0 16 1 s
    engFault false 0x000E (word k.val) k (modEng k (fun e => { e with state := .fault }) s)
  else trapEnter k t s

/-- The reset action (R424): the engine stays in RESET with its program memory. -/
def engResetAction (k : Fin 12) (s : State) : State :=
  let s := engResetTo k .reset (modEng k (fun e => { e with restartDue := false }) s)
  if k.val = 0 then { (e0Lost s) with eng := (e0Lost s).eng.set 0 { (engOf s 0) with restartDue := true } } else s

/-- A write takes effect, the reset action of CTRL with it (R433). -/
def regWrite (by_ : Option (Fin 12)) (a : Nat) (v : Word) (s : State) : State :=
  let s := regPart by_ a v s
  if 0x400A0000 ≤ a ∧ a < 0x400AC000 ∧ a % 0x1000 = 0 ∧ wfld v 0 2 = 3 then engResetAction (engNo (a % 0x10000 / 0x1000)) s else s

/-- The store buffer of an engine drains (R407). -/
def drain (k : Fin 12) (s : State) : State := drainWith regWrite k s

/-- A first watchdog expiry (R413–R415, R423): the WDT trap, held while a trap handler runs. -/
def wdtFirst (inj : Bool) (k : Fin 12) (s : State) : State :=
  let e := engOf s k
  if e.state ≠ .run ∨ wdPeriod s k = 0 ∨ e.wdtStage1 then s
  else
    let s := regInc 0x4010006C 16 s
    let s := if inj then faultBy true 2 0x000E 2 k.val 0 0 (word k.val) s else s
    let s := modEng k (fun e => { e with wdtStage1 := true }) s
    if engTm e then modEng k (fun e => { e with wdtHeld := true }) s
    else trapEnter k { cause := 7, tval := 0, tlen := 0, detail := 0, n := 0, pc := e.pc } s

/-- The second expiry: the engine is reset (R424). -/
def wdtSecond (inj : Bool) (k : Fin 12) (s : State) : State :=
  let e := engOf s k
  if e.state ≠ .run ∨ !e.wdtStage1 then s
  else engFault inj 0x000E (word k.val) k (regInc 0x4010006C 16 s)

/-- After the reload that E8 or hardware does, the engine restarts at 0x0010 (R41, R424): an OEM engine from its autostart region, whose image may now fail. Couplings and
auto-location that a loss took back to their last boundary go on (R26, R41). -/
def engRestart (k : Fin 12) (s : State) : State :=
  let e := engOf s k
  if !e.restartDue then s
  else if isOem k then
    match e.autostart with
    | none => setEng k { e with restartDue := false, state := .fault } s
    | some r =>
      match loadImage s (s.fer.regions.getD r .none) e with
      | .ok e' => setEng k { e' with state := .run, pc := 0x0010, restartDue := false, j12Words := 0 } s
      | .error _ => fault 0x000E 3 k.val 0 0 (word k.val) (setEng k { (loadFailed e) with restartDue := false } s)
  else
    let s := setEng k { e with state := .run, pc := 0x0010, restartDue := false, pmemValid := true } s
    autoResume (if k.val = 0 then { s with link := { s.link with e0Restart := false } } else if k.val < 6 then startQueued s else s)

/-- Event entry (R416). -/
def eventEntry (k : Fin 12) (s : State) : State :=
  let e := engOf s k
  if e.state = .run ∧ wbit e.st 6 ∧ !engTm e ∧ !engEvm e ∧ (e.evtPend &&& engReg s k 0x34) ≠ 0 then
    setEng k { e with epc := e.pc, est := e.st, st := setFld (setFld e.st 8 1 1) 6 1 0, pc := 0x0012 } s
  else s

end Sys2Proof.Machine
end

