-- ==== Sys2Proof/Machine/Jorsol.lean ====
section
/-! DEFINITION. Decoding of Jorsol-14 and Jorsol-12 instructions (R438–R444, R448–R474): from the EXT prefixes and the main word
to an operation with its operands resolved, or to the UND or RSV trap. -/
namespace Sys2Proof.Machine

/-- The two-operand operations that work on Ga (R451). -/
inductive Alu where
  | add | sub | adc | sbc | and | or | xor | cmp | tst
  deriving DecidableEq, Repr

/-- The unary operations (R453). -/
inductive Una where
  | neg | not | abs | clz
  deriving DecidableEq, Repr

/-- The shifts (R454). -/
inductive Shf where
  | lsl | lsr | asr | ror
  deriving DecidableEq, Repr

/-- A second operand: a register or an immediate. -/
inductive Src where
  | reg (r : Fin 16) | imm (w : Word)
  deriving DecidableEq, Repr

/-- Data of a load or store: its size in bytes and whether a narrow load is sign-extended. -/
structure Width where
  size : Nat
  sgn  : Bool
  deriving DecidableEq, Repr

/-- The string operations (R466). -/
inductive Str where
  | movs | fills | cmps | scans | crcs
  deriving DecidableEq, Repr

/-- An operation with its operands (R448–R474). -/
inductive EOp where
  | nop | siesta | trap (n : Nat) | reti | fence | sync
  | mfs (sp : Nat) (b : Fin 16) | mts (sp : Nat) (b : Fin 16)
  | stMove (write : Bool) (b : Fin 16) | ret
  | mov (a b : Fin 16) | movi (a : Fin 16) (w : Word)
  | alu (f : Alu) (a : Fin 16) (y : Src)
  | addi (a : Fin 16) (k : Int) | addi4 (a : Fin 16) (k : Int)
  | una (f : Una) (a : Fin 16)
  | shift (f : Shf) (a : Fin 16) (amount : Src)
  | mul (a b : Fin 16) | mulh (uns : Bool) (a b : Fin 16)
  | div (rem uns : Bool) (a b : Fin 16)
  | ld (d b : Fin 16) (w : Width) (disp : Word) | st (d b : Fin 16) (w : Width) (disp : Word)
  | ldx (d b i : Fin 16) (w : Width) (unscaled wb : Bool) | stx (d b i : Fin 16) (w : Width) (unscaled wb : Bool)
  | push (a b : Fin 16) | pop (a b : Fin 16)
  | bcc (cond : Nat) (disp : Word)
  | jmp (t : Src) | call (t : Src)
  | bset (a : Fin 16) (n : Nat) | bclr (a : Fin 16) (n : Nat) | btst (a : Fin 16) (n : Nat)
  | wait (b : Fin 16) | signal (b : Fin 16) | evclr (b : Fin 16) | evrd (b : Fin 16)
  | cryi (b : Fin 16) | crys (a : Fin 16)
  | str (f : Str) (v : Fin 16) (byte_ : Bool)
  | chku (b : Fin 16) | chks (b : Fin 16) | chklen (a b : Fin 16)
  | ud (n : Nat) (r : Fin 16) (v : Bool) (gs : Option (Fin 16)) (ximm : Nat)
  deriving DecidableEq, Repr

/-- A register number. -/
def gno (n : Nat) : Fin 16 := ⟨n % 16, Nat.mod_lt _ (by decide)⟩

/-- What decoding depends on beside the words: the instruction set, whether the engine is an OEM engine, whether a trap or event handler runs, and which UDn have a
valid decode entry, with its EXTOK (R444, R470). -/
structure DecCtx where
  m12     : Bool
  oem     : Bool
  handler : Bool
  udEntry : Nat → Option Bool

/-- Width of a register field: 4 bits in Jorsol-14, 3 in Jorsol-12 (R438, R473). -/
def DecCtx.fw (c : DecCtx) : Nat := if c.m12 then 3 else 4

/-- Width of an EXT payload: 9 bits, or 7 (R439, R473). -/
def DecCtx.xw (c : DecCtx) : Nat := if c.m12 then 7 else 9

/-- The payload of an EXT prefix. -/
def DecCtx.pay (c : DecCtx) (e : BitVec 9) : Nat := e.toNat % 2 ^ c.xw

/-- An EXT word with a payload (R439, R473). -/
def DecCtx.extWord (c : DecCtx) (e : BitVec 9) : Nat := 0x15 * 2 ^ (1 + 2 * c.fw) + c.pay e

/-- The payloads as one number, the first prefix most significant (R439). -/
def DecCtx.paySum (c : DecCtx) (ext : List (BitVec 9)) : Nat := ext.foldl (fun a e => a * 2 ^ c.xw + c.pay e) 0

/-- An extended field of `w` bits: value and width (R439). -/
def DecCtx.field (c : DecCtx) (ext : List (BitVec 9)) (w x : Nat) : Nat × Nat := (c.paySum ext * 2 ^ w + x, w + c.xw * ext.length)

/-- An extended field, sign-extended. -/
def DecCtx.sext (c : DecCtx) (ext : List (BitVec 9)) (w x : Nat) : Word := let f := c.field ext w x; word (wrap 32 (signed f.2 f.1))

/-- An extended field, zero-extended. -/
def DecCtx.zext (c : DecCtx) (ext : List (BitVec 9)) (w x : Nat) : Word := word (c.field ext w x).1

/-- A decode fault: true for UND, false for RSV, with the word found (R444, R445). -/
abbrev DecFault := Bool × Word

/-- RSV on the main word. -/
def rsv (w : Nat) : Except DecFault EOp := .error (false, word w)

/-- UND on the main word. -/
def und (w : Nat) : Except DecFault EOp := .error (true, word w)

/-- Width of a narrow access by its code (R458): none is reserved. -/
def narrow (store : Bool) (code : Nat) : Option Width :=
  match code, store with
  | 0, _ => some { size := 1, sgn := false }
  | 1, false => some { size := 1, sgn := true }
  | 2, _ => some { size := 2, sgn := false }
  | 3, false => some { size := 2, sgn := true }
  | _, _ => none

/-- LD and ST (R458, R474). -/
def decMem (c : DecCtx) (store : Bool) (ext : List (BitVec 9)) (w a b : Nat) (v : Bool) : Except DecFault EOp :=
  let mk := fun (x : Width) (disp : Int) =>
    let d := word (wrap 32 disp)
    if store then EOp.st (gno a) (gno b) x d else EOp.ld (gno a) (gno b) x d
  let n := ext.length
  if !v then
    if n ≤ 2 then .ok (mk { size := 4, sgn := false } (if n = 0 then 0 else 4 * signed (c.xw * n) (c.paySum ext))) else rsv w
  else if n = 0 ∨ 2 < n then rsv w
  else
    let lw := c.xw - 2
    let last := c.pay (ext.getLastD 0)
    let low := (if n = 2 then c.pay (ext.headD 0) * 2 ^ lw else 0) + fld last 0 lw
    match narrow store (fld last lw 2) with
    | none => .error (false, word (c.extWord (ext.getLastD 0)))
    | some x => .ok (mk x (x.size * signed (if n = 2 then c.xw + lw else lw) low))

/-- LDX and STX (R459, R474). -/
def decMemX (c : DecCtx) (store : Bool) (ext : List (BitVec 9)) (w a b : Nat) (v : Bool) : Except DecFault EOp :=
  match ext with
  | [e] =>
    let p := c.pay e
    let fw := c.fw
    let s := bit p (fw + 2)
    let bad := .error (false, word (c.extWord e))
    if (!c.m12 && bit p 8) || fld p fw 2 == 3 || (store && s) then bad
    else
      let x : Width := { size := if fld p fw 2 = 0 then 4 else if fld p fw 2 = 1 then 2 else 1, sgn := s }
      let i := gno (fld p 0 fw)
      .ok (if store then .stx (gno a) (gno b) i x v (bit p (fw + 3)) else .ldx (gno a) (gno b) i x v (bit p (fw + 3)))
  | _ => rsv w

/-- A two-operand operation with an extendable immediate (R451). -/
def decImm (c : DecCtx) (f : Alu) (sign : Bool) (ext : List (BitVec 9)) (w a b : Nat) (v : Bool) : Except DecFault EOp :=
  if !v then (if ext = [] then .ok (.alu f (gno a) (.reg (gno b))) else rsv w)
  else if 2 < ext.length then rsv w
  else .ok (.alu f (gno a) (.imm (if sign then c.sext ext c.fw b else c.zext ext c.fw b)))

/-- The shift group (R454, R474). -/
def decShift (c : DecCtx) (ext : List (BitVec 9)) (w a : Nat) : Except DecFault EOp :=
  let kw := c.fw - 2
  let k := fld w 1 kw
  let f : Shf := match fld w (1 + kw) 2 with | 0 => .lsl | 1 => .lsr | 2 => .asr | _ => .ror
  match ext, bit w 0 with
  | [], true => .ok (.shift f (gno a) (.imm (word k)))
  | [], false => .ok (.shift f (gno a) (.reg (gno k)))
  | [e], true =>
    let p := c.pay e
    if p ≥ 2 ^ (5 - kw) then .error (false, word (c.extWord e)) else .ok (.shift f (gno a) (.imm (word (p * 2 ^ kw + k))))
  | [e], false =>
    let p := c.pay e
    if p ≥ 2 ^ c.fw then .error (false, word (c.extWord e))
    else if k ≠ 0 then rsv w else .ok (.shift f (gno a) (.reg (gno p)))
  | _, _ => rsv w

/-- An operation that one EXT of payload 1 makes unsigned (R456, R457). -/
def decMod (ext : List (BitVec 9)) (c : DecCtx) (w : Nat) (f : Bool → EOp) : Except DecFault EOp :=
  match ext with
  | [] => .ok (f false)
  | [e] => if c.pay e = 1 then .ok (f true) else .error (false, word (c.extWord e))
  | _ => rsv w

/-- The bit group (R463, R474). -/
def decBit (c : DecCtx) (ext : List (BitVec 9)) (w a b : Nat) (v : Bool) : Except DecFault EOp :=
  match ext with
  | [] => .ok (if v then .bclr (gno a) b else .bset (gno a) b)
  | [e] =>
    let p := c.pay e
    let hw := 5 - c.fw
    let n := fld p 0 hw * 2 ^ c.fw + b
    let bad := .error (false, word (c.extWord e))
    if p ≥ 2 ^ (hw + 2) then bad
    else match fld p hw 2, v with
      | 0, false => .ok (.bset (gno a) n)
      | 0, true => .ok (.bclr (gno a) n)
      | 1, false => .ok (.btst (gno a) n)
      | 1, true => rsv w
      | _, _ => bad
  | _ => rsv w

/-- The SYS group (R448, R449, R474). -/
def decSys (c : DecCtx) (w a b : Nat) (v : Bool) : Except DecFault EOp :=
  let plain := fun (o : EOp) => if b = 0 ∧ !v then .ok o else rsv w
  match a with
  | 0 => plain .nop
  | 1 => plain .siesta
  | 2 => if v then rsv w else .ok (.trap b)
  | 3 => if !c.handler && !(b == 0 && !v) then und w else plain .reti
  | 4 => plain .fence
  | 5 => plain .sync
  | _ =>
    if c.m12 then (if a = 6 then .ok (.stMove v (gno b)) else plain .ret)
    else if 8 ≤ a ∧ a ≤ 14 then .ok (if v then .mts (a - 8) (gno b) else .mfs (a - 8) (gno b))
    else rsv w

/-- Jumps and calls (R462, R474). -/
def decJump (c : DecCtx) (abs : Bool) (ext : List (BitVec 9)) (w a b : Nat) (v : Bool) : Except DecFault EOp :=
  let mk := fun (t : Src) => if v then EOp.call t else EOp.jmp t
  let ab := a * 2 ^ c.fw + b
  if !abs then (if ext = [] ∧ a = 0 then .ok (mk (.reg (gno b))) else rsv w)
  else match ext with
    | [] => .ok (mk (.imm (word ab)))
    | [e] => if !c.m12 && bit (c.pay e) 8 then .error (false, word (c.extWord e)) else .ok (mk (.imm (word (c.pay e * 2 ^ (2 * c.fw) + ab))))
    | [e, f] =>
      if !c.m12 then rsv w
      else if c.pay e ≥ 8 then .error (false, word (c.extWord e))
      else .ok (mk (.imm (word ((c.pay e * 128 + c.pay f) * 64 + ab))))
    | _ => rsv w

/-- A group that admits no EXT. -/
def noExt (ext : List (BitVec 9)) (w : Nat) (r : Except DecFault EOp) : Except DecFault EOp := if ext = [] then r else rsv w

/-- An instruction of one to three words (R444): the operation, or UND or RSV with the word found. -/
def engDecode (c : DecCtx) (ext : List (BitVec 9)) (main : Half) : Except DecFault EOp :=
  let w := main.toNat % 2 ^ 14
  let fw := c.fw
  if 3 ≤ ext.length then .error (false, word (c.extWord (ext.getD 2 0)))
  else if c.m12 && decide (2 ^ 12 ≤ w) then rsv w
  else
    let a := fld w (1 + fw) fw
    let b := fld w 1 fw
    let v := bit w 0
    match fld w (1 + 2 * fw) 5 with
    | 0x00 => if a = 3 ∧ !c.handler then (if ext = [] ∧ b = 0 ∧ !v then .ok .reti else und w) else noExt ext w (decSys c w a b v)
    | 0x01 =>
      if v then (if 2 < ext.length then rsv w else .ok (.movi (gno a) (c.sext ext fw b))) else noExt ext w (.ok (.mov (gno a) (gno b)))
    | 0x02 => decImm c .add true ext w a b v
    | 0x03 => decImm c .sub true ext w a b v
    | 0x04 => noExt ext w (.ok (.alu (if v then .sbc else .adc) (gno a) (.reg (gno b))))
    | 0x05 => decImm c .and false ext w a b v
    | 0x06 => decImm c .or false ext w a b v
    | 0x07 => decImm c .xor false ext w a b v
    | 0x08 => decShift c ext w a
    | 0x09 => if v then decMod ext c w (fun u => .mulh u (gno a) (gno b)) else noExt ext w (.ok (.mul (gno a) (gno b)))
    | 0x0A => decMod ext c w (fun u => .div v u (gno a) (gno b))
    | 0x0B =>
      let f : Alu := if v then .tst else .cmp
      .ok (.alu f (gno a) (if ext = [] then .reg (gno b) else .imm (if v then c.zext ext fw b else c.sext ext fw b)))
    | 0x0C =>
      noExt ext w (if v then rsv w else match b with
        | 0 => .ok (.una .neg (gno a))
        | 1 => .ok (.una .not (gno a))
        | 2 => .ok (.una .abs (gno a))
        | 3 => .ok (.una .clz (gno a))
        | _ => rsv w)
    | 0x0D => noExt ext w (.ok (if v then .addi4 (gno a) (signed fw b) else .addi (gno a) (signed fw b)))
    | 0x0E => decMem c false ext w a b v
    | 0x0F => decMem c true ext w a b v
    | 0x10 => decMemX c false ext w a b v
    | 0x11 => decMemX c true ext w a b v
    | 0x12 =>
      let dw := if c.m12 then 3 else 5
      .ok (.bcc (fld w dw 4) (c.sext ext dw (fld w 0 dw)))
    | 0x13 => decJump c false ext w a b v
    | 0x14 => decJump c true ext w a b v
    | 0x15 => rsv w
    | 0x16 =>
      if c.m12 then und w
      else noExt ext w (match a with
        | 0 => if b = 0 then .ok (.str .movs 0 v) else rsv w
        | 1 => .ok (.str .fills (gno b) v)
        | 2 => if b = 0 then .ok (.str .cmps 0 v) else rsv w
        | 3 => .ok (.str .scans (gno b) v)
        | 4 => .ok (.str .crcs (gno b) v)
        | _ => rsv w)
    | 0x17 =>
      if c.m12 then und w
      else noExt ext w (if v then .ok (.chklen (gno a) (gno b))
        else if a = 0 then .ok (.chku (gno b)) else if a = 1 then .ok (.chks (gno b)) else rsv w)
    | 0x18 => decBit c ext w a b v
    | 0x19 =>
      noExt ext w (if v then rsv w else match a with
        | 0 => .ok (.wait (gno b))
        | 1 => .ok (.signal (gno b))
        | 2 => .ok (.evclr (gno b))
        | 3 => .ok (.evrd (gno b))
        | _ => rsv w)
    | 0x1A =>
      if c.m12 then und w
      else noExt ext w (if v then (if b = 0 then .ok (.crys (gno a)) else rsv w) else (if a = 0 then .ok (.cryi (gno b)) else rsv w))
    | 0x1B => noExt ext w (if a ≤ b then .ok (if v then .pop (gno a) (gno b) else .push (gno a) (gno b)) else rsv w)
    | 0x1F =>
      if c.m12 || !c.oem then und w
      else match c.udEntry a, ext with
        | none, _ => if ext.length ≤ 1 then .ok (.ud a (gno b) v none 0) else und w
        | some _, [] => .ok (.ud a (gno b) v none 0)
        | some ok, [e] => if ok then .ok (.ud a (gno b) v (some (gno (fld e.toNat 0 4))) (fld e.toNat 4 5)) else rsv w
        | _, _ => rsv w
    | _ => und w

end Sys2Proof.Machine
end

