-- ==== Sys2Proof/Machine/Flags.lean ====
section
/-! DEFINITION. Results and flags of the Jorsol arithmetic (R442, R443, R451–R457, R463): each operation on plain words, with the ST word before and after. -/
namespace Sys2Proof.Machine

/-- ST with Z, N from a result (R442). -/
def setZn (r st : Word) : Word := setFld (setFld st 0 1 (b2n (r == 0))) 1 1 (b2n r.msb)

/-- ST with C. -/
def setC (c : Bool) (st : Word) : Word := setFld st 2 1 (b2n c)

/-- ST with V. -/
def setV (v : Bool) (st : Word) : Word := setFld st 3 1 (b2n v)

/-- ST with DZ. -/
def setDz (d : Bool) (st : Word) : Word := setFld st 4 1 (b2n d)

/-- C of ST. -/
def flagC (st : Word) : Bool := wbit st 2

/-- A sum with a carry in: result and ST (R442). -/
def addFlags (x y : Word) (cin : Bool) (st : Word) : Word × Word :=
  let n := x.toNat + y.toNat + b2n cin
  let r := word n
  (r, setV (r.toInt != x.toInt + y.toInt + b2n cin) (setC (decide (2 ^ 32 ≤ n)) (setZn r st)))

/-- A difference with a borrow in: C tells that no borrow occurs (R442). -/
def subFlags (x y : Word) (bin : Bool) (st : Word) : Word × Word :=
  let r := x - y - word (b2n bin)
  (r, setV (r.toInt != x.toInt - y.toInt - b2n bin) (setC (decide (y.toNat + b2n bin ≤ x.toNat)) (setZn r st)))

/-- A result that sets Z and N alone. -/
def logFlags (r st : Word) : Word × Word := (r, setZn r st)

/-- The two-operand operations (R451): the new Ga, none for CMP and TST, and ST. -/
def aluRun (f : Alu) (x y st : Word) : Option Word × Word :=
  let some_ := fun (p : Word × Word) => (some p.1, p.2)
  match f with
  | .add => some_ (addFlags x y false st)
  | .sub => some_ (subFlags x y false st)
  | .adc => some_ (addFlags x y (flagC st) st)
  | .sbc => some_ (subFlags x y (!flagC st) st)
  | .and => some_ (logFlags (x &&& y) st)
  | .or => some_ (logFlags (x ||| y) st)
  | .xor => some_ (logFlags (x ^^^ y) st)
  | .cmp => (none, (subFlags x y false st).2)
  | .tst => (none, (logFlags (x &&& y) st).2)

/-- Leading zeros of a word (R453). -/
def clz32 (x : Word) : Nat := ((List.range 32).takeWhile fun i => !wbit x (31 - i)).length

/-- The unary operations (R453). -/
def unaRun (f : Una) (x st : Word) : Word × Word :=
  match f with
  | .neg => (0 - x, setV (x == 0x80000000) (setC (x != 0) (setZn (0 - x) st)))
  | .not => logFlags (~~~x) st
  | .abs => let r := if x.msb then 0 - x else x; (r, setV (x == 0x80000000) (setZn r st))
  | .clz => logFlags (word (clz32 x)) st

/-- A shift by 0–255 (R455): the result and the new C, none where C stays. -/
def shiftVal (f : Shf) (x : Word) (a : Nat) : Word × Option Bool :=
  if a = 0 then (x, none)
  else match f with
    | .lsl => if a < 32 then (x <<< a, some (wbit x (32 - a))) else (0, some (a == 32 && wbit x 0))
    | .lsr => if a < 32 then (x >>> a, some (wbit x (a - 1))) else (0, some (a == 32 && x.msb))
    | .asr => if a < 32 then (x.sshiftRight a, some (wbit x (a - 1))) else (if x.msb then 0xFFFFFFFF else 0, some x.msb)
    | .ror => let r := x.rotateRight (a % 32); (r, some r.msb)

/-- The shift group with its flags (R455). -/
def shiftRun (f : Shf) (x : Word) (a : Nat) (st : Word) : Word × Word :=
  let p := shiftVal f x a
  let st := setZn p.1 st
  (p.1, match p.2 with | some c => setC c st | none => st)

/-- The low half of a product (R456). -/
def mulLow (x y : Word) : Word := x * y

/-- The high half of a product, signed or unsigned (R456). -/
def mulHigh (uns : Bool) (x y : Word) : Word :=
  if uns then word (x.toNat * y.toNat / 2 ^ 32) else word (wrap 64 (x.toInt * y.toInt) / 2 ^ 32)

/-- Quotient or remainder (R457): the result, V, and whether the divisor is 0. -/
def divVal (rem uns : Bool) (x y : Word) : Word × Bool × Bool :=
  if y = 0 then (if rem then x else if uns then 0xFFFFFFFF else if x.msb then 0x80000000 else 0x7FFFFFFF, false, true)
  else if !uns ∧ x = 0x80000000 ∧ y = 0xFFFFFFFF then (if rem then 0 else 0x80000000, true, false)
  else if uns then (if rem then word (x.toNat % y.toNat) else word (x.toNat / y.toNat), false, false)
  else (word (wrap 32 (if rem then x.toInt.tmod y.toInt else x.toInt.tdiv y.toInt)), false, false)

/-- The divide group with its flags, where it does not trap (R457). -/
def divRun (rem uns : Bool) (x y st : Word) : Word × Word :=
  let p := divVal rem uns x y
  (p.1, (if p.2.2 then setDz true else id) (setV p.2.1 (setZn p.1 st)))

/-- A condition of Bcc (R443). -/
def condTrue (cond : Nat) (st : Word) : Bool :=
  let z := wbit st 0
  let n := wbit st 1
  let c := wbit st 2
  let v := wbit st 3
  match cond with
  | 0x0 => z | 0x1 => !z | 0x2 => c | 0x3 => !c | 0x4 => n | 0x5 => !n | 0x6 => v | 0x7 => !v
  | 0x8 => c && !z | 0x9 => !c || z | 0xA => n == v | 0xB => n != v | 0xC => !z && n == v | 0xD => z || n != v
  | 0xE => true
  | _ => wbit st 4

/-- Z of the bit group (R463). -/
def bitFlag (x : Word) (n : Nat) (st : Word) : Word := setFld st 0 1 (b2n (!wbit x n))

/-- What MTS leaves in ST: Z, N, C, V, DZ, DZE and IE are written, DZE not in Jorsol-12 mode (R402, R449). -/
def stWrite (m12 : Bool) (v st : Word) : Word :=
  let m : Word := if m12 then 0x5F else 0x7F
  (st &&& ~~~m) ||| (v &&& m)

/-- What RETI restores from TST or EST: all of ST but its reserved bits and the MODE12 mirror (R402, R414). -/
def stRestore (m12 : Bool) (saved : Word) : Word := stMirrorBits m12 (saved &&& 0x1FF)
where
  /-- The MODE12 mirror. -/
  stMirrorBits (m12 : Bool) (st : Word) : Word := setFld st 9 1 (b2n m12)

end Sys2Proof.Machine
end

