-- ==== Sys2Proof/Machine/FeramLayout.lean ====
section
/-! DEFINITION. What the ferroelectric cells hold: CONFIG items with their CRC, copy headers, journal records, ring entries and counter slots in the metadata region and the
counter pages (R298, R299, R301, R309, R317, R318). The machine itself works on the structured state; these are its stored forms. -/
namespace Sys2Proof.Machine

/-! ### CONFIG (R299) -/

/-- A 32-bit register that CONFIG keeps. -/
def savedItem (p : Nat × Word) : Bytes := le 4 p.1 ++ le 4 p.2.toNat

/-- The 32 bytes that CONFIG keeps of a sensor record (R236). -/
def sensorItemBytes (x : Sensor) : Bytes :=
  fit 32 ([byte (match x.state with | .own => 1 | .partner => 2 | .learning => 3), byte (1 + b2n x.s2), byte x.kind, byte x.family] ++ le 4 x.id.toNat ++
    le 4 (if x.s2 then 0x10000 + snsHandle x.index else 0) ++ [x.wheelPos, byte x.conf, x.locFlags, byte x.srcUnit] ++ le 2 x.nominal ++ [byte x.thrSet])

/-- What CONFIG keeps of a USER region, and of its password (R313, R314). -/
def regionItemBytes (g : Region) : Bytes :=
  le 2 g.start ++ le 2 g.pages ++ [byte (flagsWord [(0, g.rpw), (1, g.wpw), (2, g.enc), (3, g.image)]), 0, 0, 0] ++ (match g.verifier with | some v => le 8 v.toNat | none => [])

/-- An item with the CRC that it carries (R299). -/
def itemBytes (b : Bytes) : Bytes := b ++ le 4 (crc32c b).toNat

/-- The items of CONFIG, each by the number of its commits, with its CRC (R299). -/
def configItems (s : State) : List (Nat × Bytes) :=
  ([(0x0701, [byte (match s.cfg.roleNext with | .none => 0 | .tractor => 1 | .trailer => 2)]),
    (0x0702, le 4 s.cfg.vidNext.toNat ++ [byte (match s.cfg.regionNext with | none => 0xFF | some b => b2n b)]),
    (0x0703, [byte (b2n s.jrn.enabledCfg)]), (0x2500, s.fer.regions.flatMap regionItemBytes ++ le 8 s.fer.pwBase),
    (0x3D00, [byte (b2n s.ks.unlockNext)]), (0x3F02, s.cpl.cert), (0x5200, s.cfg.saved.flatMap savedItem), (0x6000, s.rng.model),
    (0x7505, [byte (b2n s.acc.sloFault), byte (b2n s.acc.rbFault)]), (0x7507, le 8 s.acc.enrolLimit),
    (0x8300, (s.cpl.allow ++ s.cpl.deny).flatMap fun q => le 8 q.toNat), (0x8800, s.sns.model), (0xC200, le 4 s.saf.record.toNat ++ le 4 s.saf.clears)] ++
   (s.sns.sensors.map fun (x : Sensor) => (0x8C00 + x.index, sensorItemBytes x))).map fun (i : Nat × Bytes) => (i.1, itemBytes i.2)

/-! ### Copies of pages (R298, R301) -/

/-- Logical page and copy number as a copy header holds them (R301). -/
def copyPage (page : Nat) (second : Bool) : Bytes := le 2 (page + 2048 * b2n second)

/-- The header of a copy that checks: GEN, PAGE and the CRC over them and the 256 data bytes (R301). -/
def copyHeader (page : Nat) (second : Bool) (gen : Word) (data : Bytes) : Bytes :=
  let b := le 4 gen.toNat ++ copyPage page second
  b ++ le 4 (crc32c (b ++ data)).toNat

/-- A copy header and its page check (R301, R303). -/
def copyChecks (page : Nat) (second : Bool) (header data : Bytes) : Bool := header == copyHeader page second (word (at_ header 0 4)) data

/-- Offset of a copy's header in the metadata region (R298). -/
def headerOffset (page : Nat) (second : Bool) : Nat := 10 * (2 * page + b2n second)

/-- What a copy of a BOOT or USER page holds; none where its CRC fails (R301, R303). -/
def copyData (s : State) (page : Nat) (second : Bool) : Option Bytes :=
  let c := if second then (metaOf s page).c1 else (metaOf s page).c0
  if c.ok then some (c.stale.getD (storedPage s page)) else none

/-- The header that the metadata region holds for a copy of a BOOT or USER page; none where it fails. -/
def storedHeader (s : State) (page : Nat) (second : Bool) : Option Bytes :=
  (copyData s page second).map (copyHeader page second (if second then (metaOf s page).c1 else (metaOf s page).c0).gen)

/-! ### Journal records and ring entries (R298, R317, R318) -/

/-- STATE of a record (R318). -/
def jrnStateByte : WorkState → Byte
  | .accepted => 0x01 | .running => 0x02 | .done => 0x03

/-- SRC of a record (R318). -/
def jrnSrcByte : VPort → Byte
  | .hcs0 => 0x00 | .uart => 0x01

/-- Bytes 4–31 of a record and of its ring entry (R318). -/
def recordHead (w : Work) : Bytes :=
  le 8 w.seq ++ le 2 w.tag.toNat ++ [w.opcode, w.options, w.flags, jrnSrcByte w.src] ++ le 2 w.payload.length ++ le 4 w.pktCrc.toNat ++
    [jrnStateByte w.state, byte w.area, byte w.step, byte w.pct, w.status, 0] ++ le 2 w.result.length

/-- The 128 bytes of a host record with this GEN (R318). -/
def recordBytes (gen : Word) (w : Work) : Bytes :=
  let b := le 4 gen.toNat ++ recordHead w ++ fit 16 w.stepData ++ fit 76 w.result
  b ++ le 4 (crc32c b).toNat

/-- The 112 bytes of the ring entry of a completed record (R318). -/
def ringBytes (num : Nat) (w : Work) : Bytes :=
  let b := le 4 num ++ recordHead w ++ fit 76 w.result
  b ++ le 4 (crc32c b).toNat

/-- Offset of a copy of host record r, of the ring entry at a position, and of internal record i (R298). -/
def recordOffset (r : Nat) (second : Bool) : Nat := 0x9600 + 128 * (2 * r + b2n second)
def ringOffset (pos : Nat) (second : Bool) : Nat := 0xB600 + 112 * (2 * pos + b2n second)
def internalOffset (i : Nat) (second : Bool) : Nat := 0xEE00 + 128 * (2 * i + b2n second)

/-- A copy of the record of a work as the metadata region holds it; none where it fails. -/
def storedRecord (s : State) (w : Work) (second : Bool) : Option Bytes :=
  let m := metaIn s.jrn.copies w.recNo
  let c := if second then m.c1 else m.c0
  if c.ok then some (recordBytes c.gen w) else none

/-! ### Counter slots (R309) -/

/-- The 12 bytes of a slot whose CRC checks: the value in four 16-bit cells, then a CRC-32C of it in two (R309). -/
def slotBytes (v : Nat) : Bytes := le 8 v ++ le 4 (crc32c (le 8 v)).toNat

/-- The cells of slot A or B of a counter; none where its CRC fails (R309, R310). -/
def storedSlot (s : State) (c : Nat) (isB : Bool) : Option Bytes :=
  let x := if isB then (ctrOf s c).b else (ctrOf s c).a
  if x.ok then some (slotBytes x.value) else none

/-- Offset of a counter's slot in its page (R309). -/
def slotOffset (c : Nat) : Nat := 12 * (c % 16)

end Sys2Proof.Machine
end

