-- ==== Sys2Proof/Machine/Nvm.lean ====
section
/-! DEFINITION. The pages of the FeRAM as the host and the engines read them (R299, R300, R303, R311): BOOT and USER as stored, KEYS
composed of its items, JOURNAL of its payload areas, SHADOW of the saved image. -/
namespace Sys2Proof.Machine

/-- A page of items of one length, filled with zeros (R299). -/
def pageOf (items : List Bytes) : Bytes := fit 256 items.flatten

/-- The 12 bytes that a counter shows in its composed page (R311). -/
def counterBytes (s : State) (c : Nat) : Bytes :=
  let x := ctrOf s c
  let st := if x.a.ok && x.b.ok then 0 else if x.a.ok || x.b.ok then 1 else 2
  le 8 (x.read.getD 0) ++ [byte st, 0, 0, 0]

/-- The 72 bytes of an anchor (R265). -/
def anchorBytes (s : State) (i : Nat) : Bytes :=
  match s.ks.anchors.find? (·.index == i) with
  | some a => le 4 a.keyId.toNat ++ [byte (b2n a.valid), 0, 0, 0] ++ fit 64 a.pub
  | none => zeros 72

/-- CLASS and STATE bytes of a token record (R72). -/
def tokClsByte : TokClass → Byte
  | .t2 => 0x02 | .t3 => 0x03 | .ph => 0x10

/-- STATE byte of a token record (R72). -/
def tokStateByte : TokState → Byte
  | .active => 0x01 | .suspended => 0x02

/-- The 32 bytes of a token record (R72). -/
def tokenBytes (s : State) (i : Nat) : Bytes :=
  match s.acc.tokens.find? (·.index == i) with
  | some t =>
    [tokStateByte t.state, tokClsByte t.cls, byte (b2n t.bandH), 0] ++ le 8 t.tokenId.toNat ++ le 4 t.keyHandle.toNat ++ le 4 t.expiry.toNat ++
      le 2 t.enrolNum.toNat ++ le 2 t.revokeEpoch.toNat ++ zeros 8
  | none => zeros 32

/-- The page of a blob half (R276, R278). -/
def halfBytes (s : State) (p : Nat) : Bytes :=
  let h := handleOf s (p / 2)
  fit 256 (if p % 2 = 0 then h.a else h.b).blob

/-- A KEYS page (R299). -/
def keysPage (s : State) (page : Nat) : Bytes :=
  if page < 1024 then halfBytes s (page - 576)
  else if page < 1028 then pageOf ((List.range 16).map fun i => counterBytes s (16 * (page - 1024) + i))
  else if page = 1028 then pageOf ((List.range 3).map fun i => anchorBytes s i)
  else if page = 1029 then pageOf [anchorBytes s 3, anchorBytes s 4]
  else if page < 1038 then pageOf ((List.range 8).map fun i => tokenBytes s (8 * (page - 1030) + i))
  else if page < 1040 then pageOf ((List.range 32).map fun i => le 8 (s.acc.denylist.getD (32 * (page - 1038) + i) 0).toNat)
  else if page < 1042 then pageOf ((List.range 64).map fun i => le 4 (kvGet (fun _ => 0) s.sns.fcnt (64 * (page - 1040) + i)))
  else if page = 1042 then fit 256 (le 4 s.ks.timeFloor.toNat)
  else zeros 256

/-- A page of a payload area (R317): its command's payload, zero where no work holds the area. -/
def areaPage (s : State) (page : Nat) : Bytes :=
  let k := (page - 1056) / 8
  match s.jrn.works.find? (·.area == k) with
  | some w => fit 256 (slice w.payload (256 * ((page - 1056) % 8)) 256)
  | none => zeros 256

/-- The 256 bytes of a page. Where the items of CONFIG lie is not stated: its bytes are an open function of the items as they stand (log 80). -/
def pageImage (s : State) (page : Nat) : Bytes :=
  match partOf page with
  | 0 => userPage s page
  | 1 => keysPage s page
  | 2 => areaPage s page
  | 3 => (List.range 256).map fun i => Config.configByte (configItems s) (256 * (page - 1312) + i)
  | 4 => userPage s page
  | _ => memGet s.fer.image (256 * (page - 1904)) 256

/-- Bytes of the logical space from an address. -/
def nvmBytes (s : State) (addr len : Nat) : Bytes :=
  slice ((pagesOf addr len).flatMap fun p => pageImage s p) (addr % 256) len

/-- Counter pages are read slot by slot and never repaired (R311). -/
def readTouch (s : State) (page : Nat) : State := if 1024 ≤ page ∧ page < 1028 then s else repairPage page s

/-- A read of the logical space (R303, R311): its bytes, none when a page has no valid copy, which is counted. -/
def nvmRead (addr len : Nat) (s : State) : Option Bytes × State :=
  let ps := pagesOf addr len
  match ps.find? fun p => !(metaOf s p).readable with
  | some p => (none, readFailed p s)
  | none => (some (nvmBytes s addr len), ps.foldl readTouch s)

/-- A page that an engine's window does not show (R300). -/
def windowBarred (k : Fin 12) (page : Nat) : Bool := k.val != 8 && (partOf page == 2 || partOf page == 5)

/-- A word, half-word or byte of the FeRAM window (R300, R316): ENC regions read as zero; what a page without a valid copy shows is a free value. -/
def windowRead (addr len : Nat) (s : State) : Bytes × State :=
  let page := addr / 256
  if pageEnc s page then (zeros len, s)
  else match nvmRead addr len s with
    | (some b, s') => (b, s')
    | (none, s') => (peekBytes s' 0 len, draw 1 s')

end Sys2Proof.Machine
end

