-- ==== Sys2Proof/Machine/EngMem.lean ====
section
/-! DEFINITION. Data accesses of the Jorsol engines (R404–R410): reach and alignment, loads with the store buffer and the error correction of
the memories, stores. -/
namespace Sys2Proof.Machine

/-- Why an instruction stops (R413, R445): its cause, TVAL and DETAIL, the state it leaves, and for an uncorrectable error in the engine's own
memory what a hung E0–E8 is reset with (R538). -/
structure EngStop where
  cause  : Nat
  tval   : Word
  detail : Nat
  after  : State
  hung   : Option (Bool × Nat)
  deriving DecidableEq, Repr

/-- What an instruction or an access gives: a value, or a stop. -/
abbrev EngRes (α : Type) := Except EngStop α

/-- A trap that leaves the state as it was. -/
def stop {α : Type} (cause : Nat) (tval : Word) (detail : Nat) (s : State) : EngRes α :=
  .error { cause := cause, tval := tval, detail := detail, after := s, hung := none }

/-- An address of the alias page stands for the engine's own page (R404). -/
def engAlias (k : Fin 12) (a : Nat) : Nat := if 0x400AF000 ≤ a ∧ a < 0x400B0000 then engAddr k (a % 0x1000) else a

/-- The address lies in register space (R404). -/
def isRegSpace (a : Nat) : Bool := decide (0x40000000 ≤ a) && decide (a < 0x40120000)

/-- The window of an OEM engine that holds an address of shared SRAM (R409): whether it may be written. -/
def oemWindow (k : Fin 12) (a : Nat) : Option Bool :=
  let own := 0x10380000 + 0x10000 * (k.val - 9)
  if own ≤ a ∧ a < own + 0x10000 then some true
  else if 0x103B0000 ≤ a ∧ a < 0x103C0000 then some false
  else if 0x10140000 ≤ a ∧ a < 0x10240000 then some false
  else none

/-- What an access meets before it starts (R404–R406, R409, R410, R445): the ALN or MEM cause and its DETAIL. -/
def accessFault (k : Fin 12) (store : Bool) (addr size : Nat) (v : Word) (s : State) : Option (Nat × Nat) :=
  let a := engAlias k addr
  if isRegSpace a ∧ size < 4 then some (3, 2)
  else if addr % size ≠ 0 then some (3, b2n store)
  else if a < 0x8000 then none
  else if 0x10000000 ≤ a ∧ a < 0x10400000 then
    if isOem k then
      match oemWindow k a with
      | some w => if store && !w then some (4, 1) else none
      | none => some (4, 1)
    else none
  else if isRegSpace a then (engReach k store a v).map fun d => (4, d)
  else if 0x60000000 ≤ a ∧ a < 0x60078000 then
    if store then some (4, 2) else if windowBarred k ((a - 0x60000000) / 256) then some (4, 1) else none
  else some (4, 0)

/-- The live scratch injection that has corrupted the word of an access (R538): whether two bits are flipped. -/
def scratchHit (k : Fin 12) (a n : Nat) (s : State) : Option Bool :=
  match s.saf.inject with
  | some i =>
    if i.detector = 2 ∧ i.acted ∧ i.param % 16 = k.val then
      match i.addr with
      | some x => if x < a + n ∧ a < x + 4 then some (bit i.param 14) else none
      | none => none
    else none
  | none => none

/-- A corrected error of an engine's own memory: counted, and recorded (R408, R538). -/
def ownCorrected (inj : Bool) (det ctr : Nat) (k : Fin 12) (info : Word) (s : State) : State :=
  faultBy inj 1 det 1 k.val 1 0 info (regInc ctr 16 s)

/-- An uncorrectable error of an engine's own memory: counted; on an OEM engine the customer's handler decides, E0–E8 are hung (R538). -/
def ownLost {α : Type} (inj : Bool) (det ctr detail : Nat) (k : Fin 12) (info : Word) (s : State) : EngRes α :=
  let s := regInc ctr 16 s
  let s := if isOem k then faultBy inj 2 det 2 k.val 0 0 info s else s
  .error { cause := 5, tval := info, detail := detail, after := s, hung := if isOem k then none else some (inj, det) }

/-- Bytes of scratch (R408): corrected, or the ECC trap. `d` is what the check bits of the word read say beside an injection. -/
def scratchRead (k : Fin 12) (d : FetchEcc) (a n : Nat) (s : State) : EngRes (Bytes × State) :=
  let b := memGet (engOf s k).scratch a n
  match scratchHit k a n s, d with
  | some false, _ => .ok (b, ownCorrected true 0x0002 0x4010004C k (word a) s)
  | some true, _ => ownLost true 0x0002 0x40100050 1 k (word a) s
  | none, .clean => .ok (b, s)
  | none, .single => .ok (b, ownCorrected false 0x0002 0x4010004C k (word a) s)
  | none, .double => ownLost false 0x0002 0x40100050 1 k (word a) s

/-- Bytes of shared SRAM (R408): corrected, or the ECC trap with the bank marked out. -/
def sramLoad (d : FetchEcc) (a n : Nat) (s : State) : EngRes (Bytes × State) :=
  match d with
  | .clean =>
    match sramRead a n s with
    | (some b, s') => .ok (b, s')
    | (none, s') => stop 5 (word a) 2 s'
  | .single => .ok (memGet s.sram a n, faultBy false 1 0x0001 1 (bankOf a) 1 0 (word a) (regInc 0x40100044 16 s))
  | .double =>
    let two : Bool := !s.saf.banksOut.isEmpty
    let s := bankOut (bankOf a) (regInc 0x40100048 16 s)
    stop 5 (word a) 2 (faultBy false 3 0x0001 (if two then 3 else 2) (bankOf a) 4 0 (word a) s)

/-- Bytes with a buffered store laid over them (R407). -/
def overlay (a : Nat) (b : Bytes) (st : BufStore) : Bytes :=
  b.zipIdx.map fun p =>
    let x := a + p.2
    if st.addr ≤ x ∧ x < st.addr + st.size then byte (st.value.toNat / 256 ^ (x - st.addr)) else p.1

/-- A load whose reach and alignment are checked (R404–R408, R410). -/
def engLoad (k : Fin 12) (d : FetchEcc) (addr size : Nat) (s : State) : EngRes (Word × State) :=
  let a := engAlias k addr
  if a < 0x8000 then (scratchRead k d a size s).map fun p => (word (leNat p.1), p.2)
  else if a < 0x20000000 then
    (sramLoad d a size s).map fun p => (word (leNat ((engOf s k).stores.foldl (overlay a) p.1)), p.2)
  else if isRegSpace a then
    match (engOf s k).stores.reverse.find? (·.addr == a) with
    | some b => .ok (b.value, s)
    | none => .ok (regRead (isOem k) a s)
  else
    let p := windowRead (a - 0x60000000) size s
    .ok (word (leNat p.1), p.2)

/-- The oldest store leaves the buffer. -/
def drainOldest (k : Fin 12) (s : State) : State :=
  match (engOf s k).stores with
  | [] => s
  | b :: rest => drainOne regWrite k (modEng k (fun e => { e with stores := rest }) s) b

/-- A store to scratch; a live injection corrupts the word written (R538). -/
def scratchWrite (k : Fin 12) (a size : Nat) (v : Word) (s : State) : State :=
  let s := match s.saf.inject with
    | some i =>
      if i.detector = 2 ∧ i.acted ∧ i.addr.isNone ∧ i.param % 16 = k.val then
        { s with saf := { s.saf with inject := some { i with addr := some (a / 4 * 4) } } }
      else s
    | none => s
  modEng k (fun e => { e with scratch := memSet e.scratch a (le size v.toNat) }) s

/-- A store whose reach and alignment are checked (R405, R407, R446): scratch and the own page at once, the rest through the buffer, whose oldest
entry leaves when there is no room. -/
def engStore (k : Fin 12) (addr size : Nat) (v : Word) (s : State) : State :=
  let a := engAlias k addr
  if a < 0x8000 then scratchWrite k a size v s
  else if isRegSpace a ∧ blockOf a = 0x0A ∧ a % 0x10000 / 0x1000 = k.val then engWriteBy regWrite k a v s
  else
    let s := if 4 ≤ (engOf s k).stores.length then drainOldest k s else s
    modEng k (fun e => { e with stores := e.stores ++ [{ addr := a, size := size, value := v }] }) s

/-- A load from the check of its reach on. -/
def loadAt (k : Fin 12) (d : FetchEcc) (addr : Word) (size : Nat) (s : State) : EngRes (Word × State) :=
  match accessFault k false addr.toNat size 0 s with
  | some f => stop f.1 addr f.2 s
  | none => engLoad k d addr.toNat size s

/-- A store from the check of its reach on. -/
def storeAt (k : Fin 12) (addr : Word) (size : Nat) (v : Word) (s : State) : EngRes State :=
  match accessFault k true addr.toNat size v s with
  | some f => stop f.1 addr f.2 s
  | none => .ok (engStore k addr.toNat size v s)

/-- A loaded value extended to a word (R458). -/
def extend (w : Width) (v : Word) : Word := if w.sgn then word (wrap 32 (signed (8 * w.size) v.toNat)) else v

end Sys2Proof.Machine
end

