-- ==== Sys2Proof/Machine/EngExec.lean ====
section
/-! DEFINITION. What the Jorsol instructions do (chapter 13): the fetch, the common groups, memory access, control flow, events, strings, bounds
checks and customer instructions, and the driver that runs one instruction of an engine. -/
namespace Sys2Proof.Machine

/-! ### Registers -/

/-- Number of the stack pointer: G14, or G7 in Jorsol-12 mode (R401, R473). -/
def spNo (e : Engine) : Fin 16 := if e.mode12 then 7 else 14

/-- A general register. -/
def gGet (e : Engine) (r : Fin 16) : Word := e.g[r]

/-- The engine with a general register written. -/
def gPut (r : Fin 16) (v : Word) (e : Engine) : Engine := { e with g := e.g.set r v }

/-- The engine with a register and ST written. -/
def gSt (r : Fin 16) (p : Word × Word) (e : Engine) : Engine := { gPut r p.1 e with st := p.2 }

/-- The value of a second operand. -/
def srcVal (e : Engine) : Src → Word
  | .reg r => gGet e r
  | .imm w => w

/-- A special register (R449): 0 ST, 1 SA, 2 DA, 3 RC, 4 SD, 5 BLO, 6 BHI. -/
def specialGet (e : Engine) (n : Nat) : Word :=
  match n with
  | 0 => e.st | 1 => e.sa | 2 => e.da | 3 => e.rc | 4 => e.sd | 5 => e.blo | _ => e.bhi

/-- The engine with a special register written (R449). -/
def specialPut (n : Nat) (v : Word) (e : Engine) : Engine :=
  match n with
  | 0 => { e with st := stWrite e.mode12 v e.st }
  | 1 => { e with sa := v } | 2 => { e with da := v } | 3 => { e with rc := v } | 4 => { e with sd := v }
  | 5 => { e with blo := v } | _ => { e with bhi := v }

/-- PC moves past an instruction of `n` words (R438). -/
def advance (n : Nat) (e : Engine) : Engine := { e with pc := e.pc + BitVec.ofNat 16 n }

/-- Length of an instruction in words. -/
def insLen (o : EngOp) : Nat := o.ext.length + 1

/-- An instruction that changes the engine's registers alone. -/
def plainOp (o : EngOp) (f : Engine → Engine) (s : State) : EngRes State := .ok (modEng o.k (fun e => advance (insLen o) (f e)) s)

/-! ### Arithmetic (R450–R457, R463) -/

/-- A two-operand operation on Ga (R451). -/
def aluStep (f : Alu) (a : Fin 16) (y : Src) (e : Engine) : Engine :=
  let p := aluRun f (gGet e a) (srcVal e y) e.st
  match p.1 with
  | some r => gSt a (r, p.2) e
  | none => { e with st := p.2 }

/-- DIV and REM (R457): with DZE = 1 a division by zero sets DZ and traps with the dividend. -/
def divStep (o : EngOp) (rem uns : Bool) (a b : Fin 16) (s : State) : EngRes State :=
  let e := engOf s o.k
  let x := gGet e a
  let y := gGet e b
  if y = 0 ∧ !e.mode12 ∧ wbit e.st 5 then stop 6 x 0 (setEng o.k { e with st := setDz true e.st } s)
  else plainOp o (gSt a (divRun rem uns x y e.st)) s

/-! ### Memory (R458–R460, R474) -/

/-- A load of a register with what follows the access done to the engine first. -/
def loadOp (o : EngOp) (d : Fin 16) (w : Width) (ea : Word) (post : Engine → Engine) (s : State) : EngRes State := do
  let p ← loadAt o.k o.data ea w.size s
  plainOp o (fun e => gPut d (extend w p.1) (post e)) p.2

/-- A store with what follows the access. -/
def storeOp (o : EngOp) (v : Word) (w : Width) (ea : Word) (post : Engine → Engine) (s : State) : EngRes State := do
  let s ← storeAt o.k ea w.size v s
  plainOp o post s

/-- Effective address of an indexed access (R459). -/
def idxAddr (e : Engine) (b i : Fin 16) (w : Width) (unscaled : Bool) : Word :=
  gGet e b + gGet e i * (if unscaled then 1 else word w.size)

/-- The index write-back (R459). -/
def idxBack (i : Fin 16) (wb : Bool) (e : Engine) : Engine := if wb then gPut i (gGet e i + 1) e else e

/-- The registers of a range. -/
def regRange (a b : Fin 16) : List (Fin 16) := (List.finRange 16).filter fun r => a ≤ r && r ≤ b

/-- The first fault in a list of word accesses (R460). -/
def rangeFault (k : Fin 12) (store : Bool) (l : List (Word × Word)) (s : State) : Option (Word × Nat × Nat) :=
  l.findSome? fun p => (accessFault k store p.1.toNat 4 p.2 s).map fun f => (p.1, f)

/-- PUSH (R460): the reach of the whole range is checked first; the last register goes to the highest address. -/
def pushOp (o : EngOp) (a b : Fin 16) (s : State) : EngRes State :=
  let e := engOf s o.k
  let sp := gGet e (spNo e)
  let l := (regRange a b).reverse.zipIdx.map fun p => (sp - word (4 * (p.2 + 1)), gGet e p.1)
  match rangeFault o.k true l s with
  | some f => stop f.2.1 f.1 f.2.2 s
  | none =>
    let s := l.foldl (fun s p => engStore o.k p.1.toNat 4 p.2 s) s
    plainOp o (gPut (spNo e) (sp - word (4 * l.length))) s

/-- Loads of a list of words in order; the first stop ends them. -/
def loadAll (k : Fin 12) (d : FetchEcc) : List Word → State → EngRes (List Word × State)
  | [], s => .ok ([], s)
  | a :: l, s => do
    let p ← loadAt k d a 4 s
    let q ← loadAll k .clean l p.2
    .ok (p.1 :: q.1, q.2)

/-- POP (R460): its registers are written after every load; a value loaded into the stack pointer is discarded. -/
def popOp (o : EngOp) (a b : Fin 16) (s : State) : EngRes State :=
  let e := engOf s o.k
  let sp := gGet e (spNo e)
  let rs := regRange a b
  let l := rs.zipIdx.map fun p => sp + word (4 * p.2)
  match rangeFault o.k false (l.map fun x => (x, 0)) s with
  | some f => stop f.2.1 f.1 f.2.2 s
  | none => do
    let p ← loadAll o.k o.data l s
    plainOp o (fun e => gPut (spNo e) (sp + word (4 * l.length)) ((rs.zip p.1).foldl (fun e x => gPut x.1 x.2 e) e)) p.2

/-! ### Control flow (R461, R462, R474) -/

/-- PC goes to a target. -/
def jumpTo (t : Word) (e : Engine) : Engine := { e with pc := BitVec.ofNat 16 t.toNat }

/-- Bcc (R461). -/
def bccStep (o : EngOp) (cond : Nat) (disp : Word) (e : Engine) : Engine :=
  if condTrue cond e.st then jumpTo (word e.pc.toNat + disp) e else advance (insLen o) e

/-- CALL (R462, R474): the return address goes to G15, in Jorsol-12 mode onto the stack. -/
def callOp (o : EngOp) (t : Src) (s : State) : EngRes State :=
  let e := engOf s o.k
  let target := srcVal e t
  let back := word (e.pc + BitVec.ofNat 16 (insLen o)).toNat
  if e.mode12 then do
    let sp := gGet e 7 - 4
    let s ← storeAt o.k sp 4 back s
    .ok (modEng o.k (fun e => jumpTo target (gPut 7 sp e)) s)
  else .ok (modEng o.k (fun e => jumpTo target (gPut 15 back e)) s)

/-- RET (R474). -/
def retOp (o : EngOp) (s : State) : EngRes State := do
  let sp := gGet (engOf s o.k) 7
  let p ← loadAt o.k o.data sp 4 s
  .ok (modEng o.k (fun e => jumpTo p.1 (gPut 7 (sp + 4) e)) p.2)

/-- RETI (R414): outside any handler the UND trap. -/
def retiOp (o : EngOp) (s : State) : EngRes State :=
  let e := engOf s o.k
  if engTm e then .ok (setEng o.k { e with pc := e.tpc, st := stRestore e.mode12 e.tst } s)
  else if engEvm e then .ok (setEng o.k { e with pc := e.epc, st := stRestore e.mode12 e.est } s)
  else stop 0 (word (o.w.toNat % 2 ^ 14)) 0 s

/-! ### Events and the crypto port (R419, R464, R465) -/

/-- WAIT with a mask: PC stands after it (R419). -/
def waitOp (o : EngOp) (mask : Word) (s : State) : EngRes State := (plainOp o id s).map (engWait o.k mask)

/-- SIGNAL (R464). -/
def signalOp (o : EngOp) (b : Fin 16) (s : State) : EngRes State :=
  let t := wfld (gGet (engOf s o.k) b) 0 4
  if 11 < t ∨ (isOem o.k ∧ !([0, 9, 10, 11].contains t)) then stop 4 (word t) 1 s
  else (plainOp o id s).map (pendLine (engNo t) 2)

/-- CRYI: only E5 issues (R465). TVAL holds no address: 0 (DESIGN CHOICE, log 68). -/
def cryiOp (o : EngOp) (b : Fin 16) (s : State) : EngRes State :=
  if o.k ≠ 5 then stop 4 0 1 s else (plainOp o id s).map (cryIssue (gGet (engOf s o.k) b))

/-- CRYS: only on E5 (R465). -/
def crysOp (o : EngOp) (a : Fin 16) (s : State) : EngRes State :=
  if o.k ≠ 5 then stop 4 0 1 s else plainOp o (gPut a (cryStatus s)) s

/-! ### Bounds checks (R469) -/

/-- A check that passes does nothing; one that fails traps with its value. -/
def boundsOp (o : EngOp) (pass : Bool) (v : Word) (detail : Nat) (s : State) : EngRes State :=
  if pass then plainOp o id s else stop 2 v detail s

/-- CHKLEN passes (R469). -/
def chklenOk (e : Engine) (x n : Word) : Bool :=
  n == 0 || (decide (e.blo.toNat ≤ x.toNat) && decide (x.toNat + n.toNat - 1 ≤ e.bhi.toNat))

/-! ### Strings (R466, R467) -/

/-- One element of a string instruction: whether it ends the instruction, and the state. -/
def strElem (o : EngOp) (f : Str) (v : Fin 16) (byte_ : Bool) (s : State) : EngRes (Bool × State) :=
  let e := engOf s o.k
  let size := if byte_ then 1 else 4
  let cut := fun (w : Word) => if byte_ then w &&& 0xFF else w
  let less := fun (e : Engine) => { e with rc := e.rc - 1 }
  match f with
  | .movs => do
    let p ← loadAt o.k o.data e.sa size s
    let s ← storeAt o.k e.da size p.1 p.2
    .ok (false, modEng o.k (fun e => less { e with sa := e.sa + e.sd, da := e.da + e.sd }) s)
  | .fills => do
    let s ← storeAt o.k e.da size (cut (gGet e v)) s
    .ok (false, modEng o.k (fun e => less { e with da := e.da + e.sd }) s)
  | .cmps => do
    let p ← loadAt o.k o.data e.sa size s
    let q ← loadAt o.k .clean e.da size p.2
    if p.1 ≠ q.1 then .ok (true, modEng o.k (fun e => { e with st := (subFlags p.1 q.1 false e.st).2 }) q.2)
    else
      .ok (false, modEng o.k (fun e =>
        let e := less { e with sa := e.sa + e.sd, da := e.da + e.sd }
        if e.rc = 0 then { e with st := (subFlags 0 0 false e.st).2 } else e) q.2)
  | .scans => do
    let p ← loadAt o.k o.data e.sa size s
    if p.1 = cut (gGet e v) then .ok (true, modEng o.k (fun e => { e with st := setFld e.st 0 1 1 }) p.2)
    else
      .ok (false, modEng o.k (fun e =>
        let e := less { e with sa := e.sa + e.sd }
        if e.rc = 0 then { e with st := setFld e.st 0 1 0 } else e) p.2)
  | .crcs => do
    let p ← loadAt o.k o.data e.sa size s
    let acc := crc32cRun (gGet e v).toNat (le size p.1.toNat)
    .ok (false, modEng o.k (fun e => less (gPut v (word acc) { e with sa := e.sa + e.sd })) p.2)

/-- Elements of a string instruction, at most `fuel`: PC moves on only at its end. A stop keeps the elements before it. -/
def strLoop (o : EngOp) (f : Str) (v : Fin 16) (byte_ : Bool) : Nat → State → EngRes State
  | 0, s => .ok s
  | n + 1, s =>
    match strElem o f v byte_ s with
    | .error t => .error t
    | .ok (ends, s) =>
      if ends || (engOf s o.k).rc == 0 then plainOp o id s else strLoop { o with data := .clean } f v byte_ n s

/-- A string instruction (R466, R467): `upto` elements run before an event, a forced Siesta or a watchdog expiry is taken between elements; none lets it run to its
end. -/
def strOp (o : EngOp) (f : Str) (v : Fin 16) (byte_ : Bool) (upto : Option Nat) (s : State) : EngRes State :=
  let rc := (engOf s o.k).rc.toNat
  if rc = 0 then plainOp o id s
  else strLoop o f v byte_ (match upto with | some n => min n rc | none => rc) s

/-! ### Customer instructions (R470–R472) -/

/-- What a sequence holds until its end: the temporaries, register and stores held, and the ST word. -/
structure UcRun where
  temps  : List Word
  regs   : List (Nat × Word)
  stores : List (Nat × Nat × Word)
  st     : Word
  deriving DecidableEq, Repr

/-- What a UDn knows of its main word and EXT. -/
structure UcArgs where
  r    : Fin 16
  gs   : Option (Fin 16)
  ximm : Nat
  v    : Bool
  deriving DecidableEq, Repr

/-- A decode entry is valid (R470). -/
def udValid (d : Nat) : Bool := bit d 39 && fld d 15 24 == 0 && decide (16 ≤ fld d 0 9) && decide (fld d 0 9 + fld d 9 5 ≤ 511)

/-- EXTOK of a valid decode entry. -/
def udEntry (e : Engine) (n : Nat) : Option Bool := let d := ucOf e n; if udValid d then some (bit d 14) else none

/-- The live parity injection stands on an entry (R538). -/
def ucParity (k : Fin 12) (i : Nat) (s : State) : Bool :=
  match injected 4 s with
  | some p => 9 + fld p 0 2 == k.val && fld p 2 9 == i
  | none => false

/-- The microcode parity error of an entry: counted, and the ECC trap (R472, R538). -/
def ucParityStop {α : Type} (k : Fin 12) (i : Nat) (s : State) : EngRes α :=
  stop 5 (word i) 3 (faultBy true 2 0x0004 2 k.val 0 0 (word i) (regInc 0x4010005C 16 s))

/-- The source of a selector (R471): architectural registers read as before the instruction. -/
def ucSrc (e : Engine) (a : UcArgs) (imm : Word) (u : UcRun) (sel : Nat) : Word :=
  if sel < 8 then u.temps.getD sel 0
  else match sel with
    | 8 => gGet e a.r
    | 9 => match a.gs with | some g => gGet e g | none => 0
    | 10 => imm
    | 11 => word a.ximm
    | 12 => e.sa | 13 => e.da | 14 => e.rc
    | _ => word (b2n a.v)

/-- The destination of a selector (R471): temporaries at once, the rest held. -/
def ucDst (v : Word) (u : UcRun) (sel : Nat) : UcRun :=
  if sel < 8 then { u with temps := u.temps.set sel v }
  else if sel = 8 ∨ sel = 9 ∨ (12 ≤ sel ∧ sel ≤ 14) then { u with regs := u.regs ++ [(sel, v)] }
  else u

/-- The ALU class (R471). -/
def ucAlu (fn : Nat) (a b : Word) : Word :=
  match fn with
  | 0 => a + b | 1 => a - b | 2 => a &&& b | 3 => a ||| b | 4 => a ^^^ b
  | 5 => (shiftVal .lsl a (wfld b 0 8)).1 | 6 => (shiftVal .lsr a (wfld b 0 8)).1
  | 7 => (shiftVal .asr a (wfld b 0 8)).1 | 8 => (shiftVal .ror a (wfld b 0 8)).1
  | 9 => mulLow a b | 10 => mulHigh false a b | 11 => mulHigh true a b
  | 12 => if a.slt b then a else b | 13 => if a.slt b then b else a
  | 14 => if a.ult b then a else b | _ => if a.ult b then b else a

/-- The width of a LOAD or STORE micro-operation (R471). -/
def ucWidth (fn : Nat) : Option Width :=
  match fld fn 0 2 with
  | 0 => some { size := 4, sgn := false }
  | 1 => some { size := 2, sgn := bit fn 2 }
  | 2 => some { size := 1, sgn := bit fn 2 }
  | _ => none

/-- The condition of a SKIP (R471): none for a reserved FN. -/
def ucSkip (fn : Nat) (a : Word) : Option Bool :=
  match fn with
  | 0 => some (a == 0) | 1 => some (a != 0) | 2 => some a.msb | 3 => some (!a.msb) | 4 => some true
  | _ => none

/-- What one micro-operation does: the run after it, the number of operations it skips, none at END, and the state. -/
def ucStep (o : EngOp) (e : Engine) (a : UcArgs) (m : Nat) (u : UcRun) (s : State) : EngRes (UcRun × Option Nat × State) :=
  let fn := fld m 32 4
  let d := fld m 28 4
  let imm := word (wrap 32 (signed 20 (fld m 0 20)))
  let x := ucSrc e a imm u (fld m 24 4)
  let y := ucSrc e a imm u (fld m 20 4)
  let bad : EngRes (UcRun × Option Nat × State) := stop 1 (word (o.w.toNat % 2 ^ 14)) 0 s
  match fld m 36 4 with
  | 0 => .ok (ucDst (ucAlu fn x y) u d, some 0, s)
  | 1 =>
    match ucWidth fn with
    | some w => if bit fn 3 then bad else do
        let p ← loadAt o.k .clean (x + imm) w.size s
        .ok (ucDst (extend w p.1) u d, some 0, p.2)
    | none => bad
  | 2 =>
    match ucWidth fn with
    | some w =>
      if fld fn 2 2 ≠ 0 ∨ 4 ≤ u.stores.length then bad
      else match accessFault o.k true (x + imm).toNat w.size y s with
        | some f => stop f.1 (x + imm) f.2 s
        | none => .ok ({ u with stores := u.stores ++ [((x + imm).toNat, w.size, y)] }, some 0, s)
    | none => bad
  | 3 =>
    match ucSkip fn x with
    | some c => .ok (u, some (if c then fld m 0 5 else 0), s)
    | none => bad
  | 4 =>
    if fld fn 2 2 ≠ 0 then bad
    else
      let st := setZn x u.st
      let st := if bit fn 0 then setC (wbit y 0) st else st
      .ok ({ u with st := if bit fn 1 then setV (wbit y 0) st else st }, some 0, s)
  | 5 => if fn ≠ 0 then bad else .ok (u, none, s)
  | _ => bad

/-- A sequence from its `i`-th micro-operation on; `left` operations are left, so that it ends within its length (R472). -/
def ucSeq (o : EngOp) (e : Engine) (a : UcArgs) (start : Nat) : Nat → Nat → UcRun → State → EngRes (UcRun × State)
  | 0, _, u, s => .ok (u, s)
  | fuel + 1, left, u, s =>
    if left = 0 then .ok (u, s)
    else if ucParity o.k start s then ucParityStop o.k start s
    else match ucStep o e a (ucOf e start) u s with
      | .error t => .error t
      | .ok (u, none, s) => .ok (u, s)
      | .ok (u, some skip, s) => ucSeq o e a (start + 1 + skip) fuel (left - 1 - skip) u s

/-- A held register write commits (R472). -/
def ucCommit (a : UcArgs) (e : Engine) (p : Nat × Word) : Engine :=
  match p.1 with
  | 8 => gPut a.r p.2 e
  | 9 => match a.gs with | some g => gPut g p.2 e | none => e
  | 12 => { e with sa := p.2 }
  | 13 => { e with da := p.2 }
  | _ => { e with rc := p.2 }

/-- UDn (R470–R472). -/
def udOp (o : EngOp) (n : Nat) (a : UcArgs) (s : State) : EngRes State :=
  let e := engOf s o.k
  if ucParity o.k n s then ucParityStop o.k n s
  else
    let d := ucOf e n
    if !udValid d then stop 0 (word (o.w.toNat % 2 ^ 14)) 0 s
    else do
      let len := fld d 9 5 + 1
      let p ← ucSeq o e a (fld d 0 9) len len { temps := List.replicate 8 0, regs := [], stores := [], st := e.st } s
      let s := modEng o.k (fun e => { p.1.regs.foldl (ucCommit a) e with st := p.1.st }) p.2
      let s := p.1.stores.foldl (fun s x => engStore o.k x.1 x.2.1 x.2.2 s) s
      plainOp o id s

/-! ### One instruction -/

/-- An operation runs (R448–R474); `upto` bears on the string group alone. -/
def eopRun (o : EngOp) (upto : Option Nat) (op : EOp) (s : State) : EngRes State :=
  let e := engOf s o.k
  match op with
  | .nop => plainOp o id s
  | .siesta => waitOp o (engReg s o.k 0x34) s
  | .trap _ => .ok s
  | .reti => retiOp o s
  | .fence => (plainOp o id s).map (drain o.k)
  | .sync => (plainOp o id s).map (drain o.k)
  | .mfs n b => plainOp o (fun e => gPut b (specialGet e n) e) s
  | .mts n b => plainOp o (fun e => specialPut n (gGet e b) e) s
  | .stMove false b => plainOp o (fun e => gPut b e.st e) s
  | .stMove true b => plainOp o (fun e => { e with st := stWrite e.mode12 (gGet e b) e.st }) s
  | .ret => retOp o s
  | .mov a b => plainOp o (fun e => gPut a (gGet e b) e) s
  | .movi a w => plainOp o (gPut a w) s
  | .alu f a y => plainOp o (aluStep f a y) s
  | .addi a k => plainOp o (fun e => gSt a (addFlags (gGet e a) (word (wrap 32 k)) false e.st) e) s
  | .addi4 a k => plainOp o (fun e => gPut a (gGet e a + word (wrap 32 (4 * k))) e) s
  | .una f a => plainOp o (fun e => gSt a (unaRun f (gGet e a) e.st) e) s
  | .shift f a y => plainOp o (fun e => gSt a (shiftRun f (gGet e a) (wfld (srcVal e y) 0 8) e.st) e) s
  | .mul a b => plainOp o (fun e => gSt a (logFlags (mulLow (gGet e a) (gGet e b)) e.st) e) s
  | .mulh u a b => plainOp o (fun e => gSt a (logFlags (mulHigh u (gGet e a) (gGet e b)) e.st) e) s
  | .div rem u a b => divStep o rem u a b s
  | .ld d b w disp => loadOp o d w (gGet e b + disp) id s
  | .st d b w disp => storeOp o (gGet e d) w (gGet e b + disp) id s
  | .ldx d b i w u wb => loadOp o d w (idxAddr e b i w u) (idxBack i wb) s
  | .stx d b i w u wb => storeOp o (gGet e d) w (idxAddr e b i w u) (idxBack i wb) s
  | .push a b => pushOp o a b s
  | .pop a b => popOp o a b s
  | .bcc c disp => .ok (modEng o.k (bccStep o c disp) s)
  | .jmp t => .ok (modEng o.k (fun e => jumpTo (srcVal e t) e) s)
  | .call t => callOp o t s
  | .bset a n => plainOp o (fun e => gSt a (setBit (gGet e a) n, bitFlag (gGet e a) n e.st) e) s
  | .bclr a n => plainOp o (fun e => gSt a (clrBit (gGet e a) n, bitFlag (gGet e a) n e.st) e) s
  | .btst a n => plainOp o (fun e => { e with st := bitFlag (gGet e a) n e.st }) s
  | .wait b => waitOp o (gGet e b) s
  | .signal b => signalOp o b s
  | .evclr b => plainOp o (fun e => { e with evtPend := e.evtPend &&& ~~~(gGet e b) }) s
  | .evrd b => plainOp o (fun e => gPut b e.evtPend e) s
  | .cryi b => cryiOp o b s
  | .crys a => crysOp o a s
  | .str f v b => strOp o f v b upto s
  | .chku b => boundsOp o (decide (e.blo.toNat ≤ (gGet e b).toNat) && decide ((gGet e b).toNat ≤ e.bhi.toNat)) (gGet e b) 0 s
  | .chks b => boundsOp o (decide (e.blo.toInt ≤ (gGet e b).toInt) && decide ((gGet e b).toInt ≤ e.bhi.toInt)) (gGet e b) 1 s
  | .chklen a b => boundsOp o (chklenOk e (gGet e a) (gGet e b)) (gGet e a) 2 s
  | .ud n r v gs ximm => udOp o n { r := r, gs := gs, ximm := ximm, v := v } s

/-- What decoding on an engine depends on. -/
def decCtx (s : State) (k : Fin 12) : DecCtx :=
  let e := engOf s k
  { m12 := e.mode12, oem := isOem k, handler := engTm e || engEvm e, udEntry := udEntry e }

/-- The words of an instruction up to the third (R440). -/
def opWords (c : DecCtx) (o : EngOp) : List Nat := (o.ext.map c.extWord ++ [o.w.toNat % 2 ^ 14]).take 3

/-- A word is an EXT prefix (R439, R473). -/
def isExtWord (c : DecCtx) (w : Nat) : Bool := w / 2 ^ (1 + 2 * c.fw) == 0x15

/-- The operand names what the engine meets at its PC: at most three prefixes, the main word no prefix, and on an OEM engine the words that its program
memory holds there; the shipped firmware of E0–E8 is not in the model (DESIGN CHOICE, log 69). -/
def opAtPc (o : EngOp) (s : State) : Bool :=
  let c := decCtx s o.k
  let e := engOf s o.k
  let ws := opWords c o
  decide (o.ext.length ≤ 3) && (o.ext.length == 3 || !isExtWord c (o.w.toNat % 2 ^ 14)) &&
    (!isOem o.k || ws.zipIdx.all fun p => (kvGet (fun _ => 0) e.pmem ((e.pc.toNat + p.2) % 2 ^ 16)).toNat == p.1)

/-- The first word address of an instruction that lies outside program memory (R441). -/
def fetchOut (o : EngOp) (s : State) : Option Nat :=
  let pc := (engOf s o.k).pc.toNat
  ((List.range (min 3 (insLen o))).map fun i => (pc + i) % 2 ^ 16).find? fun a => decide (0xC000 ≤ a)

/-- The live program-memory injection on an engine (R538): whether two bits are flipped. -/
def pmemHit (k : Fin 12) (s : State) : Option Bool :=
  match injected 3 s with
  | some p => if p % 16 = k.val then some (bit p 14) else none
  | none => none

/-- The check bits of the words fetched (R408, R417, R538): corrected, or the ECC trap. -/
def fetchEcc (o : EngOp) (s : State) : EngRes State :=
  let ia := word (engOf s o.k).pc.toNat
  match pmemHit o.k s, o.fetch with
  | some false, _ => .ok (ownCorrected true 0x0003 0x40100054 o.k ia s)
  | some true, _ => ownLost true 0x0003 0x40100058 0 o.k ia s
  | none, .clean => .ok s
  | none, .single => .ok (ownCorrected false 0x0003 0x40100054 o.k ia s)
  | none, .double => ownLost false 0x0003 0x40100058 0 o.k ia s

/-- A stop becomes its trap, TPC at the instruction (R413, R445); an error that hangs E0–E8 resets the engine (R538). -/
def engStopped (o : EngOp) (ia : Half) (tlen : Nat) (t : EngStop) : State :=
  match t.hung with
  | some h => engFault h.1 h.2 t.tval o.k (regCount (engAddr o.k 0x54) 0 16 1 t.after)
  | none => engTrap o.k { cause := t.cause, tval := t.tval, tlen := tlen, detail := t.detail, n := 0, pc := ia } t.after

/-- The result of an instruction as a state. -/
def engEnd (o : EngOp) (ia : Half) (tlen : Nat) (r : EngRes State) : State :=
  match r with
  | .ok s => s
  | .error t => engStopped o ia tlen t

/-- The watchdog expiry held for RETI is taken at the next instruction (R415). -/
def wdtAfter (k : Fin 12) (s : State) : State :=
  let e := engOf s k
  if e.wdtHeld ∧ !engTm e ∧ e.state = .run then
    trapEnter k { cause := 7, tval := 0, tlen := 0, detail := 0, n := 0, pc := e.pc } (modEng k (fun e => { e with wdtHeld := false }) s)
  else s

/-- An engine executes the instruction at its PC when the operand names one of the row's instructions (R417, R438–R444): `pick` selects the row's operations. -/
def engInstr (o : EngOp) (upto : Option Nat) (pick : EOp → Bool) (s : State) : State :=
  let e := engOf s o.k
  if !running s ∨ e.state ≠ .run ∨ !opAtPc o s ∨ (fetchOut o s).isSome then s
  else match engDecode (decCtx s o.k) o.ext o.w with
    | .error _ => s
    | .ok op =>
      if !pick op then s
      else match fetchEcc o s with
        | .error t => engStopped o e.pc (insLen o) t
        | .ok s =>
          match op with
          | .trap n => engTrap o.k { cause := 8, tval := 0, tlen := 0, detail := 0, n := n, pc := e.pc + 1 } s
          | _ => wdtAfter o.k (engEnd o e.pc (insLen o) (eopRun o upto op s))

/-- An engine meets words that are no instruction, or runs out of program memory (R417, R440, R441, R444, R445). -/
def engUnd (o : EngOp) (s : State) : State :=
  let e := engOf s o.k
  if !running s ∨ e.state ≠ .run then s
  else match fetchOut o s with
    | some a => engTrap o.k { cause := 4, tval := word a, tlen := 1, detail := 3, n := 0, pc := e.pc } s
    | none =>
      if !opAtPc o s then s
      else match engDecode (decCtx s o.k) o.ext o.w with
        | .ok _ => s
        | .error f =>
          match fetchEcc o s with
          | .error t => engStopped o e.pc (insLen o) t
          | .ok s =>
            engTrap o.k { cause := if f.1 then 0 else 1, tval := f.2, tlen := min 3 (insLen o), detail := 0, n := 0, pc := e.pc } s

end Sys2Proof.Machine
end

