-- ==== Sys2Proof/Machine/Engines.lean ====
section
/-! DEFINITION. The rows of the Jorsol engines: one meaning for each instruction (R448–R474), and the events that bear on an
engine from outside its program (chapter 12). -/
namespace Sys2Proof.Machine

/-- NOPINSTRUCTION (R448: nothing). -/
def execNopInstruction (o : EngOp) (s : State) : Host.Outcome State Fault Refusal :=
  act (engInstr o none fun op => match op with | .nop => true | _ => false) s

/-- SIESTA (R448). -/
def execSiesta (o : EngOp) (s : State) : Host.Outcome State Fault Refusal :=
  act (engInstr o none fun op => match op with | .siesta => true | _ => false) s

/-- TRAP (R413, R448). -/
def execTrap (o : EngOp) (s : State) : Host.Outcome State Fault Refusal :=
  act (engInstr o none fun op => match op with | .trap _ => true | _ => false) s

/-- RETI (R414). -/
def execReti (o : EngOp) (s : State) : Host.Outcome State Fault Refusal :=
  act (engInstr o none fun op => match op with | .reti => true | _ => false) s

/-- FENCE (R407, R448). -/
def execFence (o : EngOp) (s : State) : Host.Outcome State Fault Refusal :=
  act (engInstr o none fun op => match op with | .fence => true | _ => false) s

/-- SYNC (R407, R448: every block acknowledges a write as it drains). -/
def execSync (o : EngOp) (s : State) : Host.Outcome State Fault Refusal :=
  act (engInstr o none fun op => match op with | .sync => true | _ => false) s

/-- MFS (R449). -/
def execMfs (o : EngOp) (s : State) : Host.Outcome State Fault Refusal :=
  act (engInstr o none fun op => match op with | .mfs _ _ => true | _ => false) s

/-- MTS (R449). -/
def execMts (o : EngOp) (s : State) : Host.Outcome State Fault Refusal :=
  act (engInstr o none fun op => match op with | .mts _ _ => true | _ => false) s

/-- MOV (R450). -/
def execMov (o : EngOp) (s : State) : Host.Outcome State Fault Refusal :=
  act (engInstr o none fun op => match op with | .mov _ _ => true | _ => false) s

/-- MOVI (R450). -/
def execMovi (o : EngOp) (s : State) : Host.Outcome State Fault Refusal :=
  act (engInstr o none fun op => match op with | .movi _ _ => true | _ => false) s

/-- ADD (R442, R451). -/
def execAdd (o : EngOp) (s : State) : Host.Outcome State Fault Refusal :=
  act (engInstr o none fun op => match op with | .alu .add _ _ => true | _ => false) s

/-- SUB (R442, R451). -/
def execSub (o : EngOp) (s : State) : Host.Outcome State Fault Refusal :=
  act (engInstr o none fun op => match op with | .alu .sub _ _ => true | _ => false) s

/-- ADC (R442, R451). -/
def execAdc (o : EngOp) (s : State) : Host.Outcome State Fault Refusal :=
  act (engInstr o none fun op => match op with | .alu .adc _ _ => true | _ => false) s

/-- SBC (R442, R451). -/
def execSbc (o : EngOp) (s : State) : Host.Outcome State Fault Refusal :=
  act (engInstr o none fun op => match op with | .alu .sbc _ _ => true | _ => false) s

/-- AND (R442, R451). -/
def execAnd (o : EngOp) (s : State) : Host.Outcome State Fault Refusal :=
  act (engInstr o none fun op => match op with | .alu .and _ _ => true | _ => false) s

/-- OR (R442, R451). -/
def execOr (o : EngOp) (s : State) : Host.Outcome State Fault Refusal :=
  act (engInstr o none fun op => match op with | .alu .or _ _ => true | _ => false) s

/-- XOR (R442, R451). -/
def execXor (o : EngOp) (s : State) : Host.Outcome State Fault Refusal :=
  act (engInstr o none fun op => match op with | .alu .xor _ _ => true | _ => false) s

/-- CMP (R442, R451). -/
def execCmp (o : EngOp) (s : State) : Host.Outcome State Fault Refusal :=
  act (engInstr o none fun op => match op with | .alu .cmp _ _ => true | _ => false) s

/-- TST (R442, R451). -/
def execTst (o : EngOp) (s : State) : Host.Outcome State Fault Refusal :=
  act (engInstr o none fun op => match op with | .alu .tst _ _ => true | _ => false) s

/-- ADDI (R452). -/
def execAddi (o : EngOp) (s : State) : Host.Outcome State Fault Refusal :=
  act (engInstr o none fun op => match op with | .addi _ _ => true | .addi4 _ _ => true | _ => false) s

/-- NEG (R453). -/
def execNeg (o : EngOp) (s : State) : Host.Outcome State Fault Refusal :=
  act (engInstr o none fun op => match op with | .una .neg _ => true | _ => false) s

/-- NOT (R453). -/
def execNot (o : EngOp) (s : State) : Host.Outcome State Fault Refusal :=
  act (engInstr o none fun op => match op with | .una .not _ => true | _ => false) s

/-- ABS (R453). -/
def execAbs (o : EngOp) (s : State) : Host.Outcome State Fault Refusal :=
  act (engInstr o none fun op => match op with | .una .abs _ => true | _ => false) s

/-- CLZ (R453). -/
def execClz (o : EngOp) (s : State) : Host.Outcome State Fault Refusal :=
  act (engInstr o none fun op => match op with | .una .clz _ => true | _ => false) s

/-- LSL (R454, R455). -/
def execLsl (o : EngOp) (s : State) : Host.Outcome State Fault Refusal :=
  act (engInstr o none fun op => match op with | .shift .lsl _ _ => true | _ => false) s

/-- LSR (R454, R455). -/
def execLsr (o : EngOp) (s : State) : Host.Outcome State Fault Refusal :=
  act (engInstr o none fun op => match op with | .shift .lsr _ _ => true | _ => false) s

/-- ASR (R454, R455). -/
def execAsr (o : EngOp) (s : State) : Host.Outcome State Fault Refusal :=
  act (engInstr o none fun op => match op with | .shift .asr _ _ => true | _ => false) s

/-- ROR (R454, R455). -/
def execRor (o : EngOp) (s : State) : Host.Outcome State Fault Refusal :=
  act (engInstr o none fun op => match op with | .shift .ror _ _ => true | _ => false) s

/-- MUL (R456). -/
def execMul (o : EngOp) (s : State) : Host.Outcome State Fault Refusal :=
  act (engInstr o none fun op => match op with | .mul _ _ => true | _ => false) s

/-- MULH (R456). -/
def execMulh (o : EngOp) (s : State) : Host.Outcome State Fault Refusal :=
  act (engInstr o none fun op => match op with | .mulh false _ _ => true | _ => false) s

/-- MULHU (R456). -/
def execMulhu (o : EngOp) (s : State) : Host.Outcome State Fault Refusal :=
  act (engInstr o none fun op => match op with | .mulh true _ _ => true | _ => false) s

/-- DIV (R457). -/
def execDiv (o : EngOp) (s : State) : Host.Outcome State Fault Refusal :=
  act (engInstr o none fun op => match op with | .div false _ _ _ => true | _ => false) s

/-- REM (R457). -/
def execRem (o : EngOp) (s : State) : Host.Outcome State Fault Refusal :=
  act (engInstr o none fun op => match op with | .div true _ _ _ => true | _ => false) s

/-- LD (R458). -/
def execLd (o : EngOp) (s : State) : Host.Outcome State Fault Refusal :=
  act (engInstr o none fun op => match op with | .ld .. => true | _ => false) s

/-- ST (R458). -/
def execSt (o : EngOp) (s : State) : Host.Outcome State Fault Refusal :=
  act (engInstr o none fun op => match op with | .st .. => true | _ => false) s

/-- LDX (R459). -/
def execLdx (o : EngOp) (s : State) : Host.Outcome State Fault Refusal :=
  act (engInstr o none fun op => match op with | .ldx .. => true | _ => false) s

/-- STX (R459). -/
def execStx (o : EngOp) (s : State) : Host.Outcome State Fault Refusal :=
  act (engInstr o none fun op => match op with | .stx .. => true | _ => false) s

/-- PUSH (R460). -/
def execPush (o : EngOp) (s : State) : Host.Outcome State Fault Refusal :=
  act (engInstr o none fun op => match op with | .push _ _ => true | _ => false) s

/-- POP (R460). -/
def execPop (o : EngOp) (s : State) : Host.Outcome State Fault Refusal :=
  act (engInstr o none fun op => match op with | .pop _ _ => true | _ => false) s

/-- BCC (R443, R461). -/
def execBcc (o : EngOp) (s : State) : Host.Outcome State Fault Refusal :=
  act (engInstr o none fun op => match op with | .bcc _ _ => true | _ => false) s

/-- JMP (R462). -/
def execJmp (o : EngOp) (s : State) : Host.Outcome State Fault Refusal :=
  act (engInstr o none fun op => match op with | .jmp _ => true | _ => false) s

/-- CALL (R462, R474). -/
def execCall (o : EngOp) (s : State) : Host.Outcome State Fault Refusal :=
  act (engInstr o none fun op => match op with | .call _ => true | _ => false) s

/-- RET (R474). -/
def execRet (o : EngOp) (s : State) : Host.Outcome State Fault Refusal :=
  act (engInstr o none fun op => match op with | .ret => true | _ => false) s

/-- STMOVE (R474). -/
def execStMove (o : EngOp) (s : State) : Host.Outcome State Fault Refusal :=
  act (engInstr o none fun op => match op with | .stMove _ _ => true | _ => false) s

/-- BSET (R463). -/
def execBset (o : EngOp) (s : State) : Host.Outcome State Fault Refusal :=
  act (engInstr o none fun op => match op with | .bset _ _ => true | _ => false) s

/-- BCLR (R463). -/
def execBclr (o : EngOp) (s : State) : Host.Outcome State Fault Refusal :=
  act (engInstr o none fun op => match op with | .bclr _ _ => true | _ => false) s

/-- BTST (R463). -/
def execBtst (o : EngOp) (s : State) : Host.Outcome State Fault Refusal :=
  act (engInstr o none fun op => match op with | .btst _ _ => true | _ => false) s

/-- WAIT (R419, R464). -/
def execWait (o : EngOp) (s : State) : Host.Outcome State Fault Refusal :=
  act (engInstr o none fun op => match op with | .wait _ => true | _ => false) s

/-- SIGNAL (R464). -/
def execSignal (o : EngOp) (s : State) : Host.Outcome State Fault Refusal :=
  act (engInstr o none fun op => match op with | .signal _ => true | _ => false) s

/-- EVCLR (R464). -/
def execEvclr (o : EngOp) (s : State) : Host.Outcome State Fault Refusal :=
  act (engInstr o none fun op => match op with | .evclr _ => true | _ => false) s

/-- EVRD (R464). -/
def execEvrd (o : EngOp) (s : State) : Host.Outcome State Fault Refusal :=
  act (engInstr o none fun op => match op with | .evrd _ => true | _ => false) s

/-- CRYI (R465). -/
def execCryi (o : EngOp) (s : State) : Host.Outcome State Fault Refusal :=
  act (engInstr o none fun op => match op with | .cryi _ => true | _ => false) s

/-- CRYS (R465). -/
def execCrys (o : EngOp) (s : State) : Host.Outcome State Fault Refusal :=
  act (engInstr o none fun op => match op with | .crys _ => true | _ => false) s

/-- MOVS (R466, R467). -/
def execMovs (o : EngOp) (upto : Option Nat) (s : State) : Host.Outcome State Fault Refusal :=
  act (engInstr o upto fun op => match op with | .str .movs _ _ => true | _ => false) s

/-- FILLS (R466, R467). -/
def execFills (o : EngOp) (upto : Option Nat) (s : State) : Host.Outcome State Fault Refusal :=
  act (engInstr o upto fun op => match op with | .str .fills _ _ => true | _ => false) s

/-- CMPS (R466, R467). -/
def execCmps (o : EngOp) (upto : Option Nat) (s : State) : Host.Outcome State Fault Refusal :=
  act (engInstr o upto fun op => match op with | .str .cmps _ _ => true | _ => false) s

/-- SCANS (R466, R467). -/
def execScans (o : EngOp) (upto : Option Nat) (s : State) : Host.Outcome State Fault Refusal :=
  act (engInstr o upto fun op => match op with | .str .scans _ _ => true | _ => false) s

/-- CRCS (R466, R467). -/
def execCrcs (o : EngOp) (upto : Option Nat) (s : State) : Host.Outcome State Fault Refusal :=
  act (engInstr o upto fun op => match op with | .str .crcs _ _ => true | _ => false) s

/-- CHKU (R469). -/
def execChku (o : EngOp) (s : State) : Host.Outcome State Fault Refusal :=
  act (engInstr o none fun op => match op with | .chku _ => true | _ => false) s

/-- CHKS (R469). -/
def execChks (o : EngOp) (s : State) : Host.Outcome State Fault Refusal :=
  act (engInstr o none fun op => match op with | .chks _ => true | _ => false) s

/-- CHKLEN (R469). -/
def execChklen (o : EngOp) (s : State) : Host.Outcome State Fault Refusal :=
  act (engInstr o none fun op => match op with | .chklen _ _ => true | _ => false) s

/-- UDN (R470–R472). -/
def execUdn (o : EngOp) (s : State) : Host.Outcome State Fault Refusal :=
  act (engInstr o none fun op => match op with | .ud .. => true | _ => false) s

/-- An event of a device that runs; none while it is held, in Midnight or before its clocks. -/
def ifRun (f : State → State) (s : State) : State := if running s then f s else s

/-- An event of an OEM engine alone. -/
def oemOnly (k : Fin 12) (f : State → State) (s : State) : State := if isOem k then f s else s

/-- An engine meets words that are no instruction, or a fetch outside program memory (R440, R441, R444, R445). -/
def execUnd (o : EngOp) (s : State) : Host.Outcome State Fault Refusal := act (engUnd o) s

/-- Event entry (R416). -/
def execEventEntry (k : Fin 12) (s : State) : Host.Outcome State Fault Refusal := act (ifRun (eventEntry k)) s

/-- The first expiry of an engine's watchdog (R413–R415, R423). -/
def execWdtFirstExpiry (k : Fin 12) (s : State) : Host.Outcome State Fault Refusal := act (ifRun (wdtFirst false k)) s

/-- The second expiry (R423, R424). -/
def execWdtSecondExpiry (k : Fin 12) (s : State) : Host.Outcome State Fault Refusal := act (ifRun (wdtSecond false k)) s

/-- After the reload the engine restarts at 0x0010 (R41, R424). -/
def execEngineRestart (k : Fin 12) (s : State) : Host.Outcome State Fault Refusal := act (ifRun (engRestart k)) s

/-- The run action of ENG_Ek_CTRL (R420, R433). -/
def execEngineRunAction (k : Fin 12) (s : State) : Host.Outcome State Fault Refusal := act (ifRun (engRun k)) s

/-- The Siesta action of ENG_Ek_CTRL (R420, R433). -/
def execEngineSiestaAction (k : Fin 12) (s : State) : Host.Outcome State Fault Refusal := act (ifRun (engSiesta k)) s

/-- The reset action of ENG_Ek_CTRL (R424, R433). -/
def execEngineResetAction (k : Fin 12) (s : State) : Host.Outcome State Fault Refusal := act (ifRun (engResetAction k)) s

/-- A write of ENG_Ek_WDKICK (R423). -/
def execWdkick (k : Fin 12) (v : Word) (s : State) : Host.Outcome State Fault Refusal := act (ifRun (wdKick k v)) s

/-- The SEND bit of ENG_Ek_MBX_TXCTL (R421, R437). -/
def execSend (k : Fin 12) (s : State) : Host.Outcome State Fault Refusal := act (ifRun (mboxSend k)) s

/-- The POP bit of ENG_Ek_MBX_RXCTL (R422, R437). -/
def execMbxPop (k : Fin 12) (s : State) : Host.Outcome State Fault Refusal := act (ifRun (mboxPop k)) s

/-- A write of ENG_Ek_UC_LO of an OEM engine (R432). -/
def execUcLo (k : Fin 12) (v : Word) (s : State) : Host.Outcome State Fault Refusal := act (ifRun (oemOnly k (ucLo k v))) s

end Sys2Proof.Machine
end

