-- ==== Sys2Proof/Machine/Commit.lean ====
section
/-! DEFINITION. Commits in flight: the joint acceptance commit, page commits of FeRAM writes, and what a power failure or a reset that acts at once leaves of
the commit it meets (R301–R306, R319, R326). -/
namespace Sys2Proof.Machine

/-- The pages of a payload area that hold the payload of a work (R317, R319). -/
def areaPages (w : Work) : List Nat :=
  if w.area = 0xFF then [] else (List.range ((w.payload.length + 255) / 256)).map fun i => 1056 + 8 * w.area + i

/-- The copies of a record as a commit with this read-back leaves them; one that failed twice is recorded as R302 says of a page. -/
def recordCopies (w : Work) (rb : ReadBack) (s : State) : State :=
  let m := metaIn s.jrn.copies w.recNo
  commitTell none m (m.commit rb) { s with jrn := { s.jrn with copies := metaPut (m.commit rb) s.jrn.copies } }

/-- The pages of the payload of a work are committed (R319). -/
def areaCommits (w : Work) (s : State) : State := (areaPages w).foldl (fun s p => pageCommit p true { a := 0, b := 0 } s) s

/-- One command whose record is committed: its payload and its record, the next SEQ, its place in the queue, ACCEPTED to it and to its twins (R28, R319). -/
def acceptOne (rb : ReadBack) (s : State) (a : Accepting) : State :=
  let seq := s.jrn.nextSeq
  let s := { s with jrn := { s.jrn with works := s.jrn.works ++ [{ a.work with seq := seq }], nextSeq := seq + 1 } }
  let s := recordCopies a.work rb (areaCommits a.work s)
  (a.ret :: a.twins).foldl (fun s r => reply r stAccepted (le 8 seq) s) s

/-- One command whose record could not be verified: it answers HW_FAULT, with its twins, and is not accepted (R28; DEDUCED, log 120). -/
def acceptFails (rb : ReadBack) (s : State) (a : Accepting) : State :=
  (a.ret :: a.twins).foldl (fun s r => refuse r stHwFault 0xFFFF 0x08 s) (recordCopies a.work rb (areaCommits a.work s))

/-- The joint acceptance commit of `n` records has read back (R28, R319): the commands are accepted when both copies verified. -/
def acceptDone (n : Nat) (rb : ReadBack) (s : State) : State :=
  let batch := s.jrn.accepting.take n
  let s := { s with jrn := { s.jrn with accepting := s.jrn.accepting.drop n } }
  if rb.a ≠ 2 ∧ rb.b ≠ 2 then batch.foldl (acceptOne rb) s else batch.foldl (acceptFails rb) s

/-- The last page of a write has committed: NVM_EVENTS tells of it, the work's step is over (R330). -/
def writeOver (work loose : Option Nat) (s : State) : State :=
  let s := raiseNvm 1 s
  readyWork work loose stOk [] s

/-- The status of an OEM service goes to the engine that asked (R412). -/
def oemReply (k : Nat) (code status : Nat) (data : Bytes) (s : State) : State := (mboxPost 0 k ([byte (code + 0x80), byte status] ++ data) s).2

/-- What follows a commit whose content is in place. -/
def commitAfter (c : Commit) (rb : ReadBack) (s : State) : State :=
  let more := s.fer.commits.any fun x => x.kind == c.kind
  match c.kind with
  | .acceptance n => acceptDone n rb s
  | .workPage q => if more then s else writeOver (some q) none s
  | .loosePage q => if more then s else writeOver none (some q) s
  | .legacy => if more then s else v1Deliver 0 0x11 [] (raiseNvm 1 s)
  | .oem k => if more then s else oemReply k 0x02 0 [] s

/-- A commit of a page of an ENC region for which E8 has no storage key (R316). -/
def Commit.unsealed (c : Commit) (s : State) : Bool := !c.isAcceptance && !c.raw && pageEnc s (c.addr / 256) && s.ks.storage.isNone

/-- A write stops before a page that it cannot encrypt: what stands in its way is its status (R291, R316). -/
def writeStops (kind : CommitKind) (s : State) : State :=
  let x := (ksRefusal s).getD (stTamper, 0)
  let s := { s with fer := { s.fer with commits := s.fer.commits.filter (·.kind != kind) } }
  match kind with
  | .acceptance _ => s
  | .workPage q => readyWork (some q) none x.1 (refusalBytes 0xFFFF x.2) s
  | .loosePage q => readyWork none (some q) x.1 (refusalBytes 0xFFFF x.2) s
  | .legacy => v1Deliver x.1.toNat 0x11 [] s
  | .oem k => oemReply k 0x02 x.1.toNat [] s

/-- No page goes into an ENC region unencrypted (R316): writes at the head of the queue that have no key for their page stop. -/
def stopUnsealed : Nat → State → State
  | 0, s => s
  | n + 1, s =>
    match s.fer.commits with
    | [] => s
    | c :: _ => if c.unsealed s then stopUnsealed n (writeStops c.kind s) else s

/-- The next commit of the queue comes to its turn: it has not begun, so that an immediate read may run first (R305; log 182). -/
def nextCommit (s : State) : State :=
  let s := stopUnsealed s.fer.commits.length s
  { s with fer := { s.fer with gap := !s.fer.commits.isEmpty } }

/-- The page of a commit takes its bytes (R301, R302). -/
def commitPage (c : Commit) (rb : ReadBack) (s : State) : State :=
  let page := c.addr / 256
  feramPut (256 * page) (c.stored s) (pageCommit page ((pagePart c.addr c.data page).2.length == 256) rb s)

/-- The commit in flight reads back (R302): its content is in place, and the next commit of the queue follows. -/
def commitDone (rb : ReadBack) (s : State) : State :=
  match s.fer.commits with
  | [] => s
  | c :: rest =>
    let s := if c.isAcceptance then s else commitPage c rb s
    nextCommit (commitAfter c rb { s with fer := { s.fer with commits := rest } })

/-- The commit in flight, if any, is let finish. -/
def flightDone (s : State) : State := if s.fer.gap then s else commitDone { a := 0, b := 0 } s

/-- The commits of a write, one for each page in ascending order (R305). -/
def pageCommits (kind : CommitKind) (addr : Nat) (data : Bytes) : List Commit :=
  (pagesOf addr data.length).map fun p =>
    let part := pagePart addr data p
    { kind := kind, addr := 256 * p + part.1, data := part.2 }

/-- The pages of a write join the commits in flight; a write that finds no commit before it begins at once. -/
def startWrite (kind : CommitKind) (addr : Nat) (data : Bytes) (s : State) : State :=
  let first := s.fer.commits.isEmpty
  let s := { s with fer := { s.fer with commits := s.fer.commits ++ pageCommits kind addr data } }
  if first then stopUnsealed s.fer.commits.length s else s

/-! ### A commit cut short (R303, R306, R319) -/

/-- The copies of a page whose commit is cut, and whether the new content stands (R303); `old` is the content before it, which copy B goes on holding when only copy A
has been written. -/
def PageMeta.cut (m : PageMeta) (old : Bytes) (c : CutAt) : PageMeta × Bool :=
  let put := fun (second : Bool) (x : CopyMeta) (m : PageMeta) => if second then { m with c1 := x } else { m with c0 := x }
  let new : CopyMeta := { gen := m.newest + 1, ok := true }
  let torn : CopyMeta := { gen := m.newest + 1, ok := false }
  match m.degraded with
  | some lost =>
    match c with
    | .before => (m, false)
    | .duringA => (put (!lost) torn m, false)
    | .betweenCopies | .duringB | .after => (put (!lost) new m, true)
  | none =>
    let a1 := m.copyA1
    match c with
    | .before => (m, false)
    | .duringA => (put a1 torn m, false)
    | .betweenCopies =>
      let b := if a1 then m.c0 else m.c1
      (put (!a1) { b with stale := if b.ok then some old else none } (put a1 new m), true)
    | .duringB => (put (!a1) torn (put a1 new m), true)
    | .after => (put (!a1) new (put a1 new m), true)

/-- A page of BOOT or USER as a commit cut short leaves it (R303). -/
def pageCut (x : Commit) (c : CutAt) (s : State) : State :=
  let page := x.addr / 256
  let m := (metaOf s page).cut (storedPage s page) c
  if m.2 then feramPut (256 * page) (x.stored s) (setMeta m.1 s) else setMeta m.1 s

/-- The commit in flight when a power failure or a reset that acts at once comes (R303, R559). Of an acceptance commit nothing stands before its record's copy
B has been read back (R319). -/
def commitCut (c : CutAt) (s : State) : State :=
  match inFlight s with
  | none => s
  | some ⟨.acceptance n, _, _, _⟩ => if c = .after then acceptDone n { a := 0, b := 0 } s else s
  | some x => pageCut x c s

end Sys2Proof.Machine
end

