-- ==== Sys2Proof/Machine/Power.lean ====
section
/-! DEFINITION. The clocks' ticks and the device reset: what a reset clears, what it keeps, and where Dawn begins (R548–R560, R605). -/
namespace Sys2Proof.Machine

/-- The state with the power part changed. -/
def modPow (f : Power → Power) (s : State) : State := { s with power := f s.power }

/-! ### Ticks (R548, R551) -/

/-- One second of the RTC passes: a record's age grows (R237, R250), and the movement that a LEARNING record has been heard in (R240); in failover the
Band L receiver takes its turns (R159). -/
def rtcSecond (s : State) : State :=
  let moves := s.sns.learn && forwardAt s 20
  let s := modSensing (fun n => { n with sensors := n.sensors.map fun x => { x with
    age := min (x.age + 1) 0x3FFF, learnMove := x.learnMove + b2n (moves && x.state == .learning && x.learnN != 0) } })
    (modPow (fun p => { p with rtc := p.rtc + 1, rtcSub := 0 }) s)
  if s.rad.syn1.failed ∨ s.rad.syn2.failed then sensorsListen s else s

/-- One period of the RTC crystal: 1/32,768 s (R551). -/
def rtcPeriod (s : State) : State :=
  if !s.power.rtcRun then s
  else if s.power.rtcSub + 1 < 32768 then modPow (fun p => { p with rtcSub := p.rtcSub + 1 }) s else rtcSecond s

/-- The RTC moves with this tick of CLK_US: 512 periods pass in 15,625 µs. -/
def rtcMoves (t : Word) : Bool := (t.toNat * 512) / 15625 != ((t.toNat + 1) * 512) / 15625

/-- ENG_Ek_CYCLES of the engines that run: 192 cycles in a µs, 48 in Dusk (R432, R548). -/
def countCycles (s : State) : State :=
  let n := if s.power.state = .dusk then 48 else 192
  (List.finRange 12).foldl (fun s k =>
    if (engOf s k).state = .run then regSet (engAddr k 0x5C) (regGet s (engAddr k 0x5C) + word n) s else s) s

/-- A µs of a radio calibration passes; at the end of one on request step 9 follows, and a decision that waited for it starts (R117, R157). -/
def calMoves (s : State) : State :=
  match s.rad.cal with
  | none => s
  | some c =>
    let s := calTick s
    if 1 < c.left then s else startQueued (if c.kind = .full then askOffsets none s else s)

/-- One tick of CLK_US (R548): clocks, store buffers, the password lockout, exchanges and location that wait for the air. -/
def tickUs (s : State) : State :=
  let s := if rtcMoves s.power.clkUs then rtcPeriod s else s
  let s := modPow (fun p => { p with clkUs := p.clkUs + 1, clkTs := p.clkTs + 768 }) s
  let s := { s with fer := { s.fer with pwSince := min (s.fer.pwSince + 1) 60000000, gap := false } }
  let s := (List.finRange 12).foldl (fun s k => drain k s) s
  locPump (slocSilent (slocMoves (cplPump (calMoves (countCycles s)))))

/-- What passes when no command waits: a tick of CLK_US while the clocks run, a period of the RTC while they do not (DESIGN CHOICE, log 2). -/
def tick (s : State) : State :=
  let s := fresh s
  if running s then settle (tickUs s) else if s.power.vsupOk then rtcPeriod s else s

/-! ### The device reset (R559, R560, R605) -/

/-- Registers of the RTC domain (R568), which a reset other than POWER_ON keeps. -/
def rtcRegs : List Nat := [0x40000020, 0x40000024, 0x40000030]

/-- The register file after a reset: reset values but for the RTC domain, VDDIO_HI, and ACC_FOREIGN_CNT while SRAM keeps its contents. -/
def resetRegs (powerOn lost : Bool) (s : State) : List (Nat × Word) :=
  let s0 := { s with regs := [] }
  let keep := (if powerOn then [] else rtcRegs) ++ (if lost then [] else [0x40060008])
  let s1 := keep.foldl (fun s' a => regSet a (regGet s a) s') s0
  (if powerOn then s1 else regSet 0x4000000C (regGet s 0x4000000C &&& 0x100) s1).regs

/-- A sensor record with its runtime lost: its CONFIG item stands (R236, R237). -/
def snsCold (x : Sensor) : Sensor :=
  { newSensor x.index x.state x.s2 x.kind x.family x.id with
    wheelPos := x.wheelPos, candPos := x.wheelPos, conf := x.conf, locFlags := x.locFlags, srcUnit := x.srcUnit, nominal := x.nominal, thrSet := x.thrSet }

/-- The engines after a reset: CONFIG keeps the autostart regions (R428). -/
def resetEngines (s : State) : Vector Engine 12 := s.eng.map fun e => { Engine.reset with autostart := e.autostart }

/-- The journal as a reset leaves it: accepted work with its last boundary, which waits to run on from there, results with COMPLETE to be raised again; untagged work, and
all work with the journal disabled, is lost (R32, R34, R320, R322, R351, R363). Work that had started has the STATE that its record was last committed with: RUNNING from its
first boundary on, ACCEPTED before (DEDUCED, log 121). -/
def resetJournal (s : State) : Journal :=
  let j := s.jrn
  let back := fun (w : Work) =>
    match w.state with
    | .done => { w with completeDue := !bit w.flags.toNat 2 }
    | .running => if w.step = 0 then { w with state := .accepted, ready := none, parked := false } else { w with ready := none, parked := true }
    | .accepted => w
  { j with recovered := false, works := if j.enabled then j.works.map back else [], loose := [], accepting := [],
           ring := if j.enabled then j.ring else [] }

/-- The FeRAM after a reset: what is stored stands, regions are relocked, nothing is in flight (R314, R315). -/
def resetFeram (s : State) : Feram :=
  let f := s.fer
  { f with incr := none, commits := [], gap := false, reads := [], pwSince := 0, patrol := 0, scan := none,
           regions := f.regions.map fun r => { r with runlk := false, wunlk := false } }

/-- The key store after a reset: OTP, blob store, anchors and fuses stand; every key register is lost (R259, R605). -/
def resetKeys (s : State) : KeyStore :=
  let k := s.ks
  { KeyStore.reset with
    root := if (activeSet k.sets).isSome then .committed else .blank, sets := k.sets, handles := k.handles, anchors := k.anchors,
    timeFloor := k.timeFloor, fuse := k.fuse, unlock := k.unlock, unlockNext := k.unlockNext, tamperHistory := k.tamperHistory }

/-- The access logic after a reset: token records, lists, Curfew and latched faults stand; a release that stood, or that the Sundown before this
reset ended, has ended with cause 9 (R24, R63, R72, R79, R82, R92). -/
def resetAccess (lost : Bool) (s : State) : Access :=
  let a := s.acc
  { Access.reset with
    tokens := if lost then a.tokens.map fun t => { t with lastSeen := 0, lastZone := 0 } else a.tokens,
    denylist := a.denylist, decNum := if lost then 0 else a.decNum, ring := if lost then [] else a.ring,
    curfew := a.curfew, curfewEnd := a.curfewEnd, curfewDur := a.curfewDur, foreignAt := if lost then [] else a.foreignAt,
    release := { Release.reset with endCause := if a.release.active || (s.power.state == .held && a.release.endCause == 9) then 9 else 0 },
    enrolLimit := a.enrolLimit, sloFault := a.sloFault, rbFault := a.rbFault }

/-- Couplings after a reset: those whose boundary is journaled stand, with the lists and the certificate of CONFIG (R26, R224). -/
def resetCouplings (s : State) : CouplingSet :=
  { CouplingSet.reset with
    units := s.cpl.units.map fun c => if 4 ≤ c.boundary then c else Coupling.reset c.unit,
    allow := s.cpl.allow, deny := s.cpl.deny, cert := s.cpl.cert, grantSent := s.cpl.grantSent }

/-- The sensing logic after a reset: CONFIG items and the frame-counter table stand, runtime while SRAM keeps it (R234, R236, R237). -/
def resetSensing (lost : Bool) (s : State) : Sensing :=
  { Sensing.reset with
    sensors := if lost then s.sns.sensors.map snsCold else s.sns.sensors, fcnt := s.sns.fcnt, model := s.sns.model, locStage := s.sns.locStage,
    locDefer := s.sns.locDefer, learn := s.sns.learn, dueNoon := if lost then [] else s.sns.dueNoon }

/-- SAF after a reset: what the sensors say, the record and the clears of CONFIG, the Vigil latch of the RTC domain, fault records while SRAM keeps them,
and the record that a monitor's reset owes (R530, R531, R533, R538). -/
def resetSaf (powerOn lost : Bool) (s : State) : Saf :=
  let f := s.saf
  { Saf.reset with
    raw := f.raw, vigil := if powerOn then 0 else f.vigil, vigilN := if powerOn then 0 else f.vigilN, vigilAt := if powerOn then 0 else f.vigilAt,
    record := f.record, clears := f.clears, first := if f.record = 0 then 0 else f.first, firstAt := if f.record = 0 then 0 else f.firstAt,
    faults := if lost then [] else f.faults, nextSeq := if lost then 0 else f.nextSeq,
    due := if lost then none else f.due }

/-- The power part after a reset with a cause. -/
def resetPower (cause : Nat) (lost : Bool) (s : State) : Power :=
  let p := s.power
  let on : Bool := decide (cause = 1)
  { Power.reset with
    state := if !p.vsupOk || (p.vddioOk && !on && (!p.rstN || !p.testN)) then .held else .dawn,
    rtc := if on then 0 else p.rtc, rtcSub := if on then 0 else p.rtcSub, rtcRun := p.rtcRun, rtcValid := !on && p.rtcValid,
    cause := cause, prev := if on then 0 else p.cause, resets := if on then 0 else min (p.resets + 1) 0xFFFF,
    saveOk := p.saveOk, restoreDue := p.restoreDue || lost, vddioOk := !on && p.vddioOk,
    vlfMv := p.vlfMv, vsupOk := p.vsupOk, rstN := p.rstN, testN := p.testN }

/-- A device reset (R559, R605): every block returns to its reset values but for what CONFIG, OTP, the RTC domain and the kept SRAM hold. SRAM is lost with POWER_ON
and with every end of Midnight. LF stays blocked while a tamper record stands: no reset ends a tamper response (R119, R528, R530). -/
def devReset (cause : Nat) (s : State) : State :=
  let on : Bool := decide (cause = 1)
  let lost : Bool := on || s.power.state == .midnight
  let s' : State :=
    { State.reset with
      pending := s.pending, emit := s.emit, drawn := s.drawn, regs := resetRegs on lost s, sram := if lost then [] else s.sram,
      power := resetPower cause lost s, pins := s.pins, jrn := resetJournal s, fer := resetFeram s, cfg := s.cfg, ks := resetKeys s,
      acc := resetAccess lost s, rng := { Ranging.reset with model := s.rng.model }, cpl := resetCouplings s, sns := resetSensing lost s,
      eng := resetEngines s, saf := resetSaf on lost s, lf := { State.reset.lf with tamperBlk := s.saf.record != 0 } }
  repad s s'

/-- A counter increment in flight completes (R310). -/
def incrDone (s : State) : State :=
  match s.fer.incr with
  | none => s
  | some c => ctrInc c { s with fer := { s.fer with incr := none } }

/-- A counter increment cut short (R310): its slot fails its CRC until its last cell is written. -/
def incrCut (c : CutAt) (s : State) : State :=
  match s.fer.incr with
  | none => s
  | some i =>
    match c with
    | .before => s
    | .duringA | .betweenCopies =>
      let x := ctrOf s i
      match x.read with
      | some v => setCtr (x.put { value := v + 1, ok := false }) s
      | none => s
    | .duringB | .after => incrDone s

/-- A reset that waits for a page commit in flight (R559): PIN, SOFT, DEBUG. An increment in flight completes too (DEDUCED, log 70). -/
def resetGraceful (cause : Nat) (s : State) : State := devReset cause (incrDone (flightDone s))

/-- A monitor's reset owes its fault record: detector, INFO, and that a live injection caused it (R538). -/
def oweRecord (det info : Nat) (inj : Bool) (s : State) : State := { s with saf := { s.saf with due := some (det, info, inj), inject := none } }

/-- A reset that acts at once (R559): POWER_ON, CLOCK, VMON. `c` is where it meets the commit or the increment in flight (R303). -/
def resetAtOnce (cause : Nat) (c : CutAt) (s : State) : State := devReset cause (incrCut c (commitCut c s))

end Sys2Proof.Machine
end

