-- ==== Sys2Proof/Machine/Dawn.lean ====
section
/-! DEFINITION. Dawn: SHADOW saved and restored, journal recovery, the root and the key store, CONFIG into the registers, the self-test and Noon (R260–R263, R321–R325,
R354, R411, R428, R499, R561–R566). -/
namespace Sys2Proof.Machine

/-! ### The SHADOW image (R323–R325) -/

/-- Saved runtime of a sensor record (R237): LAST_FCNT, alert level, minutes since last seen plus 1, 0 when never seen (DESIGN CHOICE, log 71). -/
def shadowSensor (s : State) (r : Nat) : Bytes :=
  match snsOf s r with
  | some x => le 4 x.lastFcnt ++ [byte x.alert] ++ le 2 (if x.heard then x.age / 60 + 1 else 0) ++ [0]
  | none => zeros 8

/-- Saved times of a token record: last-seen time and zone (R323). -/
def shadowToken (s : State) (i : Nat) : Bytes :=
  match tokOf s i with
  | some t => le 4 t.lastSeen.toNat ++ [t.lastZone, 0, 0, 0]
  | none => zeros 8

/-- Address of the durable area of an OEM engine, 0 for E9 (R411). -/
def durableAt (i : Nat) : Nat := 0x10380000 + 0x10000 * i

/-- The 256 bytes that a save writes to a SHADOW page (R323): `cause` 1 VSUP, 2 Midnight. -/
def shadowPage (s : State) (cause count : Nat) (dur : Half) (p : Nat) : Bytes :=
  if p < 4 then (List.range 32).flatMap fun i => shadowSensor s (32 * p + i)
  else if p < 10 then slice (fit 1536 (s.acc.ring.flatMap (·.bytes))) (256 * (p - 4)) 256
  else if p < 12 then (List.range 32).flatMap fun i => shadowToken s (32 * (p - 10) + i)
  else if p = 12 then fit 256 ([byte cause, byte count] ++ le 2 dur.toNat ++ le 4 (rtcField s).toNat ++ le 4 (regGet s 0x40060008).toNat)
  else memGet s.sram (durableAt (p - 13)) 256

/-- The pages of a save that commit: cut short after `m.pages`, without those whose copies fail (R324). -/
def savedPages (m : SaveMeas) : List Nat := (List.range m.pages.val).filter fun p => !m.bad.getLsbD p

/-- The save of SHADOW (R324): GEN one above the last save's; SAVE_OK when all 16 pages are committed. -/
def shadowSave (cause : Nat) (m : SaveMeas) (s : State) : State :=
  let good := savedPages m
  let gen := s.fer.shadowGen + 1
  let image := good.foldl (fun im p => memSet im (256 * p) (fit 256 (shadowPage s cause good.length m.dur p))) s.fer.image
  let shadow := s.fer.shadow.zipIdx.map fun g => if good.contains g.2 then some gen else if decide (g.2 < m.pages.val) then none else g.1
  let copies := fun (ok : Bool) (p : Nat) (s : State) =>
    setMeta { page := 1904 + p, c0 := { gen := gen, ok := ok }, c1 := { gen := gen, ok := ok }, degraded := none } s
  let s := (List.range m.pages.val).foldl (fun s p => copies (good.contains p) p s)
    { s with fer := { s.fer with image := image, shadow := shadow, shadowGen := gen } }
  let s := regCount 0x4009000C 0 32 good.length (modPow (fun p => { p with saveOk := decide (good.length = 16) }) s)
  raise 0x40090008 16 s

/-- A SHADOW page as the restore reads it: zero without a valid copy (R325). -/
def shadowBytes (s : State) (p : Nat) : Bytes := if (s.fer.shadow.getD p none).isSome && (metaOf s (1904 + p)).readable then memGet s.fer.image (256 * p) 256 else zeros 256

/-- A decision record from its 24 bytes (R86). -/
def decRecordOf (b : Bytes) : DecRecord :=
  { num := word (at_ b 0 4), trigger := byte (byteAt b 4), outcome := byte (byteAt b 5), reason := byte (byteAt b 6), record := byte (byteAt b 7),
    cls := byte (byteAt b 8), zone := byte (byteAt b 9), rbeCm := BitVec.ofNat 16 (at_ b 10 2), mcpCm := BitVec.ofNat 16 (at_ b 12 2),
    foreign := byte (byteAt b 14), repoll := byte (byteAt b 15), t0 := word (at_ b 16 4), duration := BitVec.ofNat 16 (at_ b 20 2),
    flags := byte (byteAt b 22) }

/-- Decision records of the saved ring; a record numbered 0 stands for none. -/
def shadowRing (s : State) : List DecRecord :=
  let b := (List.range 6).flatMap fun i => shadowBytes s (4 + i)
  ((List.range 64).map fun i => decRecordOf (slice b (24 * i) 24)).filter fun r => r.num != 0

/-- A sensor record takes its saved runtime. -/
def sensorRestored (b : Bytes) (x : Sensor) : Sensor :=
  let mins := at_ b 5 2
  { x with lastFcnt := at_ b 0 4, alert := byteAt b 4, heard := mins != 0, age := min 0x3FFF (60 * (mins - 1)) }

/-- The restore of R325 and R411. The decision number goes on from the newest record (DEDUCED, log 71). -/
def shadowRestore (s : State) : State :=
  let sensor := fun (x : Sensor) => sensorRestored (slice (shadowBytes s (x.index / 32)) (8 * (x.index % 32)) 8) x
  let token := fun (t : TokenRec) =>
    let b := slice (shadowBytes s (10 + t.index / 32)) (8 * (t.index % 32)) 8
    { t with lastSeen := word (at_ b 0 4), lastZone := byte (byteAt b 4) }
  let ring := shadowRing s
  let sys := shadowBytes s 12
  let sram := (List.range 3).foldl (fun m i => memSet m (durableAt i) (shadowBytes s (13 + i))) s.sram
  let s := modSensing (fun n => { n with sensors := n.sensors.map sensor }) { s with sram := sram }
  let s := modAcc (fun a => { a with tokens := a.tokens.map token, ring := ring, decNum := ((ring.getLast?.map (·.num)).getD 0) }) s
  let s := regSet 0x40060008 (word (at_ sys 8 4)) s
  let s := regSet 0x40000050 (word (byteAt sys 0 % 4 + 4 * (byteAt sys 1 % 32) + 128 * at_ sys 2 2)) s
  raise 0x40090008 32 (modPow (fun p => { p with restoreDue := false }) s)

/-! ### Rows 4–9 of Dawn (R561) -/

/-- A milestone of R568 takes the CLK_US tick. -/
def milestone (n : Nat) (s : State) : State := regSet (0x40000060 + 4 * n) (now s) s

/-- The BOOT page that fails the check of row 6, if any (R564). -/
def bootFault (m : DawnMeas) (s : State) : Option Nat :=
  match m.bootBad with
  | some p => some p.val
  | none => (s.fer.pages.find? fun x => decide (x.page < 576) && !x.readable).map (·.page)

/-- Both CAN controllers take their saved bit timing and enter LISTEN (R499). -/
def canListen (s : State) : State :=
  [0, 1].foldl (fun s b =>
    let s := (s.cfg.saved.filter fun p => p.1 == canBase b + 0xC || p.1 == canBase b + 0x10).foldl (fun s p => regSet p.1 p.2 s) s
    modCan b (fun c => { c with state := .listen, live := (regGet s (canBase b + 0xC), regGet s (canBase b + 0x10)) }) (regPutFld (canBase b) 0 2 1 s)) s

/-- E0–E8 start on their images (row 7); E0 no longer restarts. -/
def enginesStart (s : State) : State :=
  let s := (List.finRange 12).foldl (fun s k =>
    if isOem k then s
    else modEng k (fun e => { e with state := .run, pc := 0x0010, pmemValid := true, restartDue := false, loadOk := true, loadSrc := 0 }) s) s
  { s with link := { s.link with e0Restart := false } }

/-- CONFIG items that a Dawn puts into force: role, vehicle, region, journal (R1, R322, R377). -/
def configInForce (s : State) : State :=
  { s with cfg := { s.cfg with role := s.cfg.roleNext, vid := s.cfg.vidNext, region := s.cfg.regionNext }, jrn := { s.jrn with enabled := s.jrn.enabledCfg } }

/-- Records and ring entries of which no copy checks: those so already, and those that the recovery finds (R303, R321). -/
def lostUnits (found : List Nat) (s : State) : List Nat :=
  found.eraseDups ++ ((s.jrn.copies.filter fun m => !m.readable && !found.contains m.page).map (·.page))

/-- One record or ring entry is lost (R321): work, result or internal record with what it held. A fault record names a lost record by its number among the journal's copies
(DESIGN CHOICE, log 183). -/
def loseUnit (s : State) (n : Nat) : State :=
  let bad : PageMeta := { metaIn s.jrn.copies n with c0 := { gen := (metaIn s.jrn.copies n).c0.gen, ok := false }, c1 := { gen := (metaIn s.jrn.copies n).c1.gen, ok := false } }
  let held : Bool := s.jrn.works.any (·.recNo == n) || (decide (96 ≤ n) && s.jrn.internal.contains (n - 96))
  let j := { s.jrn with
    copies := metaPut bad s.jrn.copies, works := s.jrn.works.filter (·.recNo != n), ring := s.jrn.ring.filter fun e => ringUnit e.num != n,
    internal := s.jrn.internal.filter fun i => internalUnit i != n }
  let s := raiseNvm 4 { s with jrn := j }
  let s := if n = internalUnit 4 then modAcc (fun a => { a with curfew := false }) s else s
  let s := if n = internalUnit 5 then modSensing (fun x => { x with learn := false }) s else s
  let s := { s with cpl := { s.cpl with units := s.cpl.units.map fun c => if held && internalUnit (c.unit - 1) == n && decide (c.boundary < 6) then Coupling.reset c.unit else c } }
  if held then fault 0x0005 4 0xFF 0 2 (word n) s else s

/-- The packet that an unfinished record gives is not the one received (R321): a page of its payload area has no valid copy, or its PKT_CRC does not check. -/
def payloadBad (badSeqs : List Nat) (s : State) (w : Work) : Bool :=
  w.state != .done && (badSeqs.contains w.seq || (areaPages w).any fun p => !(metaOf s p).readable)

/-- A command whose packet fails the check completes with HW_FAULT and is not run (R321). -/
def payloadFails (s : State) (w : Work) : State :=
  recordDone { w with state := .done, pct := 100, status := stHwFault, result := refusalBytes 0xFFFF 0x08, ready := none, parked := false,
                      completeDue := !bit w.flags.toNat 2 } s

/-- A completed record of which the ring has no entry gets one (R321). -/
def ringMissing (s : State) (w : Work) : State :=
  jrnCommit (ringUnit s.jrn.nextNum) { s with jrn := { s.jrn with ring := (ringEntry s.jrn.nextNum w :: s.jrn.ring).take 64, nextNum := s.jrn.nextNum + 1 } }

/-- Journal recovery (R321): lost records, the check of every payload, and the ring entries that a cut completion left out, in SEQ order. -/
def jrnRecover (m : DawnMeas) (s : State) : State :=
  let s := if !s.jrn.enabled then s
    else
      let s := (lostUnits m.recLost s).foldl loseUnit s
      let s := (s.jrn.works.filter (payloadBad m.badSeqs s)).foldl payloadFails s
      (s.jrn.works.filter fun w => w.state == .done && !(s.jrn.ring.any fun e => e.seq == w.seq)).foldl ringMissing s
  { s with jrn := { s.jrn with recovered := true } }

/-- The one retry of a DEGRADED unit's failed copy succeeds (R302). -/
def PageMeta.retried (m : PageMeta) : PageMeta :=
  if m.degraded.isNone || !m.readable then m
  else { m with c0 := { gen := m.newest, ok := true }, c1 := { gen := m.newest, ok := true }, degraded := none }

/-- The one retry of the failed copy of each DEGRADED page, item, record and ring entry (R302); `bad` lists the pages whose retry fails. -/
def retryDegraded (bad : List Nat) (s : State) : State :=
  { s with
    fer := { s.fer with pages := s.fer.pages.map fun m => if bad.contains m.page then m else m.retried, config := s.fer.config.map (·.retried) },
    jrn := { s.jrn with copies := s.jrn.copies.map (·.retried) } }

/-- Each record's LAST_FCNT is the greater of the table's value and the one kept or restored (R234). -/
def fcntFloor (s : State) : State :=
  modSensing (fun n => { n with sensors := n.sensors.map fun x =>
    { x with lastFcnt := max x.lastFcnt (((n.fcnt.find? (·.1 == x.index)).map (·.2)).getD 0) } }) s

/-! ### The root (R260–R262) -/

/-- The first blank set that is not void, in a list of sets with their numbers. -/
def blankSet (l : List RootSet) : Option Nat := l.findIdx? fun r => !r.programmed && !r.void

/-- Root generation over the sets in order (R261, R262): a set whose read-back mismatches is voided and the next one taken; at most three sets. -/
def rootSets (root mask : Nat) (bad : List Nat) : Nat → List RootSet → List RootSet × Bool
  | 0, l => (l, false)
  | n + 1, l =>
    match blankSet l with
    | none => (l, false)
    | some i =>
      let put := fun (r : RootSet) => { r with s0 := root ^^^ mask, s1 := mask, programmed := true }
      if bad.contains i then rootSets root mask bad n (modAt i (fun r => { put r with void := true }) l)
      else (modAt i (fun r => { put r with commit := true }) l, true)

/-- A Dawn that finds no active set generates a root (R261, R262): sets left without COMMIT are voided first; three failures of the start-up tests leave the set
blank for this Dawn. -/
def rootGenerate (m : DawnMeas) (s : State) : State :=
  let l := s.ks.sets.map fun r => if r.programmed && !r.commit then { r with void := true } else r
  if 3 ≤ m.rngFails then { s with ks := { s.ks with sets := l, root := .failed } }
  else
    let g := rootSets (leNat (peekBytes s 0 32)) (leNat (peekBytes s 8 32)) m.rootBad 3 l
    let s := draw 16 { s with ks := { s.ks with sets := g.1, root := if g.2 then .committed else .failed } }
    if g.2 then regOr 0x4000000C 8 s else s

/-- The start-up of the randomness source (R261, R262, R616): three failures of its tests leave it halted. -/
def randomStart (fails : Nat) (s : State) : State :=
  if 3 ≤ fails then { s with cry := { s.cry with trngOk := false, drbgOk := false, halt := true } }
  else reseed { s with cry := { s.cry with trngOk := true, drbgOk := true, halt := false, failAt := [] } }

/-- Handles that the scrub spares: those of updates past their first boundary (R278). -/
def updatesResumed (s : State) : List Nat :=
  s.jrn.works.filterMap Work.updating

/-- The key-store step of Dawn (R263, R278, R288, R530): root, latch, open sequence, journaled couplings. -/
def keyStep (m : DawnMeas) (s : State) : State :=
  let s := randomStart m.rngFails s
  let s := { s with ks := { s.ks with testRoot := s.ks.fuse || s.ks.unlockNext, unlock := s.ks.unlockNext } }
  let s := if activeSet s.ks.sets = none then rootGenerate m s else { s with ks := { s.ks with root := .committed } }
  let s := { s with saf := { s.saf with latched := s.saf.record ||| s.saf.vigil ||| s.saf.raw } }
  cplRecover (ksOpen (updatesResumed s) s)

/-! ### CONFIG into the registers, calibrations, OEM engines (R93, R156, R256, R428, R512) -/

/-- Saved register values and role-dependent resets are loaded; SERVICE reloads as NORMAL (R82, R93, R256, R512). -/
def configRegs (s : State) : State :=
  let s := if roleOf s = .tractor then regPutFld 0x40070100 2 2 1 s else s
  let s := if roleOf s = .trailer then regPutFld 0x400D000C 0 8 (if ownChannel s = 0 then 0 else regFld s 0x400D0010 (8 * (ownChannel s - 1)) 8) s else s
  let s := s.cfg.saved.foldl (fun s p => if p.1 = 0x40030070 then regSet p.1 (setFld p.2 16 8 (wfld p.2 17 1 * 2 + 129)) s else regSet p.1 p.2 s) s
  let s := loadAccess s.cfg.vid s
  if regFld s 0x40060000 0 2 = 2 then regPutFld 0x40060000 0 2 0 s else s

/-- OEM engines with an autostart region are loaded and started (R428). -/
def autostart (s : State) : State :=
  (List.finRange 12).foldl (fun s k =>
    let e := engOf s k
    match e.autostart with
    | none => s
    | some r =>
      match loadImage s (s.fer.regions.getD r .none) e with
      | .ok e' => setEng k { e' with state := .run, pc := 0x0010 } s
      | .error _ => fault 0x000E 3 k.val 0 0 (word k.val) (setEng k (loadFailed e) s)) s

/-- The record that a monitor's reset owes is written (R538), with its counter. -/
def oweWritten (s : State) : State :=
  match s.saf.due with
  | none => s
  | some (det, info, inj) =>
    let s := { s with saf := { s.saf with due := none } }
    let s := if det = 7 then regInc 0x40100064 16 s else regInc 0x40100068 16 s
    faultBy inj 3 det 2 0xFF 8 0 (word info) s

/-- BOOT_FAIL (R564): CAN stays in LISTEN, and the recovery session's nonce is drawn (R565). -/
def bootFailed (page reloads : Nat) (s : State) : State :=
  let nonce := peekBytes s 0 16
  let s := draw 4 s
  modPow (fun p => { p with state := .bootFail, failPage := page, recovery := some { nonce := nonce, failures := 0, verified := false } }) (regSet 0x4000004C (word (2 + 4 * reloads + 64 * page)) s)

/-- Rows 6–15 of Dawn once BOOT has passed its check, but for the release self-test. -/
def dawnRun (m : DawnMeas) (s : State) : State :=
  let s := milestone 1 (regOr 0x40090004 1 (regSet 0x4000004C (word (1 + 4 * m.reloads.val)) s))
  let s := milestone 2 (enginesStart (configInForce s))
  let s := milestone 3 (jrnRecover m s)
  let s := retryDegraded m.stillBad s
  let s := fcntFloor (if s.power.restoreDue then shadowRestore s else s)
  let s := milestone 4 (keyStep m s)
  let s := configRegs s
  let s := [0, 1, 2, 3].foldl (fun s i => if (synOf s i).failed then s else setChain i .idle s) s
  let s := calibrate m.cal (regSet 0x40050024 (word m.tcal.toNat) (tminApply s))
  let s := milestone 5 (vlfFlags s.power.vlfMv (measureOffsets s))
  modPow (fun p => { p with stage := .booted }) (oweWritten (autostart s))

/-- The XO is qualified and PLL_ROOT locks: rows 3–15 (R549, R561). A Dawn that E0's watchdog sent back to row 6 goes on from there (R564). -/
def xoQualified (m : DawnMeas) (s : State) : State :=
  if s.power.state ≠ .dawn ∨ s.power.stage ≠ .waitXo then s
  else
    let s := if s.power.pll then s else milestone 0 (modPow (fun p => { p with pll := true }) s)
    let s := canListen { s with link := { s.link with answers := true } }
    match bootFault m s with
    | some page => bootFailed page m.reloads.val s
    | none => dawnRun m s

/-- The release self-test (R563): CAN is ACTIVE by then (row 11); two mismatches in a row latch. Each readback gives the level SLO_A is driven to and the levels read
on SLO_A and SLO_B. -/
def selfTest (reads : List (Bool × Bool × Bool)) (s : State) : State :=
  if s.power.state ≠ .dawn ∨ s.power.stage ≠ .booted then s
  else
    let s := lastReadback reads (canNoon s)
    let s := if twoInRow (testMismatches reads) then sloLatch false 0 s else s
    modPow (fun p => { p with stage := .selfTested }) (milestone 6 (regOr 0x4000000C 0x20 s))

/-! ### Noon (R63, R352–R355, R531, R561, R566) -/

/-- The RESET event (R352, R353). -/
def resetEvent (s : State) : State :=
  let pending := countWorks s (fun w => w.state != .done)
  let uncoll := countWorks s (fun w => w.state == .done)
  let o := eventPkt 0x02 0 ([byte s.power.cause, byte pending, byte uncoll, byte s.link.dawnq.length] ++ le 4 0x77200B01)
  (resetPorts s).foldl (fun s p => queueEvent p o s) s

/-- Curfew at Noon (R63): over when its end has passed, run anew after POWER_ON. -/
def curfewNoon (s : State) : State :=
  if !s.acc.curfew then s
  else if s.power.cause = 1 then
    jrnCommit (internalUnit 4) (modAcc (fun a => { a with curfewEnd := s.power.rtc + word a.curfewDur }) s)
  else if curfewLeft s = 0 then curfewStop s
  else s

/-- Noon is reached from Dawn (row 17): the RESET event first, then what Dawn owes to the host, then decisions may start. -/
def dawnNoon (s : State) : State :=
  if s.power.state ≠ .dawn ∨ s.power.stage ≠ .selfTested then s
  else
    let s := modPow (fun p => { p with state := .noon, stage := .done }) (milestone 7 s)
    let s := resetEvent s
    let s := if s.ks.state = .lockdown then tamperEvent s else s
    let s := if regBit s 0x4000000C 3 then raiseKst 0x20 s else s
    let s := requeueComplete (raise 0x40000010 1 (curfewNoon s))
    startQueued (locResume (sensorsListen (reportDusk s)))

end Sys2Proof.Machine
end

