-- ==== Sys2Proof/Machine/Sleep.lean ====
section
/-! DEFINITION. Dusk, Midnight, Sundown, the resets as they are caused, the supplies and clocks that fail, and recovery in BOOT_FAIL (R324, R545–R560, R565, R567, R581). -/
namespace Sys2Proof.Machine

/-! ### Dusk (R553, R554) -/

/-- The device is idle (R553). -/
def duskIdle (s : State) : Bool :=
  s.acc.decision.isNone && !s.acc.release.active && s.acc.triggers.isEmpty && s.acc.waiting.isEmpty &&
  (s.cpl.units.all fun c => c.state != .handshake) && s.sns.loc.isNone &&
  (s.jrn.works.all fun w => w.state == .done) && (s.jrn.loose.all fun w => w.state == .done) && s.jrn.accepting.isEmpty &&
  s.lf.telegram.isNone && s.rad.cal.isNone && s.rad.calDue.isEmpty && s.rad.bandL.order.isEmpty && s.rad.bandL.sending.isNone && s.rad.bandH.order.isEmpty &&
  s.rad.bandH.sending.isNone && s.rng.rbe.isNone && s.rng.mcp.isNone && s.rng.cs.isNone && s.link.hcs0.outq.isEmpty && s.link.hcs0.opn.isEmpty

/-- Engines that the entry to Dusk sends into Siesta: those that run, but for E0 and E1. -/
def duskSleepers (s : State) : List Nat := ((List.finRange 12).filter fun k => decide (2 ≤ k.val) && (engOf s k).state == .run).map (·.val)

/-- Both CAN controllers enter CONFIG, their pins recessive. -/
def canQuiet (s : State) : State := [0, 1].foldl (fun s b => modCan b (fun c => { c with state := .config }) (regPutFld (canBase b) 0 2 0 s)) s

/-- The six steps of the entry to Dusk (R553). -/
def enterDusk (s : State) : State :=
  let sleepers := duskSleepers s
  let s := modRad (fun x => { x with l1 := .sleep, l2 := .off, hTx := .off, hRx := .off, sniff := true }) s
  let s := sleepers.foldl (fun s n => modEng (engNo n) (fun e => { e with state := .siesta, waitMask := some 0xFFFFFFFF }) s) s
  let s := if regBit s 0x4000001C 1 then s else canQuiet s
  raise 0x40000010 2 (modPow (fun p => { p with state := .dusk, duskDue := false, exitDue := false, duskEngs := sleepers }) s)

/-- Dusk is entered once the device is idle: asked for by POWER, or of itself with AUTO_DUSK (R553). -/
def duskEntry (s : State) : State :=
  if inNoon s && (s.power.duskDue || regBit s 0x4000001C 0) && duskIdle s then enterDusk s else s

/-- Chains leave OFF for IDLE where their synthesiser works (R144, R554). -/
def chainsIdle (s : State) : State :=
  [0, 1, 2, 3].foldl (fun s i =>
    if (chainOf s i = .off ∨ chainOf s i = .sleep) ∧ !(synOf s i).failed then setChain i .idle s else s) (modRad (fun x => { x with sniff := false }) s)

/-- The clock, the engines, the chains and the buses of Noon come back (R554). -/
def leaveDusk (s : State) : State :=
  let back := s.power.duskEngs
  let s := modPow (fun p => { p with state := .noon, exitDue := false, duskDue := false, duskEngs := [] }) s
  let s := back.foldl (fun s n => modEng (engNo n) (fun e => if e.state = .siesta then { e with state := .run, waitMask := none } else e) s) s
  let s := [0, 1].foldl (fun s b =>
    if (canOf s b).state = .config then modCan b (fun c => { c with state := .active, integrating := true }) (regPutFld (canBase b) 0 2 2 s) else s) s
  raise 0x40000010 1 (chainsIdle s)

/-! ### Midnight (R555, R556) -/

/-- What the entry to Midnight discards: output, CAN frames and buffers; chains go OFF, descriptors end LATE (R161, R363, R520). -/
def midnightShed (s : State) : State :=
  let quiet := fun (p : PortState) => { p with outq := [], opn := [] }
  let s := { s with link := { s.link with hcs0 := quiet s.link.hcs0, uart := quiet s.link.uart, held := [] } }
  let s := [0, 1].foldl (fun s b => modCan b (fun c => { c with rx0 := [], rx1 := [], pend := [], jobs := [] }) s) (canQuiet s)
  radioOff 5 (rngShed s)

/-- The entry to Midnight (R555): CS_WAKE copied, output shed, the time floor raised and SHADOW saved, FeRAM and VCORE off; slots, shares and derived keys are lost with
VCORE (R259, R266). -/
def enterMidnight (m : SaveMeas) (s : State) : State :=
  let s := regPutFld 0x40000020 5 1 (regFld s 0x40010000 4 1) s
  let s := shadowSave 2 m (raiseFloor (incrDone (flightDone (midnightShed s))))
  modPow (fun p => { p with state := .midnight, pll := false })
    { s with link := { s.link with afterReply := none }, ks := resetKeys s, rng := { s.rng with resp := none } }

/-- POWER with TARGET 2, once its reply is consumed or sent (R377, R555). -/
def midnightEntry (m : SaveMeas) (s : State) : State :=
  match s.link.afterReply with
  | some (.midnight, none) => if awake s then enterMidnight m s else s
  | _ => s

/-- R378 refuses the entry while accepted work is unfinished or a release stands. -/
def midnightBarred (s : State) : Bool :=
  s.acc.release.active || !(s.jrn.works.all fun w => w.state == .done) || !(s.jrn.loose.all fun w => w.state == .done) || !s.jrn.accepting.isEmpty

/-- Nothing of the host's would end the Midnight (R378). -/
def noWake (pins rtcS : Nat) (s : State) : Bool := pins == 0 && rtcS == 0 && !regBit s 0x40010000 4

/-- AUTO_MIDNIGHT (R555): MIDNIGHT_MIN minutes in Dusk without a cause of R554. -/
def autoMidnight (m : SaveMeas) (s : State) : State :=
  if s.power.state = .dusk ∧ regBit s 0x4000001C 2 ∧ !s.power.exitDue ∧ !midnightBarred s ∧
     !noWake (regFld s 0x40000020 0 4) (regFld s 0x40000020 4 1) s then enterMidnight m s
  else s

/-- A wake pin's edge at the end of Midnight becomes a door trigger of Noon (R44, R562). -/
def wakeTriggers (pins : BitVec 4) (s : State) : State :=
  (List.range 4).foldl (fun s n => if pins.getLsbD n then queueTrigger (mkTrigger .wakePin .door (some n) s) s else s) s

/-- Midnight ends by an enabled cause (R556): the causes are latched in SYS_WAKE_STAT and Dawn follows. -/
def wake (c : WakeCause) (s : State) : State :=
  let en := regGet s 0x40000020
  let pins := if s.power.vddioOk then c.pins &&& BitVec.ofNat 4 en.toNat else 0
  let rtc : Bool := c.rtc && wbit en 4
  let cs : Bool := c.cs && wbit en 5 && s.power.vddioOk
  let bits := pins.toNat + 16 * b2n rtc + 32 * b2n cs
  if s.power.state ≠ .midnight ∨ bits = 0 then s else wakeTriggers pins (devReset 7 (regOr 0x40000024 bits s))

/-- Vigil in Midnight latches and wakes the device into Dawn (R531, R556). -/
def vigilDetection (m : BitVec 7) (s : State) : State :=
  if s.power.state ≠ .midnight ∨ m.toNat &&& 0x37 = 0 then s else devReset 8 (regOr 0x40000024 64 (vigilLatch m s))

/-! ### Sundown (R324, R557, R558, R567) -/

/-- VSUP falls below 2.9 V (R324): the load is shed, what is in flight completes, SHADOW is saved unless Dawn has not reached row 9, and the device holds in reset.
`inj` says that a live injection caused it. -/
def sundown (inj : Bool) (m : SaveMeas) (s : State) : State :=
  if s.power.state = .midnight ∨ s.power.state = .held then s
  else
    let early : Bool := s.power.state == .bootFail || s.power.stage == .waitXo
    let s := radioOff 6 (rngShed (endTelegram true (endRelease 9 s)))
    let s := incrDone (flightDone s)
    let s := if early then s else shadowSave 1 m (raiseFloor s)
    let s := oweRecord 8 3 inj (regOr 0x4000000C 64 s)
    modPow (fun p => { p with state := .held, vsupOk := false }) s

/-- VSUP recovers above the POR release without having fallen to the POR assert threshold (R558). -/
def vsupRecovery (s : State) : State :=
  if s.power.state = .held ∧ !s.power.vsupOk then
    let low : Bool := s.power.vddioOk && (!s.power.rstN || !s.power.testN)
    devReset (if low then 2 else 6) (modPow (fun p => { p with vsupOk := true }) s)
  else s

/-- VSUP rises through the POR release after it has fallen below the POR assert threshold (R556, R559). `c` is where it met the commit in flight. -/
def powerOn (c : CutAt) (s : State) : State :=
  resetAtOnce 1 (if s.power.state = .midnight ∨ s.power.state = .held then .before else c) (modPow (fun p => { p with vsupOk := true }) s)

/-! ### RST_N, TEST_N, VDDIO (R546, R560, R581) -/

/-- Dawn begins when nothing holds the device in reset any more. -/
def leaveReset (s : State) : State :=
  if s.power.state = .held ∧ s.power.vsupOk ∧ (!s.power.vddioOk ∨ (s.power.rstN ∧ s.power.testN)) then modPow (fun p => { p with state := .dawn, stage := .waitXo }) s
  else s

/-- A reset pin stands low while VDDIO is qualified: the device is reset with cause PIN and stays in reset; out of Midnight the pin is latched (R556, R560, R581). -/
def pinReset (s : State) : State :=
  if !s.power.vddioOk ∨ (s.power.rstN ∧ s.power.testN) ∨ s.power.state = .held then s
  else if s.power.state = .midnight then devReset 2 (regOr 0x40000024 128 s)
  else resetGraceful 2 s

/-- RST_N changes level (R560). -/
def pinRst (low : Bool) (s : State) : State := leaveReset (pinReset (modPow (fun p => { p with rstN := !low }) s))

/-- TEST_N changes level: as RST_N (R581). -/
def pinTest (low : Bool) (s : State) : State := leaveReset (pinReset (modPow (fun p => { p with testN := !low }) s))

/-- VDDIO qualifies (R546): in Dawn its level is read. -/
def vddioUp (hi : Bool) (s : State) : State :=
  if s.power.vddioOk then s
  else
    let s' := modPow (fun p => { p with vddioOk := true }) s
    let s' := if s.power.state = .dawn then regPutFld 0x4000000C 8 1 (b2n hi) s' else s'
    leaveReset (pinReset (repad s s'))

/-- VDDIO falls below 1.50 V (R538, R546). -/
def vddioDown (inj : Bool) (s : State) : State :=
  if !s.power.vddioOk then s
  else
    let s' := repad s (modPow (fun p => { p with vddioOk := false }) s)
    if running s then
      faultBy inj 3 8 2 0xFF 0 0 2 (raise 0x40000010 32 (regInc 0x40100068 16 s'))
    else s'

/-! ### Clocks and monitors (R549–R551, R559) -/

/-- The XO does not qualify within 10 ms: XO_FAIL, and the start is retried (R549). -/
def xoFail (s : State) : State :=
  if s.power.state = .dawn ∧ !s.power.pll then modPow (fun p => { p with xoFails := p.xoFails + 1 }) s else s

/-- The clock monitor's reset (R550, R559): `pll` 0 XO out of range, 1 PLL out of lock. -/
def clockReset (inj pll : Bool) (c : CutAt) (s : State) : State :=
  if running s ∧ s.power.pll then resetAtOnce 4 c (oweRecord 7 (b2n pll) inj s) else s

/-- The VCORE monitor's reset (R547, R559): 0 low, 1 high. -/
def vmonReset (inj high : Bool) (c : CutAt) (s : State) : State :=
  if running s then resetAtOnce 5 c (oweRecord 8 (b2n high) inj s) else s

/-- The RTC crystal has stopped for 2 s (R551): in Midnight the CLOCK sensor asserts (R526). -/
def rtcFail (s : State) : State :=
  if s.power.state = .midnight then vigilDetection 16 (modPow (fun p => { p with rtcRun := false }) s)
  else if running s then
    let s := regOr 0x40000034 32 (modPow (fun p => { p with rtcRun := false, rtcValid := false }) s)
    fault 0x0007 3 0xFF 0 0 2 (raise 0x40000010 16 s)
  else s

/-- SYS_RTC reaches SYS_RTC_ALARM (R554, R556, R570). -/
def rtcAlarm (s : State) : State :=
  if s.power.state = .midnight then wake { pins := 0, rtc := true, cs := false } s
  else if running s then
    let s := raise 0x40000010 8 s
    if regBit s 0x40000020 4 then exitDusk s else s
  else s

/-- A reset request on the debug port (R559). -/
def debugReset (s : State) : State := if running s then resetGraceful 9 s else s

/-- RESET or SOFT_RESET once its reply is consumed or sent (R377, R400, R559). -/
def softReset (s : State) : State :=
  match s.link.afterReply with
  | some (.reset, none) => resetGraceful 3 s
  | _ => s

/-! ### Recovery in BOOT_FAIL (R565) -/

/-- What a recovery credential signs (R565): the session's nonce, DEVICE_UID and SYS_DEVID (DESIGN CHOICE, log 72). -/
def recoveryDigest (nonce : Bytes) : Bytes := sha256 (nonce ++ uidBytes ++ le 4 0x77200B01)

/-- A credential of ROLE 0x12 verifies against the boot ROM's copy of the service root (R210, R266, R565). -/
def recoveryOk (s : State) (nonce cred : Bytes) : Bool :=
  let cert := cred.take 148
  byteAt cert 0 == 1 && byteAt cert 1 == 0x12 && at_ cert 16 4 == Config.serviceKeyId.toNat && notAfterOk s (at_ cert 12 4) &&
  ecdsaVerify Config.serviceRoot (sha256 (cert.take 84)) (slice cert 84 64) &&
  ecdsaVerify (slice cert 20 64) (recoveryDigest nonce) (slice cred 148 64)

/-- The debugger returns a credential (R565): after 8 failures none is accepted any more. -/
def recoveryCredential (cred : Bytes) (s : State) : State :=
  match s.power.state, s.power.recovery with
  | .bootFail, some r =>
    if 8 ≤ r.failures then s
    else if recoveryOk s r.nonce cred then modPow (fun p => { p with recovery := some { r with verified := true } }) s
    else modPow (fun p => { p with recovery := some { r with failures := r.failures + 1 } }) s
  | _, _ => s

/-- A BOOT page is written in a recovery session that has passed (R565). -/
def recoveryWrite (page : Fin 576) (data : Bytes) (rb : ReadBack) (s : State) : State :=
  match s.power.state, s.power.recovery with
  | .bootFail, some r => if r.verified then pageWrite (256 * page.val) (fit 256 data) page.val rb s else s
  | _, _ => s

end Sys2Proof.Machine
end

