-- ==== Sys2Proof/Machine/InjectAct.lean ====
section
/-! DEFINITION. The instant at which a live injection takes hold of its target (R536, R538). -/
namespace Sys2Proof.Machine

/-- A watchdog injection (R538): the first expiry, and with SECOND the second one after it. -/
def injectWatchdog (p : Nat) (s : State) : State :=
  let k := engNo (p % 16)
  if bit p 4 then wdtSecond true k (wdtFirst false k s) else wdtFirst true k s

/-- A tamper injection (R538): the full response; in LOCKDOWN or TAMPER_HOLD it adds its sensor to the latch (R541). -/
def injectTamper (p : Nat) (s : State) : State :=
  let s := tamperOne (p % 8) true s
  if s.saf.inject.isSome then injectEnd 3 10 0xFFFF s else s

/-- A synthesiser injection (R538): at once on one in use, at its first use otherwise. -/
def injectLock (p : Nat) (s : State) : State := if chainOf s (p % 4) = .off then s else lockLoss (p % 4) true s

/-- The live injection acts (R536, R538). `c` is where a reset that acts at once meets the commit in flight, `m` how a Sundown save goes. -/
def injectAct (c : CutAt) (m : SaveMeas) (s : State) : State :=
  match s.saf.inject with
  | none => s
  | some i =>
    if i.acted then s
    else
      let p := i.param
      let s := { s with saf := { s.saf with inject := some { i with acted := true } } }
      match i.detector with
      | 7 => clockReset true (bit p 0) c s
      | 8 => match p % 4 with
        | 0 => vmonReset true false c s
        | 1 => vmonReset true true c s
        | 2 => vddioDown true s
        | _ => sundown true m s
      | 9 => injectTamper p s
      | 10 => injectLock p s
      | 14 => injectWatchdog p s
      | _ => s

/-- A live injection that found no use of its target within 1 s is withdrawn (R536). -/
def injectUnseen (s : State) : State :=
  match s.saf.inject with
  | some i => if i.acted then injectEnd 4 0 0xFFFF s else s
  | none => s

end Sys2Proof.Machine
end

