-- ==== Sys2Proof/Machine/CmdSys.lean ====
section
/-! DEFINITION. Bodies of the System and the Register and memory families (R349, R350, R377–R381): what a command does after checks 1–12,
from the refusals of check 13 on. -/
namespace Sys2Proof.Machine

/-- OK with a payload. -/
def ok (r : ReplyTo) (b : Bytes) (s : State) : State := reply r stOk b s

/-- A refusal of check 13: OFFSET 0xFFFF and CODE (R338). -/
def deny (r : ReplyTo) (code : Nat) (s : State) : State := refuse r stDenied 0xFFFF code s

/-- A refusal of check 13 for what a payload field names: OFFSET of the field (R338). -/
def denyAt (r : ReplyTo) (off code : Nat) (s : State) : State := refuse r stDenied off code s

/-- A byte for the role in force (R377). -/
def roleByte (s : State) : Byte :=
  match s.cfg.role with
  | .none => 0 | .tractor => 1 | .trailer => 2

/-- IDENTIFY (R377). -/
def cmdIdentify (r : ReplyTo) (s : State) : State :=
  let feats := [0x400AC000, 0x400AC004, 0x400AC008, 0x400AC00C].flatMap fun a => le 4 (regShow s a).toNat
  let region : Byte := match s.cfg.region with
    | some na => byte (b2n na) | none => 0xFF
  ok r (le 4 0x77200B01 ++ uidBytes ++ feats ++ le 4 Config.firmware.toNat ++ [roleByte s, region, 2, 0]) s

/-- STATE of STATUS: the state the device serves the command in. -/
def stateByte (s : State) : Byte := if s.power.state = .dusk then 2 else 1

/-- STATUS (R377). -/
def cmdStatus (r : ReplyTo) (s : State) : State :=
  ok r ([stateByte s, byte s.power.cause, 0, 0] ++ le 4 (kstStatus s) ++ le 4 (jrnStat s) ++ le 4 (regShow s 0x40060004).toNat ++
    le 2 (min 0xFFFF s.saf.sinceDawn) ++ [0, 0]) s

/-- What QUERY and COLLECT find of a tag (R349): STATE, PCT, RSTATUS and the result. -/
def tagState (q : Nat) (s : State) : Nat × Nat × Byte × Bytes :=
  match s.jrn.works.find? fun w => w.tag.toNat == q with
  | some w =>
    (match w.state with
     | .accepted => (2, w.pct, 0, [])
     | .running => (3, w.pct, 0, [])
     | .done => (4, 100, w.status, w.result))
  | none =>
    match s.jrn.ring.find? fun e => e.tag.toNat == q with
    | some e => (5, 100, e.status, e.result)
    | none => if s.link.dawnq.any fun h => h.packet.tag.toNat == q then (1, 0, 0, []) else (0, 0, 0, [])

/-- QUERY (R349). -/
def cmdQuery (p : Packet) (r : ReplyTo) (s : State) : State :=
  let q := at_ p.payload 0 2
  let x := tagState q s
  ok r (le 2 q ++ [byte x.1, byte x.2.1, x.2.2.1, 0] ++ le 2 x.2.2.2.length ++ x.2.2.2) s

/-- COLLECT (R350): a DONE record becomes FREE and leaves the queue. -/
def cmdCollect (p : Packet) (r : ReplyTo) (s : State) : State :=
  let q := at_ p.payload 0 2
  let x := tagState q s
  if q = 0 then refuse r stBadField 0 3 s
  else if x.1 < 2 then refuse r stBadField 0 0x0D s
  else if x.1 < 4 then
    match s.jrn.works.find? fun w => w.tag.toNat == q with
    | some w => let a := answerPending s.jrn.enabled w; reply r a.1 a.2 s
    | none => refuse r stBadField 0 0x0D s
  else
    let n := ((s.jrn.works.find? fun w => w.tag.toNat == q).map (·.recNo)).getD 0
    reply r x.2.2.1 x.2.2.2 (if x.1 = 4 then jrnCommit n { s with jrn := { s.jrn with works := s.jrn.works.filter fun w => w.tag.toNat != q } } else s)

/-- RESET (R377): the reset follows the reply's consumption or sending. -/
def cmdReset (r : ReplyTo) (s : State) : State :=
  ok r [] { s with link := { s.link with afterReply := some (.reset, some r.slot) } }

/-- The registers that a POWER command writes (R572): PIN_EN, and the alarm with RTC_EN. -/
def powerWake (pins rtcS : Nat) (s : State) : State :=
  let s := regPutFld 0x40000020 0 4 pins s
  if rtcS = 0 then regPutFld 0x40000020 4 1 0 s
  else regPutFld 0x40000020 4 1 1 (regSet 0x40000030 (s.power.rtc + word rtcS) s)

/-- POWER (R377, R378). -/
def cmdPower (p : Packet) (r : ReplyTo) (s : State) : State :=
  let pins := byteAt p.payload 1
  let rtcS := at_ p.payload 2 4
  match byteAt p.payload 0 with
  | 2 =>
    if midnightBarred s then deny r 8 s
    else if noWake pins rtcS s then refuse r stBadField 0xFFFF 3 s
    else
      let s := powerWake pins rtcS s
      ok r [] { s with link := { s.link with afterReply := some (.midnight, some r.slot) } }
  | 1 =>
    let s := powerWake pins rtcS s
    ok r [] { s with power := { s.power with duskDue := true } }
  | _ => ok r [] (powerWake pins rtcS s)

/-- Records in use beside those of commands being accepted (R322, R378). -/
def journalInUse (s : State) : Bool := s.jrn.works != [] || s.jrn.accepting != []

/-- CONFIG_SET (R377): disabling the journal is refused while any host record is in use (R322). -/
def cmdConfigSet (p : Packet) (r : ReplyTo) (s : State) : State :=
  let own : Refusal13 := if byteAt p.payload 0 = 3 ∧ byteAt p.payload 1 = 0 ∧ journalInUse s then some (stDenied, 8) else none
  journaled 0x07 p r own [.dealer, .fleetHost] true noData s

/-- TIME_SET (R377). -/
def cmdTimeSet (p : Packet) (r : ReplyTo) (s : State) : State := journaled 0x08 p r none [.dealer, .fleetHost] true noData s

/-- STATE of a journal record as R349 numbers it. -/
def recordState (w : Work) : Byte :=
  match w.state with
  | .accepted => 2 | .running => 3 | .done => 4

/-- PENDING_LIST (R377): the host records in use, in acceptance order; those done and not collected are listed with STATE 4 (DEDUCED,
log 73). -/
def cmdPendingList (r : ReplyTo) (s : State) : State :=
  let l := s.jrn.works.take 32
  ok r ([byte l.length, 0] ++ l.flatMap fun w => le 2 w.tag.toNat ++ [recordState w, byte w.pct]) s

/-! ### Registers and memory -/

/-- The words of a register command are mapped registers of one block; none when they are not, with the CODE (R380). -/
def regSpan (a n : Nat) : Option Nat :=
  if a % 4 ≠ 0 then some 4
  else if (List.range (max n 1)).all fun i => regMapped (a + 4 * i) && blockOf (a + 4 * i) == blockOf a then none
  else some 3

/-- Reads of `n` words from an address. -/
def regReads (a : Nat) : Nat → State → Bytes × State
  | 0, s => ([], s)
  | n + 1, s =>
    let x := regRead false a s
    let y := regReads (a + 4) n x.2
    (le 4 x.1.toNat ++ y.1, y.2)

/-- REG_READ (R380). -/
def cmdRegRead (p : Packet) (r : ReplyTo) (s : State) : State :=
  let a := at_ p.payload 0 4
  let n := at_ p.payload 4 2
  match regSpan a n with
  | some c => refuse r stBadField 0 c s
  | none => let x := regReads a n s; ok r x.1 x.2

/-- A register of the host link whose new value waits for the consumption of the reply (R343, R364). -/
def cfgWaits (a : Nat) : Bool := [0x40010000, 0x40010010, 0x40010014].contains a

/-- One word of a register command is written; the host link's configuration waits for its reply. -/
def hostWrite (r : ReplyTo) (a : Nat) (v : Word) (s : State) : State :=
  if cfgWaits a then { s with link := { s.link with cfgPend := s.link.cfgPend ++ [(a, v, some r.slot)] } }
  else regWrite none a v s

/-- The registers as the first `i` words of a register command leave them: a word whose values depend on another register of the same command
(R94, R101) is checked against what the words before it write. -/
def wordsBefore (a : Nat) (val : Nat → Word) (i : Nat) (s : State) : State := (List.range i).foldl (fun s j => regSet (a + 4 * j) (val j) s) s

/-- REG_WRITE (R380): every reach and value is checked, in the order of the words, before any word is written. -/
def cmdRegWrite (p : Packet) (r : ReplyTo) (s : State) : State :=
  let a := at_ p.payload 0 4
  let n := at_ p.payload 4 2
  let val := fun i => word (at_ p.payload (6 + 4 * i) 4)
  match regSpan a n with
  | some c => refuse r stBadField 0 c s
  | none =>
    match (List.range n).findSome? fun i => hostReach s (a + 4 * i) with
    | some (st, c) => refuse r st 0 c s
    | none =>
      match (List.range n).findSome? fun i => (hostValue (wordsBefore a val i s) (a + 4 * i) (val i)).map fun c => (6 + 4 * i, c) with
      | some (o, c) => refuse r stBadField o c s
      | none => ok r [] ((List.range n).foldl (fun s i => hostWrite r (a + 4 * i) (val i) s) s)

/-- REG_MODIFY (R380). -/
def cmdRegModify (p : Packet) (r : ReplyTo) (s : State) : State :=
  let a := at_ p.payload 0 4
  let mask := word (at_ p.payload 4 4)
  let v := word (at_ p.payload 8 4)
  let rw := isBufWord a || (match regFind a with
    | some x => x.kind == .rw
    | none => false)
  match regSpan a 1 with
  | some c => refuse r stBadField 0 c s
  | none =>
    match hostReach s a with
    | some (st, c) => refuse r st 0 c s
    | none =>
      if !rw then refuse r stBadField 0 5 s
      else
        let old := regShow s a
        let new := (old &&& ~~~mask) ||| (v &&& mask)
        match hostValue s a new with
        | some c => refuse r stBadField 8 c s
        | none => ok r (le 4 old.toNat ++ le 4 new.toNat) (hostWrite r a new s)

/-- The SRAM range of a memory command against an area: the refusal, if any (R381); none for an empty one (R398). -/
def memSpan (a n lo hi : Nat) : Option (Byte × Nat × Nat) :=
  if n = 0 then none
  else if a < lo ∨ hi ≤ a then some (stDenied, 0, 6)
  else if hi < a + n then some (stBadField, 0, 3)
  else none

/-- MEM_READ (R381): shared SRAM at any byte address. An uncorrectable word answers HW_FAULT (R41). -/
def cmdMemRead (p : Packet) (r : ReplyTo) (s : State) : State :=
  let a := at_ p.payload 0 4
  let n := at_ p.payload 4 2
  match memSpan a n 0x10000000 0x10400000 with
  | some (st, o, c) => refuse r st o c s
  | none =>
    match sramRead a n s with
    | (some b, s) => ok r b s
    | (none, s) => refuse r stHwFault 0xFFFF 0 s

/-- MEM_WRITE (R381): the host exchange area alone. -/
def cmdMemWrite (p : Packet) (r : ReplyTo) (s : State) : State :=
  let a := at_ p.payload 0 4
  let n := at_ p.payload 4 2
  match memSpan a n 0x103B0000 0x103C0000 with
  | some (st, o, c) => refuse r st o c s
  | none => ok r [] (sramWrite a (slice p.payload 6 n) s)

end Sys2Proof.Machine
end

