-- ==== Sys2Proof/Machine/Steps.lean ====
section
/-! DEFINITION. What every step of accepted work shares: how it ends, the objects that work holds (R32, R37, R320). -/
namespace Sys2Proof.Machine

/-- How a step of accepted work stands (R32, R320): it goes on, it ends at a boundary with its STEP, PCT and STEP_DATA, or the work is over with a status and a
result. -/
inductive StepEnd where
  | wait
  | boundary (step pct : Nat) (data : Bytes)
  | over (status : Byte) (result : Bytes)
  deriving DecidableEq, Repr

/-- A step's end and the state after it. -/
abbrev StepRes := StepEnd × State

/-- The work is over, OK. -/
def overOk (b : Bytes) (s : State) : StepRes := (.over stOk b, s)

/-- The work is over, OK, with its CONFIG item committed (R299). -/
def overConfig (item : Nat) (b : Bytes) (s : State) : StepRes := overOk b (configCommit item s)

/-- A step that increments a counter puts the increment in flight and waits for it (R310). -/
def counterStep (c : Nat) (s : State) : StepRes :=
  (.wait, if s.fer.incr.isSome then s else { s with fer := { s.fer with incr := some c } })

/-- The number of a sensor record's CONFIG item (R236). -/
def sensorItem (r : Nat) : Nat := 0x8C00 + r

/-- The KEYS page of a token record (R299). -/
def tokenPage (i : Nat) : Nat := 1030 + i / 8

/-- The deny list changes: each of its two pages whose entries change is committed (R77, R299). -/
def denyCommit (f : List Quad → List Quad) (s : State) : State :=
  let old := s.acc.denylist
  let put := fun (s : State) => { s with acc := { s.acc with denylist := f s.acc.denylist } }
  if (f old).take 32 = old.take 32 then (if f old = old then s else keysCommit 1039 put s)
  else keysCommit 1038 put (if (f old).drop 32 = old.drop 32 then s else ownCommit 1039 false s)

/-- The work is over once what it waits for has been found. -/
def stepReady (w : Work) (s : State) : StepRes :=
  match w.ready with
  | some (st, b) => (.over st b, s)
  | none => (.wait, s)

/-- The work is over with a refusal's payload (R375). -/
def overNot (status : Byte) (code : Nat) (s : State) : StepRes := (.over status (refusalBytes 0xFFFF code), s)

/-- A missing usage is counted (R271). -/
def countPolicy (x : Refused) (s : State) : State := if x = (stDenied, 5) then countKeyRefusal x s else s

/-- The work is over with the refusal of the key store, a missing usage counted. -/
def overKey (x : Refused) (s : State) : StepRes := overNot x.1 x.2 (countPolicy x s)

/-- The work by which other parts of the machine know it: its SEQ when it is tagged, its number in SRAM otherwise. -/
def workIds (tagged : Bool) (seq : Nat) : Option Nat × Option Nat := if tagged then (some seq, none) else (none, some seq)

/-- An object of R37. -/
inductive Obj where
  | key (handle : Nat)
  | slot (i : Nat)
  | epoch (e : Nat)
  /-- An update on KE0, of which one at a time runs (R282). -/
  | update
  | bytes (lo hi : Nat)
  | token (i : Nat)
  | tokens
  /-- Every token record, as a decision reads them. Decisions follow one another by R25, so this object has nothing in common with itself. -/
  | tokenUse
  | sensor (i : Nat)
  | sensors
  /-- A configuration item, by the opcode of the command that owns it. -/
  | config (item : Nat)
  /-- A configuration item that is read: two readers have nothing in common. -/
  | configUse (item : Nat)
  | unit (u : Nat)
  deriving DecidableEq, Repr

/-- Two objects are one, or share a part. -/
def Obj.meets : Obj → Obj → Bool
  | .bytes a b, .bytes c d => decide (a < d ∧ c < b)
  | .token _, .tokens => true
  | .tokens, .token _ => true
  | .tokenUse, .tokens => true
  | .tokens, .tokenUse => true
  | .tokenUse, .token _ => true
  | .token _, .tokenUse => true
  | .tokenUse, .tokenUse => false
  | .config a, .configUse b => a == b
  | .configUse a, .config b => a == b
  | .configUse _, .configUse _ => false
  | .sensor _, .sensors => true
  | .sensors, .sensor _ => true
  | a, b => a == b

/-- Two sets of objects have one in common. -/
def objsMeet (a b : List Obj) : Bool := a.any fun x => b.any fun y => x.meets y

/-- Check 13 of a journaled command whose own refusal comes from the key store: a missing usage is counted when it decides (R271, R291). -/
def journaledKey (op : Byte) (p : Packet) (r : ReplyTo) (own : Refusal13) (roles : List CredRole) (prep : State → Bytes × State) (s : State) : State :=
  let s := match queueRefusal p s, own with
    | none, some x => countPolicy x s
    | _, _ => s
  journaled op p r own roles true prep s

end Sys2Proof.Machine
end

