-- ==== Sys2Proof/Machine/CmdNvm.lean ====
section
/-! DEFINITION. Bodies of the NVM family (R300, R304–R308, R313–R316, R382, R383). -/
namespace Sys2Proof.Machine

/-- NVM_BUSY: a page commit runs (R304). -/
def nvmBusy (r : ReplyTo) (s : State) : State := refuse r stNvmBusy 0xFFFF 0 s

/-- A range that runs past the last address of the partition in which it starts (R300). -/
def leavesPartition (a n : Nat) : Bool := n != 0 && (0x78000 < a + n || partOf (a / 256) != partOf ((a + n - 1) / 256))

/-- The ranges of TXN writes accepted and not completed (R307). -/
def txnRanges (s : State) : List (Nat × Nat) :=
  ((s.jrn.works.filter fun w => w.state != .done) ++ s.jrn.accepting.map (·.work)).filterMap fun w =>
    if w.opcode = 0x21 ∧ w.options &&& 1 = 1 then some (at_ w.payload 0 4, at_ w.payload 0 4 + at_ w.payload 4 2) else none

/-- A TXN write holds back reads of this range (R307). -/
def txnHeld (a n : Nat) (s : State) : Bool := (txnRanges s).any fun t => decide (a < t.2 ∧ t.1 < a + n)

/-- The regions that a range touches, with their numbers. -/
def regionsHit (a n : Nat) (s : State) : List (Nat × Region) := ((pagesOf a n).filterMap (regionOfPage s)).eraseDups

/-- Why a host access to USER is refused: a locked region, or an ENC region while the key store is not open (R313, R314, R316). -/
def regionRefusal (write : Bool) (a n : Nat) (s : State) : Refusal13 :=
  let hit := (regionsHit a n s).map (·.2)
  if hit.any fun g => if write then g.wpw && !g.wunlk else g.rpw && !g.runlk then some (stDenied, 8)
  else if hit.any (·.enc) then ksRefusal s else none

/-- NVM_READ (R300, R303–R308, R314, R316). -/
def cmdNvmRead (p : Packet) (r : ReplyTo) (s : State) : State :=
  let a := at_ p.payload 0 4
  let n := at_ p.payload 4 2
  if leavesPartition a n then refuse r stBadField 0 3 s
  else if commitBusy s then nvmBusy r s
  else if n = 0 then ok r [] s
  else if txnHeld a n s then nvmBusy r s
  else if partOf (a / 256) = 2 ∨ partOf (a / 256) = 5 then denyAt r 0 6 s
  else match regionRefusal false a n s with
    | some x => refused13 r x s
    | none =>
      match nvmRead a n s with
      | (some b, s) => ok r b s
      | (none, s) => refuse r stHwFault 0xFFFF 0 s

/-- NVM_WRITE (R300, R304–R308). -/
def cmdNvmWrite (p : Packet) (r : ReplyTo) (s : State) : State :=
  let a := at_ p.payload 0 4
  let n := at_ p.payload 4 2
  if leavesPartition a n then refuse r stBadField 0 3 s
  else if p.options &&& 1 = 1 ∧ (p.tag = 0 ∨ !s.jrn.enabled) then refuse r stBadField 0xFFFF 1 s
  else if commitBusy s then nvmBusy r s
  else if n = 0 then ok r (zeros 4) s
  else
    let part := partOf (a / 256)
    if part = 4 then journaled 0x21 p r (regionRefusal true a n s) [] false noData s
    else match queueRefusal p s with
      | some x => reply r x.1 x.2 s
      | none => denyAt r 0 (if part = 2 ∨ part = 5 then 6 else 5) s

/-- NVM_WRITE runs: its pages go to commit in ascending order (R305). -/
def startNvmWrite (kind : CommitKind) (b : Bytes) (s : State) : State := startWrite kind (at_ b 0 4) (slice b 6 (at_ b 4 2)) s

/-- NVM_WRITE: its one step ends when its last page has committed (R383), or before a page that cannot be encrypted (R316). -/
def stepNvmWrite (w : Work) (s : State) : StepRes :=
  match w.ready with
  | some (st, b) => if st ≠ stOk then (.over st b, s) else overOk (le 2 (pagesOf (at_ w.payload 0 4) (at_ w.payload 4 2)).length ++ zeros 2) s
  | none => (.wait, s)

/-- The verifier of a password in a region (R314). -/
def pwVerifier (s : State) (region : Nat) (pw : Bytes) : Option Quad :=
  s.ks.storage.map fun k => BitVec.ofNat 64 (leNat ((cmac k (ascii "OZS-PW" ++ [byte region] ++ pw)).take 8))

/-- A region of the table. -/
def regionAt (s : State) (n : Nat) : Region := s.fer.regions.getD n .none

/-- The state with a region changed. -/
def modRegion (n : Nat) (f : Region → Region) (s : State) : State := { s with fer := { s.fer with regions := modAt n f s.fer.regions } }

/-- A password is presented (R315): the refusal, or none and the state after a success. The attempt is counted before the comparison. -/
def passwordTry (region : Nat) (pw : Bytes) (s : State) : Refusal13 × State :=
  match ksRefusal s with
  | some x => (some x, s)
  | none =>
    if 8 ≤ pwFails s ∧ s.fer.pwSince < 60000000 then (some (stLocked, 0), s)
    else match ctrRead s 36 with
      | none => (some (stHwFault, 0), s)
      | some v =>
        if v + 1 ≥ 2 ^ 64 then (some (stLocked, 0), s)
        else
          let s := ctrInc 36 { s with fer := { s.fer with pwSince := 0 } }
          if (regionAt s region).verifier.isSome && (regionAt s region).verifier == pwVerifier s region pw then
            (none, { s with fer := { s.fer with pwBase := v + 1 } })
          else (some (stDenied, 0x0A), raiseNvm 0x80 s)

/-- NVM_UNLOCK (R314, R315, R398). -/
def cmdNvmUnlock (p : Packet) (r : ReplyTo) (s : State) : State :=
  let n := byteAt p.payload 0
  let mode := byteAt p.payload 1
  if commitBusy s then nvmBusy r s
  else if mode = 0 then ok r [] s
  else match passwordTry n (slice p.payload 2 8) s with
    | (some x, s) => refused13 r x s
    | (none, s) => ok r [] (modRegion n (fun g => { g with runlk := g.runlk || bit mode 0, wunlk := g.wunlk || bit mode 1 }) s)

/-- NVM_LOCK (R314). -/
def cmdNvmLock (p : Packet) (r : ReplyTo) (s : State) : State :=
  if commitBusy s then nvmBusy r s
  else
    let m := at_ p.payload 0 2
    ok r [] ((List.range 16).foldl (fun s i => if bit m i then modRegion i (fun g => { g with runlk := false, wunlk := false }) s else s) s)

/-- NVM_PASSWORD (R314, R383): under the present password, or under a credential with OLD zero. -/
def cmdNvmPassword (p : Packet) (r : ReplyTo) (s : State) : State :=
  let old := slice p.payload 2 8
  if pktCred p && old.any (· != 0) then refuse r stBadField 2 2 s
  else if commitBusy s then nvmBusy r s
  else match queueRefusal p s with
    | some x => reply r x.1 x.2 s
    | none =>
      if pktCred p then
        match ksRefusal s with
        | some x => refused13 r x s
        | none => withCred 0x24 p r [.dealer] true (fun c s => accept 0x24 p r c [] s) s
      else match passwordTry (byteAt p.payload 0) old s with
        | (some x, s) => refused13 r x s
        | (none, s) => accept 0x24 p r none [] s

/-- NVM_PASSWORD runs: the new verifier is written to CONFIG (R314). -/
def stepNvmPassword (w : Work) (s : State) : StepRes :=
  let n := byteAt w.payload 0
  match ksRefusal s with
  | some x => overKey x s
  | none => overConfig (0x2400 + n) [] (modRegion n (fun g => { g with verifier := pwVerifier s n (slice w.payload 10 8) }) s)

/-- A region has RPW or WPW (R313). -/
def anyPassword (s : State) : Bool := s.fer.regions.any fun g => g.pages != 0 && (g.rpw || g.wpw)

/-- NVM_REGIONS (R313). -/
def cmdNvmRegions (p : Packet) (r : ReplyTo) (s : State) : State :=
  if commitBusy s then nvmBusy r s else journaled 0x25 p r none [.dealer] (anyPassword s) noData s

/-- The region table that a command gives: the verifier of each region stands (R314). -/
def regionsOf (b : Bytes) (old : List Region) : List Region :=
  (List.range 16).map fun i =>
    let a := byteAt b (8 * i + 4)
    { old.getD i .none with
      start := at_ b (8 * i) 2, pages := at_ b (8 * i + 2) 2, rpw := bit a 0, wpw := bit a 1, enc := bit a 2, image := bit a 3 }

/-- NVM_REGIONS runs. -/
def stepNvmRegions (w : Work) (s : State) : StepRes :=
  overConfig 0x2500 [] { s with fer := { s.fer with regions := regionsOf w.payload s.fer.regions } }

/-- COUNTER_READ (R310, R312). -/
def cmdCounterRead (p : Packet) (r : ReplyTo) (s : State) : State :=
  match ctrRead s (byteAt p.payload 0) with
  | some v => ok r (le 8 v) s
  | none => refuse r stHwFault 0xFFFF 0 s

end Sys2Proof.Machine
end

