-- ==== Sys2Proof/Machine/CmdKeys.lean ====
section
/-! DEFINITION. Bodies of the Keys family (R265–R288, R291, R384, R385) and the steps of its accepted work. -/
namespace Sys2Proof.Machine

/-- Fresh randomness of `n` words for a command, or HW_FAULT while randomness is halted (R616). -/
def withRandom (r : ReplyTo) (body : State → State) (s : State) : State :=
  if randomOk s then body s else refuse r stHwFault 0xFFFF 0 s

/-- A refusal of the key store answers a command, a missing usage counted (R271). -/
def keyRefuse (r : ReplyTo) (x : Refused) (s : State) : State :=
  if x.1 = stBusyRetry then reply r x.1 (busyBytes x.2) s else refuse r x.1 0xFFFF x.2 (countPolicy x s)

/-- AUTH_NONCE (R267): 16 bytes of the DRBG; a fifth voids the oldest. It needs no key and is served in every state of the key store (DEDUCED, log 75). -/
def cmdAuthNonce (r : ReplyTo) (s : State) : State :=
  withRandom r (fun s =>
    let n := peekBytes s 0 16
    let s := generate 4 s
    let l := s.ks.nonces ++ [n]
    ok r n { s with ks := { s.ks with nonces := l.drop (l.length - 4) } }) s

/-- New key material of a type from the free values `i` places ahead (R269, R616): a P-256 key is a scalar in range. -/
def newMaterial (s : State) (i ktype : Nat) : Bytes :=
  if ktype = 4 then be 32 (drawScalar s i) else peekBytes s i ((keyLen ktype).getD 16)

/-- X ‖ Y that goes with a generated key; nothing for a symmetric one. -/
def pubPart (ktype : Nat) (key : Bytes) : Bytes := if ktype = 4 then pubOf (beNat key) else []

/-! ### Import (R274, R384) -/

/-- The fields of KEY_IMPORT from FORM onward, at an offset. -/
structure ImportFields where
  form   : Nat
  wslot  : Nat
  ktype  : Nat
  usage  : Nat
  attr   : Nat
  pend   : Nat
  keyId  : Nat
  hpub   : Bytes
  wrapped : Bytes
  deriving DecidableEq, Repr

/-- The fields that a payload spells. -/
def importFields (b : Bytes) (o : Nat) : ImportFields :=
  { form := byteAt b o, wslot := byteAt b (o + 1), ktype := byteAt b (o + 2), usage := at_ b (o + 3) 2, attr := byteAt b (o + 5),
    pend := byteAt b (o + 6), keyId := at_ b (o + 7) 8, hpub := slice b (o + 15) 64, wrapped := slice b (o + 81) (at_ b (o + 79) 2) }

/-- K_IMP of an import session and the host's key (R274); none when H is no point of the curve. -/
def importKey (x : ImportSession) (hpub : Bytes) : Option Bytes := (ecdhX x.d hpub).map fun z => kdf z (ascii "OZS-IMP") (uidBytes ++ x.challenge) 256

/-- The key that unwraps an import (R274): a WRAP slot's, or the session's. AES alone unwraps by KWP; without a session the DENIED of a thing not present; a peer
key off the curve is a verification that fails. -/
def unwrapKey (f : ImportFields) (s : State) : Except Refused Bytes :=
  if f.form = 0 then
    match useSlot f.wslot 0x10 s with
    | .error x => .error x
    | .ok x => if x.ktype = 1 ∨ x.ktype = 2 then .ok x.key else .error (stDenied, 8)
  else match ksRefusal s, s.ks.session with
    | some x, _ => .error x
    | none, none => .error (stDenied, 0x0D)
    | none, some x =>
      match importKey x f.hpub with
      | some k => .ok k
      | none => .error (stDenied, 0x0A)

/-- The imported key material (R274, R291). -/
def importMaterial (f : ImportFields) (s : State) : Except Refused Bytes :=
  match unwrapKey f s with
  | .error x => .error x
  | .ok k =>
    match aesKwpInv k f.wrapped with
    | none => .error (stDenied, 0x0A)
    | some m => if some m.length = keyLen f.ktype then .ok m else .error (stBadLength, 0)

/-- A session serves one import (R274). -/
def sessionUsed (f : ImportFields) (s : State) : State :=
  if f.form = 1 then { (dropSlot 11 s) with ks := { (dropSlot 11 s).ks with session := none } } else s

/-- Material at acceptance: an import whose key or material is refused now is refused at check 13 (R336). -/
def importRefusal (f : ImportFields) (s : State) : Refusal13 :=
  match importMaterial f s with
  | .error x => some x
  | .ok _ => none

/-! ### Creation and update on a handle (R278, R282) -/

/-- A creation on this handle is refused (R277, R278, R291). -/
def createRefusal (n : Nat) (s : State) : Refusal13 :=
  match ksRefusal s with
  | some x => some x
  | none =>
    if handleFree s n then none
    else match validHalf s n with
      | .ok _ => some (stDenied, 0x0C)
      | .error x => if x.1 = stHwFault then some x else some (stDenied, 0x0C)

/-- An update of this handle is refused (R277, R291): also where KE0 is at its maximum and cannot move to the new half's EPOCH_VAL (R281, R282). -/
def updateRefusal (n : Nat) (s : State) : Refusal13 :=
  match ksRefusal s with
  | some x => some x
  | none =>
    match validHalf s n with
    | .ok _ => if 2 ^ 64 ≤ epochOf s 0 + 1 then some (stLocked, 0) else none
    | .error x => some x

/-- A key is created in half A of a free handle under its header (R278). -/
def createAs (n : Nat) (h : BlobHeader) (key : Bytes) (s : State) : State := writeHalf n false (mkBlob s h key) s

/-- A new key is created in half A of a free handle, bound to KE0 (R278). -/
def createKey (n ktype usage attrBits : Nat) (origin : Bool) (keyId : Nat) (key : Bytes) (s : State) : State :=
  createAs n (newHeader s ktype usage attrBits origin 0 (epochOf s 0) keyId) key s

/-- The valid half of a handle carries this KEY_ID: a step that ran before has been done (R278). -/
def holdsKeyId (n keyId : Nat) (s : State) : Option Bytes :=
  match validHalf s n with
  | .ok (_, h, key) => if h.keyId = keyId then some key else none
  | .error _ => none

/-- The half an update writes in step 1: the one that is not valid, with EPOCH_VAL = KE0 + 1 (R282). -/
def updateWrite (n ktype usage attrBits : Nat) (origin : Bool) (keyId : Nat) (key : Bytes) (s : State) : State :=
  match validHalf s n with
  | .ok (isB, _, _) =>
    writeHalf n (!isB) (mkBlob s (newHeader s ktype usage attrBits origin 0 (epochOf s 0 + 1) keyId) key) s
  | .error _ => s

/-- STEP_DATA of an update: KEY_ID and EPOCH_VAL of the new half (R282, R318). -/
def updateData (keyId ev : Nat) : Bytes := le 8 keyId ++ le 8 ev

/-- Step 2 of an update (R282): whether KE0 stands just below the new half's EPOCH_VAL and has to be incremented; the failure of the counter ends it. -/
def updateMove (ev : Nat) (s : State) : Except Refused Bool :=
  match ctrRead s 0 with
  | none => .error (stHwFault, 0)
  | some v => if v + 1 = ev then (if v + 1 ≥ 2 ^ 64 then .error (stLocked, 0) else .ok true) else .ok false

/-- Step 3 of an update (R282): the half that is not valid now is retired. -/
def updateRetire (n : Nat) (s : State) : State :=
  match validHalf s n with
  | .ok (isB, _, _) => retireHalf n (!isB) s
  | .error _ => s

/-- Steps 2 and 3 of an update, by the last boundary journaled; `result` is what the command returns (R282). -/
def updateRest (n : Nat) (w : Work) (result : Bytes) (s : State) : StepRes :=
  let ev := at_ w.stepData 8 8
  if w.step = 1 then
    match updateMove ev s with
    | .error x => overNot x.1 x.2 s
    | .ok true => counterStep 0 s
    | .ok false => (.boundary 2 67 w.stepData, epochMoved 0 s)
  else overOk result (updateRetire n s)

/-! ### Commands -/

/-- Words of DRBG output that new key material and its KEY_ID take. -/
def keyWords : Nat := 10

/-- A KEY_ID drawn at acceptance as STEP_DATA (R278). -/
def drawKeyId (s : State) : Bytes × State := (le 8 (peekKeyId s 0), generate 2 s)

/-- Refusal while randomness is halted (R616). -/
def randomRefusal (s : State) : Refusal13 := if randomOk s then none else some (stHwFault, 0)

/-- The first refusal of two. -/
def firstOf (a b : Refusal13) : Refusal13 := a.or b

/-- KEY_GEN (R278, R384). -/
def cmdKeyGen (p : Packet) (r : ReplyTo) (s : State) : State :=
  journaledKey 0x31 p r (firstOf (createRefusal (byteAt p.payload 0) s) (randomRefusal s)) [.dealer, .fleetHost] drawKeyId s

/-- KEY_GEN runs (R278). -/
def stepKeyGen (w : Work) (s : State) : StepRes :=
  let b := w.payload
  let n := byteAt b 0
  let kt := byteAt b 1
  let keyId := at_ w.stepData 0 8
  match ksRefusal s, holdsKeyId n keyId s, createRefusal n s with
  | some x, _, _ => overKey x s
  | none, some key, _ => overOk (le 8 keyId ++ [byte n, 0, 0, 0] ++ pubPart kt key) s
  | none, none, some x => overKey x s
  | none, none, none =>
    if !randomOk s then overNot stHwFault 0 s
    else
      let key := newMaterial s 0 kt
      let s := createKey n kt (at_ b 2 2) (byteAt b 4) true keyId key (generate 8 s)
      overOk (le 8 keyId ++ [byte n, 0, 0, 0] ++ pubPart kt key) s

/-- EPOCH_VAL of a host-held blob that is made now (R284, R384): KEe, or KEe + 1 with PENDING; 0 of an unbound one. -/
def hostEpoch (s : State) (idx pend : Nat) : Nat := if idx = 0xFF then 0 else (epochOf s idx + pend) % 2 ^ 64

/-- KEY_GEN_BLOB (R384). -/
def cmdKeyGenBlob (p : Packet) (r : ReplyTo) (s : State) : State :=
  match ksRefusal s with
  | some x => keyRefuse r x s
  | none =>
    withRandom r (withCred 0x32 p r [.dealer, .fleetHost] true fun _ s =>
      let b := p.payload
      let kt := byteAt b 0
      let key := newMaterial s 0 kt
      let h := newHeader s kt (at_ b 1 2) (byteAt b 3) true (byteAt b 4) (hostEpoch s (byteAt b 4) (byteAt b 5)) (peekKeyId s 8)
      ok r (mkBlob s h key ++ pubPart kt key) (generate keyWords s)) s

/-- The header of a key that never stands in a blob: its usage, its NOEXPORT and LEARN, which the manual does not state, and its KEY_ID are free values from `i`
places ahead on (R269, R286, log 77). -/
def openHeader (s : State) (i ktype : Nat) : BlobHeader :=
  newHeader s ktype (wfld (peek s i) 0 7) (wfld (peek s i) 8 8) true 0xFF 0 (peekKeyId s (i + 1))

/-- IMPORT_SESSION (R274): the ephemeral key E stands in slot 11. -/
def cmdImportSession (p : Packet) (r : ReplyTo) (s : State) : State :=
  match ksRefusal s with
  | some x => keyRefuse r x s
  | none =>
    withRandom r (fun s =>
      let d := drawScalar s 0
      let pub := pubOf d
      let h := openHeader s 8 4
      let chal := slice p.payload 0 16
      let st := attest s 11 h.bytes (sha256 pub) chal
      let s := generate 19 s
      let s := putSlot (mkSlot 11 h 4 h.usage (be 32 d) none) s
      ok r (pub ++ st) { s with ks := { s.ks with session := some { d := d, x := pub.take 32, y := pub.drop 32, challenge := chal } } }) s

/-- KEY_IMPORT (R274, R384). -/
def cmdKeyImport (p : Packet) (r : ReplyTo) (s : State) : State :=
  let f := importFields p.payload 1
  journaledKey 0x34 p r (firstOf (createRefusal (byteAt p.payload 0) s) (importRefusal f s)) [.dealer, .fleetHost] noData s

/-- KEY_IMPORT runs: a half that carries the KEY_ID shows that the step has been done (R278). -/
def stepKeyImport (w : Work) (s : State) : StepRes :=
  let n := byteAt w.payload 0
  let f := importFields w.payload 1
  let res := le 8 f.keyId ++ [byte n, 0, 0, 0]
  match ksRefusal s, holdsKeyId n f.keyId s, createRefusal n s, importMaterial f s with
  | some x, _, _, _ => overKey x s
  | none, some _, _, _ => overOk res s
  | none, none, some x, _ => overKey x s
  | none, none, none, .error x => overKey x s
  | none, none, none, .ok m => overOk res (sessionUsed f (createKey n f.ktype f.usage f.attr false f.keyId m s))

/-- KEY_IMPORT_BLOB (R384). -/
def cmdKeyImportBlob (p : Packet) (r : ReplyTo) (s : State) : State :=
  let f := importFields p.payload 1
  let idx := byteAt p.payload 0
  match importMaterial f s with
  | .error x => keyRefuse r x s
  | .ok _ =>
    withCred 0x35 p r [.dealer, .fleetHost] true (fun _ s =>
      match importMaterial f s with
      | .error x => keyRefuse r x s
      | .ok m => ok r (mkBlob s (newHeader s f.ktype f.usage f.attr false idx (hostEpoch s idx f.pend) f.keyId) m) (sessionUsed f s)) s

/-- KEY_UPDATE (R282, R384). -/
def cmdKeyUpdate (p : Packet) (r : ReplyTo) (s : State) : State :=
  let imp : Bool := byteAt p.payload 1 = 1
  let f := importFields p.payload 2
  let own := firstOf (updateRefusal (byteAt p.payload 0) s) (if imp then importRefusal f s else randomRefusal s)
  journaledKey 0x36 p r own [.dealer, .fleetHost] (if imp then noData else drawKeyId) s

/-- KEY_UPDATE: its three steps (R282). -/
def stepKeyUpdate (w : Work) (s : State) : StepRes :=
  let b := w.payload
  let n := byteAt b 0
  let f := importFields b 2
  match ksRefusal s with
  | some x => overKey x s
  | none =>
    if w.step = 0 then
      match updateRefusal n s with
      | some x => overKey x s
      | none =>
        let ev := epochOf s 0 + 1
        if byteAt b 1 = 1 then
          match importMaterial f s with
          | .error x => overKey x s
          | .ok m => (.boundary 1 33 (updateData f.keyId ev), sessionUsed f (updateWrite n f.ktype f.usage f.attr false f.keyId m s))
        else if !randomOk s then overNot stHwFault 0 s
        else
          let keyId := at_ w.stepData 0 8
          let key := newMaterial s 0 (byteAt b 2)
          (.boundary 1 33 (updateData keyId ev), updateWrite n (byteAt b 2) (at_ b 3 2) (byteAt b 5) true keyId key (generate 8 s))
    else updateRest n w w.stepData s

/-- KEY_DESTROY (R278, R398). -/
def cmdKeyDestroy (p : Packet) (r : ReplyTo) (s : State) : State :=
  if byteAt p.payload 0 = 0 then withCred 0x37 p r [.dealer, .fleetHost] true (fun _ s => ok r [] s) s
  else journaled 0x37 p r (ksRefusal s) [.dealer, .fleetHost] true noData s

/-- KEY_DESTROY runs. -/
def stepKeyDestroy (w : Work) (s : State) : StepRes :=
  match ksRefusal s with
  | some x => overKey x s
  | none => overOk [] ((List.range (byteAt w.payload 0)).foldl (fun s i => destroyHandle (byteAt w.payload (1 + i)) s) s)

/-- The source of KEY_LOAD: header, key and the handle it comes from (R273, R277). -/
def loadSource (b : Bytes) (s : State) : Except Refused (BlobHeader × Bytes × Option Nat) :=
  if byteAt b 1 = 0 then
    match openBlob s (b.drop 4) with
    | .error x => .error x
    | .ok (h, key) => if !epochOk s h || !ownerOk s h then .error (stDenied, 8) else .ok (h, key, none)
  else
    let n := at_ b 4 4 - 0x10000
    match validHalf s n with
    | .error x => .error x
    | .ok (_, h, key) => if ownerOk s h then .ok (h, key, some n) else .error (stDenied, 8)

/-- KEY_LOAD (R273, R279, R399). -/
def cmdKeyLoad (p : Packet) (r : ReplyTo) (s : State) : State :=
  match ksRefusal s with
  | some x => keyRefuse r x s
  | none =>
    match loadSource p.payload s with
    | .error x => keyRefuse r x (if x.2 = 0x0A then countKeyRefusal x s else s)
    | .ok (h, key, src) =>
      let asked := byteAt p.payload 0
      let put := fun (i : Nat) => ok r [byte i, 0, 0, 0] (putSlot (mkSlot i h h.ktype h.usage key src) s)
      if asked = 0xFF then
        match freeSlot s 40 8 with
        | some i => put i
        | none => reply r stBusyRetry (busyBytes 5) s
      else if (slotOf s asked).isSome then deny r 0x0C s
      else put asked

/-- KEY_UNLOAD (R280, R292). -/
def cmdKeyUnload (p : Packet) (r : ReplyTo) (s : State) : State :=
  let m := byteAt p.payload 0
  if m = 0 then ok r [] s
  else match ksRefusal s with
    | some x => keyRefuse r x s
    | none => ok r [] ((List.range 8).foldl (fun s i => if bit m i then dropSlot (40 + i) s else s) s)

/-! ### KEY_OP (R385): one body per operation, after the checks they share -/

/-- The slot of a KEY_OP and its DATA, once the key store and the usage allow the operation. -/
def keyOp (p : Packet) (r : ReplyTo) (mask : Nat) (body : Slot → Bytes → State → State) (s : State) : State :=
  match useSlot (byteAt p.payload 0) mask s with
  | .error x => keyRefuse r x s
  | .ok x => body x (slice p.payload 6 (at_ p.payload 4 2)) s

/-- The slot holds an AES key, as CMAC and KWP need (R270, R385). -/
def isAes (x : Slot) : Bool := x.ktype == 1 || x.ktype == 2

/-- CMAC (R385). -/
def cmdCmac (p : Packet) (r : ReplyTo) (s : State) : State :=
  keyOp p r 0x07 (fun x d s => if isAes x then ok r (cmac x.key d) s else deny r 8 s) s

/-- CMAC_VERIFY (R385). -/
def cmdCmacVerify (p : Packet) (r : ReplyTo) (s : State) : State :=
  keyOp p r 0x0D (fun x d s =>
    if !isAes x then deny r 8 s
    else if cmac x.key (d.take (d.length - 16)) = d.drop (d.length - 16) then ok r [] s else deny r 0x0A s) s

/-- SIGN (R385). -/
def cmdSign (p : Packet) (r : ReplyTo) (s : State) : State :=
  keyOp p r 0x20 (fun x d s =>
    if x.ktype ≠ 4 then deny r 8 s
    else withRandom r (fun s => ok r (ecdsaSign (beNat x.key) (drawScalar s 0) d) (generate 8 s)) s) s

/-- A derived AES-256 key takes the lowest free host slot (R279, R385). -/
def putDerived (r : ReplyTo) (key : Bytes) (s : State) : State :=
  match freeSlot s 40 8 with
  | none => reply r stBusyRetry (busyBytes 5) s
  | some i =>
    let h := openHeader s 0 2
    ok r [byte i, 0, 0, 0] (draw 3 (putSlot (mkSlot i h 2 h.usage (fit 32 key) none) s))

/-- ECDH (R385): the key made of the shared point's x-coordinate is a free function of it (log 77). -/
def cmdEcdh (p : Packet) (r : ReplyTo) (s : State) : State :=
  keyOp p r 0x40 (fun x d s =>
    if x.ktype ≠ 4 then deny r 8 s
    else match ecdhX (beNat x.key) d with
      | none => deny r 0x0A s
      | some z => putDerived r (Config.ecdhKey z) s) s

/-- DERIVE (R385): SP 800-108 with the label and context that DATA gives (R264, log 77); what an HMAC key gives is a free function of it; a P-256 key derives
nothing so. -/
def cmdDerive (p : Packet) (r : ReplyTo) (s : State) : State :=
  keyOp p r 0x40 (fun x d s =>
    if isAes x then putDerived r (kdf x.key (Config.deriveInput d).1 (Config.deriveInput d).2 256) s
    else if x.ktype = 3 then putDerived r (Config.deriveHmac x.key d) s
    else deny r 8 s) s

/-- WRAP (R275, R385): the named slot's key by AES-KWP, when its export is permitted. -/
def cmdWrap (p : Packet) (r : ReplyTo) (s : State) : State :=
  keyOp p r 0x10 (fun x d s =>
    if !isAes x then deny r 8 s
    else match slotOf s (byteAt d 0) with
      | none => deny r 0x0D s
      | some y => if bit y.header.attr 1 then keyRefuse r (stDenied, 5) s else ok r (aesKwp x.key y.key) s) s

/-! ### Epochs, attestation, debug, anchors -/

/-- EPOCH_INC (R281, R285): its target is journaled at acceptance. -/
def cmdEpochInc (p : Packet) (r : ReplyTo) (s : State) : State :=
  let e := byteAt p.payload 0
  let own : Refusal13 := firstOf (ksRefusal s) (match ctrRead s e with
    | none => some (stHwFault, 0)
    | some v => if v + 1 ≥ 2 ^ 64 then some (stLocked, 0) else none)
  journaled 0x3B p r own [.dealer, .fleetHost] true (fun s => (le 8 (epochOf s e + 1), s)) s

/-- EPOCH_INC runs: the counter increment is put in flight while its target is not reached, and ends the work (R285, R310). -/
def stepEpochInc (w : Work) (s : State) : StepRes :=
  let e := byteAt w.payload 0
  match ksRefusal s, ctrRead s e with
  | some x, _ => overKey x s
  | none, none => overNot stHwFault 0 s
  | none, some v =>
    if v < at_ w.stepData 0 8 then
      counterStep e s
    else overOk (le 8 v) (epochMoved e s)

/-- What is attested: header, key type and key of a slot, a handle or the import session (R286); none when it holds no key. -/
def attestTarget (kind i : Nat) (s : State) : Except Refused (BlobHeader × Nat × Bytes) :=
  match kind with
  | 0 =>
    (match slotOf s i with
     | some x =>
       -- A member of a session set is attested by its set: the set blob's header, the digest of K_MAC.
       if x.header.ktype = 5 then .ok (x.header, 5, ((slotOf s (3 * (i / 3))).map (·.key)).getD x.key) else .ok (x.header, x.ktype, x.key)
     | none => .error (stDenied, 0x0D))
  | 1 =>
    (match validHalf s i with
     | .ok (_, h, key) => .ok (h, h.ktype, key)
     | .error x => .error x)
  | _ =>
    (match s.ks.session, slotOf s 11 with
     | some _, some x => .ok (x.header, 4, x.key)
     | _, _ => .error (stDenied, 0x0D))

/-- ATTEST (R286). -/
def cmdAttest (p : Packet) (r : ReplyTo) (s : State) : State :=
  match ksRefusal s with
  | some x => keyRefuse r x s
  | none =>
    match attestTarget (byteAt p.payload 0) (byteAt p.payload 1) s with
    | .error x => keyRefuse r x s
    | .ok (h, kt, key) =>
      withRandom r (fun s => ok r (attest s 0 h.bytes (keyDigest kt key) (slice p.payload 4 16)) (generate 8 s)) s

/-- DEBUG_MODE (R288). -/
def cmdDebugMode (p : Packet) (r : ReplyTo) (s : State) : State := journaled 0x3D p r none [.service] true noData s

/-- DEBUG_MODE runs: the unlock in CONFIG changes for the next Dawn, and each unlock is counted (R288). The boundary before it keeps a re-run from counting
twice. -/
def stepDebugMode (w : Work) (s : State) : StepRes :=
  let on : Bool := byteAt w.payload 0 = 1
  let s' := { s with ks := { s.ks with unlockNext := on } }
  if !on then overConfig 0x3D00 [] s'
  else match ctrRead s 34 with
    | none => overNot stHwFault 0 s
    | some v => if v + 1 ≥ 2 ^ 64 then overNot stLocked 0 s else overConfig 0x3D00 [] (ctrInc 34 s')

/-- ANCHOR_SET (R265): the first write of anchor 0 needs no credential. An anchor written with VALID 0 is a present one, whose replacement needs it. -/
def cmdAnchorSet (p : Packet) (r : ReplyTo) (s : State) : State :=
  let first : Bool := byteAt p.payload 0 = 0 && (writtenAnchor s 0).isNone && (metaOf s 1028).readable
  journaled 0x3E p r none [.dealer] (!first) noData s

/-- ANCHOR_SET runs: one page commit (R265), which leaves the other anchors of a page without a valid copy zero (R303). -/
def stepAnchorSet (w : Work) (s : State) : StepRes :=
  let i := byteAt w.payload 0
  let a : Anchor := { index := i, keyId := word (at_ w.payload 4 4), valid := bit (byteAt w.payload 8) 0, pub := slice w.payload 12 64 }
  overOk [] (keysCommit (anchorPage i) (fun s => { s with ks := { s.ks with anchors := a :: s.ks.anchors.filter (·.index != i) } }) s)

end Sys2Proof.Machine
end

