-- ==== Sys2Proof/Machine/CmdProv.lean ====
section
/-! DEFINITION. PROVISION (R386): one body per ITEM, and the steps of the accepted work. -/
namespace Sys2Proof.Machine

/-- The refusal of PROVISION on a handle whose occupied half is replaced as an update is: a handle that cannot be read (R277, R282, R386). -/
def replaceRefusal (n : Nat) (s : State) : Refusal13 :=
  match ksRefusal s with
  | some x => some x
  | none => if handleFree s n then none else (match updateRefusal n s with
      | some x => if x.1 = stDenied then some (stDenied, 0x0C) else some x
      | none => none)

/-- The key of an item goes into its handle: created in a free one, otherwise the update's step 1 (R278, R282). -/
def placeKey (n ktype usage attrBits : Nat) (origin : Bool) (keyId : Nat) (key result : Bytes) (s : State) : StepRes :=
  if handleFree s n then overOk result (createKey n ktype usage attrBits origin keyId key s)
  else (.boundary 1 33 (updateData keyId (epochOf s 0 + 1)), updateWrite n ktype usage attrBits origin keyId key s)

/-- COUPLING_KEY (R386). -/
def cmdCouplingKey (p : Packet) (r : ReplyTo) (s : State) : State :=
  journaledKey 0x3F p r (firstOf (replaceRefusal 192 s) (randomRefusal s)) [.dealer, .fleetHost] drawKeyId s

/-- The public key of handle 192; empty when it holds none. -/
def couplingPub (s : State) : Bytes :=
  match validHalf s 192 with
  | .ok (_, _, key) => pubOf (beNat key)
  | .error _ => []

/-- COUPLING_KEY runs: the stored certificate counts as absent once the key is replaced (R386). -/
def stepCouplingKey (w : Work) (s : State) : StepRes :=
  let keyId := at_ w.stepData 0 8
  match ksRefusal s with
  | some x => overKey x s
  | none =>
    if w.step = 0 then
      match holdsKeyId 192 keyId s, replaceRefusal 192 s with
      | some key, _ => overOk (le 8 keyId ++ pubOf (beNat key)) s
      | none, some x => overKey x s
      | none, none =>
        if !randomOk s then overNot stHwFault 0 s
        else
          let key := newMaterial s 0 4
          placeKey 192 4 0x24 2 true keyId key (le 8 keyId ++ pubOf (beNat key)) (generate 8 s)
    else
      let x := updateRest 192 w (le 8 keyId ++ couplingPub s) s
      if w.step = 1 then (x.1, { x.2 with cpl := { x.2.cpl with cert := [] } }) else x

/-- The checks of a coupling certificate after its VERSION (R386). -/
def certRefusal (cert : Bytes) (s : State) : Refusal13 :=
  let role := byteAt cert 1
  if s.cfg.role = .none then some (stDenied, 9)
  else if (s.cfg.role = .tractor ∧ role ≠ 1) ∨ (s.cfg.role = .trailer ∧ role ≠ 2 ∧ role ≠ 3) then some (stDenied, 8)
  else match ksRefusal s with
    | some x => some x
    | none =>
      match validHalf s 192 with
      | .error x => some x
      | .ok (_, _, key) =>
        if slice cert 20 64 ≠ pubOf (beNat key) then some (stDenied, 8)
        else match anchorOf s 0 with
          | none => some (stDenied, 0x0A)
          | some a =>
            if at_ cert 16 4 = a.keyId.toNat && ecdsaVerify a.pub (sha256 (cert.take 84)) (slice cert 84 64) then none else some (stDenied, 0x0A)

/-- COUPLING_CERT (R386). -/
def cmdCouplingCert (p : Packet) (r : ReplyTo) (s : State) : State :=
  journaled 0x3F p r (certRefusal (slice p.payload 4 148) s) [.dealer, .fleetHost] true noData s

/-- COUPLING_CERT runs: the certificate is stored in CONFIG. -/
def stepCouplingCert (w : Work) (s : State) : StepRes :=
  let cert := slice w.payload 4 148
  match certRefusal cert s with
  | some x => overNot x.1 x.2 s
  | none => overConfig 0x3F02 [] { s with cpl := { s.cpl with cert := cert } }

/-- Why IMMO_KEY is refused (R386). -/
def immoRefusal (f : ImportFields) (s : State) : Refusal13 :=
  if s.cfg.role = .trailer then some (stDenied, 8) else firstOf (replaceRefusal 193 s) (importRefusal f s)

/-- IMMO_KEY (R386). -/
def cmdImmoKey (p : Packet) (r : ReplyTo) (s : State) : State :=
  journaledKey 0x3F p r (immoRefusal (importFields p.payload 4) s) [.dealer, .fleetHost] noData s

/-- IMMO_KEY runs: KTYPE, USAGE and NOEXPORT are those of the item (R386). -/
def stepImmoKey (w : Work) (s : State) : StepRes :=
  let f := importFields w.payload 4
  match ksRefusal s with
  | some x => overKey x s
  | none =>
    if w.step = 0 then
      match holdsKeyId 193 f.keyId s, replaceRefusal 193 s, importMaterial f s with
      | some _, _, _ => overOk (le 8 f.keyId) s
      | none, some x, _ => overKey x s
      | none, none, .error x => overKey x s
      | none, none, .ok m => placeKey 193 1 0x02 2 false f.keyId m (le 8 f.keyId) (sessionUsed f s)
    else updateRest 193 w (le 8 f.keyId) s

end Sys2Proof.Machine
end

