-- ==== Sys2Proof/Machine/CmdRad.lean ====
section
/-! DEFINITION. Bodies of the LF, the Radio and the Ranging families (R109, R116–R118, R146–R152, R157, R189, R387, R388) and the steps of their
accepted work. -/
namespace Sys2Proof.Machine

/-- The present values of registers are kept in CONFIG (R91, R152, R499). -/
def saveRegs (l : List Nat) (s : State) : State :=
  { s with cfg := { s.cfg with saved := l.foldl (fun m a => m.filter (·.1 != a) ++ [(a, regGet s a)]) s.cfg.saved } }

/-- `n` registers of consecutive words. -/
def regRun (a n : Nat) : List Nat := (List.range n).map fun i => a + 4 * i

/-! ### LF (0x4_) -/

/-- The broadcast combination that LFX_BCSEL names for doors carries the sync of a host test telegram (R107; DESIGN CHOICE, log 81). -/
def testSync (s : State) : Nat := regFld s 0x40020858 4 3

/-- Payload bits of a host test telegram: `n` bits, the first in bit 7 of the first byte, as entries of a code (R105, R387). -/
def testBits (code n : Nat) (bits : Bytes) : List Word :=
  (List.range ((n + 15) / 16)).map fun i =>
    word ((if code = 0 then 3 else 4) * 2 ^ 28 + min 16 (n - 16 * i) * 65536 + byteAt bits (2 * i) * 256 + byteAt bits (2 * i + 1))

/-- The host test telegram (R109): WAKE on a set, then the bits on a drive; no bits, the wake pattern alone. -/
def testWords (s : State) (set code drive n : Nat) (bits : Bytes) : List Word :=
  [wakeWord set (testSync s)] ++ (if n = 0 then [] else word (0x50000000 + drive) :: testBits code n bits) ++ [word 0]

/-- A host test telegram asks for its energy in class 5 (R113, R399). -/
def startTest (work loose : Option Nat) (ws : List Word) (s : State) : State :=
  e1Request 5 ws { s with lf := { s.lf with tests := s.lf.tests ++ [{ work := work, loose := loose, entries := ws, learn := false, started := false, result := none }] } }

/-- LF_TEST (R109, R387, R388). -/
def cmdLfTest (p : Packet) (r : ReplyTo) (s : State) : State := journaled 0x40 p r none [] false noData s

/-- LF_TEST runs. -/
def startLfTest (work loose : Option Nat) (b : Bytes) (s : State) : State :=
  startTest work loose (testWords s (byteAt b 0) (byteAt b 1) (byteAt b 2) (at_ b 4 2) (b.drop 6)) s

/-- LF_RETEST (R116, R123, R388). -/
def cmdLfRetest (p : Packet) (r : ReplyTo) (s : State) : State := ok r [] (askRetest (byteAt p.payload 0) s)

/-- LF_OFFSET_CAL (R117): the reply follows the measurement. -/
def cmdLfOffsetCal (r : ReplyTo) (s : State) : State := askOffsets (some r) s

/-- LF_TABLE (R118, R388). -/
def cmdLfTable (p : Packet) (r : ReplyTo) (s : State) : State :=
  let s := regPutFld 0x40020808 0 8 (byteAt p.payload 0) s
  let s := (List.range 8).foldl (fun s n => regPutFld (lfCh n 4) 0 8 (byteAt p.payload (4 + n)) s) s
  ok r [] (lfCommit s)

/-! ### Radio (0x5_) -/

/-- RADIO_CAL (R157). -/
def cmdRadioCal (p : Packet) (r : ReplyTo) (s : State) : State := journaled 0x50 p r none [] false noData s

/-- What RADIO_CAL answers: the image rejection, the isolation and the tuner states measured (R387). -/
def calResult (s : State) : Bytes :=
  [byte (regFld s 0x40030080 16 8), byte (regFld s 0x40030080 24 8), byte (regFld s 0x4004005C 16 8), byte (regFld s 0x40040054 0 8), byte (regFld s 0x40040054 8 8)] ++
    le 2 (regFld s 0x40030070 0 16) ++ [0]

/-- RADIO_CAL: its step asks for steps 2–9 of R156, which wait for the gap of R157, and ends with them (R117, R157). -/
def stepRadioCal (tagged : Bool) (w : Work) (m : CalMeas) (s : State) : StepRes :=
  if s.rad.calFor ≠ some (tagged, w.seq) then (.wait, calStart .full m (modRad (fun x => { x with calFor := some (tagged, w.seq) }) s))
  else if s.rad.calDue.any (·.1 == .full) || s.rad.cal.any (·.kind == .full) then (.wait, s)
  else overOk (calResult s) (modRad (fun x => { x with calFor := none }) s)

/-- An AT more than 2.0 s ahead: CLK_TS counts 768 MHz (R148, R388, R551). -/
def atTooFar (s : State) (t : Nat) : Bool := let d := (word t - s.power.clkTs).toNat; decide (1536000000 < d ∧ d < 2 ^ 31)

/-- One descriptor with its frame (R146–R149, R388). -/
def placeTx (p : Packet) (r : ReplyTo) (d base : Nat) (s : State) : State :=
  let b := p.payload
  let h : Bool := byteAt b 0 = 1
  let s := modRad (fun x => { x with jobs := x.jobs ++ [{ bandH := h, desc := d, ret := r, ts := 0xFFFFFFFF }] }) s
  placeFrame h d base (at_ b 4 4) (at_ b 8 4) (byteAt b 1) (byteAt b 2) (byteAt b 3) (slice b 14 (at_ b 12 2)) s

/-- RADIO_TX (R147–R149, R387, R388, R398). With no descriptor or no room in the transmit buffer free it answers BUSY_RETRY (DESIGN CHOICE, log 82). -/
def cmdRadioTx (p : Packet) (r : ReplyTo) (s : State) : State :=
  let b := p.payload
  let h : Bool := byteAt b 0 = 1
  let n := at_ b 12 2
  if byteAt b 3 = 1 ∧ atTooFar s (at_ b 8 4) then refuse r stBadField 8 3 s
  else if n = 0 then ok r (le 4 0xFFFFFFFF) s
  else match freeDesc s h with
    | none => reply r stBusyRetry (busyBytes 0) s
    | some d => if 512 < txBufTop s h + n then reply r stBusyRetry (busyBytes 0) s else placeTx p r d (txBufTop s h) s

/-- RADIO_SAVE (R387, R398). -/
def cmdRadioSave (p : Packet) (r : ReplyTo) (s : State) : State :=
  if byteAt p.payload 0 = 0 then ok r [] s else journaled 0x52 p r none [] false noData s

/-- RADIO_SAVE runs: the tuner word, the power tables, the corrections (R152, R169). -/
def stepRadioSave (w : Work) (s : State) : StepRes :=
  let m := byteAt w.payload 0
  let l := (if bit m 0 then [0x40030070] else []) ++ (if bit m 1 then regRun 0x40030200 64 else []) ++
    (if bit m 2 then regRun 0x40040200 32 else []) ++ (if bit m 3 then [0x4003006C] else [])
  overConfig 0x5200 [] (saveRegs l s)

/-! ### Ranging (0x6_) -/

/-- MODEL_SET (R189). -/
def cmdModelSet (p : Packet) (r : ReplyTo) (s : State) : State := journaled 0x60 p r none [] false noData s

/-- MODEL_SET runs. -/
def stepModelSet (w : Work) (s : State) : StepRes := overConfig 0x6000 [] (modRng (fun x => { x with model := w.payload }) s)

/-- MODEL_GET (R189); no model reads as zeros, N_AER 0 (DEDUCED, log 83). -/
def cmdModelGet (r : ReplyTo) (s : State) : State := ok r (fit 136 s.rng.model) s

/-- RANGE takes an ACTIVE T3 or PH record (R388). -/
def rangeRefusal (i : Nat) (s : State) : Refusal13 :=
  match tokOf s i with
  | some t => if t.state = .active ∧ t.cls ≠ .t2 then none else some (stDenied, 8)
  | none => some (stDenied, 8)

/-- RANGE (R198, R388, R398). -/
def cmdRange (p : Packet) (r : ReplyTo) (s : State) : State :=
  if byteAt p.payload 1 = 0 then ok r (rangeBytes s none) s
  else journaled 0x62 p r (rangeRefusal (byteAt p.payload 0) s) [] false noData s

/-- RANGE runs: it waits behind any decision (R198). -/
def startRange (work loose : Option Nat) (b : Bytes) (s : State) : State :=
  match rangeRefusal (byteAt b 0) s with
  | some x => readyWork work loose x.1 (refusalBytes 0xFFFF x.2) s
  | none => trigger { mkTrigger .range .door none s with works := [(work, loose)] } s

/-- RANGE_SAVE (R387). -/
def cmdRangeSave (p : Packet) (r : ReplyTo) (s : State) : State := journaled 0x63 p r none [.dealer] true noData s

/-- RANGE_SAVE runs: MCP_OFS in force and in CONFIG (R203). -/
def stepRangeSave (w : Work) (s : State) : StepRes :=
  overConfig 0x6300 [] (saveRegs [0x400500A4] (regPutFld 0x400500A4 0 16 (at_ w.payload 0 2) s))

end Sys2Proof.Machine
end

