-- ==== Sys2Proof/Machine/Enrol.lean ====
section
/-! DEFINITION. Enrolment (R73–R76, R391, R619): its checks, its steps with their journaled boundaries, its attempts on the air and over LE. -/
namespace Sys2Proof.Machine

/-- PROFILE, CLASS, AUTH and TOKEN_ID of ENROL (R391). -/
def enrolProfile (b : Bytes) : Nat := byteAt b 0
def enrolCls (b : Bytes) : TokClass := if byteAt b 1 = 3 then .t3 else if byteAt b 1 = 2 then .t2 else .ph
def enrolMaster (b : Bytes) : Bool := byteAt b 3 = 1
def enrolId (b : Bytes) : Quad := BitVec.ofNat 64 (at_ b 4 8)

/-- The transport key of ENROL with its header: a host-held blob with usage WRAP (R74, R391); AES alone wraps by KW. -/
def transportKey (b : Bytes) (s : State) : Except Refused (BlobHeader × Bytes) :=
  match openBlob s (b.drop 16) with
  | .error x => .error x
  | .ok (h, key) =>
    if !epochOk s h || !ownerOk s h then .error (stDenied, 8)
    else if !bit h.usage 4 then .error (stDenied, 5)
    else .ok (h, key)

/-- The lowest FREE record of a profile (R66, R74). -/
def freeToken (s : State) (profile : Nat) : Option Nat := ((List.range 16).map (16 * profile + ·)).find? fun i => (tokOf s i).isNone

/-- Why an enrolment is refused before it reserves a record (R73, R75, R391). -/
def enrolRefusal (b : Bytes) (s : State) : Refusal13 :=
  if s.acc.curfew then some (stCurfew, 0)
  else match ctrRead s 32 with
    | none => some (stHwFault, 0)
    | some n =>
      if s.acc.enrolLimit ≤ n then some (stLocked, 0)
      else if wbit (profileOf s (16 * enrolProfile b)) 6 ∧ at_ b 12 4 = 0 then some (stBadField, 3)
      else if s.acc.tokens.any fun t => t.state == .active && t.tokenId == enrolId b then some (stDenied, 0x0C)
      else if enrolMaster b ∧ s.acc.denylist.contains (enrolId b) then some (stDenied, 7)
      else if (freeToken s (enrolProfile b)).isNone then some (stDenied, 0x0B)
      else match ksRefusal s, transportKey b s with
        | some x, _ => some x
        | none, .error x => some x
        | none, .ok _ => none

/-- ENROL (R391): no credential is asked for under AUTH = 1. -/
def cmdEnrol (p : Packet) (r : ReplyTo) (s : State) : State :=
  let b := pktBody p
  let own := enrolRefusal b s
  let s := match queueRefusal p s, own with
    | none, some x => countKeyRefusal x s
    | _, _ => s
  journaled 0x72 p r own [.dealer] (!enrolMaster b) noData s

/-- A MASTER token is sought (R73). -/
def seekMaster (work loose : Option Nat) (s : State) : State := trigger { mkTrigger .master .door none s with works := [(work, loose)] } s

/-- ENROL runs: under AUTH = 1 its first step seeks the MASTER token, afresh after a reset. -/
def startEnrol (w : Work) (work loose : Option Nat) (s : State) : State :=
  if w.step = 0 ∧ enrolMaster w.body then seekMaster work loose s else s

/-- The record and the KEY_ID of its key that STEP_DATA fixes (R74, R318); the count the enrolment reaches. -/
def enrolData (record keyId num : Nat) : Bytes := [byte record] ++ le 8 keyId ++ le 8 num
def enrolRecord (w : Work) : Nat := byteAt w.stepData 0
def enrolKeyId (w : Work) : Nat := at_ w.stepData 1 8
def enrolNum (w : Work) : Nat := at_ w.stepData 9 8

/-- The enrolment that a piece of work runs now. -/
def enrolOf (s : State) (work loose : Option Nat) : Option Enrol :=
  match s.acc.enrol with
  | some e => if e.work = work ∧ e.loose = loose then some e else none
  | none => none

/-- The state with the enrolment changed. -/
def modEnrol (f : Enrol → Enrol) (s : State) : State := modAcc (fun a => { a with enrol := a.enrol.map f }) s

/-- The key of the token that is being enrolled, in its cache slot (R271, R279). -/
def enrolKey (e : Enrol) (s : State) : Option Bytes × State :=
  match useHandle e.record 1 s with
  | .ok (key, s) => (some key, s)
  | .error r => (none, countKeyRefusal r s)

/-! ### Attempts (R74, R109, R619) -/

/-- Connection of the phone that is being enrolled: a phone known by no record yet joins under the record reserved for it. -/
def enrolConn (s : State) (e : Enrol) : Bool := s.bus.conns.any (·.record == e.record)

/-- The learn telegram: WAKE, the header of R51 or R55, the token key wrapped by AES-KW under the transport key (R109). The interior aerials' broadcast
combination of START carries it (DESIGN CHOICE, log 84). -/
def learnWords (s : State) (t2 : Bool) (nonce : Word) (wrapped : Bytes) : List Word :=
  let bc := regFld s 0x40020858 0 3
  let set := regFld s 0x40060014 0 8
  if t2 then [wakeWord set bc, comboWord bc] ++ codeWords 4 48 (t2Payload s.cfg.vid (nonce.toNat % 2 ^ 24)) ++ codeWords 4 192 (beNat wrapped) ++ [word 0]
  else [wakeWord set bc, comboWord bc] ++ codeWords 3 64 (t3Payload 4 s.cfg.vid nonce) ++ codeWords 3 192 (beNat wrapped) ++ [word 0]

/-- The transport key of the work behind an enrolment, in its cache slot (R279); its refusal is counted (R273). -/
def enrolTransport (e : Enrol) (s : State) : Option Bytes × State :=
  match workOf s (e.work, e.loose) with
  | none => (none, s)
  | some w =>
    match transportKey w.body s with
    | .ok (h, key) => let x := cacheLoad none h key s; (some x.1.key, x.2)
    | .error r => (none, countKeyRefusal r s)

/-- The token key wrapped by AES-KW under the transport key (R74, R275): its blob must permit the export, by NOEXPORT 0 or, in step 3, by LEARN. -/
def learnWrapped (e : Enrol) (s : State) : Option Bytes × State :=
  let k := enrolKey e s
  let t := enrolTransport e k.2
  match k.1, t.1, handleKey e.record t.2 with
  | some key, some tk, .ok (x, _) => if !bit x.header.attr 1 || bit x.header.attr 4 then (some (aesKw tk key), t.2) else (none, countKeyRefusal (stDenied, 5) t.2)
  | _, _, _ => (none, t.2)

/-- The learn message of step 3: a telegram in energy class 1, or the key message over LE. Nothing while an attempt is still to be granted (R619). -/
def learnAttempt (e : Enrol) (s : State) : State :=
  if e.cls = .ph ∧ !enrolConn s e then s
  else if e.cls ≠ .ph ∧ s.lf.tests.any (·.learn) then s
  else match learnWrapped e s with
  | (none, s) => s
  | (some wrapped, s) =>
    if e.cls = .ph then modEnrol (fun e => { e with confirmed := true }) (emitOut (.leSend e.record wrapped) s)
    else
      let ws := learnWords s (e.cls == .t2) (peek s 0) wrapped
      let s := draw 1 s
      e1Request 1 ws { s with lf := { s.lf with tests := s.lf.tests ++
        [{ work := e.work, loose := e.loose, entries := ws, learn := true, started := false, result := none }] } }

/-- Aerials that a poll measures (R109, R116). -/
def pollAerials (s : State) : List Nat := (aerials (regFld s 0x40060014 0 8)).filter (chanLive s)

/-- The confirming challenge of step 4 (R74): a poll of the new token alone, under a fresh nonce, with the measurement that places it; its purpose is that of a
decision, and a T2 token is challenged on AER_MASK (DESIGN CHOICE, log 84). Its window opens as its telegram begins (R619). -/
def confirmAttempt (e : Enrol) (s : State) : State :=
  let nonce := peek s 0
  let ph : Quad := BitVec.ofNat 64 (leNat (peekBytes s 1 8))
  let bc := regFld s 0x40020858 0 3
  let set := regFld s 0x40060014 0 8
  let plan := fun (t3 : Nat) (t2 : Option Nat) =>
    ({ owner := .enrol, bandL := e.cls == .t3 && !e.bandH, bandH := e.cls == .t3 && e.bandH, t3Us := t3, t2Us := t2, nonce := nonce } : WinPlan)
  match e.cls with
  | .ph =>
    if enrolConn s e then
      modEnrol (fun e => { e with phNonce := ph }) (emitOut (.leSend e.record (le 4 s.cfg.vid.toNat ++ le 8 ph.toNat ++ le 4 s.acc.decNum.toNat)) (draw 3 s))
    else s
  | .t3 =>
    if e1Asked s 1 then s
    else
      let aers := pollAerials s
      let ws := [wakeWord set bc, comboWord bc] ++ codeWords 3 64 (t3Payload 1 s.cfg.vid nonce) ++ measureWords aers [] ++ [word 0]
      e1Plan (some (plan (13392 + 1000 * aers.length) none)) 1 ws (modEnrol (fun e => { e with nonce := nonce }) (draw 3 s))
  | .t2 =>
    if e1Asked s 1 then s
    else
      let td := t2Drive (pollAerials s) s
      let ws := [wakeWord set bc, td.1] ++ codeWords 4 48 (t2Payload s.cfg.vid (nonce.toNat % 2 ^ 24)) ++ [word 0]
      e1Plan (some (plan 0 (some 17488))) 1 ws (modEnrol (fun e => { e with nonce := nonce }) (draw 3 td.2))

/-- An attempt of the running step: nothing while a decision has the air or the token has answered (R85, R619). -/
def enrolAttempt (s : State) : State :=
  match s.acc.enrol with
  | none => s
  | some e =>
    if s.acc.decision.isSome || e.confirmed then s
    else if e.cls != .ph && lfBlocked s then s
    else if e.step = 3 then learnAttempt e s
    else if e.rx.isSome then s
    else confirmAttempt e s

/-- A T3 reply to the confirming challenge (R53, R54, R74): it confirms a token whose LF zone is Z0 or Z1. That zone, which step 3 asks for, is measured with this
reply; a verified one from farther out is not taken, and the step goes on until another comes or the time is up (DESIGN CHOICE, log 176). A reply of another token is
judged as R62 says: an ACTIVE one's valid reply in its slot is not foreign. -/
def enrolT3 (r slot : Nat) (data : Bytes) (fit : Option LfvFit) (s : State) : State :=
  match s.acc.enrol with
  | none => s
  | some e =>
    if e.rx ≠ some r ∨ e.cls ≠ .t3 ∨ s.acc.decision.isSome then s
    else match enrolKey e s with
      | (none, s) => s
      | (some key, s) =>
        let bandH := r == 2
        let place := t3Place (at_ data 0 4) e.nonce none
        let n := t3Len bandH
        if data.length = n ∧ at_ data 0 4 = e.tokenId.toNat ∧ slot = place.2 ∧ data.drop (n - 8) = t3Mac key s.cfg.vid e.nonce place.1 (data.take (n - 8)) then
          let z := (lfZoneT3 s bandH (slice data 5 (if bandH then 24 else 8)) (pollAerials s) [] fit).1
          if z = .z0 ∨ z = .z1 then modEnrol (fun e => { e with confirmed := true }) s else s
        else
          let v := t3Verify bandH e.nonce place (some slot) data s
          if v.1.isSome then v.2 else foreignReply v.2

/-- A T2 reply to the confirming challenge (R56, R57, R62, R74): it confirms a token whose LF zone is Z0 or Z1 (DESIGN CHOICE, log 176). -/
def enrolT2 (r slot : Nat) (data : Bytes) (s : State) : State :=
  match s.acc.enrol with
  | none => s
  | some e =>
    if e.rx ≠ some r ∨ e.cls ≠ .t2 ∨ s.acc.decision.isSome then s
    else match enrolKey e s with
      | (none, s) => s
      | (some key, s) =>
        let nonce := e.nonce.toNat % 2 ^ 24
        if data.length = 10 ∧ at_ data 0 4 = e.tokenId.toNat ∧ slot = t2Slot (at_ data 0 4) nonce ∧ data.drop 6 = t2Mac key s.cfg.vid nonce (data.take 6) then
          if lfZoneT2 s (pollAerials s) (byteAt data 4) = .z3 then s else modEnrol (fun e => { e with confirmed := true }) s
        else
          let v := t2Verify nonce (some slot) data s
          if v.1.isSome then v.2 else foreignReply v.2

/-- A phone's answer to the confirming challenge (R58, R74). -/
def enrolPhone (record : Nat) (answer : Bytes) (s : State) : State :=
  match s.acc.enrol with
  | none => s
  | some e =>
    if e.record ≠ record ∨ e.cls ≠ .ph ∨ e.step ≠ 4 ∨ e.phNonce = 0 then s
    else match enrolKey e s with
      | (none, s) => s
      | (some key, s) => if answer = phoneMac key s.cfg.vid e.phNonce s.acc.decNum then modEnrol (fun e => { e with confirmed := true }) s else foreignReply s

/-- The window of the confirming challenge closes. -/
def enrolWindow (rx : Nat) (s : State) : State :=
  match s.acc.enrol with
  | some e => if e.rx = some rx then modEnrol (fun e => { e with rx := none }) s else s
  | none => s

/-- 10 s of silence (R75): the key already generated is destroyed, the work is over with TIMEOUT. -/
def enrolTimeout (s : State) : State :=
  match s.acc.enrol with
  | none => s
  | some e =>
    if e.confirmed then s
    else
      let s := enrolClean (destroyHandle e.record s)
      let s := { s with bus := { s.bus with conns := s.bus.conns.filter (·.record != e.record) } }
      readyWork e.work e.loose stTimeout (refusalBytes 0xFFFF 0) s

/-! ### The steps (R74) -/

/-- Step 3 or 4 begins, or begins again after a reset: its first attempt goes out. -/
def enrolBegin (w : Work) (work loose : Option Nat) (step : Nat) (s : State) : State :=
  let b := w.body
  enrolAttempt (modAcc (fun a => { a with enrol := some {
      work := work, loose := loose, step := step, record := enrolRecord w, tokenId := enrolId b, cls := enrolCls b, bandH := byteAt b 2 == 1,
      nonce := 0, phNonce := 0, rx := none, confirmed := false } }) s)

/-- Step 3: the token key is generated in the record's handle, once (R278), and the learn message goes out. -/
def enrolLearn (w : Work) (work loose : Option Nat) (s : State) : StepRes :=
  if s.acc.decision.isSome then (.wait, s)
  else match holdsKeyId (enrolRecord w) (enrolKeyId w) s with
    | some _ => (.wait, enrolBegin w work loose 3 s)
    | none =>
      match createRefusal (enrolRecord w) s with
      | some x => overKey x s
      | none =>
        if !randomOk s then overNot stHwFault 0 s
        else
          let key := newMaterial s 0 1
          (.wait, enrolBegin w work loose 3 (createKey (enrolRecord w) 1 1 0x12 true (enrolKeyId w) key (generate 4 s)))

/-- The token record that step 5 writes (R72). -/
def enrolToken (w : Work) (epoch : Nat) : TokenRec :=
  let b := w.body
  { index := enrolRecord w, state := .active, cls := enrolCls b, bandH := byteAt b 2 == 1, tokenId := enrolId b,
    keyHandle := word (0x10000 + enrolRecord w), expiry := word (at_ b 12 4), enrolNum := BitVec.ofNat 16 (enrolNum w),
    revokeEpoch := BitVec.ofNat 16 epoch, lastSeen := 0, lastZone := 0 }

/-- The blob of an enrolled token's key is narrowed to LEARN 0 (R272, R275). -/
def narrowLearn (n : Nat) (s : State) : State :=
  match validHalf s n with
  | .ok (isB, h, key) => writeHalf n isB (mkBlob s { h with attr := h.attr &&& 0xEF } key) s
  | .error _ => s

/-- Step 5: the record is ACTIVE, the identifier leaves the deny list (R73, R74, R77). -/
def enrolWrite (w : Work) (s : State) : State :=
  let t := enrolToken w ((ctrRead s 33).getD 0)
  let s := narrowLearn t.index s
  let s := keysCommit (tokenPage t.index) (modAcc fun a => { a with
    tokens := a.tokens.filter (fun x => decide (x.index < t.index)) ++ [t] ++ a.tokens.filter (fun x => decide (t.index < x.index)) }) s
  if enrolMaster w.body then s else denyCommit (fun l => l.filter (· != t.tokenId)) s

/-- The result of ENROL (R389). -/
def enrolResult (w : Work) : Bytes := [byte (enrolRecord w), 0] ++ le 2 (enrolNum w) ++ le 4 (0x10000 + enrolRecord w)

/-- The steps of ENROL (R74, R75). -/
def stepEnrol (w : Work) (work loose : Option Nat) (s : State) : StepRes :=
  let b := w.body
  match w.step with
  | 0 =>
    (match enrolRefusal b s, enrolMaster b, w.ready with
     | some x, _, _ => overNot x.1 x.2 (countKeyRefusal x s)
     | none, true, none => (.wait, s)
     | none, true, some (st, r) => if st = stOk then (.boundary 1 20 [], s) else (.over st r, s)
     | none, false, _ => (.boundary 1 20 [], s))
  | 1 =>
    (match enrolRefusal b s, freeToken s (enrolProfile b) with
     | some x, _ => overNot x.1 x.2 (countKeyRefusal x s)
     | none, none => overNot stDenied 0x0B s
     | none, some i => if !randomOk s then overNot stHwFault 0 s else (.boundary 2 40 (enrolData i (peekKeyId s 0) 0), generate 2 s))
  | 2 =>
    (match w.ready, enrolOf s work loose with
     | some (st, r), _ => (.over st r, s)
     | none, none => enrolLearn w work loose s
     | none, some e =>
       if e.confirmed then (.boundary 3 60 (enrolData (enrolRecord w) (enrolKeyId w) ((ctrRead s 32).getD 0 + 1)), enrolClean s) else (.wait, s))
  | 3 =>
    (match w.ready, enrolOf s work loose with
     | some (st, r), _ => (.over st r, s)
     | none, none => (.wait, enrolBegin w work loose 4 s)
     | none, some e =>
       if !e.confirmed then (.wait, s)
       else
         match ctrRead s 32 with
         | none => overNot stHwFault 0 (enrolClean s)
         | some n => if n < enrolNum w then counterStep 32 s else (.boundary 4 80 w.stepData, enrolClean s))
  | _ => overOk (enrolResult w) (enrolWrite w s)

end Sys2Proof.Machine
end

