-- ==== Sys2Proof/Machine/CmdAcc.lean ====
section
/-! DEFINITION. Bodies of the Access family but for ENROL (R64, R65, R70, R76, R77, R86, R389, R390) and the steps of their accepted work. -/
namespace Sys2Proof.Machine

/-- An immediate query answers CURFEW with its normal payload during Curfew (R64). -/
def answerQuery (r : ReplyTo) (b : Bytes) (s : State) : State := reply r (if s.acc.curfew then stCurfew else stOk) b s

/-- DECIDE (R25, R389, R390). -/
def cmdDecide (p : Packet) (r : ReplyTo) (s : State) : State :=
  journaled 0x70 p r (if roleOf s = .trailer then some (stDenied, 8) else none) [] false noData s

/-- DECIDE runs: it is a trigger that is never dropped (R25). -/
def startDecide (work loose : Option Nat) (b : Bytes) (s : State) : State :=
  trigger { mkTrigger .decide (if byteAt b 0 = 3 then .start else .door) none s with works := [(work, loose)] } s

/-- DECISION_LOG (R86, R389). -/
def cmdDecisionLog (p : Packet) (r : ReplyTo) (s : State) : State :=
  let first := at_ p.payload 0 4
  answerQuery r (((s.acc.ring.filter fun x => decide (first ≤ x.num.toNat)).take (byteAt p.payload 4)).flatMap DecRecord.bytes) s

/-- TOKEN_READ (R72, R389). -/
def cmdTokenRead (p : Packet) (r : ReplyTo) (s : State) : State :=
  answerQuery r ((List.range (byteAt p.payload 1)).flatMap fun i => tokenBytes s (byteAt p.payload 0 + i)) s

/-- DENY_READ (R77, R389). -/
def cmdDenyRead (r : ReplyTo) (s : State) : State :=
  answerQuery r ([byte s.acc.denylist.length, 0, 0, 0] ++ s.acc.denylist.flatMap fun i => le 8 i.toNat) s

/-! ### REVOKE (R73, R77) -/

/-- The record is the last ACTIVE one of profile 0 (R77). -/
def lastOfZero (i : Nat) (s : State) : Bool :=
  decide (i < 16) && (tokOf s i).any (·.state == .active) && !s.acc.tokens.any fun t => decide (t.index < 16) && t.index != i && t.state == .active

/-- A record that is FREE cannot be revoked, suspended or reinstated (DEDUCED: the DENIED of a thing not present). -/
def tokenRefusal (i : Nat) (s : State) : Refusal13 := if (tokOf s i).isNone then some (stDenied, 0x0D) else none

/-- Why REVOKE is refused; `dealer` says that a dealer credential stands behind it. -/
def revokeRefusal (dealer : Bool) (b : Bytes) (s : State) : Refusal13 :=
  let i := byteAt b 0
  firstOf (tokenRefusal i s) (if !dealer ∧ lastOfZero i s then some (stDenied, 7) else ksRefusal s)

/-- REVOKE (R77, R389). -/
def cmdRevoke (p : Packet) (r : ReplyTo) (s : State) : State :=
  let b := pktBody p
  let roles : List CredRole := if lastOfZero (byteAt b 0) s then [.dealer] else [.dealer, .fleetHost]
  journaled 0x73 p r (revokeRefusal (byteAt b 1 = 0) b s) roles (byteAt b 1 = 0) noData s

/-- REVOKE runs: under AUTH = 1 it first seeks the MASTER token. -/
def startRevoke (work loose : Option Nat) (b : Bytes) (s : State) : State := if byteAt b 1 = 1 then seekMaster work loose s else s

/-- The four effects of a revocation, in one step (R77). -/
def revokeToken (t : TokenRec) (s : State) : State :=
  let s := keysCommit (tokenPage t.index) (modAcc fun a => { a with tokens := a.tokens.filter (·.index != t.index) }) s
  let s := denyCommit (fun l => (l ++ [t.tokenId]).drop (l.length + 1 - 64)) s
  releaseRevoked t.index (destroyHandle t.index (ctrInc 33 s))

/-- REVOKE: its one step. What it needs is asked again as it runs: by then its record may have become the last ACTIVE one of profile 0. -/
def stepRevoke (w : Work) (s : State) : StepRes :=
  let b := w.body
  let auth : Option StepEnd :=
    if byteAt b 1 = 1 then
      match w.ready with
      | none => some .wait
      | some (st, r) => if st = stOk then none else some (.over st r)
    else none
  match auth, revokeRefusal (w.cred == some .dealer) b s, tokOf s (byteAt b 0), ctrRead s 33 with
  | some e, _, _, _ => (e, s)
  | none, some x, _, _ => overKey x s
  | none, none, some t, some n =>
    if n + 1 ≥ 2 ^ 64 then overNot stLocked 0 s
    else
      let s := revokeToken t s
      overOk (le 2 (n + 1) ++ [byte s.acc.denylist.length, 0]) s
  | none, none, _, _ => overNot stHwFault 0 s

/-! ### RECORD_STATE and ACCESS_SET -/

/-- RECORD_STATE (R77, R389): reinstating asks for a credential. -/
def cmdRecordState (p : Packet) (r : ReplyTo) (s : State) : State :=
  let b := pktBody p
  journaled 0x74 p r (tokenRefusal (byteAt b 0) s) [.dealer, .fleetHost] (byteAt b 1 = 1) noData s

/-- RECORD_STATE runs: the page of the record is committed (R72, R299). -/
def stepRecordState (w : Work) (s : State) : StepRes :=
  let b := w.body
  match tokenRefusal (byteAt b 0) s with
  | some x => overNot x.1 x.2 s
  | none =>
    let s := keysCommit (tokenPage (byteAt b 0)) (modTok (byteAt b 0) fun t => { t with state := if byteAt b 1 = 1 then .active else .suspended }) s
    overOk [] (if byteAt b 1 = 1 then s else releaseRevoked (byteAt b 0) s)

/-- A new enrolment limit lies below the present count (R76). -/
def limitRefusal (v : Nat) (s : State) : Refusal13 :=
  match ctrRead s 32 with
  | none => some (stHwFault, 0)
  | some n => if v < n then some (stBadField, 3) else none

/-- ACCESS_SET with an item: its own refusal, the roles it takes (R76, R390). -/
def accessSet (p : Packet) (r : ReplyTo) (own : Refusal13) (roles : List CredRole) (s : State) : State := journaled 0x75 p r own roles true noData s

/-- ACCESS_SET 0x01 (R70). -/
def cmdSetOverride (p : Packet) (r : ReplyTo) (s : State) : State := accessSet p r none [.dealer, .fleetHost] s
/-- ACCESS_SET 0x02 (R71). -/
def cmdSetOwnList (p : Packet) (r : ReplyTo) (s : State) : State := accessSet p r none [.dealer, .fleetHost] s
/-- ACCESS_SET 0x03 (R84, R93). -/
def cmdSetLockedAns (p : Packet) (r : ReplyTo) (s : State) : State := accessSet p r none [.dealer, .fleetHost] s
/-- ACCESS_SET 0x04 (R65). -/
def cmdEndCurfew (p : Packet) (r : ReplyTo) (s : State) : State := accessSet p r none [.dealer, .fleetHost] s
/-- ACCESS_SET 0x05 (R82). -/
def cmdSloClear (p : Packet) (r : ReplyTo) (s : State) : State := accessSet p r none [.dealer, .fleetHost] s
/-- ACCESS_SET 0x06 (R90). -/
def cmdSetProfile (p : Packet) (r : ReplyTo) (s : State) : State := accessSet p r none [.dealer, .fleetHost] s
/-- ACCESS_SET 0x07 (R76): raising the limit takes the dealer. -/
def cmdSetLimit (p : Packet) (r : ReplyTo) (s : State) : State :=
  let v := at_ p.payload 4 4
  accessSet p r (limitRefusal v s) (if s.acc.enrolLimit < v then [.dealer] else [.dealer, .fleetHost]) s

/-- A field of ACC_CTRL is written and kept in CONFIG; SERVICE is not kept (R93). -/
def accCtrl (lo n v : Nat) (s : State) : State :=
  let s := regPutFld 0x40060000 lo n v s
  saveRegs [0x40060000] s

/-- SERVICE on a trailer that no TRUSTED coupling serves: no driver grant can reach it and R390 bars DECIDE, so the write itself seeks the PARK_RELEASE that R70 grants
once and R216 leaves to it (DESIGN CHOICE, log 157). -/
def serviceRelease (s : State) : State :=
  if roleOf s = .trailer ∧ grantUnits s = [] then trigger (mkTrigger .grant .park none s) s else s

/-- FORCE_LOCK ends a standing release (R70, R85). -/
def stepSetOverride (w : Work) (s : State) : StepRes :=
  let v := at_ w.payload 4 4
  let s := accCtrl 0 2 v s
  let s := if v = 2 then serviceRelease s else s
  overConfig 0x7501 [] (if v = 1 ∧ s.acc.release.active then endRelease 4 s else s)

/-- TRL_OWN_LIST. -/
def stepSetOwnList (w : Work) (s : State) : StepRes := overConfig 0x7502 [] (accCtrl 2 1 (at_ w.payload 4 4) s)

/-- LOCKED_ANS. -/
def stepSetLockedAns (w : Work) (s : State) : StepRes := overConfig 0x7503 [] (accCtrl 3 1 (at_ w.payload 4 4) s)

/-- Curfew ends early: the sliding-window count is cleared, ACC_FOREIGN_CNT is not (R65). -/
def stepEndCurfew (s : State) : StepRes := overOk [] (modAcc (fun a => { a with foreignAt := [] }) (curfewStop s))

/-- SLO_FAULT is cleared when the static self-test finds no mismatch (R82). -/
def stepSloClear (m : StepMeas) (s : State) : StepRes :=
  if !s.acc.sloFault then overOk [] s
  else
    let s := lastReadback m.reads s
    if (testMismatches m.reads).any id then overNot stHwFault 0 s
    else overConfig 0x7505 [] (modAcc (fun a => { a with sloFault := false, rbFault := false }) s)

/-- A profile's policy word. -/
def stepSetProfile (w : Work) (s : State) : StepRes :=
  let v := at_ w.payload 4 4
  let a := 0x40060020 + 4 * fld v 8 2
  overConfig 0x7506 [] (saveRegs [a] (regPutFld a 0 7 (fld v 0 7) s))

/-- The lifetime enrolment limit. What it needs is asked again as it runs: by then the write may have become a raise, which takes the dealer (R76). -/
def stepSetLimit (w : Work) (s : State) : StepRes :=
  let v := at_ w.payload 4 4
  match limitRefusal v s with
  | some x => overNot x.1 x.2 s
  | none =>
    if s.acc.enrolLimit < v ∧ w.cred ≠ some .dealer then overNot stDenied 7 s
    else overConfig 0x7507 [] (modAcc (fun a => { a with enrolLimit := v }) s)

end Sys2Proof.Machine
end

