-- ==== Sys2Proof/Machine/CmdCpl.lean ====
section
/-! DEFINITION. Bodies of the Coupling and sensing family (R215, R236–R240, R245, R246, R392–R394) and the steps of their accepted work. -/
namespace Sys2Proof.Machine

/-! ### Couplings -/

/-- A unit that the device cannot couple in its role (R392, R394). -/
def unitRefused (u : Nat) (s : State) : Bool := !(cplUnits s).contains u

/-- COUPLE (R392, R393). -/
def cmdCouple (p : Packet) (r : ReplyTo) (s : State) : State :=
  if unitRefused (byteAt p.payload 0) s then refuse r stBadField 0 3 s else journaled 0x80 p r none [] false noData s

/-- COUPLE runs; it completes at step 6 (R393). -/
def startCouple (work loose : Option Nat) (b : Bytes) (s : State) : State := coupleWork (byteAt b 0) work loose s

/-- DECOUPLE (R392, R393). -/
def cmdDecouple (p : Packet) (r : ReplyTo) (s : State) : State :=
  if unitRefused (byteAt p.payload 0) s then refuse r stBadField 0 3 s else journaled 0x81 p r none [] false noData s

/-- DECOUPLE runs (R226, R393). -/
def stepDecouple (w : Work) (s : State) : StepRes := overOk [] (decoupleWork (byteAt w.payload 0) s)

/-- One entry of COUPLING_QUERY (R394). -/
def queryEntry (s : State) (u : Nat) : Bytes :=
  let c := unitOf s u
  [byte u, 0, 0, 0] ++ le 4 (cplWord s u) ++ le 8 c.partner.toNat ++ le 4 (cplBound c)

/-- COUPLING_QUERY (R394). -/
def cmdCouplingQuery (p : Packet) (r : ReplyTo) (s : State) : State :=
  let u := byteAt p.payload 0
  if u ≠ 0 ∧ unitRefused u s then refuse r stBadField 0 3 s
  else ok r (((cplUnits s).filter fun x => decide (u = 0 ∨ x = u)).flatMap (queryEntry s)) s

/-- The identifiers of PARTNER_LIST. -/
def partnerIds (b : Bytes) : List Quad := (List.range (byteAt b 2)).map fun i => BitVec.ofNat 64 (at_ b (4 + 8 * i) 8)

/-- A list after PARTNER_LIST: identifiers that are there already are not added twice (R393). -/
def partnerAfter (b : Bytes) (l : List Quad) : List Quad :=
  if byteAt b 1 = 0 then (partnerIds b).foldl (fun l i => if l.contains i then l else l ++ [i]) l else l.filter fun i => !(partnerIds b).contains i

/-- The list that PARTNER_LIST names, and its size: 32 and 16 (R215). -/
def partnerList (b : Bytes) (s : State) : List Quad := if byteAt b 0 = 0 then s.cpl.allow else s.cpl.deny
def partnerRoom (b : Bytes) : Nat := if byteAt b 0 = 0 then 32 else 16

/-- The list would be full (R393). -/
def partnerRefusal (b : Bytes) (s : State) : Refusal13 := if partnerRoom b < (partnerAfter b (partnerList b s)).length then some (stDenied, 0x0B) else none

/-- PARTNER_LIST (R215, R392, R393, R398). -/
def cmdPartnerList (p : Packet) (r : ReplyTo) (s : State) : State :=
  let b := pktBody p
  if byteAt b 2 = 0 then withCred 0x83 p r [.dealer] true (fun _ s => ok r [byte (partnerList b s).length, 0, 0, 0] s) s
  else journaled 0x83 p r (partnerRefusal b s) [.dealer] true noData s

/-- PARTNER_LIST runs. -/
def stepPartnerList (w : Work) (s : State) : StepRes :=
  let b := w.body
  match partnerRefusal b s with
  | some x => overNot x.1 x.2 s
  | none =>
    let l := partnerAfter b (partnerList b s)
    overConfig 0x8300 [byte l.length, 0, 0, 0] { s with cpl := if byteAt b 0 = 0 then { s.cpl with allow := l } else { s.cpl with deny := l } }

/-! ### The roster (R238) -/

/-- The key of an S2 entry: a blob of usage SENSOR_MAC (R238, R392). -/
def sensorBlob (b : Bytes) (off : Nat) (s : State) : Option (BlobHeader × Bytes) :=
  match ksRefusal s, openBlob s (slice b off 88) with
  | none, .ok (h, key) => if epochOk s h && ownerOk s h && bit h.usage 3 then some (h, key) else none
  | _, _ => none

/-- NOMINAL of a record: 0 for the kinds that have none, whatever the command names (R236; DESIGN CHOICE, log 162). -/
def nominalOf (kind v : Nat) : Nat := if kind = 1 ∨ kind = 4 then v else 0

/-- One entry of ROSTER_ADD at an offset: its record, 0xFF when it is not added (R238, R392). A LEARNING record is made with S1_LEARN = 1 while the learn window runs
(R240; DESIGN CHOICE, log 163). -/
def addEntry (b : Bytes) (off : Nat) (s : State) : Byte × State :=
  let id := at_ b off 4
  let s2 := byteAt b (off + 4) == 2
  match snsById s id true, freeRecord s with
  | none, some i =>
    let st : SnsState := if bit (byteAt b (off + 7)) 0 then .learning else .own
    let x := { newSensor i st s2 (byteAt b (off + 5)) (byteAt b (off + 6)) (word id) with nominal := nominalOf (byteAt b (off + 5)) (at_ b (off + 8) 2), thrSet := byteAt b (off + 10) }
    if !s2 then (if st = .learning ∧ !(s.sns.learn ∧ regBit s 0x40070100 1) then (0xFF, s) else (byte i, configCommit (sensorItem i) (putSensor x s)))
    else match sensorBlob b (off + 12) s with
      | none => (0xFF, s)
      | some (h, key) =>
        if (createRefusal (snsHandle i) s).isSome then (0xFF, s)
        else (byte i, configCommit (sensorItem i) (putSensor x (createAs (snsHandle i) { h with epochIdx := 0, epochVal := epochOf s 0 } key s)))
  | _, _ => (0xFF, s)

/-- The entries of ROSTER_ADD in order. -/
def addEntries (b : Bytes) : Nat → Nat → State → Bytes × State
  | 0, _, s => ([], s)
  | n + 1, off, s =>
    let x := addEntry b off s
    let y := addEntries b n (off + 12 + (if byteAt b (off + 4) = 2 then 88 else 0)) x.2
    (x.1 :: y.1, y.2)

/-- A roster command is over: OK when every entry succeeded, DENIED when any failed; a change raises ROSTER and may start a pass (R246, R393). -/
def rosterOver (l : Bytes) (s : State) : StepRes :=
  let s := if l.all (· == 0xFF) then s else rosterChanged (snsEvent 128 none s)
  (.over (if l.contains 0xFF then stDenied else stOk) ([byte l.length, 0, 0, 0] ++ l), s)

/-- ROSTER_ADD (R238, R392, R398). -/
def cmdRosterAdd (p : Packet) (r : ReplyTo) (s : State) : State :=
  if byteAt p.payload 0 = 0 then ok r (zeros 4) s else journaled 0x84 p r none [] false noData s

/-- ROSTER_ADD runs. -/
def stepRosterAdd (w : Work) (s : State) : StepRes :=
  let x := addEntries w.payload (byteAt w.payload 0) 4 s
  rosterOver x.1 x.2

/-- One record of ROSTER_REMOVE: a FREE or a PARTNER record is not removed (R238). -/
def removeEntry (i : Nat) (s : State) : Byte × State :=
  match snsOf s i with
  | some x => if x.state = .partner then (0xFF, s) else (byte i, configCommit (sensorItem i) (dropSensor i s))
  | none => (0xFF, s)

/-- The records of ROSTER_REMOVE in order. -/
def removeEntries : List Nat → State → Bytes × State
  | [], s => ([], s)
  | i :: l, s =>
    let x := removeEntry i s
    let y := removeEntries l x.2
    (x.1 :: y.1, y.2)

/-- ROSTER_REMOVE (R238, R392, R398). -/
def cmdRosterRemove (p : Packet) (r : ReplyTo) (s : State) : State :=
  if byteAt p.payload 0 = 0 then ok r (zeros 4) s else journaled 0x85 p r none [] false noData s

/-- ROSTER_REMOVE runs. -/
def stepRosterRemove (w : Work) (s : State) : StepRes :=
  let x := removeEntries ((List.range (byteAt w.payload 0)).map fun i => byteAt w.payload (1 + i)) s
  rosterOver x.1 x.2

/-- A command on a FREE sensor record is refused (DEDUCED: the DENIED of a thing not present). -/
def sensorRefusal (i : Nat) (s : State) : Refusal13 := if (snsOf s i).isNone then some (stDenied, 0x0D) else none

/-- WHEEL_SET (R238, R392, R393). -/
def cmdWheelSet (p : Packet) (r : ReplyTo) (s : State) : State := journaled 0x86 p r (sensorRefusal (byteAt p.payload 0) s) [] false noData s

/-- WHEEL_SET runs: HOLD = 1 sets HELD with CONF 255, HOLD = 0 clears HELD. -/
def stepWheelSet (w : Work) (s : State) : StepRes :=
  let i := byteAt w.payload 0
  match sensorRefusal i s with
  | some x => overNot x.1 x.2 s
  | none =>
    if byteAt w.payload 2 = 0 then overConfig (sensorItem i) [] (modSns i (fun x => { x with locFlags := x.locFlags &&& 0xF7 }) s)
    else
      overConfig (sensorItem i) [] (confirmEnd <| publishDue i (modSns i (fun x => { x with locFlags := x.locFlags ||| 8, conf := 255, wheelPos := byte (byteAt w.payload 1) }) s))

/-- LOCATE (R246, R393): without a wheel model it is refused. -/
def cmdLocate (p : Packet) (r : ReplyTo) (s : State) : State :=
  journaled 0x87 p r (if byteAt s.sns.model 1 = 0 then some (stBadField, 3) else none) [] false noData s

/-- WHEEL_MODEL_SET (R245). -/
def cmdWheelModelSet (p : Packet) (r : ReplyTo) (s : State) : State := journaled 0x88 p r none [] false noData s

/-- WHEEL_MODEL_SET runs. -/
def stepWheelModelSet (w : Work) (s : State) : StepRes := overConfig 0x8800 [] (modSensing (fun n => { n with model := w.payload }) s)

/-- S1_LEARN (R240, R393). -/
def cmdS1Learn (p : Packet) (r : ReplyTo) (s : State) : State :=
  journaled 0x89 p r (if regBit s 0x40070100 1 then none else some (stDenied, 8)) [] false noData s

/-- S1_LEARN runs: the window opens for 600 s. -/
def stepS1Learn (s : State) : StepRes :=
  if regBit s 0x40070100 1 then overOk [] (jrnCommit (internalUnit 5) (learnStart s)) else overNot stDenied 8 s

/-- SENSOR_READ (R255, R392). -/
def cmdSensorRead (p : Packet) (r : ReplyTo) (s : State) : State :=
  ok r ((List.range (byteAt p.payload 1)).flatMap fun j =>
    match snsOf s (byteAt p.payload 0 + j) with
    | some x => le 4 (snsPosWord s x) ++ le 4 (snsValWord x) ++ le 4 x.id.toNat
    | none => zeros 12) s

/-- Entries of a record's history ring, newest first, starting some entries before the newest (R237, R392). -/
def historyOf (i back count : Nat) (s : State) : Bytes :=
  match snsOf s i with
  | none => []
  | some x =>
    let held := min 256 x.histNext
    ((List.range count).filter fun j => decide (back + j < held)).flatMap fun j => memGet s.sram (histBase i + 32 * ((x.histNext - 1 - back - j) % 256)) 32

/-- HISTORY_READ (R237, R392). -/
def cmdHistoryRead (p : Packet) (r : ReplyTo) (s : State) : State :=
  ok r (historyOf (byteAt p.payload 0) (byteAt p.payload 2) (byteAt p.payload 3) s) s

/-- SENSOR_SET (R236, R392). -/
def cmdSensorSet (p : Packet) (r : ReplyTo) (s : State) : State := journaled 0x8C p r (sensorRefusal (byteAt p.payload 0) s) [] false noData s

/-- SENSOR_SET runs. -/
def stepSensorSet (w : Work) (s : State) : StepRes :=
  let i := byteAt w.payload 0
  match sensorRefusal i s with
  | some x => overNot x.1 x.2 s
  | none => overConfig (sensorItem i) [] (modSns i (fun x => { x with thrSet := byteAt w.payload 1, nominal := nominalOf x.kind (at_ w.payload 2 2) }) s)

end Sys2Proof.Machine
end

