-- ==== Sys2Proof/Machine/CmdBus.lean ====
section
/-! DEFINITION. Bodies of the Buses, the Engines and mailboxes and the Timers families (R390, R395, R396, R398, R425, R426, R432, R489, R501) and the steps of
their accepted work. -/
namespace Sys2Proof.Machine

/-! ### Buses (0x9_) -/

/-- An identifier that the device transmits itself on a bus (R396, R503): an enabled own identifier, an ISO 11992 frame on CAN0 with the device's own source
address (DEDUCED from R506 and R507, log 85), an identifier of ACC_IMMO_CFG on its bus. -/
def ownIdent (s : State) (b : Nat) (xid : Bool) (id : Nat) : Bool :=
  let listed := (List.range 8).any fun i =>
    let w := regGet s (canBase b + 0x60 + 4 * i)
    wbit w 30 && wfld w 0 29 == id && wbit w 29 == xid
  let iso := b == 0 && xid && roleOf s != .none && isoAddr s (ownChannel s) != 0 && id % 256 == isoAddr s (ownChannel s)
  let immo := b == regFld s 0x40060040 0 1 && xid == regBit s 0x40060040 1 &&
    [0x40060044, 0x40060048, 0x4006004C].any fun a => id == regFld s a 0 29
  listed || iso || immo

/-- RETRY_US of a CAN_TX that finds the host buffers pending: the time until the oldest of them times out (R501), at most what 2 bytes hold. -/
def canRetry (s : State) (b : Nat) : Nat :=
  match (canOf s b).jobs with
  | j :: _ => if j.ret.isSome then min 65535 (ticksFrom (now s) j.due) else 0
  | [] => 0

/-- CAN_TX (R395, R396, R398, R501, R504, R505). An FD frame with FD_EN 0 is denied (DESIGN CHOICE, log 85). -/
def cmdCanTx (p : Packet) (r : ReplyTo) (s : State) : State :=
  let b := p.payload
  let bus := byteAt b 0
  let flags := byteAt b 1
  let id := at_ b 4 4
  let c := canOf s bus
  if ownIdent s bus (bit flags 0) id then denyAt r 4 6 s
  else if bit flags 1 ∧ !regBit s (canBase bus + 0x1C) 0 then deny r 8 s
  else if c.faulted ∨ c.state = .busOff then refuse r stHwFault 0xFFFF 0 s
  else match [12, 13, 14, 15].find? fun n => !c.pend.contains n with
    | none => reply r stBusyRetry (le 2 (canRetry s bus) ++ [4, 0]) s
    | some n =>
      let tmo := byteAt b 3
      let s := canPlace bus n flags (byteAt b 2) id (b.drop 8) s
      let s := modCan bus (fun c => { c with jobs := c.jobs ++ [{ buffer := n, ret := if tmo = 0 then none else some r, due := now s + word (1000 * tmo) }] }) s
      if tmo = 0 then ok r (le 4 0xFFFFFFFF) s else s

/-- One frame in the reply of CAN_RX (R395); FLAGS as CAN_TX numbers them. -/
def canEntry (f : CanFrame) : Bytes :=
  le 4 f.ts.toNat ++ le 4 f.id ++ [byte (b2n f.xid + 2 * b2n f.fd + 4 * b2n f.brs), byte f.dlc, 0, 0] ++ f.data

/-- How many of the first frames of a FIFO fit `room` bytes. -/
def canFit : List CanFrame → Nat → Nat
  | [], _ => 0
  | f :: l, room => if (canEntry f).length ≤ room then canFit l (room - (canEntry f).length) + 1 else 0

/-- CAN_RX (R395, R396, R398): what fits the 2,048 bytes behind COUNT. -/
def cmdCanRx (p : Packet) (r : ReplyTo) (s : State) : State :=
  let b := byteAt p.payload 0
  let l := (canOf s b).rx1.take (byteAt p.payload 1)
  let n := canFit l 2044
  ok r ([byte n, 0, 0, 0] ++ ((l.take n).map canEntry).flatten) ((List.range n).foldl (fun s _ => canPop b true s) s)

/-- PLC_TX (R395): it is answered when the message has been sent, or has waited 1.0 s (R513, R519). DATA is the message as it goes on the bus (DESIGN CHOICE,
log 85). -/
def cmdPlcTx (p : Packet) (r : ReplyTo) (s : State) : State :=
  plcQueue (byteAt p.payload 0) (byteAt p.payload 1) (slice p.payload 4 (byteAt p.payload 2)) (some r) s

/-- LIN_XFER (R395, R516): it takes the next slot's place. The checksum is the enhanced one but for the diagnostic PIDs 60 and 61 (DESIGN CHOICE, log 85). -/
def cmdLinXfer (p : Packet) (r : ReplyTo) (s : State) : State :=
  let pid := byteAt p.payload 0
  let n := byteAt p.payload 2
  let j : LinJob :=
    { pid := byte pid, publish := byteAt p.payload 1 = 0, enh := pid < 60, len := n, data := slice p.payload 4 n, host := some r }
  { s with bus := { s.bus with linJob := s.bus.linJob ++ [j] } }

/-- BUS_SAVE (R395, R398). -/
def cmdBusSave (p : Packet) (r : ReplyTo) (s : State) : State :=
  if byteAt p.payload 0 = 0 then ok r [] s else journaled 0x94 p r none [] false noData s

/-- The live bit timing of a controller is kept in CONFIG as its shadow pair (R499). -/
def saveTiming (b : Nat) (s : State) : State :=
  let put := fun (a : Nat) (v : Word) (s : State) => { s with cfg := { s.cfg with saved := s.cfg.saved.filter (·.1 != a) ++ [(a, v)] } }
  put (canBase b + 0x10) (canOf s b).live.2 (put (canBase b + 0xC) (canOf s b).live.1 s)

/-- BUS_SAVE runs (R499): live bit timing and CAN_CFG; for PLC and LIN their configuration registers (DESIGN CHOICE, log 85). -/
def stepBusSave (w : Work) (s : State) : StepRes :=
  let m := byteAt w.payload 0
  let s := [0, 1].foldl (fun s b => if bit m b then saveRegs [canBase b + 0x1C] (saveTiming b s) else s) s
  let s := if bit m 2 then saveRegs [0x400D000C, 0x400D0010] s else s
  let s := if bit m 3 then saveRegs ([0x400E0000, 0x400E000C] ++ regRun 0x400E0020 16 ++ regRun 0x400E0060 4) s else s
  overConfig 0x9400 [] s

/-! ### Engines and mailboxes (0xA_) -/

/-- The region of an ENG_LOAD has IMAGE set, otherwise DENIED with CODE 0x08 (R396, R426); one that is ENC too is read under the storage key, so that the key store must be
open as for every host access to it (R316; DEDUCED, log 184). -/
def engLoadRefusal (b : Bytes) (s : State) : Refusal13 :=
  let g := s.fer.regions.getD (byteAt b 1) Region.none
  if !g.image then some (stDenied, 8) else if g.enc then ksRefusal s else none

/-- ENG_LOAD (R396, R426). -/
def cmdEngLoad (p : Packet) (r : ReplyTo) (s : State) : State := journaled 0xA0 p r (engLoadRefusal p.payload s) [] false noData s

/-- A failure of ENG_LOAD (R426): the engine stays in RESET without a valid image. -/
def engLoadFails (k : Fin 12) (code : Nat) (s : State) : StepRes := overNot stDenied code (modEng k loadFailed s)

/-- The engine of a load stands in RESET while its memories are written (R14). One that came out of it between two steps, by the autostart of a Dawn or by a restart
that was due, is forced back first (DESIGN CHOICE, log 155). -/
def holdReset (k : Fin 12) (s : State) : State :=
  let s := modEng k (fun e => { e with restartDue := false }) s
  if (engOf s k).state = .reset then s else engResetTo k .reset s

/-- ENG_LOAD's three steps (R426, R428). -/
def stepEngLoad (w : Work) (s : State) : StepRes :=
  let k := engNo (byteAt w.payload 0)
  let s := if w.step = 0 then s else holdReset k s
  let region := byteAt w.payload 1
  let g := s.fer.regions.getD region .none
  match w.step with
  | 0 =>
    match engLoadRefusal w.payload s with
    | some x => overNot x.1 x.2 s
    | none =>
      let s := modEng k (fun e => { (loadFailed e) with j12Words := 0, restartDue := false }) (engResetTo k .reset s)
      match imageHeader s g with
      | some c => engLoadFails k c s
      | none => (.boundary 1 10 [], s)
  | 1 =>
    match loadImage s g (engOf s k) with
    | .ok e => (.boundary 2 90 [], setEng k { e with pmemValid := false, loadOk := false } s)
    | .error c => if c = 0x0A then (.boundary 2 90 [], s) else engLoadFails k c s
  | _ =>
    match loadImage s g (engOf s k) with
    | .error c => engLoadFails k c s
    | .ok e =>
      let start : Bool := byteAt w.payload 2 = 1
      let s := setEng k { e with autostart := if start then some region else none } s
      let s := if start then engRun k s else s
      overConfig (0xA000 + byteAt w.payload 0) (le 4 e.loadWords ++ [byte (b2n e.mode12), 0, 0, 0]) s

/-- ENG_CTRL (R395, R420, R424, R426). -/
def cmdEngCtrl (p : Packet) (r : ReplyTo) (s : State) : State :=
  let k := engNo (byteAt p.payload 0)
  let done := fun (s : State) => ok r [byte (engOf s k).state.code, 0, 0, 0] s
  match byteAt p.payload 1 with
  | 0 => done (engSiesta k s)
  | 1 => if (engOf s k).pmemValid then done (engRun k s) else deny r 8 s
  | _ => done (engResetAction k s)

/-- MBX_WRITE (R396, R398, R421): a full queue answers BUSY_RETRY (CAUSE DESIGN CHOICE, log 82). -/
def cmdMbxWrite (p : Packet) (r : ReplyTo) (s : State) : State :=
  let x := mboxPost 12 (byteAt p.payload 0) (slice p.payload 4 (at_ p.payload 2 2)) s
  if x.1 = 2 then reply r stBusyRetry (busyBytes 0) s else ok r [] x.2

/-- MBX_READ (R395, R421). -/
def cmdMbxRead (p : Packet) (r : ReplyTo) (s : State) : State :=
  let x := hostPop (engNo (byteAt p.payload 0)) s
  ok r (le 2 x.1.length ++ x.1) x.2

/-- UCODE_WRITE (R396, R398, R432). -/
def cmdUcodeWrite (p : Packet) (r : ReplyTo) (s : State) : State :=
  let b := p.payload
  let k := engNo (byteAt b 0)
  let n := at_ b 4 2
  if n = 0 then ok r [] s
  else if (engOf s k).state ≠ .siesta then deny r 8 s
  else ok r [] ((List.range n).foldl (fun s i => ucPut k (at_ b 2 2 + i) (at_ b (6 + 5 * i) 5) s) s)

/-! ### Timers (0xB_) -/

/-- TMR_READ (R395): the reads of TMB_CMPu are reads (R488). -/
def cmdTmrRead (p : Packet) (r : ReplyTo) (s : State) : State :=
  let c := byteAt p.payload 0
  let us := (List.range 4).map (4 * c + ·)
  let b := le 4 (ctOf s c).count.toNat ++ (us.map fun u => le 4 (regGet s (cmpAddr u)).toNat ++ le 4 (unOf s u).lateVal.toNat).flatten
  ok r b (us.foldl (fun s u => cmpRead u s) s)

/-- TMR_ARM (R396, R489): MODE compare, LINK 7, the ACTION byte, the unit's PIN kept. Reserved ACTION bits, and a periodic compare beyond half the range that
resets its own counter (R485), are refused. -/
def cmdTmrArm (p : Packet) (r : ReplyTo) (s : State) : State :=
  let u := byteAt p.payload 0
  let action := byteAt p.payload 1
  let cmp := at_ p.payload 4 4
  if u < 28 then denyAt r 0 6 s
  else if 64 ≤ action then refuse r stBadField 1 2 s
  else if bit action 5 ∧ 0x80000000 < cmp then refuse r stBadField 4 2 s
  else
    let cfg := word (1 + 7 * 16 + action * 256 + regFld s (ucfgAddr u) 16 5 * 65536)
    ok r [] (regWrite none (cmpAddr u) (word cmp) (regWrite none (ucfgAddr u) cfg s))

/-- TMR_CFG (R396): prescaler and source commit together; RUN starts or stops the counter. -/
def cmdTmrCfg (p : Packet) (r : ReplyTo) (s : State) : State :=
  let s := regSet 0x400B0074 (word (at_ p.payload 0 2 + 512 * byteAt p.payload 2)) s
  let s := ctCommit 7 s
  ok r [] (if byteAt p.payload 3 = 1 then ctStart 7 s else ctStop 7 s)

end Sys2Proof.Machine
end

