-- ==== Sys2Proof/Machine/CmdDiag.lean ====
section
/-! DEFINITION. Bodies of the Diagnostics family (R397, R532, R535, R536) and the steps of CONFIG_SET, TIME_SET and TAMPER_CLEAR. -/
namespace Sys2Proof.Machine

/-- FAULT_READ (R397, R398, R535): newest first, BACK records skipped. -/
def cmdFaultRead (p : Packet) (r : ReplyTo) (s : State) : State :=
  ok r (((s.saf.faults.drop (at_ p.payload 0 2)).take (byteAt p.payload 2)).map FaultRec.bytes).flatten s

/-- INJECT (R397, R536). -/
def cmdInject (p : Packet) (r : ReplyTo) (s : State) : State :=
  let det := at_ p.payload 0 2
  let par := at_ p.payload 2 2
  if paramMask det = none then refuse r stBadField 0 2 s
  else if !paramOk det par then refuse r stBadField 2 2 s
  else if s.saf.inject.isSome then deny r 8 s
  else withCred 0xC1 p r [.dealer, .service] (!s.ks.testRoot) (fun _ s =>
    match injectGo det par s with
    | none => deny r 8 s
    | some x => ok r (le 4 x.1) x.2) s

/-- Sources latched in operation or by Vigil. -/
def tamperSources (s : State) : Word := s.saf.latched ||| s.saf.vigil

/-- TAMPER_CLEAR (R397, R532): TAMPER while a sensor asserts; the sources latched now are its STEP_DATA. -/
def cmdTamperClear (p : Packet) (r : ReplyTo) (s : State) : State :=
  journaled 0xC2 p r (if s.saf.raw = 0 then none else some (stTamper, 0)) [.dealer, .service] true (fun s => (le 4 (tamperSources s).toNat, s)) s

/-- TAMPER_CLEAR runs (R532): a detection since its acceptance leaves the latches and ends it with TAMPER. A key store that KST_CTRL.CLOSE closed stays closed until the
next Dawn (R296). -/
def stepTamperClear (w : Work) (s : State) : StepRes :=
  if w.ready.isSome ∨ s.saf.raw ≠ 0 ∨ (tamperSources s).toNat ≠ leNat w.stepData then overNot stTamper 0 s
  else
    let hold := s.ks.state == .tamperHold || s.ks.state == .closed
    let s := { s with
      saf := { s.saf with latched := 0, vigil := 0, vigilN := 0, record := 0, clears := s.saf.clears + 1 }
      ks := { s.ks with tamperHistory := true } }
    let s := raise 0x40100004 32 (configCommit 0xC200 s)
    let s := if hold then { s with lf := { s.lf with tamperBlk := false } } else s
    let s := if !hold then s else if s.ks.closedByCtrl then { s with ks := { s.ks with state := .closed } } else ksOpen [] s
    overOk ([byte s.ks.state.code, 0, 0, 0] ++ w.stepData) s

/-- CONFIG_SET runs (R377, R378): the item waits for the next Dawn; disabling the journal is refused while another host record is in use. -/
def stepConfigSet (tagged : Bool) (w : Work) (s : State) : StepRes :=
  let b := w.payload
  match byteAt b 0 with
  | 1 => overConfig 0x0701 [] { s with cfg := { s.cfg with roleNext := match byteAt b 1 with | 1 => .tractor | 2 => .trailer | _ => .none } }
  | 2 => overConfig 0x0702 [] (loadAccess (word (at_ b 1 4)) { s with cfg := { s.cfg with vidNext := word (at_ b 1 4), regionNext := some (byteAt b 5 == 1) } })
  | _ =>
    let others := (s.jrn.works.filter fun x => !(tagged && x.seq == w.seq)) != [] || s.jrn.accepting != []
    if byteAt b 1 = 0 ∧ others then overNot stDenied 8 s
    else overConfig 0x0703 [] { s with jrn := { s.jrn with enabledCfg := byteAt b 1 == 1 } }

/-- TIME_SET runs (R266, R551): SYS_RTC is loaded and valid, and the time floor is raised and committed, never lowered. -/
def stepTimeSet (w : Work) (s : State) : StepRes :=
  let v := word (at_ w.payload 0 4)
  let s := { s with power := { s.power with rtc := v, rtcSub := 0, rtcValid := true } }
  overOk [] (raiseFloor s)

end Sys2Proof.Machine
end

