-- ==== Sys2Proof/Machine/Objs.lean ====
section
/-! DEFINITION. The objects of R37 that accepted work and version 1 commands touch (R37, R38, R282, R399, R617). -/
namespace Sys2Proof.Machine

/-- The key object of COUPLING_KEY and IMMO_KEY: an update only when the handle is in use (R282). -/
def ownKeyObjs (s : State) (h : Nat) : List Obj := if handleFree s h then [.key h] else [.key h, .update]

/-- The objects that a journaled command touches, by its opcode and its payload before the credential (R37). An ENG_LOAD reads the FeRAM range of its region and
the region table, LOCATE the wheel model, COUPLE the lists of partners. -/
def workObjs (s : State) (op : Nat) (b : Bytes) : List Obj :=
  match op with
  | 0x07 => [.config (0x0700 + byteAt b 0)]
  | 0x21 => [.bytes (at_ b 0 4) (at_ b 0 4 + at_ b 4 2)]
  | 0x24 => [.config 0x2500]
  | 0x25 => [.config 0x2500]
  | 0x31 => [.key (byteAt b 0)]
  | 0x34 => [.key (byteAt b 0)]
  | 0x36 => [.key (byteAt b 0), .update]
  | 0x37 => (List.range (byteAt b 0)).map fun i => .key (byteAt b (1 + i))
  | 0x3B => [.epoch (byteAt b 0)]
  | 0x3F => if byteAt b 0 = 1 then ownKeyObjs s 192 else if byteAt b 0 = 2 then [.key 192, .config 0x3F02] else ownKeyObjs s 193
  | 0x40 => []
  | 0x62 => [.token (byteAt b 0)]
  | 0x70 => [.tokenUse]
  | 0x72 => [.tokens, .config 0x7200]
  | 0x73 => if byteAt b 1 = 1 then [.tokens] else [.token (byteAt b 0)]
  | 0x74 => [.token (byteAt b 0)]
  | 0x75 => [.config (0x7500 + byteAt b 0)]
  | 0x80 => [.unit (byteAt b 0), .sensors, .configUse 0x8300]
  | 0x81 => [.unit (byteAt b 0), .sensors]
  | 0x84 => [.sensors]
  | 0x85 => (List.range (byteAt b 0)).map fun i => .sensor (byteAt b (1 + i))
  | 0x86 => [.sensor (byteAt b 0)]
  | 0x87 => [.sensors, .configUse 0x8800]
  | 0x8C => [.sensor (byteAt b 0)]
  | 0xA0 =>
    let g := s.fer.regions.getD (byteAt b 1) Region.none
    [.config (0xA000 + byteAt b 0), .configUse 0x2500, .bytes (256 * g.start) (256 * (g.start + g.pages))]
  | n => [.config (256 * n)]

/-- The objects of a record. -/
def Work.objs (s : State) (w : Work) : List Obj := workObjs s w.opcode.toNat w.body

/-- Accepted work that has not completed: tagged work by its SEQ, then untagged work. -/
def openWorks (s : State) : List (Bool × Work) :=
  ((s.jrn.works.filter fun w => w.state != .done).map fun w => (true, w)) ++ (s.jrn.loose.filter fun w => w.state != .done).map fun w => (false, w)

/-- Objects that accepted work which has not completed holds. -/
def heldObjs (s : State) : List Obj := (openWorks s).flatMap fun w => w.2.objs s

/-- First address of the legacy EEPROM image (R362, R368). -/
def eeBase (s : State) : Nat := 256 * (1376 + regFld s 0x40010014 4 10)

/-- The engine whose Jorsol-12 image is being loaded by version 1 (R429). -/
def j12Engine (s : State) : Option (Fin 12) := ([9, 10, 11] : List (Fin 12)).find? fun k => (engOf s k).j12Words != 0

/-- The objects that a version 1 opcode touches (R617). -/
def v1Objs (s : State) (op : Nat) (p : Bytes) : List Obj :=
  match op with
  | 0x10 => [.bytes (eeBase s + at_ p 0 2) (eeBase s + at_ p 0 2 + byteAt p 2)]
  | 0x11 => [.bytes (eeBase s + at_ p 0 2) (eeBase s + at_ p 0 2 + byteAt p 2)]
  | 0x18 => [.tokens]
  | 0x20 => [.sensors]
  | 0x21 => [.sensor (byteAt p 0)]
  | 0x22 => [.sensors]
  | 0x23 => [.sensor (byteAt p 0)]
  | 0x30 => [.config (0xA000 + byteAt p 0)]
  | 0x31 => (j12Engine s).toList.map fun k => .config (0xA000 + k.val)
  | 0x32 => (j12Engine s).toList.map fun k => .config (0xA000 + k.val)
  | _ => []

end Sys2Proof.Machine
end

