-- ==== Sys2Proof/Machine/V1.lean ====
section
/-! DEFINITION. Version 1 on HCS1_N: the transaction, the checks every opcode shares, the bodies of the opcodes (R38, R359–R362, R400, R429, R617). -/
namespace Sys2Proof.Machine

/-! ### Bodies (R400) -/

/-- Opcodes that R400 lists. -/
def v1Known : List Nat :=
  [0x00, 0x01, 0x02, 0x03, 0x08, 0x09, 0x10, 0x11, 0x18, 0x19, 0x20, 0x21, 0x22, 0x23, 0x28, 0x30, 0x31, 0x32, 0x38, 0x39]

/-- Opcodes that change state, marked W in R400. -/
def v1Writes : List Nat := [0x03, 0x09, 0x11, 0x18, 0x22, 0x23, 0x28, 0x30, 0x31, 0x32, 0x38]

/-- How many of P0–P10 an opcode lists; the others must be 0x00 (R400). -/
def v1Params (op : Nat) : Nat :=
  match op with
  | 0x03 => 1 | 0x08 => 4 | 0x09 => 8 | 0x10 => 3 | 0x11 => 11 | 0x18 => 1 | 0x21 => 1 | 0x22 => 7 | 0x23 => 1 | 0x28 => 11
  | 0x30 => 3 | 0x31 => 10 | 0x32 => 4 | 0x38 => 9 | 0x39 => 1 | _ => 0

/-- The command is answered now. -/
def v1Now (op : Nat) (status : Byte) (d : Bytes) (s : State) : State := v1Answer status (byte op) d s

/-- IDENT. -/
def v1Ident (s : State) : State := v1Now 0x01 stOk (le 4 0x77200B01 ++ [roleByte s, 1]) s

/-- Records of class S1 in state OWN or LEARNING. -/
def s1Records (s : State) : Nat := snsCount s fun x => !x.s2 && (x.state == .own || x.state == .learning)

/-- STATUS. -/
def v1StatusOf (s : State) : State :=
  v1Now 0x02 stOk ([stateByte s, byte s.ks.state.code] ++ le 2 (regShow s 0x40060004).toNat ++ [byte (s1Records s)]) s

/-- SOFT_RESET: the reset follows the reply's consumption. -/
def v1SoftReset (p : Bytes) (s : State) : State := v1Now 0x03 (if byteAt p 0 = 0xA5 then stOk else stBadField) [] s

/-- REG_READ. -/
def v1RegRead (p : Bytes) (s : State) : State :=
  let a := at_ p 0 4
  match regSpan a 1 with
  | some _ => v1Now 0x08 stBadField [] s
  | none => let x := regRead false a s; v1Now 0x08 stOk (le 4 x.1.toNat) x.2

/-- REG_WRITE: registers of the GPIO and TMB blocks alone, under the reach and the values of R380. -/
def v1RegWrite (p : Bytes) (s : State) : State :=
  let a := at_ p 0 4
  let v := word (at_ p 4 4)
  if (regSpan a 1).isSome ∨ !(blockOf a = 0x0B ∨ blockOf a = 0x0F) then v1Now 0x09 stBadField [] s
  else match hostReach s a with
    | some (st, _) => v1Now 0x09 st [] s
    | none => if (hostValue s a v).isSome then v1Now 0x09 stBadField [] s else v1Now 0x09 stOk [] (regWrite none a v s)

/-- ADDR and LEN lie in the EEPROM image of 8,192 bytes. -/
def eeRange (p : Bytes) : Bool := decide (at_ p 0 2 < 8192) && decide (byteAt p 2 ≤ 8) && decide (at_ p 0 2 + byteAt p 2 ≤ 8192)

/-- EE_READ (R362): locked and ENC regions are refused as a host read of them is (R314, R316). -/
def v1EeRead (p : Bytes) (s : State) : State :=
  let a := eeBase s + at_ p 0 2
  let n := byteAt p 2
  if !eeRange p then v1Now 0x10 stBadField [] s
  else match regionRefusal false a n s with
    | some x => v1Now 0x10 x.1 [] s
    | none => match nvmRead a n s with
      | (some b, s) => v1Now 0x10 stOk b s
      | (none, s) => v1Now 0x10 stHwFault [] s

/-- EE_WRITE (R362): page commits under R305 and R306 without the journal; the reply follows the last one. -/
def v1EeWrite (p : Bytes) (s : State) : State :=
  let a := eeBase s + at_ p 0 2
  let n := byteAt p 2
  if !eeRange p then v1Now 0x11 stBadField [] s
  else if n = 0 then v1Now 0x11 stOk [] s
  else match regionRefusal true a n s with
    | some x => v1Now 0x11 x.1 [] s
    | none => startWrite .legacy a (slice p 3 n) { s with link := { s.link with v1Busy := some 0x11 } }

/-- T2_POLL: a decision as DECIDE runs it; the reply follows it. -/
def v1T2Poll (p : Bytes) (s : State) : State :=
  if !(byteAt p 0 = 2 ∨ byteAt p 0 = 3) then v1Now 0x18 stBadField [] s
  else if roleOf s = .trailer then v1Now 0x18 stDenied [] s
  else trigger { mkTrigger .decide (if byteAt p 0 = 3 then .start else .door) none s with v1 := true }
    { s with link := { s.link with v1Busy := some 0x18 } }

/-- T2_RESULT: the latest decision; zeros when there is none (DEDUCED, log 86). In Curfew it answers CURFEW as the Access queries do (R64). -/
def v1T2Result (s : State) : State :=
  v1Now 0x19 (if s.acc.curfew then stCurfew else stOk) (match s.acc.ring.getLast? with | some r => v1Decision r | none => []) s

/-- S1_COUNT. -/
def v1S1Count (s : State) : State := v1Now 0x20 stOk [byte (s1Records s)] s

/-- S1_READ: a record of class S1; any other answers DENIED (DEDUCED, log 86). -/
def v1S1Read (p : Bytes) (s : State) : State :=
  if byteAt p 0 > 127 then v1Now 0x21 stBadField [] s
  else match snsOf s (byteAt p 0) with
    | none => v1Now 0x21 stDenied [] s
    | some x =>
      if x.s2 then v1Now 0x21 stDenied [] s
      else v1Now 0x21 stOk (le 4 x.id.toNat ++ le 2 (at_ x.data 0 2) ++ [byte (byteAt x.data 2 + 50), x.flags, shownPos s x, byte x.alert]) s

/-- S1_ADD: the lowest FREE record, KIND TYRE (R230). -/
def v1S1Add (p : Bytes) (s : State) : State :=
  let id := at_ p 0 4
  if !(byteAt p 4 = 1 ∨ byteAt p 4 = 2) then v1Now 0x22 stBadField [] s
  else match snsById s id true, freeRecord s with
    | none, some i =>
      let x := { newSensor i .own false 1 (byteAt p 4) (word id) with nominal := at_ p 5 2 }
      v1Now 0x22 stOk [byte i] (rosterChanged (snsEvent 128 none (configCommit (sensorItem i) (putSensor x s))))
    | _, _ => v1Now 0x22 stDenied [] s

/-- S1_REMOVE: an S1 record of the device's own (R238). -/
def v1S1Remove (p : Bytes) (s : State) : State :=
  if byteAt p 0 > 127 then v1Now 0x23 stBadField [] s
  else match snsOf s (byteAt p 0) with
    | none => v1Now 0x23 stDenied [] s
    | some x =>
      if x.s2 ∨ x.state = .partner then v1Now 0x23 stDenied [] s
      else v1Now 0x23 stOk [] (rosterChanged (snsEvent 128 none (configCommit (sensorItem (byteAt p 0)) (dropSensor (byteAt p 0) s))))

/-- LF_TEST: SET and CODE as LF_TEST of version 2 takes them; the reply follows the telegram. -/
def v1LfTest (p : Bytes) (s : State) : State :=
  if byteAt p 1 > 1 ∨ byteAt p 2 > 64 then v1Now 0x28 stBadField [] s
  else startTest none none (testWords s (byteAt p 0) (byteAt p 1) (testSync s) (byteAt p 2) (p.drop 3)) { s with link := { s.link with v1Busy := some 0x28 } }

/-- J12_BEGIN (R429): the engine goes to RESET, PMEM_VALID clears. -/
def v1J12Begin (p : Bytes) (s : State) : State :=
  let n := at_ p 1 2
  if outside p 0 9 11 ∨ n = 0 ∨ 49152 < n then v1Now 0x30 stBadField [] s
  else
    let k := engNo (byteAt p 0)
    let s := ([9, 10, 11] : List (Fin 12)).foldl (fun s j => modEng j (fun e => { e with j12Words := 0 }) s) s
    v1Now 0x30 stOk [] (modEng k (fun e => { (loadFailed e) with j12Words := n, restartDue := false }) (engResetTo k .reset s))

/-- J12_DATA (R429): four words at an offset of the image begun; words past its end are not written. Without an image begun it is denied (log 86), as it is
once the engine has left RESET and LOADING, whose program memory accepts no write (R14; DEDUCED, log 86). -/
def v1J12Data (p : Bytes) (s : State) : State :=
  let o := at_ p 0 2
  match j12Engine s with
  | none => v1Now 0x31 stDenied [] s
  | some k =>
    let n := (engOf s k).j12Words
    if (engOf s k).state ≠ .reset ∧ (engOf s k).state ≠ .loading then v1Now 0x31 stDenied [] s
    else if n ≤ o ∨ (List.range 4).any fun i => decide (0x4000 ≤ at_ p (2 + 2 * i) 2) then v1Now 0x31 stBadField [] s
    else
      let put := fun (m : List (Nat × Half)) (i : Nat) => if o + i < n then kvSet (fun _ => 0) m (o + i) (BitVec.ofNat 16 (at_ p (2 + 2 * i) 2)) else m
      v1Now 0x31 stOk [] (modEng k (fun e => { e with pmem := (List.range 4).foldl put e.pmem }) s)

/-- J12_END (R429): the CRC over the words loaded decides; a match runs the engine in Jorsol-12 mode without an autostart region. -/
def v1J12End (p : Bytes) (s : State) : State :=
  match j12Engine s with
  | none => v1Now 0x32 stDenied [] s
  | some k =>
    let e := engOf s k
    let bytes := (List.range e.j12Words).flatMap fun i => le 2 (kvGet (fun _ => 0) e.pmem i).toNat
    let e := { e with j12Words := 0 }
    if crc32c bytes ≠ word (at_ p 0 4) then v1Now 0x32 stDenied [] (setEng k (loadFailed e) s)
    else
      let e := { (setMode12 true e) with pmemValid := true, loadOk := true, loadSrc := 2, loadWords := bytes.length / 2, loadUc := 0, autostart := none }
      v1Now 0x32 stOk [] (engRun k (setEng k e s))

/-- MBX_WRITE: a message of 8 bytes; a full queue answers BUSY_RETRY (R396). -/
def v1MbxWrite (p : Bytes) (s : State) : State :=
  if outside p 0 9 11 then v1Now 0x38 stBadField [] s
  else
    let x := mboxPost 12 (byteAt p 0) (slice p 1 8) s
    if x.1 = 2 then v1Now 0x38 stBusyRetry [] s else v1Now 0x38 stOk [] x.2

/-- MBX_READ: the first 8 bytes of the oldest message. -/
def v1MbxRead (p : Bytes) (s : State) : State :=
  if outside p 0 9 11 then v1Now 0x39 stBadField [] s
  else let x := hostPop (engNo (byteAt p 0)) s; v1Now 0x39 stOk (fit 8 x.1) x.2

/-! ### The transaction (R359–R361) -/

/-- The body of an opcode. -/
def v1Body (op : Nat) (p : Bytes) (s : State) : State :=
  match op with
  | 0x01 => v1Ident s
  | 0x02 => v1StatusOf s
  | 0x03 => v1SoftReset p s
  | 0x08 => v1RegRead p s
  | 0x09 => v1RegWrite p s
  | 0x10 => v1EeRead p s
  | 0x11 => v1EeWrite p s
  | 0x18 => v1T2Poll p s
  | 0x19 => v1T2Result s
  | 0x20 => v1S1Count s
  | 0x21 => v1S1Read p s
  | 0x22 => v1S1Add p s
  | 0x23 => v1S1Remove p s
  | 0x28 => v1LfTest p s
  | 0x30 => v1J12Begin p s
  | 0x31 => v1J12Data p s
  | 0x32 => v1J12End p s
  | 0x38 => v1MbxWrite p s
  | 0x39 => v1MbxRead p s
  | _ => v1Now op stOk [] s

/-- A version 1 command executes: unknown opcodes, unlisted parameters, the role gate and V1_WR, the objects that version 2 work holds, its body (R38, R361, R362,
R400, R617). -/
def v1Run (op : Nat) (p : Bytes) (s : State) : State :=
  if !v1Known.contains op then v1Now op stBadOpcode [] s
  else if (p.drop (v1Params op)).any (· != 0) then v1Now op stBadField [] s
  else if 0x18 ≤ op ∧ op ≤ 0x23 ∧ roleOf s = .none then v1Now op stDenied [] s
  else if v1Writes.contains op ∧ !regBit s 0x40010014 1 then v1Now op stDenied [] s
  else if objsMeet (v1Objs s op p) (heldObjs s) then { s with link := { s.link with v1Wait := some (byte op :: p) } }
  else v1Body op p s

/-- The version 1 command that waits goes on in Noon, once no version 2 work holds its objects (R38, R554). -/
def v1Resume (s : State) : State :=
  match s.link.v1Wait with
  | some (op :: p) => if inNoon s ∧ !s.link.e0Restart then v1Run op.toNat p { s with link := { s.link with v1Wait := none } } else s
  | _ => s

/-- The reply that a transaction shows, and whether it is consumed (R360). -/
def v1Shown (s : State) : Bytes × Bool :=
  match s.link.v1Wait, s.link.v1Busy, s.link.v1Reply with
  | some c, _, _ => ([stInProgress, c.headD 0] ++ zeros 10, false)
  | none, some op, _ => ([stInProgress, op] ++ zeros 10, false)
  | none, none, some r => (r, true)
  | none, none, none => ([stOk, 0xFF] ++ zeros 10, true)

/-- HCS1_N is served: the link is up and V1_EN is 1 (R360, R368). -/
def v1Up (s : State) : Bool := linkUp s && regBit s 0x40010014 0

/-- A transaction of 12 bytes (R359–R361, R554): the reply is shown, and consumed when it is not IN_PROGRESS; then the MOSI command is taken. A consumed
SOFT_RESET asks for its reset, which loses the command. -/
def v1Transaction (op : Byte) (f : V1Frame) (s : State) : State :=
  if !v1Up s then s
  else if s.power.state = .dawn ∨ s.power.state = .bootFail ∨ s.link.e0Restart then
    { s with link := { s.link with miso := [stBusyRetry, 0xFF] ++ zeros 10 } }
  else
    let x := v1Shown s
    let s := exitDusk { s with link := { s.link with miso := x.1 }, power := { s.power with duskDue := false } }
    if !x.2 then s
    else
      let s := { s with link := { s.link with v1Reply := none } }
      if byteAt x.1 0 = 0 ∧ byteAt x.1 1 = 3 then { s with link := { s.link with afterReply := some (.reset, none) } }
      else if inNoon s then v1Run op.toNat f.p s
      else { s with link := { s.link with v1Wait := some (op :: f.p) } }

/-- A transaction of fewer than 12 bytes (R360). -/
def v1Short (s : State) : State :=
  if !v1Up s then s else lastErr 6 2 0 (raise 0x40010008 64 (regInc 0x40010040 16 s))

end Sys2Proof.Machine
end

