-- ==== Sys2Proof/Machine/Commands.lean ====
section
/-! DEFINITION. From an opcode to the body of its command, behind the role gate (R371, R376, R385, R386, R390). -/
namespace Sys2Proof.Machine

/-- Families 0x7_ and 0x8_ answer DENIED with CODE 0x09 while no role is set (R2, R376). -/
def roleGated (op : Nat) (s : State) : Bool := (op / 16 == 7 || op / 16 == 8) && roleOf s == .none

/-- KEY_OP by its OP (R385). -/
def cmdKeyOp (p : Packet) (r : ReplyTo) (s : State) : State :=
  match byteAt p.payload 1 with
  | 1 => cmdCmac p r s
  | 2 => cmdCmacVerify p r s
  | 3 => cmdSign p r s
  | 4 => cmdEcdh p r s
  | 5 => cmdDerive p r s
  | _ => cmdWrap p r s

/-- PROVISION by its ITEM (R386). -/
def cmdProvision (p : Packet) (r : ReplyTo) (s : State) : State :=
  match byteAt p.payload 0 with
  | 1 => cmdCouplingKey p r s
  | 2 => cmdCouplingCert p r s
  | _ => cmdImmoKey p r s

/-- ACCESS_SET by its ITEM (R390). -/
def cmdAccessSet (p : Packet) (r : ReplyTo) (s : State) : State :=
  match byteAt p.payload 0 with
  | 1 => cmdSetOverride p r s
  | 2 => cmdSetOwnList p r s
  | 3 => cmdSetLockedAns p r s
  | 4 => cmdEndCurfew p r s
  | 5 => cmdSloClear p r s
  | 6 => cmdSetProfile p r s
  | _ => cmdSetLimit p r s

/-- System, register and memory, NVM commands. -/
def runLow (op : Nat) (p : Packet) (r : ReplyTo) (s : State) : State :=
  match op with
  | 0x00 => ok r [] s
  | 0x01 => cmdIdentify r s
  | 0x02 => cmdStatus r s
  | 0x03 => cmdQuery p r s
  | 0x04 => cmdCollect p r s
  | 0x05 => cmdReset r s
  | 0x06 => cmdPower p r s
  | 0x07 => cmdConfigSet p r s
  | 0x08 => cmdTimeSet p r s
  | 0x09 => cmdPendingList r s
  | 0x10 => cmdRegRead p r s
  | 0x11 => cmdRegWrite p r s
  | 0x12 => cmdRegModify p r s
  | 0x13 => cmdMemRead p r s
  | 0x14 => cmdMemWrite p r s
  | 0x20 => cmdNvmRead p r s
  | 0x21 => cmdNvmWrite p r s
  | 0x22 => cmdNvmUnlock p r s
  | 0x23 => cmdNvmLock p r s
  | 0x24 => cmdNvmPassword p r s
  | 0x25 => cmdNvmRegions p r s
  | _ => cmdCounterRead p r s

/-- Keys commands. -/
def runKeys (op : Nat) (p : Packet) (r : ReplyTo) (s : State) : State :=
  match op with
  | 0x30 => cmdAuthNonce r s
  | 0x31 => cmdKeyGen p r s
  | 0x32 => cmdKeyGenBlob p r s
  | 0x33 => cmdImportSession p r s
  | 0x34 => cmdKeyImport p r s
  | 0x35 => cmdKeyImportBlob p r s
  | 0x36 => cmdKeyUpdate p r s
  | 0x37 => cmdKeyDestroy p r s
  | 0x38 => cmdKeyLoad p r s
  | 0x39 => cmdKeyUnload p r s
  | 0x3A => cmdKeyOp p r s
  | 0x3B => cmdEpochInc p r s
  | 0x3C => cmdAttest p r s
  | 0x3D => cmdDebugMode p r s
  | 0x3E => cmdAnchorSet p r s
  | _ => cmdProvision p r s

/-- LF, radio, ranging and access commands. -/
def runAir (op : Nat) (p : Packet) (r : ReplyTo) (s : State) : State :=
  match op with
  | 0x40 => cmdLfTest p r s
  | 0x41 => cmdLfRetest p r s
  | 0x42 => cmdLfOffsetCal r s
  | 0x43 => cmdLfTable p r s
  | 0x50 => cmdRadioCal p r s
  | 0x51 => cmdRadioTx p r s
  | 0x52 => cmdRadioSave p r s
  | 0x60 => cmdModelSet p r s
  | 0x61 => cmdModelGet r s
  | 0x62 => cmdRange p r s
  | 0x63 => cmdRangeSave p r s
  | 0x70 => cmdDecide p r s
  | 0x71 => cmdDecisionLog p r s
  | 0x72 => cmdEnrol p r s
  | 0x73 => cmdRevoke p r s
  | 0x74 => cmdRecordState p r s
  | 0x75 => cmdAccessSet p r s
  | 0x76 => cmdTokenRead p r s
  | _ => cmdDenyRead r s

/-- Coupling and sensing, bus, engine, timer and diagnostic commands. -/
def runHigh (op : Nat) (p : Packet) (r : ReplyTo) (s : State) : State :=
  match op with
  | 0x80 => cmdCouple p r s
  | 0x81 => cmdDecouple p r s
  | 0x82 => cmdCouplingQuery p r s
  | 0x83 => cmdPartnerList p r s
  | 0x84 => cmdRosterAdd p r s
  | 0x85 => cmdRosterRemove p r s
  | 0x86 => cmdWheelSet p r s
  | 0x87 => cmdLocate p r s
  | 0x88 => cmdWheelModelSet p r s
  | 0x89 => cmdS1Learn p r s
  | 0x8A => cmdSensorRead p r s
  | 0x8B => cmdHistoryRead p r s
  | 0x8C => cmdSensorSet p r s
  | 0x90 => cmdCanTx p r s
  | 0x91 => cmdCanRx p r s
  | 0x92 => cmdPlcTx p r s
  | 0x93 => cmdLinXfer p r s
  | 0x94 => cmdBusSave p r s
  | 0xA0 => cmdEngLoad p r s
  | 0xA1 => cmdEngCtrl p r s
  | 0xA2 => cmdMbxWrite p r s
  | 0xA3 => cmdMbxRead p r s
  | 0xA4 => cmdUcodeWrite p r s
  | 0xB0 => cmdTmrRead p r s
  | 0xB1 => cmdTmrArm p r s
  | 0xB2 => cmdTmrCfg p r s
  | 0xC0 => cmdFaultRead p r s
  | 0xC1 => cmdInject p r s
  | _ => cmdTamperClear p r s

/-- Check 13 and the command itself (R336): a gated command is refused first. -/
def runCommand (op : Byte) (p : Packet) (r : ReplyTo) (s : State) : State :=
  let n := op.toNat
  if roleGated n s then deny r 9 s
  else if n < 0x30 then runLow n p r s
  else if n < 0x40 then runKeys n p r s
  else if n < 0x80 then runAir n p r s
  else runHigh n p r s

/-- A packet of an opcode arrives (R336). -/
def hostCommand (op : Byte) (p : Packet) (s : State) : State := hostPacket runCommand cmdIdentify op p s

/-- A packet that the device has held meets checks 9–14 now (R355, R554). -/
def serveHeld (h : HeldPacket) (s : State) : State := serve runCommand h.opcode h.packet h.ret s

end Sys2Proof.Machine
end

