-- ==== Sys2Proof/Machine/Work.lean ====
section
/-! DEFINITION. Accepted work: which starts next, what its start sets going, what ends its steps (R32, R36–R38, R320, R351). -/
namespace Sys2Proof.Machine

/-- E0 serves accepted work: in Noon, not while it restarts. -/
def workRuns (s : State) : Bool := inNoon s && !s.link.e0Restart

/-- A record of accepted work. -/
def findWork (tagged : Bool) (seq : Nat) (s : State) : Option Work := if tagged then s.jrn.works.find? (·.seq == seq) else s.jrn.loose.find? (·.seq == seq)

/-- A region table waits while an earlier accepted write to a region is pending (R326). -/
def tableWaits (w : Work) (earlier : List (Bool × Work)) (s : State) : Bool :=
  w.opcode == 0x25 && earlier.any fun x =>
    x.2.opcode == 0x21 && !(regionsHit (at_ x.2.payload 0 4) (at_ x.2.payload 4 2) s).isEmpty

/-- Work may start, or run an interrupted step again, after the open work accepted before it: what has not started waits until all of its own order before it has
started (R36, R37), and until no earlier one with a common object is open (R37, R326); none of the engines that serve it restarts (R41). Untagged work has an order of
its own. -/
def mayStart (s : State) (earlier : List (Bool × Work)) (x : Bool × Work) : Bool :=
  (x.2.parked || (x.2.state == .accepted && !earlier.any fun y => y.1 == x.1 && y.2.state == .accepted)) &&
    !x.2.engineOut s && !objsMeet (x.2.objs s) (earlier.flatMap fun w => w.2.objs s) && !tableWaits x.2 earlier s

/-- The first accepted command that may start or go on. -/
def nextStart (s : State) : Option (Bool × Work) :=
  let l := openWorks s
  (l.zipIdx.find? fun x => mayStart s (l.take x.2) x.1).map (·.1)

/-- What the start of work sets going, where its step waits for something outside E0. -/
def startBody (tagged : Bool) (w : Work) (s : State) : State :=
  let i := workIds tagged w.seq
  match w.opcode.toNat with
  | 0x21 => startNvmWrite (if tagged then .workPage w.seq else .loosePage w.seq) w.body s
  | 0x40 => startLfTest i.1 i.2 w.body s
  | 0x62 => startRange i.1 i.2 w.body s
  | 0x70 => startDecide i.1 i.2 w.body s
  | 0x72 => startEnrol w i.1 i.2 s
  | 0x73 => startRevoke i.1 i.2 w.body s
  | 0x80 => startCouple i.1 i.2 w.body s
  | 0x87 => locStart i.1 i.2 s
  | _ => s

/-- An accepted command starts (R36, R37). -/
def workStart (s : State) : State :=
  if !workRuns s then s
  else match nextStart s with
    | none => s
    | some (tagged, w) =>
      let w' := { w with state := .running, ready := none, parked := false }
      startBody tagged w' (modWork tagged w.seq (fun _ => w') s)

/-- The step of a System, NVM, Keys or radio command. -/
def stepLow (tagged : Bool) (w : Work) (m : StepMeas) (s : State) : StepRes :=
  match w.opcode.toNat with
  | 0x07 => stepConfigSet tagged w s
  | 0x08 => stepTimeSet w s
  | 0x21 => stepNvmWrite w s
  | 0x24 => stepNvmPassword w s
  | 0x25 => stepNvmRegions w s
  | 0x31 => stepKeyGen w s
  | 0x34 => stepKeyImport w s
  | 0x36 => stepKeyUpdate w s
  | 0x37 => stepKeyDestroy w s
  | 0x3B => stepEpochInc w s
  | 0x3D => stepDebugMode w s
  | 0x3E => stepAnchorSet w s
  | 0x3F => (match byteAt w.payload 0 with
    | 1 => stepCouplingKey w s
    | 2 => stepCouplingCert w s
    | _ => stepImmoKey w s)
  | 0x50 => stepRadioCal tagged w m.cal s
  | 0x52 => stepRadioSave w s
  | 0x60 => stepModelSet w s
  | 0x63 => stepRangeSave w s
  | _ => stepReady w s

/-- The step of any other command; LF_TEST, RANGE, DECIDE, COUPLE and LOCATE end once what they wait for has been found. -/
def stepHigh (tagged : Bool) (w : Work) (m : StepMeas) (s : State) : StepRes :=
  let i := workIds tagged w.seq
  match w.opcode.toNat with
  | 0x72 => stepEnrol w i.1 i.2 s
  | 0x73 => stepRevoke w s
  | 0x74 => stepRecordState w s
  | 0x75 => (match byteAt w.payload 0 with
    | 1 => stepSetOverride w s
    | 2 => stepSetOwnList w s
    | 3 => stepSetLockedAns w s
    | 4 => stepEndCurfew s
    | 5 => stepSloClear m s
    | 6 => stepSetProfile w s
    | _ => stepSetLimit w s)
  | 0x81 => stepDecouple w s
  | 0x83 => stepPartnerList w s
  | 0x84 => stepRosterAdd w s
  | 0x85 => stepRosterRemove w s
  | 0x86 => stepWheelSet w s
  | 0x88 => stepWheelModelSet w s
  | 0x89 => stepS1Learn s
  | 0x8C => stepSensorSet w s
  | 0x94 => stepBusSave w s
  | 0xA0 => stepEngLoad w s
  | 0xC2 => stepTamperClear w s
  | _ => stepReady w s

/-- The step of a command. -/
def stepBody (tagged : Bool) (w : Work) (m : StepMeas) (s : State) : StepRes :=
  if w.opcode.toNat < 0x70 then stepLow tagged w m s else stepHigh tagged w m s

/-- The running step of a piece of work has its end looked for (R32, R320): a boundary is journaled before the next step begins; a result is committed, and the
version 1 command that waited goes on. -/
def workStep (tagged : Bool) (seq : Nat) (m : StepMeas) (s : State) : State :=
  match workRuns s, findWork tagged seq s with
  | true, some w =>
    if w.state ≠ .running ∨ w.parked ∨ w.engineOut s then s
    else match stepBody tagged w m { s with fer := { s.fer with reads := m.rbs } } with
      | (.wait, s) => s
      | (.boundary step pct data, s) =>
        let s := modWork tagged seq (fun w => { w with step := step, pct := pct, stepData := data, ready := none }) s
        if tagged then jrnCommit w.recNo s else s
      | (.over status result, s) => v1Resume (if tagged then finishWork seq status result s else finishLoose seq status result s)
  | _, _ => s

end Sys2Proof.Machine
end

