-- ==== Sys2Proof/Machine/HostRows.lean ====
section
/-! DEFINITION. Meanings of the host's rows: version 2 commands (R333–R336), version 1 commands (R359–R362), events of the link (R339–R346, R355), accepted
work (R32, R36). A packet of any row passes the checks of R336 first; an opcode with several rows selects them by its payload. -/
namespace Sys2Proof.Machine

/-! ### Version 2 commands -/

/-- NOP (opcode 0x00, R377). -/
def execNop (p : Packet) (s : State) : Host.Outcome State Fault Refusal := act (hostCommand 0x00 p) s

/-- IDENTIFY (opcode 0x01, R377). -/
def execIdentify (p : Packet) (s : State) : Host.Outcome State Fault Refusal := act (hostCommand 0x01 p) s

/-- STATUS (opcode 0x02, R377). -/
def execStatus (p : Packet) (s : State) : Host.Outcome State Fault Refusal := act (hostCommand 0x02 p) s

/-- QUERY (opcode 0x03, R349). -/
def execQuery (p : Packet) (s : State) : Host.Outcome State Fault Refusal := act (hostCommand 0x03 p) s

/-- COLLECT (opcode 0x04, R350). -/
def execCollect (p : Packet) (s : State) : Host.Outcome State Fault Refusal := act (hostCommand 0x04 p) s

/-- RESET (opcode 0x05, R377). -/
def execReset (p : Packet) (s : State) : Host.Outcome State Fault Refusal := act (hostCommand 0x05 p) s

/-- POWER (opcode 0x06, R378). -/
def execPower (p : Packet) (s : State) : Host.Outcome State Fault Refusal := act (hostCommand 0x06 p) s

/-- CONFIG_SET (opcode 0x07, R377). -/
def execConfigSet (p : Packet) (s : State) : Host.Outcome State Fault Refusal := act (hostCommand 0x07 p) s

/-- TIME_SET (opcode 0x08, R377). -/
def execTimeSet (p : Packet) (s : State) : Host.Outcome State Fault Refusal := act (hostCommand 0x08 p) s

/-- PENDING_LIST (opcode 0x09, R377). -/
def execPendingList (p : Packet) (s : State) : Host.Outcome State Fault Refusal := act (hostCommand 0x09 p) s

/-- REG_READ (opcode 0x10, R380). -/
def execRegRead (p : Packet) (s : State) : Host.Outcome State Fault Refusal := act (hostCommand 0x10 p) s

/-- REG_WRITE (opcode 0x11, R380). -/
def execRegWrite (p : Packet) (s : State) : Host.Outcome State Fault Refusal := act (hostCommand 0x11 p) s

/-- REG_MODIFY (opcode 0x12, R380). -/
def execRegModify (p : Packet) (s : State) : Host.Outcome State Fault Refusal := act (hostCommand 0x12 p) s

/-- MEM_READ (opcode 0x13, R381). -/
def execMemRead (p : Packet) (s : State) : Host.Outcome State Fault Refusal := act (hostCommand 0x13 p) s

/-- MEM_WRITE (opcode 0x14, R381). -/
def execMemWrite (p : Packet) (s : State) : Host.Outcome State Fault Refusal := act (hostCommand 0x14 p) s

/-- NVM_READ (opcode 0x20, R382). -/
def execNvmRead (p : Packet) (s : State) : Host.Outcome State Fault Refusal := act (hostCommand 0x20 p) s

/-- NVM_WRITE (opcode 0x21, R383). -/
def execNvmWrite (p : Packet) (s : State) : Host.Outcome State Fault Refusal := act (hostCommand 0x21 p) s

/-- NVM_UNLOCK (opcode 0x22, R315). -/
def execNvmUnlock (p : Packet) (s : State) : Host.Outcome State Fault Refusal := act (hostCommand 0x22 p) s

/-- NVM_LOCK (opcode 0x23, R314). -/
def execNvmLock (p : Packet) (s : State) : Host.Outcome State Fault Refusal := act (hostCommand 0x23 p) s

/-- NVM_PASSWORD (opcode 0x24, R314). -/
def execNvmPassword (p : Packet) (s : State) : Host.Outcome State Fault Refusal := act (hostCommand 0x24 p) s

/-- NVM_REGIONS (opcode 0x25, R313). -/
def execNvmRegions (p : Packet) (s : State) : Host.Outcome State Fault Refusal := act (hostCommand 0x25 p) s

/-- COUNTER_READ (opcode 0x26, R310). -/
def execCounterRead (p : Packet) (s : State) : Host.Outcome State Fault Refusal := act (hostCommand 0x26 p) s

/-- AUTH_NONCE (opcode 0x30, R267). -/
def execAuthNonce (p : Packet) (s : State) : Host.Outcome State Fault Refusal := act (hostCommand 0x30 p) s

/-- KEY_GEN (opcode 0x31, R278). -/
def execKeyGen (p : Packet) (s : State) : Host.Outcome State Fault Refusal := act (hostCommand 0x31 p) s

/-- KEY_GEN_BLOB (opcode 0x32, R384). -/
def execKeyGenBlob (p : Packet) (s : State) : Host.Outcome State Fault Refusal := act (hostCommand 0x32 p) s

/-- IMPORT_SESSION (opcode 0x33, R274). -/
def execImportSession (p : Packet) (s : State) : Host.Outcome State Fault Refusal := act (hostCommand 0x33 p) s

/-- KEY_IMPORT (opcode 0x34, R274). -/
def execKeyImport (p : Packet) (s : State) : Host.Outcome State Fault Refusal := act (hostCommand 0x34 p) s

/-- KEY_IMPORT_BLOB (opcode 0x35, R384). -/
def execKeyImportBlob (p : Packet) (s : State) : Host.Outcome State Fault Refusal := act (hostCommand 0x35 p) s

/-- KEY_UPDATE (opcode 0x36, R282). -/
def execKeyUpdate (p : Packet) (s : State) : Host.Outcome State Fault Refusal := act (hostCommand 0x36 p) s

/-- KEY_DESTROY (opcode 0x37, R278). -/
def execKeyDestroy (p : Packet) (s : State) : Host.Outcome State Fault Refusal := act (hostCommand 0x37 p) s

/-- KEY_LOAD (opcode 0x38, R273). -/
def execKeyLoad (p : Packet) (s : State) : Host.Outcome State Fault Refusal := act (hostCommand 0x38 p) s

/-- KEY_UNLOAD (opcode 0x39, R280). -/
def execKeyUnload (p : Packet) (s : State) : Host.Outcome State Fault Refusal := act (hostCommand 0x39 p) s

/-- CMAC (KEY_OP, opcode 0x3A, R385). -/
def execCmac (p : Packet) (s : State) : Host.Outcome State Fault Refusal := act (hostCommand 0x3A p) s

/-- CMAC_VERIFY (KEY_OP, opcode 0x3A, R385). -/
def execCmacVerify (p : Packet) (s : State) : Host.Outcome State Fault Refusal := act (hostCommand 0x3A p) s

/-- SIGN (KEY_OP, opcode 0x3A, R385). -/
def execSign (p : Packet) (s : State) : Host.Outcome State Fault Refusal := act (hostCommand 0x3A p) s

/-- ECDH (KEY_OP, opcode 0x3A, R385). -/
def execEcdh (p : Packet) (s : State) : Host.Outcome State Fault Refusal := act (hostCommand 0x3A p) s

/-- DERIVE (KEY_OP, opcode 0x3A, R385). -/
def execDerive (p : Packet) (s : State) : Host.Outcome State Fault Refusal := act (hostCommand 0x3A p) s

/-- WRAP (KEY_OP, opcode 0x3A, R385). -/
def execWrap (p : Packet) (s : State) : Host.Outcome State Fault Refusal := act (hostCommand 0x3A p) s

/-- EPOCH_INC (opcode 0x3B, R281). -/
def execEpochInc (p : Packet) (s : State) : Host.Outcome State Fault Refusal := act (hostCommand 0x3B p) s

/-- ATTEST (opcode 0x3C, R286). -/
def execAttest (p : Packet) (s : State) : Host.Outcome State Fault Refusal := act (hostCommand 0x3C p) s

/-- DEBUG_MODE (opcode 0x3D, R288). -/
def execDebugMode (p : Packet) (s : State) : Host.Outcome State Fault Refusal := act (hostCommand 0x3D p) s

/-- ANCHOR_SET (opcode 0x3E, R265). -/
def execAnchorSet (p : Packet) (s : State) : Host.Outcome State Fault Refusal := act (hostCommand 0x3E p) s

/-- COUPLING_KEY (PROVISION, opcode 0x3F, R386). -/
def execCouplingKey (p : Packet) (s : State) : Host.Outcome State Fault Refusal := act (hostCommand 0x3F p) s

/-- COUPLING_CERT (PROVISION, opcode 0x3F, R386). -/
def execCouplingCert (p : Packet) (s : State) : Host.Outcome State Fault Refusal := act (hostCommand 0x3F p) s

/-- IMMO_KEY (PROVISION, opcode 0x3F, R386). -/
def execImmoKey (p : Packet) (s : State) : Host.Outcome State Fault Refusal := act (hostCommand 0x3F p) s

/-- LF_TEST (opcode 0x40, R388). -/
def execLfTest (p : Packet) (s : State) : Host.Outcome State Fault Refusal := act (hostCommand 0x40 p) s

/-- LF_RETEST (opcode 0x41, R116). -/
def execLfRetest (p : Packet) (s : State) : Host.Outcome State Fault Refusal := act (hostCommand 0x41 p) s

/-- LF_OFFSET_CAL (opcode 0x42, R117). -/
def execLfOffsetCal (p : Packet) (s : State) : Host.Outcome State Fault Refusal := act (hostCommand 0x42 p) s

/-- LF_TABLE (opcode 0x43, R388). -/
def execLfTable (p : Packet) (s : State) : Host.Outcome State Fault Refusal := act (hostCommand 0x43 p) s

/-- RADIO_CAL (opcode 0x50, R157). -/
def execRadioCal (p : Packet) (s : State) : Host.Outcome State Fault Refusal := act (hostCommand 0x50 p) s

/-- RADIO_TX (opcode 0x51, R388). -/
def execRadioTx (p : Packet) (s : State) : Host.Outcome State Fault Refusal := act (hostCommand 0x51 p) s

/-- RADIO_SAVE (opcode 0x52, R387). -/
def execRadioSave (p : Packet) (s : State) : Host.Outcome State Fault Refusal := act (hostCommand 0x52 p) s

/-- MODEL_SET (opcode 0x60, R189). -/
def execModelSet (p : Packet) (s : State) : Host.Outcome State Fault Refusal := act (hostCommand 0x60 p) s

/-- MODEL_GET (opcode 0x61, R387). -/
def execModelGet (p : Packet) (s : State) : Host.Outcome State Fault Refusal := act (hostCommand 0x61 p) s

/-- RANGE (opcode 0x62, R388). -/
def execRange (p : Packet) (s : State) : Host.Outcome State Fault Refusal := act (hostCommand 0x62 p) s

/-- RANGE_SAVE (opcode 0x63, R387). -/
def execRangeSave (p : Packet) (s : State) : Host.Outcome State Fault Refusal := act (hostCommand 0x63 p) s

/-- DECIDE (opcode 0x70, R389). -/
def execDecide (p : Packet) (s : State) : Host.Outcome State Fault Refusal := act (hostCommand 0x70 p) s

/-- DECISION_LOG (opcode 0x71, R389). -/
def execDecisionLog (p : Packet) (s : State) : Host.Outcome State Fault Refusal := act (hostCommand 0x71 p) s

/-- ENROL (opcode 0x72, R74). -/
def execEnrol (p : Packet) (s : State) : Host.Outcome State Fault Refusal := act (hostCommand 0x72 p) s

/-- REVOKE (opcode 0x73, R77). -/
def execRevoke (p : Packet) (s : State) : Host.Outcome State Fault Refusal := act (hostCommand 0x73 p) s

/-- RECORD_STATE (opcode 0x74, R77). -/
def execRecordState (p : Packet) (s : State) : Host.Outcome State Fault Refusal := act (hostCommand 0x74 p) s

/-- OVERRIDE (ACCESS_SET, opcode 0x75, R70). -/
def execOverride (p : Packet) (s : State) : Host.Outcome State Fault Refusal := act (hostCommand 0x75 p) s

/-- TRL_OWN_LIST (ACCESS_SET, opcode 0x75, R71). -/
def execTrlOwnList (p : Packet) (s : State) : Host.Outcome State Fault Refusal := act (hostCommand 0x75 p) s

/-- LOCKED_ANS (ACCESS_SET, opcode 0x75, R93). -/
def execLockedAns (p : Packet) (s : State) : Host.Outcome State Fault Refusal := act (hostCommand 0x75 p) s

/-- END_CURFEW (ACCESS_SET, opcode 0x75, R65). -/
def execEndCurfew (p : Packet) (s : State) : Host.Outcome State Fault Refusal := act (hostCommand 0x75 p) s

/-- CLEAR_SLO_FAULT (ACCESS_SET, opcode 0x75, R82). -/
def execClearSloFault (p : Packet) (s : State) : Host.Outcome State Fault Refusal := act (hostCommand 0x75 p) s

/-- PROFILE_POLICY (ACCESS_SET, opcode 0x75, R390). -/
def execProfilePolicy (p : Packet) (s : State) : Host.Outcome State Fault Refusal := act (hostCommand 0x75 p) s

/-- ENROL_LIMIT (ACCESS_SET, opcode 0x75, R76). -/
def execEnrolLimit (p : Packet) (s : State) : Host.Outcome State Fault Refusal := act (hostCommand 0x75 p) s

/-- TOKEN_READ (opcode 0x76, R389). -/
def execTokenRead (p : Packet) (s : State) : Host.Outcome State Fault Refusal := act (hostCommand 0x76 p) s

/-- DENY_READ (opcode 0x77, R389). -/
def execDenyRead (p : Packet) (s : State) : Host.Outcome State Fault Refusal := act (hostCommand 0x77 p) s

/-- COUPLE (opcode 0x80, R393). -/
def execCouple (p : Packet) (s : State) : Host.Outcome State Fault Refusal := act (hostCommand 0x80 p) s

/-- DECOUPLE (opcode 0x81, R393). -/
def execDecouple (p : Packet) (s : State) : Host.Outcome State Fault Refusal := act (hostCommand 0x81 p) s

/-- COUPLING_QUERY (opcode 0x82, R394). -/
def execCouplingQuery (p : Packet) (s : State) : Host.Outcome State Fault Refusal := act (hostCommand 0x82 p) s

/-- PARTNER_LIST (opcode 0x83, R393). -/
def execPartnerList (p : Packet) (s : State) : Host.Outcome State Fault Refusal := act (hostCommand 0x83 p) s

/-- ROSTER_ADD (opcode 0x84, R238). -/
def execRosterAdd (p : Packet) (s : State) : Host.Outcome State Fault Refusal := act (hostCommand 0x84 p) s

/-- ROSTER_REMOVE (opcode 0x85, R238). -/
def execRosterRemove (p : Packet) (s : State) : Host.Outcome State Fault Refusal := act (hostCommand 0x85 p) s

/-- WHEEL_SET (opcode 0x86, R393). -/
def execWheelSet (p : Packet) (s : State) : Host.Outcome State Fault Refusal := act (hostCommand 0x86 p) s

/-- LOCATE (opcode 0x87, R246). -/
def execLocate (p : Packet) (s : State) : Host.Outcome State Fault Refusal := act (hostCommand 0x87 p) s

/-- WHEEL_MODEL_SET (opcode 0x88, R245). -/
def execWheelModelSet (p : Packet) (s : State) : Host.Outcome State Fault Refusal := act (hostCommand 0x88 p) s

/-- S1_LEARN (opcode 0x89, R240). -/
def execS1Learn (p : Packet) (s : State) : Host.Outcome State Fault Refusal := act (hostCommand 0x89 p) s

/-- SENSOR_READ (opcode 0x8A, R392). -/
def execSensorRead (p : Packet) (s : State) : Host.Outcome State Fault Refusal := act (hostCommand 0x8A p) s

/-- HISTORY_READ (opcode 0x8B, R392). -/
def execHistoryRead (p : Packet) (s : State) : Host.Outcome State Fault Refusal := act (hostCommand 0x8B p) s

/-- SENSOR_SET (opcode 0x8C, R392). -/
def execSensorSet (p : Packet) (s : State) : Host.Outcome State Fault Refusal := act (hostCommand 0x8C p) s

/-- CAN_TX (opcode 0x90, R501). -/
def execCanTx (p : Packet) (s : State) : Host.Outcome State Fault Refusal := act (hostCommand 0x90 p) s

/-- CAN_RX (opcode 0x91, R396). -/
def execCanRx (p : Packet) (s : State) : Host.Outcome State Fault Refusal := act (hostCommand 0x91 p) s

/-- PLC_TX (opcode 0x92, R395). -/
def execPlcTx (p : Packet) (s : State) : Host.Outcome State Fault Refusal := act (hostCommand 0x92 p) s

/-- LIN_XFER (opcode 0x93, R516). -/
def execLinXfer (p : Packet) (s : State) : Host.Outcome State Fault Refusal := act (hostCommand 0x93 p) s

/-- BUS_SAVE (opcode 0x94, R499). -/
def execBusSave (p : Packet) (s : State) : Host.Outcome State Fault Refusal := act (hostCommand 0x94 p) s

/-- ENG_LOAD (opcode 0xA0, R426). -/
def execEngLoad (p : Packet) (s : State) : Host.Outcome State Fault Refusal := act (hostCommand 0xA0 p) s

/-- ENG_CTRL (opcode 0xA1, R424). -/
def execEngCtrl (p : Packet) (s : State) : Host.Outcome State Fault Refusal := act (hostCommand 0xA1 p) s

/-- MBX_WRITE (opcode 0xA2, R421). -/
def execMbxWrite (p : Packet) (s : State) : Host.Outcome State Fault Refusal := act (hostCommand 0xA2 p) s

/-- MBX_READ (opcode 0xA3, R395). -/
def execMbxRead (p : Packet) (s : State) : Host.Outcome State Fault Refusal := act (hostCommand 0xA3 p) s

/-- UCODE_WRITE (opcode 0xA4, R396). -/
def execUcodeWrite (p : Packet) (s : State) : Host.Outcome State Fault Refusal := act (hostCommand 0xA4 p) s

/-- TMR_READ (opcode 0xB0, R395). -/
def execTmrRead (p : Packet) (s : State) : Host.Outcome State Fault Refusal := act (hostCommand 0xB0 p) s

/-- TMR_ARM (opcode 0xB1, R489). -/
def execTmrArm (p : Packet) (s : State) : Host.Outcome State Fault Refusal := act (hostCommand 0xB1 p) s

/-- TMR_CFG (opcode 0xB2, R396). -/
def execTmrCfg (p : Packet) (s : State) : Host.Outcome State Fault Refusal := act (hostCommand 0xB2 p) s

/-- FAULT_READ (opcode 0xC0, R397). -/
def execFaultRead (p : Packet) (s : State) : Host.Outcome State Fault Refusal := act (hostCommand 0xC0 p) s

/-- INJECT (opcode 0xC1, R536). -/
def execInject (p : Packet) (s : State) : Host.Outcome State Fault Refusal := act (hostCommand 0xC1 p) s

/-- TAMPER_CLEAR (opcode 0xC2, R532). -/
def execTamperClear (p : Packet) (s : State) : Host.Outcome State Fault Refusal := act (hostCommand 0xC2 p) s

/-! ### Version 1 commands -/

/-- V1_NOP (version 1 opcode 0x00, R360). -/
def execV1Nop (f : V1Frame) (s : State) : Host.Outcome State Fault Refusal := act (v1Transaction 0x00 f) s

/-- IDENT (version 1 opcode 0x01, R400). -/
def execIdent (f : V1Frame) (s : State) : Host.Outcome State Fault Refusal := act (v1Transaction 0x01 f) s

/-- V1_STATUS (version 1 opcode 0x02, R400). -/
def execV1Status (f : V1Frame) (s : State) : Host.Outcome State Fault Refusal := act (v1Transaction 0x02 f) s

/-- SOFT_RESET (version 1 opcode 0x03, R400). -/
def execSoftReset (f : V1Frame) (s : State) : Host.Outcome State Fault Refusal := act (v1Transaction 0x03 f) s

/-- V1_REG_READ (version 1 opcode 0x08, R400). -/
def execV1RegRead (f : V1Frame) (s : State) : Host.Outcome State Fault Refusal := act (v1Transaction 0x08 f) s

/-- V1_REG_WRITE (version 1 opcode 0x09, R400). -/
def execV1RegWrite (f : V1Frame) (s : State) : Host.Outcome State Fault Refusal := act (v1Transaction 0x09 f) s

/-- EE_READ (version 1 opcode 0x10, R362). -/
def execEeRead (f : V1Frame) (s : State) : Host.Outcome State Fault Refusal := act (v1Transaction 0x10 f) s

/-- EE_WRITE (version 1 opcode 0x11, R362). -/
def execEeWrite (f : V1Frame) (s : State) : Host.Outcome State Fault Refusal := act (v1Transaction 0x11 f) s

/-- T2_POLL (version 1 opcode 0x18, R400). -/
def execT2Poll (f : V1Frame) (s : State) : Host.Outcome State Fault Refusal := act (v1Transaction 0x18 f) s

/-- T2_RESULT (version 1 opcode 0x19, R400). -/
def execT2Result (f : V1Frame) (s : State) : Host.Outcome State Fault Refusal := act (v1Transaction 0x19 f) s

/-- S1_COUNT (version 1 opcode 0x20, R400). -/
def execS1Count (f : V1Frame) (s : State) : Host.Outcome State Fault Refusal := act (v1Transaction 0x20 f) s

/-- S1_READ (version 1 opcode 0x21, R400). -/
def execS1Read (f : V1Frame) (s : State) : Host.Outcome State Fault Refusal := act (v1Transaction 0x21 f) s

/-- S1_ADD (version 1 opcode 0x22, R400). -/
def execS1Add (f : V1Frame) (s : State) : Host.Outcome State Fault Refusal := act (v1Transaction 0x22 f) s

/-- S1_REMOVE (version 1 opcode 0x23, R400). -/
def execS1Remove (f : V1Frame) (s : State) : Host.Outcome State Fault Refusal := act (v1Transaction 0x23 f) s

/-- V1_LF_TEST (version 1 opcode 0x28, R400). -/
def execV1LfTest (f : V1Frame) (s : State) : Host.Outcome State Fault Refusal := act (v1Transaction 0x28 f) s

/-- J12_BEGIN (version 1 opcode 0x30, R429). -/
def execJ12Begin (f : V1Frame) (s : State) : Host.Outcome State Fault Refusal := act (v1Transaction 0x30 f) s

/-- J12_DATA (version 1 opcode 0x31, R429). -/
def execJ12Data (f : V1Frame) (s : State) : Host.Outcome State Fault Refusal := act (v1Transaction 0x31 f) s

/-- J12_END (version 1 opcode 0x32, R429). -/
def execJ12End (f : V1Frame) (s : State) : Host.Outcome State Fault Refusal := act (v1Transaction 0x32 f) s

/-- V1_MBX_WRITE (version 1 opcode 0x38, R400). -/
def execV1MbxWrite (f : V1Frame) (s : State) : Host.Outcome State Fault Refusal := act (v1Transaction 0x38 f) s

/-- V1_MBX_READ (version 1 opcode 0x39, R400). -/
def execV1MbxRead (f : V1Frame) (s : State) : Host.Outcome State Fault Refusal := act (v1Transaction 0x39 f) s

/-- A transaction of fewer than 12 bytes on HCS1_N (R359). -/
def execV1ShortTransaction (s : State) : Host.Outcome State Fault Refusal := act v1Short s

/-! ### Events of the link -/

/-- The SOFT reset comes once its reply has been consumed or sent (R377, R400, R559). -/
def execResetAfterReply (s : State) : Host.Outcome State Fault Refusal := act softReset s

/-- A transaction on HCS0_N without a command (R340): output is served; a first byte other than 0x00 fails check 1. -/
def readOnly (first : Byte) (clocked : Nat) (s : State) : State :=
  if !linkUp s then s
  else
    let s := spiOutput clocked s
    if first = 0 then s else syncErr 0 s

def execReadOnlyTransaction (first : Byte) (clocked : Nat) (s : State) : Host.Outcome State Fault Refusal := act (readOnly first clocked) s

/-- A replay on HCS0_N (R340, R341). -/
def replayTransaction (clocked : Nat) (s : State) : State := if linkUp s then spiReplay clocked s else s

def execReplayTransaction (clocked : Nat) (s : State) : Host.Outcome State Fault Refusal := act (replayTransaction clocked) s

/-- A transaction with both chip-selects low (R339): void, counted. -/
def clash (s : State) : State :=
  if linkUp s then lastErr 5 0 0 (raise 0x40010008 0x20 (regInc 0x4001003C 16 s)) else s

def execClash (s : State) : Host.Outcome State Fault Refusal := act clash s

/-- A gap of more than GAP byte times ends a UART packet under check 4 (R344); not with GAP 0, and a whole packet cannot be ended so. -/
def gapTimeout (op : Byte) (p : Packet) (s : State) : State :=
  if p.port ≠ .uart ∨ regFld s 0x40010010 16 8 = 0 ∨ (p.header = 8 ∧ p.payload.length = p.len ∧ p.crc.isSome) then s else hostCommand op p s

def execUartGapTimeout (op : Byte) (p : Packet) (s : State) : Host.Outcome State Fault Refusal := act (gapTimeout op p) s

/-- A UART byte with a stop-bit error (R344). -/
def stopBitError (s : State) : State := if linkUp s && regBit s 0x40010000 1 then syncErr 1 s else s

def execStopBitError (s : State) : Host.Outcome State Fault Refusal := act stopBitError s

/-- Configuration writes whose reply has been consumed or sent take effect (R343, R364). -/
def applyCfg (addrs : List Nat) (s : State) : State :=
  let due := fun (c : Nat × Word × Option Nat) => addrs.contains c.1 && c.2.2.isNone
  let l := s.link.cfgPend.filter due
  l.foldl (fun s (c : Nat × Word × Option Nat) => regWrite none c.1 c.2.1 s)
    { s with link := { s.link with cfgPend := s.link.cfgPend.filter fun c => !due c } }

/-- HIF_UART_CFG after the last stop bit of the reply (R343). -/
def execUartCfgWrite (s : State) : Host.Outcome State Fault Refusal := act (applyCfg [0x40010010]) s

/-- HIF_CFG and HIF_V1_CFG after the consumption of the reply (R364). -/
def execHifCfgWrite (s : State) : Host.Outcome State Fault Refusal := act (applyCfg [0x40010000, 0x40010014]) s

/-- EVT_LOST is queued where room allows (R346, R353). -/
def execEvtLost (s : State) : Host.Outcome State Fault Refusal := act (fun s => if awake s then queueLost .uart (queueLost .hcs0 s) else s) s

/-- COMPLETE events that are due are raised again (R346). -/
def execCompleteRequeue (s : State) : Host.Outcome State Fault Refusal := act requeueComplete s

/-- Dawn-queued packets in arrival order through checks 9–14, each with its final reply, as long as the output queue has room for it (R355, R346). -/
def dawnServe : List HeldPacket → State → State
  | [], s => { s with link := { s.link with dawnq := [] } }
  | h :: rest, s =>
    let s := { s with link := { s.link with dawnq := h :: rest } }
    let room := maxReply h.opcode.toNat
    if outRoom (portOf s h.ret.port) < room then s
    else
      let r : ReplyTo := { h.ret with slot := s.link.nextSlot }
      let s := serveHeld { h with ret := r } (openSlot r room s)
      dawnServe rest (releaseReplies h.ret.port s)

/-- E0 takes the Dawn queue at Noon (R355). -/
def dawnProcess (s : State) : State := if inNoon s && !s.link.e0Restart then dawnServe s.link.dawnq s else s

def execDawnQueueProcess (s : State) : Host.Outcome State Fault Refusal := act dawnProcess s

/-- An opcode that the table does not define (R361, R374): BAD_OPCODE, no effect. -/
def undefinedOpcode (op : Byte) (x : BadOpcode) (s : State) : State :=
  match x with
  | .v2 p => hostCommand op p s
  | .v1 f => v1Transaction op f s

def execUndefinedOpcode (op : Byte) (x : BadOpcode) (s : State) : Host.Outcome State Fault Refusal := act (undefinedOpcode op x) s

/-! ### Accepted work -/

/-- The next accepted command starts (R36, R37). -/
def execAcceptedWorkStart (s : State) : Host.Outcome State Fault Refusal := act workStart s

/-- The running step of accepted work has its end looked for (R32, R320). -/
def execAcceptedWorkStep (tagged : Bool) (seq : Nat) (m : StepMeas) (s : State) : Host.Outcome State Fault Refusal := act (workStep tagged seq m) s

end Sys2Proof.Machine
end

