-- ==== Sys2Proof/Machine/AccRows.lean ====
section
/-! DEFINITION. Meanings of the access rows: triggers, replies, windows, releases, the immobiliser, enrolment attempts (chapter 2). -/
namespace Sys2Proof.Machine

/-- An effect that needs the clocks of R548 running. -/
def whenRunning (f : State → State) (s : State) : State := if running s then f s else s

/-- An effect that E0 has in Noon, not while it restarts. -/
def whenNoon (f : State → State) (s : State) : State := if workRuns s then f s else s

/-! ### Triggers (R44, R45) -/

/-- A falling edge on WAKE0–3 (R44, R554, R556): in Midnight and Dusk only an enabled pin counts. -/
def wakePinEdge (n : Fin 4) (s : State) : State :=
  let en := wbit (regGet s 0x40000020) n.val
  let seen := fun (s : State) => if en then raise 0x40000010 4 s else s
  let go := fun (s : State) => trigger (mkTrigger .wakePin .door (some n.val) s) (seen s)
  if !s.power.vddioOk then s
  else match s.power.state with
    | .midnight => wake { pins := BitVec.ofNat 4 (2 ^ n.val), rtc := false, cs := false } s
    | .dusk => if en then go s else s
    | .noon => go s
    | .dawn => if s.power.pll then go s else s
    | .held => s
    | .bootFail => s

def execWakePinEdge (n : Fin 4) (s : State) : Host.Outcome State Fault Refusal := act (wakePinEdge n) s

/-- The controller of a bus takes frames in (R498). -/
def canHears (s : State) (b : Nat) : Bool := ((canOf s b).state == .listen || (canOf s b).state == .active) && !(canOf s b).integrating

/-- A start-request frame (R44, R94). -/
def execStartRequestFrame (f : BusFrame) (s : State) : Host.Outcome State Fault Refusal :=
  act (fun s => if awake s && canHears s f.bus.val then startRequest f s else s) s

/-- A presence frame after a beacon (R45, R554): it counts when it carries the identifier of an ACTIVE T3 record, in its first four bytes (DEDUCED, log 87). -/
def presenceFrame (data : Bytes) (s : State) : State :=
  let mine := s.acc.tokens.any fun t => t.state == .active && t.cls == .t3 && t.tokenId.toNat == at_ data 0 4
  if awake s ∧ 4 ≤ data.length ∧ mine then trigger (mkTrigger .presence .door none s) s else s

def execPresenceFrame (data : Bytes) (s : State) : Host.Outcome State Fault Refusal := act (presenceFrame data) s

/-- The Dusk beacon (R45): the wake pattern alone on the exterior aerials, in energy class 4. -/
def duskBeacon (s : State) : State :=
  let set := (List.range 8).filter fun k => aerRole s k != 0 && chanLive s k
  if s.power.state ≠ .dusk ∨ regFld s 0x40060014 24 8 = 0 ∨ lfBlocked s ∨ set = [] then s
  else e1Request 4 [wakeWord (set.foldl (fun a k => a + 2 ^ k) 0) (regFld s 0x40020858 16 3), word 0] s

def execDuskBeacon (s : State) : Host.Outcome State Fault Refusal := act duskBeacon s

/-- The next queued trigger starts its decision (R25). -/
def execQueuedTriggerStart (s : State) : Host.Outcome State Fault Refusal := act (whenNoon startQueued) s

/-! ### Replies on air (R52–R62, R141) -/

/-- The slot of an open window in which a good frame fell; the receiver listens and no injection breaks the check (R141, R538). -/
def goodSlot (f : RxFrame) (s : State) : Option Nat :=
  let r := f.rx.val
  let x := rxOf s r
  match f.slot with
  | some k =>
    if rxGood s f && x.winOpen && decide (k.val < x.slots.length) then some k.val else none
  | none => none

/-- A reply is received in a slot and handed on. -/
def airReply (f : RxFrame) (take : Nat → State → State) (s : State) : State :=
  match goodSlot f s with
  | some k => take k (rxFrame f s)
  | none => rxFrame f s

/-- A T3 reply goes to whoever opened the receiver's window: the decision, a track, an enrolment (R52, R74, R81). -/
def t3Reply (f : RxFrame) (fit : Option LfvFit) (s : State) : State :=
  let r := f.rx.val
  let b := rxPayload s f
  airReply f (fun k s =>
    if s.acc.decision.any (·.t3Wins.contains r) then decT3 r k b fit s
    else enrolT3 r k b fit (trackT3 r k b fit s)) s

def execT3Reply (f : RxFrame) (fit : Option LfvFit) (s : State) : Host.Outcome State Fault Refusal := act (whenNoon (t3Reply f fit)) s

/-- A T2 reply (R56, R74, R81). -/
def t2Reply (f : RxFrame) (s : State) : State :=
  let r := f.rx.val
  let b := rxPayload s f
  airReply f (fun k s =>
    if s.acc.decision.any (·.t2Win == some r) then decT2 k b s
    else enrolT2 r k b (trackT2 r k b s)) s

def execT2Reply (f : RxFrame) (s : State) : Host.Outcome State Fault Refusal := act (whenNoon (t2Reply f)) s

/-- A phone's answer to a challenge (R58, R74). -/
def execPhoneAnswer (record : Fin 64) (answer : Bytes) (s : State) : Host.Outcome State Fault Refusal :=
  act (whenNoon fun s => enrolPhone record.val answer (decPhone record.val answer s)) s

/-- Collided slots of a window that has closed. -/
def collidedSlots (r : Nat) (s : State) : List Nat := (List.range 8).filter fun k => 2 ≤ regFld s (rxAddr r 0x14) (2 * k) 2

/-- A window closes (R59–R61, R141, R243); `energy` lists slots with the level that their RSSI held for 100 µs in total. It goes to whoever opened it, and E2 listens for sensors again. -/
def winDone (rx : Fin 3) (energy : List (Fin 8 × Byte)) (s : State) : State :=
  let r := rx.val
  if !(rxOf s r).winOpen then s
  else
    let s := closeWindow r (energy.map fun p => (p.1.val, p.2.toNat)) s
    let slots := collidedSlots r s
    sensorListen r <|
    if s.acc.decision.any (fun d => d.t3Wins.contains r || d.t2Win == some r) then decWindow r slots s
    else if s.acc.release.track.any (fun t => t.2.1 == some r) then trackWindow r s
    else if s.acc.enrol.any (fun e => e.rx == some r) then enrolWindow r s
    else locWindow r slots s

def execWinDone (rx : Fin 3) (energy : List (Fin 8 × Byte)) (s : State) : Host.Outcome State Fault Refusal := act (whenRunning (winDone rx energy)) s

/-! ### Curfew and releases (R24, R63, R80–R84, R539, R563) -/

/-- Curfew reaches its end (R63). -/
def execCurfewEnd (s : State) : Host.Outcome State Fault Refusal := act (fun s => if awake s then curfewStop s else s) s

/-- No refresh from E0 for 100 ms (R24, R543). -/
def refreshMissed (s : State) : State := if s.acc.release.active then endRelease 3 (regOr 0x4010002C 0x20000 s) else s

def execReleaseRefreshTimeout (s : State) : Host.Outcome State Fault Refusal := act refreshMissed s

/-- DURATION_S has passed since the newest grant (R80). -/
def execReleaseDurationEnd (s : State) : Host.Outcome State Fault Refusal := act (endRelease 1) s

/-- TRACK_PERIOD has passed in a START release (R81, R220). -/
def execReleaseTrack (s : State) : Host.Outcome State Fault Refusal := act (whenNoon startTrack) s

/-- The readback of a standing release (R82). -/
def execReleaseReadback (a b : Bool) (s : State) : Host.Outcome State Fault Refusal := act (releaseReadback a b) s

/-- The readback outside a release (R539). -/
def execIdleReadback (a b : Bool) (s : State) : Host.Outcome State Fault Refusal := act (whenRunning (idleReadback a b)) s

/-- A half period of a release is measured (R539). -/
def execPeriodMonitor (us : Nat) (s : State) : Host.Outcome State Fault Refusal := act (periodMonitor us) s

/-- The self-test of Dawn (R563). -/
def execReleaseSelfTest (reads : List (Bool × Bool × Bool)) (s : State) : Host.Outcome State Fault Refusal := act (selfTest reads) s

/-- A challenge of the engine ECU (R83, R84): answered in Noon by an ACTIVE controller. -/
def execImmoChallenge (f : BusFrame) (s : State) : Host.Outcome State Fault Refusal :=
  act (whenNoon fun s => if (canOf s f.bus.val).state = .active ∧ canHears s f.bus.val then immoChallenge f s else s) s

/-! ### Enrolment (R75, R619) -/

/-- 100 ms after the previous attempt (R619). -/
def execEnrolAttempt (s : State) : Host.Outcome State Fault Refusal := act (whenNoon enrolAttempt) s

/-- 10 s of silence (R75). -/
def execEnrolTimeout (s : State) : Host.Outcome State Fault Refusal := act (whenNoon enrolTimeout) s

end Sys2Proof.Machine
end

