-- ==== Sys2Proof/Machine/AirRows.lean ====
section
/-! DEFINITION. Meanings of the LF, radio and ranging rows (chapters 3–5). -/
namespace Sys2Proof.Machine

/-! ### The LF field system -/

/-- A start trigger for a telegram (R104): the GO write (0) or a TMB compare unit (1–32). -/
def execLfGo (src : Nat) (s : State) : Host.Outcome State Fault Refusal := act (whenRunning (lfGo src)) s

/-- ABORT (R124). -/
def execLfAbort (s : State) : Host.Outcome State Fault Refusal := act (whenRunning endDue) s

/-- FLUSH (R124). -/
def execLfFlush (s : State) : Host.Outcome State Fault Refusal := act (whenRunning fifoFlush) s

/-- E1 writes an entry into the symbol FIFO (R104). -/
def execLfxFifoData (w : Word) (s : State) : Host.Outcome State Fault Refusal := act (whenRunning (regWrite (some 1) 0x40020820 w)) s

/-- The running telegram goes on by one part of an entry, up to the next symbol boundary, or by an entry that takes no time (R105–R110). -/
def execLfFifoEntry (m : LfMeas) (s : State) : Host.Outcome State Fault Refusal := act (whenRunning (nextEntry m)) s

/-- E1 writes LFX_COMMIT (R118). -/
def execLfxCommit (w : Word) (s : State) : Host.Outcome State Fault Refusal := act (whenRunning (regWrite (some 1) 0x40020810 w)) s

/-- E1 writes LFX_EACC_REQ (R113). -/
def execLfxEaccReq (w : Word) (s : State) : Host.Outcome State Fault Refusal := act (whenRunning (regWrite (some 1) 0x40020844 w)) s

/-- A bin boundary of the energy accountant (R85, R111–R113). -/
def execEaccBin (tj : Int) (pcore : Nat) (s : State) : Host.Outcome State Fault Refusal := act (whenRunning fun s => budgetCheck (binBoundary tj pcore s)) s

/-- VLF moves (R98). -/
def execVlfWindowChange (mv : Nat) (s : State) : Host.Outcome State Fault Refusal := act (vlfChange mv) s

/-- A short on a driven channel (R115). -/
def execLfShort (ch : Fin 8) (toVlf : Bool) (s : State) : Host.Outcome State Fault Refusal := act (whenRunning (lfShort ch.val toVlf)) s

/-- The retest of an open channel (R116): of one that is flagged, or whose retest was asked for. -/
def openRetestDue (n peak : Nat) (tj : Int) (s : State) : State :=
  if regBit s (lfCh n 0xC) 0 || bit s.lf.retest.toNat n then openRetest n peak tj s else s

def execLfOpenRetest (ch : Fin 8) (peak : Byte) (tj : Int) (s : State) : Host.Outcome State Fault Refusal :=
  act (whenRunning (openRetestDue ch.val peak.toNat tj)) s

/-- Short flags of a channel are cleared and its retest runs (R116, R123): `flags` bit 0 SHORT_GND, bit 1 SHORT_VLF. -/
def shortClear (n flags : Nat) (found : Option Bool) (s : State) : State :=
  if bit s.lf.shortRetest.toNat n ∨ wfld (regGet s (lfCh n 0xC)) 1 2 &&& flags ≠ 0 then shortRetest n (2 * flags) found s else s

def execLfShortClear (ch : Fin 8) (flags : Fin 4) (found : Option Bool) (s : State) : Host.Outcome State Fault Refusal :=
  act (whenRunning (shortClear ch.val flags.val found)) s

/-- A grant not used within 1.0 ms lapses (R113). -/
def execGrantLapse (s : State) : Host.Outcome State Fault Refusal := act (whenRunning grantLapse) s

/-! ### The radio chains -/

/-- E2 or E3 writes the control word of a transmit descriptor; a reserved value is refused with WR_REJ (R148, R162, R168). -/
def execTxDescriptorQueue (bandH : Bool) (d : Fin 4) (ctl : Word) (s : State) : Host.Outcome State Fault Refusal :=
  act (whenRunning (engWriteBy regWrite (if bandH then 3 else 2) (txdAddr bandH d.val 0) ctl)) s

/-- A descriptor's start instant (R149–R151): its synthesiser has settled, and no channel change runs. -/
def execTxDescriptorStart (bandH : Bool) (d : Fin 4) (settled tuned : Bool) (s : State) : Host.Outcome State Fault Refusal :=
  act (whenRunning fun s => runGaps (startDesc bandH d.val (settled && tuned) s)) s

/-- A transmission ends; behind a SLOC the tones of R248 follow. -/
def frameSent (h : Bool) (rl : Nat) (s : State) : State :=
  let d := (bandOf s h).sending
  if h then endSending h rl s else slocSent d (endSending h rl s)

/-- A transmission ends; `rl` is the return loss measured on Band L (R148, R155). -/
def execTxFrameEnd (bandH : Bool) (rl : Byte) (s : State) : Host.Outcome State Fault Refusal := act (whenRunning (frameSent bandH rl.toNat)) s

/-- A received frame ends (R138, R140–R142). -/
def execRxFrame (f : RxFrame) (s : State) : Host.Outcome State Fault Refusal := act (whenRunning (rxFrame f)) s

/-- An armed window opens (R141). -/
def execRxWindowOpen (rx : Fin 3) (s : State) : Host.Outcome State Fault Refusal := act (whenRunning (openWindow rx.val)) s

/-- COMMIT of a band's synthesisers: the bits of SYN-L1 and SYN-L2, or of TX-LO and RX-LO (R146). -/
def execRflCommit (bandH : Bool) (first second : Bool) (s : State) : Host.Outcome State Fault Refusal :=
  act (whenRunning (commitWrite bandH (b2n first + 2 * b2n second))) s

/-- START of a radio calibration: steps 2–9 on Band L's control register, the Band H steps on Band H's (R157, R170). -/
def execRflCalStart (bandH : Bool) (m : CalMeas) (s : State) : Host.Outcome State Fault Refusal :=
  act (whenRunning (calStart (if bandH then .bandH else .full) m)) s

/-- A receiver has drifted by 20 °C since its calibration (R158). -/
def execRecalPend (rx : Fin 3) (s : State) : Host.Outcome State Fault Refusal := act (whenRunning (recalDue rx.val)) s

/-- A synthesiser loses lock (R159); E2 goes on listening on what is left of Band L. -/
def execLockLoss (syn : Fin 4) (relocks : Bool) (s : State) : Host.Outcome State Fault Refusal :=
  act (whenRunning fun s => if synBand syn.val then lockLoss syn.val relocks s else sensorsListen (lockLoss syn.val relocks s)) s

/-- A failed synthesiser is retried (R159): in a gap. -/
def execFailoverRetry (syn : Fin 4) (locks : Bool) (s : State) : Host.Outcome State Fault Refusal :=
  act (whenRunning fun s => if retryLocks syn.val locks s && !synBand syn.val then sensorsListen (failRetry syn.val locks s) else failRetry syn.val locks s) s

/-- The tuner sweep after a MISMATCH (R155). -/
def execMismatch (best : Fin 16) (rl : Byte) (s : State) : Host.Outcome State Fault Refusal := act (whenRunning (tunerSweep best.val rl.toNat)) s

/-- A sniff window of Dusk (R160). -/
def execSniffPeriod (x : Sniff) (s : State) : Host.Outcome State Fault Refusal := act (sniffWindow x.level.toNat x.found) s

/-! ### Ranging -/

/-- E4 writes START into RNG_RBE_CFG (R173, R175); a reserved value is refused with WR_REJ (R199, R200). -/
def execRbeExchangeStart (w : Word) (s : State) : Host.Outcome State Fault Refusal := act (whenRunning (engWriteBy regWrite 4 0x40050020 w)) s

/-- The key under which an exchange confirms: the token key, or the session key of a coupling (R179, R180). -/
def rbeKey (x : RbeRun) (s : State) : Option Bytes × State :=
  match x.record.bind (tokOf s), x.unit with
  | some t, _ => tokenKey t s
  | none, some u => (sessionKey s u 2, s)
  | none, none => (none, s)

/-- An exchange that ran is over (R177–R179). -/
def rbeDone (m : RbeMeas) (s : State) : State :=
  match s.rng.rbe with
  | none => s
  | some x =>
    if !x.started then s
    else
      let k := rbeKey x s
      let r := rbeEvaluate k.1 m k.2
      rbeOver r.1.1 r.1.2 r.2

def execRbeExchangeDone (m : RbeMeas) (s : State) : Host.Outcome State Fault Refusal := act (whenRunning (rbeDone m)) s

/-- ABORT in RNG_CTRL (R179). -/
def execRngAbort (s : State) : Host.Outcome State Fault Refusal := act (whenRunning rbeStop) s

/-- LOAD in RNG_RBE_KEYLD (R174, R198): from E5 alone. -/
def execRngRbeKeyld (by_ : Requester) (s : State) : Host.Outcome State Fault Refusal :=
  act (whenRunning (regWrite (match by_ with | .engine k => some k | _ => none) 0x40050054 1)) s

/-- The block is armed as responder and answers an exchange: NONCE_R, F_IDX and NBITS of RBE_START, and the challenge bits it receives (R175, R180). -/
def execRespArm (unit : Fin 3) (x : RbeHeard) (s : State) : Host.Outcome State Fault Refusal :=
  act (whenRunning (cplRespond (unit.val + 1) x.nonce x.fIdx.val x.nbits.val x.chal)) s

/-- START in RNG_MCP_CFG (R182): the next token of the decision; without a decision no token is named. -/
def execMcpEventStart (s : State) : Host.Outcome State Fault Refusal := act (whenRunning fun s => regWrite (some 4) 0x40050080 (regGet s 0x40050080 ||| 4) s) s

/-- An MCP event ends (R184, R186). -/
def mcpDone (m : McpMeas) (fit : Option LfvFit) (s : State) : State :=
  match s.rng.mcp with
  | none => s
  | some r =>
    let k := match tokOf s r with
      | some t => tokenKey t s
      | none => (none, s)
    let x := mcpFinish k.1 m k.2
    decMcp r x.1 fit x.2

def execMcpEventDone (m : McpMeas) (fit : Option LfvFit) (s : State) : Host.Outcome State Fault Refusal := act (whenRunning (mcpDone m fit)) s

/-- A Channel Sounding procedure with a phone ends (R188): of the decision, or of a track. -/
def csDone (record : Nat) (m : CsMeas) (s : State) : State :=
  let asked := s.acc.decision.any (·.csPend.contains record) || s.rng.cs == some record
  if !asked then s
  else
    let x := csFinish m s
    if x.2.acc.decision.any (·.csPend.contains record) then decCs record x.1 x.2 else trackCs record x.1 x.2

def execCsProcedureDone (record : Fin 64) (m : CsMeas) (s : State) : Host.Outcome State Fault Refusal := act (whenRunning (csDone record.val m)) s

end Sys2Proof.Machine
end

