-- ==== Sys2Proof/Machine/SenseRows.lean ====
section
/-! DEFINITION. Meanings of the coupling, transport and sensing rows (chapters 6 and 7, R510, R513). -/
namespace Sys2Proof.Machine

/-- An effect of Noon and Dusk. -/
def whenAwake (f : State → State) (s : State) : State := if awake s then f s else s

/-! ### Coupling PDUs (R211) and the events of a coupling -/

/-- The link of a unit comes up (R208, R209); `long` says that it had been down for 10 s (R223). -/
def execCouplingLinkUp (unit : Fin 3) (j2497 long : Bool) (s : State) : Host.Outcome State Fault Refusal :=
  act (whenAwake (cplLinkUp (unit.val + 1) j2497 long)) s

/-- HELLO, TYPE 0x01 (R209, R212). -/
def execHello (p : CplPdu) (s : State) : Host.Outcome State Fault Refusal := act (whenAwake (cplReceive 0x01 p cplHello)) s

/-- CERT, TYPE 0x02 (R212, R215). -/
def execCert (p : CplPdu) (s : State) : Host.Outcome State Fault Refusal := act (whenAwake (cplReceive 0x02 p cplCert)) s

/-- KEYSHARE, TYPE 0x03 (R212). -/
def execKeyshare (p : CplPdu) (s : State) : Host.Outcome State Fault Refusal := act (whenAwake (cplReceive 0x03 p cplKeyshare)) s

/-- CONFIRM, TYPE 0x04 (R212). -/
def execConfirm (p : CplPdu) (s : State) : Host.Outcome State Fault Refusal := act (whenAwake (cplReceive 0x04 p cplConfirm)) s

/-- RBE_ARM, TYPE 0x05 (R180, R217). -/
def execRbeArm (p : CplPdu) (s : State) : Host.Outcome State Fault Refusal := act (whenAwake (cplReceive 0x05 p cplArm)) s

/-- RBE_RESULT, TYPE 0x06 (R217). -/
def execRbeResult (p : CplPdu) (s : State) : Host.Outcome State Fault Refusal := act (whenAwake (cplReceive 0x06 p cplResult)) s

/-- ROSTER, TYPE 0x07 (R218, R219). -/
def execRoster (p : CplPdu) (s : State) : Host.Outcome State Fault Refusal := act (whenAwake (cplReceive 0x07 p cplRoster)) s

/-- ROSTER_ACK, TYPE 0x08 (R218). -/
def execRosterAck (p : CplPdu) (s : State) : Host.Outcome State Fault Refusal := act (whenAwake (cplReceive 0x08 p cplRosterAck)) s

/-- DRIVER_GRANT, TYPE 0x09 (R71, R221). -/
def execDriverGrant (p : CplPdu) (s : State) : Host.Outcome State Fault Refusal := act (whenAwake (cplReceive 0x09 p cplGrant)) s

/-- DRIVER_LEFT, TYPE 0x0A (R221). -/
def execDriverLeft (p : CplPdu) (s : State) : Host.Outcome State Fault Refusal := act (whenAwake (cplReceive 0x0A p cplLeft)) s

/-- BYE, TYPE 0x0C (R217, R223). -/
def execBye (p : CplPdu) (s : State) : Host.Outcome State Fault Refusal := act (whenAwake (cplReceive 0x0C p cplBye)) s

/-- KEEPALIVE: every LOSS_MS / 4 (R223). -/
def execKeepalive (unit : Fin 3) (s : State) : Host.Outcome State Fault Refusal := act (whenAwake (cplKeepalive (unit.val + 1))) s

/-- STEP_TO: a PDU has been awaited for STEP_TO (R214). -/
def execStepTo (unit : Fin 3) (s : State) : Host.Outcome State Fault Refusal := act (whenAwake (cplStepTo (unit.val + 1))) s

/-- HELLO_WAIT_TIMEOUT: 3 s without a handshake (R209). -/
def execHelloWaitTimeout (unit : Fin 3) (s : State) : Host.Outcome State Fault Refusal := act (whenAwake (cplHelloWait (unit.val + 1))) s

/-- MEDIUM_FALLBACK: ISO 11992 stays down for 2 s (R208). -/
def execMediumFallback (unit : Fin 3) (s : State) : Host.Outcome State Fault Refusal := act (whenAwake (cplFallback (unit.val + 1))) s

/-- COUPLING_LINK_LOSS: no valid frame for LOSS_MS (R223). -/
def execCouplingLinkLoss (unit : Fin 3) (s : State) : Host.Outcome State Fault Refusal := act (whenAwake (cplLinkLoss (unit.val + 1))) s

/-- HOLD_EXPIRY: HOLD_S has passed (R223). -/
def execHoldExpiry (unit : Fin 3) (s : State) : Host.Outcome State Fault Refusal := act (whenAwake (cplHold (unit.val + 1))) s

/-- COUPLING_RESTART: a backoff is over (R225). -/
def execCouplingRestart (unit : Fin 3) (s : State) : Host.Outcome State Fault Refusal := act (whenAwake (cplRestart (unit.val + 1))) s

/-- GRANT_REPEAT_TIMEOUT: a track period without a repeated grant (R221). -/
def execGrantRepeatTimeout (s : State) : Host.Outcome State Fault Refusal := act (whenAwake grantMissed) s

/-! ### The coupling transport (R510, R513) -/

/-- A first or consecutive frame. -/
def execTpSegmentFrame (f : TpFrame) (s : State) : Host.Outcome State Fault Refusal := act (whenAwake (tpReceive f)) s

/-- An acknowledgement: SN of the next frame expected and STATUS. -/
def execTpAckFrame (unit : Fin 3) (plc : Bool) (sn : Fin 64) (status : Byte) (s : State) : Host.Outcome State Fault Refusal :=
  act (whenAwake (tpAcked (unit.val + 1) plc sn.val status.toNat)) s

/-- A gap between frames of one PDU. -/
def execTpGapTimeout (unit : Fin 3) (plc : Bool) (s : State) : Host.Outcome State Fault Refusal := act (whenAwake (tpGap (unit.val + 1) plc)) s

/-- No acknowledgement in time. -/
def execTpAckTimeout (unit : Fin 3) (plc : Bool) (s : State) : Host.Outcome State Fault Refusal := act (whenAwake (tpSilent (unit.val + 1) plc)) s

/-! ### Sensors -/

/-- SENSOR_STATE of a partner for one of its records (R253). -/
def execSensorState (unit : Fin 3) (record : Fin 128) (data : Bytes) (s : State) : Host.Outcome State Fault Refusal :=
  act (whenAwake (partnerState (unit.val + 1) record.val data)) s

/-- SENSOR_STATE goes out (R253). -/
def execSensorStateSend (record : Fin 128) (s : State) : Host.Outcome State Fault Refusal := act (whenAwake (publishSensor record.val)) s

/-- An S2 frame of one of these types, in the byte after the length byte (R140, R231). -/
def s2OfType (types : List Nat) (f : SnsFrame) (s : State) : State := if types.contains (byteAt f.air.data 1) then s2Frame f s else s

/-- A DATA frame, or a frame of a type that R231 does not list, which is dropped and counted. -/
def execData (f : SnsFrame) (s : State) : Host.Outcome State Fault Refusal :=
  act (whenAwake fun s => if [2, 3, 4].contains (byteAt f.air.data 1) then s else s2Frame f s) s

/-- An ALARM frame (R241); in Dusk it ends Dusk when critical. -/
def execAlarm (f : SnsFrame) (s : State) : Host.Outcome State Fault Refusal := act (whenAwake (s2OfType [3] f)) s

/-- A LOC frame (R243). -/
def execLoc (f : SnsFrame) (s : State) : Host.Outcome State Fault Refusal := act (whenAwake (s2OfType [2] f)) s

/-- An SREPORT (R248). -/
def execSreport (f : SnsFrame) (s : State) : Host.Outcome State Fault Refusal := act (whenAwake (s2OfType [4] f)) s

/-- An S1 frame (R235, R240). -/
def execS1Frame (f : SnsFrame) (s : State) : Host.Outcome State Fault Refusal := act (whenAwake (s1Frame f)) s

/-- The frame-counter table is committed (R234). -/
def execFcntCommit (rb : ReadBack) (s : State) : Host.Outcome State Fault Refusal := act (whenAwake (fcntCommit rb)) s

/-- Auto-location at step 7 of a coupling, with AUTO_LOC = 1 (R26, R246); a roster change starts it in the command that makes the change. -/
def locDue (s : State) : State :=
  let due := s.cpl.units.any fun c => c.state == .trusted && c.boundary == 6
  if due && s.sns.loc.isNone && regBit s 0x40070100 0 && byteAt s.sns.model 1 != 0 then locStart none none s else s

def execAutoLocationStart (s : State) : Host.Outcome State Fault Refusal := act (whenNoon locDue) s

/-- A wake has waited for LF for more than 2 s (R244). -/
def execWakeDeferTimeout (s : State) : Host.Outcome State Fault Refusal := act (whenAwake locDeferred) s

/-- Skipped aerials are tried again (R244). -/
def execWakeRetry (s : State) : Host.Outcome State Fault Refusal := act (whenAwake locRetry) s

/-- The stationary stage has lasted 20 s (R246). -/
def execStationaryTimeout (s : State) : Host.Outcome State Fault Refusal := act (whenAwake locTimeout) s

/-- The vehicle has stood for 30 s after a conflict (R249). -/
def execNextStop (s : State) : Host.Outcome State Fault Refusal := act (whenAwake locNextStop) s

/-- The learn window is over (R240). -/
def execLearnWindowEnd (s : State) : Host.Outcome State Fault Refusal := act (whenAwake learnEnd) s

/-- HIST_PERIOD has passed since a record's last entry (R237); not with HIST_PERIOD 0. -/
def histPeriod (r : Nat) (s : State) : State := if regFld s 0x40070100 12 8 = 0 then s else histAppend r s

def execHistPeriod (record : Fin 128) (s : State) : Host.Outcome State Fault Refusal := act (whenAwake (histPeriod record.val)) s

/-- STALE_S without an accepted frame (R250). -/
def execStale (record : Fin 128) (s : State) : Host.Outcome State Fault Refusal := act (whenAwake (staleRecord record.val)) s

end Sys2Proof.Machine
end

