-- ==== Sys2Proof/Machine/NvmRows.lean ====
section
/-! DEFINITION. Meanings of the register-access, key-store, non-volatile memory and OEM-service rows (chapters 8, 9, 20, R410, R412). -/
namespace Sys2Proof.Machine

/-! ### Register accesses by requester (R380, R400, R409, R410, R608) -/

/-- A register write as its requester may make it; one that it may not make changes nothing here, beyond WR_REJ for an engine (R604, R608). -/
def requestWrite (by_ : Requester) (a : Nat) (v : Word) (s : State) : State :=
  let host : Bool := awake s && (regSpan a 1).isNone && (hostReach s a).isNone && (hostValue s a v).isNone
  let engine := fun (k : Fin 12) => if running s && (engReach k true a v).isNone then engWriteBy regWrite k a v s else s
  match by_ with
  | .host =>
    if !host then s
    else if cfgWaits a then { s with link := { s.link with cfgPend := s.link.cfgPend ++ [(a, v, none)] } }
    else regWrite none a v s
  | .v1 =>
    if host && regBit s 0x40010014 0 && regBit s 0x40010014 1 && (blockOf a == 0x0B || blockOf a == 0x0F) then regWrite none a v s else s
  | .engine k => engine k
  | .debug => if s.ks.testRoot then engine 0 else s

/-- A register read as its requester may make it: an RC register clears but for an OEM engine (R410, R604). -/
def requestRead (by_ : Requester) (a : Nat) (s : State) : State :=
  let engine := fun (k : Fin 12) => if running s && regMapped a && (engReach k false a 0).isNone then regReadDone (isOem k) a s else s
  match by_ with
  | .host => if awake s && (regSpan a 1).isNone then regReadDone false a s else s
  | .v1 => if awake s && regBit s 0x40010014 0 && (regSpan a 1).isNone then regReadDone false a s else s
  | .engine k => engine k
  | .debug => if s.ks.testRoot then engine 0 else s

/-- A read of a register (R604). -/
def execRcRegisterRead (by_ : Requester) (addr : Nat) (s : State) : Host.Outcome State Fault Refusal := act (requestRead by_ addr) s

/-- A write of a register without a row of its own (R604). -/
def execRegisterWrite (by_ : Requester) (addr : Nat) (value : Word) (s : State) : Host.Outcome State Fault Refusal :=
  act (requestWrite by_ addr value) s

/-! ### Key store -/

/-- KST_CTRL.ZEROISE (R290, R296). -/
def execZeroise (by_ : Requester) (s : State) : Host.Outcome State Fault Refusal := act (requestWrite by_ 0x40080000 1) s

/-- KST_CTRL.CLOSE (R296). -/
def execClose (by_ : Requester) (s : State) : Host.Outcome State Fault Refusal := act (requestWrite by_ 0x40080000 2) s

/-- The oldest AUTH_NONCE is 120 s old (R267). -/
def nonceExpiry (s : State) : State := { s with ks := { s.ks with nonces := s.ks.nonces.tail } }

def execNonceExpiry (s : State) : Host.Outcome State Fault Refusal := act (whenRunning nonceExpiry) s

/-- The import session is 120 s old (R274): it ends, and its key leaves slot 11. -/
def sessionExpiry (s : State) : State :=
  if s.ks.session.isNone then s
  else
    let s := dropSlot 11 s
    { s with ks := { s.ks with session := none } }

def execImportSessionExpiry (s : State) : Host.Outcome State Fault Refusal := act (whenRunning sessionExpiry) s

/-! ### Commits, counters, patrol -/

/-- E8 runs: while it restarts the commit in flight stands, and it goes on from its two copies afterwards (R41). -/
def whileE8 (f : State → State) (s : State) : State := if (engOf s 8).restartDue then s else f s

/-- The commit in flight has read back (R302). -/
def execPageCommitDone (rb : ReadBack) (s : State) : Host.Outcome State Fault Refusal := act (whenRunning (whileE8 (commitDone rb))) s

/-- The counter slot being written has read back (R310). -/
def execCounterIncrementDone (s : State) : Host.Outcome State Fault Refusal := act (whenRunning (whileE8 incrDone)) s

/-- The patrol reads one counter (R311): a failing slot is counted, a counter with both failing is unreadable; nothing is rewritten. -/
def patrolCounter (page c : Nat) (s : State) : State :=
  let x := ctrOf s c
  let seen := fun (kind copy : Nat) (s : State) => regSet 0x4009001C (word (page + 2048 * copy + 4096 * kind)) s
  if x.a.ok && x.b.ok then s
  else if x.a.ok || x.b.ok then seen 1 (b2n x.a.ok) (regInc 0x40090010 16 s)
  else raiseNvm 4 (seen 3 0 (regInc 0x40090014 16 s))

/-- The patrol visits a page (R304, R311): a page under commit is skipped, a failed copy repaired, a page with no valid copy counted. -/
def patrolVisit (page : Nat) (s : State) : State :=
  if (inFlight s).any (fun c => !c.isAcceptance && c.addr / 256 == page) then s
  else if 1024 ≤ page ∧ page < 1028 then (List.range 16).foldl (fun s i => patrolCounter page (16 * (page - 1024) + i) s) s
  else if (metaOf s page).readable then repairPage page s
  else readFailed page s

/-- One visit of a round that SCAN has started, else of the running patrol (R304, R328); the last page of 1,920 ends the round (R330). -/
def patrolStep (s : State) : State :=
  match s.fer.scan with
  | some p =>
    let s := patrolVisit p s
    if p + 1 < 1920 then { s with fer := { s.fer with scan := some (p + 1) } } else raiseNvm 0x40 { s with fer := { s.fer with scan := none } }
  | none =>
    if !regBit s 0x40090000 0 then s
    else
      let s := patrolVisit s.fer.patrol s
      let n := s.fer.patrol + 1
      if n < 1920 then { s with fer := { s.fer with patrol := n } } else raiseNvm 0x40 { s with fer := { s.fer with patrol := 0 } }

def execPatrol (s : State) : Host.Outcome State Fault Refusal := act (whenRunning patrolStep) s

/-- NVM_CTRL.SCAN (R328): a round starts at page 0. -/
def execScan (s : State) : Host.Outcome State Fault Refusal := act (whenRunning fun s => { s with fer := { s.fer with scan := some 0 } }) s

/-- VSUP falls below 2.9 V (R324). -/
def execSundownSave (m : SaveMeas) (s : State) : Host.Outcome State Fault Refusal := act (sundown false m) s

/-- VSUP recovers after a save (R558). -/
def execVsupRecovery (s : State) : Host.Outcome State Fault Refusal := act vsupRecovery s

/-! ### OEM services (R412) -/

/-- E0 takes the oldest request of an OEM engine out of its inbound queue when `mine` says that it is of the service asked about; `f` serves it. A request
waits while a write of the same engine is still being committed. -/
def oemServe (k : Fin 12) (mine : Bytes → Bool) (f : Bytes → State → State) (s : State) : State :=
  if !isOem k || !workRuns s || s.fer.commits.any (·.kind == .oem k.val) then s
  else match (engOf s 0).inbox.find? (·.src == k.val) with
    | none => s
    | some m =>
      if !mine m.data then s
      else f m.data (unblock 0 (modEng 0 (fun e => { e with inbox := e.inbox.erase m }) s))

/-- OEM_EVENT (R353, R412); a code that R412 does not list answers BAD_OPCODE. -/
def oemEvent (k : Fin 12) (m : Bytes) (s : State) : State :=
  let code := byteAt m 0
  if code = 1 then oemReply k.val 1 0 [] (hostEvent 0x50 ([byte k.val, 0] ++ le 2 (m.length - 1) ++ m.tail) s)
  else oemReply k.val code stBadOpcode.toNat [] s

def execOemEvent (k : Fin 12) (data : Bytes) (s : State) : Host.Outcome State Fault Refusal :=
  act (oemServe k (fun m => if byteAt m 0 = 1 then m.tail == data else decide (byteAt m 0 ≠ 2 ∧ byteAt m 0 ≠ 3)) (oemEvent k)) s

/-- A page that NVM_WRITE reaches: USER, outside every region or in one that protects nothing. -/
def oemPage (s : State) (page : Nat) : Bool :=
  partOf page == 4 && (match regionOfPage s page with
    | none => true
    | some (_, r) => !(r.rpw || r.wpw || r.enc || r.image))

/-- Two pages lie in one page run: outside every region, or in the same region. -/
def sameRun (s : State) (p q : Nat) : Bool := partOf q == 4 && (regionOfPage s p).map (·.1) == (regionOfPage s q).map (·.1)

/-- NVM_WRITE (R412): a target that begins on a page it does not reach is DENIED; a range that leaves the page run, or empty data, is BAD_FIELD
(DEDUCED, log 88). -/
def oemWrite (k : Fin 12) (m : Bytes) (s : State) : State :=
  let addr := at_ m 1 4
  let data := m.drop 5
  let ps := pagesOf addr data.length
  if data = [] then oemReply k.val 2 stBadField.toNat [] s
  else if !oemPage s (addr / 256) then oemReply k.val 2 stDenied.toNat [] s
  else if !ps.all (sameRun s (addr / 256)) then oemReply k.val 2 stBadField.toNat [] s
  else startWrite (.oem k.val) addr data s

def execOemNvmWrite (k : Fin 12) (data : Bytes) (s : State) : Host.Outcome State Fault Refusal :=
  act (oemServe k (fun m => byteAt m 0 == 2 && m.tail == data) (oemWrite k)) s

/-- RTC_READ (R412): RTC seconds, 0 when unset. -/
def oemRtc (k : Fin 12) (_m : Bytes) (s : State) : State := oemReply k.val 3 0 (le 4 (rtcField s).toNat) s

def execRtcRead (k : Fin 12) (s : State) : Host.Outcome State Fault Refusal := act (oemServe k (fun m => byteAt m 0 == 3) (oemRtc k)) s

end Sys2Proof.Machine
end

