-- ==== Sys2Proof/Machine/IoRows.lean ====
section
/-! DEFINITION. Meanings of the timer, vehicle-bus, pin and crypto-accelerator rows (chapters 14, 15, 18, R465, R610–R616). -/
namespace Sys2Proof.Machine

/-! ### The TMB (R477–R490) -/

/-- START of a counter (R479). -/
def execCounterStart (c : Fin 8) (s : State) : Host.Outcome State Fault Refusal := act (whenRunning (ctStart c.val)) s

/-- STOP of a counter (R479). -/
def execCounterStop (c : Fin 8) (s : State) : Host.Outcome State Fault Refusal := act (whenRunning (ctStop c.val)) s

/-- COMMIT of a counter's prescaler and reload pair (R478). -/
def execTmbCommit (c : Fin 8) (s : State) : Host.Outcome State Fault Refusal := act (whenRunning (ctCommit c.val)) s

/-- A write of TMB_CNTc (R479, R490). -/
def execTmbCntWrite (c : Fin 8) (v : Word) (s : State) : Host.Outcome State Fault Refusal := act (whenRunning (ctWrite c.val v)) s

/-- A counter clock (R477, R478, R484). -/
def execCounterClock (c : Fin 8) (s : State) : Host.Outcome State Fault Refusal := act (whenRunning (ctClock c.val)) s

/-- A write of TMB_CMPu arms a compare unit (R481). -/
def execCompareArm (u : Fin 32) (v : Word) (s : State) : Host.Outcome State Fault Refusal := act (whenRunning (cmpWrite u.val v)) s

/-- DISARM (R481). -/
def execDisarm (u : Fin 32) (s : State) : Host.Outcome State Fault Refusal := act (whenRunning (unDisarm u.val)) s

/-- A unit is evaluated on its counter's count (R481, R483). -/
def execCompareFire (u : Fin 32) (s : State) : Host.Outcome State Fault Refusal := act (whenRunning (unEvaluate u.val)) s

/-- A capture edge (R488). -/
def execCapture (u : Fin 32) (rising : Bool) (s : State) : Host.Outcome State Fault Refusal := act (whenRunning (unCapture u.val rising)) s

/-- A read of TMB_CMPu ends CAP_FULL (R488). -/
def execCaptureRead (u : Fin 32) (s : State) : Host.Outcome State Fault Refusal := act (whenRunning (cmpRead u.val)) s

/-! ### CAN (R496–R505, R521) -/

/-- A received frame. -/
def execCanFrameRx (f : CanRx) (s : State) : Host.Outcome State Fault Refusal := act (whenRunning (canReceive f)) s

/-- The frame that wins arbitration has been sent (R501). -/
def execCanTxDone (bus : Fin 2) (s : State) : Host.Outcome State Fault Refusal := act (whenRunning (canSent bus.val)) s

/-- A host frame has waited for its TMO_MS (R501). -/
def execCanTxTimeout (bus : Fin 2) (b : Fin 16) (s : State) : Host.Outcome State Fault Refusal := act (whenRunning (canTimeout bus.val b.val)) s

/-- REQ of a transmit buffer (R501, R521). -/
def execReq (bus : Fin 2) (b : Fin 16) (s : State) : Host.Outcome State Fault Refusal := act (whenRunning (canReq bus.val b.val)) s

/-- ABORT of a transmit buffer (R521). -/
def execCanTxAbort (bus : Fin 2) (b : Fin 16) (s : State) : Host.Outcome State Fault Refusal := act (whenRunning (canAbort bus.val b.val)) s

/-- POP of a receive FIFO (R521): FIFO 0, or the host's FIFO 1. -/
def execCanRxPop (bus : Fin 2) (host : Bool) (s : State) : Host.Outcome State Fault Refusal := act (whenRunning (canPop bus.val host)) s

/-- COMMIT of bit timing (R497, R498); `frame` says that a frame is on the bus. -/
def execCanCommit (bus : Fin 2) (frame : Bool) (s : State) : Host.Outcome State Fault Refusal := act (whenRunning (canCommit bus.val frame)) s

/-- RESTART of a faulted controller (R504). -/
def execRestart (bus : Fin 2) (s : State) : Host.Outcome State Fault Refusal := act (whenRunning (canRestart bus.val)) s

/-- Bus-off (R504). -/
def execBusOff (bus : Fin 2) (s : State) : Host.Outcome State Fault Refusal := act (whenRunning (canBusOff bus.val)) s

/-- The recovery from bus-off is complete (R504). -/
def execBusOffRecovery (bus : Fin 2) (s : State) : Host.Outcome State Fault Refusal := act (whenRunning (canRecover bus.val)) s

/-- 11 recessive bits (R498). -/
def execIntegration (bus : Fin 2) (s : State) : Host.Outcome State Fault Refusal := act (whenRunning (canIntegrated bus.val)) s

/-- No speed frame in time (R509). -/
def execSpeedTimeout (s : State) : Host.Outcome State Fault Refusal := act (whenRunning speedTimeout) s

/-! ### J2497 (R511–R514, R525) -/

/-- A message received. -/
def execPlcMessageRx (f : PlcRx) (s : State) : Host.Outcome State Fault Refusal := act (whenRunning (plcReceive f)) s

/-- TX_REQ (R525). -/
def execTxReq (s : State) : Host.Outcome State Fault Refusal := act (whenRunning plcTxReq) s

/-- A message has waited 1.0 s for the bus (R513). -/
def execPlcAccessTimeout (s : State) : Host.Outcome State Fault Refusal := act (whenRunning plcTimeout) s

/-- POP of the receive queue (R525). -/
def execPlcRxPop (s : State) : Host.Outcome State Fault Refusal := act (whenRunning plcPop) s

/-- A queued message has been sent (R525). -/
def execPlcTxDone (s : State) : Host.Outcome State Fault Refusal := act (whenRunning plcSent) s

/-! ### LIN (R515–R517, R525) -/

/-- An effect of the LIN block at work: not in Dusk, where its schedule rests (R517). -/
def whenLin (f : State → State) (s : State) : State := if running s && s.power.state != .dusk then f s else s

/-- A frame slot of the schedule. -/
def execLinSlot (x : LinAnswer) (s : State) : Host.Outcome State Fault Refusal := act (whenLin (linSlot x)) s

/-- A commander's header in the responder role (R515). -/
def execLinHeader (pid : Byte) (sync : Bool) (x : LinAnswer) (s : State) : Host.Outcome State Fault Refusal :=
  act (whenLin (linHeader pid.toNat sync x)) s

/-- GO: one frame is asked for (R516, R525). -/
def execGo (s : State) : Host.Outcome State Fault Refusal := act (whenLin linGo) s

/-- A LIN wake-up (R517). -/
def execLinWake (s : State) : Host.Outcome State Fault Refusal := act (whenRunning linWake) s

/-! ### Bluetooth LE (R58, R518) -/

/-- A connection event of a phone: missed or kept; `lost` ends the connection at its supervision timeout. -/
def execConnectionEvent (record : Fin 64) (missed lost : Bool) (s : State) : Host.Outcome State Fault Refusal :=
  act (whenRunning (leEvent record.val missed lost)) s

/-- A phone connects, the device as central or as peripheral. -/
def execPhoneConnection (record : Fin 64) (central : Bool) (s : State) : Host.Outcome State Fault Refusal :=
  act (whenRunning (leConnect record.val central)) s

/-! ### GPIO (R610–R613) -/

/-- A write of GPIO_SET. -/
def execGpioSet (m : BitVec 24) (s : State) : Host.Outcome State Fault Refusal := act (whenRunning (gpioSet (word m.toNat))) s

/-- A write of GPIO_CLR. -/
def execGpioClr (m : BitVec 24) (s : State) : Host.Outcome State Fault Refusal := act (whenRunning (gpioClr (word m.toNat))) s

/-- A write of GPIO_TGL. -/
def execGpioTgl (m : BitVec 24) (s : State) : Host.Outcome State Fault Refusal := act (whenRunning (gpioTgl (word m.toNat))) s

/-- A write of GPIO_LOCK (R613). -/
def execGpioLock (m : BitVec 24) (s : State) : Host.Outcome State Fault Refusal := act (whenRunning (gpioLock (word m.toNat))) s

/-- A write of GPIO_PINn_CFG (R611, R612); a reserved value or a locked pin changes nothing. -/
def funcChange (n : Nat) (v : Word) (s : State) : State := if valueGood s (0x400F0000 + 4 * n) v then gpioCfg n v s else s

def execFuncChange (n : Fin 24) (v : Word) (s : State) : Host.Outcome State Fault Refusal := act (whenRunning (funcChange n.val v)) s

/-- A level arrives at a GPIO pin from outside (R611, R613): a pin that the device drives keeps its own. -/
def padEdge (n : Nat) (lv : Bool) (s : State) : State := if (pinDrive s n).isSome then s else padSet n lv s

def execGpioEdge (n : Fin 24) (level : Bool) (s : State) : Host.Outcome State Fault Refusal := act (padEdge n.val level) s

/-! ### The CRY accelerator (R614–R616) -/

/-- CRY_CTRL.RESEED. -/
def execReseed (s : State) : Host.Outcome State Fault Refusal := act (whenRunning cryReseed) s

/-- The start-up tests that CRY_CTRL.RETEST asks for end. -/
def execRetest (pass : Bool) (s : State) : Host.Outcome State Fault Refusal := act (whenRunning (retestEnd pass)) s

/-- A continuous health test fails: `kind` true for the repetition count test. -/
def execHealthFail (kind : Bool) (s : State) : Host.Outcome State Fault Refusal := act (whenRunning (healthFail kind)) s

/-- The command at the head of the accelerator's queue completes (R614). -/
def execCryCommandDone (code : Fin 16) (slot : Fin 64) (kind : Fin 16) (s : State) : Host.Outcome State Fault Refusal :=
  act (whenRunning (cryDone code.val slot.val kind.val)) s

end Sys2Proof.Machine
end

