-- ==== Sys2Proof/Machine/PowerRows.lean ====
section
/-! DEFINITION. Meanings of the tamper, injection and power rows (chapters 16 and 17). -/
namespace Sys2Proof.Machine

/-! ### Tamper and injections (R526–R538) -/

/-- The sensors that assert now, as a mask of R526. In Midnight Vigil watches instead (R531). -/
def tamperAssert (m : BitVec 7) (s : State) : State :=
  match s.power.state with
  | .midnight => vigilDetection m s
  | _ => tamperSensors m s

def execTamperSensorAssert (m : BitVec 7) (s : State) : Host.Outcome State Fault Refusal := act (tamperAssert m) s

/-- A detection in Midnight (R531). -/
def execVigilDetection (m : BitVec 7) (s : State) : Host.Outcome State Fault Refusal := act (vigilDetection m) s

/-- SAF_INJ_GO.GO (R536, R542): E0 starts the injection that SAF_INJ_CTRL names. -/
def execInjectGo (s : State) : Host.Outcome State Fault Refusal := act (whenRunning (fxInj 1)) s

/-- SAF_INJ_GO.WITHDRAW (R537, R542). -/
def execWithdraw (s : State) : Host.Outcome State Fault Refusal := act (whenRunning (fxInj 2)) s

/-- 100 µs after the INJECT reply (R536). -/
def execLiveInjectionAct (c : CutAt) (m : SaveMeas) (s : State) : Host.Outcome State Fault Refusal := act (whenRunning (injectAct c m)) s

/-- No use of the target within 1 s (R536). -/
def execInjectNotObserved (s : State) : Host.Outcome State Fault Refusal := act (whenRunning injectUnseen) s

/-! ### Power, clocks and resets (R545–R567) -/

/-- VSUP rises through the POR release (R556, R561). -/
def execPowerOn (c : CutAt) (s : State) : Host.Outcome State Fault Refusal := act (powerOn c) s

/-- One packet of the Dawn queue in BOOT_FAIL (R564): IDENTIFY answers OK, every other one HW_FAULT. -/
def bootRomServe (s : State) (h : HeldPacket) : State :=
  let room := maxReply h.opcode.toNat
  let r : ReplyTo := { h.ret with slot := s.link.nextSlot }
  let s := openSlot r room s
  releaseReplies h.ret.port (if h.opcode = 0x01 then cmdIdentify r s else refuse r stHwFault 0xFFFF 0 s)

/-- The XO is qualified (R549, R561); a Dawn that ends in BOOT_FAIL answers the Dawn queue (R564). -/
def dawnXo (m : DawnMeas) (s : State) : State :=
  let s := xoQualified m s
  if s.power.state = .bootFail then
    let s := s.link.dawnq.foldl bootRomServe s
    { s with link := { s.link with dawnq := [] } }
  else s

def execXoQualified (m : DawnMeas) (s : State) : Host.Outcome State Fault Refusal := act (dawnXo m) s

/-- The XO does not qualify within 10 ms (R549). -/
def execXoFail (s : State) : Host.Outcome State Fault Refusal := act xoFail s

/-- Dawn ends in Noon (R561). -/
def execNoon (s : State) : Host.Outcome State Fault Refusal := act dawnNoon s

/-- RST_N changes level (R560). -/
def execPin (low : Bool) (s : State) : Host.Outcome State Fault Refusal := act (pinRst low) s

/-- TEST_N changes level (R581). -/
def execTestNLow (low : Bool) (s : State) : Host.Outcome State Fault Refusal := act (pinTest low) s

/-- The clock monitor resets the device (R550). -/
def execClock (pll : Bool) (c : CutAt) (s : State) : Host.Outcome State Fault Refusal := act (clockReset false pll c) s

/-- The VCORE monitor resets the device (R547). -/
def execVmon (high : Bool) (c : CutAt) (s : State) : Host.Outcome State Fault Refusal := act (vmonReset false high c) s

/-- VDDIO falls below 1.50 V (R546). -/
def execVddioLow (s : State) : Host.Outcome State Fault Refusal := act (vddioDown false) s

/-- VDDIO qualifies (R546). -/
def execVddioQualified (hi : Bool) (s : State) : Host.Outcome State Fault Refusal := act (vddioUp hi) s

/-- The RTC crystal has stopped (R551). -/
def execRtcFail (s : State) : Host.Outcome State Fault Refusal := act rtcFail s

/-- SYS_RTC reaches SYS_RTC_ALARM (R554, R556). -/
def execRtcAlarm (s : State) : Host.Outcome State Fault Refusal := act rtcAlarm s

/-- A reset request on the debug port (R559). -/
def execDebugReset (s : State) : Host.Outcome State Fault Refusal := act debugReset s

/-- Dusk begins (R553). -/
def execDuskEntry (s : State) : Host.Outcome State Fault Refusal := act duskEntry s

/-- Dusk ends in Noon (R554): held packets in arrival order, the version 1 command that waited, the next trigger. -/
def duskExit (s : State) : State :=
  if s.power.state ≠ .dusk ∨ !s.power.exitDue then s
  else
    let s := leaveDusk s
    let l := s.link.held
    let s := l.foldl (fun s h => serveHeld h s) { s with link := { s.link with held := [] } }
    startQueued (v1Resume (sensorsListen (reportDusk s)))

def execDuskExit (s : State) : Host.Outcome State Fault Refusal := act duskExit s

/-- Midnight begins once the reply to POWER has been consumed or sent (R378, R555). -/
def execMidnightEntry (m : SaveMeas) (s : State) : Host.Outcome State Fault Refusal := act (midnightEntry m) s

/-- AUTO_MIDNIGHT (R555). -/
def execAutoMidnight (m : SaveMeas) (s : State) : Host.Outcome State Fault Refusal := act (autoMidnight m) s

/-- Midnight ends (R556). -/
def execWake (c : WakeCause) (s : State) : Host.Outcome State Fault Refusal := act (wake c) s

/-- A credential in the recovery session (R565). -/
def execRecoveryCredential (cred : Bytes) (s : State) : Host.Outcome State Fault Refusal := act (recoveryCredential cred) s

/-- A BOOT page is written in the recovery session (R565). -/
def execRecoveryBootWrite (page : Fin 576) (data : Bytes) (rb : ReadBack) (s : State) : Host.Outcome State Fault Refusal :=
  act (recoveryWrite page data rb) s

end Sys2Proof.Machine
end

