-- ==== Sys2Proof/Machine/Dispatch.lean ====
section
/-! DEFINITION. The dispatch: one arm per row of the table, each a single call of that row's meaning. -/
namespace Sys2Proof.Machine

/-- The effect of a command on everything but the queue. -/
def exec (i : Instr) (s : State) : Host.Outcome State Fault Refusal :=
  match i with
  | .nop p => Sys2Proof.Machine.execNop p s
  | .identify p => Sys2Proof.Machine.execIdentify p s
  | .status p => Sys2Proof.Machine.execStatus p s
  | .query p => Sys2Proof.Machine.execQuery p s
  | .collect p => Sys2Proof.Machine.execCollect p s
  | .reset p => Sys2Proof.Machine.execReset p s
  | .resetAfterReply => Sys2Proof.Machine.execResetAfterReply s
  | .power p => Sys2Proof.Machine.execPower p s
  | .configSet p => Sys2Proof.Machine.execConfigSet p s
  | .timeSet p => Sys2Proof.Machine.execTimeSet p s
  | .pendingList p => Sys2Proof.Machine.execPendingList p s
  | .regRead p => Sys2Proof.Machine.execRegRead p s
  | .regWrite p => Sys2Proof.Machine.execRegWrite p s
  | .regModify p => Sys2Proof.Machine.execRegModify p s
  | .memRead p => Sys2Proof.Machine.execMemRead p s
  | .memWrite p => Sys2Proof.Machine.execMemWrite p s
  | .nvmRead p => Sys2Proof.Machine.execNvmRead p s
  | .nvmWrite p => Sys2Proof.Machine.execNvmWrite p s
  | .nvmUnlock p => Sys2Proof.Machine.execNvmUnlock p s
  | .nvmLock p => Sys2Proof.Machine.execNvmLock p s
  | .nvmPassword p => Sys2Proof.Machine.execNvmPassword p s
  | .nvmRegions p => Sys2Proof.Machine.execNvmRegions p s
  | .counterRead p => Sys2Proof.Machine.execCounterRead p s
  | .authNonce p => Sys2Proof.Machine.execAuthNonce p s
  | .keyGen p => Sys2Proof.Machine.execKeyGen p s
  | .keyGenBlob p => Sys2Proof.Machine.execKeyGenBlob p s
  | .importSession p => Sys2Proof.Machine.execImportSession p s
  | .keyImport p => Sys2Proof.Machine.execKeyImport p s
  | .keyImportBlob p => Sys2Proof.Machine.execKeyImportBlob p s
  | .keyUpdate p => Sys2Proof.Machine.execKeyUpdate p s
  | .keyDestroy p => Sys2Proof.Machine.execKeyDestroy p s
  | .keyLoad p => Sys2Proof.Machine.execKeyLoad p s
  | .keyUnload p => Sys2Proof.Machine.execKeyUnload p s
  | .cmac p => Sys2Proof.Machine.execCmac p s
  | .cmacVerify p => Sys2Proof.Machine.execCmacVerify p s
  | .sign p => Sys2Proof.Machine.execSign p s
  | .ecdh p => Sys2Proof.Machine.execEcdh p s
  | .derive p => Sys2Proof.Machine.execDerive p s
  | .wrap p => Sys2Proof.Machine.execWrap p s
  | .epochInc p => Sys2Proof.Machine.execEpochInc p s
  | .attest p => Sys2Proof.Machine.execAttest p s
  | .debugMode p => Sys2Proof.Machine.execDebugMode p s
  | .anchorSet p => Sys2Proof.Machine.execAnchorSet p s
  | .couplingKey p => Sys2Proof.Machine.execCouplingKey p s
  | .couplingCert p => Sys2Proof.Machine.execCouplingCert p s
  | .immoKey p => Sys2Proof.Machine.execImmoKey p s
  | .lfTest p => Sys2Proof.Machine.execLfTest p s
  | .lfRetest p => Sys2Proof.Machine.execLfRetest p s
  | .lfOffsetCal p => Sys2Proof.Machine.execLfOffsetCal p s
  | .lfTable p => Sys2Proof.Machine.execLfTable p s
  | .radioCal p => Sys2Proof.Machine.execRadioCal p s
  | .radioTx p => Sys2Proof.Machine.execRadioTx p s
  | .radioSave p => Sys2Proof.Machine.execRadioSave p s
  | .modelSet p => Sys2Proof.Machine.execModelSet p s
  | .modelGet p => Sys2Proof.Machine.execModelGet p s
  | .range p => Sys2Proof.Machine.execRange p s
  | .rangeSave p => Sys2Proof.Machine.execRangeSave p s
  | .decide p => Sys2Proof.Machine.execDecide p s
  | .decisionLog p => Sys2Proof.Machine.execDecisionLog p s
  | .enrol p => Sys2Proof.Machine.execEnrol p s
  | .revoke p => Sys2Proof.Machine.execRevoke p s
  | .recordState p => Sys2Proof.Machine.execRecordState p s
  | .override p => Sys2Proof.Machine.execOverride p s
  | .trlOwnList p => Sys2Proof.Machine.execTrlOwnList p s
  | .lockedAns p => Sys2Proof.Machine.execLockedAns p s
  | .endCurfew p => Sys2Proof.Machine.execEndCurfew p s
  | .clearSloFault p => Sys2Proof.Machine.execClearSloFault p s
  | .profilePolicy p => Sys2Proof.Machine.execProfilePolicy p s
  | .enrolLimit p => Sys2Proof.Machine.execEnrolLimit p s
  | .tokenRead p => Sys2Proof.Machine.execTokenRead p s
  | .denyRead p => Sys2Proof.Machine.execDenyRead p s
  | .couple p => Sys2Proof.Machine.execCouple p s
  | .decouple p => Sys2Proof.Machine.execDecouple p s
  | .couplingQuery p => Sys2Proof.Machine.execCouplingQuery p s
  | .partnerList p => Sys2Proof.Machine.execPartnerList p s
  | .rosterAdd p => Sys2Proof.Machine.execRosterAdd p s
  | .rosterRemove p => Sys2Proof.Machine.execRosterRemove p s
  | .wheelSet p => Sys2Proof.Machine.execWheelSet p s
  | .locate p => Sys2Proof.Machine.execLocate p s
  | .wheelModelSet p => Sys2Proof.Machine.execWheelModelSet p s
  | .s1Learn p => Sys2Proof.Machine.execS1Learn p s
  | .sensorRead p => Sys2Proof.Machine.execSensorRead p s
  | .historyRead p => Sys2Proof.Machine.execHistoryRead p s
  | .sensorSet p => Sys2Proof.Machine.execSensorSet p s
  | .canTx p => Sys2Proof.Machine.execCanTx p s
  | .canRx p => Sys2Proof.Machine.execCanRx p s
  | .plcTx p => Sys2Proof.Machine.execPlcTx p s
  | .linXfer p => Sys2Proof.Machine.execLinXfer p s
  | .busSave p => Sys2Proof.Machine.execBusSave p s
  | .engLoad p => Sys2Proof.Machine.execEngLoad p s
  | .engCtrl p => Sys2Proof.Machine.execEngCtrl p s
  | .mbxWrite p => Sys2Proof.Machine.execMbxWrite p s
  | .mbxRead p => Sys2Proof.Machine.execMbxRead p s
  | .ucodeWrite p => Sys2Proof.Machine.execUcodeWrite p s
  | .tmrRead p => Sys2Proof.Machine.execTmrRead p s
  | .tmrArm p => Sys2Proof.Machine.execTmrArm p s
  | .tmrCfg p => Sys2Proof.Machine.execTmrCfg p s
  | .faultRead p => Sys2Proof.Machine.execFaultRead p s
  | .inject p => Sys2Proof.Machine.execInject p s
  | .tamperClear p => Sys2Proof.Machine.execTamperClear p s
  | .readOnlyTransaction first clocked => Sys2Proof.Machine.execReadOnlyTransaction first clocked s
  | .replayTransaction clocked => Sys2Proof.Machine.execReplayTransaction clocked s
  | .clash => Sys2Proof.Machine.execClash s
  | .uartGapTimeout op p => Sys2Proof.Machine.execUartGapTimeout op p s
  | .uartCfgWrite => Sys2Proof.Machine.execUartCfgWrite s
  | .hifCfgWrite => Sys2Proof.Machine.execHifCfgWrite s
  | .evtLost => Sys2Proof.Machine.execEvtLost s
  | .completeRequeue => Sys2Proof.Machine.execCompleteRequeue s
  | .dawnQueueProcess => Sys2Proof.Machine.execDawnQueueProcess s
  | .v1Nop f => Sys2Proof.Machine.execV1Nop f s
  | .ident f => Sys2Proof.Machine.execIdent f s
  | .v1Status f => Sys2Proof.Machine.execV1Status f s
  | .softReset f => Sys2Proof.Machine.execSoftReset f s
  | .v1RegRead f => Sys2Proof.Machine.execV1RegRead f s
  | .v1RegWrite f => Sys2Proof.Machine.execV1RegWrite f s
  | .eeRead f => Sys2Proof.Machine.execEeRead f s
  | .eeWrite f => Sys2Proof.Machine.execEeWrite f s
  | .t2Poll f => Sys2Proof.Machine.execT2Poll f s
  | .t2Result f => Sys2Proof.Machine.execT2Result f s
  | .s1Count f => Sys2Proof.Machine.execS1Count f s
  | .s1Read f => Sys2Proof.Machine.execS1Read f s
  | .s1Add f => Sys2Proof.Machine.execS1Add f s
  | .s1Remove f => Sys2Proof.Machine.execS1Remove f s
  | .v1LfTest f => Sys2Proof.Machine.execV1LfTest f s
  | .j12Begin f => Sys2Proof.Machine.execJ12Begin f s
  | .j12Data f => Sys2Proof.Machine.execJ12Data f s
  | .j12End f => Sys2Proof.Machine.execJ12End f s
  | .v1MbxWrite f => Sys2Proof.Machine.execV1MbxWrite f s
  | .v1MbxRead f => Sys2Proof.Machine.execV1MbxRead f s
  | .v1ShortTransaction => Sys2Proof.Machine.execV1ShortTransaction s
  | .acceptedWorkStart => Sys2Proof.Machine.execAcceptedWorkStart s
  | .acceptedWorkStep tagged seq m => Sys2Proof.Machine.execAcceptedWorkStep tagged seq m s
  | .wakePinEdge n => Sys2Proof.Machine.execWakePinEdge n s
  | .startRequestFrame f => Sys2Proof.Machine.execStartRequestFrame f s
  | .presenceFrame data => Sys2Proof.Machine.execPresenceFrame data s
  | .duskBeacon => Sys2Proof.Machine.execDuskBeacon s
  | .queuedTriggerStart => Sys2Proof.Machine.execQueuedTriggerStart s
  | .t3Reply f fit => Sys2Proof.Machine.execT3Reply f fit s
  | .t2Reply f => Sys2Proof.Machine.execT2Reply f s
  | .phoneAnswer record answer => Sys2Proof.Machine.execPhoneAnswer record answer s
  | .winDone rx energy => Sys2Proof.Machine.execWinDone rx energy s
  | .curfewEnd => Sys2Proof.Machine.execCurfewEnd s
  | .releaseRefreshTimeout => Sys2Proof.Machine.execReleaseRefreshTimeout s
  | .releaseDurationEnd => Sys2Proof.Machine.execReleaseDurationEnd s
  | .releaseTrack => Sys2Proof.Machine.execReleaseTrack s
  | .releaseReadback a b => Sys2Proof.Machine.execReleaseReadback a b s
  | .idleReadback a b => Sys2Proof.Machine.execIdleReadback a b s
  | .periodMonitor us => Sys2Proof.Machine.execPeriodMonitor us s
  | .releaseSelfTest reads => Sys2Proof.Machine.execReleaseSelfTest reads s
  | .immoChallenge f => Sys2Proof.Machine.execImmoChallenge f s
  | .enrolAttempt => Sys2Proof.Machine.execEnrolAttempt s
  | .enrolTimeout => Sys2Proof.Machine.execEnrolTimeout s
  | .lfGo src => Sys2Proof.Machine.execLfGo src s
  | .lfAbort => Sys2Proof.Machine.execLfAbort s
  | .lfFlush => Sys2Proof.Machine.execLfFlush s
  | .lfxFifoData w => Sys2Proof.Machine.execLfxFifoData w s
  | .lfFifoEntry m => Sys2Proof.Machine.execLfFifoEntry m s
  | .lfxCommit w => Sys2Proof.Machine.execLfxCommit w s
  | .lfxEaccReq w => Sys2Proof.Machine.execLfxEaccReq w s
  | .eaccBin tj pcore => Sys2Proof.Machine.execEaccBin tj pcore s
  | .vlfWindowChange mv => Sys2Proof.Machine.execVlfWindowChange mv s
  | .lfShort ch toVlf => Sys2Proof.Machine.execLfShort ch toVlf s
  | .lfOpenRetest ch peak tj => Sys2Proof.Machine.execLfOpenRetest ch peak tj s
  | .lfShortClear ch flags found => Sys2Proof.Machine.execLfShortClear ch flags found s
  | .txDescriptorQueue bandH d ctl => Sys2Proof.Machine.execTxDescriptorQueue bandH d ctl s
  | .txDescriptorStart bandH d settled tuned => Sys2Proof.Machine.execTxDescriptorStart bandH d settled tuned s
  | .txFrameEnd bandH rl => Sys2Proof.Machine.execTxFrameEnd bandH rl s
  | .rxFrame f => Sys2Proof.Machine.execRxFrame f s
  | .rxWindowOpen rx => Sys2Proof.Machine.execRxWindowOpen rx s
  | .rflCommit bandH first second => Sys2Proof.Machine.execRflCommit bandH first second s
  | .rflCalStart bandH m => Sys2Proof.Machine.execRflCalStart bandH m s
  | .recalPend rx => Sys2Proof.Machine.execRecalPend rx s
  | .lockLoss syn relocks => Sys2Proof.Machine.execLockLoss syn relocks s
  | .failoverRetry syn locks => Sys2Proof.Machine.execFailoverRetry syn locks s
  | .mismatch best rl => Sys2Proof.Machine.execMismatch best rl s
  | .sniffPeriod x => Sys2Proof.Machine.execSniffPeriod x s
  | .rbeExchangeStart w => Sys2Proof.Machine.execRbeExchangeStart w s
  | .rbeExchangeDone m => Sys2Proof.Machine.execRbeExchangeDone m s
  | .rngAbort => Sys2Proof.Machine.execRngAbort s
  | .rngRbeKeyld by_ => Sys2Proof.Machine.execRngRbeKeyld by_ s
  | .respArm unit x => Sys2Proof.Machine.execRespArm unit x s
  | .mcpEventStart => Sys2Proof.Machine.execMcpEventStart s
  | .mcpEventDone m fit => Sys2Proof.Machine.execMcpEventDone m fit s
  | .csProcedureDone record m => Sys2Proof.Machine.execCsProcedureDone record m s
  | .couplingLinkUp unit j2497 long => Sys2Proof.Machine.execCouplingLinkUp unit j2497 long s
  | .hello p => Sys2Proof.Machine.execHello p s
  | .cert p => Sys2Proof.Machine.execCert p s
  | .keyshare p => Sys2Proof.Machine.execKeyshare p s
  | .confirm p => Sys2Proof.Machine.execConfirm p s
  | .rbeArm p => Sys2Proof.Machine.execRbeArm p s
  | .rbeResult p => Sys2Proof.Machine.execRbeResult p s
  | .roster p => Sys2Proof.Machine.execRoster p s
  | .rosterAck p => Sys2Proof.Machine.execRosterAck p s
  | .driverGrant p => Sys2Proof.Machine.execDriverGrant p s
  | .driverLeft p => Sys2Proof.Machine.execDriverLeft p s
  | .keepalive unit => Sys2Proof.Machine.execKeepalive unit s
  | .bye p => Sys2Proof.Machine.execBye p s
  | .stepTo unit => Sys2Proof.Machine.execStepTo unit s
  | .helloWaitTimeout unit => Sys2Proof.Machine.execHelloWaitTimeout unit s
  | .mediumFallback unit => Sys2Proof.Machine.execMediumFallback unit s
  | .couplingLinkLoss unit => Sys2Proof.Machine.execCouplingLinkLoss unit s
  | .holdExpiry unit => Sys2Proof.Machine.execHoldExpiry unit s
  | .couplingRestart unit => Sys2Proof.Machine.execCouplingRestart unit s
  | .grantRepeatTimeout => Sys2Proof.Machine.execGrantRepeatTimeout s
  | .tpSegmentFrame f => Sys2Proof.Machine.execTpSegmentFrame f s
  | .tpAckFrame unit plc sn status => Sys2Proof.Machine.execTpAckFrame unit plc sn status s
  | .tpGapTimeout unit plc => Sys2Proof.Machine.execTpGapTimeout unit plc s
  | .tpAckTimeout unit plc => Sys2Proof.Machine.execTpAckTimeout unit plc s
  | .sensorState unit record data => Sys2Proof.Machine.execSensorState unit record data s
  | .sensorStateSend record => Sys2Proof.Machine.execSensorStateSend record s
  | .data f => Sys2Proof.Machine.execData f s
  | .alarm f => Sys2Proof.Machine.execAlarm f s
  | .loc f => Sys2Proof.Machine.execLoc f s
  | .sreport f => Sys2Proof.Machine.execSreport f s
  | .s1Frame f => Sys2Proof.Machine.execS1Frame f s
  | .fcntCommit rb => Sys2Proof.Machine.execFcntCommit rb s
  | .autoLocationStart => Sys2Proof.Machine.execAutoLocationStart s
  | .wakeDeferTimeout => Sys2Proof.Machine.execWakeDeferTimeout s
  | .wakeRetry => Sys2Proof.Machine.execWakeRetry s
  | .stationaryTimeout => Sys2Proof.Machine.execStationaryTimeout s
  | .learnWindowEnd => Sys2Proof.Machine.execLearnWindowEnd s
  | .histPeriod record => Sys2Proof.Machine.execHistPeriod record s
  | .stale record => Sys2Proof.Machine.execStale record s
  | .zeroise by_ => Sys2Proof.Machine.execZeroise by_ s
  | .close by_ => Sys2Proof.Machine.execClose by_ s
  | .nonceExpiry => Sys2Proof.Machine.execNonceExpiry s
  | .importSessionExpiry => Sys2Proof.Machine.execImportSessionExpiry s
  | .pageCommitDone rb => Sys2Proof.Machine.execPageCommitDone rb s
  | .counterIncrementDone => Sys2Proof.Machine.execCounterIncrementDone s
  | .patrol => Sys2Proof.Machine.execPatrol s
  | .scan => Sys2Proof.Machine.execScan s
  | .sundownSave m => Sys2Proof.Machine.execSundownSave m s
  | .vsupRecovery => Sys2Proof.Machine.execVsupRecovery s
  | .oemEvent k data => Sys2Proof.Machine.execOemEvent k data s
  | .oemNvmWrite k data => Sys2Proof.Machine.execOemNvmWrite k data s
  | .rtcRead k => Sys2Proof.Machine.execRtcRead k s
  | .nopInstruction o => Sys2Proof.Machine.execNopInstruction o s
  | .siesta o => Sys2Proof.Machine.execSiesta o s
  | .trap o => Sys2Proof.Machine.execTrap o s
  | .reti o => Sys2Proof.Machine.execReti o s
  | .fence o => Sys2Proof.Machine.execFence o s
  | .sync o => Sys2Proof.Machine.execSync o s
  | .mfs o => Sys2Proof.Machine.execMfs o s
  | .mts o => Sys2Proof.Machine.execMts o s
  | .mov o => Sys2Proof.Machine.execMov o s
  | .movi o => Sys2Proof.Machine.execMovi o s
  | .add o => Sys2Proof.Machine.execAdd o s
  | .sub o => Sys2Proof.Machine.execSub o s
  | .adc o => Sys2Proof.Machine.execAdc o s
  | .sbc o => Sys2Proof.Machine.execSbc o s
  | .and o => Sys2Proof.Machine.execAnd o s
  | .or o => Sys2Proof.Machine.execOr o s
  | .xor o => Sys2Proof.Machine.execXor o s
  | .cmp o => Sys2Proof.Machine.execCmp o s
  | .tst o => Sys2Proof.Machine.execTst o s
  | .addi o => Sys2Proof.Machine.execAddi o s
  | .neg o => Sys2Proof.Machine.execNeg o s
  | .not o => Sys2Proof.Machine.execNot o s
  | .abs o => Sys2Proof.Machine.execAbs o s
  | .clz o => Sys2Proof.Machine.execClz o s
  | .lsl o => Sys2Proof.Machine.execLsl o s
  | .lsr o => Sys2Proof.Machine.execLsr o s
  | .asr o => Sys2Proof.Machine.execAsr o s
  | .ror o => Sys2Proof.Machine.execRor o s
  | .mul o => Sys2Proof.Machine.execMul o s
  | .mulh o => Sys2Proof.Machine.execMulh o s
  | .mulhu o => Sys2Proof.Machine.execMulhu o s
  | .div o => Sys2Proof.Machine.execDiv o s
  | .rem o => Sys2Proof.Machine.execRem o s
  | .ld o => Sys2Proof.Machine.execLd o s
  | .st o => Sys2Proof.Machine.execSt o s
  | .ldx o => Sys2Proof.Machine.execLdx o s
  | .stx o => Sys2Proof.Machine.execStx o s
  | .push o => Sys2Proof.Machine.execPush o s
  | .pop o => Sys2Proof.Machine.execPop o s
  | .bcc o => Sys2Proof.Machine.execBcc o s
  | .jmp o => Sys2Proof.Machine.execJmp o s
  | .call o => Sys2Proof.Machine.execCall o s
  | .ret o => Sys2Proof.Machine.execRet o s
  | .stMove o => Sys2Proof.Machine.execStMove o s
  | .bset o => Sys2Proof.Machine.execBset o s
  | .bclr o => Sys2Proof.Machine.execBclr o s
  | .btst o => Sys2Proof.Machine.execBtst o s
  | .wait o => Sys2Proof.Machine.execWait o s
  | .signal o => Sys2Proof.Machine.execSignal o s
  | .evclr o => Sys2Proof.Machine.execEvclr o s
  | .evrd o => Sys2Proof.Machine.execEvrd o s
  | .cryi o => Sys2Proof.Machine.execCryi o s
  | .crys o => Sys2Proof.Machine.execCrys o s
  | .movs o upto => Sys2Proof.Machine.execMovs o upto s
  | .fills o upto => Sys2Proof.Machine.execFills o upto s
  | .cmps o upto => Sys2Proof.Machine.execCmps o upto s
  | .scans o upto => Sys2Proof.Machine.execScans o upto s
  | .crcs o upto => Sys2Proof.Machine.execCrcs o upto s
  | .chku o => Sys2Proof.Machine.execChku o s
  | .chks o => Sys2Proof.Machine.execChks o s
  | .chklen o => Sys2Proof.Machine.execChklen o s
  | .udn o => Sys2Proof.Machine.execUdn o s
  | .eventEntry k => Sys2Proof.Machine.execEventEntry k s
  | .wdtFirstExpiry k => Sys2Proof.Machine.execWdtFirstExpiry k s
  | .wdtSecondExpiry k => Sys2Proof.Machine.execWdtSecondExpiry k s
  | .engineRestart k => Sys2Proof.Machine.execEngineRestart k s
  | .engineRunAction k => Sys2Proof.Machine.execEngineRunAction k s
  | .engineSiestaAction k => Sys2Proof.Machine.execEngineSiestaAction k s
  | .engineResetAction k => Sys2Proof.Machine.execEngineResetAction k s
  | .wdkick k v => Sys2Proof.Machine.execWdkick k v s
  | .send k => Sys2Proof.Machine.execSend k s
  | .mbxPop k => Sys2Proof.Machine.execMbxPop k s
  | .ucLo k v => Sys2Proof.Machine.execUcLo k v s
  | .counterStart c => Sys2Proof.Machine.execCounterStart c s
  | .counterStop c => Sys2Proof.Machine.execCounterStop c s
  | .tmbCommit c => Sys2Proof.Machine.execTmbCommit c s
  | .tmbCntWrite c v => Sys2Proof.Machine.execTmbCntWrite c v s
  | .compareArm u v => Sys2Proof.Machine.execCompareArm u v s
  | .disarm u => Sys2Proof.Machine.execDisarm u s
  | .compareFire u => Sys2Proof.Machine.execCompareFire u s
  | .capture u rising => Sys2Proof.Machine.execCapture u rising s
  | .captureRead u => Sys2Proof.Machine.execCaptureRead u s
  | .canFrameRx f => Sys2Proof.Machine.execCanFrameRx f s
  | .canTxDone bus => Sys2Proof.Machine.execCanTxDone bus s
  | .canTxTimeout bus b => Sys2Proof.Machine.execCanTxTimeout bus b s
  | .req bus b => Sys2Proof.Machine.execReq bus b s
  | .canTxAbort bus b => Sys2Proof.Machine.execCanTxAbort bus b s
  | .canRxPop bus host => Sys2Proof.Machine.execCanRxPop bus host s
  | .canCommit bus frame => Sys2Proof.Machine.execCanCommit bus frame s
  | .restart bus => Sys2Proof.Machine.execRestart bus s
  | .busOff bus => Sys2Proof.Machine.execBusOff bus s
  | .busOffRecovery bus => Sys2Proof.Machine.execBusOffRecovery bus s
  | .speedTimeout => Sys2Proof.Machine.execSpeedTimeout s
  | .plcMessageRx f => Sys2Proof.Machine.execPlcMessageRx f s
  | .txReq => Sys2Proof.Machine.execTxReq s
  | .plcAccessTimeout => Sys2Proof.Machine.execPlcAccessTimeout s
  | .plcRxPop => Sys2Proof.Machine.execPlcRxPop s
  | .linSlot x => Sys2Proof.Machine.execLinSlot x s
  | .go => Sys2Proof.Machine.execGo s
  | .linWake => Sys2Proof.Machine.execLinWake s
  | .tamperSensorAssert m => Sys2Proof.Machine.execTamperSensorAssert m s
  | .vigilDetection m => Sys2Proof.Machine.execVigilDetection m s
  | .injectGo => Sys2Proof.Machine.execInjectGo s
  | .withdraw => Sys2Proof.Machine.execWithdraw s
  | .liveInjectionAct c m => Sys2Proof.Machine.execLiveInjectionAct c m s
  | .injectNotObserved => Sys2Proof.Machine.execInjectNotObserved s
  | .powerOn c => Sys2Proof.Machine.execPowerOn c s
  | .xoQualified m => Sys2Proof.Machine.execXoQualified m s
  | .xoFail => Sys2Proof.Machine.execXoFail s
  | .noon => Sys2Proof.Machine.execNoon s
  | .pin low => Sys2Proof.Machine.execPin low s
  | .testNLow low => Sys2Proof.Machine.execTestNLow low s
  | .clock pll c => Sys2Proof.Machine.execClock pll c s
  | .vmon high c => Sys2Proof.Machine.execVmon high c s
  | .vddioLow => Sys2Proof.Machine.execVddioLow s
  | .rtcFail => Sys2Proof.Machine.execRtcFail s
  | .rtcAlarm => Sys2Proof.Machine.execRtcAlarm s
  | .duskEntry => Sys2Proof.Machine.execDuskEntry s
  | .duskExit => Sys2Proof.Machine.execDuskExit s
  | .midnightEntry m => Sys2Proof.Machine.execMidnightEntry m s
  | .autoMidnight m => Sys2Proof.Machine.execAutoMidnight m s
  | .wake c => Sys2Proof.Machine.execWake c s
  | .recoveryCredential cred => Sys2Proof.Machine.execRecoveryCredential cred s
  | .recoveryBootWrite page data rb => Sys2Proof.Machine.execRecoveryBootWrite page data rb s
  | .gpioSet m => Sys2Proof.Machine.execGpioSet m s
  | .gpioClr m => Sys2Proof.Machine.execGpioClr m s
  | .gpioTgl m => Sys2Proof.Machine.execGpioTgl m s
  | .gpioLock m => Sys2Proof.Machine.execGpioLock m s
  | .funcChange n v => Sys2Proof.Machine.execFuncChange n v s
  | .gpioEdge n level => Sys2Proof.Machine.execGpioEdge n level s
  | .reseed => Sys2Proof.Machine.execReseed s
  | .retest pass => Sys2Proof.Machine.execRetest pass s
  | .healthFail kind => Sys2Proof.Machine.execHealthFail kind s
  | .rcRegisterRead by_ addr => Sys2Proof.Machine.execRcRegisterRead by_ addr s
  | .registerWrite by_ addr value => Sys2Proof.Machine.execRegisterWrite by_ addr value s
  | .undefinedOpcode op x => Sys2Proof.Machine.execUndefinedOpcode op x s
  | .stopBitError => Sys2Proof.Machine.execStopBitError s
  | .und o => Sys2Proof.Machine.execUnd o s
  | .debugReset => Sys2Proof.Machine.execDebugReset s
  | .vddioQualified hi => Sys2Proof.Machine.execVddioQualified hi s
  | .counterClock c => Sys2Proof.Machine.execCounterClock c s
  | .cryCommandDone code slot kind => Sys2Proof.Machine.execCryCommandDone code slot kind s
  | .plcTxDone => Sys2Proof.Machine.execPlcTxDone s
  | .integration bus => Sys2Proof.Machine.execIntegration bus s
  | .connectionEvent record missed lost => Sys2Proof.Machine.execConnectionEvent record missed lost s
  | .phoneConnection record central => Sys2Proof.Machine.execPhoneConnection record central s
  | .linHeader pid sync x => Sys2Proof.Machine.execLinHeader pid sync x s
  | .nextStop => Sys2Proof.Machine.execNextStop s
  | .grantLapse => Sys2Proof.Machine.execGrantLapse s

end Sys2Proof.Machine
end

