-- ==== Sys2Proof/Machine/Step.lean ====
section
/-! DEFINITION. One step: the command at the front of the queue, or one tick of CLK_US on an empty queue. -/
namespace Sys2Proof.Machine

/-- The queue without its front command. -/
def State.rest (s : State) : State := { s with pending := s.pending.tail }

/-- One step of the block. On an empty queue one tick of CLK_US passes (DESIGN CHOICE, log 2). -/
def step (s : State) : Host.Outcome State Fault Refusal :=
  match s.pending with
  | c :: _ => exec c s.rest
  | [] => act tick s

/-- The state with the command that a word spells at the front of its queue; no word spells one. -/
def State.withFetchWord (s : State) (nbits w : Nat) : State :=
  match decodeTableWord nbits w with
  | some c => { s with pending := c :: s.pending }
  | none => s

end Sys2Proof.Machine
end

