-- ==== Sys2Proof/Safety.lean ====
section
/-! DEFINITION. What counts as a safe run: one that stops nowhere, with locked release outputs unless a release stands, with the output lines as the
queues have them, and with byte memories in canonical form. -/
namespace Sys2Proof.Machine

/-- Every byte memory is in its one canonical form. -/
def State.memWf (s : State) : Bool :=
  Memory.wf s.sram && Memory.wf s.fer.mem && Memory.wf s.fer.image && s.eng.toList.all fun e => Memory.wf e.scratch

/-- HIRQ_N stands at the level that the queue of HCS0_N, the version 1 reply and HIF_CFG ask for (R347). -/
def State.hirqOk (s : State) : Bool := s.link.hirq == hirqLevel s

/-- No answered command stands at the head of a port's order: its reply has gone to the output queue (R337). -/
def State.ordered (s : State) : Bool :=
  [s.link.hcs0, s.link.uart].all fun p => match p.opn with
    | [] => true
    | w :: _ => w.pkt.isNone

/-- Nothing waits on a UART that sends (R345, R365). -/
def State.uartSent (s : State) : Bool := !regBit s 0x40010000 1 || s.link.uart.outq.isEmpty

/-- What every step leaves behind, whatever it met; no read-back of a command is left for the commits of the next. -/
def State.LinkInv (s : State) : Prop := s.hirqOk = true ∧ s.ordered = true ∧ s.uartSent = true ∧ s.fer.reads = []

/-- A step answers a next state. -/
def Answers (x : Host.Outcome State Fault Refusal) : Prop := ∃ t, x = .next t

/-! ### What statements about host commands speak of -/

/-- Where the reply of a packet goes: the next slot, the packet's port, opcode, tag and flags (R337). -/
def replyTo (op : Byte) (p : Packet) (s : State) : ReplyTo :=
  { slot := s.link.nextSlot, port := p.port, opcode := op, tag := p.tag, flags := p.verFlags }

/-- A packet arrives on an idle port of a machine that serves its link. -/
structure Arrives (p : Packet) (s : State) : Prop where
  up     : linkUp s = true
  uartOn : p.port = .uart → regBit s 0x40010000 1 = true
  opn    : (portOf s p.port).opn = []
  outq   : (portOf s p.port).outq = []
  inv    : s.LinkInv

/-- A packet passes checks 1–6 of R336: whole, correct, of this version. -/
structure Sound (op : Byte) (p : Packet) : Prop where
  header : 8 ≤ p.header
  size   : p.len ≤ 2048
  whole  : p.payload.length = p.len
  crc    : p.crc = some (pktCrc p op)
  ver    : p.verFlags &&& 0xFB = 0x20

/-- A whole, correct version 2 packet arrives in Noon on an idle port and passes checks 1–12 of R336. -/
structure Ready (op : Byte) (p : Packet) (s : State) : Prop where
  up     : linkUp s = true
  uartOn : p.port = .uart → regBit s 0x40010000 1 = true
  header : 8 ≤ p.header
  size   : p.len ≤ 2048
  whole  : p.payload.length = p.len
  crc    : p.crc = some (pktCrc p op)
  ver    : p.verFlags &&& 0xFB = 0x20
  noon   : s.power.state = .noon
  e0     : s.link.e0Restart = false
  opn    : (portOf s p.port).opn = []
  outq   : (portOf s p.port).outq = []
  inv    : s.LinkInv
  known  : (opKind op.toNat).isSome = true
  tag    : tagCheck op p s = .nowhere
  length : lenOk op.toNat (pktCred p) p.payload = true
  opts   : optionsOk op.toNat p.options (pktBody p) = true
  fields : opFields op.toNat (pktBody p) = none
  gate   : roleGated op.toNat s = false

/-- The state in which the body of a command runs: the transaction has shown its output, a reply slot is open. -/
def taken (op : Byte) (p : Packet) (s : State) : State :=
  let s1 := if p.port = .hcs0 then spiOutput p.clocked s else s
  let s2 := openSlot (replyTo op p s) (maxReply op.toNat) s1
  { s2 with power := { s2.power with duskDue := false } }

/-- The packet of a reply with this status and payload has gone out: it has joined the queue of HCS0_N, or the UART has sent it (R337, R345). -/
def Replied (op : Byte) (p : Packet) (status : Byte) (payload : Bytes) (s t : State) : Prop :=
  match p.port with
  | .hcs0 => replyPkt (replyTo op p s) status payload false ∈ t.link.hcs0.outq
  | .uart => Emission.uartTx (replyPkt (replyTo op p s) status payload false).bytes ∈ t.emit

/-- `t` is `u` but for the port queues, MISO, HIRQ_N, the slot count, what waits for a reply's consumption, the outward signals and the idle count of R553. -/
def Leaves (u t : State) : Prop :=
  t = { u with
    emit := t.emit
    power := { u.power with duskDue := t.power.duskDue }
    link := { u.link with
      hcs0 := t.link.hcs0, uart := t.link.uart, miso := t.link.miso, hirq := t.link.hirq, nextSlot := t.link.nextSlot
      cfgPend := t.link.cfgPend, afterReply := t.link.afterReply } }

/-- `Leaves` where an event for the host is raised too: one that finds no room is counted as lost (R346). -/
def LeavesEv (u t : State) : Prop := Leaves { u with link := { u.link with lostHcs0 := t.link.lostHcs0, lostUart := t.link.lostUart } } t

/-- The registers outside a list of addresses are as before. -/
def RegsBut (l : List Nat) (s t : State) : Prop := ∀ a, a ∉ l → regGet t a = regGet s a

/-- An immediate command answers: its packet on an idle port, with the state as `cond` says, gives a next state in which the reply with status `st` and payload
`ans` has gone out, and which is `upd` of the state before but for what every reply touches. -/
def Answered (mk : Packet → Instr) (op : Byte) (cond : Packet → State → Prop) (st : State → Byte) (ans : Packet → State → Bytes)
    (upd : Packet → State → State) : Prop :=
  ∀ p s, Ready op p s → cond p s → ∃ t, exec (mk p) s = .next t ∧ Replied op p (st s) (ans p s) s t ∧ Leaves (upd p s) t

/-- An immediate command answers OK. -/
def Serves (mk : Packet → Instr) (op : Byte) (cond : Packet → State → Prop) (ans : Packet → State → Bytes)
    (upd : Packet → State → State) : Prop := Answered mk op cond (fun _ => stOk) ans upd

/-- An immediate command answers OK and changes nothing but the link. -/
def ServesRead (mk : Packet → Instr) (op : Byte) (cond : Packet → State → Prop) (ans : Packet → State → Bytes) : Prop :=
  Serves mk op cond ans fun _ s => s

/-- The command has been taken and its reply is still to come. -/
def Awaits (op : Byte) (p : Packet) (s t : State) : Prop := ∃ w ∈ (portOf t p.port).opn, w.ret = replyTo op p s ∧ w.pkt = none

/-- The slot of a KEY_OP with a usage the operation takes, the key store open and no refusal (R271, R291). -/
def KeyOpSlot (p : Packet) (mask : Nat) (x : Slot) (s : State) : Prop :=
  s.ks.state = .open ∧ slotOf s (byteAt p.payload 0) = some x ∧ x.usage &&& mask ≠ 0

/-- Check 13 of a journaled command is passed: there is room for its record, no refusal of its own, its credential verifies for one of the roles, and one is there
when it is needed (R31, R39, R336, R371). -/
structure Passes (op : Byte) (own : Option (Byte × Nat)) (roles : List CredRole) (need : Bool) (p : Packet) (s : State) : Prop where
  noevt : p.tag = 0 → bit p.verFlags.toNat 2 = false
  loose : p.tag = 0 → (s.jrn.loose.filter fun w => w.state != .done).length < 4
  room  : p.tag ≠ 0 → s.jrn.works.length + s.jrn.accepting.length < 32
  own   : own = none
  cred  : pktCred p = true → (packetCred op p roles s).1.isSome = true
  need  : pktCred p = false → need = false

/-- The record of a command taken now: it carries the command whole, is ACCEPTED and has run nothing. -/
def RecordOf (op : Byte) (p : Packet) (data : Bytes) (w : Work) : Prop :=
  w.tag = p.tag ∧ w.opcode = op ∧ w.options = p.options ∧ w.flags = p.verFlags ∧ w.src = p.port ∧ w.pktCrc = pktCrc p op ∧ w.payload = p.payload ∧
  w.state = .accepted ∧ w.step = 0 ∧ w.pct = 0 ∧ w.stepData = data ∧ w.result = [] ∧ w.ready = none

/-- A journaled command that passes check 13 is taken: tagged with the journal enabled, its record waits for its acceptance commit, in flight, and the answer
comes with that; tagged with the journal disabled, or untagged, it waits in SRAM and IN_PROGRESS answers (R28, R319, R322, R351). Nothing else changes but
a credential's nonce and, where `draws`, the generator. -/
def Accepts (mk : Packet → Instr) (op : Byte) (cond : Packet → State → Prop) (own : Packet → State → Option (Byte × Nat)) (roles : Packet → State → List CredRole)
    (need : Packet → State → Bool) (data : Packet → State → Bytes) (draws : Bool) : Prop :=
  ∀ p s, Ready op p s → cond p s → Passes op (own p s) (roles p s) (need p s) p s →
    ∃ t w, exec (mk p) s = .next t ∧ RecordOf op p (data p s) w ∧
      Leaves { s with jrn := t.jrn, fer := { s.fer with commits := t.fer.commits }, ks := { s.ks with nonces := t.ks.nonces },
                      drawn := t.drawn, cry := t.cry, regs := t.regs, eng := t.eng } t ∧
      (pktCred p = false → t.ks.nonces = s.ks.nonces) ∧
      (draws = false → t.drawn = s.drawn ∧ t.cry = s.cry ∧ t.regs = s.regs ∧ t.eng = s.eng) ∧
      (p.tag = 0 → t.jrn = { s.jrn with loose := s.jrn.loose ++ [w] } ∧ t.fer.commits = s.fer.commits ∧ Replied op p stInProgress (zeros 12) s t) ∧
      (p.tag ≠ 0 → s.jrn.enabled = false → w.seq = s.jrn.nextSeq ∧
        t.jrn = { s.jrn with works := s.jrn.works ++ [w], nextSeq := s.jrn.nextSeq + 1 } ∧ t.fer.commits = s.fer.commits ∧ Replied op p stInProgress (zeros 12) s t) ∧
      (p.tag ≠ 0 → s.jrn.enabled = true →
        t.jrn = { s.jrn with accepting := s.jrn.accepting ++ [{ work := w, ret := replyTo op p s, twins := [] }] } ∧
        t.fer.commits.any (·.isAcceptance) = true)

/-- A journaled command without a refusal of its own, a credential or data fixed at acceptance. -/
def AcceptsPlain (mk : Packet → Instr) (op : Byte) (cond : Packet → State → Prop) (own : Packet → State → Option (Byte × Nat)) : Prop :=
  Accepts mk op cond own (fun _ _ => []) (fun _ _ => false) (fun _ _ => []) false

/-- A journaled command that needs a credential of one of the roles. -/
def AcceptsSigned (mk : Packet → Instr) (op : Byte) (cond : Packet → State → Prop) (own : Packet → State → Option (Byte × Nat)) (roles : List CredRole) : Prop :=
  Accepts mk op cond own (fun _ _ => roles) (fun _ _ => true) (fun _ _ => []) false

/-- The commits that E8 makes in a step read back right, at the first or at the second attempt (R302). -/
def cleanReads (m : StepMeas) : Bool := m.rbs.all fun rb => rb.a != 2 && rb.b != 2

/-- A step of this running tagged work may be looked at: in Noon, E0 and the engines that serve it up, no version 1 command waiting for it, its commits reading back right. -/
structure StepsNow (op : Byte) (w : Work) (m : StepMeas) (s : State) : Prop where
  noon    : s.power.state = .noon
  e0      : s.link.e0Restart = false
  found   : s.jrn.works.find? (fun x => x.seq == w.seq) = some w
  running : w.state = .running
  parked  : w.parked = false
  engine  : w.engineOut s = false
  opcode  : w.opcode = op
  tag     : w.tag ≠ 0
  v1      : s.link.v1Wait = none
  clean   : cleanReads m = true
  inv     : s.LinkInv

/-- Tagged work is over: its record is DONE with status and result, and the ring begins with its entry (R318, R320). -/
def Ended (w : Work) (status : Byte) (result : Bytes) (s t : State) : Prop :=
  (∃ x, t.jrn.works.find? (fun x => x.seq == w.seq) = some x ∧ x.state = .done ∧ x.pct = 100 ∧ x.status = status ∧ x.result = result ∧ x.tag = w.tag) ∧
  (∃ e, t.jrn.ring.head? = some e ∧ e.num = s.jrn.nextNum ∧ e.seq = w.seq ∧ e.tag = w.tag ∧ e.opcode = w.opcode ∧ e.status = status ∧ e.result = result)

/-- What a step of work writes beside its record, its ring entry and the state that its statement gives: registers, FeRAM pages, CONFIG items, journal units. -/
structure Touch where
  regs  : List Nat := []
  pages : List Nat := []
  items : List Nat := []
  units : List Nat := []

/-- The copies of pages and CONFIG items are those before, those of the pages and items written after one more commit; of the journal's copies, only those of its records,
ring entries and internal records that were written may differ (R301, R302). -/
def CopiesAfter (x : Touch) (s t : State) : Prop :=
  (∀ g, metaOf t g = if g ∈ x.pages then (metaOf s g).commit { a := 0, b := 0 } else metaOf s g) ∧
  (∀ i, metaIn t.fer.config i = if i ∈ x.items then (metaIn s.fer.config i).commit { a := 0, b := 0 } else metaIn s.fer.config i) ∧
  ∀ n, n ∉ x.units → metaIn t.jrn.copies n = metaIn s.jrn.copies n

/-- A step of accepted work ends it with a status: its result is `ans`, the state is `upd` of the state before but for the journal's record, ring and number, the
link and the count of page commits; of registers and of the copies in the FeRAM what `touch` names differs too. -/
def WorkEnds (op : Byte) (cond : Work → State → Prop) (status : Byte) (ans : Work → State → Bytes) (upd : Work → State → State)
    (touch : Work → State → Touch) : Prop :=
  ∀ w m s, StepsNow op w m s → cond w s → ∃ t, exec (.acceptedWorkStep true w.seq m) s = .next t ∧ Ended w status (ans w s) s t ∧
    Leaves { upd w s with
      jrn := { (upd w s).jrn with works := t.jrn.works, ring := t.jrn.ring, nextNum := s.jrn.nextNum + 1, copies := t.jrn.copies }
      fer := { (upd w s).fer with pages := t.fer.pages, config := t.fer.config }
      regs := t.regs } t ∧
    RegsBut (0x4009000C :: (touch w s).regs) (upd w s) t ∧
    CopiesAfter { touch w s with units := w.recNo :: ringUnit s.jrn.nextNum :: (touch w s).units } s t

/-! ### What statements about events speak of -/

/-- The clocks run, and the output lines are as the queues have them. -/
def Runs (s : State) : Prop := running s = true ∧ s.LinkInv

/-- An event changes counters and units of the TMB alone: counter `c` becomes `x`, the other counters and every unit stay. -/
def CounterBecomes (i : Instr) (c : Nat) (x : Counter32) (s : State) : Prop :=
  ∃ t, exec i s = .next t ∧ t = { fresh s with tmb := { s.tmb with counters := t.tmb.counters } } ∧ ctOf t c = x ∧ ∀ d, d ≠ c → ctOf t d = ctOf s d

/-- An event changes a unit of the TMB alone, and registers of a list. -/
def UnitBecomes (i : Instr) (u : Nat) (x : TmbUnit) (regs : List Nat) (s : State) : Prop :=
  ∃ t, exec i s = .next t ∧ Leaves { s with regs := t.regs, eng := t.eng, tmb := { s.tmb with units := t.tmb.units } } t ∧ unOf t u = x ∧
    (∀ v, v ≠ u → unOf t v = unOf s v) ∧ RegsBut regs s t

/-- An event of a vehicle bus: the buses become `b`, registers of a list may change, with bit `e` of an event register, and engines hear of it. -/
def BusBecomes (i : Instr) (b : Buses) (regs : List Nat) (ev : Nat × Nat) (s : State) : Prop :=
  ∃ t, exec i s = .next t ∧ Leaves { s with regs := t.regs, eng := t.eng, bus := b } t ∧ regBit t ev.1 ev.2 = true ∧ RegsBut (ev.1 :: regs) s t

/-- A counter of 16 bits counts one more, up to its maximum. -/
def CountsOne (a : Nat) (s t : State) : Prop := regFld t a 0 16 = min (regFld s a 0 16 + 1) 0xFFFF

/-! ### What statements about resets speak of -/

/-- A device reset with a cause other than POWER_ON has come, and Dawn begins (R559, R561, R605): the cause and the one before, the volatile blocks at their reset
values but for the block of LF that a tamper response holds (R119, R530), the key registers lost, and what CONFIG, the RTC domain and, except from Midnight, SRAM hold kept. -/
def ResetDone (cause : Nat) (s t : State) : Prop :=
  t.power.state = .dawn ∧ t.power.stage = .waitXo ∧ t.power.pll = false ∧ t.power.cause = cause ∧ t.power.prev = s.power.cause ∧
  t.power.resets = min (s.power.resets + 1) 0xFFFF ∧ t.power.rtc = s.power.rtc ∧ t.power.rtcValid = s.power.rtcValid ∧
  t.link = .reset ∧ t.lf = { State.reset.lf with tamperBlk := s.saf.record != 0 } ∧ t.rad = .reset ∧ t.tmb = .reset ∧ t.bus = .reset ∧ t.cry = .reset ∧ t.cfg = s.cfg ∧
  t.ks.state = .closed ∧ t.ks.kwk = none ∧ t.ks.storage = none ∧ t.ks.slots = [] ∧ t.ks.handles = s.ks.handles ∧
  t.acc.decision = none ∧ t.acc.release.active = false ∧ t.acc.curfew = s.acc.curfew ∧ t.acc.denylist = s.acc.denylist ∧
  t.jrn.loose = [] ∧ t.jrn.accepting = [] ∧ t.fer.commits = [] ∧ (∀ r ∈ t.fer.regions, r.runlk = false ∧ r.wunlk = false) ∧
  (∀ k, (engOf t k).state = .reset) ∧
  (s.power.state ≠ .midnight → t.sram = s.sram ∧ t.acc.tokens = s.acc.tokens) ∧ (s.power.state = .midnight → t.sram = [] ∧ t.power.restoreDue = true) ∧
  (∀ a, a ∉ [0x40000020, 0x40000024, 0x40000030, 0x40060008, 0x4000000C] → regGet t a = regReset a) ∧
  regGet t 0x40000020 = regGet s 0x40000020 ∧ regGet t 0x40000030 = regGet s 0x40000030

/-- Nothing holds the device in reset once the reset is over. -/
def MayDawn (s : State) : Prop := s.power.vsupOk = true ∧ s.power.rstN = true ∧ s.power.testN = true

/-! ### What statements about version 1 speak of -/

/-- A version 1 transaction is served and takes its command: the link is up, the machine in Noon, nothing waits or is in progress, and the reply that it shows is not
the one of a SOFT_RESET (R359–R361, R400). -/
structure V1Takes (s : State) : Prop where
  up   : v1Up s = true
  noon : s.power.state = .noon
  e0   : s.link.e0Restart = false
  wait : s.link.v1Wait = none
  busy : s.link.v1Busy = none
  calm : ∀ r, s.link.v1Reply = some r → byteAt r 1 ≠ 3
  inv  : s.LinkInv

/-- A version 1 command passes the checks that every opcode shares: unlisted parameters are 0x00, the role gate, V1_WR for a write, no object held by version 2 work. -/
structure V1Passes (op : Nat) (p : Bytes) (s : State) : Prop where
  params : (p.drop (v1Params op)).any (· != 0) = false
  role   : 0x18 ≤ op → op ≤ 0x23 → s.cfg.role ≠ .none
  write  : v1Writes.contains op = true → regBit s 0x40010014 1 = true
  objs   : objsMeet (v1Objs s op p) (heldObjs s) = false

/-- `t` is `u` but for the outward signals, the idle count of R553, MISO, HIRQ_N and the version 1 reply. -/
def V1Leaves (u t : State) : Prop :=
  t = { u with
    emit := t.emit
    power := { u.power with duskDue := false }
    link := { u.link with miso := t.link.miso, hirq := t.link.hirq, v1Reply := t.link.v1Reply } }

/-- The reply that a transaction shows when nothing is in progress: the one that waits, or that of NOP after it was consumed (R360). -/
def v1Shows (s : State) : Bytes := s.link.v1Reply.getD ([0x00, 0xFF] ++ zeros 10)

/-- A version 1 command that passes the shared checks answers at once. -/
def Version1 (mk : V1Frame → Instr) (op : Byte) (cond : Bytes → State → Prop) (st : Byte) (ans : Bytes → State → Bytes)
    (post : Bytes → State → State → Prop) : Prop :=
  ∀ f s, V1Takes s → V1Passes op.toNat f.p s → cond f.p s → ∃ t, exec (mk f) s = .next t ∧ t.link.miso = v1Shows s ∧
    t.link.v1Reply = some ([st, op] ++ fit 10 (ans f.p s)) ∧ post f.p s t

/-- A version 1 command that passes the shared checks and whose reply comes later: IN_PROGRESS is to be shown, with its opcode. -/
def V1Pends (mk : V1Frame → Instr) (op : Byte) (cond : Bytes → State → Prop) (post : Bytes → State → State → Prop) : Prop :=
  ∀ f s, V1Takes s → V1Passes op.toNat f.p s → cond f.p s → ∃ t, exec (mk f) s = .next t ∧ t.link.miso = v1Shows s ∧
    t.link.v1Reply = none ∧ t.link.v1Busy = some op ∧ post f.p s t

/-! ### What statements about couplings speak of -/

/-- A coupling PDU of a TYPE, from the partner of a unit that this device couples, meets the checks of R211. -/
structure PduGood (type : Nat) (p : CplPdu) (s : State) : Prop where
  awake : awake s = true
  inv   : s.LinkInv
  unit  : (cplUnits s).contains (p.unit.val + 1) = true
  medium : cplOnMedium s p = true
  kept  : s.cpl.units.map (·.unit) = [1, 2, 3]
  size  : p.payload.length ≤ 2040
  flags : p.flags.toNat ≤ 3
  mac   : (bit p.flags.toNat 1 || macNeeded (unitOf s (p.unit.val + 1)) (sessionKey s (p.unit.val + 1) 0).isSome type (bit p.flags.toNat 0)) = true →
            bit p.flags.toNat 1 = true ∧ ∃ k, sessionKey s (p.unit.val + 1) 0 = some k ∧ p.mac = (cmac k (cplPduHead type p)).take 8
  seq   : type ≠ 1 → (unitOf s (p.unit.val + 1)).seqRx ≤ p.seq.toNat

/-- The coupling of a unit once a PDU from its partner has met the checks: its link is up, and SEQ has moved on (R211). -/
def heardOf (type : Nat) (p : CplPdu) (s : State) : Coupling :=
  let c := unitOf s (p.unit.val + 1)
  { c with seqRx := if type = 1 then c.seqRx else p.seq.toNat + 1, linkUp := true, j2497 := p.j2497 }

/-- A command changes one coupling to `c`, and nothing else. -/
def UnitOnly (i : Instr) (u : Nat) (c : Coupling) (s : State) : Prop :=
  ∃ t, exec i s = .next t ∧ t = { fresh s with cpl := { s.cpl with units := t.cpl.units } } ∧ unitOf t u = c ∧ ∀ v, v ≠ u → unitOf t v = unitOf s v

/-- An attempt, or a coupling that stood, ends with class BASIC and a reason (R217, R225): it restarts later or stays BASIC, its session keys are gone, and a
hostile reason is counted. -/
def AttemptFails (i : Instr) (u reason : Nat) (s : State) : Prop :=
  ∃ t, exec i s = .next t ∧ (unitOf t u).cls = 0 ∧ (unitOf t u).reason = reason ∧ (unitOf t u).waiting = .nothing ∧
    ((unitOf t u).state = .backoff ∨ (unitOf t u).state = .basic) ∧ (∀ i < 3, sessionKey t u i = none) ∧ (hostileReason reason = true → CountsOne 0x4007000C s t) ∧
    ∀ v, v ≠ u → unitOf t v = unitOf s v

/-- A PDU of a TYPE goes to the partner of a unit. -/
def SendsPdu (u type : Nat) (t : State) : Prop := ∃ pdu, Emission.coupling u pdu ∈ t.emit ∧ pdu.headD 0 = byte type

/-! ### What statements about Jorsol instructions speak of -/

/-- An engine in RUN meets at its PC words that decode to an operation, every check bit right, no injection live and no watchdog expiry held (R417, R438–R444). -/
structure Meets (o : EngOp) (op : EOp) (s : State) : Prop where
  runs   : Runs s
  state  : (engOf s o.k).state = .run
  atPc   : opAtPc o s = true
  inside : fetchOut o s = none
  decode : engDecode (decCtx s o.k) o.ext o.w = .ok op
  fetch  : o.fetch = .clean
  data   : o.data = .clean
  calm   : s.saf.inject = none
  held   : (engOf s o.k).wdtHeld = false

/-- The address after an instruction: it is one word and its prefixes long (R438, R439). -/
def pcAfter (o : EngOp) (s : State) : Half := (engOf s o.k).pc + BitVec.ofNat 16 (o.ext.length + 1)

/-- An instruction makes its engine `e`, and changes nothing else. -/
def EngBecomes (i : Instr) (o : EngOp) (e : Engine) (s : State) : Prop := exec i s = .next { fresh s with eng := s.eng.set o.k e }

/-- Flags of a result with a carry and an overflow; every other bit of ST is as before (R442). -/
def Flagged (r : Word) (c v : Bool) (st st' : Word) : Prop :=
  wbit st' 0 = (r == 0) ∧ wbit st' 1 = r.msb ∧ wbit st' 2 = c ∧ wbit st' 3 = v ∧ st' &&& ~~~0xF = st &&& ~~~0xF

/-- A register becomes `r`, the flags follow, PC moves past the instruction, and nothing else changes. -/
def Computes (i : Instr) (o : EngOp) (a : Fin 16) (r : Word) (c v : Bool) (s : State) : Prop :=
  ∃ st, EngBecomes i o { (engOf s o.k) with g := (engOf s o.k).g.set a r, st := st, pc := pcAfter o s } s ∧ Flagged r c v (engOf s o.k).st st

/-- Flags alone follow from a result. -/
def Compares (i : Instr) (o : EngOp) (r : Word) (c v : Bool) (s : State) : Prop :=
  ∃ st, EngBecomes i o { (engOf s o.k) with st := st, pc := pcAfter o s } s ∧ Flagged r c v (engOf s o.k).st st

/-- A register becomes `r`, PC moves past the instruction, and nothing else changes, no flag either. -/
def Loads (i : Instr) (o : EngOp) (a : Fin 16) (r : Word) (s : State) : Prop :=
  EngBecomes i o { (engOf s o.k) with g := (engOf s o.k).g.set a r, pc := pcAfter o s } s

/-- An engine outside any trap handler takes a trap with a cause, TVAL and the rest of TCAUSE, TPC at `pc` and TST `st` (R413, R414, R435, R445): counted, and nothing
else of the engine changes. -/
def TakesTrap (i : Instr) (o : EngOp) (cause n tlen detail : Nat) (tval : Word) (pc : Half) (st : Word) (s : State) : Prop :=
  ∃ t, exec i s = .next t ∧ CountsOne (engAddr o.k 0x54) s t ∧ RegsBut [engAddr o.k 0x54] s t ∧
    t = { fresh s with
      regs := t.regs
      eng := s.eng.set o.k { (engOf s o.k) with
        tpc := pc, tst := st, tcause := word (cause + 16 * n + 256 * tlen + 1024 * detail), tval := tval, st := (st ||| 0x80) &&& ~~~0x40
        pc := if cause = 8 then 0x0014 else BitVec.ofNat 16 (2 * cause) } }

/-- An instruction stops with a trap at its first word. -/
def Stops (i : Instr) (o : EngOp) (cause detail : Nat) (tval : Word) (s : State) : Prop :=
  TakesTrap i o cause 0 (o.ext.length + 1) detail tval (engOf s o.k).pc (engOf s o.k).st s

/-- Bytes of an engine's scratch as a word. -/
def scratchWord (e : Engine) (a n : Nat) : Word := word (leNat (memGet e.scratch a n))

end Sys2Proof.Machine
end

