-- ==== Sys2Proof/Certificates/Slice0/Obligations.lean ====
section
/-! DEFINITION. The statements about the model, each a proposition for the provers. -/
open Sys2Proof Sys2Proof.Machine


/-! ### The machine -/

/-- A step takes the command at the front of the queue and is that command's meaning on the state with the rest of the queue. -/
def Obligations.StepRunsFront : Prop :=
  ∀ (c : Instr) (q : List Instr) (s : State), step { s with pending := c :: q } = exec c { s with pending := q }

/-- No command touches the queue of those that wait, and every one answers a next state. -/
def Obligations.EveryCommandKeepsTheQueue : Prop :=
  ∀ (c : Instr) (s : State), ∃ t, exec c s = .next t ∧ t.pending = s.pending

/-- The model's choice (log 2): on an empty queue a microsecond passes. CLK_US counts 1 and CLK_TS 768 (R548, R551) while the clocks run; neither moves while they do
not. -/
def Obligations.EmptyQueueIsATick : Prop :=
  ∀ s : State, s.pending = [] → ∃ t, step s = .next t ∧ t.pending = [] ∧
    (running s = true → t.power.clkUs = s.power.clkUs + 1 ∧ t.power.clkTs = s.power.clkTs + 768) ∧
    (running s = false → t.power.clkUs = s.power.clkUs ∧ t.power.clkTs = s.power.clkTs)

/-- Replies stand in the order of their commands, HIRQ_N at the level the queue asks for, nothing waits on a UART that sends and no read-back is left over, when the machine leaves reset. -/
def Obligations.LinkInvariantAtReset : Prop := State.reset.LinkInv

/-- R337, R345, R347: from every state in which replies stand in order, HIRQ_N is right, the UART has sent and no read-back of a command is left over (the model's own field, log 120), a step leads
to such a state again. -/
def Obligations.LinkInvariantKept : Prop := ∀ s t : State, s.LinkInv → step s = .next t → t.LinkInv

/-- R559, R561, R605, R298, R322: right after the POR release every register holds its reset value, Dawn waits for the crystal with cause POWER_ON, the RTC is not
valid, no record, key slot, token, sensor, coupling, trigger or commit is held, every monotonic counter reads 0 and all memory reads as nothing was written. -/
def Obligations.ResetState : Prop :=
  let s := State.reset
  s.pending = [] ∧ (∀ a, regGet s a = regReset a) ∧ s.power.state = .dawn ∧ s.power.cause = 1 ∧ s.power.clkUs = 0 ∧ s.power.rtcValid = false ∧
  s.jrn.works = [] ∧ s.jrn.loose = [] ∧ s.jrn.accepting = [] ∧ s.jrn.ring = [] ∧ s.jrn.enabled = true ∧
  (∀ c, ctrRead s c = some 0) ∧ s.fer.commits = [] ∧ (∀ a n, memGet s.sram a n = zeros n) ∧
  s.ks.state = .closed ∧ s.ks.slots = [] ∧ s.ks.handles = [] ∧ s.ks.nonces = [] ∧ s.cfg.role = .none ∧
  s.acc.tokens = [] ∧ s.acc.denylist = [] ∧ s.acc.decision = none ∧ s.acc.release.active = false ∧ s.acc.enrolLimit = 48 ∧
  (∀ c ∈ s.cpl.units, c.state = .none) ∧ s.sns.sensors = [] ∧ s.saf.faults = [] ∧
  (∀ k, (engOf s k).state = .reset ∧ (engOf s k).pc = 0x0010) ∧ (∀ k ∈ s.tmb.counters, k.count = 0 ∧ k.run = false) ∧
  s.bus.can0.state = .config ∧ s.bus.can1.state = .config
/-! ### Version 2 commands -/

/-- R377, R349: NOP, IDENTIFY, STATUS, QUERY and PENDING_LIST answer OK with the payload of their rows, and change nothing but the link. -/
def Obligations.SystemQueriesAnswer : Prop :=
  ServesRead .nop 0x00 (fun _ _ => True) (fun _ _ => []) ∧
  ServesRead .identify 0x01 (fun _ _ => True) (fun _ s =>
    le 4 0x77200B01 ++ le 8 Config.deviceUid.toNat ++ le 4 (regShow s 0x400AC000).toNat ++ le 4 (regShow s 0x400AC004).toNat ++
      le 4 (regShow s 0x400AC008).toNat ++ le 4 (regShow s 0x400AC00C).toNat ++ le 4 Config.firmware.toNat ++
      [match s.cfg.role with | .none => 0 | .tractor => 1 | .trailer => 2,
       match s.cfg.region with | some false => 0 | some true => 1 | none => 0xFF, 2, 0]) ∧
  ServesRead .status 0x02 (fun _ _ => True) (fun _ s =>
    [1, byte s.power.cause, 0, 0] ++ le 4 (kstStatus s) ++ le 4 (jrnStat s) ++ le 4 (regShow s 0x40060004).toNat ++
      le 2 (min 0xFFFF s.saf.sinceDawn) ++ [0, 0]) ∧
  ServesRead .query 0x03 (fun _ _ => True) (fun p s =>
    let q := at_ p.payload 0 2
    match s.jrn.works.find? (fun w => w.tag.toNat == q), s.jrn.ring.find? (fun e => e.tag.toNat == q) with
    | some w, _ =>
      (match w.state with
       | .accepted => le 2 q ++ [2, byte w.pct, 0, 0] ++ le 2 0
       | .running => le 2 q ++ [3, byte w.pct, 0, 0] ++ le 2 0
       | .done => le 2 q ++ [4, 100, w.status, 0] ++ le 2 w.result.length ++ w.result)
    | none, some e => le 2 q ++ [5, 100, e.status, 0] ++ le 2 e.result.length ++ e.result
    | none, none => le 2 q ++ [if s.link.dawnq.any (fun h => h.packet.tag.toNat == q) then 1 else 0, 0, 0, 0] ++ le 2 0) ∧
  ServesRead .pendingList 0x09 (fun _ _ => True) (fun _ s =>
    [byte (s.jrn.works.take 32).length, 0] ++ (s.jrn.works.take 32).flatMap fun w =>
      le 2 w.tag.toNat ++ [match w.state with | .accepted => 2 | .running => 3 | .done => 4, byte w.pct])

/-- R350, R377, R378: RESET and POWER answer OK and leave their request with the reply's slot, gone once a UART has sent it; POWER sets the wake pins and the alarm and
asks for Dusk or Midnight; COLLECT answers the status and result of done work and frees its record. -/
def Obligations.ResetPowerCollect : Prop :=
  (∀ p s, Ready 0x05 p s → ∃ t, exec (.reset p) s = .next t ∧ Replied 0x05 p stOk [] s t ∧ Leaves s t ∧
    t.link.afterReply = some (.reset, if p.port = .uart then none else some s.link.nextSlot)) ∧
  (∀ p s, Ready 0x06 p s → (byteAt p.payload 0 = 2 → midnightBarred s = false ∧ noWake (byteAt p.payload 1) (at_ p.payload 2 4) s = false) →
    ∃ t, exec (.power p) s = .next t ∧ Replied 0x06 p stOk [] s t ∧ Leaves { s with regs := t.regs } t ∧
      RegsBut [0x40000020, 0x40000030] s t ∧ regFld t 0x40000020 0 4 = byteAt p.payload 1 % 16 ∧
      regBit t 0x40000020 4 = (at_ p.payload 2 4 != 0) ∧
      regGet t 0x40000030 = (if at_ p.payload 2 4 = 0 then regGet s 0x40000030 else s.power.rtc + word (at_ p.payload 2 4)) ∧
      (byteAt p.payload 0 = 1 → t.power.duskDue = true) ∧
      (byteAt p.payload 0 = 2 → t.link.afterReply = some (.midnight, if p.port = .uart then none else some s.link.nextSlot))) ∧
  (∀ p s w, Ready 0x04 p s → at_ p.payload 0 2 ≠ 0 → s.jrn.works.find? (fun w => w.tag.toNat == at_ p.payload 0 2) = some w → w.state = .done →
    w.status ≠ 0x20 → w.status ≠ 0x14 →
    ∃ t, exec (.collect p) s = .next t ∧ Replied 0x04 p w.status w.result s t ∧ Leaves { s with jrn := t.jrn, regs := t.regs } t ∧
      t.jrn = { s.jrn with works := s.jrn.works.filter fun w => w.tag.toNat != at_ p.payload 0 2, copies := t.jrn.copies } ∧ RegsBut [0x4009000C] s t ∧
      (∀ n, n ≠ w.recNo → metaIn t.jrn.copies n = metaIn s.jrn.copies n)) ∧
  (∀ p s e, Ready 0x04 p s → at_ p.payload 0 2 ≠ 0 → s.jrn.works.find? (fun w => w.tag.toNat == at_ p.payload 0 2) = none →
    s.jrn.ring.find? (fun e => e.tag.toNat == at_ p.payload 0 2) = some e → e.status ≠ 0x20 → e.status ≠ 0x14 →
    ∃ t, exec (.collect p) s = .next t ∧ Replied 0x04 p e.status e.result s t ∧ Leaves s t)

/-- R380: REG_READ answers the words as a read shows them; REG_WRITE writes every word of the access and coupling blocks when each may be written and holds a good
value, and nothing when the first may not; REG_MODIFY writes the masked value and answers the words before and after. A word of the host link's configuration waits for the reply (R343, R364). -/
def Obligations.RegisterCommands : Prop :=
  (∀ p s, Ready 0x10 p s → regSpan (at_ p.payload 0 4) (at_ p.payload 4 2) = none →
    let u := taken 0x10 p (fresh s)
    ∃ t, exec (.regRead p) s = .next t ∧ Replied 0x10 p stOk (regReads (at_ p.payload 0 4) (at_ p.payload 4 2) u).1 s t ∧
      Leaves (regReads (at_ p.payload 0 4) (at_ p.payload 4 2) u).2 t) ∧
  (∀ p s, Ready 0x11 p s →
    let a := at_ p.payload 0 4
    let n := at_ p.payload 4 2
    let val := fun i => word (at_ p.payload (6 + 4 * i) 4)
    (blockOf a = 0x06 ∨ blockOf a = 0x07) → regSpan a n = none → (∀ i < n, hostReach s (a + 4 * i) = none ∧ hostValue s (a + 4 * i) (val i) = none) →
    ∃ t, exec (.regWrite p) s = .next t ∧ Replied 0x11 p stOk [] s t ∧ Leaves { s with regs := t.regs } t ∧
      (∀ i < n, regGet t (a + 4 * i) = regGet (regStore (a + 4 * i) (val i) s) (a + 4 * i)) ∧ RegsBut ((List.range n).map fun i => a + 4 * i) s t) ∧
  (∀ p s, Ready 0x11 p s → at_ p.payload 4 2 = 0 → regSpan (at_ p.payload 0 4) 0 = none →
    ∃ t, exec (.regWrite p) s = .next t ∧ Replied 0x11 p stOk [] s t ∧ Leaves s t) ∧
  (∀ p s, Ready 0x11 p s →
    let a := at_ p.payload 0 4
    at_ p.payload 4 2 = 1 → (a = 0x40010000 ∨ a = 0x40010010 ∨ a = 0x40010014) → hostValue s a (word (at_ p.payload 6 4)) = none → p.port = .hcs0 →
    ∃ t, exec (.regWrite p) s = .next t ∧ Replied 0x11 p stOk [] s t ∧ Leaves s t ∧
      t.link.cfgPend = s.link.cfgPend ++ [(a, word (at_ p.payload 6 4), some s.link.nextSlot)]) ∧
  (∀ p s x c, Ready 0x11 p s → regSpan (at_ p.payload 0 4) (at_ p.payload 4 2) = none → hostReach s (at_ p.payload 0 4) = some (x, c) →
    0 < at_ p.payload 4 2 → x ≠ 0x20 → x ≠ 0x14 →
    ∃ t, exec (.regWrite p) s = .next t ∧ Replied 0x11 p x (refusalBytes 0 c) s t ∧ Leaves s t) ∧
  (∀ p s, Ready 0x12 p s →
    let a := at_ p.payload 0 4
    let m := word (at_ p.payload 4 4)
    let v := (regShow s a &&& ~~~m) ||| (word (at_ p.payload 8 4) &&& m)
    (blockOf a = 0x06 ∨ blockOf a = 0x07) → regSpan a 1 = none → hostReach s a = none → (regFind a).map (·.kind) = some .rw → hostValue s a v = none →
    ∃ t, exec (.regModify p) s = .next t ∧ Replied 0x12 p stOk (le 4 (regShow s a).toNat ++ le 4 v.toNat) s t ∧
      Leaves { s with regs := t.regs } t ∧ regGet t a = regGet (regStore a v s) a ∧ RegsBut [a] s t)

/-- R381, R41: MEM_READ answers shared SRAM bytes at any address of it and MEM_WRITE stores bytes of the host exchange area; every byte outside those stored reads as
before, and an empty access does nothing (R398). -/
def Obligations.MemoryCommands : Prop :=
  ServesRead .memRead 0x13
    (fun p s => (at_ p.payload 4 2 = 0 ∨ (0x10000000 ≤ at_ p.payload 0 4 ∧ at_ p.payload 0 4 + at_ p.payload 4 2 ≤ 0x10400000)) ∧ s.saf.inject = none)
    (fun p s => memGet s.sram (at_ p.payload 0 4) (at_ p.payload 4 2)) ∧
  (∀ p s, Ready 0x14 p s →
    let a := at_ p.payload 0 4
    let n := at_ p.payload 4 2
    (n = 0 ∨ (0x103B0000 ≤ a ∧ a + n ≤ 0x103C0000)) →
    ∃ t, exec (.memWrite p) s = .next t ∧ Replied 0x14 p stOk [] s t ∧ Leaves { s with sram := t.sram, saf := t.saf } t ∧
      (s.saf.inject = none → t.saf = s.saf) ∧
      (∀ b, memGet t.sram b 1 = if a ≤ b ∧ b < a + n then [p.payload.getD (6 + (b - a)) 0] else memGet s.sram b 1)) ∧
  (∀ p s, Ready 0x14 p s → 0 < at_ p.payload 4 2 → (at_ p.payload 0 4 < 0x103B0000 ∨ 0x103C0000 ≤ at_ p.payload 0 4) →
    ∃ t, exec (.memWrite p) s = .next t ∧ Replied 0x14 p stDenied (refusalBytes 0 6) s t ∧ Leaves s t)

/-- R300, R303, R310, R398: NVM_READ answers the bytes of the pages and changes nothing, those of CONFIG as a free function of its items, whose layout the manual does not state (log 80);
COUNTER_READ answers the counter; a page with no valid copy answers HW_FAULT and is counted. R304, R41: while a page commit runs, or the engine that makes them restarts, NVM_READ, NVM_UNLOCK and NVM_LOCK
answer NVM_BUSY and change nothing. R305: between two commits of one write no commit runs. R307: no read runs inside the range of a TXN write that has not completed. -/
def Obligations.NvmReads : Prop :=
  (ServesRead .nvmRead 0x20
    (fun p s =>
      let a := at_ p.payload 0 4
      let n := at_ p.payload 4 2
      leavesPartition a n = false ∧ commitBusy s = false ∧ txnHeld a n s = false ∧ 0 < n ∧ partOf (a / 256) ≠ 2 ∧ partOf (a / 256) ≠ 5 ∧
      regionRefusal false a n s = none ∧ ∀ g ∈ pagesOf a n, (metaOf s g).c0.ok = true ∧ (metaOf s g).c1.ok = true)
    (fun p s => nvmBytes s (at_ p.payload 0 4) (at_ p.payload 4 2)) ∧
  ServesRead .nvmRead 0x20 (fun p s => at_ p.payload 4 2 = 0 ∧ commitBusy s = false) (fun _ _ => []) ∧
  Answered .nvmRead 0x20 (fun p s =>
      leavesPartition (at_ p.payload 0 4) (at_ p.payload 4 2) = false ∧ 0 < at_ p.payload 4 2 ∧ txnHeld (at_ p.payload 0 4) (at_ p.payload 4 2) s = true)
    (fun _ => stNvmBusy) (fun _ _ => refusalBytes 0xFFFF 0) (fun _ s => s) ∧
  (∀ s : State, s.fer.gap = true → (engOf s 8).restartDue = false → commitBusy s = false) ∧
  (∀ (s : State) c l, s.fer.gap = false → s.fer.commits = c :: l → commitBusy s = true) ∧
  (∀ p s g, Ready 0x20 p s →
    let a := at_ p.payload 0 4
    let n := at_ p.payload 4 2
    leavesPartition a n = false → commitBusy s = false → txnHeld a n s = false → 0 < n → partOf (a / 256) ≠ 2 → partOf (a / 256) ≠ 5 →
    regionRefusal false a n s = none → g ∈ pagesOf a n → (metaOf s g).c0.ok = false → (metaOf s g).c1.ok = false →
    ∃ t, exec (.nvmRead p) s = .next t ∧ Replied 0x20 p stHwFault (refusalBytes 0xFFFF 0) s t ∧ LeavesEv { s with regs := t.regs, eng := t.eng } t ∧
      regFld t 0x40090014 0 16 = min (regFld s 0x40090014 0 16 + 1) 0xFFFF) ∧
  (∀ v, ServesRead .counterRead 0x26 (fun p s => ctrRead s (byteAt p.payload 0) = some v) (fun _ _ => le 8 v))) ∧
  (∀ mk op, ((mk, op) = (Instr.nvmUnlock, (0x22 : Byte)) ∨ (mk, op) = (Instr.nvmLock, (0x23 : Byte)) ∨ (mk, op) = (Instr.nvmRead, (0x20 : Byte))) →
    ∀ p s, Ready op p s → commitBusy s = true → (op = 0x20 → leavesPartition (at_ p.payload 0 4) (at_ p.payload 4 2) = false) →
    ∃ t, exec (mk p) s = .next t ∧ Replied op p stNvmBusy (refusalBytes 0xFFFF 0) s t ∧ Leaves s t)

/-- R314, R315: NVM_UNLOCK counts the attempt before it compares; the right password unlocks what MODE names and clears the count, a wrong one answers DENIED with CODE
0x0A; eight failures lock out until 60 s have passed. NVM_LOCK locks the regions of its mask. Every other region and counter stands. -/
def Obligations.NvmRegionLocks : Prop :=
  (∀ p s v, Ready 0x22 p s →
    let n := byteAt p.payload 0
    let m := byteAt p.payload 1
    commitBusy s = false → m ≠ 0 → s.ks.state = .open → (pwFails s < 8 ∨ 60000000 ≤ s.fer.pwSince) → ctrRead s 36 = some v → v + 1 < 2 ^ 64 →
    (regionAt s n).verifier.isSome = true → (regionAt s n).verifier = pwVerifier s n (slice p.payload 2 8) →
    ∃ t, exec (.nvmUnlock p) s = .next t ∧ Replied 0x22 p stOk [] s t ∧ Leaves { s with fer := t.fer } t ∧
      t.fer = { s.fer with regions := t.fer.regions, counters := t.fer.counters, pwBase := v + 1, pwSince := 0 } ∧
      ctrRead t 36 = some (v + 1) ∧ (∀ c, c ≠ 36 → ctrRead t c = ctrRead s c) ∧
      (∀ i, i ≠ n → t.fer.regions[i]? = s.fer.regions[i]?) ∧
      regionAt t n = { regionAt s n with runlk := (regionAt s n).runlk || bit m 0, wunlk := (regionAt s n).wunlk || bit m 1 }) ∧
  (∀ p s v, Ready 0x22 p s →
    let n := byteAt p.payload 0
    commitBusy s = false → byteAt p.payload 1 ≠ 0 → s.ks.state = .open → (pwFails s < 8 ∨ 60000000 ≤ s.fer.pwSince) → ctrRead s 36 = some v →
    v + 1 < 2 ^ 64 → (regionAt s n).verifier ≠ pwVerifier s n (slice p.payload 2 8) →
    ∃ t, exec (.nvmUnlock p) s = .next t ∧ Replied 0x22 p stDenied (refusalBytes 0xFFFF 0x0A) s t ∧
      LeavesEv { s with fer := t.fer, regs := t.regs, eng := t.eng } t ∧ t.fer.regions = s.fer.regions ∧ t.fer.pwBase = s.fer.pwBase ∧
      ctrRead t 36 = some (v + 1) ∧ (∀ c, c ≠ 36 → ctrRead t c = ctrRead s c)) ∧
  (∀ p s, Ready 0x22 p s → commitBusy s = false → byteAt p.payload 1 ≠ 0 → s.ks.state = .open → 8 ≤ pwFails s → s.fer.pwSince < 60000000 →
    ∃ t, exec (.nvmUnlock p) s = .next t ∧ Replied 0x22 p stLocked (refusalBytes 0xFFFF 0) s t ∧ Leaves s t) ∧
  ServesRead .nvmUnlock 0x22 (fun p s => commitBusy s = false ∧ byteAt p.payload 1 = 0) (fun _ _ => []) ∧
  (∀ p s, Ready 0x23 p s → commitBusy s = false →
    ∃ t, exec (.nvmLock p) s = .next t ∧ Replied 0x23 p stOk [] s t ∧ Leaves { s with fer := { s.fer with regions := t.fer.regions } } t ∧
      t.fer.regions.length = s.fer.regions.length ∧
      ∀ i, regionAt t i = if bit (at_ p.payload 0 2) i then { regionAt s i with runlk := false, wunlk := false } else regionAt s i)

/-- R267, R274, R286, R616: AUTH_NONCE answers 16 bytes of the generator and holds the latest four; IMPORT_SESSION makes an ephemeral key in slot 11 and answers its
public key with an attestation; ATTEST answers a statement on the key named. What the generator gives is free. -/
def Obligations.NonceSessionAttest : Prop :=
  (∀ p s, Ready 0x30 p s → s.cry.halt = false →
    ∃ t, exec (.authNonce p) s = .next t ∧ Replied 0x30 p stOk (peekBytes s 0 16) s t ∧
      Leaves { s with ks := { s.ks with nonces := t.ks.nonces }, drawn := s.drawn + 4, cry := t.cry, regs := t.regs, eng := t.eng } t ∧
      t.ks.nonces = (s.ks.nonces ++ [peekBytes s 0 16]).drop (s.ks.nonces.length + 1 - 4)) ∧
  (∀ p s, Ready 0x33 p s → s.ks.state = .open → s.cry.halt = false →
    ∃ t x, exec (.importSession p) s = .next t ∧
      Leaves { s with ks := { s.ks with slots := t.ks.slots, session := t.ks.session, useClock := t.ks.useClock }, drawn := s.drawn + 19, cry := t.cry, regs := t.regs, eng := t.eng } t ∧
      t.ks.session = some x ∧
      x.d = drawScalar s 0 ∧ x.x ++ x.y = pubOf x.d ∧ x.challenge = slice p.payload 0 16 ∧
      (∃ z, slotOf t 11 = some z ∧ z.ktype = 4 ∧ z.key = be 32 x.d ∧ z.busy = false ∧
        Replied 0x33 p stOk (pubOf x.d ++ attest s 11 z.header.bytes (sha256 (pubOf x.d)) (slice p.payload 0 16)) s t) ∧
      (∀ i, i ≠ 11 → slotOf t i = slotOf s i)) ∧
  (∀ p s h kt key, Ready 0x3C p s → s.ks.state = .open → s.cry.halt = false →
    attestTarget (byteAt p.payload 0) (byteAt p.payload 1) s = .ok (h, kt, key) →
    ∃ t, exec (.attest p) s = .next t ∧ Replied 0x3C p stOk (attest s 0 h.bytes (keyDigest kt key) (slice p.payload 4 16)) s t ∧
      Leaves { s with drawn := s.drawn + 8, cry := t.cry, regs := t.regs, eng := t.eng } t) ∧
  (∀ p s, Ready 0x30 p s → s.cry.halt = true →
    ∃ t, exec (.authNonce p) s = .next t ∧ Replied 0x30 p stHwFault (refusalBytes 0xFFFF 0) s t ∧ Leaves s t)

/-- R273, R277, R279, R280: KEY_LOAD puts the key of a good blob or handle into the slot asked for, or the lowest free host slot, and answers its number; an occupied
slot answers DENIED with CODE 0x0C; KEY_UNLOAD empties the slots of its mask. Other slots stand. R271, R384: a verified credential makes KEY_GEN_BLOB answer a new blob, with the public key of a P-256 key, and KEY_IMPORT_BLOB the blob of imported material. -/
def Obligations.KeySlotsAndBlobs : Prop :=
  ((∀ p s h key src i, Ready 0x38 p s → s.ks.state = .open → loadSource p.payload s = .ok (h, key, src) →
    (if byteAt p.payload 0 = 0xFF then freeSlot s 40 8 = some i else byteAt p.payload 0 = i ∧ slotOf s i = none) →
    ∃ t, exec (.keyLoad p) s = .next t ∧ Replied 0x38 p stOk [byte i, 0, 0, 0] s t ∧
      Leaves { s with ks := { s.ks with slots := t.ks.slots, useClock := s.ks.useClock + 1 } } t ∧
      (∃ z, slotOf t i = some z ∧ z.header = h ∧ z.ktype = h.ktype ∧ z.usage = h.usage ∧ z.key = key ∧ z.handle = src) ∧
      (∀ j, j ≠ i → slotOf t j = slotOf s j)) ∧
  (∀ p s h key src, Ready 0x38 p s → s.ks.state = .open → loadSource p.payload s = .ok (h, key, src) → byteAt p.payload 0 ≠ 0xFF →
    (slotOf s (byteAt p.payload 0)).isSome = true →
    ∃ t, exec (.keyLoad p) s = .next t ∧ Replied 0x38 p stDenied (refusalBytes 0xFFFF 0x0C) s t ∧ Leaves s t) ∧
  (∀ p s, Ready 0x39 p s → (s.ks.state = .open ∨ byteAt p.payload 0 = 0) →
    ∃ t, exec (.keyUnload p) s = .next t ∧ Replied 0x39 p stOk [] s t ∧ Leaves { s with ks := { s.ks with slots := t.ks.slots } } t ∧
      ∀ j, slotOf t j = if 40 ≤ j ∧ bit (byteAt p.payload 0) (j - 40) then none else slotOf s j)) ∧
  ((∀ p s role, Ready 0x32 p s → s.ks.state = .open → s.cry.halt = false → pktCred p = true → (packetCred 0x32 p [.dealer, .fleetHost] s).1 = some role →
    let b := p.payload
    let key := newMaterial s 0 (byteAt b 0)
    let h := newHeader s (byteAt b 0) (at_ b 1 2) (byteAt b 3) true (byteAt b 4) (hostEpoch s (byteAt b 4) (byteAt b 5)) (peekKeyId s 8)
    ∃ t, exec (.keyGenBlob p) s = .next t ∧ Replied 0x32 p stOk (mkBlob s h key ++ pubPart (byteAt b 0) key) s t ∧
      Leaves { s with ks := { s.ks with nonces := t.ks.nonces }, drawn := s.drawn + keyWords, cry := t.cry, regs := t.regs, eng := t.eng } t) ∧
  (∀ p s role m, Ready 0x35 p s → pktCred p = true → (packetCred 0x35 p [.dealer, .fleetHost] s).1 = some role →
    let f := importFields p.payload 1
    let idx := byteAt p.payload 0
    importMaterial f s = .ok m →
    ∃ t, exec (.keyImportBlob p) s = .next t ∧
      Replied 0x35 p stOk (mkBlob s (newHeader s f.ktype f.usage f.attr false idx (hostEpoch s idx f.pend) f.keyId) m) s t ∧
      Leaves { s with ks := { s.ks with nonces := t.ks.nonces, slots := t.ks.slots, session := if f.form = 1 then none else s.ks.session } } t ∧
      (∀ j, slotOf t j = if f.form = 1 ∧ j = 11 then none else slotOf s j)) ∧
  (∀ p s, Ready 0x32 p s → s.ks.state = .open → s.cry.halt = false → pktCred p = false →
    ∃ t, exec (.keyGenBlob p) s = .next t ∧ Replied 0x32 p stDenied (refusalBytes 0xFFFF 7) s t ∧ Leaves s t))

/-- R271, R385: KEY_OP with each of its operations computes over DATA under the slot's key: CMAC, its check, an ECDSA signature, a shared secret or a derived key in the
lowest free host slot, or the named slot's key wrapped. A slot without the usage answers DENIED with CODE 0x05, a failed check with CODE 0x0A. What KEY_OP derives
from ECDH or with an HMAC key is a free function (log 77). -/
def Obligations.KeyOperations : Prop :=
  let data := fun (p : Packet) => slice p.payload 6 (at_ p.payload 4 2)
  (∀ x, ServesRead .cmac 0x3A (fun p s => byteAt p.payload 1 = 1 ∧ KeyOpSlot p 0x07 x s ∧ isAes x = true) (fun p _ => cmac x.key (data p))) ∧
  (∀ x, ServesRead .cmacVerify 0x3A
    (fun p s => byteAt p.payload 1 = 2 ∧ KeyOpSlot p 0x0D x s ∧ isAes x = true ∧
      cmac x.key ((data p).take ((data p).length - 16)) = (data p).drop ((data p).length - 16)) (fun _ _ => [])) ∧
  (∀ x, Answered .cmacVerify 0x3A
    (fun p s => byteAt p.payload 1 = 2 ∧ KeyOpSlot p 0x0D x s ∧ isAes x = true ∧
      cmac x.key ((data p).take ((data p).length - 16)) ≠ (data p).drop ((data p).length - 16))
    (fun _ => stDenied) (fun _ _ => refusalBytes 0xFFFF 0x0A) fun _ s => s) ∧
  (∀ p s x, Ready 0x3A p s → byteAt p.payload 1 = 3 → KeyOpSlot p 0x20 x s → x.ktype = 4 → s.cry.halt = false →
    ∃ t, exec (.sign p) s = .next t ∧ Replied 0x3A p stOk (ecdsaSign (beNat x.key) (drawScalar s 0) (data p)) s t ∧
      Leaves { s with drawn := s.drawn + 8, cry := t.cry, regs := t.regs, eng := t.eng } t) ∧
  (∀ p s x z i, Ready 0x3A p s → byteAt p.payload 1 = 4 → KeyOpSlot p 0x40 x s → x.ktype = 4 → ecdhX (beNat x.key) (data p) = some z → freeSlot s 40 8 = some i →
    ∃ t, exec (.ecdh p) s = .next t ∧ Replied 0x3A p stOk [byte i, 0, 0, 0] s t ∧
      Leaves { s with drawn := s.drawn + 3, ks := { s.ks with slots := t.ks.slots, useClock := s.ks.useClock + 1 } } t ∧
      (∃ y, slotOf t i = some y ∧ y.ktype = 2 ∧ y.key = fit 32 (Config.ecdhKey z)) ∧ (∀ j, j ≠ i → slotOf t j = slotOf s j)) ∧
  (∀ p s x i, Ready 0x3A p s → byteAt p.payload 1 = 5 → KeyOpSlot p 0x40 x s → isAes x = true → freeSlot s 40 8 = some i →
    ∃ t, exec (.derive p) s = .next t ∧ Replied 0x3A p stOk [byte i, 0, 0, 0] s t ∧
      Leaves { s with drawn := s.drawn + 3, ks := { s.ks with slots := t.ks.slots, useClock := s.ks.useClock + 1 } } t ∧
      (∃ y, slotOf t i = some y ∧ y.ktype = 2 ∧ y.key = fit 32 (kdf x.key (Config.deriveInput (data p)).1 (Config.deriveInput (data p)).2 256)) ∧
      (∀ j, j ≠ i → slotOf t j = slotOf s j)) ∧
  (∀ x y, ServesRead .wrap 0x3A
    (fun p s => byteAt p.payload 1 = 6 ∧ KeyOpSlot p 0x10 x s ∧ isAes x = true ∧ slotOf s (byteAt (data p) 0) = some y ∧ bit y.header.attr 1 = false)
    (fun _ _ => aesKwp x.key y.key)) ∧
  (∀ p s x, Ready 0x3A p s → byteAt p.payload 1 = 1 → s.ks.state = .open → slotOf s (byteAt p.payload 0) = some x → x.usage &&& 0x07 = 0 →
    ∃ t, exec (.cmac p) s = .next t ∧ Replied 0x3A p stDenied (refusalBytes 0xFFFF 5) s t ∧
      LeavesEv { s with regs := t.regs, eng := t.eng } t ∧ regFld t 0x40080020 0 16 = min (regFld s 0x40080020 0 16 + 1) 0xFFFF)

/-- R28, R319, R351, R377, R383: CONFIG_SET, TIME_SET, NVM_WRITE and NVM_REGIONS are accepted once check 13 is passed; disabling the journal is refused while a host
record is in use (R322), and a region table with a password in it takes a credential to change (R313). -/
def Obligations.SystemNvmAccepted : Prop :=
  AcceptsSigned .configSet 0x07 (fun _ _ => True)
    (fun p s => if byteAt p.payload 0 = 3 ∧ byteAt p.payload 1 = 0 ∧ journalInUse s then some (stDenied, 8) else none) [.dealer, .fleetHost] ∧
  AcceptsSigned .timeSet 0x08 (fun _ _ => True) (fun _ _ => none) [.dealer, .fleetHost] ∧
  AcceptsPlain .nvmWrite 0x21
    (fun p s => leavesPartition (at_ p.payload 0 4) (at_ p.payload 4 2) = false ∧ (p.options &&& 1 = 1 → p.tag ≠ 0 ∧ s.jrn.enabled = true) ∧
      commitBusy s = false ∧ 0 < at_ p.payload 4 2 ∧ partOf (at_ p.payload 0 4 / 256) = 4)
    (fun p s => regionRefusal true (at_ p.payload 0 4) (at_ p.payload 4 2) s) ∧
  Accepts .nvmRegions 0x25 (fun _ s => commitBusy s = false) (fun _ _ => none) (fun _ _ => [.dealer]) (fun _ s => anyPassword s) (fun _ _ => []) false ∧
  AcceptsSigned .nvmPassword 0x24 (fun p s => (slice p.payload 2 8).any (· != 0) = false ∧ commitBusy s = false) (fun _ s => ksRefusal s) [.dealer] ∧
  (∀ p s v, Ready 0x24 p s → commitBusy s = false → s.ks.state = .open → pktCred p = false → p.tag ≠ 0 → s.jrn.enabled = true → queueUsed s < 32 →
    let n := byteAt p.payload 0
    (pwFails s < 8 ∨ 60000000 ≤ s.fer.pwSince) → ctrRead s 36 = some v → v + 1 < 2 ^ 64 →
    (regionAt s n).verifier.isSome = true → (regionAt s n).verifier = pwVerifier s n (slice p.payload 2 8) →
    ∃ t w, exec (.nvmPassword p) s = .next t ∧ RecordOf 0x24 p [] w ∧ Leaves { s with jrn := t.jrn, fer := t.fer } t ∧
      t.jrn = { s.jrn with accepting := s.jrn.accepting ++ [{ work := w, ret := replyTo 0x24 p s, twins := [] }] } ∧
      ctrRead t 36 = some (v + 1) ∧ t.fer.pwBase = v + 1 ∧ t.fer.regions = s.fer.regions)

/-- R278, R282, R285, R288, R386: the journaled Keys commands and PROVISION are accepted once check 13 is passed. KEY_GEN, an update with a generated key and
COUPLING_KEY fix the KEY_ID, EPOCH_INC its target, as STEP_DATA. Creation asks for a free handle, an update for a valid one and for a KE0 that can still move; the first write of anchor 0 needs no credential, every other does. -/
def Obligations.KeyCommandsAccepted : Prop :=
  let hosts : Packet → State → List CredRole := fun _ _ => [.dealer, .fleetHost]
  let always : Packet → State → Bool := fun _ _ => true
  let keyId : Packet → State → Bytes := fun _ s => le 8 (peekKeyId s 0)
  Accepts .keyGen 0x31 (fun _ _ => True) (fun p s => (createRefusal (byteAt p.payload 0) s).or (randomRefusal s)) hosts always keyId true ∧
  AcceptsSigned .keyImport 0x34 (fun _ _ => True)
    (fun p s => (createRefusal (byteAt p.payload 0) s).or (importRefusal (importFields p.payload 1) s)) [.dealer, .fleetHost] ∧
  Accepts .keyUpdate 0x36 (fun p _ => byteAt p.payload 1 ≠ 1) (fun p s => (updateRefusal (byteAt p.payload 0) s).or (randomRefusal s)) hosts always keyId true ∧
  AcceptsSigned .keyUpdate 0x36 (fun p _ => byteAt p.payload 1 = 1)
    (fun p s => (updateRefusal (byteAt p.payload 0) s).or (importRefusal (importFields p.payload 2) s)) [.dealer, .fleetHost] ∧
  AcceptsSigned .keyDestroy 0x37 (fun p _ => byteAt p.payload 0 ≠ 0) (fun _ s => ksRefusal s) [.dealer, .fleetHost] ∧
  Accepts .epochInc 0x3B (fun p s => ∃ v, ctrRead s (byteAt p.payload 0) = some v ∧ v + 1 < 2 ^ 64) (fun _ s => ksRefusal s) hosts always
    (fun p s => le 8 (epochOf s (byteAt p.payload 0) + 1)) false ∧
  AcceptsSigned .debugMode 0x3D (fun _ _ => True) (fun _ _ => none) [.service] ∧
  Accepts .anchorSet 0x3E (fun _ _ => True) (fun _ _ => none) (fun _ _ => [.dealer])
    (fun p s => !(byteAt p.payload 0 == 0 && (writtenAnchor s 0).isNone && (metaOf s 1028).readable)) (fun _ _ => []) false ∧
  Accepts .couplingKey 0x3F (fun p _ => byteAt p.payload 0 = 1) (fun _ s => (replaceRefusal 192 s).or (randomRefusal s)) hosts always keyId true ∧
  AcceptsSigned .couplingCert 0x3F (fun p _ => byteAt p.payload 0 = 2) (fun p s => certRefusal (slice p.payload 4 148) s) [.dealer, .fleetHost] ∧
  AcceptsSigned .immoKey 0x3F (fun p _ => byteAt p.payload 0 = 3) (fun p s => immoRefusal (importFields p.payload 4) s) [.dealer, .fleetHost]

/-- R386, R387, R388, R395, R396: the journaled LF, Radio, Ranging, Bus, Engine and Diagnostic commands are accepted once check 13 is passed: RANGE on an ACTIVE T3 or
phone record, ENG_LOAD from an image region, TAMPER_CLEAR while no sensor asserts. A zero mask or count is answered at once instead (R398). -/
def Obligations.RadioBusDiagAccepted : Prop :=
  AcceptsPlain .lfTest 0x40 (fun _ _ => True) (fun _ _ => none) ∧
  AcceptsPlain .radioCal 0x50 (fun _ _ => True) (fun _ _ => none) ∧
  AcceptsPlain .radioSave 0x52 (fun p _ => byteAt p.payload 0 ≠ 0) (fun _ _ => none) ∧
  AcceptsPlain .modelSet 0x60 (fun _ _ => True) (fun _ _ => none) ∧
  AcceptsPlain .range 0x62 (fun p _ => byteAt p.payload 1 ≠ 0) (fun p s => rangeRefusal (byteAt p.payload 0) s) ∧
  AcceptsSigned .rangeSave 0x63 (fun _ _ => True) (fun _ _ => none) [.dealer] ∧
  AcceptsPlain .busSave 0x94 (fun p _ => byteAt p.payload 0 ≠ 0) (fun _ _ => none) ∧
  AcceptsPlain .engLoad 0xA0 (fun _ _ => True) (fun p s => engLoadRefusal p.payload s) ∧
  Accepts .tamperClear 0xC2 (fun _ s => s.saf.raw = 0) (fun _ _ => none) (fun _ _ => [.dealer, .service]) (fun _ _ => true)
    (fun _ s => le 4 (s.saf.latched ||| s.saf.vigil).toNat) false ∧
  ServesRead .radioSave 0x52 (fun p _ => byteAt p.payload 0 = 0) (fun _ _ => []) ∧
  ServesRead .busSave 0x94 (fun p _ => byteAt p.payload 0 = 0) (fun _ _ => [])

/-- R371, R389, R390, R391: DECIDE, ENROL, REVOKE, RECORD_STATE and the items of ACCESS_SET are accepted once check 13 is passed. DECIDE is refused in the trailer role;
revoking the last ACTIVE record of profile 0, and raising the enrolment limit, take a dealer; suspending takes no credential. R392, R393, R398: the journaled Coupling and sensing commands are accepted, with a role set, once check 13 is passed; those with a zero count are answered at once. -/
def Obligations.AccessSensingAccepted : Prop :=
  (let hosts : List CredRole := [.dealer, .fleetHost]
  AcceptsPlain .decide 0x70 (fun _ _ => True) (fun _ s => if s.cfg.role = .trailer then some (stDenied, 8) else none) ∧
  Accepts .enrol 0x72 (fun _ _ => True) (fun p s => enrolRefusal (pktBody p) s) (fun _ _ => [.dealer]) (fun p _ => !enrolMaster (pktBody p)) (fun _ _ => []) false ∧
  Accepts .revoke 0x73 (fun _ _ => True) (fun p s => revokeRefusal (byteAt (pktBody p) 1 == 0) (pktBody p) s)
    (fun p s => if lastOfZero (byteAt (pktBody p) 0) s then [.dealer] else hosts) (fun p _ => byteAt (pktBody p) 1 == 0) (fun _ _ => []) false ∧
  Accepts .recordState 0x74 (fun _ _ => True) (fun p s => tokenRefusal (byteAt (pktBody p) 0) s) (fun _ _ => hosts)
    (fun p _ => byteAt (pktBody p) 1 == 1) (fun _ _ => []) false ∧
  AcceptsSigned .override 0x75 (fun p _ => byteAt p.payload 0 = 1) (fun _ _ => none) hosts ∧
  AcceptsSigned .trlOwnList 0x75 (fun p _ => byteAt p.payload 0 = 2) (fun _ _ => none) hosts ∧
  AcceptsSigned .lockedAns 0x75 (fun p _ => byteAt p.payload 0 = 3) (fun _ _ => none) hosts ∧
  AcceptsSigned .endCurfew 0x75 (fun p _ => byteAt p.payload 0 = 4) (fun _ _ => none) hosts ∧
  AcceptsSigned .clearSloFault 0x75 (fun p _ => byteAt p.payload 0 = 5) (fun _ _ => none) hosts ∧
  AcceptsSigned .profilePolicy 0x75 (fun p _ => byteAt p.payload 0 = 6) (fun _ _ => none) hosts ∧
  Accepts .enrolLimit 0x75 (fun p _ => byteAt p.payload 0 = 7) (fun p s => limitRefusal (at_ p.payload 4 4) s)
    (fun p s => if s.acc.enrolLimit < at_ p.payload 4 4 then [.dealer] else hosts) (fun _ _ => true) (fun _ _ => []) false) ∧
  (AcceptsPlain .couple 0x80 (fun p s => (cplUnits s).contains (byteAt p.payload 0) = true) (fun _ _ => none) ∧
  AcceptsPlain .decouple 0x81 (fun p s => (cplUnits s).contains (byteAt p.payload 0) = true) (fun _ _ => none) ∧
  AcceptsSigned .partnerList 0x83 (fun p _ => byteAt (pktBody p) 2 ≠ 0) (fun p s => partnerRefusal (pktBody p) s) [.dealer] ∧
  AcceptsPlain .rosterAdd 0x84 (fun p _ => byteAt p.payload 0 ≠ 0) (fun _ _ => none) ∧
  AcceptsPlain .rosterRemove 0x85 (fun p _ => byteAt p.payload 0 ≠ 0) (fun _ _ => none) ∧
  AcceptsPlain .wheelSet 0x86 (fun _ _ => True) (fun p s => sensorRefusal (byteAt p.payload 0) s) ∧
  AcceptsPlain .locate 0x87 (fun _ s => byteAt s.sns.model 1 ≠ 0) (fun _ _ => none) ∧
  AcceptsPlain .wheelModelSet 0x88 (fun _ _ => True) (fun _ _ => none) ∧
  AcceptsPlain .s1Learn 0x89 (fun _ s => regBit s 0x40070100 1 = true) (fun _ _ => none) ∧
  AcceptsPlain .sensorSet 0x8C (fun _ _ => True) (fun p s => sensorRefusal (byteAt p.payload 0) s) ∧
  ServesRead .rosterAdd 0x84 (fun p _ => byteAt p.payload 0 = 0) (fun _ _ => zeros 4) ∧
  ServesRead .rosterRemove 0x85 (fun p _ => byteAt p.payload 0 = 0) (fun _ _ => zeros 4) ∧
  Answered .couple 0x80 (fun p s => (cplUnits s).contains (byteAt p.payload 0) = false) (fun _ => stBadField) (fun _ _ => refusalBytes 0 3) (fun _ s => s) ∧
  Answered .locate 0x87 (fun p s => byteAt s.sns.model 1 = 0 ∧ p.tag ≠ 0 ∧ queueUsed s < 32) (fun _ => stBadField) (fun _ _ => refusalBytes 0xFFFF 3) (fun _ s => s))


/-- R116, R117, R118, R387, R388, R398: LF_RETEST sets the tests asked for and clears the latched flags of its channels; LF_TABLE writes mask and currents, live at once when
no telegram runs; LF_OFFSET_CAL measures and answers the offsets, which are free; RADIO_TX queues one frame and its reply follows the descriptor's end; an
empty frame sends nothing. -/
def Obligations.LfRadioCommands : Prop :=
  (∀ p s, Ready 0x41 p s → ∃ t, exec (.lfRetest p) s = .next t ∧ Replied 0x41 p stOk [] s t ∧ Leaves { s with lf := t.lf, regs := t.regs } t ∧
    t.lf = { s.lf with retest := t.lf.retest, shortRetest := t.lf.shortRetest, openRun := t.lf.openRun, detuneRun := t.lf.detuneRun } ∧
    (∀ n < 8, let short := regBit s (lfCh n 0xC) 1 || regBit s (lfCh n 0xC) 2
      bit t.lf.retest.toNat n = (bit s.lf.retest.toNat n || (bit (byteAt p.payload 0) n && (regBit s (lfCh n 0xC) 0 || !short))) ∧
      bit t.lf.shortRetest.toNat n = (bit s.lf.shortRetest.toNat n || (bit (byteAt p.payload 0) n && short))) ∧
    (∀ n < 8, regGet t (lfCh n 0xC) = if bit (byteAt p.payload 0) n then regGet s (lfCh n 0xC) &&& 0xFFFFFFF0 else regGet s (lfCh n 0xC)) ∧
    RegsBut ((List.range 8).map fun n => lfCh n 0xC) s t) ∧
  (∀ p s, Ready 0x43 p s → s.lf.telegram = none →
    ∃ t, exec (.lfTable p) s = .next t ∧ Replied 0x43 p stOk [] s t ∧ Leaves { s with lf := t.lf, regs := t.regs } t ∧
      t.lf = { s.lf with live := { mask := byte (byteAt p.payload 0), cur := (List.range 8).map fun n => byteAt p.payload (4 + n) }, staged := none } ∧
      regFld t 0x40020808 0 8 = byteAt p.payload 0 ∧ (∀ n < 8, regFld t (lfCh n 4) 0 8 = byteAt p.payload (4 + n)) ∧
      RegsBut (0x40020808 :: (List.range 8).map fun n => lfCh n 4) s t) ∧
  (∀ p s, Ready 0x43 p s → s.lf.telegram ≠ none →
    ∃ t, exec (.lfTable p) s = .next t ∧ Replied 0x43 p stOk [] s t ∧ t.lf.live = s.lf.live ∧
      t.lf.staged = some { mask := byte (byteAt p.payload 0), cur := (List.range 8).map fun n => byteAt p.payload (4 + n) }) ∧
  (∀ p s, Ready 0x42 p s → s.lf.telegram = none → s.lf.isofsReply = [] →
    let v := fun n => fld (peek s n).toNat 0 12
    ∃ t, exec (.lfOffsetCal p) s = .next t ∧ Replied 0x42 p stOk ((List.range 8).flatMap fun n => le 2 (wrap 16 (signed 12 (v n)))) s t ∧
      Leaves { s with lf := { s.lf with isofsDue := false }, drawn := s.drawn + 8, regs := t.regs } t ∧
      (∀ n < 8, regGet t (lfCh n 0x18) = word (v n)) ∧ regBit t 0x40030080 8 = true ∧ RegsBut (0x40030080 :: (List.range 8).map fun n => lfCh n 0x18) s t) ∧
  (∀ p s, Ready 0x42 p s → s.lf.telegram ≠ none →
    ∃ t, exec (.lfOffsetCal p) s = .next t ∧ Awaits 0x42 p s t ∧
      Leaves { s with lf := { s.lf with isofsDue := true, isofsReply := s.lf.isofsReply ++ [replyTo 0x42 p s] } } t) ∧
  (∀ p s d, Ready 0x51 p s →
    let b := p.payload
    let h : Bool := byteAt b 0 = 1
    let n := at_ b 12 2
    let top := txBufTop s h
    n ≠ 0 → (byteAt b 3 = 1 → atTooFar s (at_ b 8 4) = false) → freeDesc s h = some d → top + n ≤ 512 →
    ∃ t, exec (.radioTx p) s = .next t ∧ Awaits 0x51 p s t ∧ Leaves { s with rad := t.rad, regs := t.regs } t ∧
      t.rad.jobs = s.rad.jobs ++ [{ bandH := h, desc := d, ret := replyTo 0x51 p s, ts := 0xFFFFFFFF }] ∧
      (bandOf t h).order = (bandOf s h).order ++ [d] ∧ (bandOf t h).sending = (bandOf s h).sending ∧ bandOf t (!h) = bandOf s (!h) ∧
      slice (bandOf t h).buf top n = slice b 14 n ∧
      regFld t (txdAddr h d 4) 0 9 = top ∧ regFld t (txdAddr h d 4) 16 10 = n ∧ regGet t (txdAddr h d 8) = word (at_ b 8 4) ∧
      regBit t (txdAddr h d 0) 0 = true ∧ regFld t (txdAddr h d 0) 1 2 = byteAt b 3 % 4) ∧
  ServesRead .radioTx 0x51 (fun p s => at_ p.payload 12 2 = 0 ∧ (byteAt p.payload 3 = 1 → atTooFar s (at_ p.payload 8 4) = false)) (fun _ _ => le 4 0xFFFFFFFF)

/-- R64, R72, R77, R86, R189, R392, R394, R397: the queries of models, decisions, tokens, lists, couplings, sensors, histories and fault records answer what is held and
change nothing; those of the Access family answer with CURFEW during Curfew. With no field model held, zeros (log 83). -/
def Obligations.QueriesAnswer : Prop :=
  let curfew : State → Byte := fun s => if s.acc.curfew then stCurfew else stOk
  let same : Packet → State → State := fun _ s => s
  ServesRead .modelGet 0x61 (fun _ _ => True) (fun _ s => fit 136 s.rng.model) ∧
  ServesRead .range 0x62 (fun p _ => byteAt p.payload 1 = 0) (fun _ _ => [0xFF, 0xFF, 0xFF, 0, 0xFF, 0xFF, 0xFF, 0xFF, 0xFF, 0, 0xFF, 0xFF]) ∧
  Answered .decisionLog 0x71 (fun _ _ => True) curfew
    (fun p s => ((s.acc.ring.filter fun x => decide (at_ p.payload 0 4 ≤ x.num.toNat)).take (byteAt p.payload 4)).flatMap DecRecord.bytes) same ∧
  Answered .tokenRead 0x76 (fun _ _ => True) curfew
    (fun p s => (List.range (byteAt p.payload 1)).flatMap fun i => tokenBytes s (byteAt p.payload 0 + i)) same ∧
  Answered .denyRead 0x77 (fun _ _ => True) curfew (fun _ s => [byte s.acc.denylist.length, 0, 0, 0] ++ s.acc.denylist.flatMap fun i => le 8 i.toNat) same ∧
  ServesRead .couplingQuery 0x82 (fun p s => byteAt p.payload 0 = 0 ∨ (cplUnits s).contains (byteAt p.payload 0) = true) (fun p s =>
    ((cplUnits s).filter fun u => decide (byteAt p.payload 0 = 0 ∨ u = byteAt p.payload 0)).flatMap fun u =>
      [byte u, 0, 0, 0] ++ le 4 (cplWord s u) ++ le 8 (unitOf s u).partner.toNat ++ le 4 (cplBound (unitOf s u))) ∧
  ServesRead .sensorRead 0x8A (fun _ _ => True) (fun p s => (List.range (byteAt p.payload 1)).flatMap fun j =>
    match snsOf s (byteAt p.payload 0 + j) with
    | some x => le 4 (snsPosWord s x) ++ le 4 (snsValWord x) ++ le 4 x.id.toNat
    | none => zeros 12) ∧
  ServesRead .historyRead 0x8B (fun _ _ => True) (fun p s => historyOf (byteAt p.payload 0) (byteAt p.payload 2) (byteAt p.payload 3) s) ∧
  ServesRead .faultRead 0xC0 (fun _ _ => True)
    (fun p s => (((s.saf.faults.drop (at_ p.payload 0 2)).take (byteAt p.payload 2)).map FaultRec.bytes).flatten)

/-- R395, R396, R398, R501, R513, R516: CAN_TX places a frame in the lowest free host buffer and requests it, its reply given at once with TMO_MS 0; CAN_RX answers and pops the
frames of FIFO 1; PLC_TX and LIN_XFER queue their message, whose reply comes later; an identifier the device sends itself answers DENIED at ID. The message form
of PLC_TX and the checksum of LIN_XFER are the model's reading (log 85). -/
def Obligations.BusCommands : Prop :=
  (∀ p s n, Ready 0x90 p s →
    let b := p.payload
    let bus := byteAt b 0
    let fl := byteAt b 1
    ownIdent s bus (bit fl 0) (at_ b 4 4) = false → (bit fl 1 = true → regBit s (canBase bus + 0x1C) 0 = true) →
    (canOf s bus).faulted = false → (canOf s bus).state ≠ .busOff → [12, 13, 14, 15].find? (fun n => !(canOf s bus).pend.contains n) = some n →
    ∃ t, exec (.canTx p) s = .next t ∧ (byteAt b 3 = 0 → Replied 0x90 p stOk (le 4 0xFFFFFFFF) s t) ∧ (byteAt b 3 ≠ 0 → Awaits 0x90 p s t) ∧
      Leaves { s with regs := t.regs, bus := t.bus } t ∧
      (canOf t bus).pend = (canOf s bus).pend ++ [n] ∧ (canOf t bus).jobs = (canOf s bus).jobs ++
        [{ buffer := n, ret := if byteAt b 3 = 0 then none else some (replyTo 0x90 p s), due := s.power.clkUs + word (1000 * byteAt b 3) }] ∧
      (∀ c, c ≠ bus → c < 2 → canOf t c = canOf s c) ∧ regGet t (txbAddr bus n + 4) = word (at_ b 4 4) ∧ regFld t (txbAddr bus n) 0 4 = byteAt b 2 % 16 ∧
      (∀ w < 16, regGet t (txbAddr bus n + 8 + 4 * w) = word (at_ (b.drop 8) (4 * w) 4)) ∧
      RegsBut ((List.range 18).map fun w => txbAddr bus n + 4 * w) s t) ∧
  Answered .canTx 0x90 (fun p s => ownIdent s (byteAt p.payload 0) (bit (byteAt p.payload 1) 0) (at_ p.payload 4 4) = true) (fun _ => stDenied)
    (fun _ _ => refusalBytes 4 6) (fun _ s => s) ∧
  (∀ p s, Ready 0x91 p s →
    let bus := byteAt p.payload 0
    let l := (canOf s bus).rx1.take (byteAt p.payload 1)
    let n := canFit l 2044
    ∃ t, exec (.canRx p) s = .next t ∧ Replied 0x91 p stOk ([byte n, 0, 0, 0] ++ ((l.take n).map canEntry).flatten) s t ∧
      Leaves { s with bus := t.bus } t ∧ (canOf t bus).rx1 = (canOf s bus).rx1.drop n ∧ (canOf t bus).rx0 = (canOf s bus).rx0 ∧
      (∀ c, c ≠ bus → c < 2 → canOf t c = canOf s c)) ∧
  (∀ p s, Ready 0x92 p s →
    ∃ t, exec (.plcTx p) s = .next t ∧ Awaits 0x92 p s t ∧ Leaves { s with bus := { s.bus with plcTx := s.bus.plcTx ++
      [{ msg := { mid := byteAt p.payload 0, prio := byteAt p.payload 1, data := slice p.payload 4 (byteAt p.payload 2), ts := s.power.clkUs },
         host := some (replyTo 0x92 p s) }] } } t) ∧
  (∀ p s, Ready 0x93 p s →
    ∃ t j, exec (.linXfer p) s = .next t ∧ Awaits 0x93 p s t ∧ Leaves { s with bus := { s.bus with linJob := s.bus.linJob ++ [j] } } t ∧
      j.pid = byte (byteAt p.payload 0) ∧ (j.publish = true ↔ byteAt p.payload 1 = 0) ∧ j.len = byteAt p.payload 2 ∧
      j.data = slice p.payload 4 (byteAt p.payload 2) ∧ j.host = some (replyTo 0x93 p s))

/-- R395, R396, R398, R420, R421, R424, R432: ENG_CTRL halts an OEM engine in Siesta, runs it when its image is verified, or resets it, and answers the state reached; MBX_WRITE
posts a message to the engine, MBX_READ takes the oldest one to the host; UCODE_WRITE stores microcode entries of an engine in Siesta and is denied otherwise. -/
def Obligations.EngineCommands : Prop :=
  (∀ p s, Ready 0xA1 p s → byteAt p.payload 1 = 0 → (engOf s (engNo (byteAt p.payload 0))).state = .run →
    let k := engNo (byteAt p.payload 0)
    ∃ t, exec (.engCtrl p) s = .next t ∧ Replied 0xA1 p stOk [byte EngState.siesta.code, 0, 0, 0] s t ∧
      Leaves { s with eng := s.eng.set k { (engOf s k) with state := .siesta, forced := true } } t) ∧
  (∀ p s, Ready 0xA1 p s → byteAt p.payload 1 = 1 → (engOf s (engNo (byteAt p.payload 0))).pmemValid = true →
    (engOf s (engNo (byteAt p.payload 0))).state = .reset →
    let k := engNo (byteAt p.payload 0)
    ∃ t, exec (.engCtrl p) s = .next t ∧ Replied 0xA1 p stOk [byte EngState.run.code, 0, 0, 0] s t ∧
      Leaves { s with eng := s.eng.set k { (engOf s k) with state := .run, pc := 0x0010 } } t) ∧
  Answered .engCtrl 0xA1 (fun p s => byteAt p.payload 1 = 1 ∧ (engOf s (engNo (byteAt p.payload 0))).pmemValid = false) (fun _ => stDenied)
    (fun _ _ => refusalBytes 0xFFFF 8) (fun _ s => s) ∧
  (∀ p s, Ready 0xA1 p s → byteAt p.payload 1 = 2 → (engOf s (engNo (byteAt p.payload 0))).stores = [] →
    let k := engNo (byteAt p.payload 0)
    ∃ t, exec (.engCtrl p) s = .next t ∧ Replied 0xA1 p stOk [byte EngState.reset.code, 0, 0, 0] s t ∧ Leaves { s with regs := t.regs, eng := t.eng } t ∧
      (engOf t k).state = .reset ∧ (engOf t k).pmem = (engOf s k).pmem ∧ (engOf t k).pmemValid = (engOf s k).pmemValid ∧ (engOf t k).inbox = []) ∧
  (∀ p s, Ready 0xA2 p s →
    let k := engNo (byteAt p.payload 0)
    let n := at_ p.payload 2 2
    0 < n → (engOf s k).inbox.length < 4 →
    ∃ t, exec (.mbxWrite p) s = .next t ∧ Replied 0xA2 p stOk [] s t ∧ Leaves { s with eng := t.eng } t ∧
      (engOf t k).inbox = (engOf s k).inbox ++ [{ src := 12, data := slice p.payload 4 n }] ∧
      ((engOf s k).inbox = [] → wbit (engOf t k).evtPend 0 = true) ∧ (∀ j, j ≠ k → engOf t j = engOf s j)) ∧
  ServesRead .mbxWrite 0xA2 (fun p _ => at_ p.payload 2 2 = 0) (fun _ _ => []) ∧
  (∀ p s m l, Ready 0xA3 p s → (engOf s (engNo (byteAt p.payload 0))).hostBox = m :: l →
    let k := engNo (byteAt p.payload 0)
    ∃ t, exec (.mbxRead p) s = .next t ∧ Replied 0xA3 p stOk (le 2 m.data.length ++ m.data) s t ∧ Leaves { s with eng := t.eng } t ∧
      (engOf t k).hostBox = l ∧ (∀ j, j ≠ k → engOf t j = engOf s j)) ∧
  ServesRead .mbxRead 0xA3 (fun p s => (engOf s (engNo (byteAt p.payload 0))).hostBox = []) (fun _ _ => [0, 0]) ∧
  (∀ p s, Ready 0xA4 p s → (engOf s (engNo (byteAt p.payload 0))).state = .siesta →
    let k := engNo (byteAt p.payload 0)
    let o := at_ p.payload 2 2
    let n := at_ p.payload 4 2
    ∃ t, exec (.ucodeWrite p) s = .next t ∧ Replied 0xA4 p stOk [] s t ∧ Leaves { s with eng := t.eng, saf := t.saf } t ∧
      (s.saf.inject = none → t.saf = s.saf) ∧
      (∀ i, ucOf (engOf t k) i = if o ≤ i ∧ i < o + n then at_ (p.payload.drop 6) (5 * (i - o)) 5 else ucOf (engOf s k) i) ∧
      (∀ j, j ≠ k → engOf t j = engOf s j)) ∧
  Answered .ucodeWrite 0xA4 (fun p s => 0 < at_ p.payload 4 2 ∧ (engOf s (engNo (byteAt p.payload 0))).state ≠ .siesta) (fun _ => stDenied)
    (fun _ _ => refusalBytes 0xFFFF 8) (fun _ s => s)

/-- R395, R396, R478, R479, R481, R489: TMR_READ answers a counter with the compare values and late values of its four units and ends their CAP_FULL; TMR_ARM arms a unit of
counter 7 and refuses any other unit at UNIT; TMR_CFG sets prescaler and source of counter 7 and starts or stops it. R371, R398, R536: INJECT, under a credential of a dealer or the service role, or with the test root without one, makes a live injection pend, or runs the ECC count of
a memory at once; it answers DENIED with CODE 0x08 while one pends and 0x07 without a needed credential. KEY_DESTROY and PARTNER_LIST with nothing to do
answer at once under their credential. -/
def Obligations.TimerAndInjectCommands : Prop :=
  ((∀ p s, Ready 0xB0 p s →
    let c := byteAt p.payload 0
    ∃ t, exec (.tmrRead p) s = .next t ∧
      Replied 0xB0 p stOk (le 4 (ctOf s c).count.toNat ++
        (((List.range 4).map (4 * c + ·)).map fun u => le 4 (regGet s (cmpAddr u)).toNat ++ le 4 (unOf s u).lateVal.toNat).flatten) s t ∧
      Leaves { s with tmb := { s.tmb with units := t.tmb.units } } t ∧
      (∀ u < 32, s.tmb.units.length = 32 → unOf t u = if 4 * c ≤ u ∧ u < 4 * c + 4 then { unOf s u with capFull := false } else unOf s u)) ∧
  (∀ p s, Ready 0xB1 p s →
    let u := byteAt p.payload 0
    let a := byteAt p.payload 1
    28 ≤ u → a < 64 → (bit a 5 = true → at_ p.payload 4 4 ≤ 0x80000000) → s.tmb.units.length = 32 →
    ∃ t, exec (.tmrArm p) s = .next t ∧ Replied 0xB1 p stOk [] s t ∧ Leaves { s with tmb := { s.tmb with units := t.tmb.units }, regs := t.regs } t ∧
      (unOf t u).armed = true ∧ (∀ v, v ≠ u → unOf t v = unOf s v) ∧ regGet t (cmpAddr u) = word (at_ p.payload 4 4) ∧
      regFld t (ucfgAddr u) 0 2 = 1 ∧ regFld t (ucfgAddr u) 4 3 = 7 ∧ regFld t (ucfgAddr u) 8 8 = a ∧ regFld t (ucfgAddr u) 16 5 = regFld s (ucfgAddr u) 16 5 ∧
      RegsBut [cmpAddr u, ucfgAddr u] s t) ∧
  Answered .tmrArm 0xB1 (fun p _ => byteAt p.payload 0 < 28) (fun _ => stDenied) (fun _ _ => refusalBytes 0 6) (fun _ s => s) ∧
  (∀ p s, Ready 0xB2 p s → s.tmb.counters.length = 8 → (ctOf s 7).run = false →
    let v := word (at_ p.payload 0 2 + 512 * byteAt p.payload 2)
    ∃ t, exec (.tmrCfg p) s = .next t ∧ Replied 0xB2 p stOk [] s t ∧ Leaves { s with tmb := { s.tmb with counters := t.tmb.counters }, regs := t.regs } t ∧
      regGet t 0x400B0074 = v ∧ RegsBut [0x400B0074] s t ∧ (ctOf t 7).live = v ∧ (ctOf t 7).run = (byteAt p.payload 3 == 1) ∧
      (∀ c, c ≠ 7 → ctOf t c = ctOf s c)) ∧
  (∀ p s, Ready 0xB2 p s → s.tmb.counters.length = 8 → (ctOf s 7).run = true → byteAt p.payload 3 = 1 →
    ∃ t, exec (.tmrCfg p) s = .next t ∧ Replied 0xB2 p stOk [] s t ∧ (ctOf t 7).run = true ∧ (ctOf t 7).live = (ctOf s 7).live ∧
      (ctOf t 7).staged = some (word (at_ p.payload 0 2 + 512 * byteAt p.payload 2)))) ∧
  (let allowed := fun (p : Packet) (s : State) =>
    if pktCred p then (packetCred 0xC1 p [.dealer, .service] s).1.isSome = true else s.ks.testRoot = true
  (∀ p s, Ready 0xC1 p s →
    let det := at_ p.payload 0 2
    let par := at_ p.payload 2 2
    paramOk det par = true → s.saf.inject = none → allowed p s → (det ≤ 3 → bit par 15 = true) → det ≠ 5 →
    ∃ t, exec (.inject p) s = .next t ∧ Replied 0xC1 p stOk [0, 0, 0xFF, 0xFF] s t ∧
      Leaves { s with ks := { s.ks with nonces := t.ks.nonces }, regs := t.regs, saf := t.saf } t ∧
      t.saf = { s.saf with inject := some { detector := det, param := par, acted := false, addr := none } } ∧
      regGet t 0x40100030 = word (det + 65536 * par) ∧ regGet t 0x40100038 = 0xFFFF0000 ∧ RegsBut [0x40100030, 0x40100038] s t) ∧
  (∀ p s, Ready 0xC1 p s →
    let par := at_ p.payload 2 2
    at_ p.payload 0 2 = 1 → paramOk 1 par = true → s.saf.inject = none → allowed p s → bit par 15 = false → bit par 14 = false →
    ∃ t, exec (.inject p) s = .next t ∧ Replied 0xC1 p stOk [1, 1, 0xFF, 0xFF] s t ∧ t.saf.inject = none ∧
      regFld t 0x40100044 0 16 = min (regFld s 0x40100044 0 16 + 1) 0xFFFF ∧ regBit t 0x40100004 3 = true) ∧
  Answered .inject 0xC1 (fun p s => paramOk (at_ p.payload 0 2) (at_ p.payload 2 2) = true ∧ s.saf.inject ≠ none) (fun _ => stDenied)
    (fun _ _ => refusalBytes 0xFFFF 8) (fun _ s => s) ∧
  Answered .inject 0xC1
    (fun p s => paramOk (at_ p.payload 0 2) (at_ p.payload 2 2) = true ∧ s.saf.inject = none ∧ pktCred p = false ∧ s.ks.testRoot = false)
    (fun _ => stDenied) (fun _ _ => refusalBytes 0xFFFF 7) (fun _ s => s) ∧
  Answered .inject 0xC1 (fun p _ => paramMask (at_ p.payload 0 2) = none) (fun _ => stBadField) (fun _ _ => refusalBytes 0 2) (fun _ s => s) ∧
  (∀ p s role, Ready 0x37 p s → byteAt p.payload 0 = 0 → pktCred p = true → (packetCred 0x37 p [.dealer, .fleetHost] s).1 = some role →
    ∃ t, exec (.keyDestroy p) s = .next t ∧ Replied 0x37 p stOk [] s t ∧ Leaves { s with ks := { s.ks with nonces := t.ks.nonces } } t) ∧
  (∀ p s role, Ready 0x83 p s → byteAt (pktBody p) 2 = 0 → pktCred p = true → (packetCred 0x83 p [.dealer] s).1 = some role →
    ∃ t, exec (.partnerList p) s = .next t ∧
      Replied 0x83 p stOk [byte (if byteAt (pktBody p) 0 = 0 then s.cpl.allow else s.cpl.deny).length, 0, 0, 0] s t ∧
      Leaves { s with ks := { s.ks with nonces := t.ks.nonces } } t))


/-! ### Acceptance and work -/

/-- R28, R319: when both copies of an acceptance commit have read back, each of the commands whose records it holds, at most four, becomes ACCEPTED work with the next sequence number, in the
order in which they came, and its port hears ACCEPTED with that number; the pages of their payloads and the copies of their records are committed; a command that came later waits for a commit of its own, and one whose record did not verify is not accepted (it is told
HW_FAULT, the model's choice, log 120). R32, R36, R37: the first accepted command starts; one that shares an object with an earlier one that has not completed waits, one whose engine restarts (R41), and
one accepted after a command that has not started. Work with nothing to set going just starts to
run, NVM_WRITE puts its pages to commit in ascending order, unless it cannot encrypt them (R316). -/
def Obligations.AcceptanceAndStart : Prop :=
  ((∀ rb s a l more, running s = true → s.LinkInv → (engOf s 8).restartDue = false → s.fer.commits = { kind := .acceptance (l.length + 1), addr := 0, data := [] } :: more →
    s.jrn.accepting.take (l.length + 1) = a :: l → l.length < 4 → a.twins = [] → rb.a ≠ 2 → rb.b ≠ 2 → more.all (fun c => !c.unsealed s) = true →
    ∃ t, exec (.pageCommitDone rb) s = .next t ∧
      t.jrn = { s.jrn with
        accepting := s.jrn.accepting.drop (l.length + 1), nextSeq := s.jrn.nextSeq + 1 + l.length
        works := s.jrn.works ++ ((a :: l).zipIdx.map fun x => { x.1.work with seq := s.jrn.nextSeq + x.2 })
        copies := t.jrn.copies } ∧
      t.fer = { s.fer with commits := more, gap := !more.isEmpty, pages := t.fer.pages } ∧ t.ks = s.ks ∧ t.acc = s.acc ∧ t.sns = s.sns ∧ RegsBut [0x4009000C] s t ∧
      (∀ g, (∀ x ∈ a :: l, g ∉ areaPages x.work) → metaOf t g = metaOf s g) ∧
      (∀ n, (∀ x ∈ a :: l, x.work.recNo ≠ n) → metaIn t.jrn.copies n = metaIn s.jrn.copies n)) ∧
  (∀ rb s a l, running s = true → s.LinkInv → (engOf s 8).restartDue = false → s.fer.commits = [{ kind := .acceptance 1, addr := 0, data := [] }] → s.jrn.accepting = [a] → a.twins = [] →
    a.ret.port = .hcs0 → s.link.hcs0.opn = { ret := a.ret, room := l, pkt := none } :: [] → s.link.hcs0.outq = [] → rb.a ≠ 2 → rb.b ≠ 2 →
    ∃ t, exec (.pageCommitDone rb) s = .next t ∧ t.link.hcs0.outq = [replyPkt a.ret stAccepted (le 8 s.jrn.nextSeq) false] ∧ t.link.hcs0.opn = []) ∧
  (∀ rb s a l, running s = true → s.LinkInv → (engOf s 8).restartDue = false → s.fer.commits = [{ kind := .acceptance 1, addr := 0, data := [] }] → s.jrn.accepting = [a] → a.twins = [] →
    a.ret.port = .hcs0 → s.link.hcs0.opn = { ret := a.ret, room := l, pkt := none } :: [] → s.link.hcs0.outq = [] → (rb.a = 2 ∨ rb.b = 2) →
    ∃ t, exec (.pageCommitDone rb) s = .next t ∧ replyPkt a.ret stHwFault (refusalBytes 0xFFFF 0x08) false ∈ t.link.hcs0.outq ∧ t.link.hcs0.opn = [] ∧
      t.jrn = { s.jrn with accepting := [], copies := t.jrn.copies } ∧ t.fer.commits = [])) ∧
  ((∀ s w, s.LinkInv → s.power.state = .noon → s.link.e0Restart = false → s.jrn.works = [w] → s.jrn.loose = [] → (w.state = .accepted ∨ w.parked = true) →
    w.engineOut s = false → ¬ w.opcode.toNat ∈ [0x21, 0x40, 0x62, 0x70, 0x72, 0x73, 0x80, 0x87] →
    exec .acceptedWorkStart s = .next { fresh s with jrn := { s.jrn with works := [{ w with state := .running, ready := none, parked := false }] } }) ∧
  (∀ s w, s.LinkInv → s.power.state = .noon → s.link.e0Restart = false → s.jrn.works = [w] → s.jrn.loose = [] → (w.state = .accepted ∨ w.parked = true) →
    w.engineOut s = false → w.opcode = 0x21 →
    let l := pageCommits (.workPage w.seq) (at_ w.body 0 4) (slice w.body 6 (at_ w.body 4 2))
    l.all (fun c => !c.unsealed s) = true →
    exec .acceptedWorkStart s = .next { fresh s with
      jrn := { s.jrn with works := [{ w with state := .running, ready := none, parked := false }] }
      fer := { s.fer with commits := s.fer.commits ++ l } }) ∧
  (∀ s w x c l, s.LinkInv → s.power.state = .noon → s.link.e0Restart = false → s.jrn.works = [w] → s.jrn.loose = [] → (w.state = .accepted ∨ w.parked = true) →
    w.engineOut s = false → w.opcode = 0x21 → s.fer.commits = [] →
    pageCommits (.workPage w.seq) (at_ w.body 0 4) (slice w.body 6 (at_ w.body 4 2)) = c :: l → c.unsealed s = true → ksRefusal s = some x →
    exec .acceptedWorkStart s = .next { fresh s with
      jrn := { s.jrn with works := [{ w with state := .running, ready := some (x.1, refusalBytes 0xFFFF x.2), parked := false }] } }) ∧
  (∀ s w x, s.LinkInv → s.jrn.works = [w, x] → s.jrn.loose = [] → w.state = .running → w.parked = false → objsMeet (x.objs s) (w.objs s) = true →
    exec .acceptedWorkStart s = .next (fresh s)) ∧
  (∀ s w x, s.LinkInv → s.jrn.works = [w, x] → s.jrn.loose = [] → w.state = .accepted → w.parked = false → w.engineOut s = true → x.state = .accepted → x.parked = false →
    exec .acceptedWorkStart s = .next (fresh s)) ∧
  (∀ s w, s.LinkInv → s.jrn.works = [w] → s.jrn.loose = [] → w.engineOut s = true → exec .acceptedWorkStart s = .next (fresh s)) ∧
  (∀ s, s.LinkInv → s.power.state ≠ .noon → exec .acceptedWorkStart s = .next (fresh s)))

/-- R377, R266, R281, R285, R288, R265, R383, R532: what the work of System, NVM, Keys and Diagnostic commands leaves when it ends: the RTC and the time floor, never lowered; the role or identifiers
for the next Dawn; the region table; a password; destroyed handles; a counter moved to its target; an anchor; the debug unlock; a cleared tamper. -/
def Obligations.SystemWorkEnds : Prop :=
  let none_ : Work → State → Touch := fun _ _ => {}
  let item : Nat → Work → State → Touch := fun i _ _ => { items := [i] }
  let done := fun (_ : Work) (_ : State) => ([] : Bytes)
  WorkEnds 0x08 (fun _ _ => True) stOk done (fun w s => { s with
    power := { s.power with rtc := word (at_ w.payload 0 4), rtcSub := 0, rtcValid := true }
    ks := { s.ks with timeFloor := if s.ks.timeFloor.toNat < (word (at_ w.payload 0 4)).toNat then word (at_ w.payload 0 4) else s.ks.timeFloor } })
    (fun w s => if s.ks.timeFloor.toNat < (word (at_ w.payload 0 4)).toNat then
      { pages := [1042], regs := if (metaOf s 1042).readable then [] else [0x4009001C] } else {}) ∧
  WorkEnds 0x07 (fun w _ => byteAt w.payload 0 = 1) stOk done (fun w s => { s with
    cfg := { s.cfg with roleNext := match byteAt w.payload 1 with | 1 => .tractor | 2 => .trailer | _ => .none } }) (item 0x0701) ∧
  WorkEnds 0x07 (fun w _ => byteAt w.payload 0 = 2) stOk done (fun w s => loadAccess (word (at_ w.payload 1 4)) { s with
    cfg := { s.cfg with vidNext := word (at_ w.payload 1 4), regionNext := some (byteAt w.payload 5 == 1) } }) (item 0x0702) ∧
  WorkEnds 0x07 (fun w s => byteAt w.payload 0 = 3 ∧ s.jrn.works = [w] ∧ s.jrn.accepting = []) stOk done (fun w s => { s with
    jrn := { s.jrn with enabledCfg := byteAt w.payload 1 == 1 } }) (item 0x0703) ∧
  (∀ b, WorkEnds 0x21 (fun w _ => w.ready = some (stOk, b)) stOk (fun w _ => le 2 (pagesOf (at_ w.payload 0 4) (at_ w.payload 4 2)).length ++ [0, 0]) (fun _ s => s) none_) ∧
  (∀ st b, st ≠ stOk → b.length ≤ 76 → WorkEnds 0x21 (fun w _ => w.ready = some (st, b)) st (fun _ _ => b) (fun _ s => s) none_) ∧
  WorkEnds 0x25 (fun _ _ => True) stOk done (fun w s => { s with fer := { s.fer with regions := regionsOf w.payload s.fer.regions } }) (item 0x2500) ∧
  WorkEnds 0x24 (fun _ s => s.ks.state = .open) stOk done (fun w s =>
    let l := modAt (byteAt w.payload 0) (fun g => { g with verifier := pwVerifier s (byteAt w.payload 0) (slice w.payload 10 8) }) s.fer.regions
    { s with fer := { s.fer with regions := l } }) (fun w _ => { items := [0x2400 + byteAt w.payload 0] }) ∧
  WorkEnds 0x3D (fun w _ => byteAt w.payload 0 ≠ 1) stOk done (fun _ s => { s with ks := { s.ks with unlockNext := false } }) (item 0x3D00) ∧
  WorkEnds 0x3E (fun _ _ => True) stOk done
    (fun w s =>
      let g := anchorPage (byteAt w.payload 0)
      let a : Anchor := { index := byteAt w.payload 0, keyId := word (at_ w.payload 4 4), valid := bit (byteAt w.payload 8) 0, pub := slice w.payload 12 64 }
      let kept := if (metaOf s g).readable then s.ks.anchors else s.ks.anchors.filter fun x => x.index == 5 || anchorPage x.index != g
      { s with ks := { s.ks with anchors := a :: kept.filter (·.index != a.index) } })
    (fun w s =>
      let g := anchorPage (byteAt w.payload 0)
      { pages := [g], regs := if (metaOf s g).readable then [] else [0x4009001C] }) ∧
  (∀ w m s v, StepsNow 0x3B w m s → s.ks.state = .open → ctrRead s (byteAt w.payload 0) = some v → v < at_ w.stepData 0 8 → s.fer.incr = none →
    exec (.acceptedWorkStep true w.seq m) s = .next { fresh s with fer := { s.fer with incr := some (byteAt w.payload 0) } }) ∧
  (∀ w m s v, StepsNow 0x3B w m s → s.ks.state = .open → ctrRead s (byteAt w.payload 0) = some v → at_ w.stepData 0 8 ≤ v →
    ∃ t, exec (.acceptedWorkStep true w.seq m) s = .next t ∧ Ended w stOk (le 8 v) s t ∧ t.ks = { s.ks with slots := t.ks.slots } ∧
      (∀ x, x ∈ t.ks.slots ↔ x ∈ (dropStale (byteAt w.payload 0) s).ks.slots) ∧ regBit t 0x40080008 3 = true ∧ ∀ c, ctrRead t c = ctrRead s c) ∧
  (∀ w m s, StepsNow 0x37 w m s → s.ks.state = .open → byteAt w.payload 0 = 1 →
    ∃ t, exec (.acceptedWorkStep true w.seq m) s = .next t ∧ Ended w stOk [] s t ∧ handleFree t (byteAt w.payload 1) = true ∧
      ∀ n, n ≠ byteAt w.payload 1 → handleOf t n = handleOf s n) ∧
  (∀ w m s, StepsNow 0xC2 w m s → w.ready = none → w.stepData.length = 4 → s.saf.raw = 0 → (s.saf.latched ||| s.saf.vigil).toNat = leNat w.stepData → s.ks.state ≠ .tamperHold →
    s.ks.state ≠ .closed →
    ∃ t, exec (.acceptedWorkStep true w.seq m) s = .next t ∧ Ended w stOk ([byte s.ks.state.code, 0, 0, 0] ++ w.stepData) s t ∧
      t.saf = { s.saf with latched := 0, vigil := 0, vigilN := 0, record := 0, clears := s.saf.clears + 1 } ∧
      t.ks = { s.ks with tamperHistory := true } ∧ regBit t 0x40100004 5 = true) ∧
  (∀ w m s, StepsNow 0xC2 w m s → w.ready = none → w.stepData.length = 4 → s.saf.raw = 0 → (s.saf.latched ||| s.saf.vigil).toNat = leNat w.stepData →
    (s.ks.state = .tamperHold ∨ s.ks.state = .closed) → s.ks.closedByCtrl = true →
    ∃ t, exec (.acceptedWorkStep true w.seq m) s = .next t ∧ Ended w stOk ([byte KsState.closed.code, 0, 0, 0] ++ w.stepData) s t ∧
      t.saf = { s.saf with latched := 0, vigil := 0, vigilN := 0, record := 0, clears := s.saf.clears + 1 } ∧ t.lf = { s.lf with tamperBlk := false } ∧
      t.ks = { s.ks with tamperHistory := true, state := .closed } ∧ regBit t 0x40100004 5 = true) ∧
  WorkEnds 0xC2 (fun w s => s.saf.raw ≠ 0 ∧ w.ready = none) stTamper (fun _ _ => refusalBytes 0xFFFF 0) (fun _ s => s) none_

/-- R70, R76, R77, R152, R189, R203, R215, R236, R238, R245, R387, R390, R392, R499: what the work of radio, ranging,
access and sensing commands leaves when it ends: models and lists stored, registers kept in CONFIG, ACC_CTRL fields
and profiles written, a token record's state changed, a sensor's set and wheel changed, each with the commit of its
CONFIG item or page. R302: an item whose copy fails its read-back twice goes DEGRADED. That a NOMINAL of a kind
without one is stored as 0 is the model's choice (log 162). -/
def Obligations.AirAccessWorkEnds : Prop :=
  let none_ : Work → State → Touch := fun _ _ => {}
  let item : Nat → Work → State → Touch := fun i _ _ => { items := [i] }
  let sensor : Work → State → Touch := fun w _ => { items := [sensorItem (byteAt w.payload 0)] }
  let done := fun (_ : Work) (_ : State) => ([] : Bytes)
  let saved := fun (l : List (Nat × Word)) (s : State) =>
    { s with cfg := { s.cfg with saved := l.foldl (fun m a => m.filter (·.1 != a.1) ++ [a]) s.cfg.saved } }
  let now_ := fun (s : State) (a : Nat) => (a, regGet s a)
  WorkEnds 0x60 (fun _ _ => True) stOk done (fun w s => { s with rng := { s.rng with model := w.payload } }) (item 0x6000) ∧
  WorkEnds 0x52 (fun w _ => byteAt w.payload 0 = 1) stOk done (fun _ s => saved [now_ s 0x40030070] s) (item 0x5200) ∧
  WorkEnds 0x52 (fun w _ => byteAt w.payload 0 = 8) stOk done (fun _ s => saved [now_ s 0x4003006C] s) (item 0x5200) ∧
  (∀ w m s, StepsNow 0x63 w m s → ∃ t, exec (.acceptedWorkStep true w.seq m) s = .next t ∧ Ended w stOk [] s t ∧
    regFld t 0x400500A4 0 16 = at_ w.payload 0 2 ∧ RegsBut [0x4009000C, 0x400500A4] s t ∧ (0x400500A4, regGet t 0x400500A4) ∈ t.cfg.saved) ∧
  (∀ w m s, StepsNow 0x75 w m s → byteAt w.payload 0 = 1 → (at_ w.payload 4 4 = 1 → s.acc.release.active = false) →
    (at_ w.payload 4 4 = 2 → s.cfg.role ≠ .trailer ∨ grantUnits s ≠ []) →
    ∃ t, exec (.acceptedWorkStep true w.seq m) s = .next t ∧ Ended w stOk [] s t ∧ regFld t 0x40060000 0 2 = at_ w.payload 4 4 % 4 ∧
      RegsBut [0x4009000C, 0x40060000] s t ∧ (0x40060000, regGet t 0x40060000) ∈ t.cfg.saved ∧ t.acc = s.acc) ∧
  (∀ w m s, StepsNow 0x75 w m s → byteAt w.payload 0 = 2 → ∃ t, exec (.acceptedWorkStep true w.seq m) s = .next t ∧ Ended w stOk [] s t ∧
    regFld t 0x40060000 2 1 = at_ w.payload 4 4 % 2 ∧ RegsBut [0x4009000C, 0x40060000] s t ∧ t.acc = s.acc) ∧
  (∀ w m s, StepsNow 0x75 w m s → byteAt w.payload 0 = 3 → ∃ t, exec (.acceptedWorkStep true w.seq m) s = .next t ∧ Ended w stOk [] s t ∧
    regFld t 0x40060000 3 1 = at_ w.payload 4 4 % 2 ∧ RegsBut [0x4009000C, 0x40060000] s t ∧ t.acc = s.acc) ∧
  (∀ w m s, StepsNow 0x75 w m s → byteAt w.payload 0 = 4 → ∃ t, exec (.acceptedWorkStep true w.seq m) s = .next t ∧ Ended w stOk [] s t ∧
    t.acc = { s.acc with curfew := false, foreignAt := [] } ∧ regGet t 0x40060008 = regGet s 0x40060008) ∧
  (∀ w m s, StepsNow 0x75 w m s → byteAt w.payload 0 = 6 → ∃ t, exec (.acceptedWorkStep true w.seq m) s = .next t ∧ Ended w stOk [] s t ∧
    let v := at_ w.payload 4 4
    regFld t (0x40060020 + 4 * fld v 8 2) 0 7 = fld v 0 7 ∧ RegsBut [0x4009000C, 0x40060020 + 4 * fld v 8 2] s t ∧ t.acc = s.acc) ∧
  WorkEnds 0x75 (fun w s => byteAt w.payload 0 = 7 ∧ (s.acc.enrolLimit < at_ w.payload 4 4 → w.cred = some .dealer) ∧ ∃ n, ctrRead s 32 = some n ∧ n ≤ at_ w.payload 4 4) stOk done
    (fun w s => { s with acc := { s.acc with enrolLimit := at_ w.payload 4 4 } }) (item 0x7507) ∧
  WorkEnds 0x75 (fun w s => byteAt w.payload 0 = 7 ∧ s.acc.enrolLimit < at_ w.payload 4 4 ∧ w.cred ≠ some .dealer ∧ ∃ n, ctrRead s 32 = some n ∧ n ≤ at_ w.payload 4 4)
    stDenied (fun _ _ => refusalBytes 0xFFFF 7) (fun _ s => s) none_ ∧
  WorkEnds 0x75 (fun w s => byteAt w.payload 0 = 7 ∧ ∃ n, ctrRead s 32 = some n ∧ at_ w.payload 4 4 < n) stBadField (fun _ _ => refusalBytes 0xFFFF 3) (fun _ s => s) none_ ∧
  WorkEnds 0x74 (fun w s => byteAt w.body 1 = 1 ∧ (tokOf s (byteAt w.body 0)).isSome = true ∧ (metaOf s (tokenPage (byteAt w.body 0))).readable = true) stOk done (fun w s =>
    let l := modAll (·.index == byteAt w.body 0) (fun t => { t with state := .active }) s.acc.tokens
    { s with acc := { s.acc with tokens := l } }) (fun w _ => { pages := [tokenPage (byteAt w.body 0)] }) ∧
  WorkEnds 0x74 (fun w s => byteAt w.body 1 ≠ 1 ∧ (tokOf s (byteAt w.body 0)).isSome = true ∧ s.acc.release.active = false ∧
      (metaOf s (tokenPage (byteAt w.body 0))).readable = true) stOk done (fun w s =>
    let l := modAll (·.index == byteAt w.body 0) (fun t => { t with state := .suspended }) s.acc.tokens
    { s with acc := { s.acc with tokens := l } }) (fun w _ => { pages := [tokenPage (byteAt w.body 0)] }) ∧
  WorkEnds 0x83 (fun w s => byteAt w.body 0 = 0 ∧ partnerRefusal w.body s = none) stOk
    (fun w s => [byte (partnerAfter w.body s.cpl.allow).length, 0, 0, 0]) (fun w s => { s with cpl := { s.cpl with allow := partnerAfter w.body s.cpl.allow } }) (item 0x8300) ∧
  WorkEnds 0x83 (fun w s => byteAt w.body 0 ≠ 0 ∧ partnerRefusal w.body s = none) stOk
    (fun w s => [byte (partnerAfter w.body s.cpl.deny).length, 0, 0, 0]) (fun w s => { s with cpl := { s.cpl with deny := partnerAfter w.body s.cpl.deny } }) (item 0x8300) ∧
  WorkEnds 0x88 (fun _ _ => True) stOk done (fun w s => { s with sns := { s.sns with model := w.payload } }) (item 0x8800) ∧
  WorkEnds 0x8C (fun w s => (snsOf s (byteAt w.payload 0)).isSome = true) stOk done (fun w s =>
    let l := modAll (·.index == byteAt w.payload 0) (fun x => { x with thrSet := byteAt w.payload 1, nominal := if x.kind = 1 ∨ x.kind = 4 then at_ w.payload 2 2 else 0 }) s.sns.sensors
    { s with sns := { s.sns with sensors := l } }) sensor ∧
  WorkEnds 0x86 (fun w s => byteAt w.payload 2 = 0 ∧ (snsOf s (byteAt w.payload 0)).isSome = true) stOk done (fun w s =>
    let l := modAll (·.index == byteAt w.payload 0) (fun x => { x with locFlags := x.locFlags &&& 0xF7 }) s.sns.sensors
    { s with sns := { s.sns with sensors := l } }) sensor ∧
  WorkEnds 0x86 (fun w s => byteAt w.payload 2 ≠ 0 ∧ (snsOf s (byteAt w.payload 0)).isSome = true ∧ s.cfg.role ≠ .trailer ∧ s.sns.locStage ≠ 3 ∧ s.sns.locStage ≠ 4) stOk done (fun w s =>
    let l := modAll (·.index == byteAt w.payload 0) (fun x => { x with locFlags := x.locFlags ||| 8, conf := 255, wheelPos := byte (byteAt w.payload 1) }) s.sns.sensors
    { s with sns := { s.sns with sensors := l } }) sensor ∧
  (∀ w m s x, StepsNow 0x86 w m s → byteAt w.payload 2 ≠ 0 → s.sns.sensors = [x] → x.index = byteAt w.payload 0 → x.state = .own → s.cfg.role = .trailer → s.sns.publish = [] →
    ∃ t, exec (.acceptedWorkStep true w.seq m) s = .next t ∧ Ended w stOk [] s t ∧ t.sns.publish = [x.index]) ∧
  (∀ w m s x, StepsNow 0x86 w m s → byteAt w.payload 2 ≠ 0 → s.sns.sensors = [x] → x.index = byteAt w.payload 0 → x.candPos = 0xFF → s.cfg.role = .tractor →
    s.sns.locStage = 3 → s.sns.loc = none → ∃ t, exec (.acceptedWorkStep true w.seq m) s = .next t ∧ Ended w stOk [] s t ∧ t.sns.locStage = 5) ∧
  WorkEnds 0x89 (fun _ s => regBit s 0x40070100 1 = true) stOk done (fun _ s => { s with
    sns := { s.sns with learn := true }
    jrn := { s.jrn with internal := if s.jrn.internal.contains 5 then s.jrn.internal else s.jrn.internal ++ [5] } }) (fun _ _ => { units := [internalUnit 5] }) ∧
  WorkEnds 0x94 (fun w _ => byteAt w.payload 0 = 1) stOk done (fun _ s => saved [(0x400C000C, s.bus.can0.live.1), (0x400C0010, s.bus.can0.live.2), now_ s 0x400C001C] s) (item 0x9400) ∧
  (∀ (w : Work) (m : StepMeas) s, StepsNow 0x60 w { m with rbs := [] } s → (metaIn s.fer.config 0x6000).degraded = none →
    ∃ t, exec (.acceptedWorkStep true w.seq { m with rbs := [{ a := 2, b := 0 }] }) s = .next t ∧
      t.rng.model = w.payload ∧ (metaIn t.fer.config 0x6000).degraded.isSome = true ∧ regBit t 0x40090008 3 = true)
/-! ### Version 1 and the events of the link -/

/-- R359, R360, R361, R400: a version 1 transaction shows and consumes the reply that waits, then its command executes and leaves its own reply: IDENT, STATUS, registers of
GPIO, the EEPROM image, the S1 records, engine mailboxes and the last decision answer their data. A write without V1_WR answers DENIED, a command that the table does
not list BAD_OPCODE. -/
def Obligations.Version1Answers : Prop :=
  let same : Bytes → State → State → Prop := fun _ s t => V1Leaves s t
  let none_ : Bytes → State → Bytes := fun _ _ => []
  Version1 .v1Nop 0x00 (fun _ _ => True) stOk none_ same ∧
  Version1 .ident 0x01 (fun _ _ => True) stOk (fun _ s => [0x01, 0x0B, 0x20, 0x77, match s.cfg.role with | .none => 0 | .tractor => 1 | .trailer => 2, 1]) same ∧
  Version1 .v1Status 0x02 (fun _ _ => True) stOk
    (fun _ s => [1, byte s.ks.state.code] ++ le 2 (regShow s 0x40060004).toNat ++ [byte (s1Records s)]) same ∧
  Version1 .softReset 0x03 (fun p _ => byteAt p 0 = 0xA5) stOk none_ same ∧
  Version1 .softReset 0x03 (fun p _ => byteAt p 0 ≠ 0xA5) stBadField none_ same ∧
  Version1 .t2Result 0x19 (fun _ s => s.acc.curfew = false) stOk
    (fun _ s => match s.acc.ring.getLast? with | some r => [r.outcome, r.reason, r.record, r.cls, r.zone] ++ le 4 r.num.toNat | none => []) same ∧
  Version1 .s1Count 0x20 (fun _ _ => True) stOk (fun _ s => [byte (s1Records s)]) same ∧
  (∀ x : Sensor, Version1 .s1Read 0x21 (fun p s => byteAt p 0 ≤ 127 ∧ snsOf s (byteAt p 0) = some x ∧ x.s2 = false) stOk
    (fun _ s => le 4 x.id.toNat ++ le 2 (at_ x.data 0 2) ++ [byte (byteAt x.data 2 + 50), x.flags, shownPos s x, byte x.alert]) same) ∧
  Version1 .eeRead 0x10 (fun p s => eeRange p = true ∧ regionRefusal false (eeBase s + at_ p 0 2) (byteAt p 2) s = none ∧
      ∀ g ∈ pagesOf (eeBase s + at_ p 0 2) (byteAt p 2), (metaOf s g).c0.ok = true ∧ (metaOf s g).c1.ok = true ∧ partOf g = 4) stOk
    (fun p s => nvmBytes s (eeBase s + at_ p 0 2) (byteAt p 2)) same ∧
  Version1 .eeRead 0x10 (fun p _ => eeRange p = false) stBadField none_ same ∧
  Version1 .v1RegRead 0x08 (fun p _ => regSpan (at_ p 0 4) 1 = none ∧ blockOf (at_ p 0 4) = 0x0F) stOk (fun p s => le 4 (regShow s (at_ p 0 4)).toNat) same ∧
  Version1 .v1MbxRead 0x39 (fun p s => (9 ≤ byteAt p 0 ∧ byteAt p 0 ≤ 11) ∧ (engOf s (engNo (byteAt p 0))).hostBox = []) stOk none_ same ∧
  (∀ m l, Version1 .v1MbxRead 0x39 (fun p s => (9 ≤ byteAt p 0 ∧ byteAt p 0 ≤ 11) ∧ (engOf s (engNo (byteAt p 0))).hostBox = m :: l ∧
      (engOf s (engNo (byteAt p 0))).blocked.contains 12 = false) stOk (fun _ _ => fit 8 m.data)
    (fun p s t => V1Leaves { s with eng := s.eng.set (engNo (byteAt p 0)) { (engOf s (engNo (byteAt p 0))) with hostBox := l } } t)) ∧
  (∀ x ∈ [(Instr.softReset, 0x03), (.v1RegWrite, 0x09), (.eeWrite, 0x11), (.t2Poll, 0x18), (.s1Add, 0x22), (.s1Remove, 0x23), (.v1LfTest, 0x28), (.j12Begin, 0x30),
      (.j12Data, 0x31), (.j12End, 0x32), (.v1MbxWrite, 0x38)],
    ∀ f s, V1Takes s → (f.p.drop (v1Params x.2)).any (· != 0) = false → s.cfg.role ≠ .none → regBit s 0x40010014 1 = false →
      ∃ t, exec (x.1 f) s = .next t ∧ t.link.miso = v1Shows s ∧ t.link.v1Reply = some ([stDenied, byte x.2] ++ zeros 10) ∧ V1Leaves s t) ∧
  (∀ (op : Byte) f s, V1Takes s → v1Known.contains op.toNat = false →
    ∃ t, exec (.undefinedOpcode op (.v1 f)) s = .next t ∧ t.link.miso = v1Shows s ∧ t.link.v1Reply = some ([stBadOpcode, op] ++ zeros 10) ∧ V1Leaves s t)

/-- R360, R361, R362, R400, R429, R617: what the version 1 commands that change state leave behind: a register written, a page commit under way, a decision asked for, an S1 record added or
removed, a test telegram asked for, a Jorsol-12 image begun, loaded and run, a message posted. While one of them awaits its event, and while one waits for
version 2 work on its objects, IN_PROGRESS is shown and the command of the transaction is not taken. The drive of the test telegram is the model's choice (log 81). -/
def Obligations.Version1Writes : Prop :=
  let none_ : Bytes → State → Bytes := fun _ _ => []
  let k := fun (p : Bytes) => engNo (byteAt p 0)
  Version1 .v1RegWrite 0x09 (fun p s => at_ p 0 4 = 0x400B0074 ∧ hostValue s 0x400B0074 (word (at_ p 4 4)) = none) stOk none_
    (fun p s t => V1Leaves { s with regs := t.regs } t ∧ regGet t 0x400B0074 = regGet (regStore 0x400B0074 (word (at_ p 4 4)) s) 0x400B0074 ∧ RegsBut [0x400B0074] s t) ∧
  Version1 .v1RegWrite 0x09 (fun p _ => blockOf (at_ p 0 4) ≠ 0x0B ∧ blockOf (at_ p 0 4) ≠ 0x0F) stBadField none_ (fun _ s t => V1Leaves s t) ∧
  Version1 .eeWrite 0x11 (fun p _ => eeRange p = true ∧ byteAt p 2 = 0) stOk none_ (fun _ s t => V1Leaves s t) ∧
  V1Pends .eeWrite 0x11 (fun p s => eeRange p = true ∧ 0 < byteAt p 2 ∧ regionRefusal true (eeBase s + at_ p 0 2) (byteAt p 2) s = none ∧
      (pageCommits .legacy (eeBase s + at_ p 0 2) (slice p 3 (byteAt p 2))).all (fun c => !c.unsealed s) = true)
    (fun p s t => t.fer = { s.fer with commits := s.fer.commits ++ pageCommits .legacy (eeBase s + at_ p 0 2) (slice p 3 (byteAt p 2)) } ∧ t.regs = s.regs ∧
      t.jrn = s.jrn ∧ t.eng = s.eng) ∧
  (∀ d, V1Pends .t2Poll 0x18 (fun p s => (byteAt p 0 = 2 ∨ byteAt p 0 = 3) ∧ s.cfg.role = .tractor ∧ s.acc.decision = some d ∧ trigClass d.trig.kind = some 1)
    (fun _ s t => t.acc = { s.acc with decision := some { d with trig := { d.trig with v1 := true } } } ∧ t.regs = s.regs ∧ t.eng = s.eng ∧ t.fer = s.fer)) ∧
  V1Pends .t2Poll 0x18 (fun p s => (byteAt p 0 = 2 ∨ byteAt p 0 = 3) ∧ s.cfg.role = .tractor ∧ (∃ d, s.acc.decision = some d ∧ trigClass d.trig.kind ≠ some 1) ∧
      s.acc.triggers.length < 4 ∧ s.acc.waiting = [])
    (fun p s t => t.acc = { s.acc with triggers := s.acc.triggers ++
      [{ kind := .decide, sought := if byteAt p 0 = 3 then .start else .door, door := none, t0 := s.power.clkUs, works := [], v1 := true, grant := none }] } ∧
      t.regs = s.regs ∧ t.eng = s.eng ∧ t.fer = s.fer) ∧
  Version1 .t2Poll 0x18 (fun p s => (byteAt p 0 = 2 ∨ byteAt p 0 = 3) ∧ s.cfg.role = .trailer) stDenied none_ (fun _ s t => V1Leaves s t) ∧
  (∀ i, Version1 .s1Add 0x22 (fun p s => (byteAt p 4 = 1 ∨ byteAt p 4 = 2) ∧ snsById s (at_ p 0 4) true = none ∧ freeRecord s = some i ∧ regBit s 0x40070100 0 = false)
    stOk (fun _ _ => [byte i]) (fun p s t => t.sns = (putSensor { newSensor i .own false 1 (byteAt p 4) (word (at_ p 0 4)) with nominal := at_ p 5 2 } s).sns ∧
      regBit t 0x40070108 7 = true ∧ t.acc = s.acc ∧ t.fer = { s.fer with config := t.fer.config } ∧
      (∀ n, n ≠ sensorItem i → metaIn t.fer.config n = metaIn s.fer.config n) ∧ t.jrn = s.jrn ∧ t.ks = s.ks ∧ RegsBut [0x40070108, 0x4009000C, 0x40010008, 0x40010038] s t)) ∧
  (∀ x : Sensor, Version1 .s1Remove 0x23 (fun p s => byteAt p 0 ≤ 127 ∧ snsOf s (byteAt p 0) = some x ∧ x.s2 = false ∧ x.state ≠ .partner ∧ regBit s 0x40070100 0 = false)
    stOk none_ (fun p s t => snsOf t (byteAt p 0) = none ∧ (∀ r, r ≠ byteAt p 0 → snsOf t r = snsOf s r) ∧ regBit t 0x40070108 7 = true ∧ t.acc = s.acc ∧ t.jrn = s.jrn)) ∧
  V1Pends .v1LfTest 0x28 (fun p s => byteAt p 1 ≤ 1 ∧ byteAt p 2 ≤ 64 ∧ (s.lf.telegram.isSome = true ∨ s.lf.grant.isSome = true))
    (fun p s t =>
      let ws := testWords s (byteAt p 0) (byteAt p 1) (testSync s) (byteAt p 2) (p.drop 3)
      (∃ r, r.cls = 5 ∧ r.words = ws ∧ r.due = s.power.clkUs ∧ t.lf = { s.lf with
        tests := s.lf.tests ++ [{ work := none, loose := none, entries := ws, learn := false, started := false, result := none }]
        waiting := s.lf.waiting ++ [r] }) ∧ t.regs = s.regs ∧ t.eng = s.eng ∧ t.acc = s.acc) ∧
  Version1 .j12Begin 0x30 (fun p s => (9 ≤ byteAt p 0 ∧ byteAt p 0 ≤ 11) ∧ 0 < at_ p 1 2 ∧ at_ p 1 2 ≤ 49152 ∧ (engOf s (k p)).stores = []) stOk none_
    (fun p s t => V1Leaves { s with eng := t.eng, regs := t.regs } t ∧ (engOf t (k p)).state = .reset ∧ (engOf t (k p)).pmemValid = false ∧
      (engOf t (k p)).j12Words = at_ p 1 2 ∧ (engOf t (k p)).pmem = (engOf s (k p)).pmem ∧ j12Engine t = some (k p)) ∧
  (∀ j, Version1 .j12Data 0x31 (fun p s => j12Engine s = some j ∧ ((engOf s j).state = .reset ∨ (engOf s j).state = .loading) ∧ at_ p 0 2 < (engOf s j).j12Words ∧ ∀ i < 4, at_ p (2 + 2 * i) 2 < 0x4000) stOk none_
    (fun p s t => V1Leaves { s with eng := s.eng.set j { (engOf s j) with pmem := (engOf t j).pmem } } t ∧
      ∀ i, kvGet (fun _ => 0) (engOf t j).pmem i = if at_ p 0 2 ≤ i ∧ i < at_ p 0 2 + 4 ∧ i < (engOf s j).j12Words then BitVec.ofNat 16 (at_ p (2 + 2 * (i - at_ p 0 2)) 2)
        else kvGet (fun _ => 0) (engOf s j).pmem i)) ∧
  (∀ j, Version1 .j12End 0x32 (fun p s => j12Engine s = some j ∧ (engOf s j).state = .reset ∧
      crc32c ((List.range (engOf s j).j12Words).flatMap fun i => le 2 (kvGet (fun _ => 0) (engOf s j).pmem i).toNat) = word (at_ p 0 4)) stOk none_
    (fun _ s t => V1Leaves { s with eng := t.eng } t ∧ (engOf t j).state = .run ∧ (engOf t j).pc = 0x0010 ∧ (engOf t j).mode12 = true ∧ (engOf t j).pmemValid = true ∧
      (engOf t j).autostart = none ∧ (engOf t j).j12Words = 0 ∧ (engOf t j).pmem = (engOf s j).pmem ∧ ∀ i, i ≠ j → engOf t i = engOf s i)) ∧
  Version1 .j12Data 0x31 (fun _ s => j12Engine s = none) stDenied none_ (fun _ s t => V1Leaves s t) ∧
  (∀ j, Version1 .j12Data 0x31 (fun _ s => j12Engine s = some j ∧ (engOf s j).state ≠ .reset ∧ (engOf s j).state ≠ .loading) stDenied none_ (fun _ s t => V1Leaves s t)) ∧
  Version1 .j12End 0x32 (fun _ s => j12Engine s = none) stDenied none_ (fun _ s t => V1Leaves s t) ∧
  Version1 .v1MbxWrite 0x38 (fun p s => (9 ≤ byteAt p 0 ∧ byteAt p 0 ≤ 11) ∧ (engOf s (k p)).inbox.length < 4 ∧ 9 ≤ p.length) stOk none_
    (fun p s t => V1Leaves { s with eng := t.eng } t ∧ (engOf t (k p)).inbox = (engOf s (k p)).inbox ++ [{ src := 12, data := slice p 1 8 }] ∧
      ((engOf s (k p)).inbox = [] → wbit (engOf t (k p)).evtPend 0 = true) ∧ ∀ i, i ≠ k p → engOf t i = engOf s i) ∧
  Version1 .v1MbxWrite 0x38 (fun p s => (9 ≤ byteAt p 0 ∧ byteAt p 0 ≤ 11) ∧ 4 ≤ (engOf s (k p)).inbox.length ∧ 9 ≤ p.length) stBusyRetry none_ (fun _ s t => V1Leaves s t) ∧
  (∀ f s op, v1Up s = true → s.power.state = .noon → s.link.e0Restart = false → s.LinkInv → s.link.v1Wait = none → s.link.v1Busy = some op →
    ∃ t, exec (.v1Nop f) s = .next t ∧ t.link.miso = [stInProgress, op] ++ zeros 10 ∧ t.link.v1Reply = s.link.v1Reply ∧ V1Leaves s t) ∧
  (∀ f s, v1Up s = true → s.power.state = .noon → s.link.e0Restart = false → s.LinkInv → s.link.v1Wait = none → s.link.v1Busy = none →
    s.link.v1Reply = some ([0x00, 0x03] ++ zeros 10) →
    ∃ t, exec (.v1Nop f) s = .next t ∧ t.link.miso = [0x00, 0x03] ++ zeros 10 ∧ t.link.v1Reply = none ∧ t.link.afterReply = some (.reset, none) ∧ t.regs = s.regs)
/-- R336, R338, R340, R344, R366: a transaction that fails check 1 to 6 is counted and named in HIF_LAST_ERR; from check 3 on it is answered, BAD_LENGTH, BAD_CRC or BAD_FIELD, and nothing of its
command happens; an opcode that no table has answers BAD_OPCODE at check 9. R34: a command whose non-zero tag belongs to a record or to an entry of the ring: with the same content it answers what that work answers and starts nothing; with other content it answers
DUP_TAG and is counted. -/
def Obligations.PacketAndTagChecks : Prop :=
  (let counted := fun (s t : State) (cnt bit_ kind port : Nat) =>
    regFld t cnt 0 16 = min (regFld s cnt 0 16 + 1) 0xFFFF ∧ regBit t 0x40010008 bit_ = true ∧ regFld t 0x40010044 0 4 = kind ∧ regFld t 0x40010044 4 2 = port ∧
    RegsBut [cnt, 0x40010008, 0x40010044] s t
  let port := fun (p : Packet) => if p.port = .hcs0 then 0 else 1
  (∀ first n s, linkUp s = true → s.LinkInv → first ≠ 0 → s.link.hcs0.outq = [] → ∃ t, exec (.readOnlyTransaction first n) s = .next t ∧
    counted s t 0x40010024 0 1 0 ∧ Leaves { s with regs := t.regs, eng := t.eng } t) ∧
  (∀ s, linkUp s = true → s.LinkInv → regBit s 0x40010000 1 = true → ∃ t, exec .stopBitError s = .next t ∧
    counted s t 0x40010024 0 1 1 ∧ Leaves { s with regs := t.regs, eng := t.eng } t) ∧
  (∀ p s, Arrives p s → p.header < 8 → ∃ t, exec (.nop p) s = .next t ∧ counted s t 0x40010028 1 2 (port p) ∧ Leaves { s with regs := t.regs, eng := t.eng } t ∧
    t.link.nextSlot = s.link.nextSlot) ∧
  (∀ p s, Arrives p s → 8 ≤ p.header → (2048 < p.len ∨ p.payload.length ≠ p.len ∨ p.crc = none) → ∃ t, exec (.nop p) s = .next t ∧
    counted s t 0x40010028 1 2 (port p) ∧ Replied 0x00 p stBadLength (refusalBytes 0xFFFF 0) s t ∧ Leaves { s with regs := t.regs, eng := t.eng } t) ∧
  (∀ p s c, Arrives p s → 8 ≤ p.header → p.len ≤ 2048 → p.payload.length = p.len → p.crc = some c → c ≠ pktCrc p 0x00 → ∃ t, exec (.nop p) s = .next t ∧
    counted s t 0x4001002C 2 3 (port p) ∧ Replied 0x00 p stBadCrc (refusalBytes 0xFFFF 0) s t ∧ Leaves { s with regs := t.regs, eng := t.eng } t) ∧
  (∀ p s, Arrives p s → 8 ≤ p.header → p.len ≤ 2048 → p.payload.length = p.len → p.crc = some (pktCrc p 0x00) → p.verFlags &&& 0xFB ≠ 0x20 →
    ∃ t, exec (.nop p) s = .next t ∧ regFld t 0x40010044 0 4 = 4 ∧ RegsBut [0x40010044] s t ∧ Replied 0x00 p stBadField (refusalBytes 0xFFFF 2) s t ∧
      Leaves { s with regs := t.regs } t) ∧
  (∀ op p s, Arrives p s → Sound op p → s.power.state = .noon → s.link.e0Restart = false → opKind op.toNat = none →
    ∃ t, exec (.undefinedOpcode op (.v2 p)) s = .next t ∧ Replied op p stBadOpcode (refusalBytes 0xFFFF 0) s t ∧ Leaves s t) ∧
  (∀ p s, Arrives p s → p.port = .uart → p.header < 8 → regFld s 0x40010010 16 8 ≠ 0 → ∃ t, exec (.uartGapTimeout 0x00 p) s = .next t ∧
    counted s t 0x40010028 1 2 1 ∧ Leaves { s with regs := t.regs, eng := t.eng } t) ∧
  (∀ op p s, Arrives p s → p.port = .uart → p.header = 8 → p.payload.length < p.len → regFld s 0x40010010 16 8 ≠ 0 →
    ∃ t, exec (.uartGapTimeout op p) s = .next t ∧ counted s t 0x40010028 1 2 1 ∧ Replied op p stBadLength (refusalBytes 0xFFFF 0) s t ∧
      Leaves { s with regs := t.regs, eng := t.eng } t) ∧
  (∀ op p s, s.LinkInv → regFld s 0x40010010 16 8 = 0 → exec (.uartGapTimeout op p) s = .next (fresh s))) ∧
  (let arrives := fun (p : Packet) (s : State) => Arrives p s ∧ Sound 0x21 p ∧ s.power.state = .noon ∧ s.link.e0Restart = false ∧ p.tag ≠ 0 ∧
    s.jrn.accepting.find? (fun a => a.work.tag == p.tag) = none
  (∀ p s w, arrives p s → s.jrn.works.find? (fun w => w.tag == p.tag) = some w → sameContent 0x21 p w.opcode w.options w.payload.length w.pktCrc = true →
    w.state = .done → w.status ≠ 0x20 → w.status ≠ 0x14 → ∃ t, exec (.nvmWrite p) s = .next t ∧ Replied 0x21 p w.status w.result s t ∧ Leaves s t) ∧
  (∀ p s w, arrives p s → s.jrn.works.find? (fun w => w.tag == p.tag) = some w → sameContent 0x21 p w.opcode w.options w.payload.length w.pktCrc = true →
    w.state = .running → s.jrn.enabled = true →
    ∃ t, exec (.nvmWrite p) s = .next t ∧ Replied 0x21 p stInProgress ([byte w.pct, byte w.step, 0, 0] ++ le 8 w.seq) s t ∧ Leaves s t) ∧
  (∀ p s w, arrives p s → s.jrn.works.find? (fun w => w.tag == p.tag) = some w → sameContent 0x21 p w.opcode w.options w.payload.length w.pktCrc = true →
    w.state = .accepted → s.jrn.enabled = true →
    ∃ t, exec (.nvmWrite p) s = .next t ∧ Replied 0x21 p stAccepted (le 8 w.seq) s t ∧ Leaves s t) ∧
  (∀ p s e, arrives p s → s.jrn.works.find? (fun w => w.tag == p.tag) = none → s.jrn.ring.find? (fun e => e.tag == p.tag) = some e →
    sameContent 0x21 p e.opcode e.options e.plen e.pktCrc = true → e.status ≠ 0x20 → e.status ≠ 0x14 →
    ∃ t, exec (.nvmWrite p) s = .next t ∧ Replied 0x21 p e.status e.result s t ∧ Leaves s t) ∧
  (∀ p s w, arrives p s → s.jrn.works.find? (fun w => w.tag == p.tag) = some w → sameContent 0x21 p w.opcode w.options w.payload.length w.pktCrc = false →
    ∃ t, exec (.nvmWrite p) s = .next t ∧ Replied 0x21 p stDupTag (refusalBytes 0xFFFF 0) s t ∧
      regFld t 0x40010034 0 16 = min (regFld s 0x40010034 0 16 + 1) 0xFFFF ∧ RegsBut [0x40010034] s t ∧ Leaves { s with regs := t.regs } t) ∧
  (∀ p s a, Arrives p s → Sound 0x21 p → s.power.state = .noon → s.link.e0Restart = false → p.tag ≠ 0 → s.jrn.accepting = [a] → a.work.tag = p.tag →
    sameContent 0x21 p a.work.opcode a.work.options a.work.payload.length a.work.pktCrc = true →
    ∃ t, exec (.nvmWrite p) s = .next t ∧ t.jrn = { s.jrn with accepting := [{ a with twins := a.twins ++ [replyTo 0x21 p s] }] } ∧ Awaits 0x21 p s t ∧ t.fer = s.fer))

/-- R339, R340, R341, R343, R346, R353, R359, R360, R364: reads and replays of the output, the clash of both chip-selects, a short version 1 transaction, configuration writes once their reply has been
consumed, EVT_LOST and COMPLETE raised again when they have room. R354, R355, R554: in Dawn a command is held at its position of the Dawn queue and answers QUEUED_DAWN, an identical packet answers the same, another packet with its tag DUP_TAG; in Dusk it
is held until Noon, and Dusk is left. At Noon the Dawn queue is served; before, and while E0 restarts, nothing of it is. -/
def Obligations.LinkEvents : Prop :=
  ((∀ n s o l, linkUp s = true → s.LinkInv → s.link.hcs0.outq = o :: l → 3 + (12 + o.payload.length) ≤ n → o.code ≠ 1 → o.slot = none →
    ∃ t, exec (.readOnlyTransaction 0 n) s = .next t ∧ t.link.miso = misoBytes (hifStat s) (some o) n ∧ t.link.hcs0 = { s.link.hcs0 with outq := l, last := some o } ∧
      Leaves s t) ∧
  (∀ n s o l, linkUp s = true → s.LinkInv → s.link.hcs0.outq = o :: l → n < 3 + (12 + o.payload.length) →
    ∃ t, exec (.readOnlyTransaction 0 n) s = .next t ∧ t.link.miso = misoBytes (hifStat s) (some o) n ∧ t.link.hcs0 = s.link.hcs0 ∧ Leaves s t) ∧
  (∀ n s o l id w, linkUp s = true → s.LinkInv → s.link.hcs0.outq = o :: l → 3 + (12 + o.payload.length) ≤ n → o.slot = some id → s.link.afterReply = some (w, some id) →
    ∃ t, exec (.readOnlyTransaction 0 n) s = .next t ∧ t.link.afterReply = some (w, none) ∧ Leaves s t) ∧
  (∀ n s, linkUp s = true → s.LinkInv → exec (.replayTransaction n) s =
    .next { fresh s with link := { s.link with miso := misoBytes (hifStat s) s.link.hcs0.last n } }) ∧
  (∀ s, linkUp s = true → s.LinkInv → ∃ t, exec .clash s = .next t ∧ regFld t 0x4001003C 0 16 = min (regFld s 0x4001003C 0 16 + 1) 0xFFFF ∧ regBit t 0x40010008 5 = true ∧
    regFld t 0x40010044 0 4 = 5 ∧ RegsBut [0x4001003C, 0x40010008, 0x40010044] s t ∧ Leaves { s with regs := t.regs, eng := t.eng } t) ∧
  (∀ s, v1Up s = true → s.LinkInv → ∃ t, exec .v1ShortTransaction s = .next t ∧ regFld t 0x40010040 0 16 = min (regFld s 0x40010040 0 16 + 1) 0xFFFF ∧
    regBit t 0x40010008 6 = true ∧ regFld t 0x40010044 0 4 = 6 ∧ regFld t 0x40010044 4 2 = 2 ∧ RegsBut [0x40010040, 0x40010008, 0x40010044] s t ∧
    Leaves { s with regs := t.regs, eng := t.eng } t ∧ t.link.v1Reply = s.link.v1Reply) ∧
  (∀ s v, s.LinkInv → s.link.cfgPend = [(0x40010010, v, none)] → ∃ t, exec .uartCfgWrite s = .next t ∧ t.link.cfgPend = [] ∧
    regGet t 0x40010010 = regGet (regStore 0x40010010 v s) 0x40010010 ∧ RegsBut [0x40010010] s t ∧ Leaves { s with regs := t.regs } t) ∧
  (∀ s v, s.LinkInv → s.link.cfgPend = [(0x40010014, v, none)] → ∃ t, exec .hifCfgWrite s = .next t ∧ t.link.cfgPend = [] ∧
    regGet t 0x40010014 = regGet (regStore 0x40010014 v s) 0x40010014 ∧ RegsBut [0x40010014] s t ∧ Leaves { s with regs := t.regs } t) ∧
  (∀ s v i, s.LinkInv → s.link.cfgPend = [(0x40010014, v, some i)] → exec .hifCfgWrite s = .next (fresh s)) ∧
  (∀ s n c, s.power.state = .noon → s.LinkInv → s.link.lostHcs0 = (n + 1, c) → s.link.lostUart = (0, 0) → 16 ≤ outRoom s.link.hcs0 →
    ∃ t, exec .evtLost s = .next t ∧ t.link.lostHcs0 = (0, 0) ∧ t.link.hcs0.outq = s.link.hcs0.outq ++
      [{ verFlags := 0x23, code := 0x03, status := 0, tag := 0, payload := le 2 (n + 1) ++ [c, 0], reserve := false, slot := none }] ∧
      t.link.hcs0.opn = s.link.hcs0.opn ∧ t.regs = s.regs ∧ t.jrn = s.jrn) ∧
  (∀ s w, s.power.state = .noon → s.LinkInv → s.jrn.works = [w] → s.jrn.loose = [] → w.state = .done → w.completeDue = true → w.src = .hcs0 →
    s.link.hcs0.outq = [] → s.link.hcs0.opn = [] → w.result.length ≤ 76 →
    ∃ t, exec .completeRequeue s = .next t ∧ t.link.hcs0.outq =
      [{ verFlags := 0x23, code := 0x01, status := 0, tag := w.tag, payload := [w.status, 0] ++ le 2 w.result.length ++ w.result, reserve := false, slot := none }] ∧ Leaves s t)) ∧
  ((∀ p s, Arrives p s → Sound 0x00 p → s.power.state = .dawn → s.link.e0Restart = false → p.tag = 0 → s.link.dawnq.length < 32 →
    ∃ t h, exec (.nop p) s = .next t ∧ Replied 0x00 p stQueuedDawn [byte (s.link.dawnq.length + 1), 0, 0, 0] s t ∧ t.link.dawnq = s.link.dawnq ++ [h] ∧
      h.opcode = 0x00 ∧ h.packet = p ∧ Leaves { s with link := { s.link with dawnq := t.link.dawnq } } t) ∧
  (∀ p s h, Arrives p s → Sound 0x00 p → s.power.state = .dawn → s.link.e0Restart = false → p.tag ≠ 0 → s.link.dawnq = [h] → h.packet.tag = p.tag → h.opcode = 0x00 →
    h.packet.payload = p.payload → h.packet.options = p.options → h.packet.verFlags = p.verFlags →
    ∃ t, exec (.nop p) s = .next t ∧ Replied 0x00 p stQueuedDawn [1, 0, 0, 0] s t ∧ Leaves s t) ∧
  (∀ p s h, Arrives p s → Sound 0x00 p → s.power.state = .dawn → s.link.e0Restart = false → p.tag ≠ 0 → s.link.dawnq = [h] → h.packet.tag = p.tag → h.opcode ≠ 0x00 →
    ∃ t, exec (.nop p) s = .next t ∧ Replied 0x00 p stDupTag (refusalBytes 0xFFFF 0) s t ∧ t.link.dawnq = s.link.dawnq) ∧
  (∀ p s, Arrives p s → Sound 0x00 p → s.power.state = .dusk → s.link.e0Restart = false →
    ∃ t, exec (.nop p) s = .next t ∧ t.power.exitDue = true ∧ t.link.held = s.link.held ++ [{ opcode := 0x00, packet := p, ret := replyTo 0x00 p s }] ∧
      Awaits 0x00 p s t ∧ t.regs = s.regs ∧ t.jrn = s.jrn) ∧
  (∀ s h, s.power.state = .noon → s.link.e0Restart = false → s.LinkInv → s.link.dawnq = [h] → h.opcode = 0x00 → h.packet.tag = 0 → h.packet.payload = [] →
    h.packet.options = 0 → h.ret.port = .hcs0 → s.link.hcs0.outq = [] → s.link.hcs0.opn = [] →
    ∃ t, exec .dawnQueueProcess s = .next t ∧ t.link.dawnq = [] ∧ t.link.hcs0.outq = [replyPkt { h.ret with slot := s.link.nextSlot } stOk [] false] ∧
      t.regs = s.regs ∧ t.jrn = s.jrn ∧ t.eng = s.eng) ∧
  (∀ s, s.LinkInv → (s.power.state ≠ .noon ∨ s.link.e0Restart = true) → exec .dawnQueueProcess s = .next (fresh s)))

/-! ### Power, resets, tamper and injections -/

/-- R377, R400, R547, R550, R556, R558, R559, R560, R581, R605: each cause of a reset brings Dawn with its cause recorded: SOFT once the reply of RESET or SOFT_RESET has gone, DEBUG, PIN while RST_N or
TEST_N is low and until it is high, CLOCK, VMON, the end of Midnight, Vigil, the end of a Sundown, and POWER_ON, which keeps no register at all. -/
def Obligations.ResetCauses : Prop :=
  (∀ s, MayDawn s → s.link.afterReply = some (.reset, none) → ∃ t, exec .resetAfterReply s = .next t ∧ ResetDone 3 s t) ∧
  (∀ s, s.LinkInv → (∀ w, s.link.afterReply ≠ some (w, none)) → exec .resetAfterReply s = .next (fresh s)) ∧
  (∀ s, MayDawn s → running s = true → ∃ t, exec .debugReset s = .next t ∧ ResetDone 9 s t) ∧
  (∀ s, MayDawn s → s.power.vddioOk = true → s.power.state ≠ .held → s.power.state ≠ .midnight →
    ∃ t, exec (.pin true) s = .next t ∧ t.power.state = .held ∧ t.power.cause = 2 ∧ t.power.rstN = false ∧ t.link = .reset ∧ t.ks.state = .closed) ∧
  (∀ s, MayDawn s → s.power.vddioOk = true → s.power.state ≠ .held → s.power.state ≠ .midnight →
    ∃ t, exec (.testNLow true) s = .next t ∧ t.power.state = .held ∧ t.power.cause = 2 ∧ t.power.testN = false ∧ t.link = .reset ∧ t.ks.state = .closed) ∧
  (∀ s, s.power.vsupOk = true → s.power.state = .held → s.power.vddioOk = true → s.power.testN = true → s.LinkInv →
    exec (.pin false) s = .next { fresh s with power := { s.power with rstN := true, state := .dawn, stage := .waitXo } }) ∧
  (∀ s, s.power.vsupOk = true → s.power.state = .held → s.power.vddioOk = true → s.power.rstN = true → s.LinkInv →
    exec (.testNLow false) s = .next { fresh s with power := { s.power with testN := true, state := .dawn, stage := .waitXo } }) ∧
  (∀ s pll c, MayDawn s → running s = true → s.power.pll = true → ∃ t, exec (.clock pll c) s = .next t ∧ ResetDone 4 s t ∧ t.saf.due = some (7, if pll then 1 else 0, false)) ∧
  (∀ s high c, MayDawn s → running s = true → ∃ t, exec (.vmon high c) s = .next t ∧ ResetDone 5 s t ∧ t.saf.due = some (8, if high then 1 else 0, false)) ∧
  (∀ s c, MayDawn s → s.power.state = .midnight → s.power.vddioOk = true → c.pins &&& BitVec.ofNat 4 (regGet s 0x40000020).toNat ≠ 0 →
    ∃ t, exec (.wake c) s = .next t ∧ ResetDone 7 s t ∧ regFld t 0x40000024 0 4 = regFld s 0x40000024 0 4 ||| (c.pins &&& BitVec.ofNat 4 (regGet s 0x40000020).toNat).toNat) ∧
  (∀ s c, s.LinkInv → s.power.state = .midnight → (regGet s 0x40000020) &&& 0x3F = 0 → exec (.wake c) s = .next (fresh s)) ∧
  (∀ s m, MayDawn s → s.power.state = .midnight → m.toNat &&& 0x37 ≠ 0 → ∃ t, exec (.vigilDetection m) s = .next t ∧ ResetDone 8 s t ∧
    t.saf.vigil = s.saf.vigil ||| word (m.toNat &&& 0x37) ∧ t.saf.vigilN = min 255 (s.saf.vigilN + 1) ∧ regBit t 0x40000024 6 = true) ∧
  (∀ s, s.power.state = .held → s.power.vsupOk = false → s.power.rstN = true → s.power.testN = true → ∃ t, exec .vsupRecovery s = .next t ∧ ResetDone 6 s t ∧ t.power.vsupOk = true) ∧
  (∀ s c, ∃ t, exec (.powerOn c) s = .next t ∧ t.power.state = .dawn ∧ t.power.stage = .waitXo ∧ t.power.cause = 1 ∧ t.power.prev = 0 ∧ t.power.resets = 0 ∧
    t.power.rtc = 0 ∧ t.power.rtcValid = false ∧ t.power.vddioOk = false ∧ t.sram = [] ∧ t.power.restoreDue = true ∧ (∀ a, regGet t a = regReset a) ∧
    t.cfg = s.cfg ∧ t.link = .reset ∧ t.ks.state = .closed ∧ ∀ k, (engOf t k).state = .reset)

/-- R354, R546, R549, R551, R561, R563, R564, R565: VDDIO qualifies and is lost; the XO starts Dawn, which ends in BOOT_FAIL where BOOT fails its check; the release self-test, Noon with its
RESET event first; a recovery session takes a credential, counts the ones that fail and stops after eight, and writes BOOT once verified. -/
def Obligations.DawnAndSupplies : Prop :=
  (∀ s hi, s.power.state = .dawn → s.power.vddioOk = false → s.power.rstN = true → s.power.testN = true → ∃ t, exec (.vddioQualified hi) s = .next t ∧
    t.power.vddioOk = true ∧ t.power.state = .dawn ∧ regBit t 0x4000000C 8 = hi) ∧
  (∀ s, running s = true → s.power.vddioOk = true → ∃ t, exec .vddioLow s = .next t ∧ t.power.vddioOk = false ∧ t.power.state = s.power.state ∧
    regBit t 0x40000010 5 = true ∧ regFld t 0x40100068 0 16 = min (regFld s 0x40100068 0 16 + 1) 0xFFFF) ∧
  (∀ s, s.LinkInv → s.power.state = .dawn → s.power.pll = false → exec .xoFail s = .next { fresh s with power := { s.power with xoFails := s.power.xoFails + 1 } }) ∧
  (∀ s m, s.power.state = .dawn → s.power.stage = .waitXo → bootFault m s = none → ∃ t, exec (.xoQualified m) s = .next t ∧ t.power.state = .dawn ∧
    t.power.stage = .booted ∧ t.power.pll = true ∧ t.link.answers = true) ∧
  (∀ s m page, s.power.state = .dawn → s.power.stage = .waitXo → bootFault m s = some page → s.link.dawnq = [] → ∃ t, exec (.xoQualified m) s = .next t ∧
    t.power.state = .bootFail ∧ t.power.failPage = page ∧ t.link.answers = true ∧
    t.power.recovery = some { nonce := (List.range 4).flatMap (fun i => le 4 (Config.freeWord (s.drawn + i)).toNat), failures := 0, verified := false }) ∧
  (∀ s reads, s.power.state = .dawn → s.power.stage = .booted → s.bus.dawn = [] → twoInRow (testMismatches reads) = false → ∃ t, exec (.releaseSelfTest reads) s = .next t ∧
    t.power.stage = .selfTested ∧ regBit t 0x4000000C 5 = true ∧
    t.acc = { s.acc with release := { s.acc.release with rbA := t.acc.release.rbA, rbB := t.acc.release.rbB } } ∧
    ∀ x, reads.getLast? = some x → t.acc.release.rbA = x.2.1 ∧ t.acc.release.rbB = x.2.2) ∧
  (∀ s reads, s.power.state = .dawn → s.power.stage = .booted → s.bus.dawn = [] → twoInRow (testMismatches reads) = true → ∃ t, exec (.releaseSelfTest reads) s = .next t ∧
    t.power.stage = .selfTested ∧ t.acc.sloFault = true ∧ t.acc.release.active = false) ∧
  (∀ s, s.power.state = .dawn → s.power.stage = .selfTested → s.acc.triggers = [] → s.acc.waiting = [] → s.jrn.internal.contains 3 = false → s.link.hcs0.outq = [] →
    s.link.hcs0.opn = [] → ∃ t, exec .noon s = .next t ∧ t.power.state = .noon ∧ t.power.stage = .done ∧ regBit t 0x40000010 0 = true ∧
      t.link.hcs0.outq.head? = some { verFlags := 0x23, code := 0x02, status := 0, tag := 0, reserve := false, slot := none, payload :=
        [byte s.power.cause, byte (countWorks s fun w => w.state != .done), byte (countWorks s fun w => w.state == .done), byte s.link.dawnq.length, 0x01, 0x0B, 0x20, 0x77] }) ∧
  (∀ s, s.LinkInv → (s.power.state ≠ .dawn ∨ s.power.stage ≠ .selfTested) → exec .noon s = .next (fresh s)) ∧
  (∀ s, running s = true → s.power.state ≠ .midnight → ∃ t, exec .rtcFail s = .next t ∧ t.power.rtcRun = false ∧ t.power.rtcValid = false ∧ regBit t 0x40000010 4 = true ∧
    t.acc = s.acc ∧ t.ks = s.ks) ∧
  (∀ s, running s = true → s.power.state ≠ .midnight → ∃ t, exec .rtcAlarm s = .next t ∧ regBit t 0x40000010 3 = true ∧ RegsBut [0x40000010] s t ∧
    (s.power.state = .dusk → regBit s 0x40000020 4 = true → t.power.exitDue = true) ∧ t.acc = s.acc ∧ t.ks = s.ks) ∧
  (∀ s r cred, s.LinkInv → s.power.state = .bootFail → s.power.recovery = some r → r.failures < 8 →
    let x : Recovery := if recoveryOk s r.nonce cred then { r with verified := true } else { r with failures := r.failures + 1 }
    exec (.recoveryCredential cred) s = .next { fresh s with power := { s.power with recovery := some x } }) ∧
  (∀ s r cred, s.LinkInv → s.power.state = .bootFail → s.power.recovery = some r → 8 ≤ r.failures → exec (.recoveryCredential cred) s = .next (fresh s)) ∧
  (∀ s r page data rb, s.power.state = .bootFail → s.power.recovery = some r → r.verified = true →
    ∃ t, exec (.recoveryBootWrite page data rb) s = .next t ∧ t.power = s.power ∧ t.ks = s.ks ∧
      (∀ a, feramByte t a = if 256 * page.val ≤ a ∧ a < 256 * page.val + 256 then data.getD (a - 256 * page.val) 0 else feramByte s a)) ∧
  (∀ s page data rb, s.LinkInv → s.power.recovery = none → exec (.recoveryBootWrite page data rb) s = .next (fresh s))

/-- R324, R377, R553, R554, R555, R557: Dusk is entered when asked for and idle and left when a cause stands; Midnight is entered once the reply of POWER has gone, or of itself from Dusk, with SHADOW
saved; a Sundown saves and holds the device. -/
def Obligations.SleepAndSave : Prop :=
  (∀ s, s.LinkInv → inNoon s = true → (s.power.duskDue = true ∨ regBit s 0x4000001C 0 = true) → duskIdle s = true → ∃ t, exec .duskEntry s = .next t ∧ t.power.state = .dusk ∧
    t.power.duskDue = false ∧ regBit t 0x40000010 1 = true ∧ t.rad.l1 = .sleep ∧ t.rad.l2 = .off ∧ t.rad.hTx = .off ∧ t.rad.hRx = .off ∧ t.ks = s.ks ∧ t.jrn = s.jrn ∧
    (regBit s 0x4000001C 1 = false → (canOf t 0).state = .config ∧ (canOf t 1).state = .config)) ∧
  (∀ s, s.LinkInv → (duskIdle s = false ∨ s.power.state ≠ .noon) → exec .duskEntry s = .next (fresh s)) ∧
  (∀ s, s.LinkInv → s.power.state = .dusk → s.power.exitDue = true → s.link.held = [] → s.link.v1Wait = none → s.acc.triggers = [] → s.acc.waiting = [] →
    ∃ t, exec .duskExit s = .next t ∧ t.power.state = .noon ∧ regBit t 0x40000010 0 = true ∧ t.acc = s.acc ∧ t.ks = s.ks ∧ t.jrn = s.jrn ∧
      ∀ k : Fin 12, s.power.duskEngs.contains k.val = true → (engOf s k).state = .siesta → (engOf t k).state = .run) ∧
  (∀ s, s.LinkInv → s.power.exitDue = false → exec .duskExit s = .next (fresh s)) ∧
  (∀ s m, awake s = true → s.link.afterReply = some (.midnight, none) → ∃ t, exec (.midnightEntry m) s = .next t ∧ t.power.state = .midnight ∧ t.power.pll = false ∧
    t.link.afterReply = none ∧ t.fer.shadowGen = s.fer.shadowGen + 1 ∧ t.power.saveOk = (m.pages.val == 16 && m.bad == 0)) ∧
  (∀ s m, s.power.state = .dusk → regBit s 0x4000001C 2 = true → s.power.exitDue = false → midnightBarred s = false →
    noWake (regFld s 0x40000020 0 4) (regFld s 0x40000020 4 1) s = false →
    ∃ t, exec (.autoMidnight m) s = .next t ∧ t.power.state = .midnight ∧ t.power.pll = false ∧ t.fer.shadowGen = s.fer.shadowGen + 1) ∧
  (∀ s m, s.LinkInv → s.power.state ≠ .dusk → exec (.autoMidnight m) s = .next (fresh s)) ∧
  (∀ s m, s.power.state = .noon → s.power.stage = .done → ∃ t, exec (.sundownSave m) s = .next t ∧ t.power.state = .held ∧ t.power.vsupOk = false ∧
    t.saf.due = some (8, 3, false) ∧ t.acc.release.active = false ∧ t.fer.shadowGen = s.fer.shadowGen + 1 ∧ t.power.saveOk = (m.pages.val == 16 && m.bad == 0)) ∧
  (∀ s m, s.LinkInv → (s.power.state = .midnight ∨ s.power.state = .held) → exec (.sundownSave m) s = .next (fresh s))

/-- R526, R528, R529, R530, R532, R536, R537, R541, R542: a tamper sensor in Noon latches, zeroises and puts the key store into TAMPER_HOLD, with the record kept; in Dawn it zeroises and leads to LOCKDOWN; with LOCKDOWN standing, one in Noon blocks LF and ends what runs. An injection is
handed over by GO, acts once, and is withdrawn or ends unseen with outcome 4. -/
def Obligations.TamperAndInjection : Prop :=
  (∀ s (i : Fin 7), s.power.state = .noon → s.saf.raw = 0 → s.saf.inject = none → s.acc.decision = none → s.acc.release.active = false → s.sns.loc = none →
    (∀ c ∈ s.cpl.units, c.state = .none) → s.acc.triggers = [] → s.acc.waiting = [] → s.rng.rbe = none → s.ks.state = .open →
    ∃ t, exec (.tamperSensorAssert (BitVec.ofNat 7 (2 ^ i.val))) s = .next t ∧ t.saf.raw = word (2 ^ i.val) ∧ wbit t.saf.latched i = true ∧ t.saf.record = t.saf.latched ∧
      t.ks.state = .tamperHold ∧ t.ks.shares = none ∧ t.ks.kwk = none ∧ t.ks.storage = none ∧ t.ks.attD = none ∧ t.ks.slots = [] ∧ t.ks.nonces = s.ks.nonces ∧ t.ks.session = none ∧
      t.lf.tamperBlk = true ∧ regBit t 0x40100004 0 = true ∧ t.ks.handles = s.ks.handles) ∧
  (∀ s (i : Fin 7), s.power.state = .dawn → s.saf.raw = 0 → s.saf.inject = none →
    ∃ t, exec (.tamperSensorAssert (BitVec.ofNat 7 (2 ^ i.val))) s = .next t ∧ t.saf.raw = word (2 ^ i.val) ∧ wbit t.saf.latched i = true ∧ t.saf.record = t.saf.latched ∧
      t.ks.state = .lockdown ∧ t.ks.shares = none ∧ t.ks.kwk = none ∧ t.ks.storage = none ∧ t.ks.attD = none ∧ t.ks.slots = [] ∧ regBit t 0x40080008 0 = true) ∧
  (∀ s (i : Fin 7), s.power.state = .noon → s.saf.raw = 0 → s.saf.inject = none → s.acc.decision = none → s.acc.release.active = false →
    s.acc.triggers = [] → s.acc.waiting = [] → s.rng.rbe = none → s.ks.state = .lockdown →
    ∃ t, exec (.tamperSensorAssert (BitVec.ofNat 7 (2 ^ i.val))) s = .next t ∧ wbit t.saf.latched i = true ∧ t.saf.record = t.saf.latched ∧ t.ks.state = .lockdown ∧
      t.lf.tamperBlk = true) ∧
  (∀ s, running s = true → s.saf.inject = none →
    let det := regFld s 0x40100030 0 16
    let par := regFld s 0x40100030 16 16
    paramOk det par = true → (det ≤ 3 → bit par 15 = true) → det ≠ 5 → s.LinkInv →
    ∃ t, exec .injectGo s = .next t ∧ t.saf = { s.saf with inject := some { detector := det, param := par, acted := false, addr := none } } ∧
      regGet t 0x40100038 = 0xFFFF0000 ∧ RegsBut [0x40100038] s t ∧ t.ks = s.ks) ∧
  (∀ s x, running s = true → s.saf.inject = some x → ∃ t, exec .withdraw s = .next t ∧ t.saf = { s.saf with inject := none } ∧ regGet t 0x40100038 = 0xFFFF0004 ∧
    regBit t 0x40100004 3 = true ∧ RegsBut [0x40100038, 0x40100004] s t ∧ t.ks = s.ks) ∧
  (∀ s x c m, running s = true → s.LinkInv → s.saf.inject = some x → x.acted = false → x.detector ≤ 6 →
    exec (.liveInjectionAct c m) s = .next { fresh s with saf := { s.saf with inject := some { x with acted := true } } }) ∧
  (∀ s x c m, MayDawn s → running s = true → s.power.pll = true → s.saf.inject = some x → x.acted = false → x.detector = 7 →
    ∃ t, exec (.liveInjectionAct c m) s = .next t ∧ ResetDone 4 s t ∧ t.saf.due = some (7, if bit x.param 0 then 1 else 0, true)) ∧
  (∀ s x, running s = true → s.saf.inject = some x → x.acted = true → ∃ t, exec .injectNotObserved s = .next t ∧ t.saf = { s.saf with inject := none } ∧
    regGet t 0x40100038 = 0xFFFF0004 ∧ regBit t 0x40100004 3 = true ∧ RegsBut [0x40100038, 0x40100004] s t) ∧
  (∀ s, running s = true → s.LinkInv → s.saf.inject = none → exec .injectNotObserved s = .next (fresh s) ∧ exec .withdraw s = .next (fresh s))
/-! ### Timers, pins, the crypto accelerator -/

/-- R478, R479, R481, R484, R488, R490: START, STOP, COMMIT and a write of the count change one counter and nothing else; a clock counts or carries out a linked reset; a compare unit is armed
by its value, disarmed, fires when due and is armed again when periodic; a capture takes the count, and a second one before the read is an overrun. -/
def Obligations.TimerEvents : Prop :=
  (∀ s (c : Fin 8), Runs s → s.tmb.counters.length = 8 → CounterBecomes (.counterStart c) c { ctOf s c with run := true } s) ∧
  (∀ s (c : Fin 8), Runs s → s.tmb.counters.length = 8 → CounterBecomes (.counterStop c) c
    { (ctOf s c) with
        run := false, count := if (ctOf s c).resetDue then 0 else (ctOf s c).count, resetDue := false, live := (ctOf s c).staged.getD (ctOf s c).live, staged := none } s) ∧
  (∀ s (c : Fin 8), Runs s → s.tmb.counters.length = 8 → (ctOf s c).run = false →
    CounterBecomes (.tmbCommit c) c { (ctOf s c) with live := regGet s (0x400B0004 + 16 * c.val), staged := none } s) ∧
  (∀ s (c : Fin 8), Runs s → s.tmb.counters.length = 8 → (ctOf s c).run = true →
    CounterBecomes (.tmbCommit c) c { (ctOf s c) with staged := some (regGet s (0x400B0004 + 16 * c.val)) } s) ∧
  (∀ s (c : Fin 8) v, Runs s → s.tmb.counters.length = 8 → (ctOf s c).resetDue = false → CounterBecomes (.tmbCntWrite c v) c { ctOf s c with count := v } s) ∧
  (∀ s (c : Fin 8) v, Runs s → (ctOf s c).resetDue = true → ∃ t, exec (.tmbCntWrite c v) s = .next t ∧ t = { fresh s with regs := t.regs } ∧
    regGet t 0x400B030C = regGet s 0x400B030C ||| 2 ∧ RegsBut [0x400B030C] s t) ∧
  (∀ s (c : Fin 8), Runs s → s.tmb.counters.length = 8 → (ctOf s c).run = true → (∀ u, u / 4 = c.val → (unOf s u).armed = false ∧ (unOf s u).fresh = false) →
    CounterBecomes (.counterClock c) c
      { (ctOf s c) with
          count := if (ctOf s c).resetDue then 0 else (ctOf s c).count + 1, resetDue := false, live := (ctOf s c).staged.getD (ctOf s c).live, staged := none } s) ∧
  (∀ s (c : Fin 8), Runs s → (ctOf s c).run = false → exec (.counterClock c) s = .next (fresh s)) ∧
  (∀ s (u : Fin 32) v, Runs s → s.tmb.units.length = 32 → unMode s u = 1 → UnitBecomes (.compareArm u v) u { unOf s u with armed := true, fresh := true } [cmpAddr u] s) ∧
  (∀ s (u : Fin 32) v, Runs s → ∃ t, exec (.compareArm u v) s = .next t ∧ regGet t (cmpAddr u) = v ∧ RegsBut [cmpAddr u] s t) ∧
  (∀ s (u : Fin 32), Runs s → s.tmb.units.length = 32 → UnitBecomes (.disarm u) u { unOf s u with armed := false, fresh := false } [] s) ∧
  (∀ s (u : Fin 32), Runs s → s.tmb.units.length = 32 → unMode s u = 1 → (unOf s u).armed = true → (ctOf s (u.val / 4)).run = true →
    ((ctOf s (u.val / 4)).count - regGet s (cmpAddr u)).toNat < 2 ^ 31 → regFld s (ucfgAddr u) 9 4 = 0 →
    UnitBecomes (.compareFire u) u { (unOf s u) with
      armed := regBit s (ucfgAddr u) 13, fresh := false, fires := ((unOf s u).fires + 1) % 65536, lateVal := (ctOf s (u.val / 4)).count - regGet s (cmpAddr u) }
      (if regBit s (ucfgAddr u) 8 then [0x400B0300] else []) s ∧
    (regBit s (ucfgAddr u) 8 = true → ∃ t, exec (.compareFire u) s = .next t ∧ regBit t 0x400B0300 u = true)) ∧
  (∀ s (u : Fin 32), Runs s → (unOf s u).armed = false → exec (.compareFire u) s = .next (fresh s)) ∧
  (∀ s (u : Fin 32) rising, Runs s → s.tmb.units.length = 32 → unMode s u = 2 → (regFld s (ucfgAddr u) 2 2 = 2 ∨ regFld s (ucfgAddr u) 2 2 = if rising then 0 else 1) →
    regFld s (ucfgAddr u) 8 3 = 0 → ∃ t, exec (.capture u rising) s = .next t ∧ unOf t u = { (unOf s u) with capFull := true, fires := ((unOf s u).fires + 1) % 65536 } ∧
      regGet t (cmpAddr u) = (ctOf s (u.val / 4)).count ∧ regBit t 0x400B0308 u = (regBit s 0x400B0308 u || (unOf s u).capFull) ∧ RegsBut [cmpAddr u, 0x400B0308] s t ∧
      (∀ c, ctOf t c = ctOf s c)) ∧
  (∀ s (u : Fin 32) rising, Runs s → unMode s u ≠ 2 → exec (.capture u rising) s = .next (fresh s)) ∧
  (∀ s (u : Fin 32), Runs s → s.tmb.units.length = 32 → UnitBecomes (.captureRead u) u { unOf s u with capFull := false } [] s)

/-- R611, R612, R613: GPIO_SET, GPIO_CLR and GPIO_TGL change the outputs of pins that are not locked, and a pin driven from them takes its level; GPIO_LOCK only adds locks; a locked pin keeps its
configuration; an edge from outside reaches a pin that is not driven. -/
def Obligations.PinEvents : Prop :=
  let out := fun (s : State) (v : Word) => (regGet s 0x400F0064 &&& regGet s 0x400F0078) ||| (v &&& ~~~regGet s 0x400F0078 &&& 0xFFFFFF)
  let drives := fun (i : Instr) (v : Word) (s : State) => ∃ t, exec i s = .next t ∧ Leaves { s with regs := t.regs, eng := t.eng, pins := t.pins } t ∧
    regGet t 0x400F0064 = out s v ∧ RegsBut [0x400F0064, 0x400F0074] s t ∧ t.pins.wake = s.pins.wake ∧
    ∀ n < 24, s.power.vddioOk = true → pinFunc s n = 1 → regBit s (0x400F0000 + 4 * n) 5 = false → t.pins.gpio.getD n false = wbit (out s v) n
  (∀ s (m : BitVec 24), Runs s → s.pins.gpio.length = 24 → drives (.gpioSet m) (regGet s 0x400F0064 ||| word m.toNat) s) ∧
  (∀ s (m : BitVec 24), Runs s → s.pins.gpio.length = 24 → drives (.gpioClr m) (regGet s 0x400F0064 &&& ~~~word m.toNat) s) ∧
  (∀ s (m : BitVec 24), Runs s → s.pins.gpio.length = 24 → drives (.gpioTgl m) (regGet s 0x400F0064 ^^^ word m.toNat) s) ∧
  (∀ s (m : BitVec 24), Runs s → ∃ t, exec (.gpioLock m) s = .next t ∧ t = { fresh s with regs := t.regs } ∧ regGet t 0x400F0078 = regGet s 0x400F0078 ||| word m.toNat ∧
    RegsBut [0x400F0078] s t) ∧
  (∀ s (n : Fin 24) v, Runs s → pinLocked s n = false → valueGood s (0x400F0000 + 4 * n.val) v = true →
    ∃ t, exec (.funcChange n v) s = .next t ∧ regGet t (0x400F0000 + 4 * n.val) = v ∧ RegsBut [0x400F0000 + 4 * n.val, 0x400F0064, 0x400F0074] s t ∧
      Leaves { s with regs := t.regs, eng := t.eng, pins := t.pins, tmb := { s.tmb with outs := t.tmb.outs } } t) ∧
  (∀ s (n : Fin 24) v, Runs s → (pinLocked s n = true ∨ valueGood s (0x400F0000 + 4 * n.val) v = false) → exec (.funcChange n v) s = .next (fresh s)) ∧
  (∀ s (n : Fin 24) lv, s.LinkInv → s.pins.gpio.length = 24 → pinDrive s n = none → ∃ t, exec (.gpioEdge n lv) s = .next t ∧ t.pins.gpio.getD n.val false = lv ∧
    (∀ m, m ≠ n.val → t.pins.gpio.getD m false = s.pins.gpio.getD m false) ∧ RegsBut [0x400F0074] s t ∧
    (s.power.vddioOk = true → s.pins.gpio.getD n.val false ≠ lv → regBit s (0x400F0000 + 4 * n.val) (if lv then 6 else 7) = true → regBit t 0x400F0074 n = true) ∧
    Leaves { s with regs := t.regs, eng := t.eng, pins := t.pins } t) ∧
  (∀ s (n : Fin 24) lv, s.LinkInv → (pinDrive s n).isSome = true → exec (.gpioEdge n lv) s = .next (fresh s))

/-- R614, R616: the accelerator's commands complete in order, each counted and shown with its success or its error; RESEED waits for the request that runs; a failed health test halts randomness; a
passed retest ends that. -/
def Obligations.AcceleratorEvents : Prop :=
  (∀ s, Runs s → s.cry.queue = [] → ∃ t, exec .reseed s = .next t ∧ t.cry = { s.cry with gen := 0, reseedDue := false } ∧ CountsOne 0x40110020 s t ∧ regBit t 0x40110008 3 = true ∧
    RegsBut [0x40110008, 0x40110020] s t ∧ Leaves { s with cry := t.cry, regs := t.regs, eng := t.eng } t) ∧
  (∀ s, Runs s → s.cry.queue ≠ [] → exec .reseed s = .next { fresh s with cry := { s.cry with reseedDue := true } }) ∧
  (∀ s, Runs s → s.cry.failAt.length < 3 → ∃ t, exec (.retest true) s = .next t ∧ t.cry = { s.cry with halt := false, trngOk := true, gen := 0, reseedDue := false } ∧
    CountsOne 0x40110020 s t ∧ RegsBut [0x40110008, 0x40110020] s t) ∧
  (∀ s, Runs s → exec (.retest false) s = .next (fresh s)) ∧
  (∀ s kind, Runs s → ∃ t, exec (.healthFail kind) s = .next t ∧ t.cry.halt = true ∧ t.cry.queue = s.cry.queue ∧ regBit t 0x40110008 2 = true ∧
    RegsBut [0x40110008, if kind then 0x40110024 else 0x40110028] s t ∧ Leaves { s with cry := t.cry, regs := t.regs, eng := t.eng } t) ∧
  (∀ s w l code slot, Runs s → s.cry.queue = w :: l → s.cry.reseedDue = false → ∃ t, exec (.cryCommandDone code slot 0) s = .next t ∧ t.cry = { s.cry with queue := l } ∧
    regGet t 0x4011002C = w ∧ regGet t 0x40110010 = BitVec.ofNat 32 (min ((regGet s 0x40110010).toNat + 1) 0xFFFFFFFF) ∧
    regBit t 0x40110008 (if code = 0 then 0 else 1) = true ∧ (code ≠ 0 → regGet t 0x4011000C = word (code.val + 256 * slot.val)) ∧
    RegsBut [0x4011002C, 0x40110010, 0x40110008, 0x4011000C] s t ∧ t.ks = s.ks) ∧
  (∀ s code slot kind, Runs s → s.cry.queue = [] → exec (.cryCommandDone code slot kind) s = .next (fresh s))
/-! ### Vehicle buses -/

/-- R496, R497, R498, R500, R501, R503, R504, R505, R521: a frame in ACTIVE is counted and joins the FIFO of the filter that takes it, or is counted as taken by none, as remote, or as a spoof; a
controller in CONFIG receives nothing; the winning buffer is sent, answered and free again; a host frame out of time answers TIMEOUT; REQ, ABORT, POP, COMMIT, bus-off, recovery,
RESTART and integration do what their rows say. -/
def Obligations.CanEvents : Prop :=
  let put := fun (bus : Fin 2) (c : Can) (s : State) => if bus = 0 then { s.bus with can0 := c } else { s.bus with can1 := c }
  let cnt := fun (bus : Fin 2) (i : Nat) => canBase bus.val + 0x20 + 4 * i
  let sets := fun (i : Instr) (bus : Fin 2) (c : Can) (s : State) => exec i s = .next { fresh s with bus := put bus c s }
  let hears := fun (f : CanRx) (s : State) => Runs s ∧ (canOf s f.bus).state = .active ∧ (canOf s f.bus).integrating = false ∧ (canOf s f.bus).staged = none ∧
    s.saf.inject = none ∧ (f.fd = true → regBit s (canBase f.bus + 0x1C) 0 = true)
  let taken := fun (f : CanRx) (s : State) => { canOf s f.bus with rxErr := (canOf s f.bus).rxErr - 1 }
  (∀ s f, hears f s → s.power.state = .noon → f.rtr = false → canSpoof s f = false → filterFind s f = none →
    ∃ t, exec (.canFrameRx f) s = .next t ∧ Leaves { s with regs := t.regs, bus := put f.bus (taken f s) s } t ∧ CountsOne (cnt f.bus 0) s t ∧ CountsOne (cnt f.bus 5) s t ∧
      RegsBut [cnt f.bus 0, cnt f.bus 5] s t) ∧
  (∀ s f n, hears f s → s.power.state = .noon → f.rtr = false → canSpoof s f = false → filterFind s f = some (f.bus.val, n) →
    regBit s (canBase f.bus + 0x408 + 16 * n) 3 = false → regFld s (canBase f.bus + 0x408 + 16 * n) 1 2 = 1 → (canOf s f.bus).rx1.length < 32 →
    BusBecomes (.canFrameRx f) (put f.bus { (taken f s) with rx1 := (canOf s f.bus).rx1 ++
      [{ ts := s.power.clkUs, id := f.id, xid := f.xid, fd := f.fd, brs := f.brs, esi := f.esi, dlc := f.dlc.val, filter := n, data := f.data }] } s)
      [cnt f.bus 0] (canBase f.bus + 8, 1) s) ∧
  (∀ s f n, hears f s → s.power.state = .noon → f.rtr = false → canSpoof s f = false → filterFind s f = some (f.bus.val, n) →
    regBit s (canBase f.bus + 0x408 + 16 * n) 3 = false → regFld s (canBase f.bus + 0x408 + 16 * n) 1 2 = 1 → 32 ≤ (canOf s f.bus).rx1.length →
    BusBecomes (.canFrameRx f) (put f.bus { taken f s with ovf1 := true } s) [cnt f.bus 0, cnt f.bus 2] (canBase f.bus + 8, 4) s) ∧
  (∀ s f, hears f s → f.rtr = true → ∃ t, exec (.canFrameRx f) s = .next t ∧ CountsOne (cnt f.bus 8) s t ∧ t.bus = put f.bus (taken f s) s ∧ RegsBut [cnt f.bus 0, cnt f.bus 8] s t) ∧
  (∀ s f, hears f s → s.power.state = .noon → f.rtr = false → canSpoof s f = true →
    BusBecomes (.canFrameRx f) (put f.bus (taken f s) s) [cnt f.bus 0, cnt f.bus 4, canBase f.bus + 0x4C] (canBase f.bus + 8, 6) s) ∧
  (∀ s f, Runs s → (canOf s f.bus).state = .config → exec (.canFrameRx f) s = .next (fresh s)) ∧
  (∀ s (bus : Fin 2) n, Runs s → (canOf s bus).state = .active → (canOf s bus).integrating = false → (canOf s bus).staged = none → (canOf s bus).pend = [n] → n < 12 →
    (∀ j ∈ (canOf s bus).jobs, j.buffer ≠ n) → ∃ t, exec (.canTxDone bus) s = .next t ∧ Emission.canTx bus (txbId s bus n) (txbXid s bus n) (txbData s bus n) ∈ t.emit ∧
      Leaves { s with regs := t.regs, eng := t.eng, bus := t.bus } t ∧ (canOf t bus).pend = [] ∧ (canOf t bus).txErr = (canOf s bus).txErr - 1 ∧
      regBit t (txbAddr bus n) 7 = false ∧ regBit t (canBase bus + 8) 2 = true ∧ CountsOne (cnt bus 1) s t ∧ RegsBut [txbAddr bus n, canBase bus + 8, cnt bus 1] s t) ∧
  (∀ s (bus : Fin 2), Runs s → (canOf s bus).pend = [] → exec (.canTxDone bus) s = .next (fresh s)) ∧
  (∀ s (bus : Fin 2) (b : Fin 16) j r room, Runs s → (canOf s bus).pend = [b.val] → (canOf s bus).jobs = [j] → j.buffer = b → j.ret = some r → r.port = .hcs0 →
    s.link.hcs0 = { outq := [], last := none, opn := [{ ret := r, room := room, pkt := none }] } →
    ∃ t, exec (.canTxTimeout bus b) s = .next t ∧ (canOf t bus).pend = [] ∧ (canOf t bus).jobs = [] ∧ regBit t (canBase bus + 8) 3 = true ∧
      t.link.hcs0.outq = [replyPkt r stTimeout (refusalBytes 0xFFFF 0) false] ∧ RegsBut [txbAddr bus b, canBase bus + 8] s t) ∧
  (∀ s (bus : Fin 2) (b : Fin 16), Runs s → ∃ t, exec (.req bus b) s = .next t ∧ b.val ∈ (canOf t bus).pend ∧ (∀ n ∈ (canOf s bus).pend, n ∈ (canOf t bus).pend) ∧
    regBit t (txbAddr bus b) 7 = true ∧ RegsBut [txbAddr bus b] s t ∧ Leaves { s with regs := t.regs, bus := t.bus } t) ∧
  (∀ s (bus : Fin 2) (b : Fin 16), Runs s → b.val ∈ (canOf s bus).pend → (canOf s bus).jobs = [] → ∃ t, exec (.canTxAbort bus b) s = .next t ∧
    (canOf t bus).pend = (canOf s bus).pend.filter (· != b.val) ∧ regBit t (txbAddr bus b) 7 = false ∧ RegsBut [txbAddr bus b] s t ∧ Leaves { s with regs := t.regs, bus := t.bus } t) ∧
  (∀ s (bus : Fin 2), Runs s → sets (.canRxPop bus true) bus { canOf s bus with rx1 := (canOf s bus).rx1.tail, ovf1 := false } s) ∧
  (∀ s (bus : Fin 2), Runs s → sets (.canRxPop bus false) bus { canOf s bus with rx0 := (canOf s bus).rx0.tail, ovf0 := false } s) ∧
  (∀ s (bus : Fin 2), Runs s → timingOk (regGet s (canBase bus + 0xC)) (regGet s (canBase bus + 0x10)) = true → (canOf s bus).state = .config →
    sets (.canCommit bus false) bus { canOf s bus with staged := none, live := (regGet s (canBase bus + 0xC), regGet s (canBase bus + 0x10)) } s) ∧
  (∀ s (bus : Fin 2), Runs s → timingOk (regGet s (canBase bus + 0xC)) (regGet s (canBase bus + 0x10)) = true → (canOf s bus).state = .active →
    sets (.canCommit bus true) bus { canOf s bus with staged := some (regGet s (canBase bus + 0xC), regGet s (canBase bus + 0x10)) } s) ∧
  (∀ s (bus : Fin 2) frame, Runs s → timingOk (regGet s (canBase bus + 0xC)) (regGet s (canBase bus + 0x10)) = false →
    BusBecomes (.canCommit bus frame) s.bus [] (canBase bus + 8, 10) s) ∧
  (∀ s (bus : Fin 2), Runs s → (canOf s bus).faulted = true → sets (.restart bus) bus { canOf s bus with faulted := false, state := .active, integrating := true, txErr := 0, rxErr := 0, boAt := [] } s) ∧
  (∀ s (bus : Fin 2), Runs s → (canOf s bus).state = .active → (canOf s bus).staged = none → (canOf s bus).boAt = [] → (∀ n ∈ (canOf s bus).pend, n < 12) → s.bus.tp = [] →
    BusBecomes (.busOff bus) (put bus { canOf s bus with state := .busOff, txErr := 255, boAt := [s.power.clkUs] } s) [cnt bus 6] (canBase bus + 8, 7) s) ∧
  (∀ s (bus : Fin 2), Runs s → (canOf s bus).state = .busOff → (canOf s bus).faulted = false →
    sets (.busOffRecovery bus) bus { canOf s bus with state := .active, txErr := 0, rxErr := 0 } s) ∧
  (∀ s (bus : Fin 2), Runs s → (canOf s bus).state = .busOff → (canOf s bus).faulted = true → exec (.busOffRecovery bus) s = .next (fresh s)) ∧
  (∀ s (bus : Fin 2), Runs s → sets (.integration bus) bus { canOf s bus with integrating := false, failedOver := false } s) ∧
  (∀ s, Runs s → ∃ t, exec .speedTimeout s = .next t ∧ t = { fresh s with regs := t.regs } ∧ regBit t 0x4007011C 18 = false ∧ regFld t 0x4007011C 0 18 = regFld s 0x4007011C 0 18 ∧
    RegsBut [0x4007011C] s t)

/-- R511, R513, R514, R515, R516, R517, R518, R525: a J2497 message with a good checksum and another's MID is counted and queued, others are counted; messages wait, are sent by priority and time out; the LIN
commander publishes and reads by its jobs and its schedule, a responder answers a header that names one of its slots; a phone's connection begins, misses events and ends. -/
def Obligations.PlcLinEvents : Prop :=
  (∀ s f, Runs s → regBit s 0x400D0000 0 = true → s.power.state = .noon → f.ok = true → (byteAt f.data 0 ≠ regFld s 0x400D000C 0 8 ∨ byteAt f.data 0 = 0) →
    s.bus.midCount = [] → s.bus.plcRx.length < 8 →
    ∃ t, exec (.plcMessageRx f) s = .next t ∧ Leaves { s with regs := t.regs, eng := t.eng, bus := t.bus } t ∧
      t.bus = { s.bus with midCount := t.bus.midCount, plcRx := s.bus.plcRx ++ [{ mid := byteAt f.data 0, prio := 0, data := f.data, ts := s.power.clkUs }] } ∧
      CountsOne 0x400D0014 s t ∧ regBit t 0x400D0008 0 = true ∧ RegsBut [0x400D0014, 0x400D0008] s t) ∧
  (∀ s f, Runs s → regBit s 0x400D0000 0 = true → s.power.state = .noon → f.ok = false → ∃ t, exec (.plcMessageRx f) s = .next t ∧
    Leaves { s with regs := t.regs, eng := t.eng } t ∧ CountsOne 0x400D001C s t ∧ regBit t 0x400D0008 3 = true ∧ RegsBut [0x400D001C, 0x400D0008] s t) ∧
  (∀ s f, Runs s → regBit s 0x400D0000 0 = true → s.power.state = .noon → f.ok = true → byteAt f.data 0 = regFld s 0x400D000C 0 8 → byteAt f.data 0 ≠ 0 →
    ∃ t, exec (.plcMessageRx f) s = .next t ∧ Leaves { s with regs := t.regs, eng := t.eng } t ∧ CountsOne 0x400D0024 s t ∧ regBit t 0x400D0008 5 = true) ∧
  (∀ s, Runs s → regFld s 0x400D0030 0 5 ≠ 0 →
    let data := (((List.range 6).map fun w => le 4 (regGet s (0x400D0034 + 4 * w)).toNat).flatten).take (regFld s 0x400D0030 0 5)
    let p := regFld s 0x400D000C 8 3
    exec .txReq s = .next { fresh s with bus := { s.bus with plcTx := s.bus.plcTx ++
      [{ msg := { mid := byteAt data 0, prio := if p = 0 then 8 else p, data := data, ts := s.power.clkUs }, host := none }] } }) ∧
  (∀ s, Runs s → regFld s 0x400D0030 0 5 = 0 → exec .txReq s = .next (fresh s)) ∧
  (∀ s j, Runs s → s.bus.plcTx = [j] → j.host = none → ∃ t, exec .plcTxDone s = .next t ∧ Emission.plcTx j.msg.mid j.msg.data ∈ t.emit ∧ t.bus = { s.bus with plcTx := [] } ∧
    CountsOne 0x400D0018 s t ∧ regBit t 0x400D0008 1 = true ∧ Leaves { s with regs := t.regs, eng := t.eng, bus := t.bus } t) ∧
  (∀ s j k, Runs s → s.bus.plcTx = [j, k] → k.msg.prio < j.msg.prio → k.host = none → ∃ t, exec .plcTxDone s = .next t ∧ t.bus.plcTx = [j] ∧
    Emission.plcTx k.msg.mid k.msg.data ∈ t.emit) ∧
  (∀ s j l, Runs s → s.bus.plcTx = j :: l → j.host = none → ∃ t, exec .plcAccessTimeout s = .next t ∧ t.bus = { s.bus with plcTx := l } ∧ CountsOne 0x400D002C s t ∧
    regBit t 0x400D0008 2 = true ∧ Leaves { s with regs := t.regs, eng := t.eng, bus := t.bus } t) ∧
  (∀ s j l r room, Runs s → s.bus.plcTx = j :: l → j.host = some r → r.port = .hcs0 →
    s.link.hcs0 = { outq := [], last := none, opn := [{ ret := r, room := room, pkt := none }] } → ∃ t, exec .plcAccessTimeout s = .next t ∧
      t.link.hcs0.outq = [replyPkt r stTimeout (refusalBytes 0xFFFF 0) false] ∧ t.bus = { s.bus with plcTx := l }) ∧
  (∀ s, Runs s → exec .plcRxPop s = .next { fresh s with bus := { s.bus with plcRx := s.bus.plcRx.tail } }) ∧
  (∀ s x j l, Runs s → s.power.state ≠ .dusk → regBit s 0x400E0000 1 = true → regBit s 0x400E0000 0 = false → s.bus.linJob = j :: l → j.publish = true → j.host = none →
    ∃ t, exec (.linSlot x) s = .next t ∧ Emission.linTx j.pid j.data ∈ t.emit ∧ t.bus = { s.bus with linJob := l } ∧ regBit t 0x400E0008 0 = true ∧
      RegsBut [0x400E0008] s t ∧ Leaves { s with regs := t.regs, eng := t.eng, bus := t.bus } t) ∧
  (∀ s j l b, Runs s → s.power.state ≠ .dusk → regBit s 0x400E0000 1 = true → regBit s 0x400E0000 0 = false → s.bus.linJob = j :: l → j.publish = false → j.host = none →
    b.length = j.len → doorsOf s j.pid.toNat = [] → ∃ t, exec (.linSlot (.data b)) s = .next t ∧ t.bus = { s.bus with linJob := l } ∧ regBit t 0x400E0008 0 = true ∧
      linData t = fit 8 b ∧ RegsBut [0x400E0008, 0x400E0070, 0x400E0074] s t) ∧
  (∀ s j l, Runs s → s.power.state ≠ .dusk → regBit s 0x400E0000 1 = true → regBit s 0x400E0000 0 = false → s.bus.linJob = j :: l → j.publish = false → j.host = none →
    ∃ t, exec (.linSlot .badSum) s = .next t ∧ t.bus = { s.bus with linJob := l } ∧ CountsOne 0x400E0014 s t ∧ regBit t 0x400E0008 2 = true ∧ RegsBut [0x400E0008, 0x400E0014] s t) ∧
  (∀ s x, Runs s → regBit s 0x400E0000 1 = false → exec (.linSlot x) s = .next (fresh s)) ∧
  (∀ s x pid k, Runs s → s.power.state ≠ .dusk → regBit s 0x400E0000 1 = true → regBit s 0x400E0000 0 = true →
    (List.range 16).find? (fun k => slotFld s k 12 8 != 0 && slotFld s k 0 6 == pid.toNat) = some k → slotFld s k 6 1 = 0 →
    ∃ t, exec (.linHeader pid true x) s = .next t ∧ Emission.linTx (byte pid.toNat) ((linData s).take (slotFld s k 8 4)) ∈ t.emit ∧ regBit t 0x400E0008 0 = true ∧
      RegsBut [0x400E0008] s t ∧ Leaves { s with regs := t.regs, eng := t.eng } t) ∧
  (∀ s x pid, Runs s → s.power.state ≠ .dusk → regBit s 0x400E0000 1 = true → regBit s 0x400E0000 0 = true →
    ∃ t, exec (.linHeader pid false x) s = .next t ∧ CountsOne 0x400E0018 s t ∧ regBit t 0x400E0008 3 = true ∧ RegsBut [0x400E0008, 0x400E0018] s t) ∧
  (∀ s, Runs s → s.power.state ≠ .dusk →
    let v := regGet s 0x400E0078
    exec .go s = .next { fresh s with bus := { s.bus with linJob := s.bus.linJob ++
      [{ pid := byte (wfld v 0 6), publish := !wbit v 6, enh := wbit v 7, len := wfld v 8 4, data := (linData s).take (wfld v 8 4), host := none }] } }) ∧
  (∀ s, Runs s → s.power.state = .dusk → ∃ t, exec .linWake s = .next t ∧ t.power.exitDue = true ∧ regBit t 0x400E0008 4 = true ∧
    t.bus = { s.bus with wakeSeen := true, linSlot := 0, touch := [(0, false), (1, false), (2, false), (3, false)], silent := [] } ∧ RegsBut [0x400E0008] s t) ∧
  (∀ s, Runs s → s.power.state ≠ .dusk → exec .linWake s = .next (fresh s)) ∧
  (∀ s (r : Fin 64) central k, Runs s → tokOf s r = some k → k.cls = .ph → k.state = .active → (∀ c ∈ s.bus.conns, c.record ≠ r) → s.bus.conns.length < 8 →
    exec (.phoneConnection r central) s = .next { fresh s with bus := { s.bus with conns := s.bus.conns ++ [{ record := r, missed := 0, central := central }] } }) ∧
  (∀ s (r : Fin 64) c missed, Runs s → s.bus.conns = [c] → c.record = r → s.acc.decision = none →
    exec (.connectionEvent r missed false) s = .next { fresh s with bus := { s.bus with conns := [{ c with missed := if missed then c.missed + 1 else 0 }] } }) ∧
  (∀ s (r : Fin 64) c missed, Runs s → s.bus.conns = [c] → c.record = r → s.acc.decision = none →
    exec (.connectionEvent r missed true) s = .next { fresh s with bus := { s.bus with conns := [] } }) ∧
  (∀ s (r : Fin 64) missed lost, Runs s → s.bus.conns = [] → exec (.connectionEvent r missed lost) s = .next (fresh s))
/-! ### Access -/

/-- R25, R44, R45, R47, R94, R554, R556: a wake pin, a start request and a presence frame each ask for a decision: merged into the running one of their class, queued behind one of another class, dropped
and counted when the queue of four is full; with no role set it leaves its record, REFUSED with NO_ROLE and of duration 0, at once, whatever runs or waits. In Dusk an enabled pin asks for Noon, in Midnight it wakes. Frames that do
not match, and edges that do not count, change nothing. -/
def Obligations.DecisionTriggers : Prop :=
  let new := fun (k : TrigKind) (o : Sought) (door : Option Nat) (s : State) =>
    ({ kind := k, sought := o, door := door, t0 := s.power.clkUs, works := [], v1 := false, grant := none } : Trigger)
  let mine := fun (data : Bytes) (s : State) => 4 ≤ data.length ∧ ∃ k ∈ s.acc.tokens, k.state = .active ∧ k.cls = .t3 ∧ k.tokenId.toNat = at_ data 0 4
  let start := fun (f : BusFrame) (s : State) => canHears s f.bus = true ∧ immoMatch s 0x4006004C f = true ∧ regBit s 0x40060040 2 = true
  let asks := fun (i : Instr) (k : TrigKind) (o : Sought) (door : Option Nat) (s : State) =>
    (∀ d, s.acc.decision = some d → s.cfg.role ≠ .none → trigClass d.trig.kind = trigClass k → ∃ t, exec i s = .next t ∧ t.acc = s.acc) ∧
    (∀ d, s.acc.decision = some d → s.cfg.role ≠ .none → trigClass d.trig.kind ≠ trigClass k → s.acc.triggers.length < 4 → s.acc.waiting = [] →
      ∃ t, exec i s = .next t ∧ t.acc = { s.acc with triggers := s.acc.triggers ++ [new k o door s] }) ∧
    (∀ d, s.acc.decision = some d → s.cfg.role ≠ .none → trigClass d.trig.kind ≠ trigClass k → s.acc.triggers.length = 4 →
      ∃ t, exec i s = .next t ∧ t.acc = { s.acc with dropped := s.acc.dropped + 1 })
  let noRole := fun (i : Instr) (k : TrigKind) (s : State) => s.cfg.role = .none → ∃ t, exec i s = .next t ∧
    t.acc = { s.acc with decNum := s.acc.decNum + 1, ring := t.acc.ring } ∧
    t.acc.ring.getLast?.map (fun r => (r.num, r.trigger, r.outcome, r.reason, r.t0, r.duration)) =
      some (s.acc.decNum + 1, byte (trigCode k), byte outRefused, byte rsNoRole, s.power.clkUs, 0)
  (∀ s (n : Fin 4), s.LinkInv → s.power.state = .noon → s.power.vddioOk = true → asks (.wakePinEdge n) .wakePin .door (some n) s ∧ noRole (.wakePinEdge n) .wakePin s) ∧
  (∀ s (n : Fin 4), s.LinkInv → s.power.state = .noon → s.power.vddioOk = true → regBit s 0x40000020 n = true → s.acc.decision ≠ none →
    ∃ t, exec (.wakePinEdge n) s = .next t ∧ regBit t 0x40000010 2 = true ∧ RegsBut [0x40000010] s t) ∧
  (∀ s (n : Fin 4), s.LinkInv → (s.power.vddioOk = false ∨ (s.power.state = .dusk ∧ regBit s 0x40000020 n = false)) → exec (.wakePinEdge n) s = .next (fresh s)) ∧
  (∀ s (n : Fin 4), s.LinkInv → s.power.state = .dusk → s.power.vddioOk = true → regBit s 0x40000020 n = true → ∃ t, exec (.wakePinEdge n) s = .next t ∧ t.power.exitDue = true) ∧
  (∀ s (n : Fin 4), MayDawn s → s.power.state = .midnight → s.power.vddioOk = true → regBit s 0x40000020 n = true → ∃ t, exec (.wakePinEdge n) s = .next t ∧ ResetDone 7 s t) ∧
  (∀ s f, s.LinkInv → s.power.state = .noon → start f s → asks (.startRequestFrame f) .startFrame .start none s) ∧
  (∀ s f, s.LinkInv → (canHears s f.bus = false ∨ immoMatch s 0x4006004C f = false ∨ regBit s 0x40060040 2 = false) → exec (.startRequestFrame f) s = .next (fresh s)) ∧
  (∀ s data, s.LinkInv → s.power.state = .noon → mine data s → asks (.presenceFrame data) .presence .door none s ∧ noRole (.presenceFrame data) .presence s) ∧
  (∀ s data, s.LinkInv → ¬ mine data s → exec (.presenceFrame data) s = .next (fresh s)) ∧
  (∀ s, s.LinkInv → s.power.state = .dusk → regFld s 0x40060014 24 8 ≠ 0 → lfBlocked s = false → ((List.range 8).any fun k => aerRole s k != 0 && chanLive s k) = true →
    (s.lf.telegram.isSome = true ∨ s.lf.grant.isSome = true) → ∃ t r, exec .duskBeacon s = .next t ∧ t.lf = { s.lf with waiting := s.lf.waiting ++ [r] } ∧ r.cls = 4 ∧
      r.due = s.power.clkUs ∧ t.regs = s.regs ∧ t.acc = s.acc ∧ t.power = s.power) ∧
  (∀ s, s.LinkInv → s.power.state = .dusk → regFld s 0x40060014 24 8 ≠ 0 → lfBlocked s = false →
    let set := (List.range 8).filter fun k => aerRole s k != 0 && chanLive s k
    let ws := [wakeWord (set.foldl (fun a k => a + 2 ^ k) 0) (regFld s 0x40020858 16 3), word 0]
    set ≠ [] → s.lf.telegram = none → s.lf.grant = none → energyFits s (estimateOf s ws) = true →
    ∃ t g, exec .duskBeacon s = .next t ∧ t.lf.grant = some g ∧ g.cls = 4 ∧ g.words = ws ∧ t.lf.fifo = ws ∧ t.regs = s.regs ∧ t.acc = s.acc ∧ t.power = s.power) ∧
  (∀ s, s.LinkInv → s.power.state ≠ .dusk → exec .duskBeacon s = .next (fresh s)) ∧
  (∀ s k, s.LinkInv → s.power.state = .noon → s.link.e0Restart = false → decisionFree s = true → s.acc.waiting = [] → s.acc.triggers = [k] → s.cfg.role = .none →
    (k.kind = .wakePin ∨ k.kind = .lin ∨ k.kind = .startFrame ∨ k.kind = .presence) →
    ∃ t, exec .queuedTriggerStart s = .next t ∧ t.acc.triggers = [] ∧ t.acc.decision = none ∧ t.acc.decNum = s.acc.decNum + 1 ∧
      t.acc.ring.getLast?.map (fun r => (r.num, r.t0, r.reason)) = some (s.acc.decNum + 1, k.t0, byte rsNoRole)) ∧
  (let starts := fun (k : Trigger) (s : State) => s.LinkInv ∧ s.power.state = .noon ∧ s.link.e0Restart = false ∧ decisionFree s = true ∧ s.acc.waiting = [] ∧ s.acc.triggers = [k] ∧
    s.cfg.role ≠ .none ∧ (k.kind = .wakePin ∨ k.kind = .lin ∨ k.kind = .startFrame ∨ k.kind = .presence ∨ k.kind = .decide)
   let ended := fun (k : Trigger) (s t : State) => t.acc.triggers = [] ∧ t.acc.decision = none ∧ t.acc.decNum = s.acc.decNum + 1 ∧
     t.acc.ring.getLast?.map (fun r => (r.num, r.trigger, r.t0)) = some (s.acc.decNum + 1, byte (trigCode k.kind), k.t0)
   (∀ s k, starts k s → tamperStands s = true → ∃ t, exec .queuedTriggerStart s = .next t ∧ ended k s t ∧
     t.acc.ring.getLast?.map (fun r => (r.outcome, r.reason)) = some (byte outRefused, byte rsTamper)) ∧
   (∀ s k, starts k s → tamperStands s = false → regFld s 0x40060000 0 2 ≠ 2 → regFld s 0x40060014 0 8 = 0 → s.bus.conns = [] →
     ∃ t, exec .queuedTriggerStart s = .next t ∧ ended k s t) ∧
   (∀ s k, starts k s → tamperStands s = false → regFld s 0x40060000 0 2 ≠ 2 → regFld s 0x40060014 0 8 ≠ 0 → lfBlocked s = false → s.lf.telegram.isSome = true → s.lf.grant = none →
     (s.acc.tokens.any fun x => x.state == .active && x.cls == .t3 && !x.bandH) = true →
     ∃ t d, exec .queuedTriggerStart s = .next t ∧ t.acc.triggers = [] ∧ t.acc.decision = some d ∧ d.trig = k ∧ d.num = s.acc.decNum + 1 ∧ t.acc.decNum = s.acc.decNum + 1 ∧
       d.phase = .poll ∧ d.lfDue = true ∧ d.nonce = Config.freeWord s.drawn ∧ t.acc.ring = s.acc.ring ∧ ∃ q ∈ t.lf.waiting, q.cls = 0 ∧ q.plan.isSome = true)) ∧
  (∀ s, s.LinkInv → s.acc.decision ≠ none → exec .queuedTriggerStart s = .next (fresh s))

/-- R52, R53, R54, R56, R57, R58, R59, R61, R62, R63, R141: a reply in its slot whose MAC verifies under its record's key makes its token a candidate; one whose identifier no record has, or that fails, is
counted foreign, in the decision and for life, and makes no candidate; the answer of a phone starts Channel Sounding; a window that closes is disarmed. The LE answer names the
running decision's nonce and number. -/
def Obligations.RepliesOnAir : Prop :=
  let polled := fun (f : RxFrame) (k : Nat) (s : State) => s.LinkInv ∧ s.power.state = .noon ∧ s.link.e0Restart = false ∧ goodSlot f s = some k
  let calm := fun (s : State) => s.acc.curfew = false ∧ regFld s 0x4006000C 0 8 = 0
  (∀ s f k d r key, polled f k s → s.acc.decision = some d → d.t2Win = some f.rx.val → d.cands = [] → recordFor s .t2 false (BitVec.ofNat 64 (at_ (rxPayload s f) 0 4)) = some r →
    (tokenKey r s).1 = some key → (rxPayload s f).length = 10 → k = t2Slot (BitVec.ofNat 64 (at_ (rxPayload s f) 0 4)).toNat (d.t2Nonce.toNat % 2 ^ 24) →
    (rxPayload s f).drop 6 = t2Mac key s.cfg.vid (d.t2Nonce.toNat % 2 ^ 24) ((rxPayload s f).take 6) → r.expiry = 0 →
    ∃ t e c, exec (.t2Reply f) s = .next t ∧ t.acc.decision = some e ∧ e.cands = [c] ∧ c.record = r.index ∧ c.tokenId = r.tokenId ∧ c.lfv = [byte (byteAt (rxPayload s f) 4)] ∧
      e.foreign = d.foreign ∧ e.anyReply = true ∧ t.acc.foreignAt = s.acc.foreignAt) ∧
  (∀ s f k d, polled f k s → calm s → s.acc.decision = some d → d.t2Win = some f.rx.val → recordFor s .t2 false (BitVec.ofNat 64 (at_ (rxPayload s f) 0 4)) = none →
    ∃ t e, exec (.t2Reply f) s = .next t ∧ t.acc.decision = some e ∧ e.cands = d.cands ∧ e.foreign = d.foreign + 1 ∧ t.acc.curfew = false ∧
      regGet t 0x40060008 = BitVec.ofNat 32 (min ((regGet s 0x40060008).toNat + 1) 0xFFFFFFFF)) ∧
  (∀ s f k d r key, polled f k s → s.acc.decision = some d → f.rx.val ∈ d.t3Wins → d.cands = [] →
    recordFor s .t3 (f.rx.val == 2) (BitVec.ofNat 64 (at_ (rxPayload s f) 0 4)) = some r → (tokenKey r s).1 = some key → (rxPayload s f).length = t3Len (f.rx.val == 2) →
    let place := t3Place (at_ (rxPayload s f) 0 4) d.nonce d.repoll
    k = place.2 → (rxPayload s f).drop ((rxPayload s f).length - 8) = t3Mac key s.cfg.vid d.nonce place.1 ((rxPayload s f).take ((rxPayload s f).length - 8)) → r.expiry = 0 →
    ∃ t e c, exec (.t3Reply f none) s = .next t ∧ t.acc.decision = some e ∧ e.cands = [c] ∧ c.record = r.index ∧ c.tokenId = r.tokenId ∧
      c.lfv = slice (rxPayload s f) 5 (if f.rx.val = 2 then 24 else 8) ∧ e.heard = d.heard ++ [(k, r.tokenId)] ∧ e.foreign = d.foreign) ∧
  (∀ s f fit k d, polled f k s → calm s → s.acc.decision = some d → f.rx.val ∈ d.t3Wins → recordFor s .t3 (f.rx.val == 2) (BitVec.ofNat 64 (at_ (rxPayload s f) 0 4)) = none →
    ∃ t e, exec (.t3Reply f fit) s = .next t ∧ t.acc.decision = some e ∧ e.cands = d.cands ∧ e.foreign = d.foreign + 1 ∧
      regGet t 0x40060008 = BitVec.ofNat 32 (min ((regGet s 0x40060008).toNat + 1) 0xFFFFFFFF)) ∧
  (∀ s (n : Fin 64) answer d k r key, s.LinkInv → s.power.state = .noon → s.link.e0Restart = false → s.acc.enrol = none → s.acc.decision = some d → d.phones = [(n.val, k)] →
    tokOf s n = some r → (tokenKey r s).1 = some key → recordFor s .ph false r.tokenId = some r → answer = phoneMac key s.cfg.vid d.phNonce d.num → r.expiry = 0 →
    ∃ t e, exec (.phoneAnswer n answer) s = .next t ∧ t.acc.decision = some e ∧ e.phones = [] ∧ e.csPend = d.csPend ++ [n.val] ∧ e.cands.length = d.cands.length + 1 ∧
      t.rng.cs = some n.val ∧
      Emission.rngStart 2 (le 4 (regGet s 0x400500C0).toNat ++ le 4 (regGet s 0x400500C4).toNat ++ peekBytes s (b2n (seeksApproach d.trig)) 16 ++ (csSteps s).map byte)
        (((List.range 72).filter (toneMask s true)).map fun k => if k ≤ 20 then 2404000 + 1000 * k else 2407000 + 1000 * k) ∈ t.emit) ∧
  (∀ s (n : Fin 64) answer, s.LinkInv → s.acc.decision = none → s.acc.enrol = none → exec (.phoneAnswer n answer) s = .next (fresh s)) ∧
  (∀ s (rx : Fin 3) energy, Runs s → (rxOf s rx).winOpen = true → s.acc.decision = none → s.acc.release.track = none → s.acc.enrol = none → s.sns.loc = none →
    ∃ t, exec (.winDone rx energy) s = .next t ∧ (rxOf t rx).winOpen = false ∧ regBit t (rxAddr rx 0x10) 0 = false ∧ t.acc = s.acc ∧ t.sns = s.sns ∧
      regGet t (rxAddr rx 0x14) = word (slotWord (rxOf s rx).slots
        ((energy.filter fun p => decide (regFld s (if rx = 2 then 0x40040048 else 0x40030060) 0 8 < p.2.toNat)).map (·.1.val)))) ∧
  (∀ s (rx : Fin 3) energy, Runs s → (rxOf s rx).winOpen = false → exec (.winDone rx energy) s = .next (fresh s))

/-- R24, R63, R79, R80, R81, R82, R83, R84, R92, R539, R543: a release ends at its time, without refresh and on a bad readback or period, which also latches SLO_FAULT; a good readback only
alternates the pins; Curfew ends at its time; the engine ECU's challenge is answered from slot 9 while a release stands. -/
def Obligations.ReleaseEvents : Prop :=
  let ends := fun (i : Instr) (cause : Byte) (s : State) => ∃ t, exec i s = .next t ∧ t.acc.release.active = false ∧ t.acc.release.endCause = cause ∧
    t.acc.release.driven = false ∧ slotOf t 9 = none ∧ t.acc.sloFault = s.acc.sloFault ∧ t.acc.tokens = s.acc.tokens
  let latches := fun (i : Instr) (s : State) => ∃ t, exec i s = .next t ∧ t.acc.release.active = false ∧ t.acc.sloFault = true ∧ t.acc.rbFault = true ∧ t.acc.release.driven = false
  let quiet := fun (s : State) => s.saf.inject = none
  (∀ s, s.LinkInv → s.acc.release.active = true → ends .releaseRefreshTimeout 3 s) ∧
  (∀ s, s.LinkInv → s.acc.release.active = true → ∃ t, exec .releaseRefreshTimeout s = .next t ∧ regBit t 0x4010002C 17 = true) ∧
  (∀ s, s.LinkInv → s.acc.release.active = true → ends .releaseDurationEnd 1 s) ∧
  (∀ s, s.LinkInv → s.acc.release.active = false → exec .releaseRefreshTimeout s = .next (fresh s) ∧ exec .releaseDurationEnd s = .next (fresh s)) ∧
  (∀ s a b, s.LinkInv → quiet s → s.acc.release.active = true → a = s.acc.release.driven → b = !a →
    let r := s.acc.release
    let x : Release := { r with rbA := a, rbB := b, driven := !r.driven, rbHist := ((false, false, false) :: r.rbHist).take 2 }
    exec (.releaseReadback a b) s = .next { fresh s with acc := { s.acc with release := x } }) ∧
  (∀ s a b x y l, s.LinkInv → quiet s → s.acc.release.active = true → a ≠ s.acc.release.driven → s.acc.release.rbHist = (true, x, y) :: l → latches (.releaseReadback a b) s) ∧
  (∀ s a b, s.LinkInv → quiet s → s.acc.release.active = true → a ≠ s.acc.release.driven → b = s.acc.release.driven → s.acc.release.rbHist = [] →
    ∃ t, exec (.releaseReadback a b) s = .next t ∧ t.acc.release.active = true ∧ t.acc.sloFault = s.acc.sloFault ∧
      regFld t 0x4010002C 0 8 = min (regFld s 0x4010002C 0 8 + 1) 255 ∧ regFld t 0x4010002C 8 8 = min (regFld s 0x4010002C 8 8 + 1) 255 ∧ RegsBut [0x4010002C] s t) ∧
  (∀ s a b, s.LinkInv → s.acc.release.active = false → exec (.releaseReadback a b) s = .next (fresh s)) ∧
  (∀ s, Runs s → quiet s → s.acc.release.active = false →
    let x : Release := { s.acc.release with rbA := false, rbB := false, idleBad := 0 }
    exec (.idleReadback false false) s = .next { fresh s with acc := { s.acc with release := x } }) ∧
  (∀ s a b, Runs s → quiet s → s.acc.release.active = false → (a || b) = true → s.acc.release.idleBad = 1 → s.acc.sloFault = false → latches (.idleReadback a b) s) ∧
  (∀ s us, s.LinkInv → s.acc.release.active = true → 490 ≤ us → us ≤ 510 →
    let x : Release := { s.acc.release with periodBad := 0 }
    exec (.periodMonitor us) s = .next { fresh s with acc := { s.acc with release := x } }) ∧
  (∀ s us, s.LinkInv → s.acc.release.active = true → (us < 490 ∨ 510 < us) → s.acc.release.periodBad = 1 → latches (.periodMonitor us) s ∧
    ∃ t, exec (.periodMonitor us) s = .next t ∧ regBit t 0x4010002C 16 = true) ∧
  (∀ s, s.LinkInv → awake s = true → s.acc.curfew = true → ∃ t, exec .curfewEnd s = .next t ∧ t.acc = { s.acc with curfew := false } ∧
    t.jrn = { s.jrn with internal := s.jrn.internal.erase 4 }) ∧
  (∀ s, s.LinkInv → s.acc.curfew = false → exec .curfewEnd s = .next (fresh s)) ∧
  (∀ s k, s.LinkInv → s.power.state = .noon → s.link.e0Restart = false → s.acc.release.active = true → s.acc.release.outcome = .start → s.cfg.role = .tractor →
    s.acc.decision = none → s.acc.release.track = none → tokOf s s.acc.release.record.toNat = some k → k.cls = .ph → k.index = s.acc.release.record.toNat →
    s.acc.release.record ≠ 0xFF → trailerRight s s.acc.release.record.toNat = false →
    let x : Release := { s.acc.release with track := some (Config.freeWord s.drawn, none, false) }
    ∃ t, exec .releaseTrack s = .next t ∧ t.acc = { s.acc with release := x } ∧ t.rng = { s.rng with cs := some k.index } ∧ t.drawn = s.drawn + 5 ∧
      t.emit = [.rngStart 2 (le 4 (regGet s 0x400500C0).toNat ++ le 4 (regGet s 0x400500C4).toNat ++ peekBytes s 1 16 ++ (csSteps s).map byte) ((csChannels s).map (toneFreq s true))] ∧
      t.regs = s.regs) ∧
  (∀ s, s.LinkInv → (s.acc.release.active = false ∨ s.acc.release.outcome ≠ .start) → exec .releaseTrack s = .next (fresh s)) ∧
  (∀ s f x, s.LinkInv → s.power.state = .noon → s.link.e0Restart = false → (canOf s f.bus).state = .active → (canOf s f.bus).integrating = false →
    immoMatch s 0x40060044 f = true → f.data.length = 8 → byteAt f.data 7 = 1 → s.acc.release.active = true → slotOf s 9 = some x →
    ∃ t, exec (.immoChallenge f) s = .next t ∧ CountsOne (0x400C0024 + 0x4000 * f.bus.val) s t ∧ RegsBut [0x400C0024 + 0x4000 * f.bus.val] s t ∧
      t.emit = [.canTx f.bus (regGet s 0x40060048).toNat f.xid
        ([0x5A, byte (byteAt f.data 6)] ++ (cmac x.key (le 4 s.cfg.vid.toNat ++ f.data.take 6 ++ [byte (byteAt f.data 6), 0x5A])).take 6)] ∧ Leaves { s with regs := t.regs } t) ∧
  (∀ s f, s.LinkInv → immoMatch s 0x40060044 f = false → exec (.immoChallenge f) s = .next (fresh s))

/-- R74, R75, R85, R619: an enrolment's attempt waits while a decision has the air; its challenge goes out to a phone with a fresh nonce; after 10 s of silence the key already generated is destroyed
and the work ends with TIMEOUT. -/
def Obligations.EnrolmentEvents : Prop :=
  (∀ s, s.LinkInv → (s.acc.enrol = none ∨ s.acc.decision ≠ none) → exec .enrolAttempt s = .next (fresh s)) ∧
  (∀ s e c, s.LinkInv → s.power.state = .noon → s.link.e0Restart = false → s.acc.decision = none → s.acc.enrol = some e → e.cls = .ph → e.step = 4 → e.confirmed = false → e.rx = none →
    s.bus.conns = [c] → c.record = e.record →
    ∃ t nonce, exec .enrolAttempt s = .next t ∧ t.acc = { s.acc with enrol := some { e with phNonce := nonce } } ∧ t.drawn = s.drawn + 3 ∧
      nonce = BitVec.ofNat 64 (leNat (le 4 (Config.freeWord (s.drawn + 1)).toNat ++ le 4 (Config.freeWord (s.drawn + 2)).toNat)) ∧
      t.emit = [.leSend e.record (le 4 s.cfg.vid.toNat ++ le 8 nonce.toNat ++ le 4 s.acc.decNum.toNat)] ∧ t.regs = s.regs ∧ t.lf = s.lf) ∧
  (∀ s e w, s.LinkInv → s.power.state = .noon → s.link.e0Restart = false → s.acc.enrol = some e → e.confirmed = false → e.rx = none → e.work = some w.seq → s.jrn.works = [w] →
    w.state = .running → ∃ t, exec .enrolTimeout s = .next t ∧ t.acc.enrol = none ∧ handleFree t e.record = true ∧ (∀ n, n ≠ e.record → handleOf t n = handleOf s n) ∧
      t.jrn.works = [{ w with ready := some (stTimeout, refusalBytes 0xFFFF 0) }] ∧ t.acc.tokens = s.acc.tokens) ∧
  (∀ s e, s.LinkInv → s.acc.enrol = some e → e.confirmed = true → exec .enrolTimeout s = .next (fresh s))
/-! ### The LF field system -/

/-- R23, R102, R104, R105, R106, R107, R110, R119, R124: a telegram starts on its trigger with a grant, a FIFO and no block, and otherwise sets NO_START; entries play in order, one symbol part
after another: carrier and silence take their time, Manchester and gap-coded bits their half-bits and parts, a wake burst its slices and then the sync byte 0x96; a DRIVE selects lanes within R97, a MARK is latched; END, a reserved entry, an empty FIFO and an early end at a part's boundary end it. The marks of the model: carrier without a measurement changes no
measurement register. -/
def Obligations.LfTelegrams : Prop :=
  let ev := 0x4002082C
  let alone := fun (s : State) => s.lf.tests = [] ∧ s.lf.isofsDue = false ∧ s.lf.waiting = [] ∧ s.lf.grant = none
  let ends := fun (i : Instr) (rest : List Word) (bits regs : List Nat) (s : State) => ∃ t x, s.lf.telegram = some x ∧ exec i s = .next t ∧
    t.lf = { s.lf with telegram := none, fifo := rest, reserved := s.lf.reserved - x.estimate * 1000000, live := s.lf.staged.getD s.lf.live, staged := none } ∧
    (∀ b ∈ bits, regBit t ev b = true) ∧ RegsBut (ev :: regs) s t ∧ Leaves { s with regs := t.regs, eng := t.eng, lf := t.lf } t
  let plays := fun (i : Instr) (rest : List Word) (on : Bool) (d : Nat) (ys : List LfSym) (s : State) => ∀ x, s.lf.telegram = some x → x.driven = true → overEnergy s x = false → ∃ t,
    exec i s = .next t ∧ t.lf = { s.lf with fifo := rest, telegram := some { x with ticks := x.ticks + d, checked := x.checked || on, rest := ys } } ∧
    t.emit = [.lfDrive (if on then x.lanes else []) d] ∧ t.regs = s.regs ∧ Leaves { s with lf := t.lf } t
  let at' := fun (e : Word) (rest : List Word) (s : State) => Runs s ∧ s.lf.fifo = e :: rest ∧ s.lf.telegram.any (fun x => !x.endDue && x.rest.isEmpty) = true
  let man := fun (b i : Nat) => if bit b (15 - i) then [LfSym.part true 6144, .part false 6144] else [.part false 6144, .part true 6144]
  let gap := fun (b i : Nat) => if bit b (15 - i) then [LfSym.part true 15360, .part false 9216] else [.part true 21504, .part false 3072]
  let silent : LfMeas := { lanes := [], tj := 25 }
  (∀ s g (src : Nat), Runs s → regFld s 0x40020800 8 6 = src → s.lf.grant = some g → s.lf.telegram = none → s.lf.fifo ≠ [] → lfBlocked s = false → g.cls ≠ 3 → g.plan = none → s.lf.tests = [] →
    let f := word (regFld s 0x40020814 0 18)
    let x : Telegram := { nco := f, estimate := g.estimate, charged := 0, ceiling := winLimit g.limit + 95000000000, lanes := [], wake := [], driven := false, rest := [], checked := false, ticks := 0,
                          events := 0, excluded := s.lf.excluded, endDue := false }
    ∃ t, exec (.lfGo src) s = .next t ∧ t = { fresh s with regs := t.regs, lf := { s.lf with telegram := some x, grant := none } } ∧ regGet t 0x40020818 = f ∧
      RegsBut [0x40020818] s t) ∧
  (∀ s (src : Nat), Runs s → regFld s 0x40020800 8 6 = src → (s.lf.grant = none ∨ s.lf.telegram.isSome = true ∨ s.lf.fifo = [] ∨ lfBlocked s = true) →
    ∃ t, exec (.lfGo src) s = .next t ∧ regBit t ev 7 = true ∧ RegsBut [ev] s t ∧ t.lf.grant = s.lf.grant ∧ t.lf.fifo = s.lf.fifo ∧
      t.lf.telegram = s.lf.telegram.map (fun x => { x with events := x.events ||| 0x80 })) ∧
  (∀ s (src : Nat), Runs s → regFld s 0x40020800 8 6 ≠ src → exec (.lfGo src) s = .next (fresh s)) ∧
  (∀ s, Runs s → exec .lfAbort s = .next { fresh s with lf := { s.lf with telegram := s.lf.telegram.map fun x => { x with endDue := true } } }) ∧
  (∀ s, Runs s → s.lf.telegram = none → exec .lfFlush s = .next { fresh s with lf := { s.lf with fifo := [] } }) ∧
  (∀ s, Runs s → s.lf.telegram.isSome = true → exec .lfFlush s = .next (fresh s)) ∧
  (∀ s w, Runs s → s.lf.fifo.length < 64 → exec (.lfxFifoData w) s = .next { fresh s with lf := { s.lf with fifo := s.lf.fifo ++ [w] } }) ∧
  (∀ s m, Runs s → s.lf.telegram = none → exec (.lfFifoEntry m) s = .next (fresh s)) ∧
  (∀ s m x, Runs s → alone s → s.lf.telegram = some x → x.endDue = true → ends (.lfFifoEntry m) s.lf.fifo [1] [] s) ∧
  (∀ s m x, Runs s → alone s → s.lf.telegram = some x → x.endDue = false → x.rest = [] → s.lf.fifo = [] → ends (.lfFifoEntry m) [] [1, 2] [0x40020830] s ∧
    ∃ t, exec (.lfFifoEntry m) s = .next t ∧ CountsOne 0x40020830 s t) ∧
  (∀ s m rest, at' 0 rest s → alone s → ends (.lfFifoEntry m) rest [0] [] s) ∧
  (∀ s m e rest, at' e rest s → alone s → 0x80000000 ≤ e.toNat → ends (.lfFifoEntry m) rest [1, 4] [] s) ∧
  (∀ s m d rest, 96000 < d → d < 0x10000000 → at' (word (0x10000000 + d)) rest s → alone s → ends (.lfFifoEntry m) rest [1, 4] [] s) ∧
  (∀ s d rest, 0 < d → d ≤ 96000 → at' (word (0x10000000 + d)) rest s → plays (.lfFifoEntry silent) rest true d [] s) ∧
  (∀ s n b rest, n < 16 → b < 65536 → at' (word (0x30000000 + (n + 1) * 65536 + b)) rest s → bit b 15 = true →
    plays (.lfFifoEntry silent) rest true 6144 (.part false 6144 :: (List.range n).flatMap fun i => man b (i + 1)) s) ∧
  (∀ s n b rest, n < 16 → b < 65536 → at' (word (0x30000000 + (n + 1) * 65536 + b)) rest s → bit b 15 = false →
    plays (.lfFifoEntry silent) rest false 6144 (.part true 6144 :: (List.range n).flatMap fun i => man b (i + 1)) s) ∧
  (∀ s n b rest, n < 16 → b < 65536 → at' (word (0x40000000 + (n + 1) * 65536 + b)) rest s → bit b 15 = true →
    plays (.lfFifoEntry silent) rest true 15360 (.part false 9216 :: (List.range n).flatMap fun i => gap b (i + 1)) s) ∧
  (∀ s n b rest, n < 16 → b < 65536 → at' (word (0x40000000 + (n + 1) * 65536 + b)) rest s → bit b 15 = false →
    plays (.lfFifoEntry silent) rest true 21504 (.part false 3072 :: (List.range n).flatMap fun i => gap b (i + 1)) s) ∧
  (∀ s x on d ys, Runs s → s.lf.telegram = some x → x.endDue = false → x.rest = .part on d :: ys → plays (.lfFifoEntry silent) s.lf.fifo on d ys s) ∧
  (∀ s d rest, 0 < d → d ≤ 96000 → at' (word (0x20000000 + d)) rest s → plays (.lfFifoEntry silent) rest false d [] s) ∧
  (∀ s m d rest x, 0 < d → d ≤ 96000 → at' (word (0x10000000 + d)) rest s → s.lf.telegram = some x → x.driven = false → overEnergy s x = false →
    ∃ t, exec (.lfFifoEntry m) s = .next t ∧ t.emit = [.lfDrive [] d] ∧ regBit t ev 5 = true ∧ RegsBut [ev] s t ∧
      t.lf = { s.lf with fifo := rest, telegram := some { x with ticks := x.ticks + d, checked := true, events := x.events ||| 0x20 } }) ∧
  (∀ s m v d rest x l, 0 < d → d ≤ 96000 → at' (word (0x10000000 + d)) rest s → s.lf.telegram = some x → x.driven = true → x.checked = true → x.lanes = [l] → measOf m l.ch = some v →
    let e := laneEnergy s x.nco.toNat m.tj v.peak.toNat d
    ∃ t y, exec (.lfFifoEntry m) s = .next t ∧ t.emit = [.lfDrive [l] d] ∧ t.lf.telegram = some y ∧ y.ticks = x.ticks + d ∧ y.charged = x.charged + e ∧
      y.endDue = (decide (x.charged + e > x.estimate * 1250000) || decide (s.lf.bin + e + s.lf.bins.sum ≥ x.ceiling)) ∧ (y.endDue = true → regBit t ev 8 = true) ∧
      t.lf.bin = s.lf.bin + e ∧ regGet t (lfCh l.ch 0x10) = word (v.peak.toNat + 256 * v.cond.toNat) ∧ regGet t (lfCh l.ch 0x14) = word v.phase.toNat ∧
      (regGet t (lfCh l.ch 0x1C)).toNat = min ((regGet s (lfCh l.ch 0x1C)).toNat + (s.lf.frac.getD l.ch 0 + e) / 1000000) 0xFFFFFFFF ∧
      (l.ch < 8 → RegsBut [lfCh l.ch 0x10, lfCh l.ch 0x14, lfCh l.ch 0x1C, ev] s t)) ∧
  (∀ s m (n : Fin 8) rest x, at' (word (0x50000000 + n.val)) rest s → s.lf.telegram = some x → chanUsable s x n = true → 0 < curOf s n → curOf s n ≤ 200 → overEnergy s x = false →
    let y : Telegram := { x with lanes := [{ ch := n.val, phase := 0, amp := 32 }], driven := true, checked := false }
    exec (.lfFifoEntry m) s = .next { fresh s with lf := { s.lf with fifo := rest, telegram := some y } }) ∧
  (∀ s m (k : Fin 8) rest x, at' (word (0x50000008 + k.val)) rest s → alone s → s.lf.telegram = some x → driveOk s (carrying s x (comboLanes s k)) = false →
    ends (.lfFifoEntry m) rest [1, 3] [] s) ∧
  (∀ s m (k : Fin 8) rest x, at' (word (0x50000008 + k.val)) rest s → s.lf.telegram = some x → driveOk s (carrying s x (comboLanes s k)) = true → overEnergy s x = false →
    ∃ t y, exec (.lfFifoEntry m) s = .next t ∧ t.lf.telegram = some y ∧ y.lanes = carrying s x (comboLanes s k) ∧ y.driven = true ∧ y.ticks = x.ticks ∧ t.emit = [] ∧ RegsBut [ev] s t ∧
      regBit t ev 6 = (regBit s ev 6 || (comboLanes s k).any (fun l => !chanUsable s x l.ch))) ∧
  (∀ s m tag rest x, tag < 256 → at' (word (0x60000000 + tag)) rest s → s.lf.telegram = some x → overEnergy s x = false →
    ∃ t, exec (.lfFifoEntry m) s = .next t ∧ regGet t 0x40020824 = word tag ∧ regGet t 0x40020828 = s.power.clkTs ∧ regBit t ev 10 = true ∧
      RegsBut [0x40020824, 0x40020828, ev] s t ∧ t.lf.fifo = rest ∧ t.emit = []) ∧
  (∀ s m rest x, at' 0x70000000 rest s → s.lf.telegram = some x → overEnergy s x = false →
    exec (.lfFifoEntry m) s = .next { fresh s with
      emit := [.lfDrive [] 95232]
      lf := { s.lf with fifo := rest, telegram := some { x with ticks := x.ticks + 95232, rest := [.part false 95232, .part false 95232] } } }) ∧
  (∀ s (n k : Fin 8) rest x, at' (word (0x70000800 + 256 * k.val + 2 ^ n.val)) rest s → s.lf.telegram = some x → chanUsable s x n = true → 0 < curOf s n →
    overEnergy s x = false →
    let l : Lane := { ch := n.val, phase := 0, amp := 32 }
    let sync := [true, false, false, true, false, true, true, false].zipIdx.flatMap fun b => [LfSym.sync k.val (b.2 == 0) b.1 6144, .sync k.val false (!b.1) 6144]
    ∃ t, exec (.lfFifoEntry silent) s = .next t ∧ t.emit = [.lfDrive [l] 95232] ∧ t.regs = s.regs ∧
      t.lf = { s.lf with fifo := rest, telegram := some { x with
        ticks := x.ticks + 95232, wake := [l], rest := .slice [n.val] false 95232 :: .slice [n.val] false 95232 :: sync } }) ∧
  (∀ s x g d ys, Runs s → s.lf.telegram = some x → x.endDue = false → x.rest = .slice g false d :: ys → overEnergy s x = false →
    ∃ t, exec (.lfFifoEntry silent) s = .next t ∧ t.emit = [.lfDrive x.wake d] ∧ t.regs = s.regs ∧
      t.lf = { s.lf with telegram := some { x with ticks := x.ticks + d, rest := ys } }) ∧
  (∀ s x k on d ys, Runs s → s.lf.telegram = some x → x.endDue = false → x.rest = .sync k true on d :: ys → overEnergy s x = false →
    driveOk s (carrying s x (comboLanes s k)) = true → (∀ l ∈ comboLanes s k, chanUsable s x l.ch = true) →
    ∃ t, exec (.lfFifoEntry silent) s = .next t ∧ t.emit = [.lfDrive (if on then carrying s x (comboLanes s k) else []) d] ∧ t.regs = s.regs ∧
      t.lf = { s.lf with telegram := some { x with ticks := x.ticks + d, wake := carrying s x (comboLanes s k), rest := ys } }) ∧
  (∀ s x k on d ys, Runs s → s.lf.telegram = some x → x.endDue = false → x.rest = .sync k false on d :: ys → overEnergy s x = false →
    ∃ t, exec (.lfFifoEntry silent) s = .next t ∧ t.emit = [.lfDrive (if on then x.wake else []) d] ∧ t.regs = s.regs ∧
      t.lf = { s.lf with telegram := some { x with ticks := x.ticks + d, rest := ys } })

/-- R98, R111, R112, R113, R115, R116, R118, R119: a commit stages the pair, live at once without a telegram; an energy request is granted when it fits and deferred when not; a bin boundary
moves the bins, renews the limit and grants what now fits; a grant lapses; VLF sets and clears its flags and a running telegram then ends; a short switches its channel off and is recorded; a retest that
passes clears. -/
def Obligations.LfMaintenance : Prop :=
  let diag := fun (n : Nat) => lfCh n 0xC
  let noted := fun (n kind : Nat) (s t : State) => ∃ r, regBit t (diag n) kind = true ∧
    t.lf.excluded = s.lf.excluded ||| byte (2 ^ n) ∧ t.lf.telegram = s.lf.telegram.map (fun x => { x with lanes := x.lanes.filter (·.ch != n), wake := x.wake.filter (·.ch != n) }) ∧
    t.saf.faults = (r :: s.saf.faults).take 64 ∧ r.detector = 0x000B ∧ r.unit = n ∧ r.action = 7 ∧ r.info = word (n + 16 * kind) ∧ r.time = s.power.clkUs ∧
    (∀ m < 8, m ≠ n → regGet t (diag m) = regGet s (diag m)) ∧ t.acc = s.acc ∧ t.rad = s.rad
  (∀ s w, Runs s → wbit w 0 = true → s.lf.telegram = none → exec (.lfxCommit w) s = .next { fresh s with lf := { s.lf with live := shadowPair s, staged := none } }) ∧
  (∀ s w, Runs s → wbit w 0 = true → s.lf.telegram.isSome = true → exec (.lfxCommit w) s = .next { fresh s with lf := { s.lf with staged := some (shadowPair s) } }) ∧
  (∀ s w, Runs s → wbit w 0 = false → exec (.lfxCommit w) s = .next (fresh s)) ∧
  (∀ s w, Runs s → s.lf.grant = none → energyFits s (wfld w 0 24) = true →
    let g : EnergyReq := { cls := wfld w 24 3, estimate := wfld w 0 24, due := s.power.clkUs, limit := lfLimit s, words := [], plan := none, retest := none }
    exec (.lfxEaccReq w) s = .next { fresh s with lf := { s.lf with grant := some g, defer := false, reserved := s.lf.reserved + wfld w 0 24 * 1000000 } }) ∧
  (∀ s w, Runs s → energyFits s (wfld w 0 24) = false →
    let g : EnergyReq := { cls := wfld w 24 3, estimate := wfld w 0 24, due := s.power.clkUs, limit := 0, words := [], plan := none, retest := none }
    ∃ t, exec (.lfxEaccReq w) s = .next t ∧ CountsOne 0x40020850 s t ∧ RegsBut [0x40020850] s t ∧
    t = { fresh s with regs := t.regs, lf := { s.lf with deferred := s.lf.deferred ++ [g], defer := true } }) ∧
  (∀ s tj pcore, Runs s → s.acc.decision = none → s.lf.deferred = [] → s.lf.waiting = [] → ∃ t, exec (.eaccBin tj pcore) s = .next t ∧ regBit t 0x4002082C 11 = true ∧ RegsBut [0x4002082C] s t ∧
    t.lf.bins = (s.lf.bin :: s.lf.bins).take 99 ∧ t.lf.bin = 0 ∧ t.lf.pcore = pcore ∧ t.lf.tamb = min 255 ((ambientMilli t tj + 40000) / 1000).toNat ∧
    t.lf.reduced = (if ambientMilli t tj > 95000 then true else if ambientMilli t tj < 92000 then false else s.lf.reduced) ∧
    t.lf = { s.lf with bins := t.lf.bins, bin := 0, pcore := pcore, tamb := t.lf.tamb, reduced := t.lf.reduced, telegram := t.lf.telegram } ∧
    t.lf.telegram = s.lf.telegram.map (fun x => { x with events := x.events ||| 0x800 }) ∧ Leaves { s with regs := t.regs, eng := t.eng, lf := t.lf } t) ∧
  (∀ s tj pcore r, Runs s → s.acc.decision = none → s.lf.deferred = [r] → r.cls < 6 → s.lf.waiting = [] → s.lf.grant = none → ∃ t, exec (.eaccBin tj pcore) s = .next t ∧
    let fits := r.estimate = 0 ∨ ((s.lf.bin :: s.lf.bins).take 99).sum + s.lf.reserved + r.estimate * 1000000 ≤ winLimit (lfLimit t)
    (fits → t.lf.grant = some { r with limit := lfLimit t } ∧ t.lf.deferred = [] ∧ t.lf.defer = false ∧ t.lf.reserved = s.lf.reserved + r.estimate * 1000000) ∧
    (¬ fits → t.lf.grant = none ∧ t.lf.deferred = [r] ∧ t.lf.reserved = s.lf.reserved)) ∧
  (∀ s g, Runs s → s.lf.grant = some g → g.words = [] → s.lf.waiting = [] →
    exec .grantLapse s = .next { fresh s with lf := { s.lf with grant := none, reserved := s.lf.reserved - g.estimate * 1000000 } }) ∧
  (∀ s g, Runs s → s.lf.grant = some g → g.words ≠ [] → s.lf.waiting = [] → ∃ t, exec .grantLapse s = .next t ∧ t.lf.grant = none ∧
    t.lf.deferred = s.lf.deferred ++ [g] ∧ t.lf.reserved = s.lf.reserved - g.estimate * 1000000 ∧ (s.lf.fifo = g.words → t.lf.fifo = []) ∧ Leaves { s with lf := t.lf } t) ∧
  (∀ s, Runs s → s.lf.grant = none → exec .grantLapse s = .next (fresh s)) ∧
  (∀ s mv, s.LinkInv →
    let low := if mv < 5700 then true else if mv > 6000 then false else s.lf.vlfLow
    let high := if mv > 19000 then true else if mv < 18500 then false else s.lf.vlfHigh
    let l : LfField := { s.lf with vlfLow := low, vlfHigh := high, telegram := s.lf.telegram.map fun x => { x with endDue := x.endDue || low || high } }
    exec (.vlfWindowChange mv) s = .next { fresh s with power := { s.power with vlfMv := mv }, lf := l }) ∧
  (∀ s (n : Fin 8) (v : Bool), Runs s → faultRecent 0x000B n s = false → ∃ t, exec (.lfShort n v) s = .next t ∧ noted n (if v then 2 else 1) s t) ∧
  (∀ s (n : Fin 8) (v : Bool), Runs s → ∃ t, exec (.lfShort n v) s = .next t ∧ regBit t (diag n) (if v then 2 else 1) = true ∧ bit t.lf.excluded.toNat n = true) ∧
  (∀ s (n : Fin 8) peak tj, Runs s → (regBit s (diag n) 0 = true ∨ bit s.lf.retest.toNat n = true) → s.lf.telegram = none → lfBlocked s = false → 120 ≤ 16 * peak.toNat →
    s.lf.grant = none → s.lf.deferred.any (·.retest == some n.val) = false → s.lf.waiting = [] → energyFits s (retestReq n s).estimate = true →
    ∃ t, exec (.lfOpenRetest n peak tj) s = .next t ∧ regBit t (diag n) 0 = false ∧ bit t.lf.excluded.toNat n = (regBit s (diag n) 1 || regBit s (diag n) 2 || bit s.lf.shortRetest.toNat n) ∧
      bit t.lf.retest.toNat n = false ∧ t.lf.openRun = s.lf.openRun.set n 0 ∧ RegsBut [diag n, lfCh n 0x1C] s t ∧
      (∀ m, m ≠ n.val → bit t.lf.excluded.toNat m = bit s.lf.excluded.toNat m) ∧
      t.lf.bin = s.lf.bin + laneEnergy s (regFld s 0x40020814 0 18) tj peak.toNat 19200) ∧
  (∀ s (n : Fin 8) peak tj, Runs s → regBit s (diag n) 0 = true → 16 * peak.toNat < 120 → ∃ t, exec (.lfOpenRetest n peak tj) s = .next t ∧ regBit t (diag n) 0 = true ∧
    t.lf.excluded = s.lf.excluded ∧ RegsBut [lfCh n 0x1C, 0x40020850] s t) ∧
  (∀ s (n : Fin 8) peak tj, Runs s → (regBit s (diag n) 0 = true ∨ bit s.lf.retest.toNat n = true) → s.lf.telegram = none → lfBlocked s = false → s.lf.grant = none →
    s.lf.deferred.any (·.retest == some n.val) = false → energyFits s (retestReq n s).estimate = false →
    ∃ t, exec (.lfOpenRetest n peak tj) s = .next t ∧ t = { fresh s with regs := t.regs, lf := { s.lf with deferred := s.lf.deferred ++ [retestReq n s], defer := true } } ∧
      (retestReq n s).cls = 5 ∧ CountsOne 0x40020850 s t ∧ RegsBut [0x40020850] s t) ∧
  (∀ s (n : Fin 8) peak tj, Runs s → regBit s (diag n) 0 = false → bit s.lf.retest.toNat n = false → exec (.lfOpenRetest n peak tj) s = .next (fresh s)) ∧
  (∀ s (n : Fin 8) (fl : Fin 4), Runs s → (bit s.lf.shortRetest.toNat n = true ∨ wfld (regGet s (diag n)) 1 2 &&& fl.val ≠ 0) →
    ∃ t, exec (.lfShortClear n fl none) s = .next t ∧ regGet t (diag n) = regGet s (diag n) &&& ~~~ word (2 * fl.val) ∧ RegsBut [diag n] s t ∧
      bit t.lf.excluded.toNat n = (regBit t (diag n) 0 || regBit t (diag n) 1 || regBit t (diag n) 2 || bit s.lf.retest.toNat n) ∧ bit t.lf.shortRetest.toNat n = false ∧
      t.lf.retest = s.lf.retest) ∧
  (∀ s (n : Fin 8) (fl : Fin 4) (v : Bool), Runs s → (bit s.lf.shortRetest.toNat n = true ∨ wfld (regGet s (diag n)) 1 2 &&& fl.val ≠ 0) →
    ∃ t, exec (.lfShortClear n fl (some v)) s = .next t ∧ regBit t (diag n) (if v then 2 else 1) = true ∧ bit t.lf.excluded.toNat n = true ∧ bit t.lf.shortRetest.toNat n = false) ∧
  (∀ s (n : Fin 8) (fl : Fin 4) found, Runs s → bit s.lf.shortRetest.toNat n = false → wfld (regGet s (diag n)) 1 2 &&& fl.val = 0 →
    exec (.lfShortClear n fl found) s = .next (fresh s))

/-! ### The radio chains -/

/-- R130, R146, R148, R149, R150, R151, R153, R154, R155, R168: a descriptor is queued by VALID and stays until it ends; only the head of the order starts, at its instant, complete and in time; one
that may not be sent ends LATE or EMPTY or is held; a frame that was sent ends its descriptor; the return loss of three poor frames running sets MISMATCH. A commit makes the shadow pair live at
once, or stages it while a frame is in progress on its receiver or its chain is in use. -/
def Obligations.RadioTransmits : Prop :=
  let ev := fun (h : Bool) => bandBase h + 4
  let noJob := fun (h : Bool) (d : Nat) (s : State) => s.rad.jobs.all (fun j => !(j.bandH == h && j.desc == d)) = true
  let noGap := fun (s : State) => s.rad.calDue = [] ∧ s.rad.rxA.recalPend = false ∧ s.rad.rxB.recalPend = false ∧ s.rad.rxH.recalPend = false
  let instant := fun (h : Bool) (d : Nat) (s : State) => Runs s ∧ (bandOf s h).order.head? = some d ∧ (bandOf s h).sending = none ∧
    (txdMode s h d = 1 → reached s.power.clkTs (regGet s (txdAddr h d 8)) = true) ∧ (txdMode s h d = 2 → (bandOf s h).turn = true)
  let due := fun (h : Bool) (d : Nat) (s : State) => instant h d s ∧ noJob h d s
  let good := fun (h : Bool) (d : Nat) (s : State) => regFld s (txdAddr h d 4) 16 10 ≠ 0 ∧ regBit s (txdAddr h d 0) 5 = true ∧ deadlinePast s h d = false
  let after := fun (h : Bool) (d : Nat) (s : State) => { bandOf s h with order := (bandOf s h).order.erase d, turn := (bandOf s h).turn && txdMode s h d != 2 }
  let unsent := fun (i : Instr) (h : Bool) (d st b : Nat) (s : State) => ∃ t, exec i s = .next t ∧ regFld t (txstatAddr h) (4 * d) 4 = st ∧ regBit t (txdAddr h d 0) 0 = false ∧
    regBit t (ev h) b = true ∧ bandOf t h = after h d s ∧ bandOf t (!h) = bandOf s (!h) ∧ t.emit = [] ∧ RegsBut [txdAddr h d 0, txstatAddr h, ev h] s t
  let held := fun (i : Instr) (h : Bool) (d : Nat) (s : State) => ∃ t, exec i s = .next t ∧ t = { fresh s with regs := t.regs } ∧ regFld t (txstatAddr h) (4 * d) 4 = 2 ∧
    RegsBut [txstatAddr h] s t
  let synth := fun (h : Bool) (j : Fin 2) => (if h then 2 else 0) + j.val
  let sends := fun (l : List Emission) => l.any fun x => match x with
    | .radioTx _ _ _ => true
    | _ => false
  (∀ s h (d : Fin 4) ctl, Runs s → valueGood s (txdAddr h d 0) ctl = true → wbit ctl 0 = true → (bandOf s h).order.contains d.val = false → (bandOf s h).sending ≠ some d.val →
    ∃ t, exec (.txDescriptorQueue h d ctl) s = .next t ∧ t = { fresh s with regs := t.regs, rad := t.rad } ∧ regGet t (txdAddr h d 0) = ctl ∧
      regFld t (txstatAddr h) (4 * d.val) 4 = (if wfld ctl 1 2 = 2 then 8 else 1) ∧ bandOf t h = { bandOf s h with order := (bandOf s h).order ++ [d.val] } ∧
      bandOf t (!h) = bandOf s (!h) ∧ RegsBut [txdAddr h d 0, txstatAddr h] s t) ∧
  (∀ s h (d : Fin 4) ctl, Runs s → valueGood s (txdAddr h d 0) ctl = true → wbit ctl 0 = false → (bandOf s h).order.contains d.val = false → (bandOf s h).sending ≠ some d.val →
    ∃ t, exec (.txDescriptorQueue h d ctl) s = .next t ∧ t = { fresh s with regs := t.regs } ∧ regGet t (txdAddr h d 0) = ctl ∧ RegsBut [txdAddr h d 0] s t) ∧
  (∀ s h (d : Fin 4) ctl, Runs s → valueGood s (txdAddr h d 0) ctl = true → ((bandOf s h).order.contains d.val = true ∨ (bandOf s h).sending = some d.val) →
    ∃ t, exec (.txDescriptorQueue h d ctl) s = .next t ∧ t = { fresh s with regs := t.regs } ∧ regGet t (txdAddr h d 0) = ctl ||| 1 ∧ RegsBut [txdAddr h d 0] s t) ∧
  (∀ s h (d : Fin 4) ctl, Runs s → valueGood s (txdAddr h d 0) ctl = false →
    ∃ t, exec (.txDescriptorQueue h d ctl) s = .next t ∧ RegsBut [ev h] s t ∧ regBit t (ev h) 16 = true ∧ t.rad = s.rad) ∧
  (∀ s h (d : Fin 4) a b, Runs s → ((bandOf s h).order.head? ≠ some d.val ∨ (bandOf s h).sending.isSome = true) → exec (.txDescriptorStart h d a b) s = .next (fresh s)) ∧
  (∀ s h (d : Fin 4) a b, Runs s → txdMode s h d = 1 → reached s.power.clkTs (regGet s (txdAddr h d 8)) = false → exec (.txDescriptorStart h d a b) s = .next (fresh s)) ∧
  (∀ s h (d : Fin 4) a b, Runs s → txdMode s h d = 2 → (bandOf s h).turn = false → deadlinePast s h d = false → exec (.txDescriptorStart h d a b) s = .next (fresh s)) ∧
  (∀ s h (d : Fin 4) a b, due h d s → regFld s (txdAddr h d 4) 16 10 = 0 → unsent (.txDescriptorStart h d a b) h d 7 6 s) ∧
  (∀ s h (d : Fin 4) a b, due h d s → regFld s (txdAddr h d 4) 16 10 ≠ 0 → (regBit s (txdAddr h d 0) 5 = false ∨ deadlinePast s h d = true) →
    unsent (.txDescriptorStart h d a b) h d 5 7 s) ∧
  (∀ s h (d : Fin 4) a b, instant h d s → (regFld s (txdAddr h d 4) 16 10 = 0 ∨ regBit s (txdAddr h d 0) 5 = false) → ∃ t, exec (.txDescriptorStart h d a b) s = .next t ∧
      regFld t (txstatAddr h) (4 * d.val) 4 = (if regFld s (txdAddr h d 4) 16 10 = 0 then 7 else 5) ∧ sends t.emit = false ∧
      ∀ i < 4, ((synOf s i).staged = none → synOf t i = synOf s i) ∧ chainOf t i = chainOf s i) ∧
  (∀ s h (d : Fin 4) a b, due h d s → good h d s → txdMode s h d = 2 → ((a && b) = false ∨ txBusy s h = true ∨ (rxOf s (txRx s h)).frame = true) →
    unsent (.txDescriptorStart h d a b) h d 5 7 s) ∧
  (∀ s h (d : Fin 4) a b, instant h d s → good h d s → txdMode s h d ≠ 2 →
    ((a && b) = false ∨ txBusy s h = true ∨ ((rxOf s (txRx s h)).frame = true ∧ regBit s (txdAddr h d 0) 4 = false)) → held (.txDescriptorStart h d a b) h d s) ∧
  (∀ s h (d : Fin 4), instant h d s → good h d s → txBusy s h = false → (rxOf s (txRx s h)).frame = false →
    ∃ t, exec (.txDescriptorStart h d true true) s = .next t ∧ t.emit = [.radioTx h (airTx s h d) (airFrame s h d)] ∧ regFld t (txstatAddr h) (4 * d.val) 4 = 3 ∧
      bandOf t h = { bandOf s h with order := (bandOf s h).order.erase d.val, sending := some d.val, turn := false } ∧ chainOf t (txSyn s h) = .tx ∧
      regBit t (ev h) 14 = (regBit s (ev h) 14 || (powerIndex s h d).2) ∧ (h = true → chainOf t 3 ≠ .rx) ∧
      (h = false → regFld t 0x40030074 8 4 = regFld s 0x40030070 (4 * subBand (synOf s (txSyn s false)).freq.toNat) 4) ∧
      RegsBut ([txstatAddr h, ev h] ++ if h then [] else [0x40030074]) s t) ∧
  (∀ s h (d : Fin 4), instant h d s → good h d s → txdMode s h d ≠ 2 → txBusy s h = false → (rxOf s (txRx s h)).frame = true → regBit s (txdAddr h d 0) 4 = true →
    ∃ t a, exec (.txDescriptorStart h d true true) s = .next t ∧ t.emit = [.radioTx h a (airFrame s h d)] ∧ regFld t (txstatAddr h) (4 * d.val) 4 = 3 ∧
      (bandOf t h).sending = some d.val ∧ chainOf t (txSyn s h) = .tx ∧ (rxOf t (txRx s h)).frame = false ∧ (h = false → regBit t (ev h) 17 = true)) ∧
  (∀ s h rl (d : Fin 4), Runs s → noGap s → noJob h d s → (bandOf s h).sending = some d.val → ∃ t, exec (.txFrameEnd h rl) s = .next t ∧ regFld t (txstatAddr h) (4 * d.val) 4 = 4 ∧
    regBit t (txdAddr h d 0) 0 = false ∧ regBit t (ev h) 6 = true ∧ bandOf t h = { after h d s with sending := none } ∧
    (synOf t (txSyn s h)).staged = none ∧ t.emit = [] ∧ RegsBut ([txdAddr h d 0, txstatAddr h, ev h] ++ if h then [] else [0x40030074]) s t) ∧
  (∀ s rl (d : Fin 4), Runs s → noGap s → noJob false d s → s.rad.bandL.sending = some d.val →
    let rate := presetRate (regFld s (txdAddr false d 0) 6 4)
    rate ≠ 0 → rate ≤ 8 * regFld s (txdAddr false d 4) 16 10 * 10000 → 20 ≤ (powerIndex s false d).1 →
    ∃ t, exec (.txFrameEnd false rl) s = .next t ∧ regFld t 0x40030074 0 8 = rl.toNat ∧
      t.rad.mismatchRun = (if rl.toNat < regFld s 0x40030070 18 6 then s.rad.mismatchRun + 1 else 0) ∧
      (rl.toNat < regFld s 0x40030070 18 6 → 2 ≤ s.rad.mismatchRun → regBit t 0x40030004 11 = true ∧
        (regBit s 0x40030070 16 = true → t.rad.sweepDue = some (subBand (synOf s (txSyn s false)).freq.toNat)))) ∧
  (∀ s h rl, Runs s → (bandOf s h).sending = none → exec (.txFrameEnd h rl) s = .next (fresh s)) ∧
  (∀ s h (j : Fin 2), Runs s → synWaits s (synth h j) = false → ∃ t, exec (.rflCommit h (j == 0) (j == 1)) s = .next t ∧ t = { fresh s with rad := t.rad } ∧
    synOf t (synth h j) = { (synOf s (synth h j)) with freq := (shadowSyn s (synth h j)).1, ifSel := (shadowSyn s (synth h j)).2, staged := none } ∧
    ∀ i < 4, i ≠ synth h j → synOf t i = synOf s i) ∧
  (∀ s h (j : Fin 2), Runs s → (chainOf s (synth h j) = .tx ∨ chainOf s (synth h j) = .cal ∨ chainOf s (synth h j) = .duplex ∨
      (chainOf s (synth h j) = .rx ∧ ∃ r < 3, rxSyn s r = synth h j ∧ (rxOf s r).frame = true)) →
    ∃ t, exec (.rflCommit h (j == 0) (j == 1)) s = .next t ∧ t = { fresh s with rad := t.rad } ∧
      synOf t (synth h j) = { (synOf s (synth h j)) with staged := some (shadowSyn s (synth h j)) } ∧ ∀ i < 4, i ≠ synth h j → synOf t i = synOf s i) ∧
  (∀ s h, Runs s → exec (.rflCommit h false false) s = .next (fresh s))

/-- R129, R132, R135, R138, R140, R141, R142, R143, R155, R156, R157, R158, R159, R160: a sync word begins a frame and
its end reports it by its check and marks its slot; a window that is armed opens, or is held by a calibration; a
calibration takes the chains in a gap or waits, and leaves its results at its end; a drift asks for a recalibration;
a lost lock ends what ran on it and, when the synthesiser does not lock again, marks it failed until a retry locks;
a sweep keeps the best state; a sniff holds what it heard and wakes E2. That a calibration of Band H waits for both
bands and takes all four chains (log 169), how long a calibration lasts (log 149) and that frames come decoded (log
145) are the model's choices. -/
def Obligations.RadioReceives : Prop :=
  let ev := fun (h : Bool) => bandBase h + 4
  let noRecal := fun (s : State) => s.rad.rxA.recalPend = false ∧ s.rad.rxB.recalPend = false ∧ s.rad.rxH.recalPend = false
  let noFrame := fun (s : State) => s.rad.rxA.frame = false ∧ s.rad.rxB.frame = false ∧ s.rad.rxH.frame = false
  let noted := fun (sev unit action : Nat) (s t : State) => ∃ r, t.saf.faults = (r :: s.saf.faults).take 64 ∧
    r.detector = 0x000A ∧ r.severity = sev ∧ r.unit = unit ∧ r.action = action ∧ r.info = word unit ∧ r.time = s.power.clkUs
  let bitOf := fun (rx : Fin 3) => if rx = 1 then 1 else 0
  let hears := fun (f : RxFrame) (s : State) => Runs s ∧ s.saf.inject = none ∧ s.rad.calDue = [] ∧ noRecal s ∧ chainOf s (rxSyn s f.rx) = .rx ∧
    wfld (rxOf s f.rx).cfgLive 0 4 = f.preset ∧ rxSync s f.rx = f.sync.toNat ∧ (f.rx = 2 ∨ wbit (rxOf s f.rx).cfgLive 19 = f.manch) ∧ capturing s f.rx = false
  let marked := fun (f : RxFrame) (good : Bool) (s t : State) =>
    (∀ k x, f.slot = some k → (rxOf s f.rx).winOpen = true → (rxOf s f.rx).slots[k.val]? = some x →
      (rxOf t f.rx).slots[k.val]? = some (x.1 + b2n good, x.2 || dualHit f || (good && decide (1 ≤ x.1)))) ∧
    (f.slot = none → (rxOf t f.rx).slots = (rxOf s f.rx).slots) ∧ (f.rx.val = txRx s (rxBand f.rx) → (bandOf t (rxBand f.rx)).turn = (good && turnArmed s (rxBand f.rx)))
  (∀ s f, hears f s → f.ends = false → ∃ t, exec (.rxFrame f) s = .next t ∧ (rxOf t f.rx) = { (rxOf s f.rx) with frame := true, level := f.rssi } ∧
    t = { fresh s with rad := t.rad } ∧ ∀ r < 3, r ≠ f.rx.val → rxOf t r = rxOf s r) ∧
  (∀ s f, hears f s → f.ends = true → rxOk s f = true → ∃ t, exec (.rxFrame f) s = .next t ∧
    regBit t (ev (rxBand f.rx)) (bitOf f.rx) = true ∧ regFld t (rxAddr f.rx 8) 8 8 = f.rssi.toNat ∧ (rxOf t f.rx).frame = false ∧
    (rxOf t f.rx).cfgLive = regGet s (rxAddr f.rx 0) ∧ RegsBut [ev (rxBand f.rx), rxAddr f.rx 8] s t ∧ t.emit = [] ∧ t.acc = s.acc ∧ marked f true s t) ∧
  (∀ s f, hears f s → f.ends = true → rxOk s f = false →
    let cnt := if f.rx = 2 then 0x40040060 else 0x40030084
    ∃ t, exec (.rxFrame f) s = .next t ∧ regBit t (ev (rxBand f.rx)) (2 + bitOf f.rx) = true ∧ CountsOne cnt s t ∧ (rxOf t f.rx).frame = false ∧
      RegsBut [ev (rxBand f.rx), rxAddr f.rx 8, cnt] s t ∧ t.emit = [] ∧ marked f false s t) ∧
  (∀ s f, Runs s → (chainOf s (rxSyn s f.rx) ≠ .rx ∨ wfld (rxOf s f.rx).cfgLive 0 4 ≠ f.preset ∨ rxSync s f.rx ≠ f.sync.toNat ∨
    (f.rx ≠ 2 ∧ wbit (rxOf s f.rx).cfgLive 19 ≠ f.manch) ∨ capturing s f.rx = true) → exec (.rxFrame f) s = .next (fresh s)) ∧
  (∀ s (rx : Fin 3), Runs s → regBit s (rxAddr rx 0x10) 0 = true → regFld s (rxAddr rx 0x10) 4 4 ≠ 0 → chainOf s (rxSyn s rx) ≠ .cal →
    ∃ t, exec (.rxWindowOpen rx) s = .next t ∧ t = { fresh s with rad := t.rad } ∧
    rxOf t rx = { (rxOf s rx) with winOpen := true, winHeld := false, slots := List.replicate (regFld s (rxAddr rx 0x10) 4 4) (0, false) } ∧ ∀ r < 3, r ≠ rx.val → rxOf t r = rxOf s r) ∧
  (∀ s (rx : Fin 3), Runs s → regBit s (rxAddr rx 0x10) 0 = true → regFld s (rxAddr rx 0x10) 4 4 ≠ 0 → chainOf s (rxSyn s rx) = .cal →
    ∃ t, exec (.rxWindowOpen rx) s = .next t ∧ t = { fresh s with rad := t.rad } ∧ rxOf t rx = { (rxOf s rx) with winHeld := true } ∧ ∀ r < 3, r ≠ rx.val → rxOf t r = rxOf s r) ∧
  (∀ s (rx : Fin 3), Runs s → (regBit s (rxAddr rx 0x10) 0 = false ∨ regFld s (rxAddr rx 0x10) 4 4 = 0) → exec (.rxWindowOpen rx) s = .next (fresh s)) ∧
  (∀ s h m, Runs s → radioFree s = false → exec (.rflCalStart h m) s = .next { fresh s with rad := { s.rad with calDue := s.rad.calDue ++ [(if h then .bandH else .full, m)] } }) ∧
  (∀ s h m, Runs s → radioFree s = true → ∃ t c, exec (.rflCalStart h m) s = .next t ∧ t = { fresh s with rad := t.rad } ∧ t.rad.calDue = [] ∧ t.rad.cal = some c ∧
    c.kind = (if h then .bandH else .full) ∧ c.meas = m ∧ ∀ i < 4, (synOf s i).failed = false → chainOf t i = .cal) ∧
  (∀ s c, s.pending = [] → s.LinkInv → running s = true → s.rad.cal = some c → 1 < c.left → ∃ t, step s = .next t ∧ t.rad.cal = some { c with left := c.left - 1 }) ∧
  (∀ s c, s.pending = [] → s.LinkInv → running s = true → s.rad.cal = some c → c.left ≤ 1 → c.kind = .full → s.rad.calDue = [] → s.sns.loc = none → s.power.state = .noon →
    (∀ u ∈ s.cpl.units, u.state = .none) → s.acc.triggers = [] → s.acc.waiting = [] → s.lf.telegram = none →
    let m := c.meas
    ∃ t, step s = .next t ∧ t.rad.cal = none ∧ noRecal t ∧ t.drawn = s.drawn + 58 ∧ regBit t 0x40030080 8 = true ∧
    regBit t 0x40030004 12 = true ∧ regBit t 0x40040004 12 = true ∧ t.rad.isoLow = (decide (m.iso0.toNat < 45) && decide (m.iso1.toNat < 45)) ∧
    regFld t 0x40040054 0 8 = m.iso0.toNat ∧ regFld t 0x40040054 8 8 = m.iso1.toNat ∧ regBit t 0x40040054 16 = t.rad.isoLow ∧
    regFld t 0x40030080 16 8 = m.imgA.toNat ∧ regFld t 0x40030080 24 8 = m.imgB.toNat ∧ regFld t 0x4004005C 16 8 = m.imgH.toNat ∧
    Emission.radioCw true 2440000000 0 400 ∈ t.emit ∧
    (regBit s 0x40030070 17 = true → regFld t 0x40030070 0 16 = m.tune.toNat) ∧ (regBit s 0x40030070 17 = false → regGet t 0x40030070 = regGet s 0x40030070)) ∧
  (∀ s (rx : Fin 3), Runs s → regBit s (if rx = 2 then 0x40040058 else 0x4003007C) 1 = false → exec (.recalPend rx) s = .next (fresh s)) ∧
  (∀ s (rx : Fin 3), Runs s → noRecal s → s.rad.calDue = [] → regBit s (if rx = 2 then 0x40040058 else 0x4003007C) 1 = true → gapOn s [rx.val] [rxBand rx] 768000 = false →
    ∃ t, exec (.recalPend rx) s = .next t ∧ t = { fresh s with rad := t.rad } ∧ rxOf t rx = { (rxOf s rx) with recalPend := true } ∧ ∀ r < 3, r ≠ rx.val → rxOf t r = rxOf s r) ∧
  (∀ s (rx : Fin 3), Runs s → noRecal s → s.rad.calDue = [] → regBit s (if rx = 2 then 0x40040058 else 0x4003007C) 1 = true → gapOn s [rx.val] [rxBand rx] 768000 = true →
    ∃ t c, exec (.recalPend rx) s = .next t ∧ t = { fresh s with rad := t.rad } ∧ t.rad.cal = some c ∧ c.kind = .rx rx ∧
      ((synOf s (rxSyn s rx)).failed = false → chainOf t (rxSyn s rx) = .cal)) ∧
  (∀ s (i : Fin 4) relocks, Runs s → ∃ t, exec (.lockLoss i relocks) s = .next t ∧ regBit t (ev (synBand i)) 9 = true) ∧
  (∀ s (i : Fin 4), Runs s → s.saf.inject = none → faultRecent 0x000A i s = false → ∃ t, exec (.lockLoss i true) s = .next t ∧ noted 2 i 2 s t ∧ (synOf t i).failed = (synOf s i).failed ∧
    ((s.power.state ≠ .noon ∨ synBand i = true) → (bandOf s (synBand i)).sending = none → noFrame s → chainOf t i = chainOf s i)) ∧
  (∀ s (i : Fin 4), Runs s → s.saf.inject = none → faultRecent 0x000A i s = false → ∃ t, exec (.lockLoss i false) s = .next t ∧ noted 3 i 6 s t ∧ (synOf t i).failed = true ∧
    chainOf t i = .off ∧ regBit t (ev (synBand i)) 10 = true ∧ ((s.power.state ≠ .noon ∨ synBand i = true) → (bandOf s (synBand i)).sending = none → ∀ j < 4, j ≠ i.val → synOf t j = synOf s j)) ∧
  (∀ s (i d : Fin 4) relocks, Runs s → txSyn s (synBand i) = i.val → (bandOf s (synBand i)).sending = some d.val → ∃ t, exec (.lockLoss i relocks) s = .next t ∧
    regFld t (txstatAddr (synBand i)) (4 * d.val) 4 = 6 ∧ regBit t (txdAddr (synBand i) d 0) 0 = false ∧ regBit t (ev (synBand i)) 8 = true ∧
    (bandOf t (synBand i)).sending = none) ∧
  (∀ s (rx : Fin 3) (i : Fin 4) relocks, Runs s → i.val = rxSyn s rx → ∃ t, exec (.lockLoss i relocks) s = .next t ∧ (rxOf t rx).frame = false) ∧
  (∀ s (i : Fin 4), Runs s → bandFree s (synBand i) 768000 = true → (synOf s i).failed = true → ∃ t, exec (.failoverRetry i true) s = .next t ∧
    (synOf t i).failed = false ∧ regBit t (ev (synBand i)) 10 = true ∧
    ((s.power.state ≠ .noon ∨ synBand i = true) → synOf t i = { (synOf s i) with failed := false } ∧ RegsBut [ev (synBand i)] s t ∧ ∀ j < 4, j ≠ i.val → synOf t j = synOf s j)) ∧
  (∀ s (i : Fin 4) locks, Runs s → (bandFree s (synBand i) 768000 = false ∨ (synOf s i).failed = false ∨ locks = false) → exec (.failoverRetry i locks) s = .next (fresh s)) ∧
  (∀ s best rl (sb : Fin 4), Runs s → bandFree s false 460800 = true → s.rad.sweepDue = some sb.val → ∃ t, exec (.mismatch best rl) s = .next t ∧ t.rad.sweepDue = none ∧
    t.rad.mismatchRun = 0 ∧ t.emit = [.radioCw false ([433920000, 600000000, 868300000, 915000000].getD sb.val 0) 0 480] ∧
    regFld t 0x40030070 (4 * sb.val) 4 = best.val ∧ regGet t 0x40030074 = word (rl.toNat + 256 * best.val) ∧
    regBit t 0x40030004 11 = (regBit s 0x40030004 11 && decide (rl.toNat < regFld s 0x40030070 18 6)) ∧ RegsBut [0x40030070, 0x40030074, 0x40030004] s t) ∧
  (∀ s best rl, Runs s → (s.rad.sweepDue = none ∨ bandFree s false 460800 = false) → exec (.mismatch best rl) s = .next (fresh s)) ∧
  (∀ s x, s.LinkInv → (s.power.state ≠ .dusk ∨ regFld s 0x40030078 0 10 = 0 ∨ s.rad.syn1.failed = true ∨ s.rad.cal.isSome = true ∨ x.level.toNat ≤ regFld s 0x40030078 10 8) →
    exec (.sniffPeriod x) s = .next (fresh s)) ∧
  (let sniffs := fun (level : Byte) (s : State) => s.LinkInv ∧ s.power.state = .dusk ∧ regFld s 0x40030078 0 10 ≠ 0 ∧ s.rad.syn1.failed = false ∧ s.rad.cal = none ∧
    regFld s 0x40030078 10 8 < level.toNat
   (∀ s l, sniffs l s → ∃ t, exec (.sniffPeriod ⟨l, .noSync⟩) s = .next t ∧ t = { fresh s with regs := t.regs } ∧ CountsOne 0x40030088 s t ∧ RegsBut [0x40030088] s t) ∧
   (∀ s l b c, sniffs l s → sniffOk b c = false → ∃ t, exec (.sniffPeriod ⟨l, .frame b c⟩) s = .next t ∧ CountsOne 0x40030084 s t ∧ regBit t 0x40030004 2 = true ∧
     RegsBut [0x40030084, 0x40030004] s t ∧ t.rad = s.rad) ∧
   (∀ s l b c, sniffs l s → sniffOk b c = true → ∃ t, exec (.sniffPeriod ⟨l, .frame b c⟩) s = .next t ∧ t.rad = { s.rad with held := b } ∧ regBit t 0x40030004 0 = true ∧
     regBit t 0x40030004 13 = true ∧ ((engOf s 2).state = .siesta → (engOf t 2).state = .run) ∧ regFld t 0x40030038 8 8 = l.toNat ∧ RegsBut [0x40030004, 0x40030038] s t))

/-! ### Ranging -/

/-- R23, R173, R174, R175, R177, R178, R179, R180, R181, R182, R183, R186, R188, R198, R199, R200: an exchange starts only set up, with its bit sequence and with both Band H synthesisers, and is answered at once where it cannot
run; its result follows the order of R179; ABORT ends it; E5 alone loads the response registers; a responder is armed from the session key and answers; an MCP event sends its
tones and leaves its samples in its slots; MCP and Channel Sounding leave what they measured. (The bound of an exchange is checked here outside a decision and outside a coupling.) -/
def Obligations.RangingEvents : Prop :=
  let ev := 0x40050008
  let bound := 0x4005004C
  let alone := fun (x : RbeRun) (s : State) => Runs s ∧ s.rng.rbe = some x ∧ x.record.isSome = true ∧ s.acc.decision = none
  let runs := fun (x : RbeRun) (s : State) => alone x s ∧ x.started = true ∧ s.rng.resp.isSome = true
  let ends := fun (i : Instr) (res b : Nat) (s : State) => ∃ t, exec i s = .next t ∧ t.rng.rbe = none ∧ t.rng.resp = none ∧ regGet t bound = word (b + 65536 * res) ∧ regBit t ev 0 = true ∧
    t.acc = s.acc
  let count := fun (m : RbeMeas) (resp : Quad × Quad) (s : State) => rbeCount (kfix s) (regFld s 0x40050020 0 7) (leNat (chalBytes s)) resp m.bits
  (∀ s w x, alone x s → valueGood s 0x40050020 w = true → x.started = false → wbit w 31 = true → wfld w 0 7 ≠ 0 → duplexOk s = true → s.rng.resp.isSome = true →
    ∃ t, exec (.rbeExchangeStart w) s = .next t ∧ t.rng = { s.rng with rbe := some { x with started := true } } ∧ chainOf t 2 = .duplex ∧ chainOf t 3 = .duplex ∧
      (synOf t 2).freq = word (2402000000 + 2000000 * wfld w 8 5) ∧ (synOf t 3).freq = word (2426000000 + 2000000 * wfld w 8 5) ∧
      (∀ r k, x.record = some r → tokOf s r = some k → t.emit = [.rngStart 0 (le 8 x.nonceR.toNat ++ [byte (wfld w 8 5), byte (wfld w 0 7)] ++ le 4 k.tokenId.toNat)
        [2402000 + 2000 * wfld w 8 5, 2426000 + 2000 * wfld w 8 5]]) ∧
      regFld t 0x40050020 0 7 = wfld w 0 7 ∧ CountsOne 0x40050130 s t ∧ RegsBut [0x40050020, 0x40050130] s t) ∧
  (∀ s w x, alone x s → valueGood s 0x40050020 w = true → x.started = false → wbit w 31 = true → wfld w 0 7 ≠ 0 → duplexOk s = true → s.rng.resp = none →
    ∃ t, exec (.rbeExchangeStart w) s = .next t ∧ t = { fresh s with regs := t.regs } ∧ RegsBut [0x40050020] s t) ∧
  (∀ s w x, alone x s → valueGood s 0x40050020 w = true → x.started = false → wbit w 31 = true → wfld w 0 7 ≠ 0 → duplexOk s = false → ends (.rbeExchangeStart w) 2 0xFFFF s) ∧
  (∀ s w x, alone x s → valueGood s 0x40050020 w = true → x.started = false → wbit w 31 = true → wfld w 0 7 = 0 → ∃ t, exec (.rbeExchangeStart w) s = .next t ∧ t.rng = { s.rng with rbe := none } ∧
    regGet t bound = 0xFFFF ∧ t.emit = [] ∧ RegsBut [0x40050020, bound] s t) ∧
  (∀ s w, Runs s → valueGood s 0x40050020 w = false → ∃ t, exec (.rbeExchangeStart w) s = .next t ∧ t.rng = s.rng ∧ t.rad = s.rad ∧ regBit t ev 5 = true ∧ RegsBut [ev] s t) ∧
  (∀ s w, Runs s → valueGood s 0x40050020 w = true → (wbit w 31 = false ∨ s.rng.rbe.any (·.started) = true) →
    ∃ t, exec (.rbeExchangeStart w) s = .next t ∧ t = { fresh s with regs := t.regs } ∧ regFld t 0x40050020 0 7 = wfld w 0 7 ∧ RegsBut [0x40050020] s t) ∧
  (∀ s m, Runs s → s.rng.rbe.any (·.started) = false → exec (.rbeExchangeDone m) s = .next (fresh s)) ∧
  (∀ s m x, runs x s → m.ack = false → ends (.rbeExchangeDone m) 3 0xFFFF s) ∧
  (∀ s m x resp, runs x s → m.ack = true → s.rng.resp = some resp →
    let c := count m resp s
    let e := regFld s 0x40050020 16 4
    let ok := confirmOk (rbeKey x s).1 x.nonceR (maskBits (regFld s 0x40050020 0 7) (chalBytes s)) (expectBytes (regFld s 0x40050020 0 7) (leNat (chalBytes s)) resp) m.confirm
    (e < c.wrong + c.early → ends (.rbeExchangeDone m) 5 0xFFFF s ∧ ∃ t, exec (.rbeExchangeDone m) s = .next t ∧ regBit t ev 4 = true) ∧
    (c.wrong + c.early ≤ e → ok = false → ends (.rbeExchangeDone m) 6 0xFFFF s ∧ ∃ t, exec (.rbeExchangeDone m) s = .next t ∧ regBit t ev 4 = true) ∧
    (c.wrong + c.early ≤ e → ok = true → e < c.late → ends (.rbeExchangeDone m) 8 0xFFFE s) ∧
    (c.wrong + c.early ≤ e → ok = true → c.late ≤ e → e < c.miss → ends (.rbeExchangeDone m) 4 0xFFFF s) ∧
    (c.wrong + c.early ≤ e → ok = true → c.late ≤ e → c.miss ≤ e → ends (.rbeExchangeDone m) 1 (min 0xFFFD (boundCm (kfix s) (c.oks.foldl max 0))) s) ∧
    ∃ t, exec (.rbeExchangeDone m) s = .next t ∧ regFld t 0x40050040 0 8 = min 255 c.miss ∧ regFld t 0x40050040 8 8 = min 255 c.wrong ∧
      regFld t 0x40050040 16 8 = min 255 c.early ∧ regFld t 0x40050040 24 8 = min 255 c.late ∧ regGet t 0x40050050 = m.t0 ∧
      (chainOf s 2 = .duplex → chainOf s 3 = .duplex → s.rad.txlo.failed = false → s.rad.rxlo.failed = false → s.rad.calDue = [] → s.rad.rxH.recalPend = false →
        chainOf t 3 = .rx ∧ chainOf t 2 = .idle)) ∧
  (∀ s x, alone x s → x.started = true → ends .rngAbort 7 0xFFFF s) ∧
  (∀ s, Runs s → s.rng.rbe.any (·.started) = false → exec .rngAbort s = .next { fresh s with rng := { s.rng with resp := none } }) ∧
  (∀ s b, Runs s → b ≠ Requester.engine 5 → ∃ t, exec (.rngRbeKeyld b) s = .next t ∧ regBit t ev 5 = true ∧ t.rng = s.rng ∧ RegsBut [ev] s t) ∧
  (∀ s x r k key, Runs s → s.rng.rbe = some x → x.started = false → x.record = some r → tokOf s r = some k → (tokenKey k s).1 = some key →
    ∃ t, exec (.rngRbeKeyld (.engine 5)) s = .next t ∧ t.emit = [] ∧
      t.rng = { s.rng with resp := some (respRegs (cmac key ([0x52, 0x42, 0x45] ++ le 8 x.nonceR.toNat ++ le 4 s.cfg.vid.toNat ++ le (if k.cls = .ph then 8 else 4) k.tokenId.toNat))) }) ∧
  (∀ s, Runs s → s.rng.rbe = none → exec (.rngRbeKeyld (.engine 5)) s = .next (fresh s)) ∧
  (∀ s (u : Fin 3) (x : RbeHeard) k, Runs s → sessionKey s (u.val + 1) 2 = some k → regBit s 0x40050000 0 = true → s.rng.rbe = none →
    let resp := respRegs (kRbe k x.nonce (tractorVid s) (le 8 (certId s.cpl.cert)))
    let chal := le 8 (x.chal.toNat % 2 ^ x.nbits.val)
    let ans := le 8 ((List.range x.nbits).foldl (fun a i => if bit (if bit x.chal.toNat i then resp.2 else resp.1).toNat i then a + 2 ^ i else a) 0)
    ∃ t, exec (.respArm u x) s = .next t ∧ t.rng = { s.rng with armed := some x.nonce, resp := some resp } ∧ regBit t 0x40050000 2 = true ∧ RegsBut [0x40050000] s t ∧
      t.emit = [.rngRespond (peekBytes s 0 4) ans (chal ++ (cmac k ([0x52, 0x42, 0x43] ++ le 8 x.nonce.toNat ++ chal ++ ans)).take 8) (2426000 + 2000 * x.fIdx.val)]) ∧
  (∀ s (u : Fin 3) x, Runs s → (sessionKey s (u.val + 1) 2 = none ∨ regBit s 0x40050000 0 = false ∨ s.rng.rbe.isSome = true) → exec (.respArm u x) s = .next (fresh s)) ∧
  (∀ s d r l, Runs s → s.rng.mcp = none → s.acc.decision = some d → d.mcpTodo = r :: l →
    let n : Quad := BitVec.ofNat 64 (leNat (peekBytes s 0 8))
    let j := d.cands.countP (·.mcpDone) % 4
    ∃ t, exec .mcpEventStart s = .next t ∧ t.drawn = s.drawn + 2 ∧ t.rng = { s.rng with mcp := some r, mcpNonce := n, mcpL := !s.rad.rxB.winOpen, mcpSlots := s.rng.slots, tones := t.rng.tones } ∧
      t.acc.decision = some { d with mcpTodo := l } ∧ regGet t 0x40050094 = word (2 * j + 16 * (2 * j + 1)) ∧
      let pdu := le 8 n.toNat ++ le 4 (regGet s 0x40050084).toNat ++ le 4 (regGet s 0x40050088).toNat ++ le 1 (regFld s 0x4005008C 0 8) ++
        le 4 (regGet s 0x40050090).toNat ++ [byte (regFld s 0x40050080 0 2)]
      ∃ a freqs, t.emit = [.radioTx true a (leFrame 1 (regGet s 0x40040034).toNat 0x555555 (d.nonce.toNat % 37) pdu), .rngStart 1 pdu freqs] ∧
      (regBit s 0x40050080 0 = true → ∀ k < 72, (if k ≤ 20 then 2404000 + 1000 * k else 2407000 + 1000 * k) ∈ freqs ↔ regBit s (0x40050084 + 4 * (k / 32)) (k % 32) = true)) ∧
  (∀ s m fit r x slot, Runs s → s.rng.mcp = some r → s.acc.decision = none → m.iq = [x] → x.bandH = true → regBit s 0x40050080 0 = true →
    regBit s (0x40050084 + 4 * (x.tone.val / 32)) (x.tone.val % 32) = true → regFld s 0x40050094 0 3 = slot → slot < s.rng.mcpSlots →
    ∃ t, exec (.mcpEventDone m fit) s = .next t ∧
      memGet t.sram (0x10000000 + 0x24000 * slot + ((x.tone.val * 2 + x.dir.val) * 4 + x.path.val) * 256 + 4 * x.n.val) 4 = le 4 x.iq.toNat) ∧
  (∀ s, Runs s → s.rng.mcp.isSome = true → ∃ t, exec .mcpEventStart s = .next t ∧ t.rng = s.rng ∧ t.emit = [] ∧ t.acc = s.acc ∧ t.drawn = s.drawn) ∧
  (∀ s m fit, Runs s → s.rng.mcp = none → exec (.mcpEventDone m fit) s = .next (fresh s)) ∧
  (∀ s m fit r, Runs s → s.rng.mcp = some r → s.acc.decision = none → m.ack = false → ∃ t, exec (.mcpEventDone m fit) s = .next t ∧ t.rng = { s.rng with mcp := none } ∧
    regBit t ev 1 = true ∧ regBit t 0x40050098 4 = true ∧ regBit t 0x40050098 0 = false ∧ regBit t 0x40050098 1 = false ∧ regFld t 0x4005009C 0 16 = 0xFFFF ∧
    regFld t 0x400500A0 0 16 = 0xFFFF) ∧
  (∀ s m fit r k key b, Runs s → s.rng.mcp = some r → s.acc.decision = none → m.ack = true → tokOf s r = some k → (tokenKey k s).1 = some key → m.report = some b → b.length = 185 →
    let good := b.drop 177 = (cmac key (le 8 s.rng.mcpNonce.toNat ++ b.take 177)).take 8
    let valid := fun (h : Bool) (q : Byte) => mcpBand s h && decide (regFld s 0x40050080 4 8 ≤ q.toNat)
    ∃ t, exec (.mcpEventDone m fit) s = .next t ∧ t.rng.mcp = none ∧ regBit t ev 1 = true ∧ regBit t 0x40050098 4 = false ∧
      (¬ good → regBit t 0x40050098 3 = true ∧ regBit t 0x40050098 0 = false ∧ regBit t 0x40050098 1 = false ∧ regFld t 0x4005009C 0 16 = 0xFFFF) ∧
      (good → regBit t 0x40050098 3 = false ∧ regBit t 0x40050098 0 = valid true m.hq ∧ regBit t 0x40050098 1 = valid false m.lq ∧
        regFld t 0x4005009C 0 16 = (if valid true m.hq then cmField (m.h - mcpOfs s) else 0xFFFF) ∧
        regFld t 0x400500A0 0 16 = (if valid false m.lq then cmField (m.l - mcpOfs s) else 0xFFFF))) ∧
  (∀ s (n : Fin 64) m, Runs s → s.rng.cs = some n.val → s.acc.decision = none → s.acc.release.track = none → ∃ t, exec (.csProcedureDone n m) s = .next t ∧
    t.rng = { s.rng with cs := none, tones := m.starts } ∧ regBit t ev 2 = true ∧ regFld t 0x400500CC 0 16 = (m.pbr.map (min 0xFFFE)).getD 0xFFFF ∧
    regFld t 0x400500CC 16 16 = (rttCm m.rtt).getD 0xFFFF ∧ regBit t 0x400500C8 0 = m.pbr.isSome ∧ regBit t 0x400500C8 1 = decide (4 ≤ m.rtt.length) ∧
    RegsBut [ev, 0x400500C8, 0x400500CC, 0x40030004, 0x40040004] s t ∧ t.acc = s.acc ∧ t.emit = []) ∧
  (∀ s (n : Fin 64) m, Runs s → s.acc.decision = none → s.rng.cs ≠ some n.val → exec (.csProcedureDone n m) s = .next (fresh s))

/-! ### Rig coupling -/

/-- R209, R211, R212, R213, R214, R215, R217, R218, R219, R222, R225: the checks that every coupling PDU meets, counted
where it fails them, and the handshake and the distance bound step by step: what each PDU makes the unit await next,
the session keys from the shared secret, and the reasons an attempt fails with. That a HELLO which opens an attempt
is taken with any SEQ (log 141) and that a TRUSTED partner answers RBE_ARM (log 161) are the model's choices. -/
def Obligations.CouplingHandshake : Prop :=
  let pdus : List (Nat × (CplPdu → Instr)) := [(1, .hello), (2, .cert), (3, .keyshare), (4, .confirm), (5, .rbeArm), (6, .rbeResult), (7, .roster), (8, .rosterAck), (9, .driverGrant),
    (10, .driverLeft), (12, .bye)]
  let un := fun (p : CplPdu) => p.unit.val + 1
  let able := fun (s : State) => s.cpl.cert.length = 148 ∧ (∃ k, couplingKey s = .ok k) ∧ randomOk s = true
  let ignored := fun (type : Nat) (i : Instr) (p : CplPdu) (s : State) => UnitOnly i (un p) (heardOf type p s) s
  (∀ x ∈ pdus, ∀ s p, s.LinkInv → (awake s = false ∨ (cplUnits s).contains (un p) = false ∨ cplOnMedium s p = false) → exec (x.2 p) s = .next (fresh s)) ∧
  (∀ x ∈ pdus, ∀ s p, s.LinkInv → awake s = true → (cplUnits s).contains (un p) = true → cplOnMedium s p = true → (2040 < p.payload.length ∨ 3 < p.flags.toNat) →
    ∃ t, exec (x.2 p) s = .next t ∧ t = { fresh s with regs := t.regs } ∧ CountsOne 0x40070014 s t ∧ RegsBut [0x40070014] s t) ∧
  (∀ x ∈ pdus, ∀ s p, s.LinkInv → awake s = true → (cplUnits s).contains (un p) = true → cplOnMedium s p = true → p.payload.length ≤ 2040 → p.flags.toNat ≤ 3 →
    (unitOf s (un p)).state ≠ .trusted → ((bit p.flags.toNat 1 || macNeeded (unitOf s (un p)) (sessionKey s (un p) 0).isSome x.1 (bit p.flags.toNat 0)) = true ∧
      (bit p.flags.toNat 1 = false ∨ ∀ k, sessionKey s (un p) 0 = some k → p.mac ≠ (cmac k (cplPduHead x.1 p)).take 8) ∨ x.1 ≠ 1 ∧ p.seq.toNat < (unitOf s (un p)).seqRx) →
    ∃ t, exec (x.2 p) s = .next t ∧ t = { fresh s with regs := t.regs } ∧ CountsOne 0x40070010 s t ∧ RegsBut [0x40070010] s t) ∧
  (∀ s p, PduGood 1 p s → p.payload.length ≠ 20 → ∃ t, exec (.hello p) s = .next t ∧ CountsOne 0x40070014 s t ∧ RegsBut [0x40070014] s t ∧ unitOf t (un p) = heardOf 1 p s) ∧
  (∀ s p, PduGood 1 p s → p.payload.length = 20 → roleOf s = .trailer → (unitOf s (un p)).state = .handshake → (unitOf s (un p)).waiting = .hello →
    (unitOf s (un p)).peerHello ≠ p.payload → byteAt p.payload 19 ≤ 8 →
    UnitOnly (.hello p) (un p) { heardOf 1 p s with peerHello := p.payload, seqRx := p.seq.toNat + 1, axles := byteAt p.payload 19, waiting := .cert } s) ∧
  (∀ s p, PduGood 1 p s → p.payload.length = 20 → roleOf s = .tractor → (unitOf s (un p)).state = .handshake → (unitOf s (un p)).waiting = .hello →
    (unitOf s (un p)).peerHello ≠ p.payload → axleSum s (un p) (byteAt p.payload 19) ≤ 8 → ∃ t, exec (.hello p) s = .next t ∧ (unitOf t (un p)).waiting = .cert ∧
      (unitOf t (un p)).peerHello = p.payload ∧ Emission.coupling (un p) (pduOf 2 0 (unitOf s (un p)).seqTx s.cpl.cert none) ∈ t.emit) ∧
  (∀ s p, PduGood 1 p s → p.payload.length = 20 → (unitOf s (un p)).state = .handshake → (unitOf s (un p)).waiting = .hello → (unitOf s (un p)).peerHello ≠ p.payload →
    8 < axleSum s (un p) (byteAt p.payload 19) → AttemptFails (.hello p) (un p) 15 s) ∧
  (∀ s p, PduGood 1 p s → p.payload.length = 20 → bit p.flags.toNat 0 = false → roleOf s = .trailer → (unitOf s (un p)).state = .none → regBit s 0x40070000 6 = true → able s →
    cplPlc s (un p) = false → byteAt p.payload 19 ≤ 8 → ∃ t, exec (.hello p) s = .next t ∧ (unitOf t (un p)).state = .handshake ∧ (unitOf t (un p)).waiting = .cert ∧
      (unitOf t (un p)).peerHello = p.payload ∧ SendsPdu (un p) 1 t) ∧
  (∀ s p, PduGood 1 p s → p.payload.length = 20 → bit p.flags.toNat 0 = false → (unitOf s (un p)).state = .trusted → ∃ t, exec (.hello p) s = .next t ∧
    unitOf t (un p) = heardOf 1 p s ∧ CountsOne 0x4007000C s t) ∧
  (∀ s p, PduGood 2 p s → (unitOf s (un p)).waiting ≠ .cert → ignored 2 (.cert p) p s) ∧
  (∀ s p r, PduGood 2 p s → (unitOf s (un p)).waiting = .cert → certJudge s p.payload = .error r → AttemptFails (.cert p) (un p) r s) ∧
  (∀ s p cls, PduGood 2 p s → (unitOf s (un p)).waiting = .cert → certJudge s p.payload = .ok cls → roleOf s = .trailer →
    ((unitOf s (un p)).partner = 0 ∨ (unitOf s (un p)).partner.toNat = certId p.payload) → ∃ t, exec (.cert p) s = .next t ∧ (unitOf t (un p)).waiting = .keyshare ∧
      (unitOf t (un p)).cls = cls ∧ (unitOf t (un p)).partner.toNat = certId p.payload ∧ (unitOf t (un p)).peerCert = p.payload ∧
      (unitOf t (un p)).dolly = (byteAt p.payload 1 == 3) ∧ Emission.coupling (un p) (pduOf 2 0 (unitOf s (un p)).seqTx s.cpl.cert none) ∈ t.emit) ∧
  (∀ s p cls key, PduGood 2 p s → (unitOf s (un p)).waiting = .cert → certJudge s p.payload = .ok cls → roleOf s = .tractor → couplingKey s = .ok key →
    ((unitOf s (un p)).partner = 0 ∨ (unitOf s (un p)).partner.toNat = certId p.payload) → ∃ t, exec (.cert p) s = .next t ∧ (unitOf t (un p)).waiting = .keyshare ∧
      (unitOf t (un p)).cls = cls ∧ (unitOf t (un p)).ownEph = pubOf (unitOf t (un p)).ephD ∧ (unitOf t (un p)).ephD = drawScalar s 0 ∧ SendsPdu (un p) 3 t) ∧
  (∀ s p, PduGood 3 p s → (unitOf s (un p)).waiting ≠ .keyshare → ignored 3 (.keyshare p) p s) ∧
  (∀ s p, PduGood 3 p s → (unitOf s (un p)).waiting = .keyshare → roleOf s = .tractor →
    (p.payload.length ≠ 128 ∨ ecdsaVerify (slice (unitOf s (un p)).peerCert 20 64) (sha256 (transcriptOf true { unitOf s (un p) with peerEph := p.payload.take 64 })) (p.payload.drop 64) = false) →
    AttemptFails (.keyshare p) (un p) 6 s) ∧
  (∀ s p z key, PduGood 3 p s → (unitOf s (un p)).waiting = .keyshare → roleOf s = .tractor → p.payload.length = 128 →
    let tr := transcriptOf true { unitOf s (un p) with peerEph := p.payload.take 64 }
    ecdsaVerify (slice (unitOf s (un p)).peerCert 20 64) (sha256 tr) (p.payload.drop 64) = true → ecdhX (unitOf s (un p)).ephD (p.payload.take 64) = some z →
    couplingKey s = .ok key →
    let k := sessionKeys true (unitOf s (un p)) z
    ∃ t, exec (.keyshare p) s = .next t ∧ (unitOf t (un p)).waiting = .confirm ∧ (unitOf t (un p)).ephD = 0 ∧ (unitOf t (un p)).transcript = tr ∧
      sessionKey t (un p) 0 = some (k.take 16) ∧ sessionKey t (un p) 1 = some (slice k 16 32) ∧ sessionKey t (un p) 2 = some (slice k 48 16) ∧
      Emission.coupling (un p) (pduOf 4 0 (unitOf s (un p)).seqTx (confirmTag (k.take 16) tr (ownRole s)) (some (k.take 16))) ∈ t.emit) ∧
  (∀ s p, PduGood 4 p s → (unitOf s (un p)).waiting ≠ .confirm → ignored 4 (.confirm p) p s) ∧
  (∀ s p k, PduGood 4 p s → (unitOf s (un p)).waiting = .confirm → sessionKey s (un p) 0 = some k →
    p.payload ≠ confirmTag k (unitOf s (un p)).transcript (byteAt (unitOf s (un p)).peerCert 1) →
    AttemptFails (.confirm p) (un p) 7 s ∧ ∃ t, exec (.confirm p) s = .next t ∧ SendsPdu (un p) 12 t) ∧
  (∀ s p k, PduGood 4 p s → (unitOf s (un p)).waiting = .confirm → sessionKey s (un p) 0 = some k → s.acc.decision = none → s.rng.rbe = none →
    p.payload = confirmTag k (unitOf s (un p)).transcript (byteAt (unitOf s (un p)).peerCert 1) → ∃ t, exec (.confirm p) s = .next t ∧ (unitOf t (un p)).boundary = 4 ∧
      ((unitOf s (un p)).resume = false → (unitOf t (un p)).serial = ((ctrRead s 35).getD 0 + 1) % 2 ^ 24) ∧ un p - 1 ∈ t.jrn.internal ∧
      (roleOf s = .tractor → (unitOf t (un p)).waiting = .rbeOwn ∧ SendsPdu (un p) 5 t ∧ t.rng.rbe.any (·.unit == some (un p)) = true) ∧
      (roleOf s = .trailer → (unitOf t (un p)).waiting = .rbePartner ∧ SendsPdu (un p) 4 t)) ∧
  (∀ s p, PduGood 5 p s → p.payload.length = 12 → (unitOf s (un p)).waiting = .rbePartner → ∃ t, exec (.rbeArm p) s = .next t ∧
    unitOf t (un p) = { heardOf 5 p s with resent := false } ∧ regBit t 0x40050000 0 = true ∧ RegsBut [0x40050000] s t ∧ t.rng = s.rng) ∧
  (∀ s p, PduGood 5 p s → p.payload.length = 12 → (unitOf s (un p)).state = .trusted → (unitOf s (un p)).waiting ≠ .rbePartner → (unitOf s (un p)).waiting ≠ .rbeOwn →
    ∃ t, exec (.rbeArm p) s = .next t ∧ regBit t 0x40050000 0 = true ∧ RegsBut [0x40050000] s t ∧ t.rng = s.rng ∧
      unitOf t (un p) = { heardOf 5 p s with waiting := .rbePartner, resent := false, ownPass := false, peerPass := false, rbeRetried := false }) ∧
  (∀ s p, PduGood 5 p s → (p.payload.length ≠ 12 ∨ ((unitOf s (un p)).waiting ≠ .rbePartner ∧ ((unitOf s (un p)).state ≠ .trusted ∨ (unitOf s (un p)).waiting = .rbeOwn))) →
    ignored 5 (.rbeArm p) p s) ∧
  (∀ s p, PduGood 6 p s → (p.payload.length ≠ 3 ∨ (unitOf s (un p)).waiting ≠ .rbePartner) → ignored 6 (.rbeResult p) p s) ∧
  (∀ s p r, PduGood 6 p s → p.payload.length = 3 → (unitOf s (un p)).waiting = .rbePartner → rbeVerdict s (un p) (byteAt p.payload 0) (at_ p.payload 1 2) = .error r →
    ∃ t, exec (.rbeResult p) s = .next t ∧ unitOf t (un p) = { heardOf 6 p s with partnerCm := at_ p.payload 1 2, resent := false } ∧ regBit t 0x40050000 0 = false ∧
      t.rng = { s.rng with armed := none, resp := none }) ∧
  (∀ s p nb, PduGood 6 p s → p.payload.length = 3 → (unitOf s (un p)).waiting = .rbePartner → rbeVerdict s (un p) (byteAt p.payload 0) (at_ p.payload 1 2) = .ok nb →
    (unitOf s (un p)).ownPass = true → roleOf s = .tractor → (unitOf s (un p)).resume = false →
    (unitOf s (un p)).boundary < 6 → ∃ t, exec (.rbeResult p) s = .next t ∧ (unitOf t (un p)).state = .trusted ∧ (unitOf t (un p)).waiting = .roster ∧
      (unitOf t (un p)).partnerCm = at_ p.payload 1 2 ∧ (unitOf t (un p)).noBound = (nb || (unitOf s (un p)).noBound) ∧
      (unitOf t (un p)).boundStale = false ∧ regBit t 0x40050000 0 = false ∧ t.rng = { s.rng with armed := none, resp := none }) ∧
  (∀ s p nb, PduGood 6 p s → p.payload.length = 3 → (unitOf s (un p)).waiting = .rbePartner → rbeVerdict s (un p) (byteAt p.payload 0) (at_ p.payload 1 2) = .ok nb →
    (unitOf s (un p)).ownPass = false → s.acc.decision = none → s.rng.rbe = none →
    duplexOk s = true → regFld s 0x40050020 0 7 ≠ 0 → ∃ t, exec (.rbeResult p) s = .next t ∧ (unitOf t (un p)).state = (unitOf s (un p)).state ∧ (unitOf t (un p)).waiting = .rbeOwn ∧
      (unitOf t (un p)).peerPass = true ∧ SendsPdu (un p) 5 t ∧ t.rng.rbe.any (·.unit == some (un p)) = true)

/-- R216, R218, R219, R220, R221, R223: the roster is taken in parts and acknowledged, a refused part keeps the coupling in its class; a driver grant triggers a decision once and a repeat keeps
the release; DRIVER_LEFT ends it; BYE decouples a coupling that stands and fails an attempt. -/
def Obligations.CouplingService : Prop :=
  let un := fun (p : CplPdu) => p.unit.val + 1
  let ignored := fun (type : Nat) (i : Instr) (p : CplPdu) (s : State) => UnitOnly i (un p) (heardOf type p s) s
  let takes := fun (p : CplPdu) (s : State) => PduGood 7 p s ∧ roleOf s = .tractor ∧ (unitOf s (un p)).state = .trusted
  let first := fun (p : CplPdu) (s : State) => (unitOf s (un p)).part = 0 ∧ (unitOf s (un p)).partLast = none ∧ (unitOf s (un p)).rosterFail = false
  let decoupled := fun (i : Instr) (u : Nat) (s : State) => ∃ t, exec i s = .next t ∧ (unitOf t u).state = .none ∧ (unitOf t u).partner = 0 ∧ (unitOf t u).boundary = 0 ∧
    (∀ j < 3, sessionKey t u j = none) ∧ ∀ x ∈ t.sns.sensors, ¬ (x.state = .partner ∧ x.srcUnit = u)
  (∀ s p, PduGood 7 p s → (roleOf s ≠ .tractor ∨ (unitOf s (un p)).state ≠ .trusted) → ignored 7 (.roster p) p s) ∧
  (∀ s p, takes p s → rosterRefused (unitOf s (un p)) p.payload = true → ∃ t, exec (.roster p) s = .next t ∧ (unitOf t (un p)).rosterFail = true ∧ (unitOf t (un p)).state = .trusted ∧
    (unitOf t (un p)).cls = (unitOf s (un p)).cls ∧ (unitOf t (un p)).boundary = 6 ∧ (unitOf t (un p)).waiting = .nothing ∧ t.sns.sensors = s.sns.sensors) ∧
  (∀ s p u0 ab key, takes p s → first p s → p.payload = [u0, 0, ab, 0] → sessionKey s (un p) 0 = some key → ∃ t, exec (.roster p) s = .next t ∧ (unitOf t (un p)).boundary = 6 ∧
    (unitOf t (un p)).rosterFail = false ∧ (unitOf t (un p)).axleBase = ab.toNat ∧ t.sns.sensors = s.sns.sensors ∧
    Emission.coupling (un p) (pduOf 8 0 (unitOf s (un p)).seqTx [0, 0, 0] (some key)) ∈ t.emit) ∧
  (∀ s p u0 ab e key r, takes p s → first p s → p.payload = [u0, 1, ab, 0] ++ e → e.length = 32 → byteAt e 4 = 1 → sessionKey s (un p) 0 = some key →
    s.sns.sensors.any (fun x => x.id.toNat == at_ e 0 4) = false → freeRecord s = some r → ∃ t x, exec (.roster p) s = .next t ∧ snsOf t r = some x ∧ x.id.toNat = at_ e 0 4 ∧
      x.state = .partner ∧ x.srcUnit = un p ∧ x.s2 = false ∧ x.kind = byteAt e 5 ∧ x.wheelPos = byte (byteAt e 6) ∧ x.conf = byteAt e 7 ∧
      (∀ q, q ≠ r → snsOf t q = snsOf s q) ∧ (unitOf t (un p)).boundary = 6 ∧
      Emission.coupling (un p) (pduOf 8 0 (unitOf s (un p)).seqTx [0, 1, 0] (some key)) ∈ t.emit) ∧
  (∀ s p, PduGood 8 p s → ((unitOf s (un p)).waiting ≠ .rosterAck ∨ p.payload.length ≠ 3 ∨ byteAt p.payload 0 ≠ (unitOf s (un p)).part) → ignored 8 (.rosterAck p) p s) ∧
  (∀ s p, PduGood 8 p s → (unitOf s (un p)).waiting = .rosterAck → p.payload.length = 3 → byteAt p.payload 0 = (unitOf s (un p)).part →
    ∃ t, exec (.rosterAck p) s = .next t ∧ (unitOf t (un p)).rosterTrunc = ((unitOf s (un p)).rosterTrunc || byteAt p.payload 2 != 0) ∧
      ((unitOf s (un p)).part < rosterLast (sensorsToHand s).length → (unitOf t (un p)).waiting = .rosterAck ∧ (unitOf t (un p)).part = (unitOf s (un p)).part + 1 ∧ SendsPdu (un p) 7 t) ∧
      (rosterLast (sensorsToHand s).length ≤ (unitOf s (un p)).part → (unitOf t (un p)).waiting = .nothing ∧ (unitOf t (un p)).boundary = 6)) ∧
  (∀ s p d, PduGood 9 p s → s.power.state = .noon → p.payload.length = 17 → byteAt p.payload 16 = 0 → roleOf s = .trailer → (grantUnits s).contains (un p) = true → (unitOf s (un p)).boundStale = false →
    (unitOf s (un p)).grantSeq < at_ p.payload 12 4 → s.acc.decision = some d → trigClass d.trig.kind ≠ trigClass .grant → s.acc.triggers.length < 4 → s.acc.waiting = [] →
    let g : DriverGrantData := { tokenId := BitVec.ofNat 64 (at_ p.payload 0 8), zone := byte (byteAt p.payload 16), seq := at_ p.payload 12 4 }
    ∃ t, exec (.driverGrant p) s = .next t ∧ unitOf t (un p) = heardOf 9 p s ∧
      t.acc = { s.acc with triggers := s.acc.triggers ++ [{ kind := .grant, sought := .park, door := none, t0 := s.power.clkUs, works := [], v1 := false, grant := some g }] }) ∧
  (∀ s p, PduGood 9 p s → p.payload.length = 17 → byteAt p.payload 16 = 0 → roleOf s = .trailer → (grantUnits s).contains (un p) = true → (unitOf s (un p)).boundStale = false →
    (unitOf s (un p)).grantSeq < at_ p.payload 12 4 → decisionFree s = true → s.acc.triggers = [] → s.acc.waiting = [] → tamperStands s = false → regFld s 0x40060000 0 2 = 0 →
    regBit s 0x40060000 2 = false → s.acc.curfew = false → s.acc.sloFault = false → s.acc.release.active = false → ∃ t, exec (.driverGrant p) s = .next t ∧
      unitOf t (un p) = { heardOf 9 p s with grantSeq := at_ p.payload 12 4 } ∧ t.acc.release.active = true ∧ t.acc.release.outcome = .park ∧ t.acc.decision = none ∧
      t.acc.decNum = s.acc.decNum + 1 ∧ t.acc.ring.getLast?.map (fun r => (r.num, r.outcome, r.reason)) = some (s.acc.decNum + 1, byte (soughtCode .park), byte rsNone)) ∧
  (∀ s p, PduGood 9 p s → p.payload.length = 17 → byteAt p.payload 16 = 0 → roleOf s = .trailer → (grantUnits s).contains (un p) = true → (unitOf s (un p)).boundStale = false →
    (unitOf s (un p)).grantSeq = at_ p.payload 12 4 → s.acc.release.active = true → ∃ t, exec (.driverGrant p) s = .next t ∧ unitOf t (un p) = heardOf 9 p s ∧
      t.acc = { s.acc with release := { s.acc.release with missedGrants := 0 } } ∧ t.regs = s.regs) ∧
  (∀ s p, PduGood 9 p s → (p.payload.length ≠ 17 ∨ byteAt p.payload 16 ≠ 0 ∨ roleOf s ≠ .trailer ∨ (grantUnits s).contains (un p) = false ∨ (unitOf s (un p)).boundStale = true ∨
    at_ p.payload 12 4 < (unitOf s (un p)).grantSeq) → ignored 9 (.driverGrant p) p s) ∧
  (∀ s p, PduGood 10 p s → roleOf s = .trailer → s.acc.release.active = true → ∃ t, exec (.driverLeft p) s = .next t ∧ t.acc.release.active = false ∧ t.acc.release.endCause = 2 ∧
    t.acc.release.driven = false ∧ unitOf t (un p) = heardOf 10 p s) ∧
  (∀ s p, PduGood 10 p s → (roleOf s = .tractor ∨ s.acc.release.active = false) → ignored 10 (.driverLeft p) p s) ∧
  (∀ s p, PduGood 12 p s → (unitOf s (un p)).state = .handshake → 1 ≤ byteAt p.payload 0 → byteAt p.payload 0 ≤ 15 → AttemptFails (.bye p) (un p) (byteAt p.payload 0) s) ∧
  (∀ s p, PduGood 12 p s → (unitOf s (un p)).state = .handshake → byteAt p.payload 0 = 0 → decoupled (.bye p) (un p) s) ∧
  (∀ s p, PduGood 12 p s → (((unitOf s (un p)).state = .trusted ∧ (byteAt p.payload 0 < 8 ∨ 11 < byteAt p.payload 0)) ∨ (unitOf s (un p)).state = .suspended) → decoupled (.bye p) (un p) s) ∧
  (∀ s p, PduGood 12 p s → (unitOf s (un p)).state = .trusted → 8 ≤ byteAt p.payload 0 → byteAt p.payload 0 ≤ 11 → AttemptFails (.bye p) (un p) (byteAt p.payload 0) s) ∧
  (∀ s p, PduGood 12 p s → ((unitOf s (un p)).state = .none ∨ (unitOf s (un p)).state = .basic ∨ (unitOf s (un p)).state = .backoff) → ignored 12 (.bye p) p s)

/-- R208, R209, R214, R220, R221, R223, R225, R226: a link that comes up starts a handshake in the tractor role, a link
that is lost suspends a coupling and gives up an attempt, HOLD_S decouples; a PDU is resent once and then the
partner is ABSENT; a backoff restarts; keepalives go out while trusted; two silent track periods end a trailer's
release. R510, R513: a first frame opens a run on its route, consecutive frames extend it in order and are
acknowledged at the end of a block, a frame out of sequence, a gap and a second silence abort it and are counted; an
acknowledgement sends the next block, ends the run or aborts it. That a COUPLE still waiting is answered
PARTNER_ABSENT when the coupling goes (log 158), and what a unit is after a RESUME that failed (log 160), are the
model's choices. -/
def Obligations.CouplingTimersAndTransport : Prop :=
  (let un := fun (u : Fin 3) => u.val + 1
  let ready := fun (u : Fin 3) (s : State) => awake s = true ∧ s.LinkInv ∧ (cplUnits s).contains (un u) = true ∧ s.cpl.units.map (·.unit) = [1, 2, 3]
  let able := fun (s : State) => s.cpl.cert.length = 148 ∧ (∃ k, couplingKey s = .ok k) ∧ randomOk s = true
  let begins := fun (i : Instr) (u : Fin 3) (s : State) => ∃ t, exec i s = .next t ∧ (unitOf t (un u)).state = .handshake ∧ (unitOf t (un u)).waiting = .hello ∧ SendsPdu (un u) 1 t
  let gone := fun (i : Instr) (u : Nat) (s : State) => ∃ t, exec i s = .next t ∧ (unitOf t u).state = .none ∧ (unitOf t u).boundary = 0 ∧ (∀ j < 3, sessionKey t u j = none) ∧
    ∀ x ∈ t.sns.sensors, ¬ (x.state = .partner ∧ x.srcUnit = u)
  (∀ s u long, ready u s → able s → roleOf s = .tractor → regFld s 0x40070000 4 2 ≠ 1 → (unitOf s (un u)).state = .none → regBit s 0x40070000 6 = true →
    (long = true ∨ s.cpl.restartsOff = false) → begins (.couplingLinkUp u false long) u s) ∧
  (∀ s u, ready u s → roleOf s = .trailer → regFld s 0x40070000 4 2 ≠ 1 → (unitOf s (un u)).state = .none →
    UnitOnly (.couplingLinkUp u false false) (un u) { unitOf s (un u) with linkUp := true, j2497 := false, attempts := 0 } s) ∧
  (∀ s u plc long, s.LinkInv → (awake s = false ∨ (cplUnits s).contains (un u) = false ∨ (plc = false ∧ regFld s 0x40070000 4 2 = 1) ∨
    (plc = true ∧ regFld s 0x40070000 4 2 ≠ 1 ∧ (unitOf s (un u)).j2497 = false)) → exec (.couplingLinkUp u plc long) s = .next (fresh s)) ∧
  (∀ s u key, ready u s → (unitOf s (un u)).state = .trusted → sessionKey s (un u) 0 = some key → ∃ t, exec (.keepalive u) s = .next t ∧
    Emission.coupling (un u) (pduOf 0x0B 0 (unitOf s (un u)).seqTx [] (some key)) ∈ t.emit ∧ (unitOf t (un u)).seqTx = (unitOf s (un u)).seqTx + 1 ∧ t.acc = s.acc) ∧
  (∀ s u, s.LinkInv → (unitOf s (un u)).state ≠ .trusted → exec (.keepalive u) s = .next (fresh s)) ∧
  (∀ s u, ready u s → (unitOf s (un u)).state = .handshake → (unitOf s (un u)).waiting ≠ .nothing → (unitOf s (un u)).resent = false → (unitOf s (un u)).boundStale = false → (unitOf s (un u)).lastPdu ≠ [] →
    ∃ t, exec (.stepTo u) s = .next t ∧ unitOf t (un u) = { unitOf s (un u) with resent := true } ∧ Emission.coupling (un u) (unitOf s (un u)).lastPdu ∈ t.emit) ∧
  (∀ s u, ready u s → (unitOf s (un u)).state = .handshake → (unitOf s (un u)).waiting ≠ .nothing → (unitOf s (un u)).resent = true → AttemptFails (.stepTo u) (un u) 11 s) ∧
  (∀ s u, s.LinkInv → (unitOf s (un u)).waiting = .nothing → exec (.stepTo u) s = .next (fresh s)) ∧
  (∀ s, ready 0 s → able s → roleOf s = .trailer → (unitOf s 1).linkUp = true → cplPlc s 1 = false → regBit s 0x40070000 6 = true → s.cpl.restartsOff = false →
    (unitOf s 1).state = .none → begins (.helloWaitTimeout 0) 0 s) ∧
  (∀ s u, s.LinkInv → (roleOf s ≠ .trailer ∨ (unitOf s (un u)).linkUp = false ∨ regBit s 0x40070000 6 = false ∨ (unitOf s (un u)).state = .handshake ∨
    (unitOf s (un u)).state = .trusted) → exec (.helloWaitTimeout u) s = .next (fresh s)) ∧
  (∀ s, ready 0 s → roleOf s = .trailer → regFld s 0x40070000 4 2 = 2 → (unitOf s 1).linkUp = false → (unitOf s 1).state = .none →
    UnitOnly (.mediumFallback 0) 1 { unitOf s 1 with linkUp := true, j2497 := true, attempts := 0 } s) ∧
  (∀ s u, s.LinkInv → (regFld s 0x40070000 4 2 ≠ 2 ∨ (unitOf s (un u)).linkUp = true) → exec (.mediumFallback u) s = .next (fresh s)) ∧
  (∀ s u, ready u s → (unitOf s (un u)).state = .trusted → regFld s 0x40070000 8 8 ≠ 0 → ∃ t, exec (.couplingLinkLoss u) s = .next t ∧ (unitOf t (un u)).state = .suspended ∧
    (unitOf t (un u)).linkUp = false ∧ (unitOf t (un u)).waiting = .nothing ∧ (∀ j < 3, sessionKey t (un u) j = sessionKey s (un u) j) ∧ t.sns.sensors = s.sns.sensors ∧
    (roleOf s = .trailer → s.acc.release.active = true → t.acc.release.active = false ∧ t.acc.release.endCause = 8)) ∧
  (∀ s u, ready u s → (unitOf s (un u)).state = .trusted → regFld s 0x40070000 8 8 = 0 → gone (.couplingLinkLoss u) (un u) s) ∧
  (∀ s u, ready u s → (unitOf s (un u)).state = .handshake → (unitOf s (un u)).resume = false → ∃ t, exec (.couplingLinkLoss u) s = .next t ∧ (unitOf t (un u)).state = .none ∧
    (unitOf t (un u)).linkUp = false ∧ (unitOf t (un u)).cls = 0 ∧ ∀ j < 3, sessionKey t (un u) j = none) ∧
  (∀ s u, ready u s → (unitOf s (un u)).state = .handshake → (unitOf s (un u)).resume = true → ∃ t, exec (.couplingLinkLoss u) s = .next t ∧ (unitOf t (un u)).state = .none ∧
    (unitOf t (un u)).linkUp = false ∧ (unitOf t (un u)).boundary = (unitOf s (un u)).boundary ∧ (unitOf t (un u)).partner = (unitOf s (un u)).partner ∧
    (unitOf t (un u)).waiting = .nothing ∧ t.sns.sensors = s.sns.sensors) ∧
  (∀ s u, ready u s → ((unitOf s (un u)).state = .none ∨ (unitOf s (un u)).state = .basic ∨ (unitOf s (un u)).state = .backoff ∨ (unitOf s (un u)).state = .suspended) →
    UnitOnly (.couplingLinkLoss u) (un u) { unitOf s (un u) with linkUp := false, j2497 := false } s) ∧
  (∀ s u, ready u s → ((unitOf s (un u)).state = .suspended ∨ cplHeld (unitOf s (un u)) = true) → gone (.holdExpiry u) (un u) s) ∧
  (∀ s u, s.LinkInv → (unitOf s (un u)).state ≠ .suspended → cplHeld (unitOf s (un u)) = false → exec (.holdExpiry u) s = .next (fresh s)) ∧
  (∀ s u, ready u s → (unitOf s (un u)).state = .backoff → (s.cpl.restartsOff = true ∨ (unitOf s (un u)).linkUp = false) →
    ∃ t, exec (.couplingRestart u) s = .next t ∧ unitOf t (un u) = { unitOf s (un u) with state := .basic }) ∧
  (∀ s u, ready u s → able s → (unitOf s (un u)).state = .backoff → s.cpl.restartsOff = false → (unitOf s (un u)).linkUp = true → cplPlc s (un u) = false →
    begins (.couplingRestart u) u s ∧ ∃ t, exec (.couplingRestart u) s = .next t ∧ (unitOf t (un u)).attempts = (unitOf s (un u)).attempts + 1) ∧
  (∀ s u, s.LinkInv → (unitOf s (un u)).state ≠ .backoff → exec (.couplingRestart u) s = .next (fresh s)) ∧
  (∀ s, s.LinkInv → awake s = true → roleOf s = .trailer → s.acc.release.active = true → s.acc.release.missedGrants = 0 →
    exec .grantRepeatTimeout s = .next { fresh s with acc := { s.acc with release := { s.acc.release with missedGrants := 1 } } }) ∧
  (∀ s, s.LinkInv → awake s = true → roleOf s = .trailer → s.acc.release.active = true → s.acc.release.missedGrants = 1 → ∃ t, exec .grantRepeatTimeout s = .next t ∧
    t.acc.release.active = false ∧ t.acc.release.endCause = 0xA ∧ t.acc.release.driven = false) ∧
  (∀ s, s.LinkInv → (roleOf s ≠ .trailer ∨ s.acc.release.active = false) → exec .grantRepeatTimeout s = .next (fresh s))) ∧
  (let un := fun (f : TpFrame) => f.unit.val + 1
  let ready := fun (f : TpFrame) (s : State) => awake s = true ∧ s.LinkInv ∧ (cplUnits s).contains (un f) = true
  let aborts := fun (i : Instr) (u : Nat) (plc sending : Bool) (s : State) => ∃ t, exec i s = .next t ∧ tpRunOf t u plc sending = none ∧
    (plc = true → CountsOne 0x400D0028 s t ∧ regBit t 0x400D0008 6 = true) ∧ (plc = false → CountsOne 0x400C0044 s t ∧ regBit t 0x400C0008 9 = true) ∧ t.cpl = s.cpl
  let answers := fun (u sn st : Nat) (s t : State) => ∃ id, Emission.canTx 0 id true ([byte (0xC0 + sn % 64), routeByte s u] ++ fit 6 [byte st]) ∈ t.emit
  (∀ s f, s.LinkInv → (awake s = false ∨ (cplUnits s).contains (un f) = false ∨ f.seg.toNat < 64 ∨ 192 ≤ f.seg.toNat) → exec (.tpSegmentFrame f) s = .next (fresh s)) ∧
  (∀ s f, ready f s → f.seg = 0x40 → 14 ≤ at_ f.body 0 2 → at_ f.body 0 2 ≤ 2054 → ∃ t, exec (.tpSegmentFrame f) s = .next t ∧ t = { fresh s with bus := { s.bus with tp := t.bus.tp } } ∧
    tpRunOf t (un f) f.plc false = some { unit := un f, onPlc := f.plc, sending := false, length := at_ f.body 0 2, data := f.body.drop 2, next := 1, resent := false }) ∧
  (∀ s f, ready f s → 64 ≤ f.seg.toNat → f.seg.toNat < 128 → (f.seg ≠ 0x40 ∨ at_ f.body 0 2 < 14 ∨ 2054 < at_ f.body 0 2) → ∃ t, exec (.tpSegmentFrame f) s = .next t ∧
    t = { fresh s with bus := { s.bus with tp := t.bus.tp } } ∧ tpRunOf t (un f) f.plc false = none) ∧
  (∀ s f, ready f s → 128 ≤ f.seg.toNat → f.seg.toNat < 192 → tpRunOf s (un f) f.plc false = none → exec (.tpSegmentFrame f) s = .next (fresh s)) ∧
  (∀ s f r, ready f s → tpRunOf s (un f) f.plc false = some r → f.seg.toNat = 128 + r.next % 64 → r.data.length + f.body.length < r.length → r.next % (tpSizes f.plc).2.2 ≠ 0 →
    ∃ t, exec (.tpSegmentFrame f) s = .next t ∧ t = { fresh s with bus := { s.bus with tp := t.bus.tp } } ∧
      tpRunOf t (un f) f.plc false = some { r with data := r.data ++ f.body, next := r.next + 1 }) ∧
  (∀ s f r, ready f s → f.plc = false → tpRunOf s (un f) false false = some r → f.seg.toNat = 128 + r.next % 64 → r.data.length + f.body.length < r.length → r.next % 16 = 0 →
    ∃ t, exec (.tpSegmentFrame f) s = .next t ∧ tpRunOf t (un f) false false = some { r with data := r.data ++ f.body, next := r.next + 1 } ∧ answers (un f) (r.next + 1) 0 s t) ∧
  (∀ s f r, ready f s → tpRunOf s (un f) f.plc false = some r → 128 ≤ f.seg.toNat → f.seg.toNat < 192 → f.seg.toNat ≠ 128 + r.next % 64 →
    aborts (.tpSegmentFrame f) (un f) f.plc false s ∧ (f.plc = false → ∃ t, exec (.tpSegmentFrame f) s = .next t ∧ answers (un f) r.next 2 s t)) ∧
  (∀ s f r, ready f s → tpRunOf s (un f) f.plc false = some r → f.seg.toNat = 128 + r.next % 64 → r.length ≤ r.data.length + f.body.length → cplSteps (byteAt (r.data ++ f.body) 0) = none →
    ∃ t, exec (.tpSegmentFrame f) s = .next t ∧ tpRunOf t (un f) f.plc false = none ∧ CountsOne 0x40070014 s t ∧ t.cpl = s.cpl ∧ (f.plc = false → answers (un f) (r.next + 1) 1 s t)) ∧
  (∀ s (u : Fin 3) plc sn st, s.LinkInv → tpRunOf s (u.val + 1) plc true = none → exec (.tpAckFrame u plc sn st) s = .next (fresh s)) ∧
  (∀ s (u : Fin 3) plc sn, s.LinkInv → awake s = true → ∃ t, exec (.tpAckFrame u plc sn 1) s = .next t ∧ tpRunOf t (u.val + 1) plc true = none ∧
    t = { fresh s with bus := { s.bus with tp := t.bus.tp } }) ∧
  (∀ s (u : Fin 3) plc sn r, s.LinkInv → awake s = true → tpRunOf s (u.val + 1) plc true = some r → aborts (.tpAckFrame u plc sn 2) (u.val + 1) plc true s) ∧
  (∀ s (u : Fin 3) sn r, s.LinkInv → awake s = true → tpRunOf s (u.val + 1) false true = some r → sn.val = r.next % 64 → 1 ≤ r.next → r.next ≤ tpCount false r.length →
    ∃ t, exec (.tpAckFrame u false sn 0) s = .next t ∧ tpRunOf t (u.val + 1) false true = some { r with next := blockEnd false r.length r.next + 1, resent := false } ∧
      ∃ id, Emission.canTx 0 id true ([byte (0x80 + r.next % 64), routeByte s (u.val + 1)] ++ fit 6 (slice r.data (4 + (r.next - 1) * 6) 6)) ∈ t.emit) ∧
  (∀ s (u : Fin 3) plc sn st r, s.LinkInv → tpRunOf s (u.val + 1) plc true = some r → st ≠ 1 → st ≠ 2 → (st ≠ 0 ∨ sn.val ≠ r.next % 64 ∨ tpCount plc r.length < r.next) →
    exec (.tpAckFrame u plc sn st) s = .next (fresh s)) ∧
  (∀ s (u : Fin 3) plc r, s.LinkInv → awake s = true → tpRunOf s (u.val + 1) plc false = some r → aborts (.tpGapTimeout u plc) (u.val + 1) plc false s) ∧
  (∀ s (u : Fin 3) plc, s.LinkInv → tpRunOf s (u.val + 1) plc false = none → exec (.tpGapTimeout u plc) s = .next (fresh s)) ∧
  (∀ s (u : Fin 3) plc r, s.LinkInv → awake s = true → tpRunOf s (u.val + 1) plc true = some r → r.resent = true → aborts (.tpAckTimeout u plc) (u.val + 1) plc true s) ∧
  (∀ s (u : Fin 3) plc r, s.LinkInv → awake s = true → tpRunOf s (u.val + 1) plc true = some r → r.resent = false → ∃ t, exec (.tpAckTimeout u plc) s = .next t ∧
    tpRunOf t (u.val + 1) plc true = some { r with resent := true } ∧ t.cpl = s.cpl) ∧
  (∀ s (u : Fin 3) plc, s.LinkInv → tpRunOf s (u.val + 1) plc true = none → exec (.tpAckTimeout u plc) s = .next (fresh s)))

/-! ### Wheel-end sensing -/

/-- R231, R232, R233, R234, R235, R239, R241, R243, R248: an S2 frame of an unknown sensor is foreign, one with a bad MAC or a frame counter that does not rise is counted and dropped, and a good one waits for the
commit of its counter before its values take effect; a located or a phase report reaches its pass; an S1 frame is taken by its own check and its family. -/
def Obligations.SensorFrames : Prop :=
  let ev := 0x40070108
  let noon := fun (s : State) => s.LinkInv ∧ s.power.state = .noon
  let pay := fun (f : SnsFrame) => f.air.data.drop 1
  let two := fun (f : SnsFrame) (s : State) => noon s ∧ rxGood s f.air = true ∧ rxS2 s f.air.rx false = true ∧ pay f ≠ [] ∧ (pay f).length ≤ 64
  let burst := fun (f : SnsFrame) (s : State) => noon s ∧ rxGood s f.air = true ∧ rxS2 s f.air.rx true = true ∧ pay f ≠ [] ∧ (pay f).length ≤ 16
  let one := fun (f : SnsFrame) (s : State) => noon s ∧ rxGood s f.air = true ∧ rxS1 s f.air.rx = true
  let kept := fun (f : SnsFrame) (s : State) => s.LinkInv ∧ s.power.state = .dusk ∧ s.rad.held ≠ [] ∧ s.rad.held = f.air.data
  let taken := fun (f : SnsFrame) (s : State) => rxFrame f.air (fresh s)
  let type := fun (f : SnsFrame) => byteAt (pay f) 0
  let id := fun (f : SnsFrame) => at_ (pay f) 1 4
  let isData := fun (f : SnsFrame) => type f = 1 ∧ (pay f).length = 27
  let isAlarm := fun (f : SnsFrame) => type f = 3 ∧ (pay f).length = 16
  let isLoc := fun (f : SnsFrame) => type f = 2 ∧ (pay f).length = 12
  let isReport := fun (f : SnsFrame) => type f = 4 ∧ (pay f).length = 46
  let foreign := fun (i : Instr) (s : State) => ∃ t, exec i s = .next t ∧ CountsOne 0x40070110 s t ∧ regBit t ev 4 = true ∧ t.sns = s.sns
  let dropped := fun (i : Instr) (s : State) => ∃ t, exec i s = .next t ∧ CountsOne 0x40070118 s t ∧ t.sns = s.sns
  let known := fun (f : SnsFrame) (x : Sensor) (s : State) => snsById s (id f) false = some x ∧ snsOf s x.index = some x
  let mac := fun (f : SnsFrame) (x : Sensor) (n : Nat) (u : State) => (snsMac x.index ((pay f).take n) ((pay f).drop n) u).1
  let newer := fun (n : Nat) (x : Sensor) (s : State) => x.lastFcnt < n ∧ ∀ w ∈ s.sns.frames, w.record = x.index → w.fcnt < n
  let wait := fun (alarm : Bool) (f : SnsFrame) (rssi input : Byte) (x : Sensor) =>
    ({ record := x.index, fcnt := at_ (pay f) (if alarm then 8 else 6) 4, alarm := alarm, data := if alarm then slice (pay f) 5 3 else slice (pay f) 11 8
       flags := byte (if alarm then 0 else byteAt (pay f) 10), rssi := rssi, input := input } : WaitFrame)
  let waits := fun (i : Instr) (w : WaitFrame) (s : State) => ∃ t, exec i s = .next t ∧ t.sns = { s.sns with frames := s.sns.frames ++ [w] }
  (∀ s f, two f s → isData f → snsById s (id f) false = none → foreign (.data f) s) ∧
  (∀ s f, burst f s → isAlarm f → snsById s (id f) false = none → foreign (.alarm f) s) ∧
  (∀ s f, two f s → isLoc f → snsById s (id f) false = none → foreign (.loc f) s) ∧
  (∀ s f, two f s → isReport f → snsById s (id f) false = none → foreign (.sreport f) s) ∧
  (∀ s f, two f s → ¬ isData f → ([2, 3, 4].contains (type f)) = false → dropped (.data f) s) ∧
  (∀ s f, two f s → type f = 3 → dropped (.alarm f) s) ∧ (∀ s f, two f s → type f = 2 → ¬ isLoc f → dropped (.loc f) s) ∧
  (∀ s f, two f s → type f = 4 → ¬ isReport f → dropped (.sreport f) s) ∧
  (∀ s f, burst f s → rxS2 s f.air.rx false = false → ¬ isAlarm f → (type f = 3 → dropped (.alarm f) s) ∧ (type f = 2 → dropped (.loc f) s) ∧ (type f = 4 → dropped (.sreport f) s) ∧
    (([2, 3, 4].contains (type f)) = false → dropped (.data f) s)) ∧
  (∀ s f, s.LinkInv → (type f ≠ 3 → exec (.alarm f) s = .next (fresh s)) ∧ (type f ≠ 2 → exec (.loc f) s = .next (fresh s)) ∧ (type f ≠ 4 → exec (.sreport f) s = .next (fresh s)) ∧
    ([2, 3, 4].contains (type f) = true → exec (.data f) s = .next (fresh s))) ∧
  (∀ s f, noon s → (rxGood s f.air = false ∨ (rxS2 s f.air.rx false = false ∧ rxS2 s f.air.rx true = false)) →
    (type f = 3 → exec (.alarm f) s = exec (.rxFrame f.air) s) ∧ (type f = 2 → exec (.loc f) s = exec (.rxFrame f.air) s) ∧ (type f = 4 → exec (.sreport f) s = exec (.rxFrame f.air) s) ∧
    (([2, 3, 4].contains (type f)) = false → exec (.data f) s = exec (.rxFrame f.air) s)) ∧
  (∀ s f, noon s → (rxGood s f.air = false ∨ rxS1 s f.air.rx = false) → exec (.s1Frame f) s = exec (.rxFrame f.air) s) ∧
  (∀ s f, s.LinkInv → s.power.state = .dusk → (s.rad.held = [] ∨ s.rad.held ≠ f.air.data) →
    exec (.data f) s = .next (fresh s) ∧ exec (.loc f) s = .next (fresh s) ∧ exec (.sreport f) s = .next (fresh s) ∧ exec (.alarm f) s = .next (fresh s)) ∧
  (∀ s f, kept f s → type f = 2 → ∃ t, exec (.loc f) s = .next t ∧ CountsOne 0x40070118 s t ∧ t.sns = s.sns ∧ t.rad = { s.rad with held := [] }) ∧
  (∀ s f x, two f s → isData f → known f x s → mac f x 19 (taken f s) = some true → newer (at_ (pay f) 6 4) x s → waits (.data f) (wait false f f.air.rssi (rxInput s f.air.rx) x) s) ∧
  (∀ s f x, burst f s → isAlarm f → known f x s → mac f x 12 (taken f s) = some true → newer (at_ (pay f) 8 4) x s →
    rxS2 s f.air.rx false = false → waits (.alarm f) (wait true f f.air.rssi (rxInput s f.air.rx) x) s) ∧
  (∀ s f x, kept f s → isAlarm f → known f x s → mac f x 12 s = some true → newer (at_ (pay f) 8 4) x s →
    waits (.alarm f) (wait true f (byte (regFld s 0x40030038 8 8)) (rxInput s 0) x) s) ∧
  (∀ s f x, two f s → isData f → known f x s → mac f x 19 (taken f s) = some true → ¬ newer (at_ (pay f) 6 4) x s →
    ∃ t, exec (.data f) s = .next t ∧ CountsOne 0x40070114 s t ∧ t.sns = s.sns) ∧
  (∀ s f x, two f s → isData f → known f x s → mac f x 19 (taken f s) = some false → dropped (.data f) s) ∧
  (∀ s f x, burst f s → isAlarm f → known f x s → mac f x 12 (taken f s) = some false → dropped (.alarm f) s) ∧
  (∀ s f x p a l, two f s → isLoc f → known f x s → s.sns.loc = some p → p.stage = 1 → p.aerials = a :: l → a < x.codes.length →
    at_ (pay f) 5 2 = p.nonce16.toNat → x.state = .own → x.s2 = true → bit x.locFlags.toNat 3 = false →
    (snsMac x.index ([0x4C] ++ p.wakeBits ++ (pay f).take 8) ((pay f).drop 8) (taken f s)).1 = some true →
    ∃ t, exec (.loc f) s = .next t ∧ snsOf t x.index = some { x with codes := x.codes.set a (byteAt (pay f) 7) } ∧ t.sns.loc = s.sns.loc) ∧
  (∀ s f x, two f s → isLoc f → known f x s → s.sns.loc = none → exec (.loc f) s = exec (.rxFrame f.air) s) ∧
  (∀ s f x p n q l, two f s → isReport f → known f x s → s.sns.loc = some p → p.stage = 2 → p.slocNonce = some n → p.slocDue = x.index :: q :: l →
    let m := (snsMac x.index (le 4 n.toNat ++ (pay f).take 38) ((pay f).drop 38) (taken f s)).1
    ∃ t, exec (.sreport f) s = .next t ∧
      (m = some true → snsOf t x.index = some { x with phase := if 3 ≤ f.q.countP (fun q => decide (regFld s 0x40050080 4 8 ≤ q.toNat)) then f.fit else none }) ∧
      (m = some false → snsOf t x.index = some { x with macBad := true } ∧ CountsOne 0x40070118 s t) ∧ t.sns.loc.map (·.slocDue) = some (q :: l)) ∧
  (∀ s f x p, two f s → isReport f → known f x s → s.sns.loc = some p → p.slocNonce = none → exec (.sreport f) s = exec (.rxFrame f.air) s) ∧
  (∀ s f, one f s → s1Decode f.air.data = none → exec (.s1Frame f) s = exec (.rxFrame f.air) s) ∧
  (let reads := fun (f : SnsFrame) (fam i p tc st : Nat) (x : Sensor) (s : State) => one f s ∧ s1Decode f.air.data = some (fam, i, p, tc, st) ∧
     s.sns.sensors.find? (fun x => x.id.toNat == i) = some x ∧ snsOf s x.index = some x
   (∀ s f fam i p tc st x, reads f fam i p tc st x s → x.s2 = false → x.family = fam → x.state ≠ .learning → ∃ t y, exec (.s1Frame f) s = .next t ∧ snsOf t x.index = some y ∧
      y.data = le 2 p ++ [byte (tc + 256 - 50)] ++ zeros 5 ∧ y.age = 0 ∧ y.heard = true ∧ y.rssi = f.air.rssi ∧ y.input = rxInput s f.air.rx ∧
      y.flags = byte (b2n (bit st 1) + 2 * b2n (bit st 0)) ∧ ∀ q, q ≠ x.index → snsOf t q = snsOf s q) ∧
   (∀ s f fam i p tc st x, reads f fam i p tc st x s → x.s2 = false → x.family = fam → x.state = .learning → s.sns.learn = true → forwardAt s 20 = true → regBit s 0x40070100 0 = false →
      ∃ t y, exec (.s1Frame f) s = .next t ∧ snsOf t x.index = some y ∧ y.learnN = x.learnN + 1 ∧ y.learnLast = s.power.rtc ∧ y.learnRssi = x.learnRssi ++ [f.air.rssi.toNat] ∧
        (y.state = .own ↔ learnOk y = true) ∧ (y.state = .learning ↔ learnOk y = false)) ∧
   (∀ s f fam i p tc st x, reads f fam i p tc st x s → (x.s2 = true ∨ x.family ≠ fam) → exec (.s1Frame f) s = exec (.rxFrame f.air) s)) ∧
  (∀ s f fam i p tc st r, one f s → s1Decode f.air.data = some (fam, i, p, tc, st) → s.sns.sensors.find? (fun x => x.id.toNat == i) = none → s.sns.learn = true →
    regBit s 0x40070100 1 = true → forwardAt s 20 = true → freeRecord s = some r → ∃ t y, exec (.s1Frame f) s = .next t ∧ snsOf t r = some y ∧ y.state = .learning ∧ y.s2 = false ∧
      y.family = fam ∧ y.id = word i ∧ y.learnN = 1 ∧ regBit t ev 5 = true) ∧
  (∀ s f fam i p tc st, one f s → s1Decode f.air.data = some (fam, i, p, tc, st) → s.sns.sensors.find? (fun x => x.id.toNat == i) = none →
    (s.sns.learn = false ∨ regBit s 0x40070100 1 = false ∨ forwardAt s 20 = false) → exec (.s1Frame f) s = exec (.rxFrame f.air) s) ∧
  (∀ s rb w x, noon s → s.sns.frames = [w] → w.alarm = false → snsOf s w.record = some x → ¬ (rb.a = 2 ∧ rb.b = 2) → ∃ t y, exec (.fcntCommit rb) s = .next t ∧ t.sns.frames = [] ∧
    kvGet (fun _ => 0) t.sns.fcnt w.record = w.fcnt ∧ snsOf t w.record = some y ∧ y.data = fit 8 w.data ∧ y.flags = w.flags ∧ y.age = 0 ∧ y.heard = true ∧ y.rssi = w.rssi ∧ y.lastFcnt = w.fcnt) ∧
  (∀ s rb w x, noon s → s.sns.frames = [w] → w.alarm = true → snsOf s w.record = some x → ¬ (rb.a = 2 ∧ rb.b = 2) → x.alert < alarmLevel (byteAt w.data 0) →
    ∃ t y, exec (.fcntCommit rb) s = .next t ∧ t.sns.frames = [] ∧ snsOf t w.record = some y ∧ y.alert = alarmLevel (byteAt w.data 0) ∧ regBit t ev 0 = true ∧ y.data = x.data) ∧
  (∀ s rb, noon s → rb.a = 2 → rb.b = 2 → ∃ t, exec (.fcntCommit rb) s = .next t ∧ t.sns = { s.sns with frames := [] }) ∧
  (∀ s rb, noon s → s.sns.frames = [] → exec (.fcntCommit rb) s = .next (fresh s))

/-- R26, R237, R240, R242, R244, R246, R249, R250, R253, R254: auto-location starts when it is due, skips a wake that
waits for LF, tries skipped aerials again and assigns when its time is over; the learn window promotes what
qualifies and frees the rest; a record's history grows by one entry; a silent record is reported; a trailer
publishes a record, and a tractor takes what its partner publishes. What a located or learned record needs where the
manual is silent (logs 163 and 165) is the model's choice. -/
def Obligations.SensorTimers : Prop :=
  let ev := 0x40070108
  let noon := fun (s : State) => s.LinkInv ∧ s.power.state = .noon
  let begins := fun (i : Instr) (s : State) => ∃ t p, exec i s = .next t ∧ t.sns.loc = some p ∧ p.stage = 1 ∧ p.aerials = modelAerials s.sns.model ∧ p.wakes = 1 ∧ t.sns.locStage = 1 ∧
    3 ∈ t.jrn.internal ∧ p.nonce16 = BitVec.ofNat 16 (Config.freeWord s.drawn).toNat
  (∀ s c, noon s → s.link.e0Restart = false → c ∈ s.cpl.units → c.state = .trusted → c.boundary = 6 → s.sns.loc = none → regBit s 0x40070100 0 = true → byteAt s.sns.model 1 ≠ 0 →
    modelAerials s.sns.model ≠ [] → begins .autoLocationStart s) ∧
  (∀ s, s.LinkInv → (s.sns.loc.isSome = true ∨ regBit s 0x40070100 0 = false ∨ ∀ c ∈ s.cpl.units, ¬ (c.state = .trusted ∧ c.boundary = 6)) → exec .autoLocationStart s = .next (fresh s)) ∧
  (∀ s x, noon s → x ∈ s.sns.sensors → x.conflictDue = true → s.sns.loc = none → byteAt s.sns.model 1 ≠ 0 → modelAerials s.sns.model ≠ [] → begins .nextStop s) ∧
  (∀ s, s.LinkInv → (s.sns.loc.isSome = true ∨ ∀ x ∈ s.sns.sensors, x.conflictDue = false) → exec .nextStop s = .next (fresh s)) ∧
  (∀ s p a, noon s → s.sns.loc = some p → p.stage = 1 → p.aerials = [a] → e1Waits s 3 = true → p.retries < 3 → ∃ t q, exec .wakeDeferTimeout s = .next t ∧ t.sns.loc = some q ∧
    q = { p with skipped := p.skipped ++ [a], aerials := [], wakes := 0, lfDefer := true, oldCur := none } ∧ e1Waits t 3 = false) ∧
  (∀ s, s.LinkInv → (s.sns.loc = none ∨ e1Waits s 3 = false) → exec .wakeDeferTimeout s = .next (fresh s)) ∧
  (∀ s p, noon s → s.sns.loc = some p → p.stage = 1 → p.aerials = [] → p.skipped ≠ [] → p.retries < 3 → ∃ t q, exec .wakeRetry s = .next t ∧ t.sns.loc = some q ∧ q.aerials = p.skipped ∧
    q.skipped = [] ∧ q.retries = p.retries + 1 ∧ q.wakes = 1) ∧
  (∀ s, s.LinkInv → (∀ p, s.sns.loc = some p → p.stage ≠ 1 ∨ p.aerials ≠ [] ∨ p.skipped = [] ∨ 3 ≤ p.retries) → exec .wakeRetry s = .next (fresh s)) ∧
  (∀ s p, noon s → s.sns.loc = some p → p.again = false → ∃ t, exec .stationaryTimeout s = .next t ∧ t.sns.loc = none ∧ t.sns.locStage = (if allConfirmed t then 5 else 3) ∧ t.sns.locDefer = p.lfDefer ∧ regBit t ev 1 = true ∧
    (p.lfDefer = true → regBit t ev 8 = true)) ∧
  (∀ s, s.LinkInv → s.sns.loc = none → exec .stationaryTimeout s = .next (fresh s)) ∧
  (∀ s x, noon s → regBit s 0x40070100 0 = false → s.sns.sensors.filter (·.state == .learning) = [x] → snsOf s x.index = some x → ∃ t, exec .learnWindowEnd s = .next t ∧
    t.sns.learn = false ∧ regBit t ev 7 = true ∧ snsOf t x.index = none ∧
    (∀ q, q ≠ x.index → snsOf t q = snsOf s q) ∧ t.jrn.internal = s.jrn.internal.filter (· != 5)) ∧
  (∀ s, noon s → (∀ x ∈ s.sns.sensors, x.state ≠ .learning) → ∃ t, exec .learnWindowEnd s = .next t ∧ t.sns = { s.sns with learn := false } ∧ t.regs = s.regs) ∧
  (∀ s (r : Fin 128) x, noon s → regFld s 0x40070100 12 8 ≠ 0 → snsOf s r = some x → ∃ t, exec (.histPeriod r) s = .next t ∧
    t = { fresh s with sram := memSet s.sram (0x10140000 + 0x2000 * r.val + 32 * (x.histNext % 256)) (histEntry s x), sns := { s.sns with sensors := t.sns.sensors } } ∧
    snsOf t r = some { x with histNext := x.histNext + 1, histPrimary := sensorV1 x }) ∧
  (∀ s (r : Fin 128), s.LinkInv → (regFld s 0x40070100 12 8 = 0 ∨ snsOf s r = none) → exec (.histPeriod r) s = .next (fresh s)) ∧
  (∀ s (r : Fin 128) x, noon s → regFld s 0x40070100 20 8 ≠ 0 → 10 * regFld s 0x40070100 20 8 ≤ x.age → snsOf s r = some x → x.kind ≠ 1 → ∃ t y, exec (.stale r) s = .next t ∧ regBit t ev 6 = true ∧ snsOf t r = some y ∧
    y.alert = max x.alert 1 ∧ y.data = x.data) ∧
  (∀ s (r : Fin 128) x, noon s → snsOf s r = some x → x.kind = 1 → vehicleMoves s = true → 30 ≤ x.age → ∃ t y, exec (.stale r) s = .next t ∧ regBit t ev 6 = true ∧ snsOf t r = some y ∧
    y.alert = max x.alert 2) ∧
  (∀ s (r : Fin 128), s.LinkInv → (∀ x, snsOf s r = some x → (x.kind ≠ 1 ∨ vehicleMoves s = false ∨ x.age < 30) ∧ (regFld s 0x40070100 20 8 = 0 ∨ x.age < 10 * regFld s 0x40070100 20 8)) → exec (.stale r) s = .next (fresh s)) ∧
  (∀ s (u : Fin 3) (r : Fin 128) b x, noon s → snsOf s r = some x → b.length = 8 → x.state = .partner → x.srcUnit = u.val + 1 → x.kind = byteAt b 1 →
    ∃ t, exec (.sensorState u r b) s = .next t ∧ t = { fresh s with sns := { s.sns with sensors := t.sns.sensors } } ∧
      snsOf t r = some { x with wheelPos := byte (byteAt b 0), candPos := byte (byteAt b 0), conf := byteAt b 7 }) ∧
  (∀ s (u : Fin 3) (r : Fin 128) b, s.LinkInv → (∀ x, snsOf s r = some x → b.length ≠ 8 ∨ x.state ≠ .partner ∨ x.srcUnit ≠ u.val + 1 ∨ x.kind ≠ byteAt b 1) →
    exec (.sensorState u r b) s = .next (fresh s)) ∧
  (∀ s (r : Fin 128) x, noon s → roleOf s = .trailer → snsOf s r = some x → x.state = .own → x.wheelPos = 0xFF → (unitOf s 1).state = .trusted → (unitOf s 1).j2497 = false →
    ∃ t, exec (.sensorStateSend r) s = .next t ∧ t.emit = [.canTx 0 ((regGet s 0x400C008C).toNat + isoAddr s (ownChannel s)) true (sensorState s x)] ∧
      t.sns = { s.sns with publish := s.sns.publish.filter (· != r.val) } ∧ CountsOne 0x400C0024 s t ∧ RegsBut [0x400C0024] s t) ∧
  (∀ s (r : Fin 128), s.LinkInv → (roleOf s ≠ .trailer ∨ ∀ x, snsOf s r = some x → x.state ≠ .own) → exec (.sensorStateSend r) s = .next (fresh s))


/-! ### The key store, memory and the register space -/

/-- R267, R274, R290, R296, R304, R309, R310, R328, R412: ZEROISE and CLOSE by whoever may write KST_CTRL; a nonce and
an import session expire; an increment in flight completes, while E8 runs (R41); the patrol repairs, counts and goes
round; the services of E0 to an OEM engine take its request and answer it, one at a time. A patrol round that SCAN
started visits its pages at the rows of the patrol (the model's choice). That CLOSE leaves STATE reading CLOSED in
every state is the model's reading (log 179). -/
def Obligations.StoreEvents : Prop :=
  let may := fun (r : Requester) (s : State) => match r with
    | .host => awake s = true
    | .v1 => False
    | .engine k => running s = true ∧ k.val < 9
    | .debug => running s = true ∧ s.ks.testRoot = true
  let mayNot := fun (r : Requester) (s : State) => match r with
    | .host => awake s = false
    | .v1 => True
    | .engine k => running s = false ∨ 9 ≤ k.val
    | .debug => s.ks.testRoot = false
  let lost := [0x40010038, 0x40010008]
  let zeroised := fun (s t : State) => CountsOne 0x40080018 s t ∧ regGet t 0x40080014 = now s ∧ regBit t 0x40080008 0 = true ∧
    RegsBut ([0x40080000, 0x40080008, 0x40080014, 0x40080018] ++ lost) s t
  let free := fun (p : Nat) (s : State) => (p < 1024 ∨ 1028 ≤ p) ∧ ∀ c, inFlight s = some c → c.isAcceptance = true ∨ c.addr / 256 ≠ p
  let calm := fun (m : PageMeta) => m.readable = true ∧ (m.degraded.isSome = true ∨ m.c0.ok = m.c1.ok)
  let patrols := fun (s : State) => Runs s ∧ s.fer.scan = none ∧ regBit s 0x40090000 0 = true
  let request := fun (k : Fin 12) (m : Message) (s : State) => isOem k = true ∧ workRuns s = true ∧ s.fer.commits.any (·.kind == .oem k.val) = false ∧
    (engOf s 0).inbox.find? (·.src == k.val) = some m
  let taken := fun (k : Fin 12) (m : Message) (reply : List Bytes) (s t : State) => (engOf t 0).inbox = (engOf s 0).inbox.erase m ∧
    (engOf t k).inbox = (engOf s k).inbox ++ reply.map (fun d => { src := 0, data := d }) ∧ ∀ j, j ≠ 0 → j ≠ k → (engOf t j).inbox = (engOf s j).inbox
  (∀ s r, may r s → ∃ t, exec (.zeroise r) s = .next t ∧ zeroised s t ∧
    LeavesEv { s with regs := t.regs, eng := t.eng, ks := { s.ks with slots := [], session := none } } t) ∧
  (∀ s r, may r s → ∃ t, exec (.close r) s = .next t ∧ zeroised s t ∧
    LeavesEv { s with regs := t.regs, eng := t.eng, rng := { s.rng with resp := none }, fer := { s.fer with commits := t.fer.commits }, ks := { s.ks with
      slots := [], session := none, shares := none, kwk := none, storage := none, attD := none, closedByCtrl := true, state := .closed } } t ∧
    (s.ks.storage = none ∨ inFlight s = none → t.fer.commits = s.fer.commits) ∧
    ∀ c, inFlight s = some c → s.ks.storage ≠ none → t.fer.commits = (if c.isAcceptance = false ∧ pageEnc s (c.addr / 256) = true
      then { c with addr := 256 * (c.addr / 256), data := c.stored s, raw := true } else c) :: s.fer.commits.tail) ∧
  (∀ s r, s.LinkInv → mayNot r s → exec (.zeroise r) s = .next (fresh s) ∧ exec (.close r) s = .next (fresh s)) ∧
  (∀ s, Runs s → exec .nonceExpiry s = .next { fresh s with ks := { s.ks with nonces := s.ks.nonces.tail } }) ∧
  (∀ s, Runs s → s.ks.session = none → exec .importSessionExpiry s = .next (fresh s)) ∧
  (∀ s, Runs s → s.ks.session ≠ none → ∃ t, exec .importSessionExpiry s = .next t ∧ t = { fresh s with ks := { s.ks with slots := t.ks.slots, session := none } } ∧
    slotOf t 11 = none ∧ ∀ i, i ≠ 11 → slotOf t i = slotOf s i) ∧
  (∀ s, Runs s → s.fer.incr = none → exec .counterIncrementDone s = .next (fresh s)) ∧
  (∀ s, Runs s → (engOf s 8).restartDue = true → exec .counterIncrementDone s = .next (fresh s) ∧ ∀ rb, exec (.pageCommitDone rb) s = .next (fresh s)) ∧
  (∀ s c v, Runs s → (engOf s 8).restartDue = false → s.fer.incr = some c → ctrRead s c = some v → v < 2 ^ 64 - 1 → ∃ t, exec .counterIncrementDone s = .next t ∧
    t = { fresh s with fer := { s.fer with incr := none, counters := t.fer.counters } } ∧ ctrRead t c = some (v + 1) ∧ ∀ d, d ≠ c → ctrRead t d = ctrRead s d) ∧
  (∀ s, patrols s → s.fer.patrol < 1919 → free s.fer.patrol s → calm (metaOf s s.fer.patrol) →
    exec .patrol s = .next { fresh s with fer := { s.fer with patrol := s.fer.patrol + 1 } }) ∧
  (∀ s c, patrols s → s.fer.patrol < 1919 → inFlight s = some c → c.isAcceptance = false → c.addr / 256 = s.fer.patrol →
    exec .patrol s = .next { fresh s with fer := { s.fer with patrol := s.fer.patrol + 1 } }) ∧
  (∀ s, patrols s → s.fer.patrol < 1919 → free s.fer.patrol s → (metaOf s s.fer.patrol).degraded = none →
    (metaOf s s.fer.patrol).c0.ok ≠ (metaOf s s.fer.patrol).c1.ok → ∃ t, exec .patrol s = .next t ∧
    LeavesEv { s with regs := t.regs, eng := t.eng, fer := { s.fer with patrol := s.fer.patrol + 1, pages := t.fer.pages } } t ∧
    (let g := (metaOf s s.fer.patrol).newest
     metaOf t s.fer.patrol = { page := s.fer.patrol, c0 := { gen := g, ok := true }, c1 := { gen := g, ok := true }, degraded := none }) ∧
    (∀ p, p ≠ s.fer.patrol → metaOf t p = metaOf s p) ∧ CountsOne 0x40090010 s t ∧ regBit t 0x40090008 1 = true ∧
    RegsBut ([0x40090008, 0x40090010, 0x4009001C] ++ lost) s t) ∧
  (∀ s, patrols s → s.fer.patrol < 1919 → free s.fer.patrol s → (metaOf s s.fer.patrol).readable = false → ∃ t, exec .patrol s = .next t ∧
    LeavesEv { s with regs := t.regs, eng := t.eng, fer := { s.fer with patrol := s.fer.patrol + 1 } } t ∧ CountsOne 0x40090014 s t ∧ regBit t 0x40090008 2 = true ∧
    RegsBut ([0x40090008, 0x40090014, 0x4009001C] ++ lost) s t) ∧
  (∀ s, patrols s → s.fer.patrol = 1919 → free 1919 s → calm (metaOf s 1919) → ∃ t, exec .patrol s = .next t ∧
    LeavesEv { s with regs := t.regs, eng := t.eng, fer := { s.fer with patrol := 0 } } t ∧ regBit t 0x40090008 6 = true ∧ RegsBut (0x40090008 :: lost) s t) ∧
  (∀ s, s.LinkInv → (running s = false ∨ s.fer.scan = none ∧ regBit s 0x40090000 0 = false) → exec .patrol s = .next (fresh s)) ∧
  (∀ s, Runs s → exec .scan s = .next { fresh s with fer := { s.fer with scan := some 0 } }) ∧
  (∀ s p, Runs s → s.fer.scan = some p → p < 1919 → free p s → calm (metaOf s p) → exec .patrol s = .next { fresh s with fer := { s.fer with scan := some (p + 1) } }) ∧
  (∀ s k d, s.LinkInv → (isOem k = false ∨ workRuns s = false ∨ s.fer.commits.any (·.kind == .oem k.val) = true ∨ (engOf s 0).inbox.find? (·.src == k.val) = none) →
    exec (.oemEvent k d) s = .next (fresh s) ∧ exec (.oemNvmWrite k d) s = .next (fresh s) ∧ exec (.rtcRead k) s = .next (fresh s)) ∧
  (∀ s k d m, request k m s → m.data = 1 :: d → (engOf s k).inbox.length < 4 → ∃ t, exec (.oemEvent k d) s = .next t ∧ taken k m [[0x81, 0]] s t ∧
    LeavesEv { s with eng := t.eng, regs := t.regs } t ∧ RegsBut lost s t ∧
    (regBit s 0x4001000C 10 = true → regFld s 0x40010000 2 2 = 0 → s.link.hcs0.outq = [] → s.link.hcs0.opn = [] → d.length ≤ 63 →
      eventPkt 0x50 0 ([byte k.val, 0] ++ le 2 d.length ++ d) ∈ t.link.hcs0.outq)) ∧
  (∀ s k m, request k m s → byteAt m.data 0 = 3 → (engOf s k).inbox.length < 4 → ∃ t, exec (.rtcRead k) s = .next t ∧
    taken k m [[0x83, 0] ++ le 4 (rtcField s).toNat] s t ∧ Leaves { s with eng := t.eng } t) ∧
  (∀ s k d m, request k m s → m.data = 2 :: d →
    let a := at_ d 0 4
    let b := d.drop 4
    b ≠ [] → oemPage s (a / 256) = true → (pagesOf a b.length).all (sameRun s (a / 256)) = true → ∃ t, exec (.oemNvmWrite k d) s = .next t ∧ taken k m [] s t ∧
    Leaves { s with eng := t.eng, fer := { s.fer with commits := s.fer.commits ++ pageCommits (.oem k.val) a b } } t) ∧
  (∀ s k d m, request k m s → m.data = 2 :: d → d.drop 4 ≠ [] → oemPage s (at_ d 0 4 / 256) = false → (engOf s k).inbox.length < 4 →
    ∃ t, exec (.oemNvmWrite k d) s = .next t ∧ taken k m [[0x82, stDenied]] s t ∧ Leaves { s with eng := t.eng } t)

/-- R409, R410, R604: a read by the host or E0–E8 clears an RC register and one by an OEM engine clears none; a write of the host keeps what its register does not
let it write, clears W1C bits, waits where the register takes effect with the reply, and is refused without an effect; a refused write of an engine sets WR_REJ
of its block. -/
def Obligations.RegisterSpace : Prop :=
  let plain := fun (a : Nat) => a % 4 = 0 ∧ blockOf a ≠ 0x0A ∧ blockOf a ≠ 0x0B
  (∀ s a r, awake s = true → plain a → regFind a = some r → r.kind = .rc → ∃ t, exec (.rcRegisterRead .host a) s = .next t ∧ regGet t a = 0 ∧ RegsBut [a] s t ∧
    Leaves { s with regs := t.regs } t) ∧
  (∀ s k a r, running s = true → k.val < 9 → plain a → regFind a = some r → r.kind = .rc → ∃ t, exec (.rcRegisterRead (.engine k) a) s = .next t ∧ regGet t a = 0 ∧
    RegsBut [a] s t ∧ Leaves { s with regs := t.regs } t) ∧
  (∀ s k a, s.LinkInv → isOem k = true → plain a → exec (.rcRegisterRead (.engine k) a) s = .next (fresh s)) ∧
  (∀ s r a, s.LinkInv → plain a → (∀ x, regFind a = some x → x.kind ≠ .rc) → exec (.rcRegisterRead r a) s = .next (fresh s)) ∧
  (∀ s a v r, awake s = true → plain a → (blockOf a = 6 ∨ blockOf a = 7) → regFind a = some r → r.kind = .rw → hostReach s a = none → hostValue s a v = none →
    ∃ t, exec (.registerWrite .host a v) s = .next t ∧ regGet t a = (regGet s a &&& ~~~(word r.w)) ||| (v &&& word r.w) ∧ RegsBut [a] s t ∧
      Leaves { s with regs := t.regs } t) ∧
  (∀ s a v r, awake s = true → plain a → (blockOf a = 6 ∨ blockOf a = 7 ∨ blockOf a = 9) → regFind a = some r → r.kind = .w1c → hostReach s a = none →
    hostValue s a v = none → ∃ t, exec (.registerWrite .host a v) s = .next t ∧ regGet t a = regGet s a &&& ~~~(v &&& word r.w) ∧ RegsBut [a] s t ∧
      Leaves { s with regs := t.regs } t) ∧
  (∀ s a v, awake s = true → [0x40010000, 0x40010010, 0x40010014].contains a = true → hostReach s a = none → hostValue s a v = none → s.LinkInv →
    exec (.registerWrite .host a v) s = .next { fresh s with link := { (fresh s).link with cfgPend := s.link.cfgPend ++ [(a, v, none)] } }) ∧
  (∀ s a v, s.LinkInv → (awake s = false ∨ hostReach s a ≠ none ∨ hostValue s a v ≠ none) → exec (.registerWrite .host a v) s = .next (fresh s)) ∧
  (∀ s k a v x i, running s = true → plain a → engReach k true a v = none → (regWritable a = false ∨ valueGood s a v = false) → wrRejOf a = some (x, i) →
    ∃ t, exec (.registerWrite (.engine k) a v) s = .next t ∧ regBit t x i = true ∧ RegsBut [x] s t ∧ Leaves { s with regs := t.regs, eng := t.eng } t) ∧
  (∀ s k a v, s.LinkInv → (running s = false ∨ engReach k true a v ≠ none) → exec (.registerWrite (.engine k) a v) s = .next (fresh s)) ∧
  (∀ s a v, s.LinkInv → regBit s 0x40010014 0 = false → exec (.registerWrite .v1 a v) s = .next (fresh s)) ∧
  (∀ s a v, s.LinkInv → s.ks.testRoot = false → exec (.registerWrite .debug a v) s = .next (fresh s))

/-! ### Engines -/

/-- R41, R412–R418, R420–R424, R431–R433: event entry; the watchdog's two expiries and its key; the restart after a fault reset; the run, Siesta and reset actions; SEND, POP and the microcode
port; each changes its engine, and nothing where it does not apply. -/
def Obligations.EngineEvents : Prop :=
  let only := fun (i : Instr) (k : Fin 12) (e : Engine) (s : State) => exec i s = .next { fresh s with eng := s.eng.set k e }
  let enters := fun (k : Fin 12) (s : State) => (engOf s k).state = .run ∧ wbit (engOf s k).st 6 = true ∧ engTm (engOf s k) = false ∧ engEvm (engOf s k) = false ∧
    (engOf s k).evtPend &&& engReg s k 0x34 ≠ 0
  let watched := fun (k : Fin 12) (s : State) => (engOf s k).state = .run ∧ wdPeriod s k ≠ 0 ∧ (engOf s k).wdtStage1 = false
  let dest := fun (k : Fin 12) (s : State) => fld (engReg s k 0x70).toNat 0 4
  let size := fun (k : Fin 12) (s : State) => fld (engReg s k 0x70).toNat 4 7
  let sent := fun (k : Fin 12) (r : Nat) (s t : State) => t = { fresh s with eng := t.eng } ∧ (engOf t k).txResult = r ∧ (engOf t k).lastDest = dest k s ∧
    wbit (engOf t k).evtPend 1 = true
  let boxes := fun (s t : State) => ∀ j, (engOf t j).inbox = (engOf s j).inbox ∧ (engOf t j).hostBox = (engOf s j).hostBox
  let reaches := fun (k : Fin 12) (s : State) => k.val < 9 ∨ dest k s = 0 ∨ 9 ≤ dest k s
  let settled := fun (s : State) => s.acc.triggers = [] ∧ s.acc.waiting = [] ∧ (∀ c ∈ s.cpl.units, c.state ≠ .handshake ∧ c.boundStale = false) ∧
    (s.jrn.internal.contains 3 = false ∨ s.sns.loc ≠ none ∨ 3 ≤ s.sns.locStage)
  (∀ s k, Runs s → enters k s → only (.eventEntry k) k
    (let e := engOf s k
     { e with epc := e.pc, est := e.st, st := (e.st ||| 0x100) &&& ~~~0x40, pc := 0x0012 }) s) ∧
  (∀ s k, s.LinkInv → (running s = false ∨ ¬ enters k s) → exec (.eventEntry k) s = .next (fresh s)) ∧
  (∀ s k, Runs s → watched k s → engTm (engOf s k) = false → ∃ t, exec (.wdtFirstExpiry k) s = .next t ∧ CountsOne 0x4010006C s t ∧ CountsOne (engAddr k 0x54) s t ∧
    RegsBut [0x4010006C, engAddr k 0x54] s t ∧
    t = { fresh s with regs := t.regs, eng := s.eng.set k (
      let e := engOf s k
      { e with wdtStage1 := true, tpc := e.pc, tst := e.st, tcause := 7, tval := 0, st := (e.st ||| 0x80) &&& ~~~0x40, pc := 0x000E }) }) ∧
  (∀ s k, Runs s → watched k s → engTm (engOf s k) = true → ∃ t, exec (.wdtFirstExpiry k) s = .next t ∧ CountsOne 0x4010006C s t ∧ RegsBut [0x4010006C] s t ∧
    t = { fresh s with regs := t.regs, eng := s.eng.set k { (engOf s k) with wdtStage1 := true, wdtHeld := true } }) ∧
  (∀ s k, s.LinkInv → ¬ watched k s → exec (.wdtFirstExpiry k) s = .next (fresh s)) ∧
  (∀ s k, Runs s → (engOf s k).state = .run → (engOf s k).wdtStage1 = true → (engOf s k).stores = [] → 1 ≤ k.val → (k.val < 9 ∨ regBit s (engAddr k 0) 3 = false) →
    ∃ t, exec (.wdtSecondExpiry k) s = .next t ∧ CountsOne 0x4010006C s t ∧ (engOf t k).state = (if k.val < 9 then .reset else .fault) ∧
      (engOf t k).restartDue = decide (k.val < 9) ∧ (engOf t k).pmem = (engOf s k).pmem ∧ (engOf t k).inbox = [] ∧ (engOf t k).scratch = [] ∧
      regFld t (engAddr k 0x54) 16 8 = min (regFld s (engAddr k 0x54) 16 8 + 1) 0xFF ∧ wbit (engOf t 0).evtPend 2 = true ∧ (settled s → t.ks = s.ks) ∧
      (s.acc.decision = none → s.acc.enrol = none → t.acc = s.acc) ∧
      (s.fer.commits = [] → (∀ w ∈ s.jrn.works ++ s.jrn.loose, w.state ≠ .running) → t.jrn = s.jrn) ∧
      (∀ d, s.acc.decision = some d → k.val < 6 → t.acc.decision = none ∧ (let kept := d.trig.works.filter (·.1.isSome)
        t.acc.triggers = (if hostTrigger d.trig = true ∧ kept = [] then [] else [{ d.trig with works := kept, v1 := false }]) ++ s.acc.triggers)) ∧
      (faultRecent 0x000E k.val s = false → (t.saf.faults.head?.map fun f => (f.detector, f.severity, f.unit)) = some (0x000E, if k.val < 9 then 2 else 4, k.val))) ∧
  (∀ s k w, Runs s → (engOf s k).state = .run → (engOf s k).wdtStage1 = true → (engOf s k).stores = [] → 1 ≤ k.val → k.val < 9 → s.fer.commits = [] → s.acc.decision = none →
    s.acc.triggers = [] → s.acc.waiting = [] → s.jrn.works = [w] → s.jrn.loose = [] → w.state = .running → w.parked = false → w.opcode ≠ 0x21 →
    (workEngines w.opcode.toNat).contains k.val = true → ∃ t, exec (.wdtSecondExpiry k) s = .next t ∧ t.jrn.works = [{ w with ready := none, parked := true }]) ∧
  (∀ s k, s.LinkInv → ((engOf s k).state ≠ .run ∨ (engOf s k).wdtStage1 = false) → exec (.wdtSecondExpiry k) s = .next (fresh s)) ∧
  (∀ s k, Runs s → settled s → (engOf s k).restartDue = true → 1 ≤ k.val → k.val < 9 →
    only (.engineRestart k) k { (engOf s k) with state := .run, pc := 0x0010, restartDue := false, pmemValid := true } s) ∧
  (∀ s, Runs s → settled s → (engOf s 0).restartDue = true → exec (.engineRestart 0) s = .next { fresh s with
    eng := s.eng.set 0 { (engOf s 0) with state := .run, pc := 0x0010, restartDue := false, pmemValid := true }
    link := { (fresh s).link with e0Restart := false } }) ∧
  (∀ s k e r, Runs s → (engOf s k).restartDue = true → 9 ≤ k.val → (engOf s k).autostart = some r → loadImage s (s.fer.regions.getD r .none) (engOf s k) = .ok e →
    only (.engineRestart k) k { e with state := .run, pc := 0x0010, restartDue := false } s) ∧
  (∀ s k, s.LinkInv → (engOf s k).restartDue = false → exec (.engineRestart k) s = .next (fresh s)) ∧
  (∀ s k, Runs s → (engOf s k).state = .reset → (engOf s k).pmemValid = true → only (.engineRunAction k) k { (engOf s k) with state := .run, pc := 0x0010 } s) ∧
  (∀ s k, Runs s → (engOf s k).state = .siesta → (engOf s k).forced = true → (engOf s k).waitMask = none →
    only (.engineRunAction k) k { (engOf s k) with state := .run, forced := false } s) ∧
  (∀ s k, s.LinkInv → ((engOf s k).state = .reset ∧ (engOf s k).pmemValid = false ∨ (engOf s k).state = .run ∨ (engOf s k).state = .fault) →
    exec (.engineRunAction k) s = .next (fresh s)) ∧
  (∀ s k, Runs s → (engOf s k).state = .run → only (.engineSiestaAction k) k { (engOf s k) with state := .siesta, forced := true } s) ∧
  (∀ s k, s.LinkInv → ((engOf s k).state = .reset ∨ (engOf s k).state = .fault) → exec (.engineSiestaAction k) s = .next (fresh s)) ∧
  (∀ s k, Runs s → 1 ≤ k.val → (engOf s k).stores = [] → ∃ t, exec (.engineResetAction k) s = .next t ∧ t = { fresh s with regs := t.regs, eng := t.eng } ∧
    (engOf t k).state = .reset ∧ (engOf t k).pc = 0x0010 ∧ (engOf t k).st = (if (engOf s k).mode12 then 0x200 else 0) ∧ (engOf t k).inbox = [] ∧ (engOf t k).evtPend = 0 ∧
    (engOf t k).scratch = [] ∧ (engOf t k).pmem = (engOf s k).pmem ∧ (engOf t k).pmemValid = (engOf s k).pmemValid ∧ (engOf t k).ucode = (engOf s k).ucode ∧
    (engOf t k).hostBox = (engOf s k).hostBox ∧ (∀ o ∈ pageResets, regGet t (engAddr k o) = regReset (engAddr k o)) ∧ RegsBut (pageResets.map (engAddr k)) s t) ∧
  (∀ s, Runs s → (engOf s 0).stores = [] → ∃ t, exec (.engineResetAction 0) s = .next t ∧ (engOf t 0).state = .reset ∧ (engOf t 0).restartDue = true ∧
    t.link.e0Restart = true ∧ t.acc.decision = none ∧ t.acc.triggers = [] ∧ t.acc.release.active = false ∧ t.acc.tokens = s.acc.tokens ∧
    ∀ w ∈ t.jrn.works, w.state ≠ .running) ∧
  (∀ s k v, Runs s → only (.wdkick k v) k (if wfld v 0 16 = 0x5A5A then { (engOf s k) with wdtStage1 := false, wdtHeld := false } else { (engOf s k) with wdkBad := true }) s) ∧
  (∀ s k, Runs s → size k s = 0 → ∃ t, exec (.send k) s = .next t ∧ sent k 0 s t ∧ boxes s t) ∧
  (∀ s k, Runs s → size k s ≠ 0 → ¬ reaches k s → ∃ t, exec (.send k) s = .next t ∧ sent k 3 s t ∧ boxes s t) ∧
  (∀ s k (j : Fin 12), Runs s → size k s ≠ 0 → reaches k s → dest k s = j.val → (engOf s j).inbox.length < 4 → ∃ t, exec (.send k) s = .next t ∧ sent k 1 s t ∧
    (engOf t j).inbox = (engOf s j).inbox ++ [{ src := k.val, data := stagedBytes s k (size k s) }] ∧ ∀ i, i ≠ j → (engOf t i).inbox = (engOf s i).inbox) ∧
  (∀ s k (j : Fin 12), Runs s → size k s ≠ 0 → reaches k s → dest k s = j.val → (engOf s j).inbox.length = 4 → ∃ t, exec (.send k) s = .next t ∧ sent k 2 s t ∧ boxes s t ∧
    (engOf t k).blocked.contains j.val = true) ∧
  (∀ s k, Runs s → size k s ≠ 0 → isOem k = true → dest k s = 12 → (engOf s k).hostBox.length < 4 → ∃ t, exec (.send k) s = .next t ∧ sent k 1 s t ∧
    (engOf t k).hostBox = (engOf s k).hostBox ++ [{ src := k.val, data := stagedBytes s k (size k s) }] ∧ ∀ i, (engOf t i).inbox = (engOf s i).inbox) ∧
  (∀ s k, s.LinkInv → (engOf s k).inbox = [] → exec (.mbxPop k) s = .next (fresh s)) ∧
  (∀ s k m l, Runs s → (engOf s k).inbox = m :: l → ∃ t, exec (.mbxPop k) s = .next t ∧ t = { fresh s with eng := t.eng } ∧ (engOf t k).inbox = l ∧
    (∀ j, j ≠ k → (engOf t j).inbox = (engOf s j).inbox) ∧ (l ≠ [] → wbit (engOf t k).evtPend 0 = true) ∧
    ∀ j, (engOf s j).blocked.contains k.val = true → (engOf t j).blocked.contains k.val = false ∧ wbit (engOf t j).evtPend 1 = true) ∧
  (∀ s k v, Runs s → isOem k = true → (engOf s k).state = .siesta → s.saf.inject = none →
    let i := wfld (engReg s k 0x130) 0 9
    ∃ t, exec (.ucLo k v) s = .next t ∧ t = { fresh s with regs := t.regs, eng := s.eng.set k { (engOf s k) with ucode := (engOf t k).ucode } } ∧
      ucOf (engOf t k) i = v.toNat + 2 ^ 32 * wfld (engReg s k 0x134) 0 8 ∧ (∀ j, j ≠ i → ucOf (engOf t k) j = ucOf (engOf s k) j) ∧
      regGet t (engAddr k 0x130) = word ((i + 1) % 512) ∧ RegsBut [engAddr k 0x130] s t) ∧
  (∀ s k v, s.LinkInv → (isOem k = false ∨ (engOf s k).state ≠ .siesta) → exec (.ucLo k v) s = .next (fresh s)) ∧
  (∀ s k v, s.LinkInv → running s = false → ∀ i ∈ [Instr.wdtFirstExpiry k, .wdtSecondExpiry k, .engineRestart k, .engineRunAction k, .engineSiestaAction k, .engineResetAction k, .wdkick k v,
    .send k, .mbxPop k, .ucLo k v], exec i s = .next (fresh s))

/-! ### Jorsol instructions -/

/-- R442, R450–R457, R463: MOV and MOVI, the two-operand operations, ADDI, the unary group, shifts, products, quotients and remainders, and the bit group: the value of Ga, the flags, and no other
register; DIV and REM by zero with DZE set take the DZ trap with DZ set and Ga kept. -/
def Obligations.ArithmeticInstructions : Prop :=
  let x := fun (o : EngOp) (a : Fin 16) (s : State) => gGet (engOf s o.k) a
  let y := fun (o : EngOp) (b : Src) (s : State) => srcVal (engOf s o.k) b
  let st := fun (o : EngOp) (s : State) => (engOf s o.k).st
  let n := fun (o : EngOp) (b : Src) (s : State) => (srcVal (engOf s o.k) b).toNat % 256
  let kept := fun (i : Instr) (o : EngOp) (a : Fin 16) (r : Word) (s : State) => Computes i o a r (wbit (st o s) 2) (wbit (st o s) 3) s
  let quot := fun (rem uns : Bool) (x y : Word) => if uns then (if rem then x % y else x / y) else if rem then x.srem y else x.sdiv y
  (∀ o s a b, Meets o (.mov a b) s → Loads (.mov o) o a (x o b s) s) ∧
  (∀ o s a w, Meets o (.movi a w) s → Loads (.movi o) o a w s) ∧
  (∀ o s a b, Meets o (.alu .add a b) s → Computes (.add o) o a (x o a s + y o b s) (decide (2 ^ 32 ≤ (x o a s).toNat + (y o b s).toNat))
    ((x o a s + y o b s).toInt != (x o a s).toInt + (y o b s).toInt) s) ∧
  (∀ o s a b, Meets o (.alu .adc a b) s →
    let c := b2n (wbit (st o s) 2)
    Computes (.adc o) o a (x o a s + y o b s + word c) (decide (2 ^ 32 ≤ (x o a s).toNat + (y o b s).toNat + c))
      ((x o a s + y o b s + word c).toInt != (x o a s).toInt + (y o b s).toInt + c) s) ∧
  (∀ o s a b, Meets o (.alu .sub a b) s → Computes (.sub o) o a (x o a s - y o b s) (decide ((y o b s).toNat ≤ (x o a s).toNat))
    ((x o a s - y o b s).toInt != (x o a s).toInt - (y o b s).toInt) s) ∧
  (∀ o s a b, Meets o (.alu .sbc a b) s →
    let c := 1 - b2n (wbit (st o s) 2)
    Computes (.sbc o) o a (x o a s - y o b s - word c) (decide ((y o b s).toNat + c ≤ (x o a s).toNat))
      ((x o a s - y o b s - word c).toInt != (x o a s).toInt - (y o b s).toInt - c) s) ∧
  (∀ o s a b, Meets o (.alu .and a b) s → kept (.and o) o a (x o a s &&& y o b s) s) ∧
  (∀ o s a b, Meets o (.alu .or a b) s → kept (.or o) o a (x o a s ||| y o b s) s) ∧
  (∀ o s a b, Meets o (.alu .xor a b) s → kept (.xor o) o a (x o a s ^^^ y o b s) s) ∧
  (∀ o s a b, Meets o (.alu .cmp a b) s → Compares (.cmp o) o (x o a s - y o b s) (decide ((y o b s).toNat ≤ (x o a s).toNat))
    ((x o a s - y o b s).toInt != (x o a s).toInt - (y o b s).toInt) s) ∧
  (∀ o s a b, Meets o (.alu .tst a b) s → Compares (.tst o) o (x o a s &&& y o b s) (wbit (st o s) 2) (wbit (st o s) 3) s) ∧
  (∀ o s a k, Meets o (.addi a k) s →
    let r := x o a s + BitVec.ofInt 32 k
    Computes (.addi o) o a r (decide (2 ^ 32 ≤ (x o a s).toNat + (BitVec.ofInt 32 k).toNat)) (r.toInt != (x o a s).toInt + (BitVec.ofInt 32 k).toInt) s) ∧
  (∀ o s a k, Meets o (.addi4 a k) s → Loads (.addi o) o a (x o a s + BitVec.ofInt 32 (4 * k)) s) ∧
  (∀ o s a, Meets o (.una .neg a) s → Computes (.neg o) o a (-x o a s) (x o a s != 0) (x o a s == 0x80000000) s) ∧
  (∀ o s a, Meets o (.una .not a) s → kept (.not o) o a (~~~x o a s) s) ∧
  (∀ o s a, Meets o (.una .abs a) s → Computes (.abs o) o a (if (x o a s).msb then -x o a s else x o a s) (wbit (st o s) 2) (x o a s == 0x80000000) s) ∧
  (∀ o s a, Meets o (.una .clz a) s → ∃ r, r ≤ 32 ∧ (∀ i < r, wbit (x o a s) (31 - i) = false) ∧ (r < 32 → wbit (x o a s) (31 - r) = true) ∧ kept (.clz o) o a (word r) s) ∧
  (∀ o s a b f mk, Meets o (.shift f a b) s → n o b s = 0 → ((f, mk) = (Shf.lsl, Instr.lsl) ∨ (f, mk) = (.lsr, .lsr) ∨ (f, mk) = (.asr, .asr) ∨ (f, mk) = (.ror, .ror)) →
    kept (mk o) o a (x o a s) s) ∧
  (∀ o s a b, Meets o (.shift .lsl a b) s → n o b s ≠ 0 → Computes (.lsl o) o a (x o a s <<< n o b s) (decide (n o b s ≤ 32) && wbit (x o a s) (32 - n o b s))
    (wbit (st o s) 3) s) ∧
  (∀ o s a b, Meets o (.shift .lsr a b) s → n o b s ≠ 0 → Computes (.lsr o) o a (x o a s >>> n o b s) (wbit (x o a s) (n o b s - 1)) (wbit (st o s) 3) s) ∧
  (∀ o s a b, Meets o (.shift .asr a b) s → n o b s ≠ 0 → Computes (.asr o) o a ((x o a s).sshiftRight (n o b s)) (wbit (x o a s) (min 31 (n o b s - 1)))
    (wbit (st o s) 3) s) ∧
  (∀ o s a b, Meets o (.shift .ror a b) s → n o b s ≠ 0 → Computes (.ror o) o a ((x o a s).rotateRight (n o b s)) ((x o a s).rotateRight (n o b s)).msb (wbit (st o s) 3) s) ∧
  (∀ o s a b, Meets o (.mul a b) s → kept (.mul o) o a (x o a s * x o b s) s) ∧
  (∀ o s a b, Meets o (.mulh false a b) s → kept (.mulh o) o a (BitVec.ofInt 32 ((x o a s).toInt * (x o b s).toInt / 2 ^ 32)) s) ∧
  (∀ o s a b, Meets o (.mulh true a b) s → kept (.mulhu o) o a (word ((x o a s).toNat * (x o b s).toNat / 2 ^ 32)) s) ∧
  (∀ o s rem uns a b, Meets o (.div rem uns a b) s → x o b s ≠ 0 → ¬ (uns = false ∧ x o a s = 0x80000000 ∧ x o b s = 0xFFFFFFFF) →
    Computes (if rem then .rem o else .div o) o a (quot rem uns (x o a s) (x o b s)) (wbit (st o s) 2) false s) ∧
  (∀ o s rem a b, Meets o (.div rem false a b) s → x o a s = 0x80000000 → x o b s = 0xFFFFFFFF →
    Computes (if rem then .rem o else .div o) o a (if rem then 0 else 0x80000000) (wbit (st o s) 2) true s) ∧
  (∀ o s rem uns a b, Meets o (.div rem uns a b) s → x o b s = 0 → (wbit (st o s) 5 = false ∨ (engOf s o.k).mode12 = true) →
    let r : Word := if rem then x o a s else if uns then 0xFFFFFFFF else if (x o a s).msb then 0x80000000 else 0x7FFFFFFF
    ∃ st', EngBecomes (if rem then .rem o else .div o) o { (engOf s o.k) with g := (engOf s o.k).g.set a r, st := st', pc := pcAfter o s } s ∧
      Flagged r (wbit (st o s) 2) false (st o s ||| 0x10) st') ∧
  (∀ o s rem uns a b, Meets o (.div rem uns a b) s → x o b s = 0 → wbit (st o s) 5 = true → (engOf s o.k).mode12 = false → engTm (engOf s o.k) = false →
    TakesTrap (if rem then .rem o else .div o) o 6 0 (o.ext.length + 1) 0 (x o a s) (engOf s o.k).pc (st o s ||| 0x10) s) ∧
  (∀ o s a k, Meets o (.bset a k) s → k < 32 → ∃ st', EngBecomes (.bset o) o { (engOf s o.k) with g := (engOf s o.k).g.set a (x o a s ||| word (2 ^ k)), st := st', pc := pcAfter o s } s ∧
    wbit st' 0 = !wbit (x o a s) k ∧ st' &&& ~~~1 = st o s &&& ~~~1) ∧
  (∀ o s a k, Meets o (.bclr a k) s → k < 32 → ∃ st', EngBecomes (.bclr o) o { (engOf s o.k) with g := (engOf s o.k).g.set a (x o a s &&& ~~~word (2 ^ k)), st := st', pc := pcAfter o s } s ∧
    wbit st' 0 = !wbit (x o a s) k ∧ st' &&& ~~~1 = st o s &&& ~~~1) ∧
  (∀ o s a k, Meets o (.btst a k) s → ∃ st', EngBecomes (.btst o) o { (engOf s o.k) with st := st', pc := pcAfter o s } s ∧ wbit st' 0 = (!wbit (x o a s) k) ∧
    st' &&& ~~~1 = st o s &&& ~~~1)

/-- R404, R405, R407, R408, R445, R458–R460, R466, R467, R469, R474: loads and stores of scratch and of shared SRAM, indexed ones, PUSH and POP, one element of a string instruction, and the bounds
checks; an access out of reach or out of line stops with its trap and changes nothing else. -/
def Obligations.MemoryInstructions : Prop :=
  let e := fun (o : EngOp) (s : State) => engOf s o.k
  let x := fun (o : EngOp) (a : Fin 16) (s : State) => gGet (engOf s o.k) a
  let near := fun (w : Word) (n : Nat) => w.toNat < 0x8000 ∧ w.toNat % n = 0
  let sram := fun (o : EngOp) (w : Word) (n : Nat) (s : State) => 0x10000000 ≤ w.toNat ∧ w.toNat < 0x10400000 ∧ w.toNat % n = 0 ∧ o.k.val < 9
  let size := fun (w : Width) => (w = ⟨1, false⟩ ∨ w = ⟨1, true⟩ ∨ w = ⟨2, false⟩ ∨ w = ⟨2, true⟩ ∨ w = ⟨4, false⟩)
  let ext := fun (w : Width) (v : Nat) => if w.sgn then (if w.size = 1 then (BitVec.ofNat 8 v).signExtend 32 else (BitVec.ofNat 16 v).signExtend 32) else word v
  let puts := fun (i : Instr) (o : EngOp) (a : Word) (n : Nat) (v : Word) (e' : Engine) (s : State) => EngBecomes i o { e' with scratch := memSet (e o s).scratch a.toNat (le n v.toNat), pc := pcAfter o s } s
  let idx := fun (o : EngOp) (b i : Fin 16) (w : Width) (u : Bool) (s : State) => x o b s + x o i s * (if u then 1 else word w.size)
  let bump := fun (i : Fin 16) (wb : Bool) (e : Engine) => if wb then { e with g := e.g.set i (gGet e i + 1) } else e
  let sp := fun (o : EngOp) (s : State) => if (e o s).mode12 then (7 : Fin 16) else 14
  let top := fun (o : EngOp) (s : State) => (x o (sp o s) s).toNat
  let one := fun (mk : EngOp → Option Nat → Instr) (o : EngOp) (e' : Engine) (s : State) =>
    EngBecomes (mk o (some 1)) o { e' with pc := if (e o s).rc = 1 then pcAfter o s else (e o s).pc } s
  let wd := fun (by_ : Bool) => if by_ then 1 else 4
  let cut := fun (by_ : Bool) (w : Word) => if by_ then w &&& 0xFF else w
  let at' := fun (o : EngOp) (w : Word) (by_ : Bool) (s : State) => scratchWord (e o s) w.toNat (wd by_)
  let str := fun (o : EngOp) (f : Str) (v : Fin 16) (by_ : Bool) (s : State) => Meets o (.str f v by_) s ∧ (e o s).rc ≠ 0
  (∀ o s d b w disp, Meets o (.ld d b w disp) s → size w → near (x o b s + disp) w.size →
    Loads (.ld o) o d (ext w (leNat (memGet (e o s).scratch (x o b s + disp).toNat w.size))) s) ∧
  (∀ o s d b w disp, Meets o (.ld d b w disp) s → size w → sram o (x o b s + disp) w.size s → (e o s).stores = [] →
    Loads (.ld o) o d (ext w (leNat (memGet s.sram (x o b s + disp).toNat w.size))) s) ∧
  (∀ o s d b w disp, Meets o (.st d b w disp) s → size w → near (x o b s + disp) w.size → puts (.st o) o (x o b s + disp) w.size (x o d s) (e o s) s) ∧
  (∀ o s d b w disp, Meets o (.st d b w disp) s → size w → sram o (x o b s + disp) w.size s → (e o s).stores.length < 4 → EngBecomes (.st o) o { (e o s) with
    stores := (e o s).stores ++ [{ addr := (x o b s + disp).toNat, size := w.size, value := x o d s }], pc := pcAfter o s } s) ∧
  (∀ o s d b i w u wb, Meets o (.ldx d b i w u wb) s → size w → near (idx o b i w u s) w.size →
    let r := ext w (leNat (memGet (e o s).scratch (idx o b i w u s).toNat w.size))
    EngBecomes (.ldx o) o (let f := bump i wb (e o s)
                           { f with g := f.g.set d r, pc := pcAfter o s }) s) ∧
  (∀ o s d b i w u wb, Meets o (.stx d b i w u wb) s → size w → near (idx o b i w u s) w.size → puts (.stx o) o (idx o b i w u s) w.size (x o d s) (bump i wb (e o s)) s) ∧
  (∀ o s d b w disp c, Meets o (.ld d b w disp) s → engTm (e o s) = false → accessFault o.k false (x o b s + disp).toNat w.size 0 s = some c →
    Stops (.ld o) o c.1 c.2 (x o b s + disp) s) ∧
  (∀ o s d b w disp c, Meets o (.st d b w disp) s → engTm (e o s) = false → accessFault o.k true (x o b s + disp).toNat w.size (x o d s) s = some c →
    Stops (.st o) o c.1 c.2 (x o b s + disp) s) ∧
  (∀ o s a b, Meets o (.push a b) s → a ≤ b →
    let n := b.val - a.val + 1
    top o s % 4 = 0 → 4 * n ≤ top o s → top o s ≤ 0x8000 →
    ∃ m, EngBecomes (.push o) o { (e o s) with g := (e o s).g.set (sp o s) (word (top o s - 4 * n)), scratch := m, pc := pcAfter o s } s ∧
      (∀ i : Fin 16, a ≤ i → i ≤ b → leNat (memGet m (top o s - 4 * (b.val - i.val + 1)) 4) = (x o i s).toNat) ∧
      ∀ c, (c < top o s - 4 * n ∨ top o s ≤ c) → memGet m c 1 = memGet (e o s).scratch c 1) ∧
  (∀ o s a b, Meets o (.pop a b) s → a ≤ b →
    let n := b.val - a.val + 1
    top o s % 4 = 0 → top o s + 4 * n ≤ 0x8000 →
    ∃ g, EngBecomes (.pop o) o { (e o s) with g := g, pc := pcAfter o s } s ∧ g[sp o s] = word (top o s + 4 * n) ∧
      (∀ i : Fin 16, i ≠ sp o s → g[i] = if a ≤ i ∧ i ≤ b then scratchWord (e o s) (top o s + 4 * (i.val - a.val)) 4 else x o i s)) ∧
  (∀ o s f v by_ upto mk, Meets o (.str f v by_) s → (e o s).rc = 0 →
    ((f, mk) = (Str.movs, Instr.movs) ∨ (f, mk) = (.fills, .fills) ∨ (f, mk) = (.cmps, .cmps) ∨ (f, mk) = (.scans, .scans) ∨ (f, mk) = (.crcs, .crcs)) →
    EngBecomes (mk o upto) o { (e o s) with pc := pcAfter o s } s) ∧
  (∀ o s v by_, str o .movs v by_ s → near (e o s).sa (wd by_) → near (e o s).da (wd by_) →
    one .movs o { (e o s) with scratch := memSet (e o s).scratch (e o s).da.toNat (memGet (e o s).scratch (e o s).sa.toNat (wd by_)),
                               sa := (e o s).sa + (e o s).sd, da := (e o s).da + (e o s).sd, rc := (e o s).rc - 1 } s) ∧
  (∀ o s v by_, str o .fills v by_ s → near (e o s).da (wd by_) →
    one .fills o { (e o s) with scratch := memSet (e o s).scratch (e o s).da.toNat (le (wd by_) (x o v s).toNat),
                                da := (e o s).da + (e o s).sd, rc := (e o s).rc - 1 } s) ∧
  (∀ o s v by_, str o .cmps v by_ s → near (e o s).sa (wd by_) → near (e o s).da (wd by_) → at' o (e o s).sa by_ s = at' o (e o s).da by_ s →
    ∃ st, one .cmps o { (e o s) with sa := (e o s).sa + (e o s).sd, da := (e o s).da + (e o s).sd, rc := (e o s).rc - 1, st := st } s ∧
      (if (e o s).rc = 1 then Flagged 0 true false (e o s).st st else st = (e o s).st)) ∧
  (∀ o s v by_, str o .cmps v by_ s → near (e o s).sa (wd by_) → near (e o s).da (wd by_) → at' o (e o s).sa by_ s ≠ at' o (e o s).da by_ s →
    let p := at' o (e o s).sa by_ s
    let q := at' o (e o s).da by_ s
    Compares (.cmps o (some 1)) o (p - q) (decide (q.toNat ≤ p.toNat)) ((p - q).toInt != p.toInt - q.toInt) s) ∧
  (∀ o s v by_, str o .scans v by_ s → near (e o s).sa (wd by_) → at' o (e o s).sa by_ s = cut by_ (x o v s) →
    EngBecomes (.scans o (some 1)) o { (e o s) with st := (e o s).st ||| 1, pc := pcAfter o s } s) ∧
  (∀ o s v by_, str o .scans v by_ s → near (e o s).sa (wd by_) → at' o (e o s).sa by_ s ≠ cut by_ (x o v s) →
    one .scans o { (e o s) with sa := (e o s).sa + (e o s).sd, rc := (e o s).rc - 1, st := if (e o s).rc = 1 then (e o s).st &&& ~~~1 else (e o s).st } s) ∧
  (∀ o s v by_, str o .crcs v by_ s → near (e o s).sa (wd by_) →
    one .crcs o { (e o s) with g := (e o s).g.set v (word (crc32cRun (x o v s).toNat (memGet (e o s).scratch (e o s).sa.toNat (wd by_)))),
                               sa := (e o s).sa + (e o s).sd, rc := (e o s).rc - 1 } s) ∧
  (∀ o s b, Meets o (.chku b) s → (e o s).blo ≤ x o b s → x o b s ≤ (e o s).bhi → EngBecomes (.chku o) o { (e o s) with pc := pcAfter o s } s) ∧
  (∀ o s b, Meets o (.chku b) s → engTm (e o s) = false → (x o b s < (e o s).blo ∨ (e o s).bhi < x o b s) → Stops (.chku o) o 2 0 (x o b s) s) ∧
  (∀ o s b, Meets o (.chks b) s → (e o s).blo.sle (x o b s) = true → (x o b s).sle (e o s).bhi = true → EngBecomes (.chks o) o { (e o s) with pc := pcAfter o s } s) ∧
  (∀ o s b, Meets o (.chks b) s → engTm (e o s) = false → ((x o b s).slt (e o s).blo = true ∨ (e o s).bhi.slt (x o b s) = true) → Stops (.chks o) o 2 1 (x o b s) s) ∧
  (∀ o s a b, Meets o (.chklen a b) s → (x o b s = 0 ∨ ((e o s).blo ≤ x o a s ∧ (x o a s).toNat + (x o b s).toNat - 1 ≤ (e o s).bhi.toNat)) →
    EngBecomes (.chklen o) o { (e o s) with pc := pcAfter o s } s) ∧
  (∀ o s a b, Meets o (.chklen a b) s → engTm (e o s) = false → x o b s ≠ 0 → (x o a s < (e o s).blo ∨ (e o s).bhi.toNat < (x o a s).toNat + (x o b s).toNat - 1) →
    Stops (.chklen o) o 2 2 (x o a s) s)

/-- R402, R407, R413, R414, R416, R419, R440, R441, R444, R448, R449, R461, R462, R464, R465, R470–R472, R474: NOP, SIESTA and WAIT, TRAP, RETI, FENCE and SYNC, moves of special registers, branches,
jumps, calls and returns, signals and event bits, the crypto port, customer instructions of one micro-operation; words that are no instruction and a fetch outside program memory
take their traps. -/
def Obligations.ControlInstructions : Prop :=
  let e := fun (o : EngOp) (s : State) => engOf s o.k
  let x := fun (o : EngOp) (a : Fin 16) (s : State) => gGet (engOf s o.k) a
  let moves := fun (i : Instr) (o : EngOp) (s : State) => EngBecomes i o { (engOf s o.k) with pc := pcAfter o s } s
  let goes := fun (i : Instr) (o : EngOp) (t : Word) (s : State) => EngBecomes i o { (engOf s o.k) with pc := BitVec.ofNat 16 t.toNat } s
  let waits := fun (i : Instr) (o : EngOp) (mask : Word) (s : State) =>
    if mask = 0 ∨ (e o s).evtPend &&& mask ≠ 0 then moves i o s
    else EngBecomes i o { (e o s) with pc := pcAfter o s, state := .siesta, waitMask := some mask } s
  let back := fun (m12 : Bool) (saved : Word) => (saved &&& 0x1FF) ||| (if m12 then 0x200 else 0)
  let target := fun (o : EngOp) (t : Src) (s : State) => srcVal (e o s) t
  let fault := fun (o : EngOp) (s : State) => running s = true ∧ s.LinkInv ∧ (e o s).state = .run ∧ engTm (e o s) = false
  let entry := fun (o : EngOp) (n start : Nat) (s : State) => ucOf (e o s) n = 2 ^ 39 + start ∧ 16 ≤ start ∧ start < 512
  let args := fun (r : Fin 16) (gs : Option (Fin 16)) (ximm : Nat) (v : Bool) => ({ r := r, gs := gs, ximm := ximm, v := v } : UcArgs)
  let first := fun (o : EngOp) (s : State) => ({ temps := List.replicate 8 0, regs := [], stores := [], st := (e o s).st } : UcRun)
  let a := fun (o : EngOp) (u : UcArgs) (m lo : Nat) (s : State) => ucSrc (e o s) u (word (wrap 32 (signed 20 (fld m 0 20)))) (first o s) (fld m lo 4)
  (∀ o s, Meets o .nop s → moves (.nopInstruction o) o s) ∧
  (∀ o s, Meets o .siesta s → waits (.siesta o) o (engReg s o.k 0x34) s) ∧
  (∀ o s b, Meets o (.wait b) s → waits (.wait o) o (x o b s) s) ∧
  (∀ o s n, Meets o (.trap n) s → engTm (e o s) = false → TakesTrap (.trap o) o 8 n 0 0 0 ((e o s).pc + 1) (e o s).st s) ∧
  (∀ o s, Meets o .reti s → engTm (e o s) = true → EngBecomes (.reti o) o { (e o s) with pc := (e o s).tpc, st := back (e o s).mode12 (e o s).tst } s) ∧
  (∀ o s, Meets o .reti s → engTm (e o s) = false → engEvm (e o s) = true → EngBecomes (.reti o) o { (e o s) with pc := (e o s).epc, st := back (e o s).mode12 (e o s).est } s) ∧
  (∀ o s, Meets o .reti s → engTm (e o s) = false → engEvm (e o s) = false → Stops (.reti o) o 0 0 (word (o.w.toNat % 2 ^ 14)) s) ∧
  (∀ o s, Meets o .fence s → (e o s).stores = [] → moves (.fence o) o s) ∧
  (∀ o s, Meets o .sync s → (e o s).stores = [] → moves (.sync o) o s) ∧
  (∀ o s i, ((Meets o .sync s ∧ i = .sync o) ∨ (Meets o .fence s ∧ i = .fence o)) → (∀ c ∈ (e o s).stores, c.addr < 0x20000000) → exec i s = .next { fresh s with
    sram := (e o s).stores.foldl (fun m c => memSet m c.addr (le c.size c.value.toNat)) s.sram, eng := s.eng.set o.k { (e o s) with stores := [], pc := pcAfter o s } }) ∧
  (∀ o s b, Meets o (.mfs 0 b) s → Loads (.mfs o) o b (e o s).st s) ∧ (∀ o s b, Meets o (.mfs 1 b) s → Loads (.mfs o) o b (e o s).sa s) ∧
  (∀ o s b, Meets o (.mfs 2 b) s → Loads (.mfs o) o b (e o s).da s) ∧ (∀ o s b, Meets o (.mfs 3 b) s → Loads (.mfs o) o b (e o s).rc s) ∧
  (∀ o s b, Meets o (.mfs 4 b) s → Loads (.mfs o) o b (e o s).sd s) ∧ (∀ o s b, Meets o (.mfs 5 b) s → Loads (.mfs o) o b (e o s).blo s) ∧
  (∀ o s b, Meets o (.mfs 6 b) s → Loads (.mfs o) o b (e o s).bhi s) ∧
  (∀ o s b, Meets o (.mts 0 b) s → (e o s).mode12 = false →
    EngBecomes (.mts o) o { (e o s) with st := ((e o s).st &&& ~~~0x7F) ||| (x o b s &&& 0x7F), pc := pcAfter o s } s) ∧
  (∀ o s b, Meets o (.mts 1 b) s → EngBecomes (.mts o) o { (e o s) with sa := x o b s, pc := pcAfter o s } s) ∧
  (∀ o s b, Meets o (.mts 2 b) s → EngBecomes (.mts o) o { (e o s) with da := x o b s, pc := pcAfter o s } s) ∧
  (∀ o s b, Meets o (.mts 3 b) s → EngBecomes (.mts o) o { (e o s) with rc := x o b s, pc := pcAfter o s } s) ∧
  (∀ o s b, Meets o (.mts 4 b) s → EngBecomes (.mts o) o { (e o s) with sd := x o b s, pc := pcAfter o s } s) ∧
  (∀ o s b, Meets o (.mts 5 b) s → EngBecomes (.mts o) o { (e o s) with blo := x o b s, pc := pcAfter o s } s) ∧
  (∀ o s b, Meets o (.mts 6 b) s → EngBecomes (.mts o) o { (e o s) with bhi := x o b s, pc := pcAfter o s } s) ∧
  (∀ o s b, Meets o (.stMove false b) s → Loads (.stMove o) o b (e o s).st s) ∧
  (∀ o s b, Meets o (.stMove true b) s → (e o s).mode12 = true →
    EngBecomes (.stMove o) o { (e o s) with st := ((e o s).st &&& ~~~0x5F) ||| (x o b s &&& 0x5F), pc := pcAfter o s } s) ∧
  (∀ o s c disp, Meets o (.bcc c disp) s → condTrue c (e o s).st = true → EngBecomes (.bcc o) o { (e o s) with pc := (e o s).pc + disp.truncate 16 } s) ∧
  (∀ o s c disp, Meets o (.bcc c disp) s → condTrue c (e o s).st = false → moves (.bcc o) o s) ∧
  (∀ o s t, Meets o (.jmp t) s → goes (.jmp o) o (target o t s) s) ∧
  (∀ o s t, Meets o (.call t) s → (e o s).mode12 = false → EngBecomes (.call o) o { (e o s) with
    g := (e o s).g.set 15 (word (pcAfter o s).toNat), pc := BitVec.ofNat 16 (target o t s).toNat } s) ∧
  (∀ o s t, Meets o (.call t) s → (e o s).mode12 = true → 4 ≤ (x o 7 s).toNat → (x o 7 s).toNat ≤ 0x8000 → (x o 7 s).toNat % 4 = 0 → EngBecomes (.call o) o { (e o s) with
    g := (e o s).g.set 7 (x o 7 s - 4), scratch := memSet (e o s).scratch ((x o 7 s).toNat - 4) (le 4 (pcAfter o s).toNat), pc := BitVec.ofNat 16 (target o t s).toNat } s) ∧
  (∀ o s, Meets o .ret s → (x o 7 s).toNat < 0x8000 → (x o 7 s).toNat % 4 = 0 → EngBecomes (.ret o) o { (e o s) with
    g := (e o s).g.set 7 (x o 7 s + 4), pc := BitVec.ofNat 16 (scratchWord (e o s) (x o 7 s).toNat 4).toNat } s) ∧
  (∀ o s b (j : Fin 12), Meets o (.signal b) s → (x o b s).toNat % 16 = j.val → j ≠ o.k → (o.k.val < 9 ∨ j = 0 ∨ 9 ≤ j.val) → exec (.signal o) s = .next { fresh s with
    eng := (s.eng.set o.k { (e o s) with pc := pcAfter o s }).set j (wakeEng { (engOf s j) with evtPend := (engOf s j).evtPend ||| 4 }) }) ∧
  (∀ o s b, Meets o (.signal b) s → (x o b s).toNat % 16 = o.k.val → ∃ t, exec (.signal o) s = .next t ∧ (engOf t o.k).evtPend = (e o s).evtPend ||| 4 ∧ (engOf t o.k).pc = pcAfter o s) ∧
  (∀ o s b, Meets o (.signal b) s → engTm (e o s) = false → (11 < (x o b s).toNat % 16 ∨ 9 ≤ o.k.val ∧ 1 ≤ (x o b s).toNat % 16 ∧ (x o b s).toNat % 16 ≤ 8) →
    Stops (.signal o) o 4 1 (word ((x o b s).toNat % 16)) s) ∧
  (∀ o s b, Meets o (.evclr b) s → EngBecomes (.evclr o) o { (e o s) with evtPend := (e o s).evtPend &&& ~~~x o b s, pc := pcAfter o s } s) ∧
  (∀ o s b, Meets o (.evrd b) s → Loads (.evrd o) o b (e o s).evtPend s) ∧
  (∀ o s b, Meets o (.cryi b) s → o.k = 5 → s.cry.queue.length < 8 → exec (.cryi o) s = .next { fresh s with
    eng := s.eng.set 5 { (e o s) with pc := pcAfter o s }, cry := { s.cry with queue := s.cry.queue ++ [x o b s] } }) ∧
  (∀ o s b, Meets o (.cryi b) s → engTm (e o s) = false → o.k ≠ 5 → Stops (.cryi o) o 4 1 0 s) ∧
  (∀ o s c, Meets o (.crys c) s → o.k = 5 → Loads (.crys o) o c (regShow s 0x40110004) s) ∧
  (∀ o s c, Meets o (.crys c) s → engTm (e o s) = false → o.k ≠ 5 → Stops (.crys o) o 4 1 0 s) ∧
  (∀ o s n r v gs xi start, Meets o (.ud n r v gs xi) s → entry o n start s → fld (ucOf (e o s) start) 36 4 = 5 → fld (ucOf (e o s) start) 32 4 = 0 → moves (.udn o) o s) ∧
  (∀ o s n r v gs xi start, Meets o (.ud n r v gs xi) s → entry o n start s →
    let m := ucOf (e o s) start
    fld m 36 4 = 0 → fld m 28 4 = 8 → Loads (.udn o) o r (ucAlu (fld m 32 4) (a o (args r gs xi v) m 24 s) (a o (args r gs xi v) m 20 s)) s) ∧
  (∀ o s n r v gs xi, Meets o (.ud n r v gs xi) s → engTm (e o s) = false → udValid (ucOf (e o s) n) = false → Stops (.udn o) o 0 0 (word (o.w.toNat % 2 ^ 14)) s) ∧
  (∀ o s f, fault o s → fetchOut o s = none → opAtPc o s = true → o.fetch = .clean → s.saf.inject = none → engDecode (decCtx s o.k) o.ext o.w = .error f →
    TakesTrap (.und o) o (if f.1 then 0 else 1) 0 (min 3 (o.ext.length + 1)) 0 f.2 (e o s).pc (e o s).st s) ∧
  (∀ o s, fault o s → 0xC000 ≤ (e o s).pc.toNat → TakesTrap (.und o) o 4 0 1 3 (word (e o s).pc.toNat) (e o s).pc (e o s).st s) ∧
  (∀ o s w, fault o s → fetchOut o s = some w → TakesTrap (.und o) o 4 0 1 3 (word w) (e o s).pc (e o s).st s) ∧
  (∀ o s op, Meets o op s → exec (.und o) s = .next (fresh s))
end

