-- ==== Sys2Proof/Laws/Blocks.lean ====
section
/-! SUPPORT. Laws. What the updates of one block leave alone, and what they make of their own field: one lemma per field and update. -/
namespace Sys2Proof.Machine

@[simp] theorem modPow_pending (f : Power → Power) (s : State) : (modPow f s).pending = s.pending := rfl
@[simp] theorem modPow_emit (f : Power → Power) (s : State) : (modPow f s).emit = s.emit := rfl
@[simp] theorem modPow_drawn (f : Power → Power) (s : State) : (modPow f s).drawn = s.drawn := rfl
@[simp] theorem modPow_regs (f : Power → Power) (s : State) : (modPow f s).regs = s.regs := rfl
@[simp] theorem modPow_sram (f : Power → Power) (s : State) : (modPow f s).sram = s.sram := rfl
@[simp] theorem modPow_power (f : Power → Power) (s : State) : (modPow f s).power = f s.power := rfl
@[simp] theorem modPow_pins (f : Power → Power) (s : State) : (modPow f s).pins = s.pins := rfl
@[simp] theorem modPow_link (f : Power → Power) (s : State) : (modPow f s).link = s.link := rfl
@[simp] theorem modPow_jrn (f : Power → Power) (s : State) : (modPow f s).jrn = s.jrn := rfl
@[simp] theorem modPow_fer (f : Power → Power) (s : State) : (modPow f s).fer = s.fer := rfl
@[simp] theorem modPow_cfg (f : Power → Power) (s : State) : (modPow f s).cfg = s.cfg := rfl
@[simp] theorem modPow_ks (f : Power → Power) (s : State) : (modPow f s).ks = s.ks := rfl
@[simp] theorem modPow_cry (f : Power → Power) (s : State) : (modPow f s).cry = s.cry := rfl
@[simp] theorem modPow_acc (f : Power → Power) (s : State) : (modPow f s).acc = s.acc := rfl
@[simp] theorem modPow_lf (f : Power → Power) (s : State) : (modPow f s).lf = s.lf := rfl
@[simp] theorem modPow_rad (f : Power → Power) (s : State) : (modPow f s).rad = s.rad := rfl
@[simp] theorem modPow_rng (f : Power → Power) (s : State) : (modPow f s).rng = s.rng := rfl
@[simp] theorem modPow_cpl (f : Power → Power) (s : State) : (modPow f s).cpl = s.cpl := rfl
@[simp] theorem modPow_sns (f : Power → Power) (s : State) : (modPow f s).sns = s.sns := rfl
@[simp] theorem modPow_eng (f : Power → Power) (s : State) : (modPow f s).eng = s.eng := rfl
@[simp] theorem modPow_tmb (f : Power → Power) (s : State) : (modPow f s).tmb = s.tmb := rfl
@[simp] theorem modPow_bus (f : Power → Power) (s : State) : (modPow f s).bus = s.bus := rfl
@[simp] theorem modPow_saf (f : Power → Power) (s : State) : (modPow f s).saf = s.saf := rfl

@[simp] theorem modAcc_pending (f : Access → Access) (s : State) : (modAcc f s).pending = s.pending := rfl
@[simp] theorem modAcc_emit (f : Access → Access) (s : State) : (modAcc f s).emit = s.emit := rfl
@[simp] theorem modAcc_drawn (f : Access → Access) (s : State) : (modAcc f s).drawn = s.drawn := rfl
@[simp] theorem modAcc_regs (f : Access → Access) (s : State) : (modAcc f s).regs = s.regs := rfl
@[simp] theorem modAcc_sram (f : Access → Access) (s : State) : (modAcc f s).sram = s.sram := rfl
@[simp] theorem modAcc_power (f : Access → Access) (s : State) : (modAcc f s).power = s.power := rfl
@[simp] theorem modAcc_pins (f : Access → Access) (s : State) : (modAcc f s).pins = s.pins := rfl
@[simp] theorem modAcc_link (f : Access → Access) (s : State) : (modAcc f s).link = s.link := rfl
@[simp] theorem modAcc_jrn (f : Access → Access) (s : State) : (modAcc f s).jrn = s.jrn := rfl
@[simp] theorem modAcc_fer (f : Access → Access) (s : State) : (modAcc f s).fer = s.fer := rfl
@[simp] theorem modAcc_cfg (f : Access → Access) (s : State) : (modAcc f s).cfg = s.cfg := rfl
@[simp] theorem modAcc_ks (f : Access → Access) (s : State) : (modAcc f s).ks = s.ks := rfl
@[simp] theorem modAcc_cry (f : Access → Access) (s : State) : (modAcc f s).cry = s.cry := rfl
@[simp] theorem modAcc_acc (f : Access → Access) (s : State) : (modAcc f s).acc = f s.acc := rfl
@[simp] theorem modAcc_lf (f : Access → Access) (s : State) : (modAcc f s).lf = s.lf := rfl
@[simp] theorem modAcc_rad (f : Access → Access) (s : State) : (modAcc f s).rad = s.rad := rfl
@[simp] theorem modAcc_rng (f : Access → Access) (s : State) : (modAcc f s).rng = s.rng := rfl
@[simp] theorem modAcc_cpl (f : Access → Access) (s : State) : (modAcc f s).cpl = s.cpl := rfl
@[simp] theorem modAcc_sns (f : Access → Access) (s : State) : (modAcc f s).sns = s.sns := rfl
@[simp] theorem modAcc_eng (f : Access → Access) (s : State) : (modAcc f s).eng = s.eng := rfl
@[simp] theorem modAcc_tmb (f : Access → Access) (s : State) : (modAcc f s).tmb = s.tmb := rfl
@[simp] theorem modAcc_bus (f : Access → Access) (s : State) : (modAcc f s).bus = s.bus := rfl
@[simp] theorem modAcc_saf (f : Access → Access) (s : State) : (modAcc f s).saf = s.saf := rfl

@[simp] theorem modRad_pending (f : Radio → Radio) (s : State) : (modRad f s).pending = s.pending := rfl
@[simp] theorem modRad_emit (f : Radio → Radio) (s : State) : (modRad f s).emit = s.emit := rfl
@[simp] theorem modRad_drawn (f : Radio → Radio) (s : State) : (modRad f s).drawn = s.drawn := rfl
@[simp] theorem modRad_regs (f : Radio → Radio) (s : State) : (modRad f s).regs = s.regs := rfl
@[simp] theorem modRad_sram (f : Radio → Radio) (s : State) : (modRad f s).sram = s.sram := rfl
@[simp] theorem modRad_power (f : Radio → Radio) (s : State) : (modRad f s).power = s.power := rfl
@[simp] theorem modRad_pins (f : Radio → Radio) (s : State) : (modRad f s).pins = s.pins := rfl
@[simp] theorem modRad_link (f : Radio → Radio) (s : State) : (modRad f s).link = s.link := rfl
@[simp] theorem modRad_jrn (f : Radio → Radio) (s : State) : (modRad f s).jrn = s.jrn := rfl
@[simp] theorem modRad_fer (f : Radio → Radio) (s : State) : (modRad f s).fer = s.fer := rfl
@[simp] theorem modRad_cfg (f : Radio → Radio) (s : State) : (modRad f s).cfg = s.cfg := rfl
@[simp] theorem modRad_ks (f : Radio → Radio) (s : State) : (modRad f s).ks = s.ks := rfl
@[simp] theorem modRad_cry (f : Radio → Radio) (s : State) : (modRad f s).cry = s.cry := rfl
@[simp] theorem modRad_acc (f : Radio → Radio) (s : State) : (modRad f s).acc = s.acc := rfl
@[simp] theorem modRad_lf (f : Radio → Radio) (s : State) : (modRad f s).lf = s.lf := rfl
@[simp] theorem modRad_rad (f : Radio → Radio) (s : State) : (modRad f s).rad = f s.rad := rfl
@[simp] theorem modRad_rng (f : Radio → Radio) (s : State) : (modRad f s).rng = s.rng := rfl
@[simp] theorem modRad_cpl (f : Radio → Radio) (s : State) : (modRad f s).cpl = s.cpl := rfl
@[simp] theorem modRad_sns (f : Radio → Radio) (s : State) : (modRad f s).sns = s.sns := rfl
@[simp] theorem modRad_eng (f : Radio → Radio) (s : State) : (modRad f s).eng = s.eng := rfl
@[simp] theorem modRad_tmb (f : Radio → Radio) (s : State) : (modRad f s).tmb = s.tmb := rfl
@[simp] theorem modRad_bus (f : Radio → Radio) (s : State) : (modRad f s).bus = s.bus := rfl
@[simp] theorem modRad_saf (f : Radio → Radio) (s : State) : (modRad f s).saf = s.saf := rfl

@[simp] theorem modRng_pending (f : Ranging → Ranging) (s : State) : (modRng f s).pending = s.pending := rfl
@[simp] theorem modRng_emit (f : Ranging → Ranging) (s : State) : (modRng f s).emit = s.emit := rfl
@[simp] theorem modRng_drawn (f : Ranging → Ranging) (s : State) : (modRng f s).drawn = s.drawn := rfl
@[simp] theorem modRng_regs (f : Ranging → Ranging) (s : State) : (modRng f s).regs = s.regs := rfl
@[simp] theorem modRng_sram (f : Ranging → Ranging) (s : State) : (modRng f s).sram = s.sram := rfl
@[simp] theorem modRng_power (f : Ranging → Ranging) (s : State) : (modRng f s).power = s.power := rfl
@[simp] theorem modRng_pins (f : Ranging → Ranging) (s : State) : (modRng f s).pins = s.pins := rfl
@[simp] theorem modRng_link (f : Ranging → Ranging) (s : State) : (modRng f s).link = s.link := rfl
@[simp] theorem modRng_jrn (f : Ranging → Ranging) (s : State) : (modRng f s).jrn = s.jrn := rfl
@[simp] theorem modRng_fer (f : Ranging → Ranging) (s : State) : (modRng f s).fer = s.fer := rfl
@[simp] theorem modRng_cfg (f : Ranging → Ranging) (s : State) : (modRng f s).cfg = s.cfg := rfl
@[simp] theorem modRng_ks (f : Ranging → Ranging) (s : State) : (modRng f s).ks = s.ks := rfl
@[simp] theorem modRng_cry (f : Ranging → Ranging) (s : State) : (modRng f s).cry = s.cry := rfl
@[simp] theorem modRng_acc (f : Ranging → Ranging) (s : State) : (modRng f s).acc = s.acc := rfl
@[simp] theorem modRng_lf (f : Ranging → Ranging) (s : State) : (modRng f s).lf = s.lf := rfl
@[simp] theorem modRng_rad (f : Ranging → Ranging) (s : State) : (modRng f s).rad = s.rad := rfl
@[simp] theorem modRng_rng (f : Ranging → Ranging) (s : State) : (modRng f s).rng = f s.rng := rfl
@[simp] theorem modRng_cpl (f : Ranging → Ranging) (s : State) : (modRng f s).cpl = s.cpl := rfl
@[simp] theorem modRng_sns (f : Ranging → Ranging) (s : State) : (modRng f s).sns = s.sns := rfl
@[simp] theorem modRng_eng (f : Ranging → Ranging) (s : State) : (modRng f s).eng = s.eng := rfl
@[simp] theorem modRng_tmb (f : Ranging → Ranging) (s : State) : (modRng f s).tmb = s.tmb := rfl
@[simp] theorem modRng_bus (f : Ranging → Ranging) (s : State) : (modRng f s).bus = s.bus := rfl
@[simp] theorem modRng_saf (f : Ranging → Ranging) (s : State) : (modRng f s).saf = s.saf := rfl

@[simp] theorem modSensing_pending (f : Sensing → Sensing) (s : State) : (modSensing f s).pending = s.pending := rfl
@[simp] theorem modSensing_emit (f : Sensing → Sensing) (s : State) : (modSensing f s).emit = s.emit := rfl
@[simp] theorem modSensing_drawn (f : Sensing → Sensing) (s : State) : (modSensing f s).drawn = s.drawn := rfl
@[simp] theorem modSensing_regs (f : Sensing → Sensing) (s : State) : (modSensing f s).regs = s.regs := rfl
@[simp] theorem modSensing_sram (f : Sensing → Sensing) (s : State) : (modSensing f s).sram = s.sram := rfl
@[simp] theorem modSensing_power (f : Sensing → Sensing) (s : State) : (modSensing f s).power = s.power := rfl
@[simp] theorem modSensing_pins (f : Sensing → Sensing) (s : State) : (modSensing f s).pins = s.pins := rfl
@[simp] theorem modSensing_link (f : Sensing → Sensing) (s : State) : (modSensing f s).link = s.link := rfl
@[simp] theorem modSensing_jrn (f : Sensing → Sensing) (s : State) : (modSensing f s).jrn = s.jrn := rfl
@[simp] theorem modSensing_fer (f : Sensing → Sensing) (s : State) : (modSensing f s).fer = s.fer := rfl
@[simp] theorem modSensing_cfg (f : Sensing → Sensing) (s : State) : (modSensing f s).cfg = s.cfg := rfl
@[simp] theorem modSensing_ks (f : Sensing → Sensing) (s : State) : (modSensing f s).ks = s.ks := rfl
@[simp] theorem modSensing_cry (f : Sensing → Sensing) (s : State) : (modSensing f s).cry = s.cry := rfl
@[simp] theorem modSensing_acc (f : Sensing → Sensing) (s : State) : (modSensing f s).acc = s.acc := rfl
@[simp] theorem modSensing_lf (f : Sensing → Sensing) (s : State) : (modSensing f s).lf = s.lf := rfl
@[simp] theorem modSensing_rad (f : Sensing → Sensing) (s : State) : (modSensing f s).rad = s.rad := rfl
@[simp] theorem modSensing_rng (f : Sensing → Sensing) (s : State) : (modSensing f s).rng = s.rng := rfl
@[simp] theorem modSensing_cpl (f : Sensing → Sensing) (s : State) : (modSensing f s).cpl = s.cpl := rfl
@[simp] theorem modSensing_sns (f : Sensing → Sensing) (s : State) : (modSensing f s).sns = f s.sns := rfl
@[simp] theorem modSensing_eng (f : Sensing → Sensing) (s : State) : (modSensing f s).eng = s.eng := rfl
@[simp] theorem modSensing_tmb (f : Sensing → Sensing) (s : State) : (modSensing f s).tmb = s.tmb := rfl
@[simp] theorem modSensing_bus (f : Sensing → Sensing) (s : State) : (modSensing f s).bus = s.bus := rfl
@[simp] theorem modSensing_saf (f : Sensing → Sensing) (s : State) : (modSensing f s).saf = s.saf := rfl

end Sys2Proof.Machine
end

