-- ==== Sys2Proof/Laws/State.lean ====
section
/-! SUPPORT. What each named update leaves alone: one lemma per field and update. -/
namespace Sys2Proof.Machine

/-! ### fresh -/

@[simp] theorem fresh_drawn (s : State) : (fresh s).drawn = s.drawn := rfl
@[simp] theorem fresh_regs (s : State) : (fresh s).regs = s.regs := rfl
@[simp] theorem fresh_sram (s : State) : (fresh s).sram = s.sram := rfl
@[simp] theorem fresh_power (s : State) : (fresh s).power = s.power := rfl
@[simp] theorem fresh_pins (s : State) : (fresh s).pins = s.pins := rfl
@[simp] theorem fresh_jrn (s : State) : (fresh s).jrn = s.jrn := rfl
@[simp] theorem fresh_fer (s : State) : (fresh s).fer = s.fer := rfl
@[simp] theorem fresh_cfg (s : State) : (fresh s).cfg = s.cfg := rfl
@[simp] theorem fresh_ks (s : State) : (fresh s).ks = s.ks := rfl
@[simp] theorem fresh_cry (s : State) : (fresh s).cry = s.cry := rfl
@[simp] theorem fresh_acc (s : State) : (fresh s).acc = s.acc := rfl
@[simp] theorem fresh_lf (s : State) : (fresh s).lf = s.lf := rfl
@[simp] theorem fresh_rad (s : State) : (fresh s).rad = s.rad := rfl
@[simp] theorem fresh_rng (s : State) : (fresh s).rng = s.rng := rfl
@[simp] theorem fresh_cpl (s : State) : (fresh s).cpl = s.cpl := rfl
@[simp] theorem fresh_sns (s : State) : (fresh s).sns = s.sns := rfl
@[simp] theorem fresh_eng (s : State) : (fresh s).eng = s.eng := rfl
@[simp] theorem fresh_tmb (s : State) : (fresh s).tmb = s.tmb := rfl
@[simp] theorem fresh_bus (s : State) : (fresh s).bus = s.bus := rfl
@[simp] theorem fresh_saf (s : State) : (fresh s).saf = s.saf := rfl
@[simp] theorem fresh_pending (s : State) : (fresh s).pending = s.pending := rfl

/-! ### draw -/

@[simp] theorem draw_emit (n : Nat) (s : State) : (draw n s).emit = s.emit := rfl
@[simp] theorem draw_regs (n : Nat) (s : State) : (draw n s).regs = s.regs := rfl
@[simp] theorem draw_sram (n : Nat) (s : State) : (draw n s).sram = s.sram := rfl
@[simp] theorem draw_power (n : Nat) (s : State) : (draw n s).power = s.power := rfl
@[simp] theorem draw_pins (n : Nat) (s : State) : (draw n s).pins = s.pins := rfl
@[simp] theorem draw_link (n : Nat) (s : State) : (draw n s).link = s.link := rfl
@[simp] theorem draw_jrn (n : Nat) (s : State) : (draw n s).jrn = s.jrn := rfl
@[simp] theorem draw_fer (n : Nat) (s : State) : (draw n s).fer = s.fer := rfl
@[simp] theorem draw_cfg (n : Nat) (s : State) : (draw n s).cfg = s.cfg := rfl
@[simp] theorem draw_ks (n : Nat) (s : State) : (draw n s).ks = s.ks := rfl
@[simp] theorem draw_cry (n : Nat) (s : State) : (draw n s).cry = s.cry := rfl
@[simp] theorem draw_acc (n : Nat) (s : State) : (draw n s).acc = s.acc := rfl
@[simp] theorem draw_lf (n : Nat) (s : State) : (draw n s).lf = s.lf := rfl
@[simp] theorem draw_rad (n : Nat) (s : State) : (draw n s).rad = s.rad := rfl
@[simp] theorem draw_rng (n : Nat) (s : State) : (draw n s).rng = s.rng := rfl
@[simp] theorem draw_cpl (n : Nat) (s : State) : (draw n s).cpl = s.cpl := rfl
@[simp] theorem draw_sns (n : Nat) (s : State) : (draw n s).sns = s.sns := rfl
@[simp] theorem draw_eng (n : Nat) (s : State) : (draw n s).eng = s.eng := rfl
@[simp] theorem draw_tmb (n : Nat) (s : State) : (draw n s).tmb = s.tmb := rfl
@[simp] theorem draw_bus (n : Nat) (s : State) : (draw n s).bus = s.bus := rfl
@[simp] theorem draw_saf (n : Nat) (s : State) : (draw n s).saf = s.saf := rfl
@[simp] theorem draw_pending (n : Nat) (s : State) : (draw n s).pending = s.pending := rfl

/-! ### emitOut -/

@[simp] theorem emitOut_drawn (e : Emission) (s : State) : (emitOut e s).drawn = s.drawn := rfl
@[simp] theorem emitOut_regs (e : Emission) (s : State) : (emitOut e s).regs = s.regs := rfl
@[simp] theorem emitOut_sram (e : Emission) (s : State) : (emitOut e s).sram = s.sram := rfl
@[simp] theorem emitOut_power (e : Emission) (s : State) : (emitOut e s).power = s.power := rfl
@[simp] theorem emitOut_pins (e : Emission) (s : State) : (emitOut e s).pins = s.pins := rfl
@[simp] theorem emitOut_link (e : Emission) (s : State) : (emitOut e s).link = s.link := rfl
@[simp] theorem emitOut_jrn (e : Emission) (s : State) : (emitOut e s).jrn = s.jrn := rfl
@[simp] theorem emitOut_fer (e : Emission) (s : State) : (emitOut e s).fer = s.fer := rfl
@[simp] theorem emitOut_cfg (e : Emission) (s : State) : (emitOut e s).cfg = s.cfg := rfl
@[simp] theorem emitOut_ks (e : Emission) (s : State) : (emitOut e s).ks = s.ks := rfl
@[simp] theorem emitOut_cry (e : Emission) (s : State) : (emitOut e s).cry = s.cry := rfl
@[simp] theorem emitOut_acc (e : Emission) (s : State) : (emitOut e s).acc = s.acc := rfl
@[simp] theorem emitOut_lf (e : Emission) (s : State) : (emitOut e s).lf = s.lf := rfl
@[simp] theorem emitOut_rad (e : Emission) (s : State) : (emitOut e s).rad = s.rad := rfl
@[simp] theorem emitOut_rng (e : Emission) (s : State) : (emitOut e s).rng = s.rng := rfl
@[simp] theorem emitOut_cpl (e : Emission) (s : State) : (emitOut e s).cpl = s.cpl := rfl
@[simp] theorem emitOut_sns (e : Emission) (s : State) : (emitOut e s).sns = s.sns := rfl
@[simp] theorem emitOut_eng (e : Emission) (s : State) : (emitOut e s).eng = s.eng := rfl
@[simp] theorem emitOut_tmb (e : Emission) (s : State) : (emitOut e s).tmb = s.tmb := rfl
@[simp] theorem emitOut_bus (e : Emission) (s : State) : (emitOut e s).bus = s.bus := rfl
@[simp] theorem emitOut_saf (e : Emission) (s : State) : (emitOut e s).saf = s.saf := rfl
@[simp] theorem emitOut_pending (e : Emission) (s : State) : (emitOut e s).pending = s.pending := rfl

/-! ### setEng -/

@[simp] theorem setEng_emit (k : Fin 12) (e : Engine) (s : State) : (setEng k e s).emit = s.emit := rfl
@[simp] theorem setEng_drawn (k : Fin 12) (e : Engine) (s : State) : (setEng k e s).drawn = s.drawn := rfl
@[simp] theorem setEng_regs (k : Fin 12) (e : Engine) (s : State) : (setEng k e s).regs = s.regs := rfl
@[simp] theorem setEng_sram (k : Fin 12) (e : Engine) (s : State) : (setEng k e s).sram = s.sram := rfl
@[simp] theorem setEng_power (k : Fin 12) (e : Engine) (s : State) : (setEng k e s).power = s.power := rfl
@[simp] theorem setEng_pins (k : Fin 12) (e : Engine) (s : State) : (setEng k e s).pins = s.pins := rfl
@[simp] theorem setEng_link (k : Fin 12) (e : Engine) (s : State) : (setEng k e s).link = s.link := rfl
@[simp] theorem setEng_jrn (k : Fin 12) (e : Engine) (s : State) : (setEng k e s).jrn = s.jrn := rfl
@[simp] theorem setEng_fer (k : Fin 12) (e : Engine) (s : State) : (setEng k e s).fer = s.fer := rfl
@[simp] theorem setEng_cfg (k : Fin 12) (e : Engine) (s : State) : (setEng k e s).cfg = s.cfg := rfl
@[simp] theorem setEng_ks (k : Fin 12) (e : Engine) (s : State) : (setEng k e s).ks = s.ks := rfl
@[simp] theorem setEng_cry (k : Fin 12) (e : Engine) (s : State) : (setEng k e s).cry = s.cry := rfl
@[simp] theorem setEng_acc (k : Fin 12) (e : Engine) (s : State) : (setEng k e s).acc = s.acc := rfl
@[simp] theorem setEng_lf (k : Fin 12) (e : Engine) (s : State) : (setEng k e s).lf = s.lf := rfl
@[simp] theorem setEng_rad (k : Fin 12) (e : Engine) (s : State) : (setEng k e s).rad = s.rad := rfl
@[simp] theorem setEng_rng (k : Fin 12) (e : Engine) (s : State) : (setEng k e s).rng = s.rng := rfl
@[simp] theorem setEng_cpl (k : Fin 12) (e : Engine) (s : State) : (setEng k e s).cpl = s.cpl := rfl
@[simp] theorem setEng_sns (k : Fin 12) (e : Engine) (s : State) : (setEng k e s).sns = s.sns := rfl
@[simp] theorem setEng_tmb (k : Fin 12) (e : Engine) (s : State) : (setEng k e s).tmb = s.tmb := rfl
@[simp] theorem setEng_bus (k : Fin 12) (e : Engine) (s : State) : (setEng k e s).bus = s.bus := rfl
@[simp] theorem setEng_saf (k : Fin 12) (e : Engine) (s : State) : (setEng k e s).saf = s.saf := rfl
@[simp] theorem setEng_pending (k : Fin 12) (e : Engine) (s : State) : (setEng k e s).pending = s.pending := rfl

/-! ### modEng -/

@[simp] theorem modEng_emit (k : Fin 12) (f : Engine → Engine) (s : State) : (modEng k f s).emit = s.emit := rfl
@[simp] theorem modEng_drawn (k : Fin 12) (f : Engine → Engine) (s : State) : (modEng k f s).drawn = s.drawn := rfl
@[simp] theorem modEng_regs (k : Fin 12) (f : Engine → Engine) (s : State) : (modEng k f s).regs = s.regs := rfl
@[simp] theorem modEng_sram (k : Fin 12) (f : Engine → Engine) (s : State) : (modEng k f s).sram = s.sram := rfl
@[simp] theorem modEng_power (k : Fin 12) (f : Engine → Engine) (s : State) : (modEng k f s).power = s.power := rfl
@[simp] theorem modEng_pins (k : Fin 12) (f : Engine → Engine) (s : State) : (modEng k f s).pins = s.pins := rfl
@[simp] theorem modEng_link (k : Fin 12) (f : Engine → Engine) (s : State) : (modEng k f s).link = s.link := rfl
@[simp] theorem modEng_jrn (k : Fin 12) (f : Engine → Engine) (s : State) : (modEng k f s).jrn = s.jrn := rfl
@[simp] theorem modEng_fer (k : Fin 12) (f : Engine → Engine) (s : State) : (modEng k f s).fer = s.fer := rfl
@[simp] theorem modEng_cfg (k : Fin 12) (f : Engine → Engine) (s : State) : (modEng k f s).cfg = s.cfg := rfl
@[simp] theorem modEng_ks (k : Fin 12) (f : Engine → Engine) (s : State) : (modEng k f s).ks = s.ks := rfl
@[simp] theorem modEng_cry (k : Fin 12) (f : Engine → Engine) (s : State) : (modEng k f s).cry = s.cry := rfl
@[simp] theorem modEng_acc (k : Fin 12) (f : Engine → Engine) (s : State) : (modEng k f s).acc = s.acc := rfl
@[simp] theorem modEng_lf (k : Fin 12) (f : Engine → Engine) (s : State) : (modEng k f s).lf = s.lf := rfl
@[simp] theorem modEng_rad (k : Fin 12) (f : Engine → Engine) (s : State) : (modEng k f s).rad = s.rad := rfl
@[simp] theorem modEng_rng (k : Fin 12) (f : Engine → Engine) (s : State) : (modEng k f s).rng = s.rng := rfl
@[simp] theorem modEng_cpl (k : Fin 12) (f : Engine → Engine) (s : State) : (modEng k f s).cpl = s.cpl := rfl
@[simp] theorem modEng_sns (k : Fin 12) (f : Engine → Engine) (s : State) : (modEng k f s).sns = s.sns := rfl
@[simp] theorem modEng_tmb (k : Fin 12) (f : Engine → Engine) (s : State) : (modEng k f s).tmb = s.tmb := rfl
@[simp] theorem modEng_bus (k : Fin 12) (f : Engine → Engine) (s : State) : (modEng k f s).bus = s.bus := rfl
@[simp] theorem modEng_saf (k : Fin 12) (f : Engine → Engine) (s : State) : (modEng k f s).saf = s.saf := rfl
@[simp] theorem modEng_pending (k : Fin 12) (f : Engine → Engine) (s : State) : (modEng k f s).pending = s.pending := rfl

/-! ### regSet -/

@[simp] theorem regSet_emit (a : Nat) (v : Word) (s : State) : (regSet a v s).emit = s.emit := rfl
@[simp] theorem regSet_drawn (a : Nat) (v : Word) (s : State) : (regSet a v s).drawn = s.drawn := rfl
@[simp] theorem regSet_sram (a : Nat) (v : Word) (s : State) : (regSet a v s).sram = s.sram := rfl
@[simp] theorem regSet_power (a : Nat) (v : Word) (s : State) : (regSet a v s).power = s.power := rfl
@[simp] theorem regSet_pins (a : Nat) (v : Word) (s : State) : (regSet a v s).pins = s.pins := rfl
@[simp] theorem regSet_link (a : Nat) (v : Word) (s : State) : (regSet a v s).link = s.link := rfl
@[simp] theorem regSet_jrn (a : Nat) (v : Word) (s : State) : (regSet a v s).jrn = s.jrn := rfl
@[simp] theorem regSet_fer (a : Nat) (v : Word) (s : State) : (regSet a v s).fer = s.fer := rfl
@[simp] theorem regSet_cfg (a : Nat) (v : Word) (s : State) : (regSet a v s).cfg = s.cfg := rfl
@[simp] theorem regSet_ks (a : Nat) (v : Word) (s : State) : (regSet a v s).ks = s.ks := rfl
@[simp] theorem regSet_cry (a : Nat) (v : Word) (s : State) : (regSet a v s).cry = s.cry := rfl
@[simp] theorem regSet_acc (a : Nat) (v : Word) (s : State) : (regSet a v s).acc = s.acc := rfl
@[simp] theorem regSet_lf (a : Nat) (v : Word) (s : State) : (regSet a v s).lf = s.lf := rfl
@[simp] theorem regSet_rad (a : Nat) (v : Word) (s : State) : (regSet a v s).rad = s.rad := rfl
@[simp] theorem regSet_rng (a : Nat) (v : Word) (s : State) : (regSet a v s).rng = s.rng := rfl
@[simp] theorem regSet_cpl (a : Nat) (v : Word) (s : State) : (regSet a v s).cpl = s.cpl := rfl
@[simp] theorem regSet_sns (a : Nat) (v : Word) (s : State) : (regSet a v s).sns = s.sns := rfl
@[simp] theorem regSet_eng (a : Nat) (v : Word) (s : State) : (regSet a v s).eng = s.eng := rfl
@[simp] theorem regSet_tmb (a : Nat) (v : Word) (s : State) : (regSet a v s).tmb = s.tmb := rfl
@[simp] theorem regSet_bus (a : Nat) (v : Word) (s : State) : (regSet a v s).bus = s.bus := rfl
@[simp] theorem regSet_saf (a : Nat) (v : Word) (s : State) : (regSet a v s).saf = s.saf := rfl
@[simp] theorem regSet_pending (a : Nat) (v : Word) (s : State) : (regSet a v s).pending = s.pending := rfl

/-! ### regOr -/

@[simp] theorem regOr_emit (a m : Nat) (s : State) : (regOr a m s).emit = s.emit := rfl
@[simp] theorem regOr_drawn (a m : Nat) (s : State) : (regOr a m s).drawn = s.drawn := rfl
@[simp] theorem regOr_sram (a m : Nat) (s : State) : (regOr a m s).sram = s.sram := rfl
@[simp] theorem regOr_power (a m : Nat) (s : State) : (regOr a m s).power = s.power := rfl
@[simp] theorem regOr_pins (a m : Nat) (s : State) : (regOr a m s).pins = s.pins := rfl
@[simp] theorem regOr_link (a m : Nat) (s : State) : (regOr a m s).link = s.link := rfl
@[simp] theorem regOr_jrn (a m : Nat) (s : State) : (regOr a m s).jrn = s.jrn := rfl
@[simp] theorem regOr_fer (a m : Nat) (s : State) : (regOr a m s).fer = s.fer := rfl
@[simp] theorem regOr_cfg (a m : Nat) (s : State) : (regOr a m s).cfg = s.cfg := rfl
@[simp] theorem regOr_ks (a m : Nat) (s : State) : (regOr a m s).ks = s.ks := rfl
@[simp] theorem regOr_cry (a m : Nat) (s : State) : (regOr a m s).cry = s.cry := rfl
@[simp] theorem regOr_acc (a m : Nat) (s : State) : (regOr a m s).acc = s.acc := rfl
@[simp] theorem regOr_lf (a m : Nat) (s : State) : (regOr a m s).lf = s.lf := rfl
@[simp] theorem regOr_rad (a m : Nat) (s : State) : (regOr a m s).rad = s.rad := rfl
@[simp] theorem regOr_rng (a m : Nat) (s : State) : (regOr a m s).rng = s.rng := rfl
@[simp] theorem regOr_cpl (a m : Nat) (s : State) : (regOr a m s).cpl = s.cpl := rfl
@[simp] theorem regOr_sns (a m : Nat) (s : State) : (regOr a m s).sns = s.sns := rfl
@[simp] theorem regOr_eng (a m : Nat) (s : State) : (regOr a m s).eng = s.eng := rfl
@[simp] theorem regOr_tmb (a m : Nat) (s : State) : (regOr a m s).tmb = s.tmb := rfl
@[simp] theorem regOr_bus (a m : Nat) (s : State) : (regOr a m s).bus = s.bus := rfl
@[simp] theorem regOr_saf (a m : Nat) (s : State) : (regOr a m s).saf = s.saf := rfl
@[simp] theorem regOr_pending (a m : Nat) (s : State) : (regOr a m s).pending = s.pending := rfl

/-! ### regAndNot -/

@[simp] theorem regAndNot_emit (a m : Nat) (s : State) : (regAndNot a m s).emit = s.emit := rfl
@[simp] theorem regAndNot_drawn (a m : Nat) (s : State) : (regAndNot a m s).drawn = s.drawn := rfl
@[simp] theorem regAndNot_sram (a m : Nat) (s : State) : (regAndNot a m s).sram = s.sram := rfl
@[simp] theorem regAndNot_power (a m : Nat) (s : State) : (regAndNot a m s).power = s.power := rfl
@[simp] theorem regAndNot_pins (a m : Nat) (s : State) : (regAndNot a m s).pins = s.pins := rfl
@[simp] theorem regAndNot_link (a m : Nat) (s : State) : (regAndNot a m s).link = s.link := rfl
@[simp] theorem regAndNot_jrn (a m : Nat) (s : State) : (regAndNot a m s).jrn = s.jrn := rfl
@[simp] theorem regAndNot_fer (a m : Nat) (s : State) : (regAndNot a m s).fer = s.fer := rfl
@[simp] theorem regAndNot_cfg (a m : Nat) (s : State) : (regAndNot a m s).cfg = s.cfg := rfl
@[simp] theorem regAndNot_ks (a m : Nat) (s : State) : (regAndNot a m s).ks = s.ks := rfl
@[simp] theorem regAndNot_cry (a m : Nat) (s : State) : (regAndNot a m s).cry = s.cry := rfl
@[simp] theorem regAndNot_acc (a m : Nat) (s : State) : (regAndNot a m s).acc = s.acc := rfl
@[simp] theorem regAndNot_lf (a m : Nat) (s : State) : (regAndNot a m s).lf = s.lf := rfl
@[simp] theorem regAndNot_rad (a m : Nat) (s : State) : (regAndNot a m s).rad = s.rad := rfl
@[simp] theorem regAndNot_rng (a m : Nat) (s : State) : (regAndNot a m s).rng = s.rng := rfl
@[simp] theorem regAndNot_cpl (a m : Nat) (s : State) : (regAndNot a m s).cpl = s.cpl := rfl
@[simp] theorem regAndNot_sns (a m : Nat) (s : State) : (regAndNot a m s).sns = s.sns := rfl
@[simp] theorem regAndNot_eng (a m : Nat) (s : State) : (regAndNot a m s).eng = s.eng := rfl
@[simp] theorem regAndNot_tmb (a m : Nat) (s : State) : (regAndNot a m s).tmb = s.tmb := rfl
@[simp] theorem regAndNot_bus (a m : Nat) (s : State) : (regAndNot a m s).bus = s.bus := rfl
@[simp] theorem regAndNot_saf (a m : Nat) (s : State) : (regAndNot a m s).saf = s.saf := rfl
@[simp] theorem regAndNot_pending (a m : Nat) (s : State) : (regAndNot a m s).pending = s.pending := rfl

/-! ### regPutFld -/

@[simp] theorem regPutFld_emit (a lo n v : Nat) (s : State) : (regPutFld a lo n v s).emit = s.emit := rfl
@[simp] theorem regPutFld_drawn (a lo n v : Nat) (s : State) : (regPutFld a lo n v s).drawn = s.drawn := rfl
@[simp] theorem regPutFld_sram (a lo n v : Nat) (s : State) : (regPutFld a lo n v s).sram = s.sram := rfl
@[simp] theorem regPutFld_power (a lo n v : Nat) (s : State) : (regPutFld a lo n v s).power = s.power := rfl
@[simp] theorem regPutFld_pins (a lo n v : Nat) (s : State) : (regPutFld a lo n v s).pins = s.pins := rfl
@[simp] theorem regPutFld_link (a lo n v : Nat) (s : State) : (regPutFld a lo n v s).link = s.link := rfl
@[simp] theorem regPutFld_jrn (a lo n v : Nat) (s : State) : (regPutFld a lo n v s).jrn = s.jrn := rfl
@[simp] theorem regPutFld_fer (a lo n v : Nat) (s : State) : (regPutFld a lo n v s).fer = s.fer := rfl
@[simp] theorem regPutFld_cfg (a lo n v : Nat) (s : State) : (regPutFld a lo n v s).cfg = s.cfg := rfl
@[simp] theorem regPutFld_ks (a lo n v : Nat) (s : State) : (regPutFld a lo n v s).ks = s.ks := rfl
@[simp] theorem regPutFld_cry (a lo n v : Nat) (s : State) : (regPutFld a lo n v s).cry = s.cry := rfl
@[simp] theorem regPutFld_acc (a lo n v : Nat) (s : State) : (regPutFld a lo n v s).acc = s.acc := rfl
@[simp] theorem regPutFld_lf (a lo n v : Nat) (s : State) : (regPutFld a lo n v s).lf = s.lf := rfl
@[simp] theorem regPutFld_rad (a lo n v : Nat) (s : State) : (regPutFld a lo n v s).rad = s.rad := rfl
@[simp] theorem regPutFld_rng (a lo n v : Nat) (s : State) : (regPutFld a lo n v s).rng = s.rng := rfl
@[simp] theorem regPutFld_cpl (a lo n v : Nat) (s : State) : (regPutFld a lo n v s).cpl = s.cpl := rfl
@[simp] theorem regPutFld_sns (a lo n v : Nat) (s : State) : (regPutFld a lo n v s).sns = s.sns := rfl
@[simp] theorem regPutFld_eng (a lo n v : Nat) (s : State) : (regPutFld a lo n v s).eng = s.eng := rfl
@[simp] theorem regPutFld_tmb (a lo n v : Nat) (s : State) : (regPutFld a lo n v s).tmb = s.tmb := rfl
@[simp] theorem regPutFld_bus (a lo n v : Nat) (s : State) : (regPutFld a lo n v s).bus = s.bus := rfl
@[simp] theorem regPutFld_saf (a lo n v : Nat) (s : State) : (regPutFld a lo n v s).saf = s.saf := rfl
@[simp] theorem regPutFld_pending (a lo n v : Nat) (s : State) : (regPutFld a lo n v s).pending = s.pending := rfl

/-! ### regInc -/

@[simp] theorem regInc_emit (a n : Nat) (s : State) : (regInc a n s).emit = s.emit := rfl
@[simp] theorem regInc_drawn (a n : Nat) (s : State) : (regInc a n s).drawn = s.drawn := rfl
@[simp] theorem regInc_sram (a n : Nat) (s : State) : (regInc a n s).sram = s.sram := rfl
@[simp] theorem regInc_power (a n : Nat) (s : State) : (regInc a n s).power = s.power := rfl
@[simp] theorem regInc_pins (a n : Nat) (s : State) : (regInc a n s).pins = s.pins := rfl
@[simp] theorem regInc_link (a n : Nat) (s : State) : (regInc a n s).link = s.link := rfl
@[simp] theorem regInc_jrn (a n : Nat) (s : State) : (regInc a n s).jrn = s.jrn := rfl
@[simp] theorem regInc_fer (a n : Nat) (s : State) : (regInc a n s).fer = s.fer := rfl
@[simp] theorem regInc_cfg (a n : Nat) (s : State) : (regInc a n s).cfg = s.cfg := rfl
@[simp] theorem regInc_ks (a n : Nat) (s : State) : (regInc a n s).ks = s.ks := rfl
@[simp] theorem regInc_cry (a n : Nat) (s : State) : (regInc a n s).cry = s.cry := rfl
@[simp] theorem regInc_acc (a n : Nat) (s : State) : (regInc a n s).acc = s.acc := rfl
@[simp] theorem regInc_lf (a n : Nat) (s : State) : (regInc a n s).lf = s.lf := rfl
@[simp] theorem regInc_rad (a n : Nat) (s : State) : (regInc a n s).rad = s.rad := rfl
@[simp] theorem regInc_rng (a n : Nat) (s : State) : (regInc a n s).rng = s.rng := rfl
@[simp] theorem regInc_cpl (a n : Nat) (s : State) : (regInc a n s).cpl = s.cpl := rfl
@[simp] theorem regInc_sns (a n : Nat) (s : State) : (regInc a n s).sns = s.sns := rfl
@[simp] theorem regInc_eng (a n : Nat) (s : State) : (regInc a n s).eng = s.eng := rfl
@[simp] theorem regInc_tmb (a n : Nat) (s : State) : (regInc a n s).tmb = s.tmb := rfl
@[simp] theorem regInc_bus (a n : Nat) (s : State) : (regInc a n s).bus = s.bus := rfl
@[simp] theorem regInc_saf (a n : Nat) (s : State) : (regInc a n s).saf = s.saf := rfl
@[simp] theorem regInc_pending (a n : Nat) (s : State) : (regInc a n s).pending = s.pending := rfl

/-! ### Values after the updates -/

@[simp] theorem fresh_emit (s : State) : (fresh s).emit = [] := rfl
@[simp] theorem fresh_link (s : State) : (fresh s).link = { s.link with miso := [] } := rfl
@[simp] theorem emitOut_emit (e : Emission) (s : State) : (emitOut e s).emit = s.emit ++ [e] := rfl
@[simp] theorem draw_drawn (n : Nat) (s : State) : (draw n s).drawn = s.drawn + n := rfl

/-! ### setPort -/

@[simp] theorem setPort_emit (p : VPort) (x : PortState) (s : State) : (setPort p x s).emit = s.emit := by cases p <;> rfl
@[simp] theorem setPort_drawn (p : VPort) (x : PortState) (s : State) : (setPort p x s).drawn = s.drawn := by cases p <;> rfl
@[simp] theorem setPort_regs (p : VPort) (x : PortState) (s : State) : (setPort p x s).regs = s.regs := by cases p <;> rfl
@[simp] theorem setPort_sram (p : VPort) (x : PortState) (s : State) : (setPort p x s).sram = s.sram := by cases p <;> rfl
@[simp] theorem setPort_power (p : VPort) (x : PortState) (s : State) : (setPort p x s).power = s.power := by cases p <;> rfl
@[simp] theorem setPort_pins (p : VPort) (x : PortState) (s : State) : (setPort p x s).pins = s.pins := by cases p <;> rfl
@[simp] theorem setPort_jrn (p : VPort) (x : PortState) (s : State) : (setPort p x s).jrn = s.jrn := by cases p <;> rfl
@[simp] theorem setPort_fer (p : VPort) (x : PortState) (s : State) : (setPort p x s).fer = s.fer := by cases p <;> rfl
@[simp] theorem setPort_cfg (p : VPort) (x : PortState) (s : State) : (setPort p x s).cfg = s.cfg := by cases p <;> rfl
@[simp] theorem setPort_ks (p : VPort) (x : PortState) (s : State) : (setPort p x s).ks = s.ks := by cases p <;> rfl
@[simp] theorem setPort_cry (p : VPort) (x : PortState) (s : State) : (setPort p x s).cry = s.cry := by cases p <;> rfl
@[simp] theorem setPort_acc (p : VPort) (x : PortState) (s : State) : (setPort p x s).acc = s.acc := by cases p <;> rfl
@[simp] theorem setPort_lf (p : VPort) (x : PortState) (s : State) : (setPort p x s).lf = s.lf := by cases p <;> rfl
@[simp] theorem setPort_rad (p : VPort) (x : PortState) (s : State) : (setPort p x s).rad = s.rad := by cases p <;> rfl
@[simp] theorem setPort_rng (p : VPort) (x : PortState) (s : State) : (setPort p x s).rng = s.rng := by cases p <;> rfl
@[simp] theorem setPort_cpl (p : VPort) (x : PortState) (s : State) : (setPort p x s).cpl = s.cpl := by cases p <;> rfl
@[simp] theorem setPort_sns (p : VPort) (x : PortState) (s : State) : (setPort p x s).sns = s.sns := by cases p <;> rfl
@[simp] theorem setPort_eng (p : VPort) (x : PortState) (s : State) : (setPort p x s).eng = s.eng := by cases p <;> rfl
@[simp] theorem setPort_tmb (p : VPort) (x : PortState) (s : State) : (setPort p x s).tmb = s.tmb := by cases p <;> rfl
@[simp] theorem setPort_bus (p : VPort) (x : PortState) (s : State) : (setPort p x s).bus = s.bus := by cases p <;> rfl
@[simp] theorem setPort_saf (p : VPort) (x : PortState) (s : State) : (setPort p x s).saf = s.saf := by cases p <;> rfl
@[simp] theorem setPort_pending (p : VPort) (x : PortState) (s : State) : (setPort p x s).pending = s.pending := by cases p <;> rfl
@[simp] theorem portOf_setPort (p : VPort) (x : PortState) (s : State) : portOf (setPort p x s) p = x := by cases p <;> rfl

end Sys2Proof.Machine
end

