-- ==== Sys2Proof/Laws/Ops.lean ====
section
/-! SUPPORT. What the shared operations can do, said once: sparse maps, registers, meanings and steps, the end of every command. -/
namespace Sys2Proof.Machine

/-! ### Sparse maps -/

theorem kvGet_cons {β : Type} (d : Nat → β) (a : Nat) (v : β) (m : List (Nat × β)) (k : Nat) :
    kvGet d ((a, v) :: m) k = if a = k then v else kvGet d m k := rfl

theorem kvGet_kvErase_self {β : Type} (d : Nat → β) (m : List (Nat × β)) (k : Nat) : kvGet d (kvErase m k) k = d k := by
  induction m with
  | nil => rfl
  | cons p m ih =>
    obtain ⟨a, v⟩ := p
    by_cases h : a = k
    · subst h; simpa [kvErase] using ih
    · have he : kvErase ((a, v) :: m) k = (a, v) :: kvErase m k := by simp [kvErase, h]
      rw [he, kvGet_cons, ih]; simp [h]

theorem kvGet_kvErase_ne {β : Type} (d : Nat → β) (m : List (Nat × β)) {k j : Nat} (hjk : j ≠ k) :
    kvGet d (kvErase m k) j = kvGet d m j := by
  induction m with
  | nil => rfl
  | cons p m ih =>
    obtain ⟨a, v⟩ := p
    by_cases h : a = k
    · subst h
      have : ¬ a = j := fun e => hjk e.symm
      simpa [kvErase, kvGet_cons, this] using ih
    · have he : kvErase ((a, v) :: m) k = (a, v) :: kvErase m k := by simp [kvErase, h]
      rw [he, kvGet_cons, kvGet_cons, ih]

theorem kvGet_kvInsert {β : Type} (d : Nat → β) (m : List (Nat × β)) (k j : Nat) (v : β) (hm : ∀ p ∈ m, p.1 ≠ k) : kvGet d (kvInsert k v m) j = if j = k then v else kvGet d m j := by
  induction m with
  | nil =>
    by_cases h : j = k
    · simp [kvInsert, kvGet, h]
    · have : ¬ k = j := fun e => h e.symm
      simp [kvInsert, kvGet, h, this]
  | cons p m ih =>
    obtain ⟨a, w⟩ := p
    have hak : a ≠ k := hm (a, w) (by simp)
    have ih := ih (fun p hp => hm p (by simp [hp]))
    by_cases hlt : k < a
    · simp only [kvInsert, hlt, if_true, kvGet_cons]
      by_cases h : j = k
      · simp [h]
      · have : ¬ k = j := fun e => h e.symm
        simp [h, this]
    · simp only [kvInsert, hlt, if_false, kvGet_cons, ih]
      by_cases h : j = k
      · simp [h, hak]
      · simp [h]

/-- A read after a write: the written key reads the value, every other key as before. -/
@[simp] theorem kvGet_kvSet {β : Type} [DecidableEq β] (d : Nat → β) (m : List (Nat × β)) (k j : Nat) (v : β) :
    kvGet d (kvSet d m k v) j = if j = k then v else kvGet d m j := by
  unfold kvSet
  split
  · rename_i hv
    by_cases h : j = k
    · subst h; simp [kvGet_kvErase_self, hv]
    · simp [h, kvGet_kvErase_ne d m h]
  · rw [kvGet_kvInsert d _ k j v (by simp [kvErase])]
    by_cases h : j = k
    · simp [h]
    · simp [h, kvGet_kvErase_ne d m h]

/-- Keys rise strictly, as a pairwise statement. -/
theorem kvSorted_iff {β : Type} (m : List (Nat × β)) : kvSorted m = true ↔ m.Pairwise (fun p q => p.1 < q.1) := by
  induction m with
  | nil => simp [kvSorted]
  | cons p m ih =>
    cases m with
    | nil => simp [kvSorted]
    | cons q m =>
      obtain ⟨a, v⟩ := p
      obtain ⟨b, w⟩ := q
      simp only [kvSorted, Bool.and_eq_true, decide_eq_true_eq, ih, List.pairwise_cons, List.mem_cons, forall_eq_or_imp]
      constructor
      · rintro ⟨hab, hb, hm⟩
        exact ⟨⟨hab, fun p hp => Nat.lt_trans hab (hb p hp)⟩, hb, hm⟩
      · rintro ⟨⟨hab, _⟩, hb, hm⟩
        exact ⟨hab, hb, hm⟩

theorem kvInsert_mem {β : Type} (k : Nat) (v : β) (m : List (Nat × β)) (p : Nat × β) :
    p ∈ kvInsert k v m ↔ p = (k, v) ∨ p ∈ m := by
  induction m with
  | nil => simp [kvInsert]
  | cons q m ih =>
    obtain ⟨a, w⟩ := q
    by_cases h : k < a
    · simp [kvInsert, h]
    · simp only [kvInsert, h, if_false, List.mem_cons, ih]
      constructor
      · rintro (h | h | h) <;> simp [h]
      · rintro (h | h | h) <;> simp [h]

theorem kvInsert_sorted {β : Type} (k : Nat) (v : β) (m : List (Nat × β)) (hs : m.Pairwise (fun p q => p.1 < q.1))
    (hk : ∀ p ∈ m, p.1 ≠ k) : (kvInsert k v m).Pairwise (fun p q => p.1 < q.1) := by
  induction m with
  | nil => simp [kvInsert]
  | cons q m ih =>
    obtain ⟨a, w⟩ := q
    have hak : a ≠ k := hk (a, w) (by simp)
    rw [List.pairwise_cons] at hs
    by_cases h : k < a
    · rw [kvInsert, if_pos h, List.pairwise_cons, List.pairwise_cons]
      refine ⟨fun p hp => ?_, hs.1, hs.2⟩
      rcases List.mem_cons.1 hp with rfl | hp
      · exact h
      · exact Nat.lt_trans h (hs.1 p hp)
    · simp only [kvInsert, h, if_false, List.pairwise_cons]
      refine ⟨fun p hp => ?_, ih hs.2 (fun p hp => hk p (by simp [hp]))⟩
      rw [kvInsert_mem] at hp
      rcases hp with rfl | hp
      · show a < k
        omega
      · exact hs.1 p hp

/-- A write keeps the canonical form. -/
theorem kvSet_wf {β : Type} [DecidableEq β] (d : Nat → β) (m : List (Nat × β)) (k : Nat) (v : β) (h : kvWf d m = true) :
    kvWf d (kvSet d m k v) = true := by
  simp only [kvWf, Bool.and_eq_true, kvSorted_iff, List.all_eq_true] at h ⊢
  have he : (kvErase m k).Pairwise (fun p q => p.1 < q.1) := h.1.sublist List.filter_sublist
  have hd : ∀ p ∈ kvErase m k, decide (p.2 ≠ d p.1) = true := fun p hp => h.2 p (List.mem_of_mem_filter hp)
  unfold kvSet
  split
  · exact ⟨he, hd⟩
  · rename_i hv
    refine ⟨kvInsert_sorted k v _ he (by simp [kvErase]), fun p hp => ?_⟩
    rw [kvInsert_mem] at hp
    rcases hp with rfl | hp
    · simpa using hv
    · exact hd p hp

/-- A write of a byte string keeps the canonical form of a byte memory. -/
theorem memSet_wf (m : List Host.Cell) (a : Nat) (bs : Bytes) (h : Memory.wf m = true) : Memory.wf (memSet m a bs) = true := by
  unfold memSet
  generalize bs.zipIdx = l
  induction l generalizing m with
  | nil => exact h
  | cons p l ih => exact ih _ (kvSet_wf _ m _ _ h)

/-! ### Registers -/

@[simp] theorem regGet_regSet (a b : Nat) (v : Word) (s : State) : regGet (regSet a v s) b = if b = a then v else regGet s b := by
  simp [regGet, regSet]

theorem regGet_regSet_ne {a b : Nat} (h : b ≠ a) (v : Word) (s : State) : regGet (regSet a v s) b = regGet s b := by simp [h]

/-! ### Steps and meanings -/

theorem step_cons (c : Instr) (q : List Instr) (s : State) (h : s.pending = c :: q) : step s = exec c s.rest := by simp [step, h]

theorem step_nil (s : State) (h : s.pending = []) : step s = act tick s := by simp [step, h]

theorem act_next (f : State → State) (s : State) : ∃ t, act f s = .next t := ⟨_, rfl⟩

theorem act_pending (f : State → State) (s t : State) (h : act f s = .next t) : t.pending = s.pending := by
  simp only [act, Host.Outcome.next.injEq] at h
  subst h; rfl

end Sys2Proof.Machine
end

