-- ==== Sys2Proof/Laws/Link.lean ====
section
/-! SUPPORT. The end of every command (`settle`): what it establishes, and that it changes nothing where that already stands. -/
namespace Sys2Proof.Machine

/-! ### Consumption -/

theorem afterConsumed_hcs0 (o : OutPkt) (s : State) : (afterConsumed o s).link.hcs0 = s.link.hcs0 := by
  unfold afterConsumed; dsimp only; split <;> (try split) <;> (try split) <;> rfl

theorem afterConsumed_uart (o : OutPkt) (s : State) : (afterConsumed o s).link.uart = s.link.uart := by
  unfold afterConsumed; dsimp only; split <;> (try split) <;> (try split) <;> rfl

theorem afterConsumed_regs (o : OutPkt) (s : State) : (afterConsumed o s).regs = s.regs := by
  unfold afterConsumed; dsimp only; split <;> (try split) <;> (try split) <;> rfl

/-- The fold of `sendUart` leaves ports and registers alone. -/
theorem sendFold_frame (q : List OutPkt) (s : State) :
    let t := q.foldl (fun s o => afterConsumed o (emitOut (.uartTx o.bytes) s)) s
    t.link.hcs0 = s.link.hcs0 ∧ t.link.uart = s.link.uart ∧ t.regs = s.regs := by
  induction q generalizing s with
  | nil => exact ⟨rfl, rfl, rfl⟩
  | cons o q ih =>
    have h := ih (afterConsumed o (emitOut (.uartTx o.bytes) s))
    simp only [List.foldl_cons]
    exact ⟨h.1.trans (afterConsumed_hcs0 _ _), h.2.1.trans (afterConsumed_uart _ _), h.2.2.trans (afterConsumed_regs _ _)⟩

theorem regBit_congr {s t : State} (h : s.regs = t.regs) (a i : Nat) : regBit s a i = regBit t a i := by
  simp [regBit, regGet, h]

theorem sendUart_regs (s : State) : (sendUart s).regs = s.regs := by
  unfold sendUart
  split
  · exact (sendFold_frame _ _).2.2
  · rfl

theorem sendUart_hcs0 (s : State) : (sendUart s).link.hcs0 = s.link.hcs0 := by
  unfold sendUart
  split
  · exact (sendFold_frame _ _).1
  · rfl

theorem sendUart_uart (s : State) :
    (sendUart s).link.uart = if regBit s 0x40010000 1 then
      { s.link.uart with outq := [], last := s.link.uart.outq.getLast?.or s.link.uart.last } else s.link.uart := by
  unfold sendUart
  split
  · exact (sendFold_frame _ _).2.1
  · rfl

theorem sendUart_opn (s : State) : (sendUart s).link.uart.opn = s.link.uart.opn := by
  rw [sendUart_uart]; split <;> rfl

/-! ### Replies in order -/

theorem releaseReplies_regs (p : VPort) (s : State) : (releaseReplies p s).regs = s.regs := by
  unfold releaseReplies; simp only; split <;> simp

theorem releaseReplies_self_opn (p : VPort) (s : State) :
    (portOf (releaseReplies p s) p).opn = (portOf s p).opn.dropWhile fun w => w.pkt.isSome := by
  unfold releaseReplies; simp only; split <;> cases p <;> rfl

theorem releaseReplies_uart_hcs0 (s : State) : (releaseReplies .uart s).link.hcs0 = s.link.hcs0 := by
  unfold releaseReplies; simp only; split <;> rfl

/-- The head of a list from which a prefix was dropped fails the test. -/
theorem headOk_dropWhile (l : List OpenSlot) :
    (match l.dropWhile (fun w => w.pkt.isSome) with
      | [] => true
      | w :: _ => w.pkt.isNone) = true := by
  induction l with
  | nil => rfl
  | cons w l ih =>
    by_cases h : w.pkt.isSome = true
    · simpa [List.dropWhile_cons, h] using ih
    · have hn : w.pkt = none := by simpa using h
      simp [hn]

/-! ### settle -/

theorem settle_regs (s : State) : (settle s).regs = s.regs := by
  simp [settle, sendUart_regs, releaseReplies_regs]

theorem settle_hcs0_opn (s : State) : (settle s).link.hcs0.opn = s.link.hcs0.opn.dropWhile fun w => w.pkt.isSome := by
  simp only [settle, sendUart_hcs0, releaseReplies_uart_hcs0]
  exact releaseReplies_self_opn .hcs0 s

theorem releaseReplies_hcs0_uart (s : State) : (releaseReplies .hcs0 s).link.uart = s.link.uart := by
  unfold releaseReplies; simp only; split <;> rfl

theorem settle_uart_opn (s : State) : (settle s).link.uart.opn = s.link.uart.opn.dropWhile fun w => w.pkt.isSome := by
  simp only [settle, sendUart_opn]
  have := releaseReplies_self_opn .uart (releaseReplies .hcs0 s)
  simp only [portOf, releaseReplies_hcs0_uart] at this
  exact this

/-- Every command leaves the link invariant, whatever it did. -/
theorem settle_linkInv (s : State) (q : List Instr) : ({ settle s with pending := q } : State).LinkInv := by
  refine ⟨?_, ?_, ?_, rfl⟩
  · simp [State.hirqOk, settle, hirqLevel, regBit, regGet, v1Ready]
  · have h1 := headOk_dropWhile s.link.hcs0.opn
    have h2 := headOk_dropWhile s.link.uart.opn
    rw [← settle_hcs0_opn] at h1
    rw [← settle_uart_opn] at h2
    simp only [State.ordered, List.all_cons, List.all_nil, Bool.and_true, Bool.and_eq_true]
    exact ⟨h1, h2⟩
  · have hr : ∀ a i, regBit ({ settle s with pending := q } : State) a i = regBit (releaseReplies .uart (releaseReplies .hcs0 s)) a i :=
      fun a i => regBit_congr (by simp [settle, sendUart_regs]) a i
    have hu : (settle s).link.uart = (sendUart (releaseReplies .uart (releaseReplies .hcs0 s))).link.uart := rfl
    simp only [State.uartSent, hr, hu, sendUart_uart]
    split <;> simp_all

/-- Every command that answers leaves the link invariant. -/
theorem act_linkInv (f : State → State) (s t : State) (h : act f s = .next t) : t.LinkInv := by
  simp only [act, Host.Outcome.next.injEq] at h
  subst h
  exact settle_linkInv _ _

/-! ### Where nothing waits -/

/-- No answered command stands at the head of an order. -/
def headOpen (l : List OpenSlot) : Bool :=
  match l with
  | [] => true
  | w :: _ => w.pkt.isNone

theorem takeWhile_headOpen {l : List OpenSlot} (h : headOpen l = true) : l.takeWhile (fun w => w.pkt.isSome) = [] := by
  cases l with
  | nil => rfl
  | cons w l =>
    have hn : w.pkt = none := by simpa [headOpen] using h
    simp [hn]

theorem dropWhile_headOpen {l : List OpenSlot} (h : headOpen l = true) : l.dropWhile (fun w => w.pkt.isSome) = l := by
  cases l with
  | nil => rfl
  | cons w l =>
    have hn : w.pkt = none := by simpa [headOpen] using h
    simp [hn]

theorem ordered_iff (s : State) : s.ordered = true ↔ headOpen s.link.hcs0.opn = true ∧ headOpen s.link.uart.opn = true := by
  simp only [State.ordered, headOpen, List.all_cons, List.all_nil, Bool.and_true, Bool.and_eq_true] <;> exact Iff.rfl

theorem releaseReplies_id (p : VPort) (s : State) (h : headOpen (portOf s p).opn = true) : releaseReplies p s = s := by
  unfold releaseReplies
  simp only [takeWhile_headOpen h, dropWhile_headOpen h]
  cases p <;> simp [setPort, portOf]

theorem sendUart_id (s : State) (h : s.uartSent = true) : sendUart s = s := by
  unfold sendUart
  split
  · rename_i hu
    have hq : s.link.uart.outq = [] := by simpa [State.uartSent, hu] using h
    have e : ({ s.link.uart with outq := [], last := s.link.uart.outq.getLast?.or s.link.uart.last } : PortState) = s.link.uart := by
      cases hc : s.link.uart
      simp_all
    simp only [hq, List.foldl_nil]
    rw [hq] at e
    rw [e]
    rfl
  · rfl

/-- Where the link invariant stands, the end of a command changes nothing. -/
theorem settle_id (s : State) (h : s.LinkInv) : settle s = s := by
  obtain ⟨hh, ho, hu, hr⟩ := h
  rw [ordered_iff] at ho
  unfold settle
  rw [releaseReplies_id .hcs0 s ho.1, releaseReplies_id .uart s ho.2, sendUart_id s hu]
  have e : hirqLevel s = s.link.hirq := (eq_of_beq hh).symm
  show ({ s with link := { s.link with hirq := hirqLevel s }, fer := { s.fer with reads := [] } } : State) = s
  rw [e, ← hr]

/-- The link invariant reads the ports, the registers, the version 1 reply, HIRQ_N and the read-backs alone. -/
theorem linkInv_congr {s t : State} (h0 : t.link.hcs0 = s.link.hcs0) (h1 : t.link.uart = s.link.uart) (h2 : t.link.hirq = s.link.hirq)
    (h3 : t.link.v1Reply = s.link.v1Reply) (h4 : t.link.answers = s.link.answers) (h5 : regGet t 0x40010000 = regGet s 0x40010000)
    (h6 : regGet t 0x40010014 = regGet s 0x40010014) (h7 : t.fer.reads = s.fer.reads) (h : s.LinkInv) : t.LinkInv := by
  obtain ⟨a, b, c, d⟩ := h
  refine ⟨?_, ?_, ?_, h7.trans d⟩
  · simpa [State.hirqOk, hirqLevel, v1Ready, regBit, h0, h2, h3, h4, h5, h6] using a
  · simpa [State.ordered, h0, h1] using b
  · simpa [State.uartSent, regBit, h1, h5] using c

theorem fresh_linkInv {s : State} (h : s.LinkInv) : (fresh s).LinkInv := linkInv_congr rfl rfl rfl rfl rfl rfl rfl rfl h

/-- A meaning on a state with the link invariant whose effect keeps it. -/
theorem act_quiet (f : State → State) (s : State) (h : (f (fresh s)).LinkInv) (hp : (f (fresh s)).pending = s.pending) :
    act f s = .next (f (fresh s)) := by
  unfold act
  rw [settle_id _ h]
  rw [← hp]

end Sys2Proof.Machine
end

