-- ==== Sys2Proof/Laws/Exec.lean ====
section
/-! SUPPORT. Every row's meaning is an effect between the start and the end that all commands share. -/
namespace Sys2Proof.Machine

/-- A meaning is an effect between the shared start and end. -/
def IsAct (g : State → Host.Outcome State Fault Refusal) : Prop := ∃ f, ∀ s, g s = act f s

/-- So is the meaning of every command. -/
theorem exec_isAct (c : Instr) : IsAct (exec c) :=
  Instr.casesOn (motive := fun c => IsAct (exec c)) c
    (fun p => (⟨_, fun _ => rfl⟩ : IsAct (execNop p)))
    (fun p => (⟨_, fun _ => rfl⟩ : IsAct (execIdentify p)))
    (fun p => (⟨_, fun _ => rfl⟩ : IsAct (execStatus p)))
    (fun p => (⟨_, fun _ => rfl⟩ : IsAct (execQuery p)))
    (fun p => (⟨_, fun _ => rfl⟩ : IsAct (execCollect p)))
    (fun p => (⟨_, fun _ => rfl⟩ : IsAct (execReset p)))
    (⟨_, fun _ => rfl⟩ : IsAct execResetAfterReply)
    (fun p => (⟨_, fun _ => rfl⟩ : IsAct (execPower p)))
    (fun p => (⟨_, fun _ => rfl⟩ : IsAct (execConfigSet p)))
    (fun p => (⟨_, fun _ => rfl⟩ : IsAct (execTimeSet p)))
    (fun p => (⟨_, fun _ => rfl⟩ : IsAct (execPendingList p)))
    (fun p => (⟨_, fun _ => rfl⟩ : IsAct (execRegRead p)))
    (fun p => (⟨_, fun _ => rfl⟩ : IsAct (execRegWrite p)))
    (fun p => (⟨_, fun _ => rfl⟩ : IsAct (execRegModify p)))
    (fun p => (⟨_, fun _ => rfl⟩ : IsAct (execMemRead p)))
    (fun p => (⟨_, fun _ => rfl⟩ : IsAct (execMemWrite p)))
    (fun p => (⟨_, fun _ => rfl⟩ : IsAct (execNvmRead p)))
    (fun p => (⟨_, fun _ => rfl⟩ : IsAct (execNvmWrite p)))
    (fun p => (⟨_, fun _ => rfl⟩ : IsAct (execNvmUnlock p)))
    (fun p => (⟨_, fun _ => rfl⟩ : IsAct (execNvmLock p)))
    (fun p => (⟨_, fun _ => rfl⟩ : IsAct (execNvmPassword p)))
    (fun p => (⟨_, fun _ => rfl⟩ : IsAct (execNvmRegions p)))
    (fun p => (⟨_, fun _ => rfl⟩ : IsAct (execCounterRead p)))
    (fun p => (⟨_, fun _ => rfl⟩ : IsAct (execAuthNonce p)))
    (fun p => (⟨_, fun _ => rfl⟩ : IsAct (execKeyGen p)))
    (fun p => (⟨_, fun _ => rfl⟩ : IsAct (execKeyGenBlob p)))
    (fun p => (⟨_, fun _ => rfl⟩ : IsAct (execImportSession p)))
    (fun p => (⟨_, fun _ => rfl⟩ : IsAct (execKeyImport p)))
    (fun p => (⟨_, fun _ => rfl⟩ : IsAct (execKeyImportBlob p)))
    (fun p => (⟨_, fun _ => rfl⟩ : IsAct (execKeyUpdate p)))
    (fun p => (⟨_, fun _ => rfl⟩ : IsAct (execKeyDestroy p)))
    (fun p => (⟨_, fun _ => rfl⟩ : IsAct (execKeyLoad p)))
    (fun p => (⟨_, fun _ => rfl⟩ : IsAct (execKeyUnload p)))
    (fun p => (⟨_, fun _ => rfl⟩ : IsAct (execCmac p)))
    (fun p => (⟨_, fun _ => rfl⟩ : IsAct (execCmacVerify p)))
    (fun p => (⟨_, fun _ => rfl⟩ : IsAct (execSign p)))
    (fun p => (⟨_, fun _ => rfl⟩ : IsAct (execEcdh p)))
    (fun p => (⟨_, fun _ => rfl⟩ : IsAct (execDerive p)))
    (fun p => (⟨_, fun _ => rfl⟩ : IsAct (execWrap p)))
    (fun p => (⟨_, fun _ => rfl⟩ : IsAct (execEpochInc p)))
    (fun p => (⟨_, fun _ => rfl⟩ : IsAct (execAttest p)))
    (fun p => (⟨_, fun _ => rfl⟩ : IsAct (execDebugMode p)))
    (fun p => (⟨_, fun _ => rfl⟩ : IsAct (execAnchorSet p)))
    (fun p => (⟨_, fun _ => rfl⟩ : IsAct (execCouplingKey p)))
    (fun p => (⟨_, fun _ => rfl⟩ : IsAct (execCouplingCert p)))
    (fun p => (⟨_, fun _ => rfl⟩ : IsAct (execImmoKey p)))
    (fun p => (⟨_, fun _ => rfl⟩ : IsAct (execLfTest p)))
    (fun p => (⟨_, fun _ => rfl⟩ : IsAct (execLfRetest p)))
    (fun p => (⟨_, fun _ => rfl⟩ : IsAct (execLfOffsetCal p)))
    (fun p => (⟨_, fun _ => rfl⟩ : IsAct (execLfTable p)))
    (fun p => (⟨_, fun _ => rfl⟩ : IsAct (execRadioCal p)))
    (fun p => (⟨_, fun _ => rfl⟩ : IsAct (execRadioTx p)))
    (fun p => (⟨_, fun _ => rfl⟩ : IsAct (execRadioSave p)))
    (fun p => (⟨_, fun _ => rfl⟩ : IsAct (execModelSet p)))
    (fun p => (⟨_, fun _ => rfl⟩ : IsAct (execModelGet p)))
    (fun p => (⟨_, fun _ => rfl⟩ : IsAct (execRange p)))
    (fun p => (⟨_, fun _ => rfl⟩ : IsAct (execRangeSave p)))
    (fun p => (⟨_, fun _ => rfl⟩ : IsAct (execDecide p)))
    (fun p => (⟨_, fun _ => rfl⟩ : IsAct (execDecisionLog p)))
    (fun p => (⟨_, fun _ => rfl⟩ : IsAct (execEnrol p)))
    (fun p => (⟨_, fun _ => rfl⟩ : IsAct (execRevoke p)))
    (fun p => (⟨_, fun _ => rfl⟩ : IsAct (execRecordState p)))
    (fun p => (⟨_, fun _ => rfl⟩ : IsAct (execOverride p)))
    (fun p => (⟨_, fun _ => rfl⟩ : IsAct (execTrlOwnList p)))
    (fun p => (⟨_, fun _ => rfl⟩ : IsAct (execLockedAns p)))
    (fun p => (⟨_, fun _ => rfl⟩ : IsAct (execEndCurfew p)))
    (fun p => (⟨_, fun _ => rfl⟩ : IsAct (execClearSloFault p)))
    (fun p => (⟨_, fun _ => rfl⟩ : IsAct (execProfilePolicy p)))
    (fun p => (⟨_, fun _ => rfl⟩ : IsAct (execEnrolLimit p)))
    (fun p => (⟨_, fun _ => rfl⟩ : IsAct (execTokenRead p)))
    (fun p => (⟨_, fun _ => rfl⟩ : IsAct (execDenyRead p)))
    (fun p => (⟨_, fun _ => rfl⟩ : IsAct (execCouple p)))
    (fun p => (⟨_, fun _ => rfl⟩ : IsAct (execDecouple p)))
    (fun p => (⟨_, fun _ => rfl⟩ : IsAct (execCouplingQuery p)))
    (fun p => (⟨_, fun _ => rfl⟩ : IsAct (execPartnerList p)))
    (fun p => (⟨_, fun _ => rfl⟩ : IsAct (execRosterAdd p)))
    (fun p => (⟨_, fun _ => rfl⟩ : IsAct (execRosterRemove p)))
    (fun p => (⟨_, fun _ => rfl⟩ : IsAct (execWheelSet p)))
    (fun p => (⟨_, fun _ => rfl⟩ : IsAct (execLocate p)))
    (fun p => (⟨_, fun _ => rfl⟩ : IsAct (execWheelModelSet p)))
    (fun p => (⟨_, fun _ => rfl⟩ : IsAct (execS1Learn p)))
    (fun p => (⟨_, fun _ => rfl⟩ : IsAct (execSensorRead p)))
    (fun p => (⟨_, fun _ => rfl⟩ : IsAct (execHistoryRead p)))
    (fun p => (⟨_, fun _ => rfl⟩ : IsAct (execSensorSet p)))
    (fun p => (⟨_, fun _ => rfl⟩ : IsAct (execCanTx p)))
    (fun p => (⟨_, fun _ => rfl⟩ : IsAct (execCanRx p)))
    (fun p => (⟨_, fun _ => rfl⟩ : IsAct (execPlcTx p)))
    (fun p => (⟨_, fun _ => rfl⟩ : IsAct (execLinXfer p)))
    (fun p => (⟨_, fun _ => rfl⟩ : IsAct (execBusSave p)))
    (fun p => (⟨_, fun _ => rfl⟩ : IsAct (execEngLoad p)))
    (fun p => (⟨_, fun _ => rfl⟩ : IsAct (execEngCtrl p)))
    (fun p => (⟨_, fun _ => rfl⟩ : IsAct (execMbxWrite p)))
    (fun p => (⟨_, fun _ => rfl⟩ : IsAct (execMbxRead p)))
    (fun p => (⟨_, fun _ => rfl⟩ : IsAct (execUcodeWrite p)))
    (fun p => (⟨_, fun _ => rfl⟩ : IsAct (execTmrRead p)))
    (fun p => (⟨_, fun _ => rfl⟩ : IsAct (execTmrArm p)))
    (fun p => (⟨_, fun _ => rfl⟩ : IsAct (execTmrCfg p)))
    (fun p => (⟨_, fun _ => rfl⟩ : IsAct (execFaultRead p)))
    (fun p => (⟨_, fun _ => rfl⟩ : IsAct (execInject p)))
    (fun p => (⟨_, fun _ => rfl⟩ : IsAct (execTamperClear p)))
    (fun first clocked => (⟨_, fun _ => rfl⟩ : IsAct (execReadOnlyTransaction first clocked)))
    (fun clocked => (⟨_, fun _ => rfl⟩ : IsAct (execReplayTransaction clocked)))
    (⟨_, fun _ => rfl⟩ : IsAct execClash)
    (fun op p => (⟨_, fun _ => rfl⟩ : IsAct (execUartGapTimeout op p)))
    (⟨_, fun _ => rfl⟩ : IsAct execUartCfgWrite)
    (⟨_, fun _ => rfl⟩ : IsAct execHifCfgWrite)
    (⟨_, fun _ => rfl⟩ : IsAct execEvtLost)
    (⟨_, fun _ => rfl⟩ : IsAct execCompleteRequeue)
    (⟨_, fun _ => rfl⟩ : IsAct execDawnQueueProcess)
    (fun f => (⟨_, fun _ => rfl⟩ : IsAct (execV1Nop f)))
    (fun f => (⟨_, fun _ => rfl⟩ : IsAct (execIdent f)))
    (fun f => (⟨_, fun _ => rfl⟩ : IsAct (execV1Status f)))
    (fun f => (⟨_, fun _ => rfl⟩ : IsAct (execSoftReset f)))
    (fun f => (⟨_, fun _ => rfl⟩ : IsAct (execV1RegRead f)))
    (fun f => (⟨_, fun _ => rfl⟩ : IsAct (execV1RegWrite f)))
    (fun f => (⟨_, fun _ => rfl⟩ : IsAct (execEeRead f)))
    (fun f => (⟨_, fun _ => rfl⟩ : IsAct (execEeWrite f)))
    (fun f => (⟨_, fun _ => rfl⟩ : IsAct (execT2Poll f)))
    (fun f => (⟨_, fun _ => rfl⟩ : IsAct (execT2Result f)))
    (fun f => (⟨_, fun _ => rfl⟩ : IsAct (execS1Count f)))
    (fun f => (⟨_, fun _ => rfl⟩ : IsAct (execS1Read f)))
    (fun f => (⟨_, fun _ => rfl⟩ : IsAct (execS1Add f)))
    (fun f => (⟨_, fun _ => rfl⟩ : IsAct (execS1Remove f)))
    (fun f => (⟨_, fun _ => rfl⟩ : IsAct (execV1LfTest f)))
    (fun f => (⟨_, fun _ => rfl⟩ : IsAct (execJ12Begin f)))
    (fun f => (⟨_, fun _ => rfl⟩ : IsAct (execJ12Data f)))
    (fun f => (⟨_, fun _ => rfl⟩ : IsAct (execJ12End f)))
    (fun f => (⟨_, fun _ => rfl⟩ : IsAct (execV1MbxWrite f)))
    (fun f => (⟨_, fun _ => rfl⟩ : IsAct (execV1MbxRead f)))
    (⟨_, fun _ => rfl⟩ : IsAct execV1ShortTransaction)
    (⟨_, fun _ => rfl⟩ : IsAct execAcceptedWorkStart)
    (fun tagged seq m => (⟨_, fun _ => rfl⟩ : IsAct (execAcceptedWorkStep tagged seq m)))
    (fun n => (⟨_, fun _ => rfl⟩ : IsAct (execWakePinEdge n)))
    (fun f => (⟨_, fun _ => rfl⟩ : IsAct (execStartRequestFrame f)))
    (fun data => (⟨_, fun _ => rfl⟩ : IsAct (execPresenceFrame data)))
    (⟨_, fun _ => rfl⟩ : IsAct execDuskBeacon)
    (⟨_, fun _ => rfl⟩ : IsAct execQueuedTriggerStart)
    (fun f fit => (⟨_, fun _ => rfl⟩ : IsAct (execT3Reply f fit)))
    (fun f => (⟨_, fun _ => rfl⟩ : IsAct (execT2Reply f)))
    (fun record answer => (⟨_, fun _ => rfl⟩ : IsAct (execPhoneAnswer record answer)))
    (fun rx energy => (⟨_, fun _ => rfl⟩ : IsAct (execWinDone rx energy)))
    (⟨_, fun _ => rfl⟩ : IsAct execCurfewEnd)
    (⟨_, fun _ => rfl⟩ : IsAct execReleaseRefreshTimeout)
    (⟨_, fun _ => rfl⟩ : IsAct execReleaseDurationEnd)
    (⟨_, fun _ => rfl⟩ : IsAct execReleaseTrack)
    (fun a b => (⟨_, fun _ => rfl⟩ : IsAct (execReleaseReadback a b)))
    (fun a b => (⟨_, fun _ => rfl⟩ : IsAct (execIdleReadback a b)))
    (fun us => (⟨_, fun _ => rfl⟩ : IsAct (execPeriodMonitor us)))
    (fun reads => (⟨_, fun _ => rfl⟩ : IsAct (execReleaseSelfTest reads)))
    (fun f => (⟨_, fun _ => rfl⟩ : IsAct (execImmoChallenge f)))
    (⟨_, fun _ => rfl⟩ : IsAct execEnrolAttempt)
    (⟨_, fun _ => rfl⟩ : IsAct execEnrolTimeout)
    (fun src => (⟨_, fun _ => rfl⟩ : IsAct (execLfGo src)))
    (⟨_, fun _ => rfl⟩ : IsAct execLfAbort)
    (⟨_, fun _ => rfl⟩ : IsAct execLfFlush)
    (fun w => (⟨_, fun _ => rfl⟩ : IsAct (execLfxFifoData w)))
    (fun m => (⟨_, fun _ => rfl⟩ : IsAct (execLfFifoEntry m)))
    (fun w => (⟨_, fun _ => rfl⟩ : IsAct (execLfxCommit w)))
    (fun w => (⟨_, fun _ => rfl⟩ : IsAct (execLfxEaccReq w)))
    (fun tj pcore => (⟨_, fun _ => rfl⟩ : IsAct (execEaccBin tj pcore)))
    (fun mv => (⟨_, fun _ => rfl⟩ : IsAct (execVlfWindowChange mv)))
    (fun ch toVlf => (⟨_, fun _ => rfl⟩ : IsAct (execLfShort ch toVlf)))
    (fun ch peak tj => (⟨_, fun _ => rfl⟩ : IsAct (execLfOpenRetest ch peak tj)))
    (fun ch flags found => (⟨_, fun _ => rfl⟩ : IsAct (execLfShortClear ch flags found)))
    (fun bandH d ctl => (⟨_, fun _ => rfl⟩ : IsAct (execTxDescriptorQueue bandH d ctl)))
    (fun bandH d settled tuned => (⟨_, fun _ => rfl⟩ : IsAct (execTxDescriptorStart bandH d settled tuned)))
    (fun bandH rl => (⟨_, fun _ => rfl⟩ : IsAct (execTxFrameEnd bandH rl)))
    (fun f => (⟨_, fun _ => rfl⟩ : IsAct (execRxFrame f)))
    (fun rx => (⟨_, fun _ => rfl⟩ : IsAct (execRxWindowOpen rx)))
    (fun bandH first second => (⟨_, fun _ => rfl⟩ : IsAct (execRflCommit bandH first second)))
    (fun bandH m => (⟨_, fun _ => rfl⟩ : IsAct (execRflCalStart bandH m)))
    (fun rx => (⟨_, fun _ => rfl⟩ : IsAct (execRecalPend rx)))
    (fun syn relocks => (⟨_, fun _ => rfl⟩ : IsAct (execLockLoss syn relocks)))
    (fun syn locks => (⟨_, fun _ => rfl⟩ : IsAct (execFailoverRetry syn locks)))
    (fun best rl => (⟨_, fun _ => rfl⟩ : IsAct (execMismatch best rl)))
    (fun x => (⟨_, fun _ => rfl⟩ : IsAct (execSniffPeriod x)))
    (fun w => (⟨_, fun _ => rfl⟩ : IsAct (execRbeExchangeStart w)))
    (fun m => (⟨_, fun _ => rfl⟩ : IsAct (execRbeExchangeDone m)))
    (⟨_, fun _ => rfl⟩ : IsAct execRngAbort)
    (fun by_ => (⟨_, fun _ => rfl⟩ : IsAct (execRngRbeKeyld by_)))
    (fun unit x => (⟨_, fun _ => rfl⟩ : IsAct (execRespArm unit x)))
    (⟨_, fun _ => rfl⟩ : IsAct execMcpEventStart)
    (fun m fit => (⟨_, fun _ => rfl⟩ : IsAct (execMcpEventDone m fit)))
    (fun record m => (⟨_, fun _ => rfl⟩ : IsAct (execCsProcedureDone record m)))
    (fun unit j2497 long => (⟨_, fun _ => rfl⟩ : IsAct (execCouplingLinkUp unit j2497 long)))
    (fun p => (⟨_, fun _ => rfl⟩ : IsAct (execHello p)))
    (fun p => (⟨_, fun _ => rfl⟩ : IsAct (execCert p)))
    (fun p => (⟨_, fun _ => rfl⟩ : IsAct (execKeyshare p)))
    (fun p => (⟨_, fun _ => rfl⟩ : IsAct (execConfirm p)))
    (fun p => (⟨_, fun _ => rfl⟩ : IsAct (execRbeArm p)))
    (fun p => (⟨_, fun _ => rfl⟩ : IsAct (execRbeResult p)))
    (fun p => (⟨_, fun _ => rfl⟩ : IsAct (execRoster p)))
    (fun p => (⟨_, fun _ => rfl⟩ : IsAct (execRosterAck p)))
    (fun p => (⟨_, fun _ => rfl⟩ : IsAct (execDriverGrant p)))
    (fun p => (⟨_, fun _ => rfl⟩ : IsAct (execDriverLeft p)))
    (fun unit => (⟨_, fun _ => rfl⟩ : IsAct (execKeepalive unit)))
    (fun p => (⟨_, fun _ => rfl⟩ : IsAct (execBye p)))
    (fun unit => (⟨_, fun _ => rfl⟩ : IsAct (execStepTo unit)))
    (fun unit => (⟨_, fun _ => rfl⟩ : IsAct (execHelloWaitTimeout unit)))
    (fun unit => (⟨_, fun _ => rfl⟩ : IsAct (execMediumFallback unit)))
    (fun unit => (⟨_, fun _ => rfl⟩ : IsAct (execCouplingLinkLoss unit)))
    (fun unit => (⟨_, fun _ => rfl⟩ : IsAct (execHoldExpiry unit)))
    (fun unit => (⟨_, fun _ => rfl⟩ : IsAct (execCouplingRestart unit)))
    (⟨_, fun _ => rfl⟩ : IsAct execGrantRepeatTimeout)
    (fun f => (⟨_, fun _ => rfl⟩ : IsAct (execTpSegmentFrame f)))
    (fun unit plc sn status => (⟨_, fun _ => rfl⟩ : IsAct (execTpAckFrame unit plc sn status)))
    (fun unit plc => (⟨_, fun _ => rfl⟩ : IsAct (execTpGapTimeout unit plc)))
    (fun unit plc => (⟨_, fun _ => rfl⟩ : IsAct (execTpAckTimeout unit plc)))
    (fun unit record data => (⟨_, fun _ => rfl⟩ : IsAct (execSensorState unit record data)))
    (fun record => (⟨_, fun _ => rfl⟩ : IsAct (execSensorStateSend record)))
    (fun f => (⟨_, fun _ => rfl⟩ : IsAct (execData f)))
    (fun f => (⟨_, fun _ => rfl⟩ : IsAct (execAlarm f)))
    (fun f => (⟨_, fun _ => rfl⟩ : IsAct (execLoc f)))
    (fun f => (⟨_, fun _ => rfl⟩ : IsAct (execSreport f)))
    (fun f => (⟨_, fun _ => rfl⟩ : IsAct (execS1Frame f)))
    (fun rb => (⟨_, fun _ => rfl⟩ : IsAct (execFcntCommit rb)))
    (⟨_, fun _ => rfl⟩ : IsAct execAutoLocationStart)
    (⟨_, fun _ => rfl⟩ : IsAct execWakeDeferTimeout)
    (⟨_, fun _ => rfl⟩ : IsAct execWakeRetry)
    (⟨_, fun _ => rfl⟩ : IsAct execStationaryTimeout)
    (⟨_, fun _ => rfl⟩ : IsAct execLearnWindowEnd)
    (fun record => (⟨_, fun _ => rfl⟩ : IsAct (execHistPeriod record)))
    (fun record => (⟨_, fun _ => rfl⟩ : IsAct (execStale record)))
    (fun by_ => (⟨_, fun _ => rfl⟩ : IsAct (execZeroise by_)))
    (fun by_ => (⟨_, fun _ => rfl⟩ : IsAct (execClose by_)))
    (⟨_, fun _ => rfl⟩ : IsAct execNonceExpiry)
    (⟨_, fun _ => rfl⟩ : IsAct execImportSessionExpiry)
    (fun rb => (⟨_, fun _ => rfl⟩ : IsAct (execPageCommitDone rb)))
    (⟨_, fun _ => rfl⟩ : IsAct execCounterIncrementDone)
    (⟨_, fun _ => rfl⟩ : IsAct execPatrol)
    (⟨_, fun _ => rfl⟩ : IsAct execScan)
    (fun m => (⟨_, fun _ => rfl⟩ : IsAct (execSundownSave m)))
    (⟨_, fun _ => rfl⟩ : IsAct execVsupRecovery)
    (fun k data => (⟨_, fun _ => rfl⟩ : IsAct (execOemEvent k data)))
    (fun k data => (⟨_, fun _ => rfl⟩ : IsAct (execOemNvmWrite k data)))
    (fun k => (⟨_, fun _ => rfl⟩ : IsAct (execRtcRead k)))
    (fun o => (⟨_, fun _ => rfl⟩ : IsAct (execNopInstruction o)))
    (fun o => (⟨_, fun _ => rfl⟩ : IsAct (execSiesta o)))
    (fun o => (⟨_, fun _ => rfl⟩ : IsAct (execTrap o)))
    (fun o => (⟨_, fun _ => rfl⟩ : IsAct (execReti o)))
    (fun o => (⟨_, fun _ => rfl⟩ : IsAct (execFence o)))
    (fun o => (⟨_, fun _ => rfl⟩ : IsAct (execSync o)))
    (fun o => (⟨_, fun _ => rfl⟩ : IsAct (execMfs o)))
    (fun o => (⟨_, fun _ => rfl⟩ : IsAct (execMts o)))
    (fun o => (⟨_, fun _ => rfl⟩ : IsAct (execMov o)))
    (fun o => (⟨_, fun _ => rfl⟩ : IsAct (execMovi o)))
    (fun o => (⟨_, fun _ => rfl⟩ : IsAct (execAdd o)))
    (fun o => (⟨_, fun _ => rfl⟩ : IsAct (execSub o)))
    (fun o => (⟨_, fun _ => rfl⟩ : IsAct (execAdc o)))
    (fun o => (⟨_, fun _ => rfl⟩ : IsAct (execSbc o)))
    (fun o => (⟨_, fun _ => rfl⟩ : IsAct (execAnd o)))
    (fun o => (⟨_, fun _ => rfl⟩ : IsAct (execOr o)))
    (fun o => (⟨_, fun _ => rfl⟩ : IsAct (execXor o)))
    (fun o => (⟨_, fun _ => rfl⟩ : IsAct (execCmp o)))
    (fun o => (⟨_, fun _ => rfl⟩ : IsAct (execTst o)))
    (fun o => (⟨_, fun _ => rfl⟩ : IsAct (execAddi o)))
    (fun o => (⟨_, fun _ => rfl⟩ : IsAct (execNeg o)))
    (fun o => (⟨_, fun _ => rfl⟩ : IsAct (execNot o)))
    (fun o => (⟨_, fun _ => rfl⟩ : IsAct (execAbs o)))
    (fun o => (⟨_, fun _ => rfl⟩ : IsAct (execClz o)))
    (fun o => (⟨_, fun _ => rfl⟩ : IsAct (execLsl o)))
    (fun o => (⟨_, fun _ => rfl⟩ : IsAct (execLsr o)))
    (fun o => (⟨_, fun _ => rfl⟩ : IsAct (execAsr o)))
    (fun o => (⟨_, fun _ => rfl⟩ : IsAct (execRor o)))
    (fun o => (⟨_, fun _ => rfl⟩ : IsAct (execMul o)))
    (fun o => (⟨_, fun _ => rfl⟩ : IsAct (execMulh o)))
    (fun o => (⟨_, fun _ => rfl⟩ : IsAct (execMulhu o)))
    (fun o => (⟨_, fun _ => rfl⟩ : IsAct (execDiv o)))
    (fun o => (⟨_, fun _ => rfl⟩ : IsAct (execRem o)))
    (fun o => (⟨_, fun _ => rfl⟩ : IsAct (execLd o)))
    (fun o => (⟨_, fun _ => rfl⟩ : IsAct (execSt o)))
    (fun o => (⟨_, fun _ => rfl⟩ : IsAct (execLdx o)))
    (fun o => (⟨_, fun _ => rfl⟩ : IsAct (execStx o)))
    (fun o => (⟨_, fun _ => rfl⟩ : IsAct (execPush o)))
    (fun o => (⟨_, fun _ => rfl⟩ : IsAct (execPop o)))
    (fun o => (⟨_, fun _ => rfl⟩ : IsAct (execBcc o)))
    (fun o => (⟨_, fun _ => rfl⟩ : IsAct (execJmp o)))
    (fun o => (⟨_, fun _ => rfl⟩ : IsAct (execCall o)))
    (fun o => (⟨_, fun _ => rfl⟩ : IsAct (execRet o)))
    (fun o => (⟨_, fun _ => rfl⟩ : IsAct (execStMove o)))
    (fun o => (⟨_, fun _ => rfl⟩ : IsAct (execBset o)))
    (fun o => (⟨_, fun _ => rfl⟩ : IsAct (execBclr o)))
    (fun o => (⟨_, fun _ => rfl⟩ : IsAct (execBtst o)))
    (fun o => (⟨_, fun _ => rfl⟩ : IsAct (execWait o)))
    (fun o => (⟨_, fun _ => rfl⟩ : IsAct (execSignal o)))
    (fun o => (⟨_, fun _ => rfl⟩ : IsAct (execEvclr o)))
    (fun o => (⟨_, fun _ => rfl⟩ : IsAct (execEvrd o)))
    (fun o => (⟨_, fun _ => rfl⟩ : IsAct (execCryi o)))
    (fun o => (⟨_, fun _ => rfl⟩ : IsAct (execCrys o)))
    (fun o upto => (⟨_, fun _ => rfl⟩ : IsAct (execMovs o upto)))
    (fun o upto => (⟨_, fun _ => rfl⟩ : IsAct (execFills o upto)))
    (fun o upto => (⟨_, fun _ => rfl⟩ : IsAct (execCmps o upto)))
    (fun o upto => (⟨_, fun _ => rfl⟩ : IsAct (execScans o upto)))
    (fun o upto => (⟨_, fun _ => rfl⟩ : IsAct (execCrcs o upto)))
    (fun o => (⟨_, fun _ => rfl⟩ : IsAct (execChku o)))
    (fun o => (⟨_, fun _ => rfl⟩ : IsAct (execChks o)))
    (fun o => (⟨_, fun _ => rfl⟩ : IsAct (execChklen o)))
    (fun o => (⟨_, fun _ => rfl⟩ : IsAct (execUdn o)))
    (fun k => (⟨_, fun _ => rfl⟩ : IsAct (execEventEntry k)))
    (fun k => (⟨_, fun _ => rfl⟩ : IsAct (execWdtFirstExpiry k)))
    (fun k => (⟨_, fun _ => rfl⟩ : IsAct (execWdtSecondExpiry k)))
    (fun k => (⟨_, fun _ => rfl⟩ : IsAct (execEngineRestart k)))
    (fun k => (⟨_, fun _ => rfl⟩ : IsAct (execEngineRunAction k)))
    (fun k => (⟨_, fun _ => rfl⟩ : IsAct (execEngineSiestaAction k)))
    (fun k => (⟨_, fun _ => rfl⟩ : IsAct (execEngineResetAction k)))
    (fun k v => (⟨_, fun _ => rfl⟩ : IsAct (execWdkick k v)))
    (fun k => (⟨_, fun _ => rfl⟩ : IsAct (execSend k)))
    (fun k => (⟨_, fun _ => rfl⟩ : IsAct (execMbxPop k)))
    (fun k v => (⟨_, fun _ => rfl⟩ : IsAct (execUcLo k v)))
    (fun c => (⟨_, fun _ => rfl⟩ : IsAct (execCounterStart c)))
    (fun c => (⟨_, fun _ => rfl⟩ : IsAct (execCounterStop c)))
    (fun c => (⟨_, fun _ => rfl⟩ : IsAct (execTmbCommit c)))
    (fun c v => (⟨_, fun _ => rfl⟩ : IsAct (execTmbCntWrite c v)))
    (fun u v => (⟨_, fun _ => rfl⟩ : IsAct (execCompareArm u v)))
    (fun u => (⟨_, fun _ => rfl⟩ : IsAct (execDisarm u)))
    (fun u => (⟨_, fun _ => rfl⟩ : IsAct (execCompareFire u)))
    (fun u rising => (⟨_, fun _ => rfl⟩ : IsAct (execCapture u rising)))
    (fun u => (⟨_, fun _ => rfl⟩ : IsAct (execCaptureRead u)))
    (fun f => (⟨_, fun _ => rfl⟩ : IsAct (execCanFrameRx f)))
    (fun bus => (⟨_, fun _ => rfl⟩ : IsAct (execCanTxDone bus)))
    (fun bus b => (⟨_, fun _ => rfl⟩ : IsAct (execCanTxTimeout bus b)))
    (fun bus b => (⟨_, fun _ => rfl⟩ : IsAct (execReq bus b)))
    (fun bus b => (⟨_, fun _ => rfl⟩ : IsAct (execCanTxAbort bus b)))
    (fun bus host => (⟨_, fun _ => rfl⟩ : IsAct (execCanRxPop bus host)))
    (fun bus frame => (⟨_, fun _ => rfl⟩ : IsAct (execCanCommit bus frame)))
    (fun bus => (⟨_, fun _ => rfl⟩ : IsAct (execRestart bus)))
    (fun bus => (⟨_, fun _ => rfl⟩ : IsAct (execBusOff bus)))
    (fun bus => (⟨_, fun _ => rfl⟩ : IsAct (execBusOffRecovery bus)))
    (⟨_, fun _ => rfl⟩ : IsAct execSpeedTimeout)
    (fun f => (⟨_, fun _ => rfl⟩ : IsAct (execPlcMessageRx f)))
    (⟨_, fun _ => rfl⟩ : IsAct execTxReq)
    (⟨_, fun _ => rfl⟩ : IsAct execPlcAccessTimeout)
    (⟨_, fun _ => rfl⟩ : IsAct execPlcRxPop)
    (fun x => (⟨_, fun _ => rfl⟩ : IsAct (execLinSlot x)))
    (⟨_, fun _ => rfl⟩ : IsAct execGo)
    (⟨_, fun _ => rfl⟩ : IsAct execLinWake)
    (fun m => (⟨_, fun _ => rfl⟩ : IsAct (execTamperSensorAssert m)))
    (fun m => (⟨_, fun _ => rfl⟩ : IsAct (execVigilDetection m)))
    (⟨_, fun _ => rfl⟩ : IsAct execInjectGo)
    (⟨_, fun _ => rfl⟩ : IsAct execWithdraw)
    (fun c m => (⟨_, fun _ => rfl⟩ : IsAct (execLiveInjectionAct c m)))
    (⟨_, fun _ => rfl⟩ : IsAct execInjectNotObserved)
    (fun c => (⟨_, fun _ => rfl⟩ : IsAct (execPowerOn c)))
    (fun m => (⟨_, fun _ => rfl⟩ : IsAct (execXoQualified m)))
    (⟨_, fun _ => rfl⟩ : IsAct execXoFail)
    (⟨_, fun _ => rfl⟩ : IsAct execNoon)
    (fun low => (⟨_, fun _ => rfl⟩ : IsAct (execPin low)))
    (fun low => (⟨_, fun _ => rfl⟩ : IsAct (execTestNLow low)))
    (fun pll c => (⟨_, fun _ => rfl⟩ : IsAct (execClock pll c)))
    (fun high c => (⟨_, fun _ => rfl⟩ : IsAct (execVmon high c)))
    (⟨_, fun _ => rfl⟩ : IsAct execVddioLow)
    (⟨_, fun _ => rfl⟩ : IsAct execRtcFail)
    (⟨_, fun _ => rfl⟩ : IsAct execRtcAlarm)
    (⟨_, fun _ => rfl⟩ : IsAct execDuskEntry)
    (⟨_, fun _ => rfl⟩ : IsAct execDuskExit)
    (fun m => (⟨_, fun _ => rfl⟩ : IsAct (execMidnightEntry m)))
    (fun m => (⟨_, fun _ => rfl⟩ : IsAct (execAutoMidnight m)))
    (fun c => (⟨_, fun _ => rfl⟩ : IsAct (execWake c)))
    (fun cred => (⟨_, fun _ => rfl⟩ : IsAct (execRecoveryCredential cred)))
    (fun page data rb => (⟨_, fun _ => rfl⟩ : IsAct (execRecoveryBootWrite page data rb)))
    (fun m => (⟨_, fun _ => rfl⟩ : IsAct (execGpioSet m)))
    (fun m => (⟨_, fun _ => rfl⟩ : IsAct (execGpioClr m)))
    (fun m => (⟨_, fun _ => rfl⟩ : IsAct (execGpioTgl m)))
    (fun m => (⟨_, fun _ => rfl⟩ : IsAct (execGpioLock m)))
    (fun n v => (⟨_, fun _ => rfl⟩ : IsAct (execFuncChange n v)))
    (fun n level => (⟨_, fun _ => rfl⟩ : IsAct (execGpioEdge n level)))
    (⟨_, fun _ => rfl⟩ : IsAct execReseed)
    (fun pass => (⟨_, fun _ => rfl⟩ : IsAct (execRetest pass)))
    (fun kind => (⟨_, fun _ => rfl⟩ : IsAct (execHealthFail kind)))
    (fun by_ addr => (⟨_, fun _ => rfl⟩ : IsAct (execRcRegisterRead by_ addr)))
    (fun by_ addr value => (⟨_, fun _ => rfl⟩ : IsAct (execRegisterWrite by_ addr value)))
    (fun op x => (⟨_, fun _ => rfl⟩ : IsAct (execUndefinedOpcode op x)))
    (⟨_, fun _ => rfl⟩ : IsAct execStopBitError)
    (fun o => (⟨_, fun _ => rfl⟩ : IsAct (execUnd o)))
    (⟨_, fun _ => rfl⟩ : IsAct execDebugReset)
    (fun hi => (⟨_, fun _ => rfl⟩ : IsAct (execVddioQualified hi)))
    (fun c => (⟨_, fun _ => rfl⟩ : IsAct (execCounterClock c)))
    (fun code slot kind => (⟨_, fun _ => rfl⟩ : IsAct (execCryCommandDone code slot kind)))
    (⟨_, fun _ => rfl⟩ : IsAct execPlcTxDone)
    (fun bus => (⟨_, fun _ => rfl⟩ : IsAct (execIntegration bus)))
    (fun record missed lost => (⟨_, fun _ => rfl⟩ : IsAct (execConnectionEvent record missed lost)))
    (fun record central => (⟨_, fun _ => rfl⟩ : IsAct (execPhoneConnection record central)))
    (fun pid sync x => (⟨_, fun _ => rfl⟩ : IsAct (execLinHeader pid sync x)))
    (⟨_, fun _ => rfl⟩ : IsAct execNextStop)
    (⟨_, fun _ => rfl⟩ : IsAct execGrantLapse)

/-- Every command answers a next state. -/
theorem exec_next (c : Instr) (s : State) : ∃ t, exec c s = .next t := by
  obtain ⟨f, hf⟩ := exec_isAct c
  rw [hf]
  exact act_next f s

/-- No command touches the queue of the commands that wait. -/
theorem exec_pending (c : Instr) (s t : State) (h : exec c s = .next t) : t.pending = s.pending := by
  obtain ⟨f, hf⟩ := exec_isAct c
  rw [hf] at h
  exact act_pending f s t h

/-- Every command leaves the link invariant. -/
theorem exec_linkInv (c : Instr) (s t : State) (h : exec c s = .next t) : t.LinkInv := by
  obtain ⟨f, hf⟩ := exec_isAct c
  rw [hf] at h
  exact act_linkInv f s t h

end Sys2Proof.Machine
end

