-- ==== Sys2Proof/Laws/Feram.lean ====
section
/-! SUPPORT. The stored forms of the FeRAM have the lengths that its metadata region and its counter pages give them (R298, R301, R309, R317, R318). -/
namespace Sys2Proof.Machine

@[simp] theorem le_length (n v : Nat) : (le n v).length = n := by
  induction n generalizing v with
  | zero => rfl
  | succ n ih => simp [le, ih]
@[simp] theorem fit_length (n : Nat) (b : Bytes) : (fit n b).length = n := by
  simp only [fit, List.length_append, List.length_take, List.length_replicate]
  omega

theorem copyHeader_length (page : Nat) (second : Bool) (gen : Word) (data : Bytes) : (copyHeader page second gen data).length = 10 := by
  simp [copyHeader, copyPage]
theorem recordHead_length (w : Work) : (recordHead w).length = 28 := by simp [recordHead]
theorem recordBytes_length (gen : Word) (w : Work) : (recordBytes gen w).length = 128 := by simp [recordBytes, recordHead_length]
theorem ringBytes_length (num : Nat) (w : Work) : (ringBytes num w).length = 112 := by simp [ringBytes, recordHead_length]
theorem slotBytes_length (v : Nat) : (slotBytes v).length = 12 := by simp [slotBytes]

/-- A header that the commit wrote checks over the bytes it was written for. -/
theorem copyHeader_checks (page : Nat) (second : Bool) (gen : Word) (data : Bytes) (h : word (at_ (copyHeader page second gen data) 0 4) = gen) :
    copyChecks page second (copyHeader page second gen data) data = true := by
  simp [copyChecks, h]

/-- The copies of records, ring entries and internal records lie one after another in the metadata region, none over the next (R298). -/
theorem record_before_ring (r : Nat) (h : r < 32) (second : Bool) : recordOffset r second + 128 ≤ ringOffset 0 false := by
  cases second <;> simp [recordOffset, ringOffset, b2n] <;> omega
theorem ring_before_internal (p : Nat) (h : p < 64) (second : Bool) : ringOffset p second + 112 ≤ internalOffset 0 false := by
  cases second <;> simp [ringOffset, internalOffset, b2n] <;> omega

end Sys2Proof.Machine
end

