-- ==== Sys2Proof/Laws/Host.lean ====
section
/-! SUPPORT. A version 2 packet on an idle port: what reaches the command's body, and what a reply leaves behind. -/
namespace Sys2Proof.Machine

theorem spiOutput_idle {n : Nat} {s : State} (h : s.link.hcs0.outq = []) :
    spiOutput n s = { s with link := { s.link with miso := misoBytes (hifStat s) none n } } := by
  simp [spiOutput, h]

/-- What the path to the body changes: the link, and the idle count of R553. -/
theorem taken_eq {op : Byte} {p : Packet} {s : State} (h : Ready op p s) :
    ∃ lk, taken op p s = { s with link := lk, power := { s.power with duskDue := false } } := by
  cases hp : p.port
  · have hoq : s.link.hcs0.outq = [] := by simpa [hp, portOf] using h.outq
    exact ⟨_, by simp only [taken, hp, if_true, spiOutput_idle hoq, openSlot, replyTo, setPort]; rfl⟩
  · exact ⟨_, by simp only [taken, hp, openSlot, replyTo, setPort]; rfl⟩

/-- No reply is longer than a port's output queue can take. -/
theorem maxReply_le (n : Nat) : maxReply n ≤ 2060 := by
  unfold maxReply
  split <;> (try omega)
  split <;> omega

theorem roleOf_congr {s t : State} (h : t.cfg = s.cfg) : roleOf t = roleOf s := by
  simp [roleOf, h]

/-- A ready packet reaches its command's body. -/
theorem hostCommand_ready {op : Byte} {p : Packet} {s : State} (h : Ready op p s) :
    hostCommand op p s = runCommand op p (replyTo op p s) (taken op p s) := by
  obtain ⟨k, hk⟩ := Option.isSome_iff_exists.1 h.known
  have hmax := maxReply_le op.toNat
  have hlen := h.size
  have hwhole := h.whole
  have hver := h.ver
  have h0 : ¬ p.header < 8 := by have := h.header; omega
  cases hp : p.port
  · have ho : s.link.hcs0.outq = [] := by simpa [hp, portOf] using h.outq
    have hopn : s.link.hcs0.opn = [] := by simpa [hp, portOf] using h.opn
    have htag : tagCheck op p (taken op p s) = .nowhere := by
      have := h.tag
      simpa [taken, hp, spiOutput_idle ho, openSlot, replyTo, setPort, portOf, tagCheck] using this
    have hserve : ∀ r, serve runCommand op p r (taken op p s) = runCommand op p r (taken op p s) := fun r => by
      simp [serve, hk, htag, h.length, h.opts, h.fields]
    have htk : taken op p s = { openSlot (replyTo op p s) (maxReply op.toNat) (spiOutput p.clocked s) with
        power := { (openSlot (replyTo op p s) (maxReply op.toNat) (spiOutput p.clocked s)).power with duskDue := false } } := by
      simp [taken, hp]
    rw [← hserve, htk]
    simp only [hostCommand, hostPacket, h.up, hp, h0, h.crc, hver]
    simp [takeCommand, spiOutput_idle ho, hp, portOf, bufsUsed, outRoom, outUsed, hopn, ho, openSlot, replyTo, setPort, h.e0, h.noon,
      show ¬ (8192 - 384 < maxReply op.toNat) by omega, hwhole, show ¬ 2048 < p.len by omega]
  · have ho : s.link.uart.outq = [] := by simpa [hp, portOf] using h.outq
    have hopn : s.link.uart.opn = [] := by simpa [hp, portOf] using h.opn
    have hu := h.uartOn hp
    have htag : tagCheck op p (taken op p s) = .nowhere := by
      have := h.tag
      simpa [taken, hp, openSlot, replyTo, setPort, portOf, tagCheck] using this
    have hserve : ∀ r, serve runCommand op p r (taken op p s) = runCommand op p r (taken op p s) := fun r => by
      simp [serve, hk, htag, h.length, h.opts, h.fields]
    have htk : taken op p s = { openSlot (replyTo op p s) (maxReply op.toNat) s with
        power := { (openSlot (replyTo op p s) (maxReply op.toNat) s).power with duskDue := false } } := by
      simp [taken, hp]
    rw [← hserve, htk]
    simp only [hostCommand, hostPacket, h.up, hp, h0, h.crc, hver, hu]
    simp [takeCommand, hp, portOf, bufsUsed, outRoom, outUsed, hopn, ho, openSlot, replyTo, setPort, h.e0, h.noon,
      show ¬ (8192 - 384 < maxReply op.toNat) by omega, hwhole, show ¬ 2048 < p.len by omega]

/-- A body has left the orders of the ports as they were when it was reached, HIF_CFG as it was and no read-back for later; of events it has queued for a UART that sends, none is a
COMPLETE. -/
structure PortsKept (op : Byte) (p : Packet) (s x : State) : Prop where
  hcs0 : x.link.hcs0.opn = (taken op p s).link.hcs0.opn
  uart : x.link.uart.opn = (taken op p s).link.uart.opn
  cfg  : regGet x 0x40010000 = regGet s 0x40010000
  reads : x.fer.reads = []
  sent : regBit s 0x40010000 1 = true → ∀ o ∈ x.link.uart.outq, o.slot = none ∧ o.code ≠ 1

theorem taken_outq_uart {op : Byte} {p : Packet} {s : State} (h : Ready op p s) : (taken op p s).link.uart.outq = s.link.uart.outq := by
  cases hp : p.port
  · have ho : s.link.hcs0.outq = [] := by simpa [hp, portOf] using h.outq
    simp [taken, hp, spiOutput_idle ho, openSlot, replyTo, setPort]
  · simp [taken, hp, openSlot, replyTo, setPort, portOf]

theorem Ready.uart_idle {op : Byte} {p : Packet} {s : State} (h : Ready op p s) (hu : regBit s 0x40010000 1 = true) : s.link.uart.outq = [] := by
  have := h.inv.2.2.1
  simpa [State.uartSent, hu] using this

theorem taken_portsKept (op : Byte) (p : Packet) (s : State) (h : Ready op p s) : PortsKept op p s (taken op p s) := by
  refine ⟨rfl, rfl, ?_, ?_, fun hu o ho => ?_⟩
  · cases hp : p.port
    · have ho : s.link.hcs0.outq = [] := by simpa [hp, portOf] using h.outq
      simp [taken, hp, spiOutput_idle ho, openSlot, replyTo, setPort, regGet]
    · simp [taken, hp, openSlot, replyTo, setPort, regGet]
  · obtain ⟨-, -, -, hr⟩ := h.inv
    cases hp : p.port
    · have ho : s.link.hcs0.outq = [] := by simpa [hp, portOf] using h.outq
      simp [taken, hp, spiOutput_idle ho, openSlot, replyTo, setPort, hr]
    · simp [taken, hp, openSlot, replyTo, setPort, hr]
  · rw [taken_outq_uart h, h.uart_idle hu] at ho
    cases ho

/-- What the consumption of a packet can touch: the values that wait for a reply. -/
theorem afterConsumed_frame {o : OutPkt} (h : o.slot.isSome = true ∨ o.code ≠ 1) (y : State) :
    afterConsumed o y = { y with link := { y.link with cfgPend := (afterConsumed o y).link.cfgPend, afterReply := (afterConsumed o y).link.afterReply } } := by
  unfold afterConsumed
  dsimp only
  split
  · split
    · split <;> rfl
    · rfl
  · rename_i hn
    rw [if_neg (by rcases h with h | h <;> simp_all)]

/-- A UART that sends packets that are no COMPLETE touches its queue, the values that wait for a reply and the outward signals. -/
theorem sendFold_touches (q : List OutPkt) (h : ∀ o ∈ q, o.slot.isSome = true ∨ o.code ≠ 1) (y : State) :
    let t := q.foldl (fun s o => afterConsumed o (emitOut (.uartTx o.bytes) s)) y
    t = { y with emit := y.emit ++ q.map (fun o => .uartTx o.bytes), link := { y.link with cfgPend := t.link.cfgPend, afterReply := t.link.afterReply } } := by
  induction q generalizing y with
  | nil => simp
  | cons o q ih =>
    have ho := afterConsumed_frame (h o (by simp)) (emitOut (.uartTx o.bytes) y)
    have hq := ih (fun o hm => h o (by simp [hm])) (afterConsumed o (emitOut (.uartTx o.bytes) y))
    dsimp only at hq ⊢
    rw [List.foldl_cons]
    generalize hg : afterConsumed o (emitOut (.uartTx o.bytes) y) = g at ho hq ⊢
    generalize hr : List.foldl (fun s o => afterConsumed o (emitOut (.uartTx o.bytes) s)) g q = r at hq ⊢
    rw [hq, ho]
    simp [emitOut]

theorem sendUart_touches {y : State} (h : regBit y 0x40010000 1 = true → ∀ o ∈ y.link.uart.outq, o.slot.isSome = true ∨ o.code ≠ 1) :
    (sendUart y = { y with
      emit := (sendUart y).emit
      link := { y.link with uart := (sendUart y).link.uart, cfgPend := (sendUart y).link.cfgPend, afterReply := (sendUart y).link.afterReply } }) ∧
    (regBit y 0x40010000 1 = true → (sendUart y).emit = y.emit ++ y.link.uart.outq.map fun o => .uartTx o.bytes) := by
  by_cases hu : regBit y 0x40010000 1 = true
  · have hf := sendFold_touches y.link.uart.outq (h hu)
      (setPort .uart { y.link.uart with outq := [], last := y.link.uart.outq.getLast?.or y.link.uart.last } y)
    have hs : sendUart y = List.foldl (fun s o => afterConsumed o (emitOut (.uartTx o.bytes) s))
      (setPort .uart { y.link.uart with outq := [], last := y.link.uart.outq.getLast?.or y.link.uart.last } y) y.link.uart.outq := by
      simp [sendUart, hu]
    dsimp only at hf
    rw [← hs] at hf
    generalize hg : sendUart y = g at hf ⊢
    refine ⟨?_, fun _ => ?_⟩ <;> rw [hf] <;> simp [setPort]
  · have hs : sendUart y = y := by unfold sendUart; rw [if_neg hu]
    rw [hs]
    exact ⟨rfl, fun h => absurd h hu⟩

/-- The end of a command whose reply, not counted, has been given: the reply has gone out; the rest is as the body left it. -/
theorem settle_reply {op : Byte} {p : Packet} {s x : State} (h : Ready op p s) (hx : PortsKept op p s x) (st : Byte) (pl : Bytes)
    (h20 : st ≠ 0x20) (h14 : st ≠ 0x14) (q : List Instr) :
    let t : State := { settle (reply (replyTo op p s) st pl x) with pending := q }
    Replied op p st pl s t ∧ t = { x with
      emit := t.emit, pending := q
      link := { x.link with hcs0 := t.link.hcs0, uart := t.link.uart, hirq := t.link.hirq, cfgPend := t.link.cfgPend, afterReply := t.link.afterReply } } := by
  obtain ⟨-, ho, -, -⟩ := h.inv
  rw [ordered_iff] at ho
  have hcount : ∀ y, countStatus st y = y := fun y => by unfold countStatus; rw [if_neg h20, if_neg h14]
  have hbit : ∀ y : State, y.regs = x.regs → regBit y 0x40010000 1 = regBit s 0x40010000 1 := fun y e => by
    rw [regBit_congr e]; simp [regBit, hx.cfg]
  cases hp : p.port
  · have hoq : s.link.hcs0.outq = [] := by simpa [hp, portOf] using h.outq
    have hop : s.link.hcs0.opn = [] := by simpa [hp, portOf] using h.opn
    have h0 : x.link.hcs0.opn = [{ ret := replyTo op p s, room := maxReply op.toNat, pkt := none }] := by
      rw [hx.hcs0]; simp [taken, hp, spiOutput_idle hoq, openSlot, replyTo, setPort, portOf, hop]
    have h1 : x.link.uart.opn = s.link.uart.opn := by
      rw [hx.uart]; simp [taken, hp, spiOutput_idle hoq, openSlot, replyTo, setPort]
    have hr : reply (replyTo op p s) st pl x = { x with link := { x.link with hcs0 := { x.link.hcs0 with
        opn := [{ ret := replyTo op p s, room := maxReply op.toNat, pkt := some (replyPkt (replyTo op p s) st pl false) }] } } } := by
      simp only [reply, hcount]
      simp [replyTo, hp, portOf, setPort, h0, modFirst]
    have hrel : ∃ em, releaseReplies .hcs0 (reply (replyTo op p s) st pl x) = { x with emit := em, link := { x.link with hcs0 :=
        { x.link.hcs0 with outq := x.link.hcs0.outq ++ [replyPkt (replyTo op p s) st pl false], opn := [] } } } := by
      rw [hr]
      unfold releaseReplies
      simp only [portOf, setPort]
      split
      · exact ⟨x.emit ++ [.hirqPulse], by simp [emitOut]⟩
      · exact ⟨x.emit, by simp⟩
    obtain ⟨em, hrel⟩ := hrel
    have hid : releaseReplies .uart (releaseReplies .hcs0 (reply (replyTo op p s) st pl x)) = releaseReplies .hcs0 (reply (replyTo op p s) st pl x) :=
      releaseReplies_id .uart _ (by rw [hrel]; simpa [portOf, h1] using ho.2)
    have hq : releaseReplies .uart (releaseReplies .hcs0 (reply (replyTo op p s) st pl x)) = { x with emit := em, link := { x.link with hcs0 :=
        { x.link.hcs0 with outq := x.link.hcs0.outq ++ [replyPkt (replyTo op p s) st pl false], opn := [] } } } := hid.trans hrel
    obtain ⟨y, hy⟩ : ∃ y, y = releaseReplies .uart (releaseReplies .hcs0 (reply (replyTo op p s) st pl x)) := ⟨_, rfl⟩
    have hset : settle (reply (replyTo op p s) st pl x) = { sendUart y with
        link := { (sendUart y).link with hirq := hirqLevel (sendUart y) }, fer := { (sendUart y).fer with reads := [] } } := by
      rw [hy]; rfl
    rw [← hy] at hq
    have hsend := (sendUart_touches (y := y) (fun hu o hm => by
      have := hx.sent ((hbit y (by rw [hq])).symm.trans hu) o (by rw [hq] at hm; exact hm)
      exact Or.inr this.2)).1
    rw [hset]
    generalize sendUart y = z at hsend ⊢
    dsimp only
    refine ⟨?_, ?_⟩
    · rw [hsend, hq]; simp [Replied, hp]
    · rw [hsend, hq]; simp only [← hx.reads]
  · have hoq : s.link.uart.outq = [] := by simpa [hp, portOf] using h.outq
    have hop : s.link.uart.opn = [] := by simpa [hp, portOf] using h.opn
    have huart := h.uartOn hp
    have h0 : x.link.uart.opn = [{ ret := replyTo op p s, room := maxReply op.toNat, pkt := none }] := by
      rw [hx.uart]; simp [taken, hp, openSlot, replyTo, setPort, portOf, hop]
    have h1 : x.link.hcs0.opn = s.link.hcs0.opn := by
      rw [hx.hcs0]; simp [taken, hp, openSlot, replyTo, setPort]
    have hr : reply (replyTo op p s) st pl x = { x with link := { x.link with uart := { x.link.uart with
        opn := [{ ret := replyTo op p s, room := maxReply op.toNat, pkt := some (replyPkt (replyTo op p s) st pl false) }] } } } := by
      simp only [reply, hcount]
      simp [replyTo, hp, portOf, setPort, h0, modFirst]
    have hrel0 : releaseReplies .hcs0 (reply (replyTo op p s) st pl x) = reply (replyTo op p s) st pl x := by
      apply releaseReplies_id
      rw [hr]
      simpa [portOf, h1] using ho.1
    have hq : releaseReplies .uart (releaseReplies .hcs0 (reply (replyTo op p s) st pl x)) = { x with link := { x.link with uart :=
        { x.link.uart with outq := x.link.uart.outq ++ [replyPkt (replyTo op p s) st pl false], opn := [] } } } := by
      rw [hrel0, hr]
      unfold releaseReplies
      simp [portOf, setPort]
    obtain ⟨y, hy⟩ : ∃ y, y = releaseReplies .uart (releaseReplies .hcs0 (reply (replyTo op p s) st pl x)) := ⟨_, rfl⟩
    have hset : settle (reply (replyTo op p s) st pl x) = { sendUart y with
        link := { (sendUart y).link with hirq := hirqLevel (sendUart y) }, fer := { (sendUart y).fer with reads := [] } } := by
      rw [hy]; rfl
    rw [← hy] at hq
    have hu : regBit y 0x40010000 1 = true := (hbit y (by rw [hq])).trans huart
    have hsend := sendUart_touches (y := y) (fun _ o hm => by
      rw [hq] at hm
      rcases List.mem_append.1 hm with hm | hm
      · exact Or.inr (hx.sent huart o hm).2
      · rw [List.mem_singleton.1 hm]; exact Or.inl rfl)
    have hem := hsend.2 hu
    have hs := hsend.1
    rw [hset]
    generalize sendUart y = z at hem hs ⊢
    dsimp only
    refine ⟨?_, ?_⟩
    · simp only [Replied, hp]; rw [hem, hq]; simp
    · rw [hs, hq]; simp only [← hx.reads]

theorem Ready.of_fresh {op : Byte} {p : Packet} {s : State} (h : Ready op p s) : Ready op p (fresh s) :=
  { up := h.up, uartOn := h.uartOn, header := h.header, size := h.size, whole := h.whole, crc := h.crc, ver := h.ver, noon := h.noon,
    e0 := h.e0, opn := by have := h.opn; cases hp : p.port <;> simpa [hp, portOf] using this
    outq := by have := h.outq; cases hp : p.port <;> simpa [hp, portOf] using this
    inv := fresh_linkInv h.inv, known := h.known, tag := h.tag, length := h.length, opts := h.opts, fields := h.fields, gate := h.gate }

/-- What the path to the body has changed when it is reached. -/
theorem taken_leaves {op : Byte} {p : Packet} {s : State} (h : Ready op p s) : Leaves s (taken op p (fresh s)) := by
  cases hp : p.port
  · have hoq : (fresh s).link.hcs0.outq = [] := by simpa [hp, portOf] using h.outq
    simp only [Leaves, taken, hp, if_true, spiOutput_idle hoq, openSlot, replyTo, setPort]
    rfl
  · simp only [Leaves, taken, hp, openSlot, replyTo, setPort]
    rfl

theorem Leaves.trans {u v w : State} (h : Leaves u v) (k : Leaves v w) : Leaves u w := by
  unfold Leaves at *
  rw [k, h]

/-- The body of a command whose reply is immediate and not counted: the command's next state. -/
theorem exec_replied {op : Byte} {p : Packet} {s x : State} (h0 : Ready op p s) (st : Byte) (pl : Bytes)
    (hb : runCommand op p (replyTo op p (fresh s)) (taken op p (fresh s)) = reply (replyTo op p (fresh s)) st pl x)
    (hx : PortsKept op p (fresh s) x) (hp : x.pending = s.pending) (h20 : st ≠ 0x20) (h14 : st ≠ 0x14) :
    ∃ t, act (hostCommand op p) s = .next t ∧ Replied op p st pl s t ∧ Leaves x t := by
  have h := h0.of_fresh
  refine ⟨_, rfl, ?_⟩
  rw [hostCommand_ready h, hb]
  have hs := settle_reply h hx st pl h20 h14 s.pending
  refine ⟨hs.1, ?_⟩
  have := hs.2
  dsimp only at this ⊢
  generalize ({ settle (reply (replyTo op p (fresh s)) st pl x) with pending := s.pending } : State) = t at this ⊢
  unfold Leaves
  rw [this, ← hp]

/-- A read: the body replies and changes nothing else. -/
theorem exec_read {op : Byte} {p : Packet} {s : State} (h : Ready op p s) (st : Byte) (pl : Bytes)
    (hb : runCommand op p (replyTo op p (fresh s)) (taken op p (fresh s)) = reply (replyTo op p (fresh s)) st pl (taken op p (fresh s)))
    (h20 : st ≠ 0x20) (h14 : st ≠ 0x14) :
    ∃ t, act (hostCommand op p) s = .next t ∧ Replied op p st pl s t ∧ Leaves s t := by
  obtain ⟨lk, hl⟩ := taken_eq h.of_fresh
  obtain ⟨t, ht, hr, he⟩ := exec_replied h st pl hb (taken_portsKept op p (fresh s) h.of_fresh) (by rw [hl]; rfl) h20 h14
  exact ⟨t, ht, hr, (taken_leaves h).trans he⟩

end Sys2Proof.Machine
end

