-- ==== Sys2Proof/WellFormed.lean ====
section
/-! DEFINITION. What the operands of a command can be on the wire: the ranges that the fields of a packet, a transaction, an
instruction or an event have, and, where several rows share an opcode, the field that tells them apart. -/
namespace Sys2Proof

/-- A packet: LEN is a 16-bit field, the header has 8 bytes, and no more than LEN payload bytes arrive (R333). -/
def packetWf (p : Packet) : Bool := p.len < 65536 && p.header ≤ 8 && p.payload.length ≤ p.len

/-- A packet of an opcode that has a row for each value of one payload byte: the row's value, or a value that no row has (R385, R386, R390). -/
def subWf (off last n : Nat) (p : Packet) : Bool :=
  packetWf p && (match p.payload[off]? with
    | some b => b.toNat == n || b.toNat == 0 || decide (last < b.toNat)
    | none => true)

/-- A version 1 transaction carries the 11 bytes P0–P10 (R359). -/
def v1Wf (f : V1Frame) : Bool := f.p.length == 11

/-- An instruction has at most three EXT words before it is no instruction (R444), and 14 or 12 bits. -/
def engOpWf (o : EngOp) : Bool := o.ext.length ≤ 3 && o.w.toNat < 16384

/-- A CAN identifier has 11 or 29 bits. -/
def idWf (xid : Bool) (id : Nat) : Bool := id < (if xid then 536870912 else 2048)

/-- Data bytes of a DLC. -/
def dlcLen (fd : Bool) (dlc : Nat) : Nat :=
  if dlc ≤ 8 then dlc else if !fd then 8 else [12, 16, 20, 24, 32, 48, 64].getD (dlc - 9) 64

/-- A frame on a CAN bus. -/
def busWf (f : BusFrame) : Bool := idWf f.xid f.id && f.data.length ≤ (if f.fd then 64 else 8)

/-- A received CAN frame: its data are those of its DLC; a remote frame has none and is classical. -/
def canRxWf (f : CanRx) : Bool :=
  idWf f.xid f.id && (if f.rtr then f.data.isEmpty && !f.fd else f.data.length == dlcLen f.fd f.dlc.val)

/-- A radio frame has at most 2,200 bytes on air, the length of the longest coded LE frame, one of the presets, and a check field of at most 24 bits (R134, R138). -/
def rxWf (f : RxFrame) : Bool := f.data.length ≤ 2200 && f.preset < 6 && f.check < 16777216

/-- What a sniff finds is a frame of at most 255 bytes with a CRC-16 (R140). -/
def sniffWf : SniffFind → Bool
  | .noSync => true
  | .frame data check => data.length ≤ 255 && check < 65536

/-- A sensor frame is a radio frame; its qualities are those of at most four inputs (R140, R248). -/
def snsWf (f : SnsFrame) : Bool := rxWf f.air && decide (f.q.length ≤ 4)

/-- A coupling PDU: LEN is a 16-bit field; a MAC has 8 bytes (R211). -/
def pduWf (p : CplPdu) : Bool := p.payload.length < 65536 && (p.mac.isEmpty || p.mac.length == 8)

/-- A transport frame fits its medium (R510, R513). -/
def tpWf (f : TpFrame) : Bool := f.body.length ≤ (if f.plc then 14 else 6)

/-- A J2497 message has at most 20 bytes before its checksum (R511). -/
def plcWf (f : PlcRx) : Bool := !f.data.isEmpty && f.data.length ≤ 20

/-- A LIN response has 1 to 8 bytes (R516). -/
def linWf : LinAnswer → Bool
  | .silent => true
  | .badSum => true
  | .data b => 1 ≤ b.length && b.length ≤ 8

/-- At most three lanes carry current, each on its own channel (R97). -/
def lfWf (m : LfMeas) : Bool := m.lanes.length ≤ 3 && decide (m.lanes.map (·.ch)).Nodup

/-- An exchange has at most 64 bits; RBE_CONFIRM has 16 bytes (R175, R179). -/
def rbeWf (m : RbeMeas) : Bool :=
  m.bits.length ≤ 64 && (match m.confirm with
    | some b => b.length == 16
    | none => true)

/-- The pages that Dawn names lie in the logical space (R299). -/
def dawnWf (m : DawnMeas) : Bool := m.stillBad.all (· < 1920)

/-- An OEM engine (R13). -/
def oemWf (k : Fin 12) : Bool := 9 ≤ k.val

/-- A register address is a multiple of 4 (R380). -/
def addrWf (a : Nat) : Bool := a % 4 == 0

/-- A version 2 opcode that the table defines (R374). -/
def definedV2 (op : Nat) : Bool :=
  [(0x00, 10), (0x10, 5), (0x20, 7), (0x30, 16), (0x40, 4), (0x50, 3), (0x60, 4), (0x70, 8), (0x80, 13), (0x90, 5), (0xA0, 5), (0xB0, 3), (0xC0, 3)].any
    fun (r : Nat × Nat) => decide (r.1 ≤ op) && decide (op < r.1 + r.2)

/-- A version 1 opcode that the table lists (R399). -/
def definedV1 (op : Nat) : Bool :=
  [0x00, 0x01, 0x02, 0x03, 0x08, 0x09, 0x10, 0x11, 0x18, 0x19, 0x20, 0x21, 0x22, 0x23, 0x28, 0x30, 0x31, 0x32, 0x38, 0x39].contains op

/-- An undefined opcode with the packet or transaction it came in. -/
def badOpWf (op : Byte) : BadOpcode → Bool
  | .v2 p => packetWf p && !definedV2 op.toNat
  | .v1 f => v1Wf f && !definedV1 op.toNat

/-- The operands of a command are within the ranges of their fields. -/
def wellFormed : Instr → Bool
  | .nop p => packetWf p
  | .identify p => packetWf p
  | .status p => packetWf p
  | .query p => packetWf p
  | .collect p => packetWf p
  | .reset p => packetWf p
  | .resetAfterReply => true
  | .power p => packetWf p
  | .configSet p => packetWf p
  | .timeSet p => packetWf p
  | .pendingList p => packetWf p
  | .regRead p => packetWf p
  | .regWrite p => packetWf p
  | .regModify p => packetWf p
  | .memRead p => packetWf p
  | .memWrite p => packetWf p
  | .nvmRead p => packetWf p
  | .nvmWrite p => packetWf p
  | .nvmUnlock p => packetWf p
  | .nvmLock p => packetWf p
  | .nvmPassword p => packetWf p
  | .nvmRegions p => packetWf p
  | .counterRead p => packetWf p
  | .authNonce p => packetWf p
  | .keyGen p => packetWf p
  | .keyGenBlob p => packetWf p
  | .importSession p => packetWf p
  | .keyImport p => packetWf p
  | .keyImportBlob p => packetWf p
  | .keyUpdate p => packetWf p
  | .keyDestroy p => packetWf p
  | .keyLoad p => packetWf p
  | .keyUnload p => packetWf p
  | .cmac p => subWf 1 6 1 p
  | .cmacVerify p => subWf 1 6 2 p
  | .sign p => subWf 1 6 3 p
  | .ecdh p => subWf 1 6 4 p
  | .derive p => subWf 1 6 5 p
  | .wrap p => subWf 1 6 6 p
  | .epochInc p => packetWf p
  | .attest p => packetWf p
  | .debugMode p => packetWf p
  | .anchorSet p => packetWf p
  | .couplingKey p => subWf 0 3 1 p
  | .couplingCert p => subWf 0 3 2 p
  | .immoKey p => subWf 0 3 3 p
  | .lfTest p => packetWf p
  | .lfRetest p => packetWf p
  | .lfOffsetCal p => packetWf p
  | .lfTable p => packetWf p
  | .radioCal p => packetWf p
  | .radioTx p => packetWf p
  | .radioSave p => packetWf p
  | .modelSet p => packetWf p
  | .modelGet p => packetWf p
  | .range p => packetWf p
  | .rangeSave p => packetWf p
  | .decide p => packetWf p
  | .decisionLog p => packetWf p
  | .enrol p => packetWf p
  | .revoke p => packetWf p
  | .recordState p => packetWf p
  | .override p => subWf 0 7 1 p
  | .trlOwnList p => subWf 0 7 2 p
  | .lockedAns p => subWf 0 7 3 p
  | .endCurfew p => subWf 0 7 4 p
  | .clearSloFault p => subWf 0 7 5 p
  | .profilePolicy p => subWf 0 7 6 p
  | .enrolLimit p => subWf 0 7 7 p
  | .tokenRead p => packetWf p
  | .denyRead p => packetWf p
  | .couple p => packetWf p
  | .decouple p => packetWf p
  | .couplingQuery p => packetWf p
  | .partnerList p => packetWf p
  | .rosterAdd p => packetWf p
  | .rosterRemove p => packetWf p
  | .wheelSet p => packetWf p
  | .locate p => packetWf p
  | .wheelModelSet p => packetWf p
  | .s1Learn p => packetWf p
  | .sensorRead p => packetWf p
  | .historyRead p => packetWf p
  | .sensorSet p => packetWf p
  | .canTx p => packetWf p
  | .canRx p => packetWf p
  | .plcTx p => packetWf p
  | .linXfer p => packetWf p
  | .busSave p => packetWf p
  | .engLoad p => packetWf p
  | .engCtrl p => packetWf p
  | .mbxWrite p => packetWf p
  | .mbxRead p => packetWf p
  | .ucodeWrite p => packetWf p
  | .tmrRead p => packetWf p
  | .tmrArm p => packetWf p
  | .tmrCfg p => packetWf p
  | .faultRead p => packetWf p
  | .inject p => packetWf p
  | .tamperClear p => packetWf p
  | .readOnlyTransaction first _ => first != 0xC3 && first != 0x5A
  | .replayTransaction _ => true
  | .clash => true
  | .uartGapTimeout _ p => packetWf p && p.port == .uart
  | .uartCfgWrite => true
  | .hifCfgWrite => true
  | .evtLost => true
  | .completeRequeue => true
  | .dawnQueueProcess => true
  | .v1Nop f => v1Wf f
  | .ident f => v1Wf f
  | .v1Status f => v1Wf f
  | .softReset f => v1Wf f
  | .v1RegRead f => v1Wf f
  | .v1RegWrite f => v1Wf f
  | .eeRead f => v1Wf f
  | .eeWrite f => v1Wf f
  | .t2Poll f => v1Wf f
  | .t2Result f => v1Wf f
  | .s1Count f => v1Wf f
  | .s1Read f => v1Wf f
  | .s1Add f => v1Wf f
  | .s1Remove f => v1Wf f
  | .v1LfTest f => v1Wf f
  | .j12Begin f => v1Wf f
  | .j12Data f => v1Wf f
  | .j12End f => v1Wf f
  | .v1MbxWrite f => v1Wf f
  | .v1MbxRead f => v1Wf f
  | .v1ShortTransaction => true
  | .acceptedWorkStart => true
  | .acceptedWorkStep _ _ _ => true
  | .wakePinEdge _ => true
  | .startRequestFrame f => busWf f
  | .presenceFrame _ => true
  | .duskBeacon => true
  | .queuedTriggerStart => true
  | .t3Reply f _ => rxWf f
  | .t2Reply f => rxWf f
  | .phoneAnswer _ _ => true
  | .winDone _ _ => true
  | .curfewEnd => true
  | .releaseRefreshTimeout => true
  | .releaseDurationEnd => true
  | .releaseTrack => true
  | .releaseReadback _ _ => true
  | .idleReadback _ _ => true
  | .periodMonitor _ => true
  | .releaseSelfTest _ => true
  | .immoChallenge f => busWf f
  | .enrolAttempt => true
  | .enrolTimeout => true
  | .lfGo src => src ≤ 32
  | .lfAbort => true
  | .lfFlush => true
  | .lfxFifoData _ => true
  | .lfFifoEntry m => lfWf m
  | .lfxCommit _ => true
  | .lfxEaccReq _ => true
  | .eaccBin _ _ => true
  | .vlfWindowChange _ => true
  | .lfShort _ _ => true
  | .lfOpenRetest _ _ _ => true
  | .lfShortClear _ _ _ => true
  | .txDescriptorQueue _ _ _ => true
  | .txDescriptorStart _ _ _ _ => true
  | .txFrameEnd _ _ => true
  | .rxFrame f => rxWf f
  | .rxWindowOpen _ => true
  | .rflCommit _ _ _ => true
  | .rflCalStart _ _ => true
  | .recalPend _ => true
  | .lockLoss _ _ => true
  | .failoverRetry _ _ => true
  | .mismatch _ _ => true
  | .sniffPeriod x => sniffWf x.found
  | .rbeExchangeStart _ => true
  | .rbeExchangeDone m => rbeWf m
  | .rngAbort => true
  | .rngRbeKeyld _ => true
  | .respArm _ _ => true
  | .mcpEventStart => true
  | .mcpEventDone _ _ => true
  | .csProcedureDone _ _ => true
  | .couplingLinkUp _ _ _ => true
  | .hello p => pduWf p
  | .cert p => pduWf p
  | .keyshare p => pduWf p
  | .confirm p => pduWf p
  | .rbeArm p => pduWf p
  | .rbeResult p => pduWf p
  | .roster p => pduWf p
  | .rosterAck p => pduWf p
  | .driverGrant p => pduWf p
  | .driverLeft p => pduWf p
  | .keepalive _ => true
  | .bye p => pduWf p
  | .stepTo _ => true
  | .helloWaitTimeout _ => true
  | .mediumFallback _ => true
  | .couplingLinkLoss _ => true
  | .holdExpiry _ => true
  | .couplingRestart _ => true
  | .grantRepeatTimeout => true
  | .tpSegmentFrame f => tpWf f
  | .tpAckFrame _ _ _ _ => true
  | .tpGapTimeout _ _ => true
  | .tpAckTimeout _ _ => true
  | .sensorState _ _ data => data.length == 8
  | .sensorStateSend _ => true
  | .data f => snsWf f
  | .alarm f => snsWf f
  | .loc f => snsWf f
  | .sreport f => snsWf f
  | .s1Frame f => snsWf f
  | .fcntCommit _ => true
  | .autoLocationStart => true
  | .wakeDeferTimeout => true
  | .wakeRetry => true
  | .stationaryTimeout => true
  | .learnWindowEnd => true
  | .histPeriod _ => true
  | .stale _ => true
  | .zeroise _ => true
  | .close _ => true
  | .nonceExpiry => true
  | .importSessionExpiry => true
  | .pageCommitDone _ => true
  | .counterIncrementDone => true
  | .patrol => true
  | .scan => true
  | .sundownSave _ => true
  | .vsupRecovery => true
  | .oemEvent k data => oemWf k && data.length ≤ 63
  | .oemNvmWrite k data => oemWf k && data.length ≤ 63
  | .rtcRead k => oemWf k
  | .nopInstruction o => engOpWf o
  | .siesta o => engOpWf o
  | .trap o => engOpWf o
  | .reti o => engOpWf o
  | .fence o => engOpWf o
  | .sync o => engOpWf o
  | .mfs o => engOpWf o
  | .mts o => engOpWf o
  | .mov o => engOpWf o
  | .movi o => engOpWf o
  | .add o => engOpWf o
  | .sub o => engOpWf o
  | .adc o => engOpWf o
  | .sbc o => engOpWf o
  | .and o => engOpWf o
  | .or o => engOpWf o
  | .xor o => engOpWf o
  | .cmp o => engOpWf o
  | .tst o => engOpWf o
  | .addi o => engOpWf o
  | .neg o => engOpWf o
  | .not o => engOpWf o
  | .abs o => engOpWf o
  | .clz o => engOpWf o
  | .lsl o => engOpWf o
  | .lsr o => engOpWf o
  | .asr o => engOpWf o
  | .ror o => engOpWf o
  | .mul o => engOpWf o
  | .mulh o => engOpWf o
  | .mulhu o => engOpWf o
  | .div o => engOpWf o
  | .rem o => engOpWf o
  | .ld o => engOpWf o
  | .st o => engOpWf o
  | .ldx o => engOpWf o
  | .stx o => engOpWf o
  | .push o => engOpWf o
  | .pop o => engOpWf o
  | .bcc o => engOpWf o
  | .jmp o => engOpWf o
  | .call o => engOpWf o
  | .ret o => engOpWf o
  | .stMove o => engOpWf o
  | .bset o => engOpWf o
  | .bclr o => engOpWf o
  | .btst o => engOpWf o
  | .wait o => engOpWf o
  | .signal o => engOpWf o
  | .evclr o => engOpWf o
  | .evrd o => engOpWf o
  | .cryi o => engOpWf o
  | .crys o => engOpWf o
  | .movs o _ => engOpWf o
  | .fills o _ => engOpWf o
  | .cmps o _ => engOpWf o
  | .scans o _ => engOpWf o
  | .crcs o _ => engOpWf o
  | .chku o => engOpWf o
  | .chks o => engOpWf o
  | .chklen o => engOpWf o
  | .udn o => engOpWf o
  | .eventEntry _ => true
  | .wdtFirstExpiry _ => true
  | .wdtSecondExpiry _ => true
  | .engineRestart _ => true
  | .engineRunAction _ => true
  | .engineSiestaAction _ => true
  | .engineResetAction _ => true
  | .wdkick _ _ => true
  | .send _ => true
  | .mbxPop _ => true
  | .ucLo _ _ => true
  | .counterStart _ => true
  | .counterStop _ => true
  | .tmbCommit _ => true
  | .tmbCntWrite _ _ => true
  | .compareArm _ _ => true
  | .disarm _ => true
  | .compareFire _ => true
  | .capture _ _ => true
  | .captureRead _ => true
  | .canFrameRx f => canRxWf f
  | .canTxDone _ => true
  | .canTxTimeout _ _ => true
  | .req _ _ => true
  | .canTxAbort _ _ => true
  | .canRxPop _ _ => true
  | .canCommit _ _ => true
  | .restart _ => true
  | .busOff _ => true
  | .busOffRecovery _ => true
  | .speedTimeout => true
  | .plcMessageRx f => plcWf f
  | .txReq => true
  | .plcAccessTimeout => true
  | .plcRxPop => true
  | .linSlot x => linWf x
  | .go => true
  | .linWake => true
  | .tamperSensorAssert _ => true
  | .vigilDetection _ => true
  | .injectGo => true
  | .withdraw => true
  | .liveInjectionAct _ _ => true
  | .injectNotObserved => true
  | .powerOn _ => true
  | .xoQualified m => dawnWf m
  | .xoFail => true
  | .noon => true
  | .pin _ => true
  | .testNLow _ => true
  | .clock _ _ => true
  | .vmon _ _ => true
  | .vddioLow => true
  | .rtcFail => true
  | .rtcAlarm => true
  | .duskEntry => true
  | .duskExit => true
  | .midnightEntry _ => true
  | .autoMidnight _ => true
  | .wake _ => true
  | .recoveryCredential _ => true
  | .recoveryBootWrite _ _ _ => true
  | .gpioSet _ => true
  | .gpioClr _ => true
  | .gpioTgl _ => true
  | .gpioLock _ => true
  | .funcChange _ _ => true
  | .gpioEdge _ _ => true
  | .reseed => true
  | .retest _ => true
  | .healthFail _ => true
  | .rcRegisterRead _ addr => addrWf addr
  | .registerWrite _ addr _ => addrWf addr
  | .undefinedOpcode op x => badOpWf op x
  | .stopBitError => true
  | .und o => engOpWf o
  | .debugReset => true
  | .vddioQualified _ => true
  | .counterClock _ => true
  | .cryCommandDone _ _ _ => true
  | .plcTxDone => true
  | .integration _ => true
  | .connectionEvent _ _ _ => true
  | .phoneConnection _ _ => true
  | .linHeader _ _ x => linWf x
  | .nextStop => true
  | .grantLapse => true

end Sys2Proof
end

