-- ==== Sys2Proof/Tests/Slice0.lean ====
section
/-! SUPPORT. Tests. States built by small helpers on which the premises of the statements hold, clause by clause, so that no statement is empty: each theorem takes a
statement and draws from its clauses that the commands named answer a next state. Before them: for each check of the operands a command that it refuses, the manual's
worked examples, and the published vectors of the algorithms that the manual names. -/
namespace Sys2Proof.Tests
open Sys2Proof Sys2Proof.Machine
set_option maxRecDepth 10000
set_option Elab.async false

/-! ### Premises as tests -/

/-- Premises that are decided together. -/
theorem all3 {a b c r : Prop} (f : a → b → c → r) : a ∧ b ∧ c → r := fun ⟨ha, hb, hc⟩ => f ha hb hc
theorem all4 {a b c d r : Prop} (f : a → b → c → d → r) : a ∧ b ∧ c ∧ d → r := fun ⟨ha, hb, hc, hd⟩ => f ha hb hc hd
theorem all5 {a b c d e r : Prop} (f : a → b → c → d → e → r) : a ∧ b ∧ c ∧ d ∧ e → r := fun ⟨ha, hb, hc, hd, he⟩ => f ha hb hc hd he
theorem all6 {a b c d e g r : Prop} (f : a → b → c → d → e → g → r) : a ∧ b ∧ c ∧ d ∧ e ∧ g → r := fun ⟨ha, hb, hc, hd, he, hg⟩ => f ha hb hc hd he hg

/-- The answer of a clause of a statement: a next state. -/
theorem ans1 {α : Type} {o : Host.Outcome State Fault Refusal} {G : α → State} {P : α → Prop} : (∃ x, o = .next (G x) ∧ P x) → Answers o := fun ⟨x, h, _⟩ => ⟨G x, h⟩
theorem ans2 {α β : Type} {o : Host.Outcome State Fault Refusal} {G : α → β → State} {P : α → β → Prop} : (∃ x y, o = .next (G x y) ∧ P x y) → Answers o :=
  fun ⟨x, y, h, _⟩ => ⟨G x y, h⟩
theorem ans3 {α β : Type} {o : Host.Outcome State Fault Refusal} {G : State → α → β → State} {P : State → α → β → Prop} : (∃ t x y, o = .next (G t x y) ∧ P t x y) → Answers o :=
  fun ⟨t, x, y, h, _⟩ => ⟨G t x y, h⟩
theorem ansR {α : Type} {o : Host.Outcome State Fault Refusal} {A : α → Prop} {G : State → α → State} {P : State → α → Prop} : (∃ t x, A x ∧ o = .next (G t x) ∧ P t x) → Answers o :=
  fun ⟨t, x, _, h, _⟩ => ⟨G t x, h⟩
theorem ansE {o : Host.Outcome State Fault Refusal} {u : State} : o = .next u → Answers o := fun h => ⟨u, h⟩

theorem ansIf {c : Prop} [Decidable c] {o : Host.Outcome State Fault Refusal} {u v : State} : (if c then o = .next u else o = .next v) → Answers o := fun h => by
  split at h
  · exact ⟨_, h⟩
  · exact ⟨_, h⟩

theorem some_of {α : Type} {x : Option α} (h : x.isSome = true) : x = some (x.get h) := (Option.some_get h).symm
theorem cons_of {α : Type} {x : List α} (h : x ≠ []) : x = x.head h :: x.tail := (List.cons_head_tail h).symm
def okGet {ε α : Type} : (x : Except ε α) → x.isOk = true → α
  | .ok a, _ => a
theorem ok_of {ε α : Type} : {x : Except ε α} → (h : x.isOk = true) → x = .ok (okGet x h)
  | .ok _, _ => rfl
theorem ok3_of {ε α β γ : Type} {x : Except ε (α × β × γ)} (h : x.isOk = true) : x = .ok ((okGet x h).1, (okGet x h).2.1, (okGet x h).2.2) := ok_of h
def errGet {ε α : Type} : (x : Except ε α) → x.isOk = false → ε
  | .error e, _ => e
theorem err_of {ε α : Type} : {x : Except ε α} → (h : x.isOk = false) → x = .error (errGet x h)
  | .error _, _ => rfl

/-- The premises that statements share, as tests. -/
def linkB (s : State) : Bool := s.hirqOk && s.ordered && s.uartSent && s.fer.reads.isEmpty
theorem link_of {s : State} (h : linkB s = true) : s.LinkInv := by
  simp only [linkB, Bool.and_eq_true] at h
  exact ⟨h.1.1.1, h.1.1.2, h.1.2, List.isEmpty_iff.1 h.2⟩
def arrivesB (p : Packet) (s : State) : Bool :=
  decide (linkUp s = true ∧ (p.port = .uart → regBit s 0x40010000 1 = true) ∧ (portOf s p.port).opn = [] ∧ (portOf s p.port).outq = []) && linkB s
theorem arrives_of {p : Packet} {s : State} (h : arrivesB p s = true) : Arrives p s := by
  simp only [arrivesB, Bool.and_eq_true, decide_eq_true_eq] at h
  exact ⟨h.1.1, h.1.2.1, h.1.2.2.1, h.1.2.2.2, link_of h.2⟩
def soundB (op : Byte) (p : Packet) : Bool :=
  decide (8 ≤ p.header ∧ p.len ≤ 2048 ∧ p.payload.length = p.len ∧ p.crc = some (pktCrc p op) ∧ p.verFlags &&& 0xFB = 0x20)
theorem sound_of {op : Byte} {p : Packet} (h : soundB op p = true) : Sound op p := by
  simp only [soundB, decide_eq_true_eq] at h
  exact ⟨h.1, h.2.1, h.2.2.1, h.2.2.2.1, h.2.2.2.2⟩
def readyB (op : Byte) (p : Packet) (s : State) : Bool :=
  arrivesB p s && soundB op p && decide (s.power.state = .noon ∧ s.link.e0Restart = false ∧ (opKind op.toNat).isSome = true ∧ tagCheck op p s = .nowhere ∧
    lenOk op.toNat (pktCred p) p.payload = true ∧ optionsOk op.toNat p.options (pktBody p) = true ∧ opFields op.toNat (pktBody p) = none ∧ roleGated op.toNat s = false)
theorem ready_of {op : Byte} {p : Packet} {s : State} (h : readyB op p s = true) : Ready op p s := by
  simp only [readyB, Bool.and_eq_true, decide_eq_true_eq] at h
  obtain ⟨⟨a, b⟩, c⟩ := h
  have a := arrives_of a
  have b := sound_of b
  obtain ⟨c1, c2, c3, c4, c5, c6, c7, c8⟩ := c
  constructor <;> first | assumption | exact a.up | exact a.uartOn | exact a.opn | exact a.outq | exact a.inv | exact b.header | exact b.size | exact b.whole | exact b.crc | exact b.ver
def passesB (op : Byte) (own : Option (Byte × Nat)) (roles : List CredRole) (need : Bool) (p : Packet) (s : State) : Bool :=
  decide (own = none ∧ (p.tag = 0 → bit p.verFlags.toNat 2 = false) ∧ (p.tag = 0 → (s.jrn.loose.filter fun w => w.state != .done).length < 4) ∧
     (p.tag ≠ 0 → s.jrn.works.length + s.jrn.accepting.length < 32) ∧ (pktCred p = true → (packetCred op p roles s).1.isSome = true) ∧ (pktCred p = false → need = false))
theorem passes_of {op : Byte} {own : Option (Byte × Nat)} {roles : List CredRole} {need : Bool} {p : Packet} {s : State} (h : passesB op own roles need p s = true) :
    Passes op own roles need p s := by
  simp only [passesB, decide_eq_true_eq] at h
  exact ⟨h.2.1, h.2.2.1, h.2.2.2.1, h.1, h.2.2.2.2.1, h.2.2.2.2.2⟩
def stepsB (op : Byte) (w : Work) (m : StepMeas) (s : State) : Bool :=
  linkB s && cleanReads m && decide (s.power.state = .noon ∧ s.link.e0Restart = false ∧ s.jrn.works.find? (fun x => x.seq == w.seq) = some w ∧ w.state = .running ∧ w.parked = false ∧
    w.engineOut s = false ∧ w.opcode = op ∧ w.tag ≠ 0 ∧ s.link.v1Wait = none)
theorem steps_of {op : Byte} {w : Work} {m : StepMeas} {s : State} (h : stepsB op w m s = true) : StepsNow op w m s := by
  simp only [stepsB, Bool.and_eq_true, decide_eq_true_eq] at h
  obtain ⟨⟨a, c⟩, b1, b2, b3, b4, b5, b6, b7, b8, b9⟩ := h
  exact ⟨b1, b2, b3, b4, b5, b6, b7, b8, b9, c, link_of a⟩
def takesB (s : State) : Bool :=
  linkB s && decide (v1Up s = true ∧ s.power.state = .noon ∧ s.link.e0Restart = false ∧ s.link.v1Wait = none ∧ s.link.v1Busy = none ∧ s.link.v1Reply.all (byteAt · 1 != 3) = true)
theorem takes_of {s : State} (h : takesB s = true) : V1Takes s := by
  simp only [takesB, Bool.and_eq_true, decide_eq_true_eq] at h
  obtain ⟨a, b1, b2, b3, b4, b5, b6⟩ := h
  exact ⟨b1, b2, b3, b4, b5, fun r hr => by simpa [hr] using b6, link_of a⟩
def v1B (op : Nat) (p : Bytes) (s : State) : Bool :=
  decide ((p.drop (v1Params op)).any (· != 0) = false ∧ (0x18 ≤ op → op ≤ 0x23 → s.cfg.role ≠ .none) ∧ (v1Writes.contains op = true → regBit s 0x40010014 1 = true) ∧
    objsMeet (v1Objs s op p) (heldObjs s) = false)
theorem v1_of {op : Nat} {p : Bytes} {s : State} (h : v1B op p s = true) : V1Passes op p s := by
  simp only [v1B, decide_eq_true_eq] at h
  exact ⟨h.1, h.2.1, h.2.2.1, h.2.2.2⟩
def pduB (type : Nat) (p : CplPdu) (s : State) : Bool :=
  let u := p.unit.val + 1
  linkB s && decide (awake s = true ∧ (cplUnits s).contains u = true ∧ cplOnMedium s p = true ∧ s.cpl.units.map (·.unit) = [1, 2, 3] ∧ p.payload.length ≤ 2040 ∧ p.flags.toNat ≤ 3 ∧
    (type ≠ 1 → (unitOf s u).seqRx ≤ p.seq.toNat)) &&
  (!(bit p.flags.toNat 1 || macNeeded (unitOf s u) (sessionKey s u 0).isSome type (bit p.flags.toNat 0)) ||
    (bit p.flags.toNat 1 && (sessionKey s u 0).any fun k => p.mac == (cmac k (cplPduHead type p)).take 8))
theorem pdu_of {type : Nat} {p : CplPdu} {s : State} (h : pduB type p s = true) : PduGood type p s := by
  simp only [pduB, Bool.and_eq_true, decide_eq_true_eq, Bool.or_eq_true, Bool.not_eq_true', Option.any_eq_true, beq_iff_eq] at h
  obtain ⟨⟨a, b1, b2, b7, b3, b4, b5, b6⟩, c⟩ := h
  refine ⟨b1, link_of a, b2, b7, b3, b4, b5, fun m => ?_, b6⟩
  rcases c with c | ⟨c1, k, c2, c3⟩
  · rw [c] at m
    cases m
  · exact ⟨c1, k, c2, c3⟩
def meetsB (o : EngOp) (op : EOp) (s : State) : Bool :=
  linkB s && decide (running s = true ∧ o.fetch = .clean ∧ o.data = .clean ∧ s.saf.inject = none ∧ (engOf s o.k).wdtHeld = false ∧ (engOf s o.k).state = .run ∧ opAtPc o s = true ∧
    fetchOut o s = none ∧ engDecode (decCtx s o.k) o.ext o.w = .ok op)
theorem meets_of {o : EngOp} {op : EOp} {s : State} (h : meetsB o op s = true) : Meets o op s := by
  simp only [meetsB, Bool.and_eq_true, decide_eq_true_eq] at h
  obtain ⟨a, b0, b1, b2, b3, b4, b5, b6, b7, b8⟩ := h
  exact ⟨⟨b0, link_of a⟩, b5, b6, b7, b8, b1, b2, b3, b4⟩
def cal0 : CalMeas := { iso0 := 30, iso1 := 30, imgA := 40, imgB := 40, imgH := 40, tune := 1 }
/-- The device in Noon with nothing under way. -/
def noon : State := { State.reset with
  power := { Power.reset with state := .noon, stage := .done, pll := true, vddioOk := true }
  link := { HostLink.reset with answers := true } }

/-- A packet on HCS0_N with the right length and CRC. -/
def pk (op : Byte) (pl : Bytes) (tag : Half := 0) (opt : Byte := 0) (port : VPort := .hcs0) : Packet :=
  let p : Packet := { port := port, verFlags := 0x20, options := opt, tag := tag, len := pl.length, payload := pl, crc := none, header := 8, clocked := 4096 }
  { p with crc := some (pktCrc p op) }

/-- The state with the key store open, its derived keys at test values. -/
def keysOpen (s : State) : State :=
  { s with ks := { s.ks with state := .open, kwk := some (zeros 32), storage := some (zeros 32), attD := some 1 } }

def asTractor (s : State) : State := { s with cfg := { s.cfg with role := .tractor } }
def asTrailer (s : State) : State := { s with cfg := { s.cfg with role := .trailer } }
def uartOn (s : State) : State := regPutFld 0x40010000 1 1 1 s

/-- A record of tagged work. -/
def wk (op : Byte) (st : WorkState) (pl : Bytes) (seq : Nat := 1) (tag : Half := 7) : Work :=
  { seq := seq, tag := tag, opcode := op, options := 0, flags := 0x20, src := .hcs0, pktCrc := 0, payload := pl, area := 0xFF, state := st, step := 0, pct := 0, status := 0,
    stepData := [], result := [], cred := none, ready := none, parked := false, completeDue := false }
def withWorks (l : List Work) (s : State) : State := { s with jrn := { s.jrn with works := l } }

/-- The state with one outstanding nonce and a trust anchor. -/
def anchored (i : Nat) (pub : Nat) (s : State) : State :=
  { s with ks := { s.ks with nonces := [zeros 16], anchors := [{ index := i, keyId := 0x11223344, valid := true, pub := be 64 pub }] } }
/-- A packet with a credential. -/
def pkc (op : Byte) (pl : Bytes) (cred : Nat) (tag : Half := 0) : Packet := pk op (pl ++ be 212 cred) tag 0x80
def aesKey : Bytes := (List.range 16).map byte
def hdr (kt us attr : Nat) : BlobHeader := { magic := 0x4B42, version := 1, ktype := kt, usage := us, attr := attr, epochIdx := 0xFF, epochVal := 0, keyId := 5, owner := 0 }
def keySlot (i kt us attr : Nat) (key : Bytes) : Slot := mkSlot i (hdr kt us attr) kt us key none
def slots (l : List Slot) (s : State) : State := { s with ks := { s.ks with slots := l } }
def handle (n : Nat) (blob : Bytes) (s : State) : State := { s with ks := { s.ks with handles := [{ index := n, a := { blob := blob, readable := true }, b := { blob := [], readable := true } }] } }
/-- A key region, with slot 40 holding an AES key that may do all. -/
def keysK : State := slots [keySlot 40 1 0x7F 0 aesKey] (keysOpen noon)
def tok (i : Nat) (st : TokState) (c : TokClass) (h : Bool) : TokenRec :=
  { index := i, state := st, cls := c, bandH := h, tokenId := BitVec.ofNat _ (100 + i), keyHandle := 197, expiry := 0, enrolNum := 0, revokeEpoch := 0, lastSeen := 0, lastZone := 0 }
def toks (l : List TokenRec) (s : State) : State := { s with acc := { s.acc with tokens := l } }
/-- The state with sensor records. -/
def sensors (l : List Sensor) (s : State) : State := { s with sns := { s.sns with sensors := l } }
def engAt (k : Fin 12) (f : Engine → Engine) (s : State) : State := { s with eng := s.eng.set k (f (engOf s k)) }
def tg : Telegram :=
  { nco := 0, estimate := 10, charged := 5, ceiling := 1000, lanes := [], wake := [], driven := false, rest := [], checked := false, ticks := 10, events := 2, excluded := 0, endDue := false }
def canAt (f : Can → Can) (s : State) : State := { s with bus := { s.bus with can0 := f s.bus.can0 } }
def w3 (s : State) : State := { s with
  acc := { s.acc with release := { s.acc.release with active := true, outcome := .start, driven := true }, decision := some (newDecision (mkTrigger .wakePin .door (some 1) s) 5), denylist := [1,2], curfewDur := 600 }
  lf := { s.lf with telegram := some tg, openRun := List.replicate 8 2 }
  rad := { s.rad with sniff := true, cal := some { kind := .rx 0, meas := cal0, left := 300 } }
  sns := { s.sns with learn := true, sensors := s.sns.sensors ++ [newSensor 9 .own true 1 2 99] }
  fer := { s.fer with commits := s.fer.commits ++ [{ kind := .acceptance 1, addr := 0, data := [] }] } }
def sm : StepMeas := { cal := cal0, reads := [] }
def withRegion (pw : Bytes) (s : State) : State := { s with fer := { s.fer with regions := modAt 2 (fun g => { g with start := 0, pages := 4, rpw := true, wpw := true, verifier := pwVerifier s 2 pw }) s.fer.regions } }
/-- A model payload with its CRC. -/
def withCrc (b : Bytes) : Bytes := b ++ le 4 (crc32c b).toNat
/-- One monotonic counter with a value. -/
def ctrAt (n v : Nat) (s : State) : State := { s with fer := { s.fer with counters := [{ index := n, a := {value := v, ok := true}, b := {value := 0, ok := true} }] } }
/-- Version 1 served, with V1_WR. -/
def v1 (s : State) : State := regPutFld 0x40010014 0 2 3 s
def fr (l : Bytes) : V1Frame := { p := fit 11 l }
/-- Work that carries a packet. -/
def wkOf (op : Byte) (p : Packet) (st : WorkState) : Work := { wk op st p.payload 1 p.tag with options := p.options, pktCrc := pktCrc p op }
def pw (f : Power → Power) (s : State) : State := { s with power := f s.power }
def lk (f : HostLink → HostLink) (s : State) : State := { s with link := f s.link }
def dawnS : State := pw (fun p => { p with state := .dawn, stage := .waitXo }) noon
def opk (code : Byte) (slot : Option Nat) (pl : Bytes) : OutPkt := { verFlags := 0x20, code := code, status := 0, tag := 3, payload := pl, reserve := false, slot := slot }
/-- HIRQ_N as the queues have it. -/
def sync (s : State) : State := { s with link := { s.link with hirq := hirqLevel s } }
def sm0 : SaveMeas := { pages := 3, bad := 0, dur := 100 }
def reg (l : List (Nat × Nat)) (s : State) : State := l.foldl (fun s x => regSet x.1 (word x.2) s) s
def hostRet (op : Byte) : ReplyTo := { slot := 0, port := .hcs0, opcode := op, tag := 0, flags := 0x20 }
/-- One open reply slot. -/
def openHost (op : Byte) (s : State) : State := lk (fun l => { l with hcs0 := { outq := [], last := none, opn := [{ ret := hostRet op, room := 100, pkt := none }] } }) s
def bus (f : Buses → Buses) (s : State) : State := { s with bus := f s.bus }
def acc (f : Access → Access) (s : State) : State := { s with acc := f s.acc }
def dec (k : TrigKind) (s : State) : State := acc (fun a => { a with decision := some (newDecision (mkTrigger k .door none s) 5) }) s
/-- A frame at its end on a receiver with SLEN 0 and CHECK 0. -/
def rxf (rx : Fin 3) (data : Bytes) (slot : Option (Fin 8)) : RxFrame :=
  { rx := rx, preset := 0, manch := false, sync := 0, data := data, check := 0, rssi := 50, slot := slot, second := none, rise := 0, ends := true }
/-- A receiver's live configuration. -/
def rxCfg (r v : Nat) (s : State) : State := modRx r (fun x => { x with cfgLive := word v }) s
/-- A record with its key, in the tractor role. -/
def keyed (l : List TokenRec) : State := toks l (asTractor (handle 197 (mkBlob keysK (hdr 1 0x7F 0) aesKey) keysK))
def rxWin (r : Nat) (s : State) : State :=
  let x : Receiver := { frame := false, level := 0, cfgLive := 0, winOpen := true, slots := List.replicate 8 (0, false), winHeld := false, recalPend := false }
  { s with rad := { s.rad with l1 := .rx, l2 := .rx, hRx := .rx, rxA := if r = 0 then x else s.rad.rxA, rxB := if r = 1 then x else s.rad.rxB, rxH := if r = 2 then x else s.rad.rxH } }
def decF (f : Decision → Decision) (s : State) : State := acc (fun a => { a with decision := some (f (newDecision (mkTrigger .decide .door none s) 5)) }) s
def rel (f : Release → Release) (s : State) : State := acc (fun a => { a with release := f { a.release with active := true } }) s
def rad (f : Radio → Radio) (s : State) : State := { s with rad := f s.rad }
def rng (f : Ranging → Ranging) (s : State) : State := { s with rng := f s.rng }

/-! ### The statements about the machine -/

/-- A state that meets the link's invariant and has a command waiting steps, and the invariant holds again. -/
theorem test_link_invariant_kept (h : Obligations.LinkInvariantKept) : ∃ t, step { noon with pending := [.nop (pk 0x00 [])] } = .next t ∧ t.LinkInv := by
  have hs : (match step { noon with pending := [.nop (pk 0x00 [])] } with
    | .next _ => true
    | _ => false) = true := by decide +kernel
  revert hs
  cases hx : step { noon with pending := [.nop (pk 0x00 [])] } with
  | next t => exact fun _ => ⟨t, rfl, h _ t (link_of (by decide +kernel)) hx⟩
  | fault _ => exact fun hs => (by cases hs)
  | refused _ => exact fun hs => (by cases hs)

/-- A queue that is empty: the tick of log 2 counts a microsecond while the clocks run, and none in Midnight. -/
theorem test_tick (h : Obligations.EmptyQueueIsATick) :
    (∃ t, step noon = .next t ∧ t.power.clkUs = noon.power.clkUs + 1) ∧
    (∃ t, step (pw (fun p => { p with state := .midnight }) noon) = .next t ∧ t.power.clkUs = noon.power.clkUs) := by
  obtain ⟨t, h1, _, h2, _⟩ := h noon (by decide +kernel)
  obtain ⟨u, g1, _, _, g2⟩ := h (pw (fun p => { p with state := .midnight }) noon) (by decide +kernel)
  exact ⟨⟨t, h1, (h2 (by decide +kernel)).1⟩, ⟨u, g1, (g2 (by decide +kernel)).1⟩⟩

/-- The queue's front is what runs, and the rest waits. -/
theorem test_step_takes_front (h : Obligations.StepRunsFront) :
    step { noon with pending := [.nop (pk 0x00 []), .stopBitError] } = exec (.nop (pk 0x00 [])) { noon with pending := [.stopBitError] } := h _ _ _

/-! ### Operands: for each check a command that it admits and one that it refuses -/

def longPk : Packet := { pk 0x00 [1] with len := 0 }
def snf (n c : Nat) : SnsFrame := { air := { rxf 0 (zeros n) none with check := c }, iq := [], q := [], fit := none }
def bfr (xid fd : Bool) (id n : Nat) : BusFrame := { bus := 0, id := id, xid := xid, fd := fd, data := zeros n }
def crx (rtr fd : Bool) (dlc : Fin 16) (n : Nat) : CanRx :=
  { bus := 0, id := 5, xid := false, fd := fd, brs := false, esi := false, dlc := dlc, rtr := rtr, data := zeros n, speed := none }
def pduOf (n m : Nat) : CplPdu := { unit := 0, j2497 := false, flags := 0, seq := 0, payload := zeros n, mac := zeros m }
def tpf (plc : Bool) (n : Nat) : TpFrame := { unit := 0, plc := plc, seg := 0x40, body := zeros n }
def lane (c : Fin 8) : LaneMeas := { ch := c, peak := 0, cond := 0, phase := 0 }
def rbe (n : Nat) (c : Option Bytes) : RbeMeas := { ack := true, t0 := 0, bits := List.replicate n none, confirm := c }
def dawn (l : List Nat) : DawnMeas :=
  { cal := { iso0 := 30, iso1 := 30, imgA := 40, imgB := 40, imgH := 40, tune := 1 }, tcal := 237, bootBad := none, reloads := 0, stillBad := l, rngFails := 0, rootBad := [] }
def eo (n : Nat) (w : Half) : EngOp := { k := 5, ext := List.replicate n 0, w := w, fetch := .clean, data := .clean }

/-- A packet brings no more than LEN bytes (R333). -/
theorem test_wf_packet : wellFormed (.nop (pk 0x00 [1])) = true ∧ wellFormed (.nop longPk) = false ∧
    wellFormed (.status { pk 0x02 [] with len := 65536 }) = false ∧ wellFormed (.status { pk 0x02 [] with header := 9 }) = false := by decide +kernel
/-- An item row takes its own item value, or one that no row has (R385). -/
theorem test_wf_item : wellFormed (.cmac (pk 0x3A [40, 1])) = true ∧ wellFormed (.cmac (pk 0x3A [40, 7])) = true ∧ wellFormed (.cmac (pk 0x3A [40, 2])) = false := by decide +kernel
theorem test_wf_v1 : wellFormed (.v1Nop ⟨zeros 11⟩) = true ∧ wellFormed (.v1Nop ⟨zeros 10⟩) = false := by decide +kernel
theorem test_wf_engine : wellFormed (.nopInstruction (eo 2 0)) = true ∧ wellFormed (.nopInstruction (eo 4 0)) = false ∧ wellFormed (.nopInstruction (eo 0 16384)) = false := by
  decide +kernel
theorem test_wf_bus : wellFormed (.immoChallenge (bfr false false 2047 8)) = true ∧ wellFormed (.immoChallenge (bfr false false 2048 8)) = false ∧
    wellFormed (.immoChallenge (bfr true false 2048 8)) = true ∧ wellFormed (.immoChallenge (bfr true false 5 9)) = false ∧
    wellFormed (.immoChallenge (bfr true true 5 64)) = true := by decide +kernel
theorem test_wf_can : wellFormed (.canFrameRx (crx false false 8 8)) = true ∧ wellFormed (.canFrameRx (crx false false 9 8)) = true ∧ wellFormed (.canFrameRx (crx false true 9 12)) = true ∧
    wellFormed (.canFrameRx (crx false false 4 5)) = false ∧ wellFormed (.canFrameRx (crx true false 4 0)) = true ∧ wellFormed (.canFrameRx (crx true true 4 0)) = false := by
  decide +kernel
theorem test_wf_radio : wellFormed (.rxFrame (rxf 0 (zeros 2200) none)) = true ∧ wellFormed (.rxFrame (rxf 0 (zeros 2201) none)) = false ∧
    wellFormed (.rxFrame { rxf 0 [] none with preset := 5 }) = true ∧ wellFormed (.rxFrame { rxf 0 [] none with preset := 6 }) = false ∧
    wellFormed (.rxFrame { rxf 0 [] none with check := 0xFFFFFF }) = true ∧ wellFormed (.rxFrame { rxf 0 [] none with check := 0x1000000 }) = false := by decide +kernel
theorem test_wf_sniff : wellFormed (.sniffPeriod ⟨0, .noSync⟩) = true ∧ wellFormed (.sniffPeriod ⟨0, .frame (zeros 255) 0xFFFF⟩) = true ∧
    wellFormed (.sniffPeriod ⟨0, .frame (zeros 256) 0⟩) = false ∧ wellFormed (.sniffPeriod ⟨0, .frame [] 0x10000⟩) = false := by decide +kernel
theorem test_wf_sensor : wellFormed (.data (snf 4 0xFFFF)) = true ∧ wellFormed (.data { snf 4 0 with q := [1, 2, 3, 4] }) = true ∧
    wellFormed (.data { snf 4 0 with q := [1, 2, 3, 4, 5] }) = false ∧ wellFormed (.data (snf 4 0x1000000)) = false := by decide +kernel
theorem test_wf_pdu : wellFormed (.hello (pduOf 8 8)) = true ∧ wellFormed (.hello (pduOf 8 7)) = false := by decide +kernel
theorem test_wf_transport : wellFormed (.tpSegmentFrame (tpf false 6)) = true ∧ wellFormed (.tpSegmentFrame (tpf false 7)) = false ∧
    wellFormed (.tpSegmentFrame (tpf true 14)) = true := by decide +kernel
theorem test_wf_plc : wellFormed (.plcMessageRx ⟨zeros 20, true⟩) = true ∧ wellFormed (.plcMessageRx ⟨zeros 21, true⟩) = false ∧ wellFormed (.plcMessageRx ⟨[], true⟩) = false := by
  decide +kernel
theorem test_wf_lin : wellFormed (.linSlot (.data (zeros 8))) = true ∧ wellFormed (.linSlot (.data (zeros 9))) = false ∧ wellFormed (.linSlot (.data [])) = false := by decide +kernel
theorem test_wf_lf : wellFormed (.lfFifoEntry ⟨[lane 0, lane 1, lane 2], 25⟩) = true ∧ wellFormed (.lfFifoEntry ⟨[lane 0, lane 0], 25⟩) = false ∧
    wellFormed (.lfFifoEntry ⟨[lane 0, lane 1, lane 2, lane 3], 25⟩) = false ∧ wellFormed (.lfGo 32) = true ∧ wellFormed (.lfGo 33) = false := by decide +kernel
theorem test_wf_rbe : wellFormed (.rbeExchangeDone (rbe 64 (some (zeros 16)))) = true ∧ wellFormed (.rbeExchangeDone (rbe 65 none)) = false ∧
    wellFormed (.rbeExchangeDone (rbe 64 (some (zeros 15)))) = false := by decide +kernel
theorem test_wf_dawn : wellFormed (.xoQualified (dawn [1919])) = true ∧ wellFormed (.xoQualified (dawn [1920])) = false := by decide +kernel
theorem test_wf_oem : wellFormed (.rtcRead 9) = true ∧ wellFormed (.rtcRead 8) = false ∧ wellFormed (.oemEvent 9 (zeros 64)) = false := by decide +kernel
theorem test_wf_address : wellFormed (.registerWrite .host 0x40060014 0) = true ∧ wellFormed (.registerWrite .host 0x40060015 0) = false ∧
    wellFormed (.rcRegisterRead .host 0x40010039) = false := by decide +kernel
theorem test_wf_opcode : wellFormed (.undefinedOpcode 0x0A (.v2 (pk 0x0A []))) = true ∧ wellFormed (.undefinedOpcode 0x09 (.v2 (pk 0x09 []))) = false ∧
    wellFormed (.undefinedOpcode 0x04 (.v1 ⟨zeros 11⟩)) = true ∧ wellFormed (.undefinedOpcode 0x03 (.v1 ⟨zeros 11⟩)) = false := by decide +kernel
theorem test_wf_transaction : wellFormed (.readOnlyTransaction 0x00 12) = true ∧ wellFormed (.readOnlyTransaction 0xC3 12) = false ∧
    wellFormed (.uartGapTimeout 0x00 (pk 0x00 [] 0 0 .uart)) = true ∧ wellFormed (.uartGapTimeout 0x00 (pk 0x00 [])) = false ∧
    wellFormed (.sensorState 0 0 (zeros 8)) = true ∧ wellFormed (.sensorState 0 0 (zeros 7)) = false := by decide +kernel

/-! ### The manual's worked examples -/

/-- The replies that a command puts on HCS0_N: STATUS and payload. -/
def repliesOf (o : Host.Outcome State Fault Refusal) : List (Byte × Bytes) :=
  match o with
  | .next t => t.link.hcs0.outq.map fun p => (p.status, p.payload)
  | .fault _ => []
  | .refused _ => []

/-- Chapter 11, worked exchanges: ACC_POLL_CFG at its reset value, read by the host, is 0x1403_F0FF. -/
theorem test_example_register_read : repliesOf (exec (.regRead (pk 0x10 [0x14, 0x00, 0x06, 0x40, 0x01, 0x00] 0x31)) noon) = [(0x00, [0xFF, 0xF0, 0x03, 0x14])] := by
  decide +kernel
/-- The same exchange: REPOLL_MAX is set to 2. -/
theorem test_example_register_write :
    repliesOf (exec (.regWrite (pk 0x11 [0x14, 0x00, 0x06, 0x40, 0x01, 0x00, 0xFF, 0xF0, 0x02, 0x14] 0x32)) noon) = [(0x00, [])] := by decide +kernel
/-- The same exchange: a value with reserved bit 22 set is refused at offset 6 with CODE 0x02. -/
theorem test_example_register_refused :
    repliesOf (exec (.regWrite (pk 0x11 [0x14, 0x00, 0x06, 0x40, 0x01, 0x00, 0xFF, 0xF0, 0x42, 0x14] 0x33)) noon) = [(0x11, [0x06, 0x00, 0x02, 0x00])] := by decide +kernel
/-- R430: ENG_FEAT0 reads 0x1840_10FB on revision B1. -/
theorem test_example_eng_feat0 : regShow noon 0x400AC000 = 0x184010FB := by decide +kernel
/-- R335: the check value of CRC-32C. -/
theorem test_example_crc32c : crc32c (ascii "123456789") = 0xE3069283 := by decide +kernel
/-- Chapter 3, the re-poll of the worked poll: the five words that E1 writes. -/
theorem test_example_repoll : comboWord 6 :: codeWords 3 48 (repollPayload 5 1 2 0x3B7A 0xE015) = [0x5000000E, 0x30103AAA, 0x30103B7A, 0x3010E015] := by decide +kernel
/-- Chapter 5, the exchange on token A: KFIX is 4,064 u and the largest excess 58 u, so the bound is 142 cm. -/
theorem test_example_rbe_bound : boundCm 4064 4122 = 142 := by decide +kernel

/-- A context in which nothing changes the decoding. -/
def plainCtx : DecCtx := { m12 := false, oem := false, handler := false, udEntry := fun _ => none }
/-- Chapter 13, loading 0x4002_0300 into G3: the words decode to MOVI, LSL and OR with their operands. -/
theorem test_example_movi : (match engDecode plainCtx [0x080, 0x008] 0x0261 with
    | .ok op => op == .movi 3 0x100080
    | .error _ => false) = true ∧
    (match engDecode plainCtx [0x002] 0x1065 with
    | .ok op => op == .shift .lsl 3 (.imm 10)
    | .error _ => false) = true ∧
    (match engDecode plainCtx [0x030] 0x0C61 with
    | .ok op => op == .alu .or 3 (.imm 0x300)
    | .error _ => false) = true := by decide +kernel

/-! ### Published vectors of the algorithms that the manual names -/

/-- FIPS 197, appendix C.1 and C.3: AES with a 128-bit and a 256-bit key. -/
theorem test_aes128 : aesEnc (be 16 0x000102030405060708090A0B0C0D0E0F) (be 16 0x00112233445566778899AABBCCDDEEFF) = be 16 0x69C4E0D86A7B0430D8CDB78070B4C55A := by
  decide +kernel
theorem test_aes256 : aesEnc (be 32 0x000102030405060708090A0B0C0D0E0F101112131415161718191A1B1C1D1E1F) (be 16 0x00112233445566778899AABBCCDDEEFF) =
    be 16 0x8EA2B7CA516745BFEAFC49904B496089 := by decide +kernel
theorem test_aes_inverse : aesDec (be 16 0x000102030405060708090A0B0C0D0E0F) (be 16 0x69C4E0D86A7B0430D8CDB78070B4C55A) = be 16 0x00112233445566778899AABBCCDDEEFF := by
  decide +kernel
/-- FIPS 180-4: SHA-256 of "abc". -/
theorem test_sha256 : sha256 (ascii "abc") = be 32 0xBA7816BF8F01CFEA414140DE5DAE2223B00361A396177A9CB410FF61F20015AD := by decide +kernel
/-- RFC 4493: AES-CMAC of the empty string and of 16 bytes. -/
theorem test_cmac : cmac (be 16 0x2B7E151628AED2A6ABF7158809CF4F3C) [] = be 16 0xBB1D6929E95937287FA37D129B756746 ∧
    cmac (be 16 0x2B7E151628AED2A6ABF7158809CF4F3C) (be 16 0x6BC1BEE22E409F96E93D7E117393172A) = be 16 0x070A16B46B4D4144F79BDD9DD04A287C := by decide +kernel

/-! Obligations.SystemQueriesAnswer: its clauses are met, and what they say answers a next state. -/

namespace SystemQueriesAnswer

theorem test_system_queries_answer (h : Obligations.SystemQueriesAnswer) :
    Answers (exec (Instr.nop (pk 0 [])) noon) ∧
    Answers (exec (Instr.identify (pk 1 [])) noon) ∧
    Answers (exec (Instr.status (pk 2 [])) noon) ∧
    Answers (exec (Instr.query (pk 3 [7,0])) noon) ∧
    Answers (exec (Instr.pendingList (pk 9 [])) noon) :=
  ⟨ans1 (h.1 (pk 0 []) noon (ready_of (by decide +kernel)) (by decide +kernel)),
   ans1 (h.2.1 (pk 1 []) noon (ready_of (by decide +kernel)) (by decide +kernel)),
   ans1 (h.2.2.1 (pk 2 []) noon (ready_of (by decide +kernel)) (by decide +kernel)),
   ans1 (h.2.2.2.1 (pk 3 [7,0]) noon (ready_of (by decide +kernel)) (by decide +kernel)),
   ans1 (h.2.2.2.2 (pk 9 []) noon (ready_of (by decide +kernel)) (by decide +kernel))⟩

end SystemQueriesAnswer

/-! Obligations.ResetPowerCollect: its clauses are met, and what they say answers a next state. -/

namespace ResetPowerCollect

theorem test_reset_power_collect (h : Obligations.ResetPowerCollect) :
    Answers (exec (Instr.reset (pk 5 [0xA5])) noon) ∧
    Answers (exec (Instr.power (pk 6 [1,3,10,0,0,0])) noon) ∧
    Answers (exec (Instr.collect (pk 4 [7,0])) (withWorks [wk 0x70 .done [] , { wk 0x70 .running [1] with seq := 2, tag := 9}] noon)) ∧
    Answers (exec (Instr.collect (pk 4 [7,0])) ({noon with jrn := { noon.jrn with ring := [ringEntry 1 (wk 0x70 .done [])]}})) :=
  ⟨ans1 (h.1 (pk 5 [0xA5]) noon (ready_of (by decide +kernel))),
   ans1 (h.2.1 (pk 6 [1,3,10,0,0,0]) noon (ready_of (by decide +kernel)) (by decide +kernel)),
   ans1 (all3 (h.2.2.1 (pk 4 [7,0]) (withWorks [wk 0x70 .done [] , { wk 0x70 .running [1] with seq := 2, tag := 9}] noon) _ (ready_of (by decide +kernel)) (by decide +kernel) (some_of (by decide +kernel))) (by decide +kernel)),
   ans1 (h.2.2.2 (pk 4 [7,0]) ({noon with jrn := { noon.jrn with ring := [ringEntry 1 (wk 0x70 .done [])]}}) _ (ready_of (by decide +kernel)) (by decide +kernel) (by decide +kernel) (some_of (by decide +kernel)) (by decide +kernel) (by decide +kernel))⟩

end ResetPowerCollect

/-! Obligations.RegisterCommands: its clauses are met, and what they say answers a next state. -/

namespace RegisterCommands

theorem test_register_commands (h : Obligations.RegisterCommands) :
    Answers (exec (Instr.regRead (pk 0x10 (le 4 0x40000000 ++ [4,0]))) noon) ∧
    Answers (exec (Instr.regWrite (pk 0x11 (le 4 0x40060014 ++ [2,0] ++ le 4 0x03030000 ++ le 4 0x10))) noon) ∧
    Answers (exec (Instr.regWrite (pk 0x11 (le 4 0x40060000 ++ [0,0]))) noon) ∧
    Answers (exec (Instr.regWrite (pk 0x11 (le 4 0x40010000 ++ [1,0] ++ le 4 0x12))) noon) ∧
    Answers (exec (Instr.regWrite (pk 0x11 (le 4 0x40060000 ++ [1,0] ++ le 4 0))) noon) ∧
    Answers (exec (Instr.regModify (pk 0x12 (le 4 0x40070000 ++ le 4 0x40 ++ le 4 0))) noon) :=
  ⟨ans1 (h.1 (pk 0x10 (le 4 0x40000000 ++ [4,0])) noon (ready_of (by decide +kernel)) (by decide +kernel)),
   ans1 (all3 (h.2.1 (pk 0x11 (le 4 0x40060014 ++ [2,0] ++ le 4 0x03030000 ++ le 4 0x10)) noon (ready_of (by decide +kernel))) (by decide +kernel)),
   ans1 (h.2.2.1 (pk 0x11 (le 4 0x40060000 ++ [0,0])) noon (ready_of (by decide +kernel)) (by decide +kernel) (by decide +kernel)),
   ans1 (all4 (h.2.2.2.1 (pk 0x11 (le 4 0x40010000 ++ [1,0] ++ le 4 0x12)) noon (ready_of (by decide +kernel))) (by decide +kernel)),
   ans1 (all3 (h.2.2.2.2.1 (pk 0x11 (le 4 0x40060000 ++ [1,0] ++ le 4 0)) noon _ _ (ready_of (by decide +kernel)) (by decide +kernel) (some_of (by decide +kernel))) (by decide +kernel)),
   ans1 (all5 (h.2.2.2.2.2 (pk 0x12 (le 4 0x40070000 ++ le 4 0x40 ++ le 4 0)) noon (ready_of (by decide +kernel))) (by decide +kernel))⟩

end RegisterCommands

/-! Obligations.MemoryCommands: its clauses are met, and what they say answers a next state. -/

namespace MemoryCommands

theorem test_memory_commands (h : Obligations.MemoryCommands) :
    Answers (exec (Instr.memRead (pk 0x13 (le 4 0x103B0002 ++ [8,0]))) noon) ∧
    Answers (exec (Instr.memWrite (pk 0x14 (le 4 0x103B0003 ++ [3,0,9,0,7]))) noon) ∧
    Answers (exec (Instr.memWrite (pk 0x14 (le 4 0x10000000 ++ [1,0,5]))) noon) :=
  ⟨ans1 (h.1 (pk 0x13 (le 4 0x103B0002 ++ [8,0])) noon (ready_of (by decide +kernel)) (by decide +kernel)),
   ans1 (h.2.1 (pk 0x14 (le 4 0x103B0003 ++ [3,0,9,0,7])) noon (ready_of (by decide +kernel)) (by decide +kernel)),
   ans1 (h.2.2 (pk 0x14 (le 4 0x10000000 ++ [1,0,5])) noon (ready_of (by decide +kernel)) (by decide +kernel) (by decide +kernel))⟩

end MemoryCommands

/-! Obligations.NvmReads: its clauses are met, and what they say answers a next state. -/

namespace NvmReads

def withPage (m : PageMeta) (s : State) : State := { s with fer := { s.fer with pages := [m] } }
def badPage (n : Nat) (s : State) := withPage { page := n, c0 := {gen := 0, ok := false}, c1 := {gen := 0, ok := false}, degraded := none } s
def gapS : State := { noon with fer := { noon.fer with gap := true, commits := [{ kind := .legacy, addr := 0x56000, data := [1] }] } }
def txnS : State := withWorks [{ wk 0x21 .running (le 4 0x55F80 ++ [0,1] ++ zeros 256) with options := 1 }] noon
def busyN (s : State) : State := { s with fer := { s.fer with commits := [{ kind := .legacy, addr := 0x56000, data := [1] }] } }

theorem test_nvm_reads (h : Obligations.NvmReads) :
    Answers (exec (Instr.nvmRead (pk 0x20 (le 4 0x56000 ++ [3,0]))) noon) ∧
    Answers (exec (Instr.nvmRead (pk 0x20 (le 4 0x56000 ++ [0,0]))) noon) ∧
    Answers (exec (Instr.nvmRead (pk 0x20 (le 4 0x56000 ++ [3,0]))) txnS) ∧
    Answers (exec (Instr.nvmRead (pk 0x20 (le 4 0x56000 ++ [3,0]))) (badPage 1376 noon)) ∧
    Answers (exec (Instr.counterRead (pk 0x26 [3])) noon) ∧
    Answers (exec ((Instr.nvmUnlock) (pk 0x22 [0,3,0,0,0,0,0,0,0,0])) (busyN noon)) ∧
    commitBusy gapS = false ∧
    commitBusy (busyN noon) = true :=
  ⟨ans1 (h.1.1 (pk 0x20 (le 4 0x56000 ++ [3,0])) noon (ready_of (by decide +kernel)) (by decide +kernel)),
   ans1 (h.1.2.1 (pk 0x20 (le 4 0x56000 ++ [0,0])) noon (ready_of (by decide +kernel)) (by decide +kernel)),
   ans1 (h.1.2.2.1 (pk 0x20 (le 4 0x56000 ++ [3,0])) txnS (ready_of (by decide +kernel)) (by decide +kernel)),
   ans1 (all4 ((all6 (h.1.2.2.2.2.2.1 (pk 0x20 (le 4 0x56000 ++ [3,0])) (badPage 1376 noon) 1376 (ready_of (by decide +kernel))) (by decide +kernel))) (by decide +kernel)),
   ans1 (h.1.2.2.2.2.2.2 _ (pk 0x26 [3]) noon (ready_of (by decide +kernel)) (some_of (by decide +kernel))),
   ans1 (h.2 (Instr.nvmUnlock) (34) (by first | decide +kernel | simp) (pk 0x22 [0,3,0,0,0,0,0,0,0,0]) (busyN noon) (ready_of (by decide +kernel)) (by decide +kernel) (by decide +kernel)),
   h.1.2.2.2.1 gapS (by decide +kernel) (by decide +kernel),
   h.1.2.2.2.2.1 (busyN noon) _ _ (by decide +kernel) (cons_of (by decide +kernel))⟩

end NvmReads

/-! Obligations.NvmRegionLocks: its clauses are met, and what they say answers a next state. -/

namespace NvmRegionLocks

def region (pw : Bytes) (s : State) : State := { s with fer := { s.fer with regions := modAt 2 (fun g => { g with start := 0, pages := 4, rpw := true, wpw := true, verifier := pwVerifier s 2 pw }) s.fer.regions } }
def fails (n : Nat) (since : Nat) (s : State) : State := { s with fer := { s.fer with pwSince := since, counters := [{ index := 36, a := {value := n, ok := true}, b := {value := 0, ok := true} }] } }

theorem test_nvm_region_locks (h : Obligations.NvmRegionLocks) :
    Answers (exec (Instr.nvmUnlock (pk 0x22 [2,3,1,2,3,4,5,6,7,8])) (region [1,2,3,4,5,6,7,8] (keysOpen noon))) ∧
    Answers (exec (Instr.nvmUnlock (pk 0x22 [2,3,1,2,3,4,5,6,7,8])) (keysOpen noon)) ∧
    Answers (exec (Instr.nvmUnlock (pk 0x22 [2,3,1,2,3,4,5,6,7,8])) (fails 8 0 (region [1,2,3,4,5,6,7,8] (keysOpen noon)))) ∧
    Answers (exec (Instr.nvmUnlock (pk 0x22 [2,0,1,2,3,4,5,6,7,8])) noon) ∧
    Answers (exec (Instr.nvmLock (pk 0x23 [0xFF,0xFF])) noon) :=
  ⟨ans1 (all3 ((all4 (h.1 (pk 0x22 [2,3,1,2,3,4,5,6,7,8]) (region [1,2,3,4,5,6,7,8] (keysOpen noon)) _ (ready_of (by decide +kernel))) (by decide +kernel)) (some_of (by decide +kernel))) (by decide +kernel)),
   ans1 ((all4 (h.2.1 (pk 0x22 [2,3,1,2,3,4,5,6,7,8]) (keysOpen noon) _ (ready_of (by decide +kernel))) (by decide +kernel)) (some_of (by decide +kernel)) (by decide +kernel) (by decide +kernel)),
   ans1 (all5 (h.2.2.1 (pk 0x22 [2,3,1,2,3,4,5,6,7,8]) (fails 8 0 (region [1,2,3,4,5,6,7,8] (keysOpen noon))) (ready_of (by decide +kernel))) (by decide +kernel)),
   ans1 (h.2.2.2.1 (pk 0x22 [2,0,1,2,3,4,5,6,7,8]) noon (ready_of (by decide +kernel)) (by decide +kernel)),
   ans1 (h.2.2.2.2 (pk 0x23 [0xFF,0xFF]) noon (ready_of (by decide +kernel)) (by decide +kernel))⟩

end NvmRegionLocks

/-! Obligations.NonceSessionAttest: its clauses are met, and what they say answers a next state. -/

namespace NonceSessionAttest

theorem test_nonce_session_attest (h : Obligations.NonceSessionAttest) :
    Answers (exec (Instr.authNonce (pk 0x30 [])) noon) ∧
    Answers (exec (Instr.importSession (pk 0x33 (zeros 16))) (keysOpen noon)) ∧
    Answers (exec (Instr.attest (pk 0x3C ([0,40,0,0]++zeros 16))) (slots [keySlot 40 1 0x7F 0 aesKey] (keysOpen noon))) ∧
    Answers (exec (Instr.authNonce (pk 0x30 [])) ({noon with cry := {noon.cry with halt := true}})) :=
  ⟨ans1 (h.1 (pk 0x30 []) noon (ready_of (by decide +kernel)) (by decide +kernel)),
   ans2 (h.2.1 (pk 0x33 (zeros 16)) (keysOpen noon) (ready_of (by decide +kernel)) (by decide +kernel) (by decide +kernel)),
   ans1 (h.2.2.1 (pk 0x3C ([0,40,0,0]++zeros 16)) (slots [keySlot 40 1 0x7F 0 aesKey] (keysOpen noon)) _ _ _ (ready_of (by decide +kernel)) (by decide +kernel) (by decide +kernel) (ok_of (by decide +kernel))),
   ans1 (h.2.2.2 (pk 0x30 []) ({noon with cry := {noon.cry with halt := true}}) (ready_of (by decide +kernel)) (by decide +kernel))⟩

end NonceSessionAttest

/-! Obligations.KeySlotsAndBlobs: its clauses are met, and what they say answers a next state. -/

namespace KeySlotsAndBlobs

def gbP : Packet := pkc 0x32 [1, 7, 0, 0, 1, 0, 0, 0] 0x0110000000000000000000000000000044332211e59154138581e0d19a8e063c94d6e23cb4d0c54186fcfb489953f404f4adf68458a891cae24b9b9a16e92b64bde604b7ba03e48bbb9c0404059e10d4b885aa21bd20eb238721c6553ca6b596a92a9c43b6bef64782efb423e04cba1e0b97813cbd20eb238721c6553ca6b596a92a9c43b6bef64782efb423e04cba1e0b97813ccfdff778baf6b6651e504a256e8fa70e2a5014393ce681e1044c9a480def71c6cfdff778baf6b6651e504a256e8fa70e2a5014393ce681e1044c9a480def71c6 0
def gbS (s : State) : State := anchored 0 0xc6f2bf92e3b66866ab9f5bb88a7d18e4eaeb682eacf7bfeeadc033e40678ee54b405ba589eceefa40a966f29f919135ca797251d7b7365caaf82b669db12111b s

theorem test_key_slots_and_blobs (h : Obligations.KeySlotsAndBlobs) :
    Answers (exec (Instr.keyUnload (pk 0x39 [0xFF])) (keysOpen noon)) ∧
    Answers (exec (Instr.keyGenBlob gbP) (gbS (keysOpen noon))) ∧
    Answers (exec (Instr.keyGenBlob (pk 0x32 [1,7,0,0,1,0,0,0])) (keysOpen noon)) :=
  ⟨ans1 (h.1.2.2 (pk 0x39 [0xFF]) (keysOpen noon) (ready_of (by decide +kernel)) (by decide +kernel)),
   ans1 ((all3 (h.2.1 gbP (gbS (keysOpen noon)) _ (ready_of (by decide +kernel))) (by decide +kernel)) (some_of (by decide +kernel))),
   ans1 (all3 (h.2.2.2 (pk 0x32 [1,7,0,0,1,0,0,0]) (keysOpen noon) (ready_of (by decide +kernel))) (by decide +kernel))⟩

end KeySlotsAndBlobs

/-! Obligations.KeyOperations: its clauses are met, and what they say answers a next state. -/

namespace KeyOperations

def ko (slot op : Byte) (d : Bytes) := pk 0x3A ([slot, op,0,0] ++ le 2 d.length ++ d)

theorem test_key_operations (h : Obligations.KeyOperations) :
    Answers (exec (Instr.cmac (ko 40 1 [1,2,3])) (slots [keySlot 40 1 0x7F 0 aesKey] (keysOpen noon))) ∧
    Answers (exec (Instr.cmacVerify (ko 40 2 ([1,2] ++ cmac aesKey [1,2]))) (slots [keySlot 40 1 0x7F 0 aesKey] (keysOpen noon))) ∧
    Answers (exec (Instr.cmacVerify (ko 40 2 ([1,2] ++ cmac aesKey [1,2]))) (slots [keySlot 40 2 0x7F 0 (aesKey ++ aesKey), keySlot 41 4 0x7F 0 (be 32 7)] (keysOpen noon))) ∧
    Answers (exec (Instr.sign (ko 41 3 (zeros 32))) (slots [keySlot 40 2 0x7F 0 (aesKey ++ aesKey), keySlot 41 4 0x7F 0 (be 32 7)] (keysOpen noon))) ∧
    Answers (exec (Instr.ecdh (ko 41 4 (pubOf 5))) (slots [keySlot 40 2 0x7F 0 (aesKey ++ aesKey), keySlot 41 4 0x7F 0 (be 32 7)] (keysOpen noon))) ∧
    Answers (exec (Instr.derive (ko 40 5 [1])) (slots [keySlot 40 1 0x7F 0 aesKey] (keysOpen noon))) ∧
    Answers (exec (Instr.wrap (ko 40 6 [40])) (slots [keySlot 40 1 0x7F 0 aesKey] (keysOpen noon))) ∧
    Answers (exec (Instr.cmac (ko 40 1 [1,2,3])) (slots [keySlot 40 1 0x38 0 aesKey] (keysOpen noon))) :=
  ⟨ans1 (h.1 _ (ko 40 1 [1,2,3]) (slots [keySlot 40 1 0x7F 0 aesKey] (keysOpen noon)) (ready_of (by decide +kernel)) ⟨(by decide +kernel), ⟨⟨(by decide +kernel), ⟨(some_of (by decide +kernel)), (by decide +kernel)⟩⟩, (by decide +kernel)⟩⟩),
   ans1 (h.2.1 _ (ko 40 2 ([1,2] ++ cmac aesKey [1,2])) (slots [keySlot 40 1 0x7F 0 aesKey] (keysOpen noon)) (ready_of (by decide +kernel)) ⟨(by decide +kernel), ⟨⟨(by decide +kernel), ⟨(some_of (by decide +kernel)), (by decide +kernel)⟩⟩, (by decide +kernel)⟩⟩),
   ans1 (h.2.2.1 _ (ko 40 2 ([1,2] ++ cmac aesKey [1,2])) (slots [keySlot 40 2 0x7F 0 (aesKey ++ aesKey), keySlot 41 4 0x7F 0 (be 32 7)] (keysOpen noon)) (ready_of (by decide +kernel)) ⟨(by decide +kernel), ⟨⟨(by decide +kernel), ⟨(some_of (by decide +kernel)), (by decide +kernel)⟩⟩, (by decide +kernel)⟩⟩),
   ans1 (h.2.2.2.1 (ko 41 3 (zeros 32)) (slots [keySlot 40 2 0x7F 0 (aesKey ++ aesKey), keySlot 41 4 0x7F 0 (be 32 7)] (keysOpen noon)) _ (ready_of (by decide +kernel)) (by decide +kernel) ⟨(by decide +kernel), ⟨(some_of (by decide +kernel)), (by decide +kernel)⟩⟩ (by decide +kernel) (by decide +kernel)),
   ans1 (h.2.2.2.2.1 (ko 41 4 (pubOf 5)) (slots [keySlot 40 2 0x7F 0 (aesKey ++ aesKey), keySlot 41 4 0x7F 0 (be 32 7)] (keysOpen noon)) _ _ _ (ready_of (by decide +kernel)) (by decide +kernel) ⟨(by decide +kernel), ⟨(some_of (by decide +kernel)), (by decide +kernel)⟩⟩ (by decide +kernel) (some_of (by decide +kernel)) (some_of (by decide +kernel))),
   ans1 (h.2.2.2.2.2.1 (ko 40 5 [1]) (slots [keySlot 40 1 0x7F 0 aesKey] (keysOpen noon)) _ _ (ready_of (by decide +kernel)) (by decide +kernel) ⟨(by decide +kernel), ⟨(some_of (by decide +kernel)), (by decide +kernel)⟩⟩ (by decide +kernel) (some_of (by decide +kernel))),
   ans1 (h.2.2.2.2.2.2.1 _ _ (ko 40 6 [40]) (slots [keySlot 40 1 0x7F 0 aesKey] (keysOpen noon)) (ready_of (by decide +kernel)) ⟨(by decide +kernel), ⟨⟨(by decide +kernel), ⟨(some_of (by decide +kernel)), (by decide +kernel)⟩⟩, ⟨(by decide +kernel), ⟨(some_of (by decide +kernel)), (by decide +kernel)⟩⟩⟩⟩),
   ans1 (h.2.2.2.2.2.2.2 (ko 40 1 [1,2,3]) (slots [keySlot 40 1 0x38 0 aesKey] (keysOpen noon)) _ (ready_of (by decide +kernel)) (by decide +kernel) (by decide +kernel) (some_of (by decide +kernel)) (by decide +kernel))⟩

end KeyOperations

/-! Obligations.SystemNvmAccepted: its clauses are met, and what they say answers a next state. -/

namespace SystemNvmAccepted

def region (pw : Bytes) (s : State) : State := { s with fer := { s.fer with regions := modAt 2 (fun g => { g with start := 0, pages := 4, rpw := true, wpw := true, verifier := pwVerifier s 2 pw }) s.fer.regions } }
def cs1S (s : State) : State := anchored 0 0xb8c7c87ea95d7c795fd848217f42b2ecd3706d3fbc37ce5e6b0a377e50d46ea841c4d0326f48b1db8b49bafffe646a549bbfe12b62fd6b770e37b6cd095b4836 s
def tsP : Packet := pkc 0x08 [1, 2, 3, 4] 0x01110000000000000000000000000000443322115f9dbc4bad9bfc2a15a51de058347e50a0d00ead17434672e267ed0a9e06fb88ac226516c23cab4c988ea09a94ed6327136b4947b121a9ccc0969188dd3f2fa53847b8bc45b0838f6d99f75b01fff482f4ab0813495a8fc39e8e76970dab4b1f3847b8bc45b0838f6d99f75b01fff482f4ab0813495a8fc39e8e76970dab4b1f829a79a29cdb7f118489418c7ab51f00512b550bb145c65b8ba7b39768459f12829a79a29cdb7f118489418c7ab51f00512b550bb145c65b8ba7b39768459f12 3
def tsS (s : State) : State := anchored 0 0x4be89985ad39285dacf8872c7c84d341fee75ee01ddceb4e74b8fee92cfb14526d22c479627488e3e894eafe2a329860850c3c3141a9c2f3f44212c0a76281a9 s
def nrS (s : State) : State := anchored 0 0xc5c95886864b378f4d31a7da52a74d34e9164ed715f4864be4ee7329c041aa4314f0a68230a6da892f7044443c0e5c992934f29483661b0081847d65d49a77b6 s
def npP : Packet := pkc 0x24 [2, 0, 0, 0, 0, 0, 0, 0, 0, 0, 1, 2, 3, 4, 5, 6, 7, 8] 0x011000000000000000000000000000004433221109009d9b75a9477a51692c85d84b1673438076379e51b483bfc6cf76504a1fe8b187490c2dc40bb94aca3e6d45c9800b2e0ff6acdbb2f67fcf8f2e747c6545884a124319f74b4e91e6c6b1217f01b0376df102814cd6f4d64ad470dfc70211d04a124319f74b4e91e6c6b1217f01b0376df102814cd6f4d64ad470dfc70211d0d5e1324c8d9b3230a33c01714ae1f7d2e73ea19a8b9d2aa4fa2b9e6e9f910d84d5e1324c8d9b3230a33c01714ae1f7d2e73ea19a8b9d2aa4fa2b9e6e9f910d84 3
def npS (s : State) : State := anchored 0 0xdd8c0f44bfca3a17c5e35a828c9f57d4d2a1a1b802342b7af0ad2423dae4101bffa920018c7cc50c6fef80ec152fdf6e34b66eed003c906e9a9461df9d1d7a2a s

theorem test_system_nvm_accepted (h : Obligations.SystemNvmAccepted) :
    Answers (exec (Instr.timeSet tsP) (tsS noon)) ∧
    Answers (exec (Instr.nvmWrite (pk 0x21 (le 4 0x56000 ++ [3,0,1,2,3]) 3)) (cs1S noon)) ∧
    Answers (exec (Instr.nvmPassword npP) (npS (keysOpen noon))) ∧
    Answers (exec (Instr.nvmPassword (pk 0x24 ([2,0,1,2,3,4,5,6,7,8,8,7,6,5,4,3,2,1]) 3)) (nrS (region [1,2,3,4,5,6,7,8] (keysOpen noon)))) :=
  ⟨ans2 (h.2.1 tsP (tsS noon) (ready_of (by decide +kernel)) (by decide +kernel) (passes_of (by decide +kernel))),
   ans2 (h.2.2.1 (pk 0x21 (le 4 0x56000 ++ [3,0,1,2,3]) 3) (cs1S noon) (ready_of (by decide +kernel)) (by decide +kernel) (passes_of (by decide +kernel))),
   ans2 (h.2.2.2.2.1 npP (npS (keysOpen noon)) (ready_of (by decide +kernel)) (by decide +kernel) (passes_of (by decide +kernel))),
   ans2 (all3 ((all6 (h.2.2.2.2.2 (pk 0x24 ([2,0,1,2,3,4,5,6,7,8,8,7,6,5,4,3,2,1]) 3) (nrS (region [1,2,3,4,5,6,7,8] (keysOpen noon))) _ (ready_of (by decide +kernel))) (by decide +kernel)) (by decide +kernel) (some_of (by decide +kernel))) (by decide +kernel))⟩

end SystemNvmAccepted

/-! Obligations.KeyCommandsAccepted: its clauses are met, and what they say answers a next state. -/

namespace KeyCommandsAccepted

def kdP : Packet := pkc 0x37 [1, 197] 0x0111000000000000000000000000000044332211a542d444db5283a7d3c27bd8e8095e8625f09f31c75c47332894e19c85b873c29230b164de6796f4338fb50650ab190afbbf51609ce0947af5b8de4035c62bb5b3148c3f81ebce7e9261385f1b0d554119af06fd6b60b291136f4e2b51af3761b3148c3f81ebce7e9261385f1b0d554119af06fd6b60b291136f4e2b51af37615b17626c025b8b3023cac5423888372d9d371821d6059fb0cd6b09e77e15394a5b17626c025b8b3023cac5423888372d9d371821d6059fb0cd6b09e77e15394a 3
def kdS (s : State) : State := anchored 0 0xb3ff9f9e139d6060f2a2771427420358d53e7ac007f35aa1e98877d2fd914bec8a464008ed44d3799bf1081d3a75d7829c77fd7f677c3fa75a4d2ceab0e29baf s
def eiP : Packet := pkc 0x3B [3] 0x01110000000000000000000000000000443322117207f487640a03a7c80c0495e8fbdd4a3fb9775c3630d17ca8ccb568d76391b4c99b787736097f0a058fe87585ffea12773088195c669e8863898b725cdb4783b9a90e8604a6688a03d5cfa4324ad0f758b6e3a96019df6a3d27938206e557ccb9a90e8604a6688a03d5cfa4324ad0f758b6e3a96019df6a3d27938206e557cc71ebfe532b1be4d880869b2e4654ba25953acda4d7339e3407e9ff927a5bbd1b71ebfe532b1be4d880869b2e4654ba25953acda4d7339e3407e9ff927a5bbd1b 3
def eiS (s : State) : State := anchored 0 0x0e9b2bd64a72d934de2317cb288ed41c4afaca4272bc92322a7dbe68eee0c2b5dcc11ac13a7e9c764d6c86faa893eb122438f0ba72e0de2186c991f9e3e18f8f s
def dmP : Packet := pkc 0x3D [1] 0x0112000000000000000000000000000044332211d55e42f1e553c86ccec3eb4d80a910e158e1c1fa84302a96b20af4ff5b69fa7550a5d6e4d76722a4c55fd28c6dd677985175278dcd80cf743f8bf1e1e9572e32ebff9c9244dffd7ff07e2128c803374b852284f93c2e9c83fa663d8fe7e14bb1ebff9c9244dffd7ff07e2128c803374b852284f93c2e9c83fa663d8fe7e14bb1e645ef0a65f46ee6622ac590ac20705c3596ce7dce4ab85aa12c466a084fc3eae645ef0a65f46ee6622ac590ac20705c3596ce7dce4ab85aa12c466a084fc3ea 3
def dmS (s : State) : State := anchored 5 0x4025261c6944f6a9996203be7ec03a0b24b69c6f1becd2f0e36a1a93bd83982bb88cd09584cd25831435c5ac6f6b90b4306c103e45d69278fbffafdd20715e56 s

theorem test_key_commands_accepted (h : Obligations.KeyCommandsAccepted) :
    Answers (exec (Instr.keyDestroy kdP) (kdS keysK)) ∧
    Answers (exec (Instr.epochInc eiP) (eiS keysK)) ∧
    Answers (exec (Instr.debugMode dmP) (dmS keysK)) :=
  ⟨ans2 (h.2.2.2.2.1 kdP (kdS keysK) (ready_of (by decide +kernel)) (by decide +kernel) (passes_of (by decide +kernel))),
   ans2 (h.2.2.2.2.2.1 eiP (eiS keysK) (ready_of (by decide +kernel)) ⟨_, (some_of (by decide +kernel)), (by decide +kernel)⟩ (passes_of (by decide +kernel))),
   ans2 (h.2.2.2.2.2.2.1 dmP (dmS keysK) (ready_of (by decide +kernel)) (by decide +kernel) (passes_of (by decide +kernel)))⟩

end KeyCommandsAccepted

/-! Obligations.RadioBusDiagAccepted: its clauses are met, and what they say answers a next state. -/

namespace RadioBusDiagAccepted

def model : Bytes := let b : Bytes := [1,1,0,0] ++ zeros 128; b ++ le 4 (crc32c b).toNat

theorem test_radio_bus_diag_accepted (h : Obligations.RadioBusDiagAccepted) :
    Answers (exec (Instr.lfTest (pk 0x40 [0,0,0,0,0,0] 3)) noon) ∧
    Answers (exec (Instr.radioCal (pk 0x50 [] 3)) noon) ∧
    Answers (exec (Instr.radioSave (pk 0x52 [3] 3)) noon) ∧
    Answers (exec (Instr.modelSet (pk 0x60 model 3)) noon) ∧
    Answers (exec (Instr.range (pk 0x62 [4,1,0,0] 3)) (toks [tok 4 .active .t3 false] noon)) ∧
    Answers (exec (Instr.busSave (pk 0x94 [3] 3)) noon) ∧
    Answers (exec (Instr.engLoad (pk 0xA0 [9,0,0,0] 3)) ({noon with fer := { noon.fer with regions := modAt 0 (fun g => { g with start := 0, pages := 4, image := true }) noon.fer.regions } })) ∧
    Answers (exec (Instr.radioSave (pk 0x52 [0] 0)) noon) ∧
    Answers (exec (Instr.busSave (pk 0x94 [0] 3)) noon) :=
  have hs1 := h.2.2.2.2.2.2.2
  ⟨ans2 (h.1 (pk 0x40 [0,0,0,0,0,0] 3) noon (ready_of (by decide +kernel)) (by decide +kernel) (passes_of (by decide +kernel))),
   ans2 (h.2.1 (pk 0x50 [] 3) noon (ready_of (by decide +kernel)) (by decide +kernel) (passes_of (by decide +kernel))),
   ans2 (h.2.2.1 (pk 0x52 [3] 3) noon (ready_of (by decide +kernel)) (by decide +kernel) (passes_of (by decide +kernel))),
   ans2 (h.2.2.2.1 (pk 0x60 model 3) noon (ready_of (by decide +kernel)) (by decide +kernel) (passes_of (by decide +kernel))),
   ans2 (h.2.2.2.2.1 (pk 0x62 [4,1,0,0] 3) (toks [tok 4 .active .t3 false] noon) (ready_of (by decide +kernel)) (by decide +kernel) (passes_of (by decide +kernel))),
   ans2 (h.2.2.2.2.2.2.1 (pk 0x94 [3] 3) noon (ready_of (by decide +kernel)) (by decide +kernel) (passes_of (by decide +kernel))),
   ans2 (hs1.1 (pk 0xA0 [9,0,0,0] 3) ({noon with fer := { noon.fer with regions := modAt 0 (fun g => { g with start := 0, pages := 4, image := true }) noon.fer.regions } }) (ready_of (by decide +kernel)) (by decide +kernel) (passes_of (by decide +kernel))),
   ans1 (hs1.2.2.1 (pk 0x52 [0] 0) noon (ready_of (by decide +kernel)) (by decide +kernel)),
   ans1 (hs1.2.2.2 (pk 0x94 [0] 3) noon (ready_of (by decide +kernel)) (by decide +kernel))⟩

end RadioBusDiagAccepted

/-! Obligations.AccessSensingAccepted: its clauses are met, and what they say answers a next state. -/

namespace AccessSensingAccepted

def rstP : Packet := pkc 0x74 [4, 1] 0x0111000000000000000000000000000044332211a4468647024a8493a716a50a0ae62664118bd5cebb076fac474330d262e9451c638f3aa4421a7f51f8305e060ec6e9c004173e59de8cd44d0aa80d0dbebcfb989d0eee3d2afd591575d548d28b280dfed9298f8446468218eff5d225669a7f559d0eee3d2afd591575d548d28b280dfed9298f8446468218eff5d225669a7f55cb29056c29f125d500516d9c72f30cb11dd6c495611654825f9160657226b30ccb29056c29f125d500516d9c72f30cb11dd6c495611654825f9160657226b30c 3
def rstS (s : State) : State := anchored 0 0xfd94f6533c2868b20e7f7c16e89f814772a5bfc8ae0d03fbef1349a6c122cfeaa95cb38930eee832662ff6a5d5f1fb8ff7b2530e8cb88e6390eb20de1ca3af23 s
def ovP : Packet := pkc 0x75 [1, 0, 0, 0, 2, 0, 0, 0] 0x0111000000000000000000000000000044332211eb48c787aa6c6d63b0c85b65576cae50da458ea00742aabc5dc3bea906cc8fcd57ea64686c4d112b2ba2afaaebd93ed09690b836aca933f4f4c990969c3aa4942693386d173471e5445ba0379a16d254c47706ca3fb5188c2204fad46b2ff0772693386d173471e5445ba0379a16d254c47706ca3fb5188c2204fad46b2ff0777b5f6a34006c58563dc5127540b5beb1235d2307e612aeda546583e66fb2147e7b5f6a34006c58563dc5127540b5beb1235d2307e612aeda546583e66fb2147e 3
def ovS (s : State) : State := anchored 0 0xd421c7087bb62ecfe69e48e8be3aa64cefe8de6dae56b5a41b2ac04713048368158f1866430f8461a040219aaf3552181747901819f13b8adcf4ad3b84e17b10 s
def trP : Packet := pkc 0x75 [2, 0, 0, 0, 1, 0, 0, 0] 0x01110000000000000000000000000000443322112f0d5ddc09ffdd57d330e0749b1f7902ae2673d5a5b5ac769ee393b0ecce0d25a6c185722473a7d16f40138309d4815695d4e7075cdd15799039b3e409f2a6d4c40aa0c949f730f56af308821f4f4b27e766f474c821beb568c077f9f57ee810c40aa0c949f730f56af308821f4f4b27e766f474c821beb568c077f9f57ee810d88a799903cc8e61687ae71857a4918795500e58bf96da428a1da510d9cbb685d88a799903cc8e61687ae71857a4918795500e58bf96da428a1da510d9cbb685 3
def trS (s : State) : State := anchored 0 0x00082161d0a04c8355b9ea284eea115f77e9cac66150ebc9664ca231c48ce7cbf72d7058ada4fbd78d5b9136b0a88b633bf25c904ad2d488222ac1b5b8a1a924 s
def laP : Packet := pkc 0x75 [3, 0, 0, 0, 1, 0, 0, 0] 0x0111000000000000000000000000000044332211ade5453c5eb67b916a40e47d53914748f4574a3de8f14620df1a562d7b5210021c23b35f8298f0a9fede7cb90bd7c053600a73e74573bf6c45cafd905cd11327623734d9f6850340cc59fce80d7b1c9aea731321bab92e3e29d29256df84914f623734d9f6850340cc59fce80d7b1c9aea731321bab92e3e29d29256df84914fa8f504d411a90cb772a81e35c80c8887aa563cbba0c3af4b6925eb8fb5612803a8f504d411a90cb772a81e35c80c8887aa563cbba0c3af4b6925eb8fb5612803 3
def laS (s : State) : State := anchored 0 0xc19d20e79ea88355a6bbd086bc4133497ecffed3313f2cb0ef5d4ea478d5605cd25431ed6b42dbffb9f05cb4f68c2b20bdf3a5e453fd9858f92fc4742895ee7c s
def ecP : Packet := pkc 0x75 [4, 0, 0, 0, 0, 0, 0, 0] 0x0111000000000000000000000000000044332211d1e61cf65ccfb9e240492698bfd218358d36bfff529cafd795969ffb8d7735d0da8dbaad027cb3422a6d720ae883e687e9d693f5919c7cb39ec12ab6635f163ebec6fa0d64ef270f83c6ea1ec52811a5c53f527e40f6df657d817e5096bb2114bec6fa0d64ef270f83c6ea1ec52811a5c53f527e40f6df657d817e5096bb2114638cb6f787acf3cb54348a7fec6ed56c7cf7651e5945ea94b2551ef8c1cdc88b638cb6f787acf3cb54348a7fec6ed56c7cf7651e5945ea94b2551ef8c1cdc88b 3
def ecS (s : State) : State := anchored 0 0xdddc1789e1102bd887545f101ab631b0eba1f3419c7bbf9b4cc77afadfbd43cb0aecc2caad63b99626f3eb1b3fda2661f46e2843d1b3ad37495f9ee476329799 s
def clP : Packet := pkc 0x75 [5, 0, 0, 0, 0, 0, 0, 0] 0x0111000000000000000000000000000044332211541824ca70b256bba808ebca185732a8ed741b8c2d3c3008d7b361071c6a8a319f29b5541239dcf1e661f34558b1057e34d3de0dc55bd896789394b7358865bd0925dcb9107c163a119e194837edb5ad131e5d1e19ccee490fb3ed23574bca460925dcb9107c163a119e194837edb5ad131e5d1e19ccee490fb3ed23574bca461a4fc44f23fe13b83e1fb4e6855fbdf019af048077c7463e4dc47cd94749a8641a4fc44f23fe13b83e1fb4e6855fbdf019af048077c7463e4dc47cd94749a864 3
def clS (s : State) : State := anchored 0 0x0ae11aadce90ca9f8f108211d3b4dec43f0d610ff3528afec23a7408491bab5e5f528618d26033aeea68bb787759e0f5a014f516db0b3b09f20b26d5fc70d399 s
def ppP : Packet := pkc 0x75 [6, 0, 0, 0, 1, 0, 0, 0] 0x011100000000000000000000000000004433221121c8bf55f666fc26b4c5f1f124297273ec1a9fb487b410a9da4e70619a85c642156582e00a715012072bdef6f670ba390d286fd11cdea688fd337c315b1bbb40aa1f27e1c88b2124a88b34c95ea42a56489e91c7d057de586432b11a2d9fac8caa1f27e1c88b2124a88b34c95ea42a56489e91c7d057de586432b11a2d9fac8c99e18309a5f0f0e8a777096877beaf39e1a7402f6183458b7bc58c5adbb7420199e18309a5f0f0e8a777096877beaf39e1a7402f6183458b7bc58c5adbb74201 3
def ppS (s : State) : State := anchored 0 0x366a4f01d21e0e0486584dcf30271efc78d8da0116bd494d2e0ed8e76e26e1b976dd581e55a33dddef7081b6317d16df6654334711653040df98f563104a5ae8 s
def liP : Packet := pkc 0x75 [7, 0, 0, 0, 200, 0, 0, 0] 0x0110000000000000000000000000000044332211ce8ba7a39f96f43a20f1bfb4cfe120cfc57fc3e9c61a61a157f6806f1cc5c958780c204c928bf4beb241b7f568b2c2bea9a1f89076551e0e7bfb9bba8e90b99186b6c9603eebe7860943a23155ec071eb133932e434ff401409c393a3dec4efa86b6c9603eebe7860943a23155ec071eb133932e434ff401409c393a3dec4efafaa881d545d01aed514883130be093a12196284326788e5525752cc23098df60faa881d545d01aed514883130be093a12196284326788e5525752cc23098df60 3
def liS (s : State) : State := anchored 0 0xb11d8281edf831ed89878c95bb1cb3ca22af6b2a8ad981acdb9e90888417cfa8826489d781b280615251e48cbef0aa6f3226811e48a27a124afdf1c5d765a55d s
def plP : Packet := pkc 0x83 [0, 0, 1, 0, 1, 1, 1, 1, 1, 1, 1, 1] 0x01100000000000000000000000000000443322117cc4d22e440de7aff279fa0dcb13e54be7e7f5e1e1ff42adb500a3f46cc1c4204adbaad4156eec702b2d3efc862b68490c42cdba072e546920b190c314b57b32e68a5fe1b1c1b0ed82d5d880365bcf60c1c6bae0f14c93ad016c2cf53867746ce68a5fe1b1c1b0ed82d5d880365bcf60c1c6bae0f14c93ad016c2cf53867746cdbbf4b9a16c5016f5760fd207b2427702d29b5a50dfd1d3cf14b2e3f472d830adbbf4b9a16c5016f5760fd207b2427702d29b5a50dfd1d3cf14b2e3f472d830a 3
def plS (s : State) : State := anchored 0 0xef8146cee8bbe354babcafdd7ec178b8fb09ec74328cd992e7db194093b8327aa1b129f0910111bcc811ee875e8f0fb1b48868f5f52f96eae0312c914fa43dd1 s
def T := asTractor (keysOpen noon)
def wm : Bytes := let b : Bytes := [1,1,0,0] ++ (zeros 88) ++ [1,0,0,0]; b ++ le 4 (crc32c b).toNat
def wmS (s : State) : State := { s with sns := { s.sns with model := wm } }

theorem test_access_sensing_accepted (h : Obligations.AccessSensingAccepted) :
    Answers (exec (Instr.decide (pk 0x70 [2] 3)) T) ∧
    Answers (exec (Instr.recordState rstP) (rstS (toks [tok 4 .suspended .t3 false] T))) ∧
    Answers (exec (Instr.override ovP) (ovS T)) ∧
    Answers (exec (Instr.trlOwnList trP) (trS T)) ∧
    Answers (exec (Instr.lockedAns laP) (laS T)) ∧
    Answers (exec (Instr.endCurfew ecP) (ecS T)) ∧
    Answers (exec (Instr.clearSloFault clP) (clS T)) ∧
    Answers (exec (Instr.profilePolicy ppP) (ppS T)) ∧
    Answers (exec (Instr.enrolLimit liP) (liS T)) ∧
    Answers (exec (Instr.couple (pk 0x80 [2] 3)) T) ∧
    Answers (exec (Instr.decouple (pk 0x81 [2] 3)) T) ∧
    Answers (exec (Instr.partnerList plP) (plS T)) ∧
    Answers (exec (Instr.rosterAdd (pk 0x84 ([1,0,0,0, 1,2,3,4,1,1,1,0,0,0,1,0]) 3)) T) ∧
    Answers (exec (Instr.rosterRemove (pk 0x85 [1,4] 3)) T) ∧
    Answers (exec (Instr.wheelSet (pk 0x86 [4,0xFF,0,0] 3)) (wmS (sensors [newSensor 4 .own false 1 1 77] T))) ∧
    Answers (exec (Instr.locate (pk 0x87 [] 3)) (wmS (sensors [newSensor 4 .own false 1 1 77] T))) ∧
    Answers (exec (Instr.wheelModelSet (pk 0x88 wm 3)) T) ∧
    Answers (exec (Instr.s1Learn (pk 0x89 [] 3)) (regPutFld 0x40070100 1 1 1 T)) ∧
    Answers (exec (Instr.sensorSet (pk 0x8C [4,1,0,0] 3)) (wmS (sensors [newSensor 4 .own false 1 1 77] T))) ∧
    Answers (exec (Instr.rosterAdd (pk 0x84 [0,0,0,0] 3)) T) ∧
    Answers (exec (Instr.rosterRemove (pk 0x85 [0] 3)) T) ∧
    Answers (exec (Instr.couple (pk 0x80 [2] 3)) (asTrailer noon)) ∧
    Answers (exec (Instr.locate (pk 0x87 [] 3)) T) :=
  have hs1 := h.2.2.2.2.2.2.2
  have ht1 := h.1.2.2.2.2.2.2.2
  ⟨ans2 (h.1.1 (pk 0x70 [2] 3) T (ready_of (by decide +kernel)) (by decide +kernel) (passes_of (by decide +kernel))),
   ans2 (h.1.2.2.2.1 rstP (rstS (toks [tok 4 .suspended .t3 false] T)) (ready_of (by decide +kernel)) (by decide +kernel) (passes_of (by decide +kernel))),
   ans2 (h.1.2.2.2.2.1 ovP (ovS T) (ready_of (by decide +kernel)) (by decide +kernel) (passes_of (by decide +kernel))),
   ans2 (h.1.2.2.2.2.2.1 trP (trS T) (ready_of (by decide +kernel)) (by decide +kernel) (passes_of (by decide +kernel))),
   ans2 (h.1.2.2.2.2.2.2.1 laP (laS T) (ready_of (by decide +kernel)) (by decide +kernel) (passes_of (by decide +kernel))),
   ans2 (ht1.1 ecP (ecS T) (ready_of (by decide +kernel)) (by decide +kernel) (passes_of (by decide +kernel))),
   ans2 (ht1.2.1 clP (clS T) (ready_of (by decide +kernel)) (by decide +kernel) (passes_of (by decide +kernel))),
   ans2 (ht1.2.2.1 ppP (ppS T) (ready_of (by decide +kernel)) (by decide +kernel) (passes_of (by decide +kernel))),
   ans2 (ht1.2.2.2 liP (liS T) (ready_of (by decide +kernel)) (by decide +kernel) (passes_of (by decide +kernel))),
   ans2 (h.2.1 (pk 0x80 [2] 3) T (ready_of (by decide +kernel)) (by decide +kernel) (passes_of (by decide +kernel))),
   ans2 (h.2.2.1 (pk 0x81 [2] 3) T (ready_of (by decide +kernel)) (by decide +kernel) (passes_of (by decide +kernel))),
   ans2 (h.2.2.2.1 plP (plS T) (ready_of (by decide +kernel)) (by decide +kernel) (passes_of (by decide +kernel))),
   ans2 (h.2.2.2.2.1 (pk 0x84 ([1,0,0,0, 1,2,3,4,1,1,1,0,0,0,1,0]) 3) T (ready_of (by decide +kernel)) (by decide +kernel) (passes_of (by decide +kernel))),
   ans2 (h.2.2.2.2.2.1 (pk 0x85 [1,4] 3) T (ready_of (by decide +kernel)) (by decide +kernel) (passes_of (by decide +kernel))),
   ans2 (h.2.2.2.2.2.2.1 (pk 0x86 [4,0xFF,0,0] 3) (wmS (sensors [newSensor 4 .own false 1 1 77] T)) (ready_of (by decide +kernel)) (by decide +kernel) (passes_of (by decide +kernel))),
   ans2 (hs1.1 (pk 0x87 [] 3) (wmS (sensors [newSensor 4 .own false 1 1 77] T)) (ready_of (by decide +kernel)) (by decide +kernel) (passes_of (by decide +kernel))),
   ans2 (hs1.2.1 (pk 0x88 wm 3) T (ready_of (by decide +kernel)) (by decide +kernel) (passes_of (by decide +kernel))),
   ans2 (hs1.2.2.1 (pk 0x89 [] 3) (regPutFld 0x40070100 1 1 1 T) (ready_of (by decide +kernel)) (by decide +kernel) (passes_of (by decide +kernel))),
   ans2 (hs1.2.2.2.1 (pk 0x8C [4,1,0,0] 3) (wmS (sensors [newSensor 4 .own false 1 1 77] T)) (ready_of (by decide +kernel)) (by decide +kernel) (passes_of (by decide +kernel))),
   ans1 (hs1.2.2.2.2.1 (pk 0x84 [0,0,0,0] 3) T (ready_of (by decide +kernel)) (by decide +kernel)),
   ans1 (hs1.2.2.2.2.2.1 (pk 0x85 [0] 3) T (ready_of (by decide +kernel)) (by decide +kernel)),
   ans1 (hs1.2.2.2.2.2.2.1 (pk 0x80 [2] 3) (asTrailer noon) (ready_of (by decide +kernel)) (by decide +kernel)),
   ans1 (hs1.2.2.2.2.2.2.2 (pk 0x87 [] 3) T (ready_of (by decide +kernel)) (by decide +kernel))⟩

end AccessSensingAccepted

/-! Obligations.LfRadioCommands: its clauses are met, and what they say answers a next state. -/

namespace LfRadioCommands

theorem test_lf_radio_commands (h : Obligations.LfRadioCommands) :
    Answers (exec (Instr.lfRetest (pk 0x41 [5])) noon) ∧
    Answers (exec (Instr.lfTable (pk 0x43 [3,0,0,0,1,2,3,4,5,6,7,200])) noon) ∧
    Answers (exec (Instr.lfTable (pk 0x43 [3,0,0,0,1,2,3,4,5,6,7,200])) ({noon with lf := { noon.lf with telegram := some tg, openRun := List.replicate 8 3 }})) ∧
    Answers (exec (Instr.lfOffsetCal (pk 0x42 [])) noon) ∧
    Answers (exec (Instr.lfOffsetCal (pk 0x42 [])) ({noon with lf := { noon.lf with telegram := some tg, openRun := List.replicate 8 3 }})) ∧
    Answers (exec (Instr.radioTx (pk 0x51 ([0,1,2,0] ++ le 4 433920000 ++ [0,0,0,0,3,0,9,8,7]))) noon) ∧
    Answers (exec (Instr.radioTx (pk 0x51 ([0,1,2,0] ++ le 4 433920000 ++ [0,0,0,0,0,0]))) noon) :=
  ⟨ans1 (h.1 (pk 0x41 [5]) noon (ready_of (by decide +kernel))),
   ans1 (h.2.1 (pk 0x43 [3,0,0,0,1,2,3,4,5,6,7,200]) noon (ready_of (by decide +kernel)) (by decide +kernel)),
   ans1 (h.2.2.1 (pk 0x43 [3,0,0,0,1,2,3,4,5,6,7,200]) ({noon with lf := { noon.lf with telegram := some tg, openRun := List.replicate 8 3 }}) (ready_of (by decide +kernel)) (by decide +kernel)),
   ans1 (h.2.2.2.1 (pk 0x42 []) noon (ready_of (by decide +kernel)) (by decide +kernel) (by decide +kernel)),
   ans1 (h.2.2.2.2.1 (pk 0x42 []) ({noon with lf := { noon.lf with telegram := some tg, openRun := List.replicate 8 3 }}) (ready_of (by decide +kernel)) (by decide +kernel)),
   ans1 (h.2.2.2.2.2.1 (pk 0x51 ([0,1,2,0] ++ le 4 433920000 ++ [0,0,0,0,3,0,9,8,7])) noon _ (ready_of (by decide +kernel)) (by decide +kernel) (by decide +kernel) (some_of (by decide +kernel)) (by decide +kernel)),
   ans1 (h.2.2.2.2.2.2 (pk 0x51 ([0,1,2,0] ++ le 4 433920000 ++ [0,0,0,0,0,0])) noon (ready_of (by decide +kernel)) (by decide +kernel))⟩

end LfRadioCommands

/-! Obligations.QueriesAnswer: its clauses are met, and what they say answers a next state. -/

namespace QueriesAnswer

def T := asTractor (keysOpen noon)

theorem test_queries_answer (h : Obligations.QueriesAnswer) :
    Answers (exec (Instr.modelGet (pk 0x61 [])) noon) ∧
    Answers (exec (Instr.range (pk 0x62 [4,0,0,0])) noon) ∧
    Answers (exec (Instr.decisionLog (pk 0x71 [0,0,0,0,4])) T) ∧
    Answers (exec (Instr.tokenRead (pk 0x76 [3,2])) T) ∧
    Answers (exec (Instr.denyRead (pk 0x77 [])) T) ∧
    Answers (exec (Instr.couplingQuery (pk 0x82 [0])) T) ∧
    Answers (exec (Instr.sensorRead (pk 0x8A [3,3])) T) ∧
    Answers (exec (Instr.historyRead (pk 0x8B [4,0,0,3])) T) ∧
    Answers (exec (Instr.faultRead (pk 0xC0 [0,0,4])) noon) :=
  have hs1 := h.2.2.2.2.2.2.2
  ⟨ans1 (h.1 (pk 0x61 []) noon (ready_of (by decide +kernel)) (by decide +kernel)),
   ans1 (h.2.1 (pk 0x62 [4,0,0,0]) noon (ready_of (by decide +kernel)) (by decide +kernel)),
   ans1 (h.2.2.1 (pk 0x71 [0,0,0,0,4]) T (ready_of (by decide +kernel)) (by decide +kernel)),
   ans1 (h.2.2.2.1 (pk 0x76 [3,2]) T (ready_of (by decide +kernel)) (by decide +kernel)),
   ans1 (h.2.2.2.2.1 (pk 0x77 []) T (ready_of (by decide +kernel)) (by decide +kernel)),
   ans1 (h.2.2.2.2.2.1 (pk 0x82 [0]) T (ready_of (by decide +kernel)) (by decide +kernel)),
   ans1 (h.2.2.2.2.2.2.1 (pk 0x8A [3,3]) T (ready_of (by decide +kernel)) (by decide +kernel)),
   ans1 (hs1.1 (pk 0x8B [4,0,0,3]) T (ready_of (by decide +kernel)) (by decide +kernel)),
   ans1 (hs1.2 (pk 0xC0 [0,0,4]) noon (ready_of (by decide +kernel)) (by decide +kernel))⟩

end QueriesAnswer

/-! Obligations.BusCommands: its clauses are met, and what they say answers a next state. -/

namespace BusCommands

theorem test_bus_commands (h : Obligations.BusCommands) :
    Answers (exec (Instr.canTx (pk 0x90 ([0,0,2,0] ++ le 4 0x123 ++ [1,2]))) (canAt (fun c => { c with state := .active }) noon)) ∧
    Answers (exec (Instr.canTx (pk 0x90 ([0,0,2,0] ++ le 4 0x123 ++ [1,2]))) (regSet 0x400C0060 0x40000123 noon)) ∧
    Answers (exec (Instr.canRx (pk 0x91 [0,2])) (canAt (fun c => { c with state := .active }) noon)) ∧
    Answers (exec (Instr.plcTx (pk 0x92 [0x80, 3, 2, 0, 5, 6])) (canAt (fun c => { c with state := .active }) noon)) ∧
    Answers (exec (Instr.linXfer (pk 0x93 [0x12, 0, 2, 0, 5, 6])) (canAt (fun c => { c with state := .active }) noon)) :=
  ⟨ans1 ((all4 (h.1 (pk 0x90 ([0,0,2,0] ++ le 4 0x123 ++ [1,2])) (canAt (fun c => { c with state := .active }) noon) _ (ready_of (by decide +kernel))) (by decide +kernel)) (some_of (by decide +kernel))),
   ans1 (h.2.1 (pk 0x90 ([0,0,2,0] ++ le 4 0x123 ++ [1,2])) (regSet 0x400C0060 0x40000123 noon) (ready_of (by decide +kernel)) (by decide +kernel)),
   ans1 (h.2.2.1 (pk 0x91 [0,2]) (canAt (fun c => { c with state := .active }) noon) (ready_of (by decide +kernel))),
   ans1 (h.2.2.2.1 (pk 0x92 [0x80, 3, 2, 0, 5, 6]) (canAt (fun c => { c with state := .active }) noon) (ready_of (by decide +kernel))),
   ans2 (h.2.2.2.2 (pk 0x93 [0x12, 0, 2, 0, 5, 6]) (canAt (fun c => { c with state := .active }) noon) (ready_of (by decide +kernel)))⟩

end BusCommands

/-! Obligations.EngineCommands: its clauses are met, and what they say answers a next state. -/

namespace EngineCommands

def ms (n : Nat) : Message := { src := n, data := [1,2] }

theorem test_engine_commands (h : Obligations.EngineCommands) :
    Answers (exec (Instr.engCtrl (pk 0xA1 [9,0])) (engAt 9 (fun e => { e with state := .run }) noon)) ∧
    Answers (exec (Instr.engCtrl (pk 0xA1 [9,1])) (engAt 9 (fun e => { e with pmemValid := true }) noon)) ∧
    Answers (exec (Instr.engCtrl (pk 0xA1 [9,1])) noon) ∧
    Answers (exec (Instr.engCtrl (pk 0xA1 [9,2])) noon) ∧
    Answers (exec (Instr.mbxWrite (pk 0xA2 [9,0,2,0,7,8])) noon) ∧
    Answers (exec (Instr.mbxWrite (pk 0xA2 [9,0,0,0])) noon) ∧
    Answers (exec (Instr.mbxRead (pk 0xA3 [9])) (engAt 9 (fun e => { e with state := .siesta, inbox := [ms 2], hostBox := [ms 9, ms 9] }) noon)) ∧
    Answers (exec (Instr.mbxRead (pk 0xA3 [9])) noon) ∧
    Answers (exec (Instr.ucodeWrite (pk 0xA4 ([9,0,3,0,2,0] ++ [1,2,3,4,5,6,7,8,9,10]))) (engAt 9 (fun e => { e with state := .siesta, inbox := [ms 2], hostBox := [ms 9, ms 9] }) noon)) ∧
    Answers (exec (Instr.ucodeWrite (pk 0xA4 ([9,0,3,0,2,0] ++ [1,2,3,4,5,6,7,8,9,10]))) noon) :=
  have hs1 := h.2.2.2.2.2.2.2
  ⟨ans1 (h.1 (pk 0xA1 [9,0]) (engAt 9 (fun e => { e with state := .run }) noon) (ready_of (by decide +kernel)) (by decide +kernel) (by decide +kernel)),
   ans1 (all3 (h.2.1 (pk 0xA1 [9,1]) (engAt 9 (fun e => { e with pmemValid := true }) noon) (ready_of (by decide +kernel))) (by decide +kernel)),
   ans1 (h.2.2.1 (pk 0xA1 [9,1]) noon (ready_of (by decide +kernel)) (by decide +kernel)),
   ans1 (h.2.2.2.1 (pk 0xA1 [9,2]) noon (ready_of (by decide +kernel)) (by decide +kernel) (by decide +kernel)),
   ans1 (h.2.2.2.2.1 (pk 0xA2 [9,0,2,0,7,8]) noon (ready_of (by decide +kernel)) (by decide +kernel) (by decide +kernel)),
   ans1 (h.2.2.2.2.2.1 (pk 0xA2 [9,0,0,0]) noon (ready_of (by decide +kernel)) (by decide +kernel)),
   ans1 (h.2.2.2.2.2.2.1 (pk 0xA3 [9]) (engAt 9 (fun e => { e with state := .siesta, inbox := [ms 2], hostBox := [ms 9, ms 9] }) noon) _ _ (ready_of (by decide +kernel)) (cons_of (by decide +kernel))),
   ans1 (hs1.1 (pk 0xA3 [9]) noon (ready_of (by decide +kernel)) (by decide +kernel)),
   ans1 (hs1.2.1 (pk 0xA4 ([9,0,3,0,2,0] ++ [1,2,3,4,5,6,7,8,9,10])) (engAt 9 (fun e => { e with state := .siesta, inbox := [ms 2], hostBox := [ms 9, ms 9] }) noon) (ready_of (by decide +kernel)) (by decide +kernel)),
   ans1 (hs1.2.2 (pk 0xA4 ([9,0,3,0,2,0] ++ [1,2,3,4,5,6,7,8,9,10])) noon (ready_of (by decide +kernel)) (by decide +kernel))⟩

end EngineCommands

/-! Obligations.TimerAndInjectCommands: its clauses are met, and what they say answers a next state. -/

namespace TimerAndInjectCommands

def trt (s : State) : State := { s with ks := { s.ks with testRoot := true } }
def inj (d p : Nat) (s : State) : State := { s with saf := { s.saf with inject := some { detector := d, param := p, acted := false, addr := none } } }

theorem test_timer_and_inject_commands (h : Obligations.TimerAndInjectCommands) :
    Answers (exec (Instr.tmrRead (pk 0xB0 [3])) noon) ∧
    Answers (exec (Instr.tmrArm (pk 0xB1 ([29, 0x21, 0, 0] ++ le 4 5000))) noon) ∧
    Answers (exec (Instr.tmrArm (pk 0xB1 ([27, 0x1F, 0, 0] ++ le 4 5000))) noon) ∧
    Answers (exec (Instr.tmrCfg (pk 0xB2 [0,1,1,1])) noon) ∧
    Answers (exec (Instr.tmrCfg (pk 0xB2 [0,1,1,1])) ({ noon with tmb := { noon.tmb with counters := modAt 7 (fun c => { c with run := true }) noon.tmb.counters } })) ∧
    Answers (exec (Instr.inject (pk 0xC1 [1,0,0,0x80])) (trt noon)) ∧
    Answers (exec (Instr.inject (pk 0xC1 [1,0,0,0])) (trt noon)) ∧
    Answers (exec (Instr.inject (pk 0xC1 [1,0,0,0])) (trt (inj 1 0 noon))) ∧
    Answers (exec (Instr.inject (pk 0xC1 [1,0,0,0])) noon) ∧
    Answers (exec (Instr.inject (pk 0xC1 [99,0,0,0])) noon) :=
  ⟨ans1 (h.1.1 (pk 0xB0 [3]) noon (ready_of (by decide +kernel))),
   ans1 (all4 (h.1.2.1 (pk 0xB1 ([29, 0x21, 0, 0] ++ le 4 5000)) noon (ready_of (by decide +kernel))) (by decide +kernel)),
   ans1 (h.1.2.2.1 (pk 0xB1 ([27, 0x1F, 0, 0] ++ le 4 5000)) noon (ready_of (by decide +kernel)) (by decide +kernel)),
   ans1 (h.1.2.2.2.1 (pk 0xB2 [0,1,1,1]) noon (ready_of (by decide +kernel)) (by decide +kernel) (by decide +kernel)),
   ans1 (all3 (h.1.2.2.2.2 (pk 0xB2 [0,1,1,1]) ({ noon with tmb := { noon.tmb with counters := modAt 7 (fun c => { c with run := true }) noon.tmb.counters } }) (ready_of (by decide +kernel))) (by decide +kernel)),
   ans1 (all5 (h.2.1 (pk 0xC1 [1,0,0,0x80]) (trt noon) (ready_of (by decide +kernel))) (by decide +kernel)),
   ans1 (all6 (h.2.2.1 (pk 0xC1 [1,0,0,0]) (trt noon) (ready_of (by decide +kernel))) (by decide +kernel)),
   ans1 (h.2.2.2.1 (pk 0xC1 [1,0,0,0]) (trt (inj 1 0 noon)) (ready_of (by decide +kernel)) (by decide +kernel)),
   ans1 (h.2.2.2.2.1 (pk 0xC1 [1,0,0,0]) noon (ready_of (by decide +kernel)) (by decide +kernel)),
   ans1 (h.2.2.2.2.2.1 (pk 0xC1 [99,0,0,0]) noon (ready_of (by decide +kernel)) (by decide +kernel))⟩

end TimerAndInjectCommands

/-! Obligations.AcceptanceAndStart: its clauses are met, and what they say answers a next state. -/

namespace AcceptanceAndStart

def acc1 (n : Nat) : Accepting := { work := wk 0x50 .accepted [] n 5, ret := { slot := n, port := .hcs0, opcode := 0x50, tag := 5, flags := 0x20 }, twins := [] }
def accd (n : Nat) (l : List Accepting) (s : State) : State := { s with jrn := { s.jrn with accepting := l }, fer := { s.fer with commits := [{ kind := .acceptance n, addr := 0, data := [] }] } }
def opened (n : Nat) (s : State) : State := { s with link := { s.link with hcs0 := { s.link.hcs0 with opn := [{ ret := (acc1 n).ret, room := 88, pkt := none }] } } }
def encReg (s : State) : State := { s with fer := { s.fer with regions := modAt 2 (fun g => { g with start := 0, pages := 4, enc := true }) s.fer.regions } }
def c50W : Work := wk 0x50 .accepted [] 1 5
def c50T : State := withWorks [c50W] (noon)
def c21W : Work := wk 0x21 .accepted (le 4 0x56010 ++ [3,0,1,2,3]) 1 5
def c21T : State := withWorks [c21W] (noon)
def c21eW : Work := { wk 0x21 .accepted (le 4 0x56010 ++ [3,0,1,2,3]) 1 5 with ready := none }
def c21eT : State := withWorks [c21eW] (encReg noon)

theorem test_acceptance_and_start (h : Obligations.AcceptanceAndStart) :
    Answers (exec (Instr.pageCommitDone ({a := 0, b := 0})) (accd 1 [acc1 1] (opened 1 noon))) ∧
    Answers (exec (Instr.pageCommitDone ({a := 0, b := 0})) (accd 1 [acc1 1] (opened 1 noon))) ∧
    Answers (exec (Instr.pageCommitDone ({a := 1, b := 2})) (accd 1 [acc1 1] (opened 1 noon))) ∧
    Answers (exec (Instr.acceptedWorkStart) c50T) ∧
    Answers (exec (Instr.acceptedWorkStart) c21T) ∧
    Answers (exec (Instr.acceptedWorkStart) c21eT) ∧
    Answers (exec (Instr.acceptedWorkStart) (withWorks [wk 0x60 .running [] 1 5, wk 0x60 .accepted [] 2 6] noon)) ∧
    Answers (exec (Instr.acceptedWorkStart) (engAt 7 (fun e => { e with restartDue := true }) (withWorks [wk 0x80 .accepted [] 1 5, wk 0x50 .accepted [] 2 6] noon))) ∧
    Answers (exec (Instr.acceptedWorkStart) (engAt 7 (fun e => { e with restartDue := true }) (withWorks [wk 0x80 .accepted [] 1 5] noon))) ∧
    Answers (exec (Instr.acceptedWorkStart) ({ withWorks [wk 0x50 .accepted []] noon with power := { noon.power with state := .dusk } })) :=
  ⟨ans1 ((all6 (h.1.1 ({a := 0, b := 0}) (accd 1 [acc1 1] (opened 1 noon)) (acc1 1) ([]) ([]) (by decide +kernel) (link_of (by decide +kernel))) (by decide +kernel)) (by decide +kernel) (by decide +kernel)),
   ans1 (all3 (h.1.2.1 ({a := 0, b := 0}) (accd 1 [acc1 1] (opened 1 noon)) _ 88 (by decide +kernel) (link_of (by decide +kernel)) (by decide +kernel) (by decide +kernel) (cons_of (by decide +kernel)) (by decide +kernel) (by decide +kernel) (cons_of (by decide +kernel))) (by decide +kernel)),
   ans1 (h.1.2.2 ({a := 1, b := 2}) (accd 1 [acc1 1] (opened 1 noon)) _ 88 (by decide +kernel) (link_of (by decide +kernel)) (by decide +kernel) (by decide +kernel) (cons_of (by decide +kernel)) (by decide +kernel) (by decide +kernel) (cons_of (by decide +kernel)) (by decide +kernel) (by decide +kernel)),
   ansE (all4 (h.2.1 c50T _ (link_of (by decide +kernel)) (by decide +kernel) (by decide +kernel) (cons_of (by decide +kernel))) (by decide +kernel)),
   ansE (all5 (h.2.2.1 c21T _ (link_of (by decide +kernel)) (by decide +kernel) (by decide +kernel) (cons_of (by decide +kernel))) (by decide +kernel)),
   ansE ((all5 (h.2.2.2.1 c21eT _ _ _ _ (link_of (by decide +kernel)) (by decide +kernel) (by decide +kernel) (cons_of (by decide +kernel))) (by decide +kernel)) (cons_of (by decide +kernel)) (by decide +kernel) (some_of (by decide +kernel))),
   ansE (all4 (h.2.2.2.2.1 (withWorks [wk 0x60 .running [] 1 5, wk 0x60 .accepted [] 2 6] noon) _ _ (link_of (by decide +kernel)) (cons_of (by decide +kernel))) (by decide +kernel)),
   ansE (all6 (h.2.2.2.2.2.1 (engAt 7 (fun e => { e with restartDue := true }) (withWorks [wk 0x80 .accepted [] 1 5, wk 0x50 .accepted [] 2 6] noon)) _ _ (link_of (by decide +kernel)) (cons_of (by decide +kernel))) (by decide +kernel)),
   ansE (h.2.2.2.2.2.2.1 (engAt 7 (fun e => { e with restartDue := true }) (withWorks [wk 0x80 .accepted [] 1 5] noon)) _ (link_of (by decide +kernel)) (cons_of (by decide +kernel)) (by decide +kernel) (by decide +kernel)),
   ansE (h.2.2.2.2.2.2.2 ({ withWorks [wk 0x50 .accepted []] noon with power := { noon.power with state := .dusk } }) (link_of (by decide +kernel)) (by decide +kernel))⟩

end AcceptanceAndStart

/-! Obligations.SystemWorkEnds: its clauses are met, and what they say answers a next state. -/

namespace SystemWorkEnds

def K := asTractor (keysK)
def rdy (w : Work) : Work := { w with ready := some (0, []) }
def sdv (d : Bytes) (w : Work) : Work := { w with stepData := d }
def x08W : Work := wk 0x08 .running [1,2,3,4]
def x08T : State := withWorks [x08W] (K)
def x071W : Work := wk 0x07 .running [1,1]
def x071T : State := withWorks [x071W] (K)
def x072W : Work := wk 0x07 .running [2,1,2,3,4,1]
def x072T : State := withWorks [x072W] (K)
def x073W : Work := wk 0x07 .running [3,0]
def x073T : State := withWorks [x073W] (K)
def x21W : Work := rdy (wk 0x21 .running (le 4 0x56010 ++ [3,0,1,2,3]))
def x21T : State := withWorks [x21W] (K)
def x21nW : Work := { wk 0x21 .running (le 4 0x56010 ++ [3,0,1,2,3]) with ready := some (stTamper, [1, 2]) }
def x21nT : State := withWorks [x21nW] (K)
def x25W : Work := wk 0x25 .running ([0,0,1,0,3,0,0,0]++zeros 120)
def x25T : State := withWorks [x25W] (withRegion [1,2,3,4,5,6,7,8] K)
def x24W : Work := wk 0x24 .running ([2,0]++zeros 8++[1,2,3,4,5,6,7,8])
def x24T : State := withWorks [x24W] (K)
def x3dW : Work := wk 0x3D .running [0]
def x3dT : State := withWorks [x3dW] (K)
def x3eW : Work := wk 0x3E .running ([1,0,0,0,1,2,3,4,1,0,0,0]++be 64 77)
def x3eT : State := withWorks [x3eW] (K)
def x3bW : Work := sdv (le 8 5) (wk 0x3B .running [3])
def x3bT : State := withWorks [x3bW] (K)
def x3bdW : Work := sdv (le 8 5) (wk 0x3B .running [3])
def x3bdT : State := withWorks [x3bdW] (ctrAt 3 7 K)
def x37W : Work := wk 0x37 .running [1,197]
def x37T : State := withWorks [x37W] (handle 197 (mkBlob K (hdr 1 7 0) aesKey) K)
def xc2W : Work := sdv (le 4 3) (wk 0xC2 .running [])
def xc2T : State := withWorks [xc2W] ({ K with saf := { K.saf with latched := 1, vigil := 2, record := 5, vigilN := 3 } })
def xc2cW : Work := sdv (le 4 3) (wk 0xC2 .running [])
def xc2cT : State := withWorks [xc2cW] ({ K with saf := { K.saf with latched := 1, vigil := 2, record := 5, vigilN := 3 }, ks := { K.ks with state := .closed, closedByCtrl := true } })
def xc2rW : Work := sdv (le 4 3) (wk 0xC2 .running [])
def xc2rT : State := withWorks [xc2rW] ({ K with saf := { K.saf with raw := 1 } })

theorem test_system_work_ends (h : Obligations.SystemWorkEnds) :
    Answers (exec (Instr.acceptedWorkStep true x08W.seq sm) x08T) ∧
    Answers (exec (Instr.acceptedWorkStep true x071W.seq sm) x071T) ∧
    Answers (exec (Instr.acceptedWorkStep true x072W.seq sm) x072T) ∧
    Answers (exec (Instr.acceptedWorkStep true x073W.seq sm) x073T) ∧
    Answers (exec (Instr.acceptedWorkStep true x21W.seq sm) x21T) ∧
    Answers (exec (Instr.acceptedWorkStep true x21nW.seq sm) x21nT) ∧
    Answers (exec (Instr.acceptedWorkStep true x25W.seq sm) x25T) ∧
    Answers (exec (Instr.acceptedWorkStep true x24W.seq sm) x24T) ∧
    Answers (exec (Instr.acceptedWorkStep true x3dW.seq sm) x3dT) ∧
    Answers (exec (Instr.acceptedWorkStep true x3eW.seq sm) x3eT) ∧
    Answers (exec (Instr.acceptedWorkStep true x3bW.seq sm) x3bT) ∧
    Answers (exec (Instr.acceptedWorkStep true x3bW.seq sm) x3bdT) ∧
    Answers (exec (Instr.acceptedWorkStep true x37W.seq sm) x37T) ∧
    Answers (exec (Instr.acceptedWorkStep true xc2W.seq sm) xc2T) ∧
    Answers (exec (Instr.acceptedWorkStep true xc2W.seq sm) xc2cT) ∧
    Answers (exec (Instr.acceptedWorkStep true xc2W.seq sm) xc2rT) :=
  have hs1 := h.2.2.2.2.2.2.2
  have hs2 := hs1.2.2.2.2.2.2.2
  ⟨ans1 (h.1 x08W sm x08T (steps_of (by decide +kernel)) (by decide +kernel)),
   ans1 (h.2.1 x071W sm x071T (steps_of (by decide +kernel)) (by decide +kernel)),
   ans1 (h.2.2.1 x072W sm x072T (steps_of (by decide +kernel)) (by decide +kernel)),
   ans1 (h.2.2.2.1 x073W sm x073T (steps_of (by decide +kernel)) ⟨(by decide +kernel), (by decide +kernel), (by decide +kernel)⟩),
   ans1 (h.2.2.2.2.1 ([]) x21W sm x21T (steps_of (by decide +kernel)) (by decide +kernel)),
   ans1 (h.2.2.2.2.2.1 _ _ (by decide +kernel) (by decide +kernel) x21nW sm x21nT (steps_of (by decide +kernel)) (some_of (by decide +kernel))),
   ans1 (h.2.2.2.2.2.2.1 x25W sm x25T (steps_of (by decide +kernel)) (by decide +kernel)),
   ans1 (hs1.1 x24W sm x24T (steps_of (by decide +kernel)) (by decide +kernel)),
   ans1 (hs1.2.1 x3dW sm x3dT (steps_of (by decide +kernel)) (by decide +kernel)),
   ans1 (hs1.2.2.1 x3eW sm x3eT (steps_of (by decide +kernel)) (by decide +kernel)),
   ansE (hs1.2.2.2.1 x3bW sm x3bT _ (steps_of (by decide +kernel)) (by decide +kernel) (some_of (by decide +kernel)) (by decide +kernel) (by decide +kernel)),
   ans1 (hs1.2.2.2.2.1 x3bW sm x3bdT _ (steps_of (by decide +kernel)) (by decide +kernel) (some_of (by decide +kernel)) (by decide +kernel)),
   ans1 (hs1.2.2.2.2.2.1 x37W sm x37T (steps_of (by decide +kernel)) (by decide +kernel) (by decide +kernel)),
   ans1 (all6 (hs1.2.2.2.2.2.2.1 xc2W sm xc2T (steps_of (by decide +kernel))) (by decide +kernel)),
   ans1 (all6 (hs2.1 xc2W sm xc2cT (steps_of (by decide +kernel))) (by decide +kernel)),
   ans1 (hs2.2 xc2W sm xc2rT (steps_of (by decide +kernel)) (by decide +kernel))⟩

end SystemWorkEnds

/-! Obligations.AirAccessWorkEnds: its clauses are met, and what they say answers a next state. -/

namespace AirAccessWorkEnds

def K := asTractor (keysK)
def sensT := sensors [newSensor 4 .own false 1 1 77] K
def s86 : Sensor := newSensor 4 .own false 1 1 77
def conf3 (s : State) : State := { sensors [s86] s with sns := { (sensors [s86] s).sns with locStage := 3, loc := none } }
def tokT := toks [tok 4 .active .t3 false, tok 5 .suspended .t3 false] K
def b75 (i : Nat) (v : Nat) : Work := wk 0x75 .running ([byte i,0,0,0] ++ le 4 v)
def y60W : Work := wk 0x60 .running (withCrc ([1,1,0,0] ++ zeros 128))
def y60T : State := withWorks [y60W] (K)
def y521W : Work := wk 0x52 .running [1]
def y521T : State := withWorks [y521W] (K)
def y528W : Work := wk 0x52 .running [8]
def y528T : State := withWorks [y528W] (regSet 0x4003006C 5 K)
def y63W : Work := wk 0x63 .running [5,1,0,0]
def y63T : State := withWorks [y63W] (K)
def y751W : Work := b75 1 1
def y751T : State := withWorks [y751W] (K)
def y752W : Work := b75 2 1
def y752T : State := withWorks [y752W] (K)
def y753W : Work := b75 3 1
def y753T : State := withWorks [y753W] (K)
def y754W : Work := b75 4 0
def y754T : State := withWorks [y754W] ({ K with acc := { K.acc with curfew := true, foreignAt := [3] } })
def y756W : Work := b75 6 0x247
def y756T : State := withWorks [y756W] (K)
def y757W : Work := b75 7 9
def y757T : State := withWorks [y757W] (ctrAt 32 5 K)
def y757bW : Work := b75 7 3
def y757bT : State := withWorks [y757bW] (ctrAt 32 5 K)
def y757cW : Work := b75 7 600
def y757cT : State := withWorks [y757cW] (ctrAt 32 5 { K with acc := { K.acc with enrolLimit := 48 } })
def y741W : Work := wk 0x74 .running [5,1]
def y741T : State := withWorks [y741W] (tokT)
def y742W : Work := wk 0x74 .running [4,2]
def y742T : State := withWorks [y742W] (tokT)
def y830W : Work := wk 0x83 .running ([0,0,1,0]++le 8 7)
def y830T : State := withWorks [y830W] (K)
def y831W : Work := wk 0x83 .running ([1,0,1,0]++le 8 7)
def y831T : State := withWorks [y831W] (K)
def y88W : Work := wk 0x88 .running (withCrc ([1,0,0,0] ++ zeros 92))
def y88T : State := withWorks [y88W] (K)
def y8cW : Work := wk 0x8C .running [4,3,5,0]
def y8cT : State := withWorks [y8cW] (sensT)
def y860W : Work := wk 0x86 .running [4,0xFF,0,0]
def y860T : State := withWorks [y860W] (sensT)
def y861W : Work := wk 0x86 .running [4,3,1,0]
def y861T : State := withWorks [y861W] (sensT)
def y86tW : Work := wk 0x86 .running [4,3,1,0]
def y86tT : State := withWorks [y86tW] (asTrailer sensT)
def y86sW : Work := wk 0x86 .running [4,3,1,0]
def y86sT : State := withWorks [y86sW] (conf3 K)
def y89W : Work := wk 0x89 .running []
def y89T : State := withWorks [y89W] (regPutFld 0x40070100 1 1 1 K)
def y94W : Work := wk 0x94 .running [1]
def y94T : State := withWorks [y94W] (K)

theorem test_air_access_work_ends (h : Obligations.AirAccessWorkEnds) :
    Answers (exec (Instr.acceptedWorkStep true y60W.seq sm) y60T) ∧
    Answers (exec (Instr.acceptedWorkStep true y521W.seq sm) y521T) ∧
    Answers (exec (Instr.acceptedWorkStep true y528W.seq sm) y528T) ∧
    Answers (exec (Instr.acceptedWorkStep true y63W.seq sm) y63T) ∧
    Answers (exec (Instr.acceptedWorkStep true y751W.seq sm) y751T) ∧
    Answers (exec (Instr.acceptedWorkStep true y752W.seq sm) y752T) ∧
    Answers (exec (Instr.acceptedWorkStep true y753W.seq sm) y753T) ∧
    Answers (exec (Instr.acceptedWorkStep true y754W.seq sm) y754T) ∧
    Answers (exec (Instr.acceptedWorkStep true y756W.seq sm) y756T) ∧
    Answers (exec (Instr.acceptedWorkStep true y757W.seq sm) y757T) ∧
    Answers (exec (Instr.acceptedWorkStep true y757cW.seq sm) y757cT) ∧
    Answers (exec (Instr.acceptedWorkStep true y757bW.seq sm) y757bT) ∧
    Answers (exec (Instr.acceptedWorkStep true y741W.seq sm) y741T) ∧
    Answers (exec (Instr.acceptedWorkStep true y742W.seq sm) y742T) ∧
    Answers (exec (Instr.acceptedWorkStep true y830W.seq sm) y830T) ∧
    Answers (exec (Instr.acceptedWorkStep true y831W.seq sm) y831T) ∧
    Answers (exec (Instr.acceptedWorkStep true y88W.seq sm) y88T) ∧
    Answers (exec (Instr.acceptedWorkStep true y8cW.seq sm) y8cT) ∧
    Answers (exec (Instr.acceptedWorkStep true y860W.seq sm) y860T) ∧
    Answers (exec (Instr.acceptedWorkStep true y861W.seq sm) y861T) ∧
    Answers (exec (Instr.acceptedWorkStep true y861W.seq sm) y86tT) ∧
    Answers (exec (Instr.acceptedWorkStep true y861W.seq sm) y86sT) ∧
    Answers (exec (Instr.acceptedWorkStep true y89W.seq sm) y89T) ∧
    Answers (exec (Instr.acceptedWorkStep true y94W.seq sm) y94T) ∧
    Answers (exec (Instr.acceptedWorkStep true y60W.seq { cal := sm.cal, reads := sm.reads, rbs := [{ a := 2, b := 0 }] }) y60T) :=
  have hs1 := h.2.2.2.2.2.2.2
  have hs2 := hs1.2.2.2.2.2.2.2
  have hs3 := hs2.2.2.2.2.2.2.2
  ⟨ans1 (h.1 y60W sm y60T (steps_of (by decide +kernel)) (by decide +kernel)),
   ans1 (h.2.1 y521W sm y521T (steps_of (by decide +kernel)) (by decide +kernel)),
   ans1 (h.2.2.1 y528W sm y528T (steps_of (by decide +kernel)) (by decide +kernel)),
   ans1 (h.2.2.2.1 y63W sm y63T (steps_of (by decide +kernel))),
   ans1 (all3 (h.2.2.2.2.1 y751W sm y751T (steps_of (by decide +kernel))) (by decide +kernel)),
   ans1 (h.2.2.2.2.2.1 y752W sm y752T (steps_of (by decide +kernel)) (by decide +kernel)),
   ans1 (h.2.2.2.2.2.2.1 y753W sm y753T (steps_of (by decide +kernel)) (by decide +kernel)),
   ans1 (hs1.1 y754W sm y754T (steps_of (by decide +kernel)) (by decide +kernel)),
   ans1 (hs1.2.1 y756W sm y756T (steps_of (by decide +kernel)) (by decide +kernel)),
   ans1 (hs1.2.2.1 y757W sm y757T (steps_of (by decide +kernel)) ⟨(by decide +kernel), ⟨(by decide +kernel), ⟨_, (some_of (by decide +kernel)), (by decide +kernel)⟩⟩⟩),
   ans1 (hs1.2.2.2.1 y757cW sm y757cT (steps_of (by decide +kernel)) ⟨(by decide +kernel), ⟨(by decide +kernel), ⟨(by decide +kernel), ⟨_, (some_of (by decide +kernel)), (by decide +kernel)⟩⟩⟩⟩),
   ans1 (hs1.2.2.2.2.1 y757bW sm y757bT (steps_of (by decide +kernel)) ⟨(by decide +kernel), ⟨_, (some_of (by decide +kernel)), (by decide +kernel)⟩⟩),
   ans1 (hs1.2.2.2.2.2.1 y741W sm y741T (steps_of (by decide +kernel)) (by decide +kernel)),
   ans1 (hs1.2.2.2.2.2.2.1 y742W sm y742T (steps_of (by decide +kernel)) (by decide +kernel)),
   ans1 (hs2.1 y830W sm y830T (steps_of (by decide +kernel)) (by decide +kernel)),
   ans1 (hs2.2.1 y831W sm y831T (steps_of (by decide +kernel)) (by decide +kernel)),
   ans1 (hs2.2.2.1 y88W sm y88T (steps_of (by decide +kernel)) (by decide +kernel)),
   ans1 (hs2.2.2.2.1 y8cW sm y8cT (steps_of (by decide +kernel)) (by decide +kernel)),
   ans1 (hs2.2.2.2.2.1 y860W sm y860T (steps_of (by decide +kernel)) (by decide +kernel)),
   ans1 (hs2.2.2.2.2.2.1 y861W sm y861T (steps_of (by decide +kernel)) (by decide +kernel)),
   ans1 (all4 (hs2.2.2.2.2.2.2.1 y861W sm y86tT _ (steps_of (by decide +kernel)) (by decide +kernel) (cons_of (by decide +kernel))) (by decide +kernel)),
   ans1 (all5 (hs3.1 y861W sm y86sT _ (steps_of (by decide +kernel)) (by decide +kernel) (cons_of (by decide +kernel))) (by decide +kernel)),
   ans1 (hs3.2.1 y89W sm y89T (steps_of (by decide +kernel)) (by decide +kernel)),
   ans1 (hs3.2.2.1 y94W sm y94T (steps_of (by decide +kernel)) (by decide +kernel)),
   ans1 (hs3.2.2.2 y60W sm y60T (steps_of (by decide +kernel)) (by decide +kernel))⟩

end AirAccessWorkEnds

/-! Obligations.Version1Answers: its clauses are met, and what they say answers a next state. -/

namespace Version1Answers

def T := asTractor (keysOpen noon)
def v1ro (s : State) : State := regPutFld 0x40010014 0 2 1 s
def ms : Message := { src := 9, data := [1,2,3] }

theorem test_version1_answers (h : Obligations.Version1Answers) :
    Answers (exec (Instr.v1Nop (fr [])) (v1 T)) ∧
    Answers (exec (Instr.ident (fr [])) (v1 T)) ∧
    Answers (exec (Instr.v1Status (fr [])) (v1 T)) ∧
    Answers (exec (Instr.softReset (fr [0xA5])) (v1 T)) ∧
    Answers (exec (Instr.softReset (fr [])) (v1 T)) ∧
    Answers (exec (Instr.t2Result (fr [])) (v1 T)) ∧
    Answers (exec (Instr.s1Count (fr [])) (v1 T)) ∧
    Answers (exec (Instr.s1Read (fr [4])) (v1 (sensors [newSensor 4 .own false 1 1 77] T))) ∧
    Answers (exec (Instr.eeRead (fr [])) (v1 T)) ∧
    Answers (exec (Instr.eeRead (fr [4,0,9])) (v1 T)) ∧
    Answers (exec (Instr.v1RegRead (fr (le 4 0x400F0000))) (v1 T)) ∧
    Answers (exec (Instr.v1MbxRead (fr [9])) (v1 T)) ∧
    Answers (exec (Instr.v1MbxRead (fr [9])) (v1 (engAt 9 (fun e => { e with hostBox := [ms] }) T))) ∧
    Answers (exec ((Instr.softReset) (fr [])) (v1ro T)) ∧
    Answers (exec (Instr.undefinedOpcode 0x77 (BadOpcode.v1 (fr []))) (v1 T)) :=
  have hs1 := h.2.2.2.2.2.2.2
  ⟨ans1 (h.1 (fr []) (v1 T) (takes_of (by decide +kernel)) (v1_of (by decide +kernel)) (by decide +kernel)),
   ans1 (h.2.1 (fr []) (v1 T) (takes_of (by decide +kernel)) (v1_of (by decide +kernel)) (by decide +kernel)),
   ans1 (h.2.2.1 (fr []) (v1 T) (takes_of (by decide +kernel)) (v1_of (by decide +kernel)) (by decide +kernel)),
   ans1 (h.2.2.2.1 (fr [0xA5]) (v1 T) (takes_of (by decide +kernel)) (v1_of (by decide +kernel)) (by decide +kernel)),
   ans1 (h.2.2.2.2.1 (fr []) (v1 T) (takes_of (by decide +kernel)) (v1_of (by decide +kernel)) (by decide +kernel)),
   ans1 (h.2.2.2.2.2.1 (fr []) (v1 T) (takes_of (by decide +kernel)) (v1_of (by decide +kernel)) (by decide +kernel)),
   ans1 (h.2.2.2.2.2.2.1 (fr []) (v1 T) (takes_of (by decide +kernel)) (v1_of (by decide +kernel)) (by decide +kernel)),
   ans1 (hs1.1 _ (fr [4]) (v1 (sensors [newSensor 4 .own false 1 1 77] T)) (takes_of (by decide +kernel)) (v1_of (by decide +kernel)) ⟨(by decide +kernel), ⟨(some_of (by decide +kernel)), (by decide +kernel)⟩⟩),
   ans1 (hs1.2.1 (fr []) (v1 T) (takes_of (by decide +kernel)) (v1_of (by decide +kernel)) (by decide +kernel)),
   ans1 (hs1.2.2.1 (fr [4,0,9]) (v1 T) (takes_of (by decide +kernel)) (v1_of (by decide +kernel)) (by decide +kernel)),
   ans1 (hs1.2.2.2.1 (fr (le 4 0x400F0000)) (v1 T) (takes_of (by decide +kernel)) (v1_of (by decide +kernel)) (by decide +kernel)),
   ans1 (hs1.2.2.2.2.1 (fr [9]) (v1 T) (takes_of (by decide +kernel)) (v1_of (by decide +kernel)) (by decide +kernel)),
   ans1 (hs1.2.2.2.2.2.1 _ _ (fr [9]) (v1 (engAt 9 (fun e => { e with hostBox := [ms] }) T)) (takes_of (by decide +kernel)) (v1_of (by decide +kernel)) ⟨(by decide +kernel), ⟨(cons_of (by decide +kernel)), (by decide +kernel)⟩⟩),
   ans1 (all3 (hs1.2.2.2.2.2.2.1 ((Instr.softReset, 3)) (by first | decide +kernel | simp) (fr []) (v1ro T) (takes_of (by decide +kernel))) (by decide +kernel)),
   ans1 (hs1.2.2.2.2.2.2.2 0x77 (fr []) (v1 T) (takes_of (by decide +kernel)) (by decide +kernel))⟩

end Version1Answers

/-! Obligations.Version1Writes: its clauses are met, and what they say answers a next state. -/

namespace Version1Writes

def T := asTractor (keysOpen noon)
def ms : Message := { src := 9, data := [1,2,3] }
def decB (k : TrigKind) (s : State) : State := { s with acc := { s.acc with decision := some (newDecision (mkTrigger k .door none s) 5) } }
def lfT (s : State) : State := { s with lf := { s.lf with telegram := some tg } }
def j12 (s : State) : State := engAt 9 (fun e => { e with j12Words := 6, state := .reset }) s
def full (s : State) : State := engAt 9 (fun e => { e with inbox := [ms,ms,ms,ms] }) s
def crcOf : Word := crc32c (zeros 12)

theorem test_version1_writes (h : Obligations.Version1Writes) :
    Answers (exec (Instr.v1RegWrite (fr (le 4 0x400B0074 ++ le 4 0x40))) (v1 T)) ∧
    Answers (exec (Instr.v1RegWrite (fr [])) (v1 T)) ∧
    Answers (exec (Instr.eeWrite (fr [])) (v1 T)) ∧
    Answers (exec (Instr.eeWrite (fr [4,0,3,1,2,3])) (v1 T)) ∧
    Answers (exec (Instr.t2Poll (fr [2])) (v1 (decB .decide T))) ∧
    Answers (exec (Instr.t2Poll (fr [2])) (w3 (v1 T))) ∧
    Answers (exec (Instr.t2Poll (fr [2])) (v1 (asTrailer noon))) ∧
    Answers (exec (Instr.s1Add (fr [4,0,3,1,2,3])) (v1 (regPutFld 0x40070100 0 1 0 (sensors [newSensor 4 .own false 1 1 77, newSensor 0 .own true 1 1 78] T)))) ∧
    Answers (exec (Instr.s1Remove (fr [4,0,0])) (v1 (regPutFld 0x40070100 0 1 0 (sensors [newSensor 4 .own false 1 1 77, newSensor 0 .own true 1 1 78] T)))) ∧
    Answers (exec (Instr.v1LfTest (fr [])) (v1 (lfT T))) ∧
    Answers (exec (Instr.j12Begin (fr [9,6,0])) (v1 T)) ∧
    Answers (exec (Instr.j12Data (fr [])) (v1 (j12 T))) ∧
    Answers (exec (Instr.j12End (fr (le 4 crcOf.toNat))) (v1 (j12 T))) ∧
    Answers (exec (Instr.j12Data (fr [])) (v1 T)) ∧
    Answers (exec (Instr.j12Data (fr [])) (v1 (engAt 9 (fun e => { e with j12Words := 6, state := .run }) T))) ∧
    Answers (exec (Instr.j12End (fr [])) (v1 T)) ∧
    Answers (exec (Instr.v1MbxWrite (fr [9,6,0])) (v1 T)) ∧
    Answers (exec (Instr.v1MbxWrite (fr [9,6,0])) (v1 (full T))) ∧
    Answers (exec (Instr.v1Nop (fr [])) (v1 (lk (fun l => { l with v1Busy := some 0x11 }) T))) ∧
    Answers (exec (Instr.v1Nop (fr [])) (v1 (lk (fun l => { l with v1Reply := some ([0,3]++zeros 10) }) T))) :=
  have hs1 := h.2.2.2.2.2.2.2
  have hs2 := hs1.2.2.2.2.2.2.2
  ⟨ans1 (h.1 (fr (le 4 0x400B0074 ++ le 4 0x40)) (v1 T) (takes_of (by decide +kernel)) (v1_of (by decide +kernel)) (by decide +kernel)),
   ans1 (h.2.1 (fr []) (v1 T) (takes_of (by decide +kernel)) (v1_of (by decide +kernel)) (by decide +kernel)),
   ans1 (h.2.2.1 (fr []) (v1 T) (takes_of (by decide +kernel)) (v1_of (by decide +kernel)) (by decide +kernel)),
   ans1 (h.2.2.2.1 (fr [4,0,3,1,2,3]) (v1 T) (takes_of (by decide +kernel)) (v1_of (by decide +kernel)) (by decide +kernel)),
   ans1 (h.2.2.2.2.1 _ (fr [2]) (v1 (decB .decide T)) (takes_of (by decide +kernel)) (v1_of (by decide +kernel)) ⟨(by decide +kernel), ⟨(by decide +kernel), ⟨(some_of (by decide +kernel)), (by decide +kernel)⟩⟩⟩),
   ans1 (h.2.2.2.2.2.1 (fr [2]) (w3 (v1 T)) (takes_of (by decide +kernel)) (v1_of (by decide +kernel)) ⟨(by decide +kernel), ⟨(by decide +kernel), ⟨⟨_, (some_of (by decide +kernel)), (by decide +kernel)⟩, (by decide +kernel)⟩⟩⟩),
   ans1 (h.2.2.2.2.2.2.1 (fr [2]) (v1 (asTrailer noon)) (takes_of (by decide +kernel)) (v1_of (by decide +kernel)) (by decide +kernel)),
   ans1 (hs1.1 _ (fr [4,0,3,1,2,3]) (v1 (regPutFld 0x40070100 0 1 0 (sensors [newSensor 4 .own false 1 1 77, newSensor 0 .own true 1 1 78] T))) (takes_of (by decide +kernel)) (v1_of (by decide +kernel)) ⟨(by decide +kernel), ⟨(by decide +kernel), ⟨(some_of (by decide +kernel)), (by decide +kernel)⟩⟩⟩),
   ans1 (hs1.2.1 _ (fr [4,0,0]) (v1 (regPutFld 0x40070100 0 1 0 (sensors [newSensor 4 .own false 1 1 77, newSensor 0 .own true 1 1 78] T))) (takes_of (by decide +kernel)) (v1_of (by decide +kernel)) ⟨(by decide +kernel), ⟨(some_of (by decide +kernel)), (by decide +kernel)⟩⟩),
   ans1 (hs1.2.2.1 (fr []) (v1 (lfT T)) (takes_of (by decide +kernel)) (v1_of (by decide +kernel)) (by decide +kernel)),
   ans1 (hs1.2.2.2.1 (fr [9,6,0]) (v1 T) (takes_of (by decide +kernel)) (v1_of (by decide +kernel)) (by decide +kernel)),
   ans1 (hs1.2.2.2.2.1 _ (fr []) (v1 (j12 T)) (takes_of (by decide +kernel)) (v1_of (by decide +kernel)) ⟨(some_of (by decide +kernel)), (by decide +kernel)⟩),
   ans1 (hs1.2.2.2.2.2.1 _ (fr (le 4 crcOf.toNat)) (v1 (j12 T)) (takes_of (by decide +kernel)) (v1_of (by decide +kernel)) ⟨(some_of (by decide +kernel)), (by decide +kernel)⟩),
   ans1 (hs1.2.2.2.2.2.2.1 (fr []) (v1 T) (takes_of (by decide +kernel)) (v1_of (by decide +kernel)) (by decide +kernel)),
   ans1 (hs2.1 _ (fr []) (v1 (engAt 9 (fun e => { e with j12Words := 6, state := .run }) T)) (takes_of (by decide +kernel)) (v1_of (by decide +kernel)) ⟨(some_of (by decide +kernel)), (by decide +kernel)⟩),
   ans1 (hs2.2.1 (fr []) (v1 T) (takes_of (by decide +kernel)) (v1_of (by decide +kernel)) (by decide +kernel)),
   ans1 (hs2.2.2.1 (fr [9,6,0]) (v1 T) (takes_of (by decide +kernel)) (v1_of (by decide +kernel)) (by decide +kernel)),
   ans1 (hs2.2.2.2.1 (fr [9,6,0]) (v1 (full T)) (takes_of (by decide +kernel)) (v1_of (by decide +kernel)) (by decide +kernel)),
   ans1 ((all3 (hs2.2.2.2.2.1 (fr []) (v1 (lk (fun l => { l with v1Busy := some 0x11 }) T)) _) (by decide +kernel)) (link_of (by decide +kernel)) (by decide +kernel) (some_of (by decide +kernel))),
   ans1 (all3 ((all3 (hs2.2.2.2.2.2 (fr []) (v1 (lk (fun l => { l with v1Reply := some ([0,3]++zeros 10) }) T))) (by decide +kernel)) (link_of (by decide +kernel))) (by decide +kernel))⟩

end Version1Writes

/-! Obligations.PacketAndTagChecks: its clauses are met, and what they say answers a next state. -/

namespace PacketAndTagChecks

def wp : Packet := pk 0x21 (le 4 0x56000 ++ [3,0,1,2,3]) 7
def accW (s : State) : State := { s with jrn := { s.jrn with accepting := [{ work := wkOf 0x21 wp .accepted, ret := replyTo 0x21 wp s, twins := [] }] } }
def gapOff (s : State) : State := regPutFld 0x40010010 16 8 0 s

theorem test_packet_and_tag_checks (h : Obligations.PacketAndTagChecks) :
    Answers (exec (Instr.readOnlyTransaction 0x15 4096) noon) ∧
    Answers (exec (Instr.stopBitError) noon) ∧
    Answers (exec (Instr.nop ({ pk 0 [] with header := 5 })) noon) ∧
    Answers (exec (Instr.nop ({ pk 0 [1,2] with payload := [1] })) noon) ∧
    Answers (exec (Instr.nop (pk 0x15 [])) noon) ∧
    Answers (exec (Instr.nop ((let p : Packet := { pk 0 [] with verFlags := 0x30 }; { p with crc := some (pktCrc p 0) }))) noon) ∧
    Answers (exec (Instr.undefinedOpcode 0x15 (BadOpcode.v2 (pk 0x15 []))) noon) ∧
    Answers (exec (Instr.uartGapTimeout 0 ({ pk 0 [] 0 0 .uart with header := 5 })) noon) ∧
    Answers (exec (Instr.uartGapTimeout 0x15 ({ pk 0 [1,2] 0 0 .uart with payload := [1] })) noon) ∧
    Answers (exec (Instr.uartGapTimeout 0x15 (pk 0x15 [])) (gapOff (uartOn noon))) ∧
    Answers (exec (Instr.nvmWrite wp) (withWorks [wkOf 0x21 wp .done] noon)) ∧
    Answers (exec (Instr.nvmWrite wp) (withWorks [wkOf 0x21 wp .running] noon)) ∧
    Answers (exec (Instr.nvmWrite wp) (withWorks [wkOf 0x21 wp .accepted] noon)) ∧
    Answers (exec (Instr.nvmWrite wp) ({ noon with jrn := { noon.jrn with ring := [ringEntry 4 (wkOf 0x21 wp .done)] } })) ∧
    Answers (exec (Instr.nvmWrite (pk 0x21 (le 4 0x56000 ++ [3,0,1,2,4]) 7)) (withWorks [wkOf 0x21 wp .done] noon)) ∧
    Answers (exec (Instr.nvmWrite wp) (accW noon)) :=
  have ht1 := h.1.2.2.2.2.2.2.2
  ⟨ans1 (h.1.1 0x15 4096 noon (by decide +kernel) (link_of (by decide +kernel)) (by decide +kernel) (by decide +kernel)),
   ans1 (h.1.2.1 noon (by decide +kernel) (link_of (by decide +kernel)) (by decide +kernel)),
   ans1 (h.1.2.2.1 ({ pk 0 [] with header := 5 }) noon (arrives_of (by decide +kernel)) (by decide +kernel)),
   ans1 (h.1.2.2.2.1 ({ pk 0 [1,2] with payload := [1] }) noon (arrives_of (by decide +kernel)) (by decide +kernel) (by decide +kernel)),
   ans1 ((all3 (h.1.2.2.2.2.1 (pk 0x15 []) noon _ (arrives_of (by decide +kernel))) (by decide +kernel)) (some_of (by decide +kernel)) (by decide +kernel)),
   ans1 (all5 (h.1.2.2.2.2.2.1 ((let p : Packet := { pk 0 [] with verFlags := 0x30 }; { p with crc := some (pktCrc p 0) })) noon (arrives_of (by decide +kernel))) (by decide +kernel)),
   ans1 (all3 (h.1.2.2.2.2.2.2.1 0x15 (pk 0x15 []) noon (arrives_of (by decide +kernel)) (sound_of (by decide +kernel))) (by decide +kernel)),
   ans1 (all3 (ht1.1 ({ pk 0 [] 0 0 .uart with header := 5 }) noon (arrives_of (by decide +kernel))) (by decide +kernel)),
   ans1 (all4 (ht1.2.1 0x15 ({ pk 0 [1,2] 0 0 .uart with payload := [1] }) noon (arrives_of (by decide +kernel))) (by decide +kernel)),
   ansE (ht1.2.2 0x15 (pk 0x15 []) (gapOff (uartOn noon)) (link_of (by decide +kernel)) (by decide +kernel)),
   ans1 (all4 (h.2.1 wp (withWorks [wkOf 0x21 wp .done] noon) _ ⟨(arrives_of (by decide +kernel)), ⟨(sound_of (by decide +kernel)), (by decide +kernel)⟩⟩ (some_of (by decide +kernel))) (by decide +kernel)),
   ans1 (all3 (h.2.2.1 wp (withWorks [wkOf 0x21 wp .running] noon) _ ⟨(arrives_of (by decide +kernel)), ⟨(sound_of (by decide +kernel)), (by decide +kernel)⟩⟩ (some_of (by decide +kernel))) (by decide +kernel)),
   ans1 (all3 (h.2.2.2.1 wp (withWorks [wkOf 0x21 wp .accepted] noon) _ ⟨(arrives_of (by decide +kernel)), ⟨(sound_of (by decide +kernel)), (by decide +kernel)⟩⟩ (some_of (by decide +kernel))) (by decide +kernel)),
   ans1 (all3 (h.2.2.2.2.1 wp ({ noon with jrn := { noon.jrn with ring := [ringEntry 4 (wkOf 0x21 wp .done)] } }) _ ⟨(arrives_of (by decide +kernel)), ⟨(sound_of (by decide +kernel)), (by decide +kernel)⟩⟩ (by decide +kernel) (some_of (by decide +kernel))) (by decide +kernel)),
   ans1 (h.2.2.2.2.2.1 (pk 0x21 (le 4 0x56000 ++ [3,0,1,2,4]) 7) (withWorks [wkOf 0x21 wp .done] noon) _ ⟨(arrives_of (by decide +kernel)), ⟨(sound_of (by decide +kernel)), (by decide +kernel)⟩⟩ (some_of (by decide +kernel)) (by decide +kernel)),
   ans1 ((all3 (h.2.2.2.2.2.2 wp (accW noon) _ (arrives_of (by decide +kernel)) (sound_of (by decide +kernel))) (by decide +kernel)) (cons_of (by decide +kernel)) (by decide +kernel) (by decide +kernel))⟩

end PacketAndTagChecks

/-! Obligations.LinkEvents: its clauses are met, and what they say answers a next state. -/

namespace LinkEvents

def out1 (s : State) : State := sync (lk (fun l => { l with hcs0 := { l.hcs0 with outq := [opk 2 none [1,2], opk 2 none []] } }) s)
def out2 (s : State) : State := sync (lk (fun l => { l with hcs0 := { l.hcs0 with outq := [opk 2 (some 9) [1,2]] }, afterReply := some (.reset, some 9) }) s)
def pend (a v : Nat) (i : Option Nat) (s : State) : State := lk (fun l => { l with cfgPend := [(a, word v, i)] }) s
def compl : Work := { wk 0x70 .done [] 1 9 with completeDue := true, result := [1,2], status := 0 }
def hp (op : Byte) (p : Packet) : HeldPacket := { opcode := op, packet := p, ret := replyTo op p noon }

theorem test_link_events (h : Obligations.LinkEvents) :
    Answers (exec (Instr.readOnlyTransaction 0 4096) (out1 noon)) ∧
    Answers (exec (Instr.readOnlyTransaction 0 4) (out1 noon)) ∧
    Answers (exec (Instr.readOnlyTransaction 0 4096) (out2 noon)) ∧
    Answers (exec (Instr.replayTransaction 4) noon) ∧
    Answers (exec (Instr.clash) noon) ∧
    Answers (exec (Instr.v1ShortTransaction) noon) ∧
    Answers (exec (Instr.uartCfgWrite) (pend 0x40010010 0x050A03 none noon)) ∧
    Answers (exec (Instr.hifCfgWrite) (pend 0x40010014 0x1F1F none noon)) ∧
    Answers (exec (Instr.hifCfgWrite) (pend 0x40010014 0x1F1F (some 4) noon)) ∧
    Answers (exec (Instr.evtLost) (lk (fun l => { l with lostHcs0 := (3, 0x42) }) noon)) ∧
    Answers (exec (Instr.completeRequeue) (withWorks [compl] noon)) ∧
    Answers (exec (Instr.nop (pk 0 [])) dawnS) ∧
    Answers (exec (Instr.nop (pk 0 [] 7)) (lk (fun l => { l with dawnq := [hp 0 (pk 0 [] 7)] }) dawnS)) ∧
    Answers (exec (Instr.nop (pk 0 [] 7)) (lk (fun l => { l with dawnq := [hp 1 (pk 1 [] 7)] }) dawnS)) ∧
    Answers (exec (Instr.nop (pk 0 [])) (pw (fun p => { p with state := .dusk }) noon)) ∧
    Answers (exec (Instr.dawnQueueProcess) (lk (fun l => { l with dawnq := [hp 0 (pk 0 [])] }) noon)) ∧
    Answers (exec (Instr.dawnQueueProcess) dawnS) :=
  have ht1 := h.1.2.2.2.2.2.2.2
  ⟨ans1 (all3 (h.1.1 4096 (out1 noon) _ _ (by decide +kernel) (link_of (by decide +kernel)) (cons_of (by decide +kernel))) (by decide +kernel)),
   ans1 (h.1.2.1 4 (out1 noon) _ _ (by decide +kernel) (link_of (by decide +kernel)) (cons_of (by decide +kernel)) (by decide +kernel)),
   ans1 (h.1.2.2.1 4096 (out2 noon) _ _ _ .reset (by decide +kernel) (link_of (by decide +kernel)) (cons_of (by decide +kernel)) (by decide +kernel) (some_of (by decide +kernel)) (some_of (by decide +kernel))),
   ansE (h.1.2.2.2.1 4 noon (by decide +kernel) (link_of (by decide +kernel))),
   ans1 (h.1.2.2.2.2.1 noon (by decide +kernel) (link_of (by decide +kernel))),
   ans1 (h.1.2.2.2.2.2.1 noon (by decide +kernel) (link_of (by decide +kernel))),
   ans1 (h.1.2.2.2.2.2.2.1 (pend 0x40010010 0x050A03 none noon) 0x050A03 (link_of (by decide +kernel)) (by decide +kernel)),
   ans1 (ht1.1 (pend 0x40010014 0x1F1F none noon) 0x1F1F (link_of (by decide +kernel)) (by decide +kernel)),
   ansE (ht1.2.1 (pend 0x40010014 0x1F1F (some 4) noon) 0x1F1F 4 (link_of (by decide +kernel)) (by decide +kernel)),
   ans1 (all3 (ht1.2.2.1 (lk (fun l => { l with lostHcs0 := (3, 0x42) }) noon) 2 0x42 (by decide +kernel) (link_of (by decide +kernel))) (by decide +kernel)),
   ans1 ((all6 (ht1.2.2.2 (withWorks [compl] noon) _ (by decide +kernel) (link_of (by decide +kernel)) (cons_of (by decide +kernel))) (by decide +kernel)) (by decide +kernel)),
   ans2 (all4 (h.2.1 (pk 0 []) dawnS (arrives_of (by decide +kernel)) (sound_of (by decide +kernel))) (by decide +kernel)),
   ans1 (all5 ((all3 (h.2.2.1 (pk 0 [] 7) (lk (fun l => { l with dawnq := [hp 0 (pk 0 [] 7)] }) dawnS) _ (arrives_of (by decide +kernel)) (sound_of (by decide +kernel))) (by decide +kernel)) (cons_of (by decide +kernel))) (by decide +kernel)),
   ans1 ((all3 (h.2.2.2.1 (pk 0 [] 7) (lk (fun l => { l with dawnq := [hp 1 (pk 1 [] 7)] }) dawnS) _ (arrives_of (by decide +kernel)) (sound_of (by decide +kernel))) (by decide +kernel)) (cons_of (by decide +kernel)) (by decide +kernel) (by decide +kernel)),
   ans1 (h.2.2.2.2.1 (pk 0 []) (pw (fun p => { p with state := .dusk }) noon) (arrives_of (by decide +kernel)) (sound_of (by decide +kernel)) (by decide +kernel) (by decide +kernel)),
   ans1 ((all6 (h.2.2.2.2.2.1 (lk (fun l => { l with dawnq := [hp 0 (pk 0 [])] }) noon) _ (by decide +kernel) (by decide +kernel) (link_of (by decide +kernel)) (cons_of (by decide +kernel))) (by decide +kernel)) (by decide +kernel)),
   ansE (h.2.2.2.2.2.2 dawnS (link_of (by decide +kernel)) (by decide +kernel))⟩

end LinkEvents

/-! Obligations.ResetCauses: its clauses are met, and what they say answers a next state. -/

namespace ResetCauses

def mid : State := regSet 0x40000020 5 (pw (fun p => { p with state := .midnight, pll := false }) noon)
def mid0 : State := regSet 0x40000020 0 mid

theorem test_reset_causes (h : Obligations.ResetCauses) :
    Answers (exec (Instr.resetAfterReply) (lk (fun l => { l with afterReply := some (.reset, none) }) noon)) ∧
    Answers (exec (Instr.resetAfterReply) noon) ∧
    Answers (exec (Instr.debugReset) noon) ∧
    Answers (exec (Instr.pin true) noon) ∧
    Answers (exec (Instr.testNLow true) noon) ∧
    Answers (exec (Instr.pin false) (pw (fun p => { p with state := .held, rstN := false }) noon)) ∧
    Answers (exec (Instr.testNLow false) (pw (fun p => { p with state := .held, testN := false }) noon)) ∧
    Answers (exec (Instr.clock false .before) noon) ∧
    Answers (exec (Instr.vmon false .before) noon) ∧
    Answers (exec (Instr.wake ({ pins := 1, rtc := false, cs := false })) mid) ∧
    Answers (exec (Instr.wake ({ pins := 1, rtc := false, cs := false })) mid0) ∧
    Answers (exec (Instr.vigilDetection 0x10) mid) ∧
    Answers (exec (Instr.vsupRecovery) (pw (fun p => { p with state := .held, vsupOk := false }) noon)) ∧
    Answers (exec (Instr.powerOn .before) noon) :=
  have hs1 := h.2.2.2.2.2.2.2
  ⟨ans1 (h.1 (lk (fun l => { l with afterReply := some (.reset, none) }) noon) (by unfold MayDawn; decide +kernel) (by decide +kernel)),
   ansE (h.2.1 noon (link_of (by decide +kernel)) (fun _ h => by rw [show noon.link.afterReply = none by decide +kernel] at h; cases h)),
   ans1 (h.2.2.1 noon (by unfold MayDawn; decide +kernel) (by decide +kernel)),
   ans1 (all3 (h.2.2.2.1 noon (by unfold MayDawn; decide +kernel)) (by decide +kernel)),
   ans1 (all3 (h.2.2.2.2.1 noon (by unfold MayDawn; decide +kernel)) (by decide +kernel)),
   ansE ((all4 (h.2.2.2.2.2.1 (pw (fun p => { p with state := .held, rstN := false }) noon)) (by decide +kernel)) (link_of (by decide +kernel))),
   ansE ((all4 (h.2.2.2.2.2.2.1 (pw (fun p => { p with state := .held, testN := false }) noon)) (by decide +kernel)) (link_of (by decide +kernel))),
   ans1 (hs1.1 noon false .before (by unfold MayDawn; decide +kernel) (by decide +kernel) (by decide +kernel)),
   ans1 (hs1.2.1 noon false .before (by unfold MayDawn; decide +kernel) (by decide +kernel)),
   ans1 (all3 (hs1.2.2.1 mid ({ pins := 1, rtc := false, cs := false }) (by unfold MayDawn; decide +kernel)) (by decide +kernel)),
   ansE (hs1.2.2.2.1 mid0 ({ pins := 1, rtc := false, cs := false }) (link_of (by decide +kernel)) (by decide +kernel) (by decide +kernel)),
   ans1 (hs1.2.2.2.2.1 mid 0x10 (by unfold MayDawn; decide +kernel) (by decide +kernel) (by decide +kernel)),
   ans1 (all4 (hs1.2.2.2.2.2.1 (pw (fun p => { p with state := .held, vsupOk := false }) noon)) (by decide +kernel)),
   ans1 (hs1.2.2.2.2.2.2 noon .before)⟩

end ResetCauses

/-! Obligations.DawnAndSupplies: its clauses are met, and what they say answers a next state. -/

namespace DawnAndSupplies

def dm0 : DawnMeas := { cal := cal0, tcal := 0, bootBad := none, reloads := 0, stillBad := [], rngFails := 0, rootBad := [] }
def dm1 : DawnMeas := { dm0 with bootBad := some 7 }
def bf : State := lk (fun l => { l with answers := true }) (pw (fun p => { p with state := .bootFail, failPage := 7, recovery := some { nonce := zeros 16, failures := 0, verified := false } }) noon)
def rec' (r : Recovery) : State := pw (fun p => { p with recovery := some r }) bf

theorem test_dawn_and_supplies (h : Obligations.DawnAndSupplies) :
    Answers (exec (Instr.vddioQualified false) State.reset) ∧
    Answers (exec (Instr.vddioLow) noon) ∧
    Answers (exec (Instr.xoFail) State.reset) ∧
    Answers (exec (Instr.xoQualified dm0) State.reset) ∧
    Answers (exec (Instr.xoQualified dm1) State.reset) ∧
    Answers (exec (Instr.releaseSelfTest ([(true, true, false), (false, false, true)])) (pw (fun p => { p with stage := .booted }) dawnS)) ∧
    Answers (exec (Instr.releaseSelfTest ([(true, false, false), (false, true, true)])) (pw (fun p => { p with stage := .booted }) dawnS)) ∧
    Answers (exec (Instr.noon) (pw (fun p => { p with stage := .selfTested }) dawnS)) ∧
    Answers (exec (Instr.noon) noon) ∧
    Answers (exec (Instr.rtcFail) noon) ∧
    Answers (exec (Instr.rtcAlarm) noon) ∧
    Answers (exec (Instr.recoveryCredential (zeros 212)) bf) ∧
    Answers (exec (Instr.recoveryCredential (zeros 212)) (rec' { nonce := zeros 16, failures := 8, verified := false })) ∧
    Answers (exec (Instr.recoveryBootWrite 0 (zeros 212) ({a := 1, b := 2})) (rec' { nonce := zeros 16, failures := 2, verified := true })) ∧
    Answers (exec (Instr.recoveryBootWrite 0 (zeros 212) ({a := 1, b := 2})) noon) :=
  have hs1 := h.2.2.2.2.2.2.2
  ⟨ans1 (all4 (h.1 State.reset false) (by decide +kernel)),
   ans1 (h.2.1 noon (by decide +kernel) (by decide +kernel)),
   ansE (h.2.2.1 State.reset (link_of (by decide +kernel)) (by decide +kernel) (by decide +kernel)),
   ans1 (all3 (h.2.2.2.1 State.reset dm0) (by decide +kernel)),
   ans1 (h.2.2.2.2.1 State.reset dm1 _ (by decide +kernel) (by decide +kernel) (some_of (by decide +kernel)) (by decide +kernel)),
   ans1 (all4 (h.2.2.2.2.2.1 (pw (fun p => { p with stage := .booted }) dawnS) ([(true, true, false), (false, false, true)])) (by decide +kernel)),
   ans1 (all4 (h.2.2.2.2.2.2.1 (pw (fun p => { p with stage := .booted }) dawnS) ([(true, false, false), (false, true, true)])) (by decide +kernel)),
   ans1 ((all6 (hs1.1 (pw (fun p => { p with stage := .selfTested }) dawnS)) (by decide +kernel)) (by decide +kernel)),
   ansE (hs1.2.1 noon (link_of (by decide +kernel)) (by decide +kernel)),
   ans1 (hs1.2.2.1 noon (by decide +kernel) (by decide +kernel)),
   ans1 (hs1.2.2.2.1 noon (by decide +kernel) (by decide +kernel)),
   ansE (hs1.2.2.2.2.1 bf _ (zeros 212) (link_of (by decide +kernel)) (by decide +kernel) (some_of (by decide +kernel)) (by decide +kernel)),
   ansE (hs1.2.2.2.2.2.1 (rec' { nonce := zeros 16, failures := 8, verified := false }) _ (zeros 212) (link_of (by decide +kernel)) (by decide +kernel) (some_of (by decide +kernel)) (by decide +kernel)),
   ans1 (hs1.2.2.2.2.2.2.1 (rec' { nonce := zeros 16, failures := 2, verified := true }) _ 0 (zeros 212) ({a := 1, b := 2}) (by decide +kernel) (some_of (by decide +kernel)) (by decide +kernel)),
   ansE (hs1.2.2.2.2.2.2.2 noon 0 (zeros 212) ({a := 1, b := 2}) (link_of (by decide +kernel)) (by decide +kernel))⟩

end DawnAndSupplies

/-! Obligations.SleepAndSave: its clauses are met, and what they say answers a next state. -/

namespace SleepAndSave

def T := asTractor (keysOpen noon)
def slpr (v : Nat) (s : State) : State := regSet 0x4000001C (word v) s
def dusk (f : Power → Power) : State := pw (fun p => f { p with state := .dusk }) noon

theorem test_sleep_and_save (h : Obligations.SleepAndSave) :
    Answers (exec (Instr.duskEntry) noon) ∧
    Answers (exec (Instr.duskEntry) (withWorks [wk 0x60 .running []] noon)) ∧
    Answers (exec (Instr.duskExit) (engAt 3 (fun e => { e with state := .siesta }) (dusk fun p => { p with exitDue := true, duskEngs := [3] }))) ∧
    Answers (exec (Instr.duskExit) noon) ∧
    Answers (exec (Instr.midnightEntry sm0) (lk (fun l => { l with afterReply := some (.midnight, none) }) T)) ∧
    Answers (exec (Instr.autoMidnight sm0) (slpr 4 (regSet 0x40000020 1 (dusk id)))) ∧
    Answers (exec (Instr.autoMidnight sm0) noon) ∧
    Answers (exec (Instr.sundownSave sm0) noon) ∧
    Answers (exec (Instr.sundownSave sm0) (pw (fun p => { p with state := .midnight }) noon)) :=
  have hs1 := h.2.2.2.2.2.2.2
  ⟨ans1 (all3 (h.1 noon (link_of (by decide +kernel))) (by decide +kernel)),
   ansE (h.2.1 (withWorks [wk 0x60 .running []] noon) (link_of (by decide +kernel)) (by decide +kernel)),
   ans1 (all6 (h.2.2.1 (engAt 3 (fun e => { e with state := .siesta }) (dusk fun p => { p with exitDue := true, duskEngs := [3] })) (link_of (by decide +kernel))) (by decide +kernel)),
   ansE (h.2.2.2.1 noon (link_of (by decide +kernel)) (by decide +kernel)),
   ans1 (h.2.2.2.2.1 (lk (fun l => { l with afterReply := some (.midnight, none) }) T) sm0 (by decide +kernel) (by decide +kernel)),
   ans1 (all5 (h.2.2.2.2.2.1 (slpr 4 (regSet 0x40000020 1 (dusk id))) sm0) (by decide +kernel)),
   ansE (h.2.2.2.2.2.2.1 noon sm0 (link_of (by decide +kernel)) (by decide +kernel)),
   ans1 (hs1.1 noon sm0 (by decide +kernel) (by decide +kernel)),
   ansE (hs1.2 (pw (fun p => { p with state := .midnight }) noon) sm0 (link_of (by decide +kernel)) (by decide +kernel))⟩

end SleepAndSave

/-! Obligations.TamperAndInjection: its clauses are met, and what they say answers a next state. -/

namespace TamperAndInjection

def T := asTractor (keysOpen noon)
def inj (d p : Nat) (a : Bool) (s : State) : State := { s with saf := { s.saf with inject := some { detector := d, param := p, acted := a, addr := none } } }
def go (d p : Nat) (s : State) : State := regSet 0x40100030 (word (d + 65536 * p)) s

theorem test_tamper_and_injection (h : Obligations.TamperAndInjection) :
    Answers (exec (Instr.tamperSensorAssert (BitVec.ofNat 7 (2 ^ ↑0))) T) ∧
    Answers (exec (Instr.tamperSensorAssert (BitVec.ofNat 7 (2 ^ ↑0))) dawnS) ∧
    Answers (exec (Instr.tamperSensorAssert (BitVec.ofNat 7 (2 ^ ↑0))) ({ noon with ks := { noon.ks with state := .lockdown } })) ∧
    Answers (exec (Instr.injectGo) (go 1 0x8000 noon)) ∧
    Answers (exec (Instr.withdraw) (inj 1 0x8000 false noon)) ∧
    Answers (exec (Instr.liveInjectionAct .before sm0) (inj 1 0x8000 false noon)) ∧
    Answers (exec (Instr.liveInjectionAct .before sm0) (inj 7 1 false noon)) ∧
    Answers (exec (Instr.injectNotObserved) (inj 1 0x8000 true noon)) ∧
    Answers (exec (Instr.injectNotObserved) T) :=
  have hs1 := h.2.2.2.2.2.2.2
  ⟨ans1 (all5 ((all6 (h.1 T 0) (by decide +kernel))) (by decide +kernel)),
   ans1 (all3 (h.2.1 dawnS 0) (by decide +kernel)),
   ans1 (all3 ((all6 (h.2.2.1 ({ noon with ks := { noon.ks with state := .lockdown } }) 0) (by decide +kernel))) (by decide +kernel)),
   ans1 ((all5 (h.2.2.2.1 (go 1 0x8000 noon)) (by decide +kernel)) (link_of (by decide +kernel))),
   ans1 (h.2.2.2.2.1 (inj 1 0x8000 false noon) _ (by decide +kernel) (some_of (by decide +kernel))),
   ansE (h.2.2.2.2.2.1 (inj 1 0x8000 false noon) _ .before sm0 (by decide +kernel) (link_of (by decide +kernel)) (some_of (by decide +kernel)) (by decide +kernel) (by decide +kernel)),
   ans1 (h.2.2.2.2.2.2.1 (inj 7 1 false noon) _ .before sm0 (by unfold MayDawn; decide +kernel) (by decide +kernel) (by decide +kernel) (some_of (by decide +kernel)) (by decide +kernel) (by decide +kernel)),
   ans1 (hs1.1 (inj 1 0x8000 true noon) _ (by decide +kernel) (some_of (by decide +kernel)) (by decide +kernel)),
   ansE (hs1.2 T (by decide +kernel) (link_of (by decide +kernel)) (by decide +kernel)).1⟩

end TamperAndInjection

/-! Obligations.TimerEvents: its clauses are met, and what they say answers a next state. -/

namespace TimerEvents

def ct (c : Nat) (f : Counter32 → Counter32) (s : State) : State := { s with tmb := { s.tmb with counters := modAt c f s.tmb.counters } }
def un (u : Nat) (f : TmbUnit → TmbUnit) (s : State) : State := { s with tmb := { s.tmb with units := modAt u f s.tmb.units } }
def cmpS (x : Nat) (s : State) : State := regSet (ucfgAddr 5) (word x) (regSet (cmpAddr 5) 90 (ct 1 (fun c => { c with run := true, count := 100 }) s))

theorem test_timer_events (h : Obligations.TimerEvents) :
    Answers (exec (Instr.counterStart 0) noon) ∧
    Answers (exec (Instr.counterStop 0) noon) ∧
    Answers (exec (Instr.tmbCommit 0) noon) ∧
    Answers (exec (Instr.tmbCommit 1) (ct 1 (fun c => { c with run := true, count := 0xFFFFFFFF, staged := some 7 }) (regSet 0x400B0014 0x85 noon))) ∧
    Answers (exec (Instr.tmbCntWrite 0 0) noon) ∧
    Answers (exec (Instr.tmbCntWrite 1 0) (ct 1 (fun c => { c with run := true, count := 9, resetDue := true }) noon)) ∧
    Answers (exec (Instr.counterClock 1) (ct 1 (fun c => { c with run := true, count := 0xFFFFFFFF, staged := some 7 }) (regSet 0x400B0014 0x85 noon))) ∧
    Answers (exec (Instr.counterClock 0) noon) ∧
    Answers (exec (Instr.compareArm 5 0) (un 5 (fun u => { u with armed := true, fires := 65535 }) (cmpS 0x0101 noon))) ∧
    Answers (exec (Instr.compareArm 0 0) noon) ∧
    Answers (exec (Instr.disarm 0) noon) ∧
    Answers (exec (Instr.compareFire 5) (un 5 (fun u => { u with armed := true, fires := 65535 }) (cmpS 0x0101 noon))) ∧
    Answers (exec (Instr.compareFire 0) noon) ∧
    Answers (exec (Instr.capture 5 true) (cmpS 2 noon)) ∧
    Answers (exec (Instr.capture 0 false) noon) ∧
    Answers (exec (Instr.captureRead 0) noon) :=
  have hs1 := h.2.2.2.2.2.2.2
  have hs2 := hs1.2.2.2.2.2.2.2
  ⟨ans1 (h.1 noon 0 ⟨(by decide +kernel), link_of (by decide +kernel)⟩ (by decide +kernel)),
   ans1 (h.2.1 noon 0 ⟨(by decide +kernel), link_of (by decide +kernel)⟩ (by decide +kernel)),
   ans1 (h.2.2.1 noon 0 ⟨(by decide +kernel), link_of (by decide +kernel)⟩ (by decide +kernel) (by decide +kernel)),
   ans1 (h.2.2.2.1 (ct 1 (fun c => { c with run := true, count := 0xFFFFFFFF, staged := some 7 }) (regSet 0x400B0014 0x85 noon)) 1 ⟨(by decide +kernel), link_of (by decide +kernel)⟩ (by decide +kernel) (by decide +kernel)),
   ans1 (h.2.2.2.2.1 noon 0 0 ⟨(by decide +kernel), link_of (by decide +kernel)⟩ (by decide +kernel) (by decide +kernel)),
   ans1 (h.2.2.2.2.2.1 (ct 1 (fun c => { c with run := true, count := 9, resetDue := true }) noon) 1 0 ⟨(by decide +kernel), link_of (by decide +kernel)⟩ (by decide +kernel)),
   ans1 (h.2.2.2.2.2.2.1 (ct 1 (fun c => { c with run := true, count := 0xFFFFFFFF, staged := some 7 }) (regSet 0x400B0014 0x85 noon)) 1 ⟨(by decide +kernel), link_of (by decide +kernel)⟩ (by first | decide +kernel | (intro u hu; have hv : u / 4 = 1 := hu; have hw : u = 4 ∨ u = 5 ∨ u = 6 ∨ u = 7 := (by omega); rcases hw with rfl | rfl | rfl | rfl <;> decide +kernel)) (by first | decide +kernel | (intro u hu; have hv : u / 4 = 1 := hu; have hw : u = 4 ∨ u = 5 ∨ u = 6 ∨ u = 7 := (by omega); rcases hw with rfl | rfl | rfl | rfl <;> decide +kernel)) (by first | decide +kernel | (intro u hu; have hv : u / 4 = 1 := hu; have hw : u = 4 ∨ u = 5 ∨ u = 6 ∨ u = 7 := (by omega); rcases hw with rfl | rfl | rfl | rfl <;> decide +kernel))),
   ansE (hs1.1 noon 0 ⟨(by decide +kernel), link_of (by decide +kernel)⟩ (by decide +kernel)),
   ans1 (hs1.2.1 (un 5 (fun u => { u with armed := true, fires := 65535 }) (cmpS 0x0101 noon)) 5 0 ⟨(by decide +kernel), link_of (by decide +kernel)⟩ (by decide +kernel) (by decide +kernel)),
   ans1 (hs1.2.2.1 noon 0 0 ⟨(by decide +kernel), link_of (by decide +kernel)⟩),
   ans1 (hs1.2.2.2.1 noon 0 ⟨(by decide +kernel), link_of (by decide +kernel)⟩ (by decide +kernel)),
   ans1 (all6 (hs1.2.2.2.2.1 (un 5 (fun u => { u with armed := true, fires := 65535 }) (cmpS 0x0101 noon)) 5 ⟨(by decide +kernel), link_of (by decide +kernel)⟩) (by decide +kernel)).1,
   ansE (hs1.2.2.2.2.2.1 noon 0 ⟨(by decide +kernel), link_of (by decide +kernel)⟩ (by decide +kernel)),
   ans1 (all4 (hs1.2.2.2.2.2.2.1 (cmpS 2 noon) 5 true ⟨(by decide +kernel), link_of (by decide +kernel)⟩) (by decide +kernel)),
   ansE (hs2.1 noon 0 false ⟨(by decide +kernel), link_of (by decide +kernel)⟩ (by decide +kernel)),
   ans1 (hs2.2 noon 0 ⟨(by decide +kernel), link_of (by decide +kernel)⟩ (by decide +kernel))⟩

end TimerEvents

/-! Obligations.PinEvents: its clauses are met, and what they say answers a next state. -/

namespace PinEvents

theorem test_pin_events (h : Obligations.PinEvents) :
    Answers (exec (Instr.gpioSet 5) noon) ∧
    Answers (exec (Instr.gpioClr 5) noon) ∧
    Answers (exec (Instr.gpioTgl 5) noon) ∧
    Answers (exec (Instr.gpioLock 5) noon) ∧
    Answers (exec (Instr.funcChange 0 1) noon) ∧
    Answers (exec (Instr.funcChange 0 0xFFFF) noon) ∧
    Answers (exec (Instr.gpioEdge 0 false) noon) ∧
    Answers (exec (Instr.gpioEdge 0 false) (regSet 0x400F0000 0xC1 (regSet 0x400F0008 0x21 (regSet 0x400F000C 0x41 (regSet 0x400F0010 2 noon))))) :=
  ⟨ans1 (h.1 noon 5 ⟨(by decide +kernel), link_of (by decide +kernel)⟩ (by decide +kernel)),
   ans1 (h.2.1 noon 5 ⟨(by decide +kernel), link_of (by decide +kernel)⟩ (by decide +kernel)),
   ans1 (h.2.2.1 noon 5 ⟨(by decide +kernel), link_of (by decide +kernel)⟩ (by decide +kernel)),
   ans1 (h.2.2.2.1 noon 5 ⟨(by decide +kernel), link_of (by decide +kernel)⟩),
   ans1 (h.2.2.2.2.1 noon 0 1 ⟨(by decide +kernel), link_of (by decide +kernel)⟩ (by decide +kernel) (by decide +kernel)),
   ansE (h.2.2.2.2.2.1 noon 0 0xFFFF ⟨(by decide +kernel), link_of (by decide +kernel)⟩ (by decide +kernel)),
   ans1 (h.2.2.2.2.2.2.1 noon 0 false (link_of (by decide +kernel)) (by decide +kernel) (by decide +kernel)),
   ansE (h.2.2.2.2.2.2.2 (regSet 0x400F0000 0xC1 (regSet 0x400F0008 0x21 (regSet 0x400F000C 0x41 (regSet 0x400F0010 2 noon)))) 0 false (link_of (by decide +kernel)) (by decide +kernel))⟩

end PinEvents

/-! Obligations.AcceleratorEvents: its clauses are met, and what they say answers a next state. -/

namespace AcceleratorEvents

def cry (f : Cry → Cry) (s : State) : State := { s with cry := f s.cry }

theorem test_accelerator_events (h : Obligations.AcceleratorEvents) :
    Answers (exec (Instr.reseed) noon) ∧
    Answers (exec (Instr.reseed) (cry (fun c => { c with queue := [5] }) noon)) ∧
    Answers (exec (Instr.retest true) noon) ∧
    Answers (exec (Instr.retest false) noon) ∧
    Answers (exec (Instr.healthFail false) noon) ∧
    Answers (exec (Instr.cryCommandDone 0 0 0) (cry (fun c => { c with queue := [5] }) noon)) ∧
    Answers (exec (Instr.cryCommandDone 0 0 0) noon) :=
  ⟨ans1 (h.1 noon ⟨(by decide +kernel), link_of (by decide +kernel)⟩ (by decide +kernel)),
   ansE (h.2.1 (cry (fun c => { c with queue := [5] }) noon) ⟨(by decide +kernel), link_of (by decide +kernel)⟩ (by decide +kernel)),
   ans1 (h.2.2.1 noon ⟨(by decide +kernel), link_of (by decide +kernel)⟩ (by decide +kernel)),
   ansE (h.2.2.2.1 noon ⟨(by decide +kernel), link_of (by decide +kernel)⟩),
   ans1 (h.2.2.2.2.1 noon false ⟨(by decide +kernel), link_of (by decide +kernel)⟩),
   ans1 (h.2.2.2.2.2.1 (cry (fun c => { c with queue := [5] }) noon) _ _ 0 0 ⟨(by decide +kernel), link_of (by decide +kernel)⟩ (cons_of (by decide +kernel)) (by decide +kernel)),
   ansE (h.2.2.2.2.2.2 noon 0 0 0 ⟨(by decide +kernel), link_of (by decide +kernel)⟩ (by decide +kernel))⟩

end AcceleratorEvents

/-! Obligations.CanEvents: its clauses are met, and what they say answers a next state. -/

namespace CanEvents

def cx (id : Nat) : CanRx := { bus := 0, id := id, xid := false, fd := false, brs := false, esi := false, dlc := 8, rtr := false, data := zeros 8, speed := none }
def act (f : Can → Can) (s : State) : State := canAt (fun c => f { c with state := .active, integrating := false, staged := none }) s
def filt (l : List (Nat × Nat)) : State := act id (reg (l) noon)
def f1 : List (Nat × Nat) := [(0x400C0410, 0x123), (0x400C0414, 0x1FFFFFFF), (0x400C0418, 3)]
def badt : List (Nat × Nat) := [(0x400C000C, 0), (0x400C0010, 0)]
def job : CanJob := { buffer := 12, ret := some (hostRet 0x90), due := 0 }

theorem test_can_events (h : Obligations.CanEvents) :
    Answers (exec (Instr.canFrameRx (cx 0x123)) (filt f1)) ∧
    Answers (exec (Instr.canFrameRx ({ cx 0x123 with rtr := true })) (act id noon)) ∧
    Answers (exec (Instr.canFrameRx (cx 0x77)) (act id (reg [(0x400C0060, 0x40000077)] noon))) ∧
    Answers (exec (Instr.canFrameRx ({ cx 0x123 with fd := true, bus := 1, data := zeros 12, dlc := 9 })) (act id noon)) ∧
    Answers (exec (Instr.canTxDone 0) (act (fun c => { c with pend := [3] }) (reg [(0x400C0100 + 0x60 * 3 + 0, 0)] noon))) ∧
    Answers (exec (Instr.canTxDone 0) (act id noon)) ∧
    Answers (exec (Instr.canTxTimeout 0 12) (act (fun c => { c with pend := [12], jobs := [job] }) (openHost 0x90 noon))) ∧
    Answers (exec (Instr.req 0 0) (act id noon)) ∧
    Answers (exec (Instr.canTxAbort 0 3) (act (fun c => { c with pend := [3] }) (reg [(0x400C0100 + 0x60 * 3 + 0, 0)] noon))) ∧
    Answers (exec (Instr.canRxPop 0 true) (act id noon)) ∧
    Answers (exec (Instr.canRxPop 0 false) (act id noon)) ∧
    Answers (exec (Instr.canCommit 1 false) (act id noon)) ∧
    Answers (exec (Instr.canCommit 0 true) (act id noon)) ∧
    Answers (exec (Instr.canCommit 0 false) (reg badt noon)) ∧
    Answers (exec (Instr.restart 0) (canAt (fun c => { c with faulted := true, boAt := [3] }) noon)) ∧
    Answers (exec (Instr.busOff 0) (act id noon)) ∧
    Answers (exec (Instr.busOffRecovery 0) (canAt (fun c => { c with state := .busOff }) noon)) ∧
    Answers (exec (Instr.busOffRecovery 0) (canAt (fun c => { c with state := .busOff, faulted := true }) noon)) ∧
    Answers (exec (Instr.integration 0) (act id noon)) ∧
    Answers (exec (Instr.speedTimeout) (act id noon)) :=
  have hs1 := h.2.2.2.2.2.2.2
  have hs2 := hs1.2.2.2.2.2.2.2
  ⟨ans1 ((all6 (h.2.1 (filt f1) (cx 0x123) 1 ⟨⟨(by decide +kernel), link_of (by decide +kernel)⟩, (by decide +kernel)⟩) (by decide +kernel)) (by decide +kernel)),
   ans1 (h.2.2.2.1 (act id noon) ({ cx 0x123 with rtr := true }) ⟨⟨(by decide +kernel), link_of (by decide +kernel)⟩, (by decide +kernel)⟩ (by decide +kernel)),
   ans1 (all3 (h.2.2.2.2.1 (act id (reg [(0x400C0060, 0x40000077)] noon)) (cx 0x77) ⟨⟨(by decide +kernel), link_of (by decide +kernel)⟩, (by decide +kernel)⟩) (by decide +kernel)),
   ansE (h.2.2.2.2.2.1 (act id noon) ({ cx 0x123 with fd := true, bus := 1, data := zeros 12, dlc := 9 }) ⟨(by decide +kernel), link_of (by decide +kernel)⟩ (by decide +kernel)),
   ans1 ((all3 (h.2.2.2.2.2.2.1 (act (fun c => { c with pend := [3] }) (reg [(0x400C0100 + 0x60 * 3 + 0, 0)] noon)) 0 _ ⟨(by decide +kernel), link_of (by decide +kernel)⟩) (by decide +kernel)) (cons_of (by decide +kernel)) (by decide +kernel) (by decide +kernel)),
   ansE (hs1.1 (act id noon) 0 ⟨(by decide +kernel), link_of (by decide +kernel)⟩ (by decide +kernel)),
   ans1 (hs1.2.1 (act (fun c => { c with pend := [12], jobs := [job] }) (openHost 0x90 noon)) 0 12 _ _ 100 ⟨(by decide +kernel), link_of (by decide +kernel)⟩ (by decide +kernel) (cons_of (by decide +kernel)) (by decide +kernel) (some_of (by decide +kernel)) (by decide +kernel) rfl),
   ans1 (hs1.2.2.1 (act id noon) 0 0 ⟨(by decide +kernel), link_of (by decide +kernel)⟩),
   ans1 (hs1.2.2.2.1 (act (fun c => { c with pend := [3] }) (reg [(0x400C0100 + 0x60 * 3 + 0, 0)] noon)) 0 3 ⟨(by decide +kernel), link_of (by decide +kernel)⟩ (by decide +kernel) (by decide +kernel)),
   ansE (hs1.2.2.2.2.1 (act id noon) 0 ⟨(by decide +kernel), link_of (by decide +kernel)⟩),
   ansE (hs1.2.2.2.2.2.1 (act id noon) 0 ⟨(by decide +kernel), link_of (by decide +kernel)⟩),
   ansE (hs1.2.2.2.2.2.2.1 (act id noon) 1 ⟨(by decide +kernel), link_of (by decide +kernel)⟩ (by decide +kernel) (by decide +kernel)),
   ansE (hs2.1 (act id noon) 0 ⟨(by decide +kernel), link_of (by decide +kernel)⟩ (by decide +kernel) (by decide +kernel)),
   ans1 (hs2.2.1 (reg badt noon) 0 false ⟨(by decide +kernel), link_of (by decide +kernel)⟩ (by decide +kernel)),
   ansE (hs2.2.2.1 (canAt (fun c => { c with faulted := true, boAt := [3] }) noon) 0 ⟨(by decide +kernel), link_of (by decide +kernel)⟩ (by decide +kernel)),
   ans1 (all5 (hs2.2.2.2.1 (act id noon) 0 ⟨(by decide +kernel), link_of (by decide +kernel)⟩) (by decide +kernel)),
   ansE (hs2.2.2.2.2.1 (canAt (fun c => { c with state := .busOff }) noon) 0 ⟨(by decide +kernel), link_of (by decide +kernel)⟩ (by decide +kernel) (by decide +kernel)),
   ansE (hs2.2.2.2.2.2.1 (canAt (fun c => { c with state := .busOff, faulted := true }) noon) 0 ⟨(by decide +kernel), link_of (by decide +kernel)⟩ (by decide +kernel) (by decide +kernel)),
   ansE (hs2.2.2.2.2.2.2.1 (act id noon) 0 ⟨(by decide +kernel), link_of (by decide +kernel)⟩),
   ans1 (hs2.2.2.2.2.2.2.2 (act id noon) ⟨(by decide +kernel), link_of (by decide +kernel)⟩)⟩

end CanEvents

/-! Obligations.PlcLinEvents: its clauses are met, and what they say answers a next state. -/

namespace PlcLinEvents

def T := asTractor (keysOpen noon)
def pj (prio : Nat) (h : Option ReplyTo) : PlcJob := { msg := { mid := 0x80, prio := prio, data := [0x80, 1, 2], ts := 0 }, host := h }
def lj (pub : Bool) : LinJob := { pid := 0x12, publish := pub, enh := true, len := 2, data := [7, 8], host := none }
def lin (v : Nat) (s : State) : State := reg [(0x400E0000, v)] s
def linJ (l : List LinJob) (s : State) : State := bus (fun b => { b with linJob := l }) (lin 2 s)
def plc (l : List PlcJob) (s : State) : State := bus (fun b => { b with plcTx := l }) s

theorem test_plc_lin_events (h : Obligations.PlcLinEvents) :
    Answers (exec (Instr.plcMessageRx (⟨[0x81, 5], true⟩)) (reg [(0x400D0000, 1)] noon)) ∧
    Answers (exec (Instr.plcMessageRx (⟨[0x81, 5], false⟩)) (reg [(0x400D0000, 1)] noon)) ∧
    Answers (exec (Instr.plcMessageRx (⟨[0x81, 5], true⟩)) (reg [(0x400D0000, 1), (0x400D000C, 0x81)] noon)) ∧
    Answers (exec (Instr.txReq) (reg [(0x400D0030, 5), (0x400D0034, 0x04030281), (0x400D0038, 5), (0x400D000C, 0x381)] noon)) ∧
    Answers (exec (Instr.txReq) noon) ∧
    Answers (exec (Instr.plcTxDone) (plc [pj 3 none] noon)) ∧
    Answers (exec (Instr.plcTxDone) (plc [pj 5 (some (hostRet 0x92)), pj 2 none] noon)) ∧
    Answers (exec (Instr.plcAccessTimeout) (plc [pj 3 none] noon)) ∧
    Answers (exec (Instr.plcAccessTimeout) (plc [pj 5 (some (hostRet 0x92)), pj 2 none] (openHost 0x92 noon))) ∧
    Answers (exec (Instr.plcRxPop) noon) ∧
    Answers (exec (Instr.linSlot .silent) (linJ [lj true] noon)) ∧
    Answers (exec (Instr.linSlot (LinAnswer.data ([1,2]))) (linJ [lj false, lj true] noon)) ∧
    Answers (exec (Instr.linSlot LinAnswer.badSum) (linJ [lj false, lj true] noon)) ∧
    Answers (exec (Instr.linSlot .silent) noon) ∧
    Answers (exec (Instr.linHeader 0x12 false .silent) (reg [(0x400E0020, 0x1212 + 0), (0x400E0024, 0x12 + 256 * 2 + 4096 * 5), (0x400E0070, 0x0403)] (lin 3 noon))) ∧
    Answers (exec (Instr.go) noon) ∧
    Answers (exec (Instr.linWake) (pw (fun p => { p with state := .dusk }) noon)) ∧
    Answers (exec (Instr.linWake) noon) ∧
    Answers (exec (Instr.phoneConnection 4 false) (toks [tok 4 .active .ph false] T)) ∧
    Answers (exec (Instr.connectionEvent 4 false false) (bus (fun b => { b with conns := [{ record := 4, missed := 2, central := true }] }) T)) ∧
    Answers (exec (Instr.connectionEvent 4 false true) (bus (fun b => { b with conns := [{ record := 4, missed := 2, central := true }] }) T)) ∧
    Answers (exec (Instr.connectionEvent 4 false false) noon) :=
  have hs1 := h.2.2.2.2.2.2.2
  have hs2 := hs1.2.2.2.2.2.2.2
  have hs3 := hs2.2.2.2.2.2.2.2
  ⟨ans1 (all6 (h.1 (reg [(0x400D0000, 1)] noon) (⟨[0x81, 5], true⟩) ⟨(by decide +kernel), link_of (by decide +kernel)⟩) (by decide +kernel)),
   ans1 (all3 (h.2.1 (reg [(0x400D0000, 1)] noon) (⟨[0x81, 5], false⟩) ⟨(by decide +kernel), link_of (by decide +kernel)⟩) (by decide +kernel)),
   ans1 (all5 (h.2.2.1 (reg [(0x400D0000, 1), (0x400D000C, 0x81)] noon) (⟨[0x81, 5], true⟩) ⟨(by decide +kernel), link_of (by decide +kernel)⟩) (by decide +kernel)),
   ansE (h.2.2.2.1 (reg [(0x400D0030, 5), (0x400D0034, 0x04030281), (0x400D0038, 5), (0x400D000C, 0x381)] noon) ⟨(by decide +kernel), link_of (by decide +kernel)⟩ (by decide +kernel)),
   ansE (h.2.2.2.2.1 noon ⟨(by decide +kernel), link_of (by decide +kernel)⟩ (by decide +kernel)),
   ans1 (h.2.2.2.2.2.1 (plc [pj 3 none] noon) _ ⟨(by decide +kernel), link_of (by decide +kernel)⟩ (cons_of (by decide +kernel)) (by decide +kernel)),
   ans1 (h.2.2.2.2.2.2.1 (plc [pj 5 (some (hostRet 0x92)), pj 2 none] noon) _ _ ⟨(by decide +kernel), link_of (by decide +kernel)⟩ (cons_of (by decide +kernel)) (by decide +kernel) (by decide +kernel)),
   ans1 (hs1.1 (plc [pj 3 none] noon) _ _ ⟨(by decide +kernel), link_of (by decide +kernel)⟩ (cons_of (by decide +kernel)) (by decide +kernel)),
   ans1 (hs1.2.1 (plc [pj 5 (some (hostRet 0x92)), pj 2 none] (openHost 0x92 noon)) _ _ _ 100 ⟨(by decide +kernel), link_of (by decide +kernel)⟩ (cons_of (by decide +kernel)) (some_of (by decide +kernel)) (by decide +kernel) rfl),
   ansE (hs1.2.2.1 noon ⟨(by decide +kernel), link_of (by decide +kernel)⟩),
   ans1 ((all3 (hs1.2.2.2.1 (linJ [lj true] noon) .silent _ _ ⟨(by decide +kernel), link_of (by decide +kernel)⟩) (by decide +kernel)) (cons_of (by decide +kernel)) (by decide +kernel) (by decide +kernel)),
   ans1 ((all3 (hs1.2.2.2.2.1 (linJ [lj false, lj true] noon) _ _ ([1,2]) ⟨(by decide +kernel), link_of (by decide +kernel)⟩) (by decide +kernel)) (cons_of (by decide +kernel)) (by decide +kernel) (by decide +kernel) rfl (by decide +kernel)),
   ans1 ((all3 (hs1.2.2.2.2.2.1 (linJ [lj false, lj true] noon) _ _ ⟨(by decide +kernel), link_of (by decide +kernel)⟩) (by decide +kernel)) (cons_of (by decide +kernel)) (by decide +kernel) (by decide +kernel)),
   ansE (hs1.2.2.2.2.2.2.1 noon .silent ⟨(by decide +kernel), link_of (by decide +kernel)⟩ (by decide +kernel)),
   ans1 (all3 (hs2.2.1 (reg [(0x400E0020, 0x1212 + 0), (0x400E0024, 0x12 + 256 * 2 + 4096 * 5), (0x400E0070, 0x0403)] (lin 3 noon)) .silent 0x12 ⟨(by decide +kernel), link_of (by decide +kernel)⟩) (by decide +kernel)),
   ansE (hs2.2.2.1 noon ⟨(by decide +kernel), link_of (by decide +kernel)⟩ (by decide +kernel)),
   ans1 (hs2.2.2.2.1 (pw (fun p => { p with state := .dusk }) noon) ⟨(by decide +kernel), link_of (by decide +kernel)⟩ (by decide +kernel)),
   ansE (hs2.2.2.2.2.1 noon ⟨(by decide +kernel), link_of (by decide +kernel)⟩ (by decide +kernel)),
   ansE (all4 (hs2.2.2.2.2.2.1 (toks [tok 4 .active .ph false] T) 4 false _ ⟨(by decide +kernel), link_of (by decide +kernel)⟩ (some_of (by decide +kernel))) (by decide +kernel)),
   ansE (hs2.2.2.2.2.2.2.1 (bus (fun b => { b with conns := [{ record := 4, missed := 2, central := true }] }) T) 4 _ false ⟨(by decide +kernel), link_of (by decide +kernel)⟩ (cons_of (by decide +kernel)) (by decide +kernel) (by decide +kernel)),
   ansE (hs3.1 (bus (fun b => { b with conns := [{ record := 4, missed := 2, central := true }] }) T) 4 _ false ⟨(by decide +kernel), link_of (by decide +kernel)⟩ (cons_of (by decide +kernel)) (by decide +kernel) (by decide +kernel)),
   ansE (hs3.2 noon 4 false false ⟨(by decide +kernel), link_of (by decide +kernel)⟩ (by decide +kernel))⟩

end PlcLinEvents

/-! Obligations.DecisionTriggers: its clauses are met, and what they say answers a next state. -/

namespace DecisionTriggers

def T := asTractor (keysOpen noon)
def ff (bus : Fin 2) (id : Nat) : BusFrame := { bus := bus, id := id, xid := false, fd := false, data := zeros 8 }
def P (s : State) := toks [tok 4 .active .t3 false] s
def B : State := reg [(0x40060040, 4), (0x4006004C, 0x321)] (canAt (fun c => { c with state := .active }) (P T))
def dusk (s : State) : State := pw (fun p => { p with state := .dusk }) s
def q1 (k : TrigKind) (s : State) : State := acc (fun a => { a with triggers := [mkTrigger k .door none noon] }) s
def beacon (s : State) : State := reg [(0x40060014, 0x01000000), (0x40060018, 5), (0x40020000, 1)] { s with lf := { s.lf with telegram := some tg, vlfLow := false, live := { mask := 0xFF, cur := List.replicate 8 100 } } }

theorem test_decision_triggers (h : Obligations.DecisionTriggers) :
    Answers (exec (Instr.wakePinEdge 0) (P noon)) ∧
    Answers (exec (Instr.wakePinEdge 0) (dec .decide B)) ∧
    Answers (exec (Instr.wakePinEdge 0) (reg [(0x40000020, 0)] (dusk noon))) ∧
    Answers (exec (Instr.wakePinEdge 0) (dusk noon)) ∧
    Answers (exec (Instr.wakePinEdge 0) (reg [(0x40000020, 0xF)] (pw (fun p => { p with state := .midnight, pll := false }) noon))) ∧
    Answers (exec (Instr.startRequestFrame (ff 0 0x321)) (dec .decide B)) ∧
    Answers (exec (Instr.startRequestFrame (ff 0 0x321)) (P noon)) ∧
    Answers (exec (Instr.presenceFrame (le 4 104)) (P noon)) ∧
    Answers (exec (Instr.presenceFrame ([1])) (P noon)) ∧
    Answers (exec (Instr.duskBeacon) (beacon (dusk T))) ∧
    Answers (exec (Instr.duskBeacon) ({ beacon (dusk T) with lf := { (beacon (dusk T)).lf with telegram := none } })) ∧
    Answers (exec (Instr.duskBeacon) (P noon)) ∧
    Answers (exec (Instr.queuedTriggerStart) (acc (fun a => { a with triggers := [mkTrigger .wakePin .door none noon] }) noon)) ∧
    Answers (exec (Instr.queuedTriggerStart) (q1 .presence { T with saf := { T.saf with record := 1 } })) ∧
    Answers (exec (Instr.queuedTriggerStart) (q1 .wakePin (reg [(0x40060014, 0)] T))) ∧
    Answers (exec (Instr.queuedTriggerStart) (q1 .wakePin (toks [tok 4 .active .t3 false] { (beacon T) with regs := (reg [(0x40060014, 1)] (beacon T)).regs }))) ∧
    Answers (exec (Instr.queuedTriggerStart) (dec .decide B)) ∧
    Answers (exec (Instr.startRequestFrame (ff 0 0x321)) (dec .wakePin B)) ∧
    Answers (exec (Instr.startRequestFrame (ff 0 0x321)) (acc (fun a => { a with triggers := List.replicate 4 (mkTrigger .grant .door none noon) }) (dec .wakePin B))) :=
  have hs1 := h.2.2.2.2.2.2.2
  ⟨ans1 ((h.1 (P noon) 0 (link_of (by decide +kernel)) (by decide +kernel) (by decide +kernel)).2 (by decide +kernel)),
   ans1 (all4 (h.2.1 (dec .decide B) 0 (link_of (by decide +kernel))) (by decide +kernel)),
   ansE (h.2.2.1 (reg [(0x40000020, 0)] (dusk noon)) 0 (link_of (by decide +kernel)) (by decide +kernel)),
   ans1 (all3 (h.2.2.2.1 (dusk noon) 0 (link_of (by decide +kernel))) (by decide +kernel)),
   ans1 (all3 (h.2.2.2.2.1 (reg [(0x40000020, 0xF)] (pw (fun p => { p with state := .midnight, pll := false }) noon)) 0 (by unfold MayDawn; decide +kernel)) (by decide +kernel)),
   ans1 ((h.2.2.2.2.2.1 (dec .decide B) (ff 0 0x321) (link_of (by decide +kernel)) (by decide +kernel) (by decide +kernel)).1 _ (some_of (by decide +kernel)) (by decide +kernel) (by decide +kernel)),
   ansE (h.2.2.2.2.2.2.1 (P noon) (ff 0 0x321) (link_of (by decide +kernel)) (by decide +kernel)),
   ans1 ((hs1.1 (P noon) (le 4 104) (link_of (by decide +kernel)) (by decide +kernel) (by show _ ∧ _; decide +kernel)).2 (by decide +kernel)),
   ansE (hs1.2.1 (P noon) ([1]) (link_of (by decide +kernel)) (by decide +kernel)),
   ans2 (all5 (hs1.2.2.1 (beacon (dusk T)) (link_of (by decide +kernel))) (by decide +kernel)),
   ans2 ((all6 (hs1.2.2.2.1 ({ beacon (dusk T) with lf := { (beacon (dusk T)).lf with telegram := none } }) (link_of (by decide +kernel))) (by decide +kernel)) (by decide +kernel)),
   ansE (hs1.2.2.2.2.1 (P noon) (link_of (by decide +kernel)) (by decide +kernel)),
   ans1 ((all4 (hs1.2.2.2.2.2.1 (acc (fun a => { a with triggers := [mkTrigger .wakePin .door none noon] }) noon) _ (link_of (by decide +kernel))) (by decide +kernel)) (cons_of (by decide +kernel)) (by decide +kernel) (by decide +kernel)),
   ans1 (hs1.2.2.2.2.2.2.1.1 (q1 .presence { T with saf := { T.saf with record := 1 } }) _ ⟨(link_of (by decide +kernel)), ⟨(by decide +kernel), ⟨(by decide +kernel), ⟨(by decide +kernel), ⟨(by decide +kernel), ⟨(cons_of (by decide +kernel)), (by decide +kernel)⟩⟩⟩⟩⟩⟩ (by decide +kernel)),
   ans1 (all4 (hs1.2.2.2.2.2.2.1.2.1 (q1 .wakePin (reg [(0x40060014, 0)] T)) _ ⟨(link_of (by decide +kernel)), ⟨(by decide +kernel), ⟨(by decide +kernel), ⟨(by decide +kernel), ⟨(by decide +kernel), ⟨(cons_of (by decide +kernel)), (by decide +kernel)⟩⟩⟩⟩⟩⟩) (by decide +kernel)),
   ans2 ((all6 (hs1.2.2.2.2.2.2.1.2.2 (q1 .wakePin (toks [tok 4 .active .t3 false] { (beacon T) with regs := (reg [(0x40060014, 1)] (beacon T)).regs })) _ ⟨(link_of (by decide +kernel)), ⟨(by decide +kernel), ⟨(by decide +kernel), ⟨(by decide +kernel), ⟨(by decide +kernel), ⟨(cons_of (by decide +kernel)), (by decide +kernel)⟩⟩⟩⟩⟩⟩) (by decide +kernel)) (by decide +kernel)),
   ansE (hs1.2.2.2.2.2.2.2 (dec .decide B) (link_of (by decide +kernel)) (by decide +kernel)),
   ans1 ((h.2.2.2.2.2.1 (dec .wakePin B) (ff 0 0x321) (link_of (by decide +kernel)) (by decide +kernel) (by decide +kernel)).2.1 _ (some_of (by decide +kernel)) (by decide +kernel) (by decide +kernel) (by decide +kernel) (by decide +kernel)),
   ans1 ((h.2.2.2.2.2.1 (acc (fun a => { a with triggers := List.replicate 4 (mkTrigger .grant .door none noon) }) (dec .wakePin B)) (ff 0 0x321) (link_of (by decide +kernel)) (by decide +kernel) (by decide +kernel)).2.2 _ (some_of (by decide +kernel)) (by decide +kernel) (by decide +kernel) (by decide +kernel))⟩

end DecisionTriggers

/-! Obligations.RepliesOnAir: its clauses are met, and what they say answers a next state. -/

namespace RepliesOnAir

def body2 : Bytes := le 4 104 ++ [9, 1]
def t2f (k : Fin 8) : RxFrame := rxf 0 (body2 ++ t2Mac aesKey State.reset.cfg.vid 0 body2) (some k)
def noId : RxFrame := rxf 0 (zeros 10) (some 3)
def K2 : State := rxWin 0 (keyed [tok 4 .active .t2 false, tok 5 .active .t3 false, tok 6 .active .ph false])
def phAns : Bytes := phoneMac aesKey State.reset.cfg.vid 0 5

theorem test_replies_on_air (h : Obligations.RepliesOnAir) :
    Answers (exec (Instr.t2Reply noId) (regPutFld 0x4006000C 0 8 0 (decF (fun d => { d with t3Wins := [0], t2Win := some 0 }) (rxCfg 0 (0x100 + 512 * 10) K2)))) ∧
    Answers (exec (Instr.t3Reply (t2f 0) none) (regPutFld 0x4006000C 0 8 0 (decF (fun d => { d with t3Wins := [0], t2Win := some 0 }) (rxCfg 0 (0x100 + 512 * 10) K2)))) ∧
    Answers (exec (Instr.phoneAnswer 6 phAns) (rxWin 0 noon)) ∧
    Answers (exec (Instr.winDone 0 ([])) (rxWin 0 noon)) ∧
    Answers (exec (Instr.winDone 1 ([])) (decF (fun d => { d with t2Win := some 0 }) (rxCfg 0 (0x100 + 512 * 10) K2))) :=
  ⟨ans2 (h.2.1 (regPutFld 0x4006000C 0 8 0 (decF (fun d => { d with t3Wins := [0], t2Win := some 0 }) (rxCfg 0 (0x100 + 512 * 10) K2))) noId _ _ ⟨(link_of (by decide +kernel)), ⟨(by decide +kernel), ⟨(by decide +kernel), (some_of (by decide +kernel))⟩⟩⟩ (by decide +kernel) (some_of (by decide +kernel)) (by decide +kernel) (by decide +kernel)),
   ans2 (h.2.2.2.1 (regPutFld 0x4006000C 0 8 0 (decF (fun d => { d with t3Wins := [0], t2Win := some 0 }) (rxCfg 0 (0x100 + 512 * 10) K2))) (t2f 0) none _ _ ⟨(link_of (by decide +kernel)), ⟨(by decide +kernel), ⟨(by decide +kernel), (some_of (by decide +kernel))⟩⟩⟩ (by decide +kernel) (some_of (by decide +kernel)) (by decide +kernel) (by decide +kernel)),
   ansE (h.2.2.2.2.2.1 (rxWin 0 noon) 6 phAns (link_of (by decide +kernel)) (by decide +kernel) (by decide +kernel)),
   ans1 (all5 (h.2.2.2.2.2.2.1 (rxWin 0 noon) 0 ([]) ⟨(by decide +kernel), link_of (by decide +kernel)⟩) (by decide +kernel)),
   ansE (h.2.2.2.2.2.2.2 (decF (fun d => { d with t2Win := some 0 }) (rxCfg 0 (0x100 + 512 * 10) K2)) 1 ([]) ⟨(by decide +kernel), link_of (by decide +kernel)⟩ (by decide +kernel))⟩

end RepliesOnAir

/-! Obligations.ReleaseEvents: its clauses are met, and what they say answers a next state. -/

namespace ReleaseEvents

def ff (bus : Fin 2) (id : Nat) : BusFrame := { bus := bus, id := id, xid := false, fd := false, data := [1,2,3,4,5,6,7,1] }
def T := asTractor (keysK)
def immo : State := reg [(0x40060040, 4), (0x40060044, 0x321), (0x40060048, 0x322)] (slots [keySlot 9 1 0x7F 0 aesKey] (canAt (fun c => { c with state := .active, integrating := false }) T))

theorem test_release_events (h : Obligations.ReleaseEvents) :
    Answers (exec (Instr.releaseRefreshTimeout) (rel id T)) ∧
    Answers (exec (Instr.releaseRefreshTimeout) (rel id T)) ∧
    Answers (exec (Instr.releaseDurationEnd) (rel id T)) ∧
    Answers (exec (Instr.releaseRefreshTimeout) noon) ∧
    Answers (exec (Instr.releaseReadback false true) (rel id T)) ∧
    Answers (exec (Instr.releaseReadback false false) (rel (fun r => { r with rbHist := [(true, false, false)], driven := true }) T)) ∧
    Answers (exec (Instr.releaseReadback true false) (rel id T)) ∧
    Answers (exec (Instr.releaseReadback false false) noon) ∧
    Answers (exec (Instr.idleReadback false false) noon) ∧
    Answers (exec (Instr.idleReadback false true) (acc (fun a => { a with release := { a.release with idleBad := 1 } }) T)) ∧
    Answers (exec (Instr.periodMonitor 490) (rel id T)) ∧
    Answers (exec (Instr.periodMonitor 489) (rel (fun r => { r with periodBad := 1 }) T)) ∧
    Answers (exec (Instr.curfewEnd) (acc (fun a => { a with curfew := true }) T)) ∧
    Answers (exec (Instr.curfewEnd) noon) ∧
    Answers (exec (Instr.releaseTrack) (reg [(0x40060020, 0)] (rel (fun r => { r with outcome := .start, record := 6 }) (toks [tok 6 .active .ph false] T)))) ∧
    Answers (exec (Instr.releaseTrack) noon) ∧
    Answers (exec (Instr.immoChallenge (ff 0 0x321)) (rel id immo)) ∧
    Answers (exec (Instr.immoChallenge (ff 0 0x321)) noon) :=
  have hs1 := h.2.2.2.2.2.2.2
  have hs2 := hs1.2.2.2.2.2.2.2
  ⟨ans1 (h.1 (rel id T) (link_of (by decide +kernel)) (by decide +kernel)),
   ans1 (h.2.1 (rel id T) (link_of (by decide +kernel)) (by decide +kernel)),
   ans1 (h.2.2.1 (rel id T) (link_of (by decide +kernel)) (by decide +kernel)),
   ansE (h.2.2.2.1 noon (link_of (by decide +kernel)) (by decide +kernel)).1,
   ansE (all4 (h.2.2.2.2.1 (rel id T) false true (link_of (by decide +kernel))) (by decide +kernel)),
   ans1 (all4 (h.2.2.2.2.2.1 (rel (fun r => { r with rbHist := [(true, false, false)], driven := true }) T) false false false false ([]) (link_of (by decide +kernel))) (by decide +kernel)),
   ans1 (all5 (h.2.2.2.2.2.2.1 (rel id T) true false (link_of (by decide +kernel))) (by decide +kernel)),
   ansE (hs1.1 noon false false (link_of (by decide +kernel)) (by decide +kernel)),
   ansE (hs1.2.1 noon ⟨(by decide +kernel), link_of (by decide +kernel)⟩ (by decide +kernel) (by decide +kernel)),
   ans1 (all5 (hs1.2.2.1 (acc (fun a => { a with release := { a.release with idleBad := 1 } }) T) false true ⟨(by decide +kernel), link_of (by decide +kernel)⟩) (by decide +kernel)),
   ansE (all3 (hs1.2.2.2.1 (rel id T) 490 (link_of (by decide +kernel))) (by decide +kernel)),
   ans1 (all3 (hs1.2.2.2.2.1 (rel (fun r => { r with periodBad := 1 }) T) 489 (link_of (by decide +kernel))) (by decide +kernel)).1,
   ans1 (hs1.2.2.2.2.2.1 (acc (fun a => { a with curfew := true }) T) (link_of (by decide +kernel)) (by decide +kernel) (by decide +kernel)),
   ansE (hs1.2.2.2.2.2.2.1 noon (link_of (by decide +kernel)) (by decide +kernel)),
   ans1 (all4 ((all6 (hs2.1 (reg [(0x40060020, 0)] (rel (fun r => { r with outcome := .start, record := 6 }) (toks [tok 6 .active .ph false] T))) _ (link_of (by decide +kernel))) (by decide +kernel)) (by decide +kernel) (some_of (by decide +kernel))) (by decide +kernel)),
   ansE (hs2.2.1 noon (link_of (by decide +kernel)) (by decide +kernel)),
   ans1 ((all6 (hs2.2.2.1 (rel id immo) (ff 0 0x321) _ (link_of (by decide +kernel))) (by decide +kernel)) (by decide +kernel) (by decide +kernel) (some_of (by decide +kernel))),
   ansE (hs2.2.2.2 noon (ff 0 0x321) (link_of (by decide +kernel)) (by decide +kernel))⟩

end ReleaseEvents

/-! Obligations.EnrolmentEvents: its clauses are met, and what they say answers a next state. -/

namespace EnrolmentEvents

def T := asTractor (keysK)
def en (f : Enrol → Enrol) (s : State) : State := acc (fun a => { a with enrol := some (f { work := some 1, loose := none, step := 4, record := 6, tokenId := 5, cls := .ph, bandH := false, nonce := 0, phNonce := 0, rx := none, confirmed := false }) }) s
def conn (s : State) : State := bus (fun b => { b with conns := [{ record := 6, missed := 0, central := true }] }) s

theorem test_enrolment_events (h : Obligations.EnrolmentEvents) :
    Answers (exec (Instr.enrolAttempt) noon) ∧
    Answers (exec (Instr.enrolAttempt) (conn (en id T))) ∧
    Answers (exec (Instr.enrolTimeout) (withWorks [wk 0x72 .running []] (handle 6 (mkBlob keysK (hdr 1 0x7F 0) aesKey) (en id T)))) ∧
    Answers (exec (Instr.enrolTimeout) (en (fun e => { e with confirmed := true }) T)) :=
  ⟨ansE (h.1 noon (link_of (by decide +kernel)) (by decide +kernel)),
   ans2 ((all4 ((all3 (h.2.1 (conn (en id T)) _ _ (link_of (by decide +kernel))) (by decide +kernel)) (some_of (by decide +kernel))) (by decide +kernel)) (cons_of (by decide +kernel)) rfl),
   ans1 (h.2.2.1 (withWorks [wk 0x72 .running []] (handle 6 (mkBlob keysK (hdr 1 0x7F 0) aesKey) (en id T))) _ _ (link_of (by decide +kernel)) (by decide +kernel) (by decide +kernel) (some_of (by decide +kernel)) (by decide +kernel) (by decide +kernel) (some_of (by decide +kernel)) (cons_of (by decide +kernel)) (by decide +kernel)),
   ansE (h.2.2.2 (en (fun e => { e with confirmed := true }) T) _ (link_of (by decide +kernel)) (some_of (by decide +kernel)) (by decide +kernel))⟩

end EnrolmentEvents

/-! Obligations.LfTelegrams: its clauses are met, and what they say answers a next state. -/

namespace LfTelegrams

def lfS (f : LfField → LfField) (s : State) : State := { s with lf := f { s.lf with vlfLow := false, vlfHigh := false, tamperBlk := false, live := { mask := 0xFF, cur := List.replicate 8 100 } } }
def en8 : List (Nat × Nat) := (List.range 8).map fun n => (lfCh n 0, 1)
def lane0 : Lane := { ch := 0, phase := 0, amp := 32 }
def tD : Telegram := { tg with lanes := [lane0], driven := true }
def tel (x : Telegram) (l : List Word) : State := reg en8 (lfS (fun f => { f with telegram := some x, fifo := l }) noon)
def g0 : EnergyReq := { cls := 2, estimate := 10, due := 0, limit := 50, words := [], plan := none, retest := none }
def lm : LfMeas := { lanes := [{ ch := 0, peak := 100, cond := 20, phase := 3 }], tj := 25 }
def syS (f : Bool) : State := reg ((0x40020880, 0) :: (0x40020884, 0) :: []) (tel { tD with rest := [.sync 0 f true 5, .part false 7] } [])

theorem test_lf_telegrams (h : Obligations.LfTelegrams) :
    Answers (exec (Instr.lfGo 0) (lfS (fun f => { f with grant := some g0, fifo := [5] }) noon)) ∧
    Answers (exec (Instr.lfGo 0) noon) ∧
    Answers (exec (Instr.lfGo 1) noon) ∧
    Answers (exec (Instr.lfAbort) noon) ∧
    Answers (exec (Instr.lfFlush) noon) ∧
    Answers (exec (Instr.lfFlush) (tel tD [5])) ∧
    Answers (exec (Instr.lfxFifoData 7) noon) ∧
    Answers (exec (Instr.lfFifoEntry lm) noon) ∧
    Answers (exec (Instr.lfFifoEntry lm) (tel { tD with endDue := true } [0x10000005, 5])) ∧
    Answers (exec (Instr.lfFifoEntry lm) (tel tD [])) ∧
    Answers (exec (Instr.lfFifoEntry lm) (tel tD [0, 5])) ∧
    Answers (exec (Instr.lfFifoEntry lm) (tel tD [0x80000000, 5])) ∧
    Answers (exec (Instr.lfFifoEntry lm) (tel tD [0x10000000 + 96001, 5])) ∧
    Answers (exec (Instr.lfFifoEntry { lanes := [], tj := 25 }) (tel tD [0x10000005, 5])) ∧
    Answers (exec (Instr.lfFifoEntry { lanes := [], tj := 25 }) (tel tD [0x30000000 + 16 * 65536 + 0xA5A5, 5])) ∧
    Answers (exec (Instr.lfFifoEntry { lanes := [], tj := 25 }) (tel tD [0x30000000 + 5 * 65536 + 0x25A5, 5])) ∧
    Answers (exec (Instr.lfFifoEntry { lanes := [], tj := 25 }) (tel tD [0x40000000 + 5 * 65536 + 0xA5A5, 5])) ∧
    Answers (exec (Instr.lfFifoEntry { lanes := [], tj := 25 }) (tel tD [0x40000000 + 5 * 65536 + 0x25A5, 5])) ∧
    Answers (exec (Instr.lfFifoEntry { lanes := [], tj := 25 }) (tel { tD with rest := [.part true 5, .part false 7] } [5])) ∧
    Answers (exec (Instr.lfFifoEntry { lanes := [], tj := 25 }) (tel tD [0x20000005, 5])) ∧
    Answers (exec (Instr.lfFifoEntry lm) (tel { tD with driven := false } [0x10000005, 5])) ∧
    Answers (exec (Instr.lfFifoEntry lm) (tel { tD with checked := true } [0x10000005, 5])) ∧
    Answers (exec (Instr.lfFifoEntry lm) (tel tD [0x50000000, 5])) ∧
    Answers (exec (Instr.lfFifoEntry lm) (reg [(0x40020880, 0xFC09FC08), (0x40020884, 0xFC0A)] (tel tD [0x50000008, 5]))) ∧
    Answers (exec (Instr.lfFifoEntry lm) (tel tD [0x50000008, 5])) ∧
    Answers (exec (Instr.lfFifoEntry lm) (tel tD [0x60000005, 5])) ∧
    Answers (exec (Instr.lfFifoEntry lm) (tel tD [0x70000000, 5])) ∧
    Answers (exec (Instr.lfFifoEntry { lanes := [], tj := 25 }) (tel tD [0x70000820, 5])) ∧
    Answers (exec (Instr.lfFifoEntry { lanes := [], tj := 25 }) (tel { tD with rest := [.slice [5] false 5, .part false 7] } [])) ∧
    Answers (exec (Instr.lfFifoEntry { lanes := [], tj := 25 }) (syS true)) ∧
    Answers (exec (Instr.lfFifoEntry { lanes := [], tj := 25 }) (syS false)) :=
  have hs1 := h.2.2.2.2.2.2.2
  have hs2 := hs1.2.2.2.2.2.2.2
  have hs3 := hs2.2.2.2.2.2.2.2
  have hs4 := hs3.2.2.2.2.2.2.2
  ⟨ans1 (all6 (h.1 (lfS (fun f => { f with grant := some g0, fifo := [5] }) noon) _ 0 ⟨(by decide +kernel), link_of (by decide +kernel)⟩ (by decide +kernel) (some_of (by decide +kernel))) (by decide +kernel)),
   ans1 (h.2.1 noon 0 ⟨(by decide +kernel), link_of (by decide +kernel)⟩ (by decide +kernel) (by decide +kernel)),
   ansE (h.2.2.1 noon 1 ⟨(by decide +kernel), link_of (by decide +kernel)⟩ (by decide +kernel)),
   ansE (h.2.2.2.1 noon ⟨(by decide +kernel), link_of (by decide +kernel)⟩),
   ansE (h.2.2.2.2.1 noon ⟨(by decide +kernel), link_of (by decide +kernel)⟩ (by decide +kernel)),
   ansE (h.2.2.2.2.2.1 (tel tD [5]) ⟨(by decide +kernel), link_of (by decide +kernel)⟩ (by decide +kernel)),
   ansE (h.2.2.2.2.2.2.1 noon 7 ⟨(by decide +kernel), link_of (by decide +kernel)⟩ (by decide +kernel)),
   ansE (hs1.1 noon lm ⟨(by decide +kernel), link_of (by decide +kernel)⟩ (by decide +kernel)),
   ansR (hs1.2.1 (tel { tD with endDue := true } [0x10000005, 5]) lm _ ⟨(by decide +kernel), link_of (by decide +kernel)⟩ (by decide +kernel) (some_of (by decide +kernel)) (by decide +kernel)),
   ansR (all3 (hs1.2.2.1 (tel tD []) lm _ ⟨(by decide +kernel), link_of (by decide +kernel)⟩ (by decide +kernel) (some_of (by decide +kernel))) (by decide +kernel)).1,
   ansR (hs1.2.2.2.1 (tel tD [0, 5]) lm ([5]) ⟨⟨(by decide +kernel), link_of (by decide +kernel)⟩, (by decide +kernel)⟩ (by decide +kernel)),
   ansR (hs1.2.2.2.2.1 (tel tD [0x80000000, 5]) lm _ _ ⟨⟨(by decide +kernel), link_of (by decide +kernel)⟩, ⟨(cons_of (by decide +kernel)), (by decide +kernel)⟩⟩ (by decide +kernel) (by decide +kernel)),
   ansR (hs1.2.2.2.2.2.1 (tel tD [0x10000000 + 96001, 5]) lm 96001 ([5]) (by decide +kernel) (by decide +kernel) ⟨⟨(by decide +kernel), link_of (by decide +kernel)⟩, (by decide +kernel)⟩ (by decide +kernel)),
   ans1 (hs1.2.2.2.2.2.2.1 (tel tD [0x10000005, 5]) 5 ([5]) (by decide +kernel) (by decide +kernel) ⟨⟨(by decide +kernel), link_of (by decide +kernel)⟩, (by decide +kernel)⟩ _ (some_of (by decide +kernel)) (by decide +kernel) (by decide +kernel)),
   ans1 (hs2.1 (tel tD [0x30000000 + 16 * 65536 + 0xA5A5, 5]) 15 0xA5A5 ([5]) (by decide +kernel) (by decide +kernel) ⟨⟨(by decide +kernel), link_of (by decide +kernel)⟩, (by decide +kernel)⟩ (by decide +kernel) _ (some_of (by decide +kernel)) (by decide +kernel) (by decide +kernel)),
   ans1 (hs2.2.1 (tel tD [0x30000000 + 5 * 65536 + 0x25A5, 5]) 4 0x25A5 ([5]) (by decide +kernel) (by decide +kernel) ⟨⟨(by decide +kernel), link_of (by decide +kernel)⟩, (by decide +kernel)⟩ (by decide +kernel) _ (some_of (by decide +kernel)) (by decide +kernel) (by decide +kernel)),
   ans1 (hs2.2.2.1 (tel tD [0x40000000 + 5 * 65536 + 0xA5A5, 5]) 4 0xA5A5 ([5]) (by decide +kernel) (by decide +kernel) ⟨⟨(by decide +kernel), link_of (by decide +kernel)⟩, (by decide +kernel)⟩ (by decide +kernel) _ (some_of (by decide +kernel)) (by decide +kernel) (by decide +kernel)),
   ans1 (hs2.2.2.2.1 (tel tD [0x40000000 + 5 * 65536 + 0x25A5, 5]) 4 0x25A5 ([5]) (by decide +kernel) (by decide +kernel) ⟨⟨(by decide +kernel), link_of (by decide +kernel)⟩, (by decide +kernel)⟩ (by decide +kernel) _ (some_of (by decide +kernel)) (by decide +kernel) (by decide +kernel)),
   ans1 (hs2.2.2.2.2.1 (tel { tD with rest := [.part true 5, .part false 7] } [5]) _ true 5 ([.part false 7]) ⟨(by decide +kernel), link_of (by decide +kernel)⟩ (some_of (by decide +kernel)) (by decide +kernel) (by decide +kernel) _ (some_of (by decide +kernel)) (by decide +kernel) (by decide +kernel)),
   ans1 (hs2.2.2.2.2.2.1 (tel tD [0x20000005, 5]) 5 ([5]) (by decide +kernel) (by decide +kernel) ⟨⟨(by decide +kernel), link_of (by decide +kernel)⟩, (by decide +kernel)⟩ _ (some_of (by decide +kernel)) (by decide +kernel) (by decide +kernel)),
   ans1 (hs2.2.2.2.2.2.2.1 (tel { tD with driven := false } [0x10000005, 5]) lm 5 ([5]) _ (by decide +kernel) (by decide +kernel) ⟨⟨(by decide +kernel), link_of (by decide +kernel)⟩, (by decide +kernel)⟩ (some_of (by decide +kernel)) (by decide +kernel) (by decide +kernel)),
   ans2 (hs3.1 (tel { tD with checked := true } [0x10000005, 5]) lm _ 5 ([5]) _ _ (by decide +kernel) (by decide +kernel) ⟨⟨(by decide +kernel), link_of (by decide +kernel)⟩, (by decide +kernel)⟩ (some_of (by decide +kernel)) (by decide +kernel) (by decide +kernel) (cons_of (by decide +kernel)) (some_of (by decide +kernel))),
   ansE (all4 (hs3.2.1 (tel tD [0x50000000, 5]) lm 0 ([5]) _ ⟨⟨(by decide +kernel), link_of (by decide +kernel)⟩, (by decide +kernel)⟩ (some_of (by decide +kernel))) (by decide +kernel)),
   ansR (hs3.2.2.1 (reg [(0x40020880, 0xFC09FC08), (0x40020884, 0xFC0A)] (tel tD [0x50000008, 5])) lm 0 ([5]) _ ⟨⟨(by decide +kernel), link_of (by decide +kernel)⟩, (by decide +kernel)⟩ (by decide +kernel) (some_of (by decide +kernel)) (by decide +kernel)),
   ans2 (hs3.2.2.2.1 (tel tD [0x50000008, 5]) lm 0 ([5]) _ ⟨⟨(by decide +kernel), link_of (by decide +kernel)⟩, (by decide +kernel)⟩ (some_of (by decide +kernel)) (by decide +kernel) (by decide +kernel)),
   ans1 (hs3.2.2.2.2.1 (tel tD [0x60000005, 5]) lm 5 ([5]) _ (by decide +kernel) ⟨⟨(by decide +kernel), link_of (by decide +kernel)⟩, (by decide +kernel)⟩ (some_of (by decide +kernel)) (by decide +kernel)),
   ansE (hs3.2.2.2.2.2.1 (tel tD [0x70000000, 5]) lm ([5]) _ ⟨⟨(by decide +kernel), link_of (by decide +kernel)⟩, (by decide +kernel)⟩ (some_of (by decide +kernel)) (by decide +kernel)),
   ans1 (all3 (hs3.2.2.2.2.2.2.1 (tel tD [0x70000820, 5]) 5 0 ([5]) _ ⟨⟨(by decide +kernel), link_of (by decide +kernel)⟩, (by decide +kernel)⟩ (some_of (by decide +kernel))) (by decide +kernel)),
   ans1 (all3 (hs4.1 (tel { tD with rest := [.slice [5] false 5, .part false 7] } []) _ ([5]) 5 ([.part false 7]) ⟨(by decide +kernel), link_of (by decide +kernel)⟩ (some_of (by decide +kernel))) (by decide +kernel)),
   ans1 (all5 (hs4.2.1 (syS true) _ 0 true 5 ([.part false 7]) ⟨(by decide +kernel), link_of (by decide +kernel)⟩ (some_of (by decide +kernel))) (by decide +kernel)),
   ans1 (all3 (hs4.2.2 (syS false) _ 0 true 5 ([.part false 7]) ⟨(by decide +kernel), link_of (by decide +kernel)⟩ (some_of (by decide +kernel))) (by decide +kernel))⟩

end LfTelegrams

/-! Obligations.LfMaintenance: its clauses are met, and what they say answers a next state. -/

namespace LfMaintenance

def lfS (f : LfField → LfField) (s : State) : State := { s with lf := f { s.lf with vlfLow := false, vlfHigh := false, tamperBlk := false, live := { mask := 0xFF, cur := List.replicate 8 100 } } }
def g0 : EnergyReq := { cls := 2, estimate := 10, due := 0, limit := 50, words := [], plan := none, retest := none }

theorem test_lf_maintenance (h : Obligations.LfMaintenance) :
    Answers (exec (Instr.lfxCommit 1) noon) ∧
    Answers (exec (Instr.lfxCommit 1) (lfS (fun f => { f with telegram := some tg }) noon)) ∧
    Answers (exec (Instr.lfxCommit 0) noon) ∧
    Answers (exec (Instr.lfxEaccReq 0) noon) ∧
    Answers (exec (Instr.lfxEaccReq 0x05FFFFFF) noon) ∧
    Answers (exec (Instr.eaccBin 25 0) noon) ∧
    Answers (exec (Instr.eaccBin 25 0) (lfS (fun f => { f with deferred := [g0] }) noon)) ∧
    Answers (exec (Instr.grantLapse) (lfS (fun f => { f with grant := some g0, reserved := 10000000 }) noon)) ∧
    Answers (exec (Instr.grantLapse) (lfS (fun f => { f with grant := some { g0 with words := [5] }, fifo := [5], reserved := 10000000 }) noon)) ∧
    Answers (exec (Instr.grantLapse) noon) ∧
    Answers (exec (Instr.vlfWindowChange 0) noon) ∧
    Answers (exec (Instr.lfShort 0 false) noon) ∧
    Answers (exec (Instr.lfShort 0 false) noon) ∧
    Answers (exec (Instr.lfOpenRetest 3 8 25) (reg [(lfCh 3 0xC, 1)] (lfS (fun f => { f with excluded := 8, openRun := List.replicate 8 3 }) noon))) ∧
    Answers (exec (Instr.lfOpenRetest 3 0 25) (reg [(lfCh 3 0xC, 1)] (lfS (fun f => { f with excluded := 8, openRun := List.replicate 8 3 }) noon))) ∧
    Answers (exec (Instr.lfOpenRetest 3 0 25) (reg [(lfCh 3 0xC, 1)] (lfS (fun f => { f with excluded := 8, bin := 10^20 }) noon))) ∧
    Answers (exec (Instr.lfOpenRetest 0 0 25) noon) ∧
    Answers (exec (Instr.lfShortClear 3 1 none) (reg [(lfCh 3 0xC, 7)] (lfS (fun f => { f with excluded := 8, retest := 8 }) noon))) ∧
    Answers (exec (Instr.lfShortClear 3 1 (some false)) (reg [(lfCh 3 0xC, 7)] (lfS (fun f => { f with excluded := 8, retest := 8 }) noon))) ∧
    Answers (exec (Instr.lfShortClear 0 0 found) noon) :=
  have hs1 := h.2.2.2.2.2.2.2
  have hs2 := hs1.2.2.2.2.2.2.2
  ⟨ansE (h.1 noon 1 ⟨(by decide +kernel), link_of (by decide +kernel)⟩ (by decide +kernel) (by decide +kernel)),
   ansE (h.2.1 (lfS (fun f => { f with telegram := some tg }) noon) 1 ⟨(by decide +kernel), link_of (by decide +kernel)⟩ (by decide +kernel) (by decide +kernel)),
   ansE (h.2.2.1 noon 0 ⟨(by decide +kernel), link_of (by decide +kernel)⟩ (by decide +kernel)),
   ansE (h.2.2.2.1 noon 0 ⟨(by decide +kernel), link_of (by decide +kernel)⟩ (by decide +kernel) (by decide +kernel)),
   ans1 (h.2.2.2.2.1 noon 0x05FFFFFF ⟨(by decide +kernel), link_of (by decide +kernel)⟩ (by decide +kernel)),
   ans1 (all3 (h.2.2.2.2.2.1 noon 25 0 ⟨(by decide +kernel), link_of (by decide +kernel)⟩) (by decide +kernel)),
   ans1 (all3 (h.2.2.2.2.2.2.1 (lfS (fun f => { f with deferred := [g0] }) noon) 25 0 _ ⟨(by decide +kernel), link_of (by decide +kernel)⟩ (by decide +kernel) (cons_of (by decide +kernel))) (by decide +kernel)),
   ansE (hs1.1 (lfS (fun f => { f with grant := some g0, reserved := 10000000 }) noon) _ ⟨(by decide +kernel), link_of (by decide +kernel)⟩ (some_of (by decide +kernel)) (by decide +kernel) (by decide +kernel)),
   ans1 (hs1.2.1 (lfS (fun f => { f with grant := some { g0 with words := [5] }, fifo := [5], reserved := 10000000 }) noon) _ ⟨(by decide +kernel), link_of (by decide +kernel)⟩ (some_of (by decide +kernel)) (by decide +kernel) (by decide +kernel)),
   ansE (hs1.2.2.1 noon ⟨(by decide +kernel), link_of (by decide +kernel)⟩ (by decide +kernel)),
   ansE (hs1.2.2.2.1 noon 0 (link_of (by decide +kernel))),
   ans1 (hs1.2.2.2.2.1 noon 0 false ⟨(by decide +kernel), link_of (by decide +kernel)⟩ (by decide +kernel)),
   ans1 (hs1.2.2.2.2.2.1 noon 0 false ⟨(by decide +kernel), link_of (by decide +kernel)⟩),
   ans1 ((all6 (hs1.2.2.2.2.2.2.1 (reg [(lfCh 3 0xC, 1)] (lfS (fun f => { f with excluded := 8, openRun := List.replicate 8 3 }) noon)) 3 8 25 ⟨(by decide +kernel), link_of (by decide +kernel)⟩) (by decide +kernel)) (by decide +kernel) (by decide +kernel)),
   ans1 (hs2.1 (reg [(lfCh 3 0xC, 1)] (lfS (fun f => { f with excluded := 8, openRun := List.replicate 8 3 }) noon)) 3 0 25 ⟨(by decide +kernel), link_of (by decide +kernel)⟩ (by decide +kernel) (by decide +kernel)),
   ans1 (all6 (hs2.2.1 (reg [(lfCh 3 0xC, 1)] (lfS (fun f => { f with excluded := 8, bin := 10^20 }) noon)) 3 0 25 ⟨(by decide +kernel), link_of (by decide +kernel)⟩) (by decide +kernel)),
   ansE (hs2.2.2.1 noon 0 0 25 ⟨(by decide +kernel), link_of (by decide +kernel)⟩ (by decide +kernel) (by decide +kernel)),
   ans1 (hs2.2.2.2.1 (reg [(lfCh 3 0xC, 7)] (lfS (fun f => { f with excluded := 8, retest := 8 }) noon)) 3 1 ⟨(by decide +kernel), link_of (by decide +kernel)⟩ (by decide +kernel)),
   ans1 (hs2.2.2.2.2.1 (reg [(lfCh 3 0xC, 7)] (lfS (fun f => { f with excluded := 8, retest := 8 }) noon)) 3 1 false ⟨(by decide +kernel), link_of (by decide +kernel)⟩ (by decide +kernel)),
   ansE (hs2.2.2.2.2.2 noon 0 0 _ ⟨(by decide +kernel), link_of (by decide +kernel)⟩ (by decide +kernel) (by decide +kernel))⟩

end LfMaintenance

/-! Obligations.RadioTransmits: its clauses are met, and what they say answers a next state. -/

namespace RadioTransmits

def jb (s : State) : State := openHost 0x51 { s with rad := { s.rad with jobs := [{ bandH := false, desc := 1, ret := hostRet 0x51, ts := 9 }] } }
def dL (l : List (Nat × Nat)) (s : State) : State := reg l { s with rad := { s.rad with l1 := .idle, l2 := .idle, bandL := { s.rad.bandL with order := [1, 0] } } }
def d1 (ctl len : Nat) : List (Nat × Nat) := [(txdAddr false 1 0, ctl), (txdAddr false 1 4, len * 65536), (0x40030070, 0x50000 + 30 * 2^18)]
def dH (l : List (Nat × Nat)) (s : State) : State := reg l { s with rad := { s.rad with hTx := .idle, hRx := .idle, bandH := { s.rad.bandH with order := [1, 0] } } }
def dh (ctl len : Nat) : List (Nat × Nat) := [(txdAddr true 1 0, ctl), (txdAddr true 1 4, len * 65536)]
def send (l : List (Nat × Nat)) (f : Radio → Radio) : State := reg l { noon with rad := f { noon.rad with bandL := { noon.rad.bandL with order := [1], sending := some 1 }, calDue := [] } }

theorem test_radio_transmits (h : Obligations.RadioTransmits) :
    Answers (exec (Instr.txDescriptorQueue false 0 0x21) noon) ∧
    Answers (exec (Instr.txDescriptorQueue false 0 0) noon) ∧
    Answers (exec (Instr.txDescriptorQueue false 0 0) (jb (dL (d1 0x1 3) noon))) ∧
    Answers (exec (Instr.txDescriptorQueue false 0 0x27) noon) ∧
    Answers (exec (Instr.txDescriptorStart false 0 false false) noon) ∧
    Answers (exec (Instr.txDescriptorStart false 1 false false) (dL ((txdAddr false 1 8, 5) :: d1 0x23 3) noon)) ∧
    Answers (exec (Instr.txDescriptorStart false 1 false false) (dL (d1 0x25 3) noon)) ∧
    Answers (exec (Instr.txDescriptorStart true 1 false false) (dH (dh 0x21 0) noon)) ∧
    Answers (exec (Instr.txDescriptorStart false 1 false false) (dL (d1 0x1 3) noon)) ∧
    Answers (exec (Instr.txDescriptorStart false 1 false false) (jb (dL (d1 0x1 3) noon))) ∧
    Answers (exec (Instr.txDescriptorStart false 1 false false) (rad (fun r => { r with bandL := { r.bandL with turn := true } }) (dL (d1 0x25 3) noon))) ∧
    Answers (exec (Instr.txDescriptorStart false 1 false false) (dL (d1 0x21 3) noon)) ∧
    Answers (exec (Instr.txDescriptorStart false 1 true true) (dL (d1 0x21 3) noon)) ∧
    Answers (exec (Instr.txDescriptorStart false 1 true true) (rad (fun r => { r with l1 := .rx, l2 := .rx, rxB := { r.rxB with frame := true }, rxA := { r.rxA with frame := true } }) (dL (d1 0x31 3) noon))) ∧
    Answers (exec (Instr.txFrameEnd true 0) (reg (dh 0x21 3) (rad (fun r => { r with hTx := .tx, bandH := { r.bandH with order := [1], sending := some 1 } }) noon))) ∧
    Answers (exec (Instr.txFrameEnd false 0) (send ((0x40030068, 40) :: d1 0x7821 400) fun r => { r with mismatchRun := 2 })) ∧
    Answers (exec (Instr.txFrameEnd false 0) noon) ∧
    Answers (exec (Instr.rflCommit false (0 == 0) (0 == 1)) noon) ∧
    Answers (exec (Instr.rflCommit false (1 == 0) (1 == 1)) (rad (fun r => { r with l2 := .rx, rxB := { r.rxB with frame := true } , rxA := { r.rxA with frame := true } }) (dL (d1 0x21 3) noon))) ∧
    Answers (exec (Instr.rflCommit false false false) noon) :=
  have hs1 := h.2.2.2.2.2.2.2
  have hs2 := hs1.2.2.2.2.2.2.2
  ⟨ans1 (all4 (h.1 noon false 0 0x21 ⟨(by decide +kernel), link_of (by decide +kernel)⟩) (by decide +kernel)),
   ans1 (all4 (h.2.1 noon false 0 0 ⟨(by decide +kernel), link_of (by decide +kernel)⟩) (by decide +kernel)),
   ans1 (h.2.2.1 (jb (dL (d1 0x1 3) noon)) false 0 0 ⟨(by decide +kernel), link_of (by decide +kernel)⟩ (by decide +kernel) (by decide +kernel)),
   ans1 (h.2.2.2.1 noon false 0 0x27 ⟨(by decide +kernel), link_of (by decide +kernel)⟩ (by decide +kernel)),
   ansE (h.2.2.2.2.1 noon false 0 false false ⟨(by decide +kernel), link_of (by decide +kernel)⟩ (by decide +kernel)),
   ansE (h.2.2.2.2.2.1 (dL ((txdAddr false 1 8, 5) :: d1 0x23 3) noon) false 1 false false ⟨(by decide +kernel), link_of (by decide +kernel)⟩ (by decide +kernel) (by decide +kernel)),
   ansE (all3 (h.2.2.2.2.2.2.1 (dL (d1 0x25 3) noon) false 1 false false ⟨(by decide +kernel), link_of (by decide +kernel)⟩) (by decide +kernel)),
   ans1 (hs1.1 (dH (dh 0x21 0) noon) true 1 false false ⟨⟨⟨(by decide +kernel), link_of (by decide +kernel)⟩, (by decide +kernel)⟩, (by decide +kernel)⟩ (by decide +kernel)),
   ans1 (hs1.2.1 (dL (d1 0x1 3) noon) false 1 false false ⟨⟨⟨(by decide +kernel), link_of (by decide +kernel)⟩, (by decide +kernel)⟩, (by decide +kernel)⟩ (by decide +kernel) (by decide +kernel)),
   ans1 (hs1.2.2.1 (jb (dL (d1 0x1 3) noon)) false 1 false false ⟨⟨(by decide +kernel), link_of (by decide +kernel)⟩, (by decide +kernel)⟩ (by decide +kernel)),
   ans1 (all3 (hs1.2.2.2.1 (rad (fun r => { r with bandL := { r.bandL with turn := true } }) (dL (d1 0x25 3) noon)) false 1 false false ⟨⟨⟨(by decide +kernel), link_of (by decide +kernel)⟩, (by decide +kernel)⟩, (by decide +kernel)⟩) (by decide +kernel)),
   ans1 (all3 (hs1.2.2.2.2.1 (dL (d1 0x21 3) noon) false 1 false false ⟨⟨(by decide +kernel), link_of (by decide +kernel)⟩, (by decide +kernel)⟩) (by decide +kernel)),
   ans1 (all3 (hs1.2.2.2.2.2.1 (dL (d1 0x21 3) noon) false 1 ⟨⟨(by decide +kernel), link_of (by decide +kernel)⟩, (by decide +kernel)⟩) (by decide +kernel)),
   ans2 (all5 (hs1.2.2.2.2.2.2.1 (rad (fun r => { r with l1 := .rx, l2 := .rx, rxB := { r.rxB with frame := true }, rxA := { r.rxA with frame := true } }) (dL (d1 0x31 3) noon)) false 1 ⟨⟨(by decide +kernel), link_of (by decide +kernel)⟩, (by decide +kernel)⟩) (by decide +kernel)),
   ans1 (all3 (hs2.1 (reg (dh 0x21 3) (rad (fun r => { r with hTx := .tx, bandH := { r.bandH with order := [1], sending := some 1 } }) noon)) true 0 1 ⟨(by decide +kernel), link_of (by decide +kernel)⟩) (by decide +kernel)),
   ans1 (all6 (hs2.2.1 (send ((0x40030068, 40) :: d1 0x7821 400) fun r => { r with mismatchRun := 2 }) 0 1 ⟨(by decide +kernel), link_of (by decide +kernel)⟩) (by decide +kernel)),
   ansE (hs2.2.2.1 noon false 0 ⟨(by decide +kernel), link_of (by decide +kernel)⟩ (by decide +kernel)),
   ans1 (hs2.2.2.2.1 noon false 0 ⟨(by decide +kernel), link_of (by decide +kernel)⟩ (by decide +kernel)),
   ans1 (hs2.2.2.2.2.1 (rad (fun r => { r with l2 := .rx, rxB := { r.rxB with frame := true } , rxA := { r.rxA with frame := true } }) (dL (d1 0x21 3) noon)) false 1 ⟨(by decide +kernel), link_of (by decide +kernel)⟩ (by decide +kernel)),
   ansE (hs2.2.2.2.2.2 noon false ⟨(by decide +kernel), link_of (by decide +kernel)⟩)⟩

end RadioTransmits

/-! Obligations.RadioReceives: its clauses are met, and what they say answers a next state. -/

namespace RadioReceives

def rxS : State := rxCfg 0 (0x100 + 512 * 2 + 2 * 2^17) (rxWin 0 (rad (fun r => { r with calDue := [] }) noon))
def fr (rx : Fin 3) (ok : Bool) (slot : Option (Fin 8)) : RxFrame := { rxf rx [1,2] slot with check := if ok then crc16Air [1,2] else 0, rssi := 77 }
def snf : Bytes := [1,7]
def dusk (s : State) : State := reg [(0x40030078, 5)] (pw (fun p => { p with state := .dusk }) s)
def cl (n : Nat) (s : State) : State := rad (fun r => { r with cal := some { kind := .full, meas := cal0, left := n }, calDue := [] }) s
def meas (b : List (Option (Nat × Bool))) (c : Bool) : RbeMeas := { ack := true, t0 := 77, bits := b, confirm := if c then some (zeros 8 ++ (cmac aesKey ([0x52, 0x42, 0x43] ++ le 8 9 ++ zeros 8 ++ zeros 8)).take 8) else none }

theorem test_radio_receives (h : Obligations.RadioReceives) :
    Answers (exec (Instr.rxFrame ({ fr 0 true none with ends := false })) rxS) ∧
    Answers (exec (Instr.rxFrame (fr 0 true (some 3))) rxS) ∧
    Answers (exec (Instr.rxFrame (fr 0 false none)) rxS) ∧
    Answers (exec (Instr.rxFrame (fr 0 true (some 3))) noon) ∧
    Answers (exec (Instr.rxWindowOpen 1) (reg [(rxAddr 1 0x10, 0x51)] noon)) ∧
    Answers (exec (Instr.rxWindowOpen 1) (reg [(rxAddr 1 0x10, 0x51)] (rad (fun r => { r with l1 := .cal, l2 := .cal }) noon))) ∧
    Answers (exec (Instr.rxWindowOpen 0) noon) ∧
    Answers (exec (Instr.rflCalStart false cal0) rxS) ∧
    Answers (exec (Instr.rflCalStart false cal0) noon) ∧
    Answers (step (cl 900 noon)) ∧
    Answers (step (cl 1 noon)) ∧
    Answers (exec (Instr.recalPend 0) (reg [(0x4003007C, 0), (0x40040058, 0)] noon)) ∧
    Answers (exec (Instr.recalPend 0) rxS) ∧
    Answers (exec (Instr.recalPend 0) noon) ∧
    Answers (exec (Instr.lockLoss 0 false) noon) ∧
    Answers (exec (Instr.lockLoss 0 true) noon) ∧
    Answers (exec (Instr.lockLoss 0 false) noon) ∧
    Answers (exec (Instr.lockLoss 0 false) ({ noon with rad := { noon.rad with l1 := .tx, bandL := { noon.rad.bandL with order := [1], sending := some 1 } } })) ∧
    Answers (exec (Instr.lockLoss 0 false) noon) ∧
    Answers (exec (Instr.failoverRetry 0 true) (rad (fun r => { r with syn1 := { r.syn1 with failed := true } }) noon)) ∧
    Answers (exec (Instr.failoverRetry 0 false) noon) ∧
    Answers (exec (Instr.mismatch 0 0) (rad (fun r => { r with sweepDue := some 2, mismatchRun := 4 }) (reg [(0x40030070, 30 * 2^18)] noon))) ∧
    Answers (exec (Instr.mismatch 0 0) noon) ∧
    Answers (exec (Instr.sniffPeriod (⟨200, .noSync⟩)) noon) ∧
    Answers (exec (Instr.sniffPeriod { level := 29, found := SniffFind.noSync }) (dusk noon)) ∧
    Answers (exec (Instr.sniffPeriod { level := 29, found := SniffFind.frame ([1,2]) 0 }) (dusk noon)) ∧
    Answers (exec (Instr.sniffPeriod { level := 29, found := SniffFind.frame snf (crc16Air snf) }) (dusk noon)) :=
  have hs1 := h.2.2.2.2.2.2.2
  have hs2 := hs1.2.2.2.2.2.2.2
  have hs3 := hs2.2.2.2.2.2.2.2
  ⟨ans1 (h.1 rxS ({ fr 0 true none with ends := false }) ⟨⟨(by decide +kernel), link_of (by decide +kernel)⟩, (by decide +kernel)⟩ (by decide +kernel)),
   ans1 (h.2.1 rxS (fr 0 true (some 3)) ⟨⟨(by decide +kernel), link_of (by decide +kernel)⟩, (by decide +kernel)⟩ (by decide +kernel) (by decide +kernel)),
   ans1 (h.2.2.1 rxS (fr 0 false none) ⟨⟨(by decide +kernel), link_of (by decide +kernel)⟩, (by decide +kernel)⟩ (by decide +kernel) (by decide +kernel)),
   ansE (h.2.2.2.1 noon (fr 0 true (some 3)) ⟨(by decide +kernel), link_of (by decide +kernel)⟩ (by decide +kernel)),
   ans1 (all3 (h.2.2.2.2.1 (reg [(rxAddr 1 0x10, 0x51)] noon) 1 ⟨(by decide +kernel), link_of (by decide +kernel)⟩) (by decide +kernel)),
   ans1 (all3 (h.2.2.2.2.2.1 (reg [(rxAddr 1 0x10, 0x51)] (rad (fun r => { r with l1 := .cal, l2 := .cal }) noon)) 1 ⟨(by decide +kernel), link_of (by decide +kernel)⟩) (by decide +kernel)),
   ansE (h.2.2.2.2.2.2.1 noon 0 ⟨(by decide +kernel), link_of (by decide +kernel)⟩ (by decide +kernel)),
   ansE (hs1.1 rxS false cal0 ⟨(by decide +kernel), link_of (by decide +kernel)⟩ (by decide +kernel)),
   ans2 (hs1.2.1 noon false cal0 ⟨(by decide +kernel), link_of (by decide +kernel)⟩ (by decide +kernel)),
   ans1 (hs1.2.2.1 (cl 900 noon) _ (by decide +kernel) (link_of (by decide +kernel)) (by decide +kernel) (some_of (by decide +kernel)) (by decide +kernel)),
   ans1 (all3 ((all6 (hs1.2.2.2.1 (cl 1 noon) _ (by decide +kernel) (link_of (by decide +kernel)) (by decide +kernel) (some_of (by decide +kernel))) (by decide +kernel))) (by decide +kernel)),
   ansE (hs1.2.2.2.2.1 (reg [(0x4003007C, 0), (0x40040058, 0)] noon) 0 ⟨(by decide +kernel), link_of (by decide +kernel)⟩ (by decide +kernel)),
   ans1 (all4 (hs1.2.2.2.2.2.1 rxS 0 ⟨(by decide +kernel), link_of (by decide +kernel)⟩) (by decide +kernel)),
   ans2 (all4 (hs1.2.2.2.2.2.2.1 noon 0 ⟨(by decide +kernel), link_of (by decide +kernel)⟩) (by decide +kernel)),
   ans1 (hs2.1 noon 0 false ⟨(by decide +kernel), link_of (by decide +kernel)⟩),
   ans1 (hs2.2.1 noon 0 ⟨(by decide +kernel), link_of (by decide +kernel)⟩ (by decide +kernel) (by decide +kernel)),
   ans1 (hs2.2.2.1 noon 0 ⟨(by decide +kernel), link_of (by decide +kernel)⟩ (by decide +kernel) (by decide +kernel)),
   ans1 (hs2.2.2.2.1 ({ noon with rad := { noon.rad with l1 := .tx, bandL := { noon.rad.bandL with order := [1], sending := some 1 } } }) 0 1 false ⟨(by decide +kernel), link_of (by decide +kernel)⟩ (by decide +kernel) (by decide +kernel)),
   ans1 (hs2.2.2.2.2.1 noon 0 0 false ⟨(by decide +kernel), link_of (by decide +kernel)⟩ (by decide +kernel)),
   ans1 (hs2.2.2.2.2.2.1 (rad (fun r => { r with syn1 := { r.syn1 with failed := true } }) noon) 0 ⟨(by decide +kernel), link_of (by decide +kernel)⟩ (by decide +kernel) (by decide +kernel)),
   ansE (hs2.2.2.2.2.2.2.1 noon 0 false ⟨(by decide +kernel), link_of (by decide +kernel)⟩ (by decide +kernel)),
   ans1 (hs3.1 (rad (fun r => { r with sweepDue := some 2, mismatchRun := 4 }) (reg [(0x40030070, 30 * 2^18)] noon)) 0 0 2 ⟨(by decide +kernel), link_of (by decide +kernel)⟩ (by decide +kernel) (by decide +kernel)),
   ansE (hs3.2.1 noon 0 0 ⟨(by decide +kernel), link_of (by decide +kernel)⟩ (by decide +kernel)),
   ansE (hs3.2.2.1 noon (⟨200, .noSync⟩) (link_of (by decide +kernel)) (by decide +kernel)),
   ans1 (hs3.2.2.2.1 (dusk noon) 29 ⟨(link_of (by decide +kernel)), (by decide +kernel)⟩),
   ans1 (hs3.2.2.2.2.1 (dusk noon) 29 ([1,2]) 0 ⟨(link_of (by decide +kernel)), (by decide +kernel)⟩ (by decide +kernel)),
   ans1 (hs3.2.2.2.2.2 (dusk noon) 29 snf (crc16Air snf) ⟨(link_of (by decide +kernel)), (by decide +kernel)⟩ (by decide +kernel))⟩

end RadioReceives

/-! Obligations.RangingEvents: its clauses are met, and what they say answers a next state. -/

namespace RangingEvents

def KT : State := keyed [tok 5 .active .t3 false]
def x0 : RbeRun := { record := some 5, unit := none, nonceR := 9, started := false, retried := false }
def rbe (x : RbeRun) (r : Option (Quad × Quad)) : State := reg [(0x40050020, 0x00010004), (0x40050030, 0), (0x40050034, 0)] (rng (fun g => { g with rbe := some x, resp := r }) (rad (fun r => { r with isoLow := false }) KT))
def xs : RbeRun := { x0 with started := true }
def kf : Nat := kfix KT
def meas (b : List (Option (Nat × Bool))) (c : Bool) : RbeMeas := { ack := true, t0 := 77, bits := b, confirm := if c then some (zeros 8 ++ (cmac aesKey ([0x52, 0x42, 0x43] ++ le 8 9 ++ zeros 8 ++ zeros 8)).take 8) else none }
def ok4 : List (Option (Nat × Bool)) := List.replicate 4 (some (kf + 58, false))
def sess : State := slots [keySlot 0 1 0x7F 0 aesKey, keySlot 1 1 0x7F 0 aesKey, keySlot 2 1 0x7F 0 aesKey] (regPutFld 0x40050000 0 1 1 (asTrailer (keysOpen noon)))
def mcpS : State := rng (fun g => { g with mcp := some 5, mcpNonce := 3 }) (reg [(0x40050080, 3), (0x40050084, 1), (0x40050090, 1)] KT)
def sm1 : IqSample := { bandH := true, tone := 3, dir := 1, path := 2, n := 5, iq := 0x12345678 }
def heard : RbeHeard := { nonce := 7, fIdx := 3, nbits := 32, chal := 0x123456789 }
def mm (a : Bool) (r : Option Bytes) : McpMeas := { ack := a, report := r, h := 100, hq := 200, l := 120, lq := 1, iq := [] }

theorem test_ranging_events (h : Obligations.RangingEvents) :
    Answers (exec (Instr.rbeExchangeStart 0x80000020) (rbe x0 (some (0, 0)))) ∧
    Answers (exec (Instr.rbeExchangeStart 0x80000020) (rbe x0 none)) ∧
    Answers (exec (Instr.rbeExchangeStart 0x80000020) (rad (fun r => { r with isoLow := true }) (rbe x0 (some (0,0))))) ∧
    Answers (exec (Instr.rbeExchangeStart 0x80000000) (rbe x0 (some (0, 0)))) ∧
    Answers (exec (Instr.rbeExchangeStart 0x80000004) noon) ∧
    Answers (exec (Instr.rbeExchangeStart 0x20) noon) ∧
    Answers (exec (Instr.rbeExchangeDone (meas ok4 true)) noon) ∧
    Answers (exec (Instr.rbeExchangeDone ({ meas ok4 true with ack := false })) (rbe xs (some (0, 0)))) ∧
    Answers (exec (Instr.rbeExchangeDone (meas ok4 true)) (rbe xs (some (0, 0)))) ∧
    Answers (exec (Instr.rngAbort) (rbe xs (some (0, 0)))) ∧
    Answers (exec (Instr.rngAbort) noon) ∧
    Answers (exec (Instr.rngRbeKeyld .host) noon) ∧
    Answers (exec (Instr.rngRbeKeyld (Requester.engine 5)) noon) ∧
    Answers (exec (Instr.respArm 0 heard) (regPutFld 0x40050000 0 1 1 sess)) ∧
    Answers (exec (Instr.respArm 0 heard) noon) ∧
    Answers (exec (Instr.mcpEventStart) (decF (fun d => { d with mcpTodo := [5, 6] }) KT)) ∧
    Answers (exec (Instr.mcpEventDone ({ mm true none with iq := [sm1] }) none) (rng (fun g => { g with slots := 8 }) (reg [(0x40050084, 8), (0x40050094, 0)] mcpS))) ∧
    Answers (exec (Instr.mcpEventStart) mcpS) ∧
    Answers (exec (Instr.mcpEventDone (mm false none) none) noon) ∧
    Answers (exec (Instr.mcpEventDone (mm false none) none) mcpS) ∧
    Answers (exec (Instr.csProcedureDone 5 (⟨some 300, [1,2,3,4], []⟩)) (rng (fun g => { g with cs := some 5 }) noon)) ∧
    Answers (exec (Instr.csProcedureDone 5 (⟨some 300, [1,2,3,4], []⟩)) noon) :=
  have hs1 := h.2.2.2.2.2.2.2
  have hs2 := hs1.2.2.2.2.2.2.2
  have hs3 := hs2.2.2.2.2.2.2.2
  ⟨ans1 (all6 (h.1 (rbe x0 (some (0, 0))) 0x80000020 _ ⟨⟨(by decide +kernel), link_of (by decide +kernel)⟩, ⟨(some_of (by decide +kernel)), (by decide +kernel)⟩⟩) (by decide +kernel)),
   ans1 (all6 (h.2.1 (rbe x0 none) 0x80000020 _ ⟨⟨(by decide +kernel), link_of (by decide +kernel)⟩, ⟨(some_of (by decide +kernel)), (by decide +kernel)⟩⟩) (by decide +kernel)),
   ans1 (all5 (h.2.2.1 (rad (fun r => { r with isoLow := true }) (rbe x0 (some (0,0)))) 0x80000020 _ ⟨⟨(by decide +kernel), link_of (by decide +kernel)⟩, ⟨(some_of (by decide +kernel)), (by decide +kernel)⟩⟩) (by decide +kernel)),
   ans1 (all4 (h.2.2.2.1 (rbe x0 (some (0, 0))) 0x80000000 _ ⟨⟨(by decide +kernel), link_of (by decide +kernel)⟩, ⟨(some_of (by decide +kernel)), (by decide +kernel)⟩⟩) (by decide +kernel)),
   ans1 (h.2.2.2.2.1 noon 0x80000004 ⟨(by decide +kernel), link_of (by decide +kernel)⟩ (by decide +kernel)),
   ans1 (h.2.2.2.2.2.1 noon 0x20 ⟨(by decide +kernel), link_of (by decide +kernel)⟩ (by decide +kernel) (by decide +kernel)),
   ansE (h.2.2.2.2.2.2.1 noon (meas ok4 true) ⟨(by decide +kernel), link_of (by decide +kernel)⟩ (by decide +kernel)),
   ans1 (hs1.1 (rbe xs (some (0, 0))) ({ meas ok4 true with ack := false }) _ ⟨⟨⟨(by decide +kernel), link_of (by decide +kernel)⟩, ⟨(some_of (by decide +kernel)), (by decide +kernel)⟩⟩, (by decide +kernel)⟩ (by decide +kernel)),
   ans1 (hs1.2.1 (rbe xs (some (0, 0))) (meas ok4 true) _ _ ⟨⟨⟨(by decide +kernel), link_of (by decide +kernel)⟩, ⟨(some_of (by decide +kernel)), (by decide +kernel)⟩⟩, (by decide +kernel)⟩ (by decide +kernel) (some_of (by decide +kernel))).2.2.2.2.2,
   ans1 (hs1.2.2.1 (rbe xs (some (0, 0))) _ ⟨⟨(by decide +kernel), link_of (by decide +kernel)⟩, ⟨(some_of (by decide +kernel)), (by decide +kernel)⟩⟩ (by decide +kernel)),
   ansE (hs1.2.2.2.1 noon ⟨(by decide +kernel), link_of (by decide +kernel)⟩ (by decide +kernel)),
   ans1 (hs1.2.2.2.2.1 noon .host ⟨(by decide +kernel), link_of (by decide +kernel)⟩ (by decide +kernel)),
   ansE (hs1.2.2.2.2.2.2.1 noon ⟨(by decide +kernel), link_of (by decide +kernel)⟩ (by decide +kernel)),
   ans1 (hs2.1 (regPutFld 0x40050000 0 1 1 sess) 0 heard _ ⟨(by decide +kernel), link_of (by decide +kernel)⟩ (some_of (by decide +kernel)) (by decide +kernel) (by decide +kernel)),
   ansE (hs2.2.1 noon 0 heard ⟨(by decide +kernel), link_of (by decide +kernel)⟩ (by decide +kernel)),
   ans1 (hs2.2.2.1 (decF (fun d => { d with mcpTodo := [5, 6] }) KT) _ _ _ ⟨(by decide +kernel), link_of (by decide +kernel)⟩ (by decide +kernel) (some_of (by decide +kernel)) (cons_of (by decide +kernel))),
   ans1 (all5 (hs2.2.2.2.1 (rng (fun g => { g with slots := 8 }) (reg [(0x40050084, 8), (0x40050094, 0)] mcpS)) ({ mm true none with iq := [sm1] }) none _ _ 0 ⟨(by decide +kernel), link_of (by decide +kernel)⟩ (some_of (by decide +kernel)) (by decide +kernel) (cons_of (by decide +kernel))) (by decide +kernel)),
   ans1 (hs2.2.2.2.2.1 mcpS ⟨(by decide +kernel), link_of (by decide +kernel)⟩ (by decide +kernel)),
   ansE (hs2.2.2.2.2.2.1 noon (mm false none) none ⟨(by decide +kernel), link_of (by decide +kernel)⟩ (by decide +kernel)),
   ans1 (hs2.2.2.2.2.2.2.1 mcpS (mm false none) none _ ⟨(by decide +kernel), link_of (by decide +kernel)⟩ (some_of (by decide +kernel)) (by decide +kernel) (by decide +kernel)),
   ans1 (all3 (hs3.2.1 (rng (fun g => { g with cs := some 5 }) noon) 5 (⟨some 300, [1,2,3,4], []⟩) ⟨(by decide +kernel), link_of (by decide +kernel)⟩) (by decide +kernel)),
   ansE (hs3.2.2 noon 5 (⟨some 300, [1,2,3,4], []⟩) ⟨(by decide +kernel), link_of (by decide +kernel)⟩ (by decide +kernel) (by decide +kernel))⟩

end RangingEvents

/-! Obligations.CouplingHandshake: its clauses are met, and what they say answers a next state. -/

namespace CouplingHandshake

def cTrailer : Bytes := be 148 0x01020000887766554433221100000000443322118e533b6fa0bf7b4625bb30667c01fb607ef9f8b8a80fef5b300628703187b2a373eb1dbde03318366d069f83a6f5900053c73633cb041b21c55e1a86c1f400b4d96248881cf6129d1c98a822f4dbac476a7705307ba301b006bbb2e6c8466b65d96248881cf6129d1c98a822f4dbac476a7705307ba301b006bbb2e6c8466b65
def cTrailerA : Bytes := be 64 0xf5dbc787ce917fd68782b33db6e1a9ac7ce4d581692b749842d0430c3cde7b51c3c4e7b39ce34484de574b27fc16759f49e6bf12583fe1ec64542a8aed72e235
def cTractor : Bytes := be 148 0x01010000887766554433221100000000443322118e533b6fa0bf7b4625bb30667c01fb607ef9f8b8a80fef5b300628703187b2a373eb1dbde03318366d069f83a6f5900053c73633cb041b21c55e1a86c1f400b49426543bff796d6423eb10dda129d788db2594648263cb050b8efbbc015c02519426543bff796d6423eb10dda129d788db2594648263cb050b8efbbc015c0251
def cTractorA : Bytes := be 64 0x9faa934db8969b5289a8fdf56289bf51d1d7a1f74d57f810673bbb309f7ee19feb9fe8fef70b6048d0990a5fcfcf256c772473af2b879fdb223e7a76d1acea17
def ac (pub : Bytes) (s : State) : State := { s with ks := { s.ks with anchors := [{ index := 0, keyId := 0x11223344, valid := true, pub := pub }] } }
def cu (f : Coupling → Coupling) (s : State) : State := modUnit 1 f s
def sk (s : State) : State := slots [keySlot 0 1 4 0 aesKey, keySlot 1 2 20 0 (aesKey ++ aesKey), keySlot 2 1 4 0 aesKey] s
def kp : State := handle 192 (mkBlob (keysOpen noon) (hdr 4 0x7F 0) (be 32 7)) (keysOpen noon)
def own (c : Bytes) (s : State) : State := { s with cpl := { s.cpl with cert := c } }
def TRC : State := reg [(0x40070000, 0x40)] (asTractor (ac cTrailerA (own cTractor kp)))
def TRL : State := reg [(0x40070000, 0x40)] (asTrailer (ac cTractorA (own cTrailer kp)))
def hs (w : CplWait) (s : State) : State := cu (fun c => { c with state := .handshake, waiting := w }) s
def tru (s : State) : State := cu (fun c => { c with state := .trusted, linkUp := true, cls := 1, boundary := 6 }) s
def pd (pl : Bytes) (fl : Byte := 0) (seq : Half := 0) : CplPdu := { unit := 0, j2497 := false, flags := fl, seq := seq, payload := pl, mac := [] }
def hl (ax : Nat) : Bytes := zeros 16 ++ [2, 1, 3, byte ax]

theorem test_coupling_handshake (h : Obligations.CouplingHandshake) :
    Answers (exec ((Instr.hello) (pd (hl 3))) noon) ∧
    Answers (exec ((Instr.hello) (pd (zeros 2041))) (pw (fun p => { p with state := .dusk }) TRC)) ∧
    Answers (exec ((Instr.hello) (pd [1] 1)) (pw (fun p => { p with state := .dusk }) TRC)) ∧
    Answers (exec (Instr.hello (pd [1])) (pw (fun p => { p with state := .dusk }) TRC)) ∧
    Answers (exec (Instr.hello ({ pd (hl 3) with j2497 := true })) (hs .hello (reg [(0x40070000, 0x50)] TRL))) ∧
    Answers (exec (Instr.hello (pd (hl 3))) (hs .hello (reg [(0x40070000, 0x70)] TRC))) ∧
    Answers (exec (Instr.hello (pd (hl 9))) (hs .hello (reg [(0x40070000, 0x70)] TRC))) ∧
    Answers (exec (Instr.hello (pd (hl 3))) (tru (sk TRC))) :=
  have hs1 := h.2.2.2.2.2.2.2
  ⟨ansE (h.1 ((1, Instr.hello)) (by first | decide +kernel | simp) noon (pd (hl 3)) (link_of (by decide +kernel)) (by first | decide +kernel | simp)),
   ans1 ((all3 (h.2.1 ((1, Instr.hello)) (by first | decide +kernel | simp) (pw (fun p => { p with state := .dusk }) TRC) (pd (zeros 2041)) (link_of (by decide +kernel))) (by decide +kernel)) (by first | decide +kernel | simp)),
   ans1 ((all6 (h.2.2.1 ((1, Instr.hello)) (by first | decide +kernel | simp) (pw (fun p => { p with state := .dusk }) TRC) (pd [1] 1) (link_of (by decide +kernel))) (by decide +kernel)) (by first | decide +kernel | simp)),
   ans1 (h.2.2.2.1 (pw (fun p => { p with state := .dusk }) TRC) (pd [1]) (pdu_of (by decide +kernel)) (by decide +kernel)),
   ans1 (all6 (h.2.2.2.2.1 (hs .hello (reg [(0x40070000, 0x50)] TRL)) ({ pd (hl 3) with j2497 := true }) (pdu_of (by decide +kernel))) (by decide +kernel)),
   ans1 (all6 (h.2.2.2.2.2.1 (hs .hello (reg [(0x40070000, 0x70)] TRC)) (pd (hl 3)) (pdu_of (by decide +kernel))) (by decide +kernel)),
   ans1 (all5 (h.2.2.2.2.2.2.1 (hs .hello (reg [(0x40070000, 0x70)] TRC)) (pd (hl 9)) (pdu_of (by decide +kernel))) (by decide +kernel)),
   ans1 (all3 (hs1.2.1 (tru (sk TRC)) (pd (hl 3)) (pdu_of (by decide +kernel))) (by decide +kernel))⟩

end CouplingHandshake

/-! Obligations.CouplingHandshake: its clauses are met, and what they say answers a next state. -/

namespace CouplingHandshakeB

def cTrailer : Bytes := be 148 0x01020000887766554433221100000000443322118e533b6fa0bf7b4625bb30667c01fb607ef9f8b8a80fef5b300628703187b2a373eb1dbde03318366d069f83a6f5900053c73633cb041b21c55e1a86c1f400b4d96248881cf6129d1c98a822f4dbac476a7705307ba301b006bbb2e6c8466b65d96248881cf6129d1c98a822f4dbac476a7705307ba301b006bbb2e6c8466b65
def cTrailerA : Bytes := be 64 0xf5dbc787ce917fd68782b33db6e1a9ac7ce4d581692b749842d0430c3cde7b51c3c4e7b39ce34484de574b27fc16759f49e6bf12583fe1ec64542a8aed72e235
def cTractor : Bytes := be 148 0x01010000887766554433221100000000443322118e533b6fa0bf7b4625bb30667c01fb607ef9f8b8a80fef5b300628703187b2a373eb1dbde03318366d069f83a6f5900053c73633cb041b21c55e1a86c1f400b49426543bff796d6423eb10dda129d788db2594648263cb050b8efbbc015c02519426543bff796d6423eb10dda129d788db2594648263cb050b8efbbc015c0251
def cTractorA : Bytes := be 64 0x9faa934db8969b5289a8fdf56289bf51d1d7a1f74d57f810673bbb309f7ee19feb9fe8fef70b6048d0990a5fcfcf256c772473af2b879fdb223e7a76d1acea17
def ac (pub : Bytes) (s : State) : State := { s with ks := { s.ks with anchors := [{ index := 0, keyId := 0x11223344, valid := true, pub := pub }] } }
def cu (f : Coupling → Coupling) (s : State) : State := modUnit 1 f s
def kp : State := handle 192 (mkBlob (keysOpen noon) (hdr 4 0x7F 0) (be 32 7)) (keysOpen noon)
def own (c : Bytes) (s : State) : State := { s with cpl := { s.cpl with cert := c } }
def TRC : State := reg [(0x40070000, 0x40)] (asTractor (ac cTrailerA (own cTractor kp)))
def TRL : State := reg [(0x40070000, 0x40)] (asTrailer (ac cTractorA (own cTrailer kp)))
def hs (w : CplWait) (s : State) : State := cu (fun c => { c with state := .handshake, waiting := w }) s
def pd (pl : Bytes) (fl : Byte := 0) (seq : Half := 0) : CplPdu := { unit := 0, j2497 := false, flags := fl, seq := seq, payload := pl, mac := [] }
def hl (ax : Nat) : Bytes := zeros 16 ++ [2, 1, 3, byte ax]
def ksT (s : State) : State := cu (fun c => { c with peerCert := cTrailer, ephD := 1, ownEph := pubOf 1, ownCert := cTractor, ownHello := hl 2, peerHello := hl 3 }) (hs .keyshare s)

theorem test_coupling_handshake_b (h : Obligations.CouplingHandshake) :
    Answers (exec (Instr.cert (pd cTrailer)) TRC) ∧
    Answers (exec (Instr.cert (pd cTractor)) (hs .cert TRC)) ∧
    Answers (exec (Instr.cert (pd cTractor)) (hs .cert TRL)) ∧
    Answers (exec (Instr.keyshare (pd cTrailer)) TRC) ∧
    Answers (exec (Instr.keyshare (pd cTrailer)) (ksT TRC)) :=
  have hs1 := h.2.2.2.2.2.2.2
  have hs2 := hs1.2.2.2.2.2.2.2
  ⟨ans1 (hs1.2.2.1 TRC (pd cTrailer) (pdu_of (by decide +kernel)) (by decide +kernel)),
   ans1 (hs1.2.2.2.1 (hs .cert TRC) (pd cTractor) _ (pdu_of (by decide +kernel)) (by decide +kernel) (err_of (by decide +kernel))),
   ans1 (hs1.2.2.2.2.1 (hs .cert TRL) (pd cTractor) _ (pdu_of (by decide +kernel)) (by decide +kernel) (ok_of (by decide +kernel)) (by decide +kernel) (by decide +kernel)),
   ans1 (hs1.2.2.2.2.2.2.1 TRC (pd cTrailer) (pdu_of (by decide +kernel)) (by decide +kernel)),
   ans1 (all3 (hs2.1 (ksT TRC) (pd cTrailer) (pdu_of (by decide +kernel))) (by decide +kernel))⟩

end CouplingHandshakeB

/-! Obligations.CouplingHandshake: its clauses are met, and what they say answers a next state. -/

namespace CouplingHandshakeC

def cTrailer : Bytes := be 148 0x01020000887766554433221100000000443322118e533b6fa0bf7b4625bb30667c01fb607ef9f8b8a80fef5b300628703187b2a373eb1dbde03318366d069f83a6f5900053c73633cb041b21c55e1a86c1f400b4d96248881cf6129d1c98a822f4dbac476a7705307ba301b006bbb2e6c8466b65d96248881cf6129d1c98a822f4dbac476a7705307ba301b006bbb2e6c8466b65
def cTrailerA : Bytes := be 64 0xf5dbc787ce917fd68782b33db6e1a9ac7ce4d581692b749842d0430c3cde7b51c3c4e7b39ce34484de574b27fc16759f49e6bf12583fe1ec64542a8aed72e235
def cTractor : Bytes := be 148 0x01010000887766554433221100000000443322118e533b6fa0bf7b4625bb30667c01fb607ef9f8b8a80fef5b300628703187b2a373eb1dbde03318366d069f83a6f5900053c73633cb041b21c55e1a86c1f400b49426543bff796d6423eb10dda129d788db2594648263cb050b8efbbc015c02519426543bff796d6423eb10dda129d788db2594648263cb050b8efbbc015c0251
def cTractorA : Bytes := be 64 0x9faa934db8969b5289a8fdf56289bf51d1d7a1f74d57f810673bbb309f7ee19feb9fe8fef70b6048d0990a5fcfcf256c772473af2b879fdb223e7a76d1acea17
def ac (pub : Bytes) (s : State) : State := { s with ks := { s.ks with anchors := [{ index := 0, keyId := 0x11223344, valid := true, pub := pub }] } }
def cu (f : Coupling → Coupling) (s : State) : State := modUnit 1 f s
def sk (s : State) : State := slots [keySlot 0 1 4 0 aesKey, keySlot 1 2 20 0 (aesKey ++ aesKey), keySlot 2 1 4 0 aesKey] s
def kp : State := handle 192 (mkBlob (keysOpen noon) (hdr 4 0x7F 0) (be 32 7)) (keysOpen noon)
def own (c : Bytes) (s : State) : State := { s with cpl := { s.cpl with cert := c } }
def TRC : State := reg [(0x40070000, 0x40)] (asTractor (ac cTrailerA (own cTractor kp)))
def TRL : State := reg [(0x40070000, 0x40)] (asTrailer (ac cTractorA (own cTrailer kp)))
def hs (w : CplWait) (s : State) : State := cu (fun c => { c with state := .handshake, waiting := w }) s
def pd (pl : Bytes) (fl : Byte := 0) (seq : Half := 0) : CplPdu := { unit := 0, j2497 := false, flags := fl, seq := seq, payload := pl, mac := [] }
def pm (ty : Nat) (pl : Bytes) (seq : Half := 0) (fl : Byte := 2) : CplPdu :=
  let p := pd pl fl seq
  { p with mac := (cmac aesKey (cplPduHead ty p)).take 8 }
def cfS (s : State) : State := sk (cu (fun c => { c with peerCert := cTrailer, transcript := [1,2,3] }) (hs .confirm s))
def cfT (r : Nat) : Bytes := confirmTag aesKey [1,2,3] r

theorem test_coupling_handshake_c (h : Obligations.CouplingHandshake) :
    Answers (exec (Instr.confirm (pm 4 (cfT 2))) (sk TRC)) ∧
    Answers (exec (Instr.confirm (pm 4 [1])) (cfS TRC)) ∧
    Answers (exec (Instr.confirm (pm 4 (cfT 2))) (cfS TRC)) ∧
    Answers (exec (Instr.rbeArm (pm 5 (zeros 12))) (sk (hs .rbePartner TRC))) ∧
    Answers (exec (Instr.rbeArm (pm 5 (zeros 12))) (sk (cu (fun c => { c with state := .trusted, boundary := 6 }) TRL))) ∧
    Answers (exec (Instr.rbeArm (pm 5 (zeros 12))) (sk TRC)) ∧
    Answers (exec (Instr.rbeResult (pm 6 [1])) (sk TRC)) ∧
    Answers (exec (Instr.rbeResult (pm 6 [5, 255, 255])) (sk (hs .rbePartner TRC))) ∧
    Answers (exec (Instr.rbeResult (pm 6 [1, 5, 0])) (sk (cu (fun c => { c with ownPass := true }) (hs .rbePartner TRC)))) ∧
    Answers (exec (Instr.rbeResult (pm 6 [1, 5, 0])) (sk (hs .rbePartner TRC))) :=
  have hs1 := h.2.2.2.2.2.2.2
  have hs2 := hs1.2.2.2.2.2.2.2
  have hs3 := hs2.2.2.2.2.2.2.2
  ⟨ans1 (hs2.2.2.1 (sk TRC) (pm 4 (cfT 2)) (pdu_of (by decide +kernel)) (by decide +kernel)),
   ans1 (hs2.2.2.2.1 (cfS TRC) (pm 4 [1]) _ (pdu_of (by decide +kernel)) (by decide +kernel) (some_of (by decide +kernel)) (by decide +kernel)).1,
   ans1 (hs2.2.2.2.2.1 (cfS TRC) (pm 4 (cfT 2)) _ (pdu_of (by decide +kernel)) (by decide +kernel) (some_of (by decide +kernel)) (by decide +kernel) (by decide +kernel) rfl),
   ans1 (hs2.2.2.2.2.2.1 (sk (hs .rbePartner TRC)) (pm 5 (zeros 12)) (pdu_of (by decide +kernel)) (by decide +kernel) (by decide +kernel)),
   ans1 (all4 (hs2.2.2.2.2.2.2.1 (sk (cu (fun c => { c with state := .trusted, boundary := 6 }) TRL)) (pm 5 (zeros 12)) (pdu_of (by decide +kernel))) (by decide +kernel)),
   ans1 (hs3.1 (sk TRC) (pm 5 (zeros 12)) (pdu_of (by decide +kernel)) (by decide +kernel)),
   ans1 (hs3.2.1 (sk TRC) (pm 6 [1]) (pdu_of (by decide +kernel)) (by decide +kernel)),
   ans1 (hs3.2.2.1 (sk (hs .rbePartner TRC)) (pm 6 [5, 255, 255]) _ (pdu_of (by decide +kernel)) (by decide +kernel) (by decide +kernel) (err_of (by decide +kernel))),
   ans1 (all4 (hs3.2.2.2.1 (sk (cu (fun c => { c with ownPass := true }) (hs .rbePartner TRC))) (pm 6 [1, 5, 0]) _ (pdu_of (by decide +kernel)) (by decide +kernel) (by decide +kernel) (ok_of (by decide +kernel))) (by decide +kernel)),
   ans1 (all5 (hs3.2.2.2.2 (sk (hs .rbePartner TRC)) (pm 6 [1, 5, 0]) _ (pdu_of (by decide +kernel)) (by decide +kernel) (by decide +kernel) (ok_of (by decide +kernel))) (by decide +kernel))⟩

end CouplingHandshakeC

/-! Obligations.CouplingService: its clauses are met, and what they say answers a next state. -/

namespace CouplingService

def cTrailer : Bytes := be 148 0x01020000887766554433221100000000443322118e533b6fa0bf7b4625bb30667c01fb607ef9f8b8a80fef5b300628703187b2a373eb1dbde03318366d069f83a6f5900053c73633cb041b21c55e1a86c1f400b4d96248881cf6129d1c98a822f4dbac476a7705307ba301b006bbb2e6c8466b65d96248881cf6129d1c98a822f4dbac476a7705307ba301b006bbb2e6c8466b65
def cTrailerA : Bytes := be 64 0xf5dbc787ce917fd68782b33db6e1a9ac7ce4d581692b749842d0430c3cde7b51c3c4e7b39ce34484de574b27fc16759f49e6bf12583fe1ec64542a8aed72e235
def cTractor : Bytes := be 148 0x01010000887766554433221100000000443322118e533b6fa0bf7b4625bb30667c01fb607ef9f8b8a80fef5b300628703187b2a373eb1dbde03318366d069f83a6f5900053c73633cb041b21c55e1a86c1f400b49426543bff796d6423eb10dda129d788db2594648263cb050b8efbbc015c02519426543bff796d6423eb10dda129d788db2594648263cb050b8efbbc015c0251
def cTractorA : Bytes := be 64 0x9faa934db8969b5289a8fdf56289bf51d1d7a1f74d57f810673bbb309f7ee19feb9fe8fef70b6048d0990a5fcfcf256c772473af2b879fdb223e7a76d1acea17
def ac (pub : Bytes) (s : State) : State := { s with ks := { s.ks with anchors := [{ index := 0, keyId := 0x11223344, valid := true, pub := pub }] } }
def cu (f : Coupling → Coupling) (s : State) : State := modUnit 1 f s
def sk (s : State) : State := slots [keySlot 0 1 4 0 aesKey, keySlot 1 2 20 0 (aesKey ++ aesKey), keySlot 2 1 4 0 aesKey] s
def kp : State := handle 192 (mkBlob (keysOpen noon) (hdr 4 0x7F 0) (be 32 7)) (keysOpen noon)
def own (c : Bytes) (s : State) : State := { s with cpl := { s.cpl with cert := c } }
def TRC : State := reg [(0x40070000, 0x40)] (asTractor (ac cTrailerA (own cTractor kp)))
def TRL : State := reg [(0x40070000, 0x40)] (asTrailer (ac cTractorA (own cTrailer kp)))
def hs (w : CplWait) (s : State) : State := cu (fun c => { c with state := .handshake, waiting := w }) s
def tru (s : State) : State := cu (fun c => { c with state := .trusted, linkUp := true, cls := 1, boundary := 6 }) s
def pd (pl : Bytes) (fl : Byte := 0) (seq : Half := 0) : CplPdu := { unit := 0, j2497 := false, flags := fl, seq := seq, payload := pl, mac := [] }
def pm (ty : Nat) (pl : Bytes) (seq : Half := 0) (fl : Byte := 2) : CplPdu :=
  let p := pd pl fl seq
  { p with mac := (cmac aesKey (cplPduHead ty p)).take 8 }
def ent (id : Nat) : Bytes := le 4 id ++ [1, 2, 3, 4] ++ zeros 24
def gr (q : Nat) : Bytes := zeros 12 ++ le 4 q ++ [0]

theorem test_coupling_service (h : Obligations.CouplingService) :
    Answers (exec (Instr.roster (pm 7 [1,0,5,0])) (tru (sk TRL))) ∧
    Answers (exec (Instr.roster (pm 7 [1,2,3])) (tru (sk TRC))) ∧
    Answers (exec (Instr.roster (pm 7 [1,0,5,0])) (tru (sk TRC))) ∧
    Answers (exec (Instr.roster (pm 7 ([1,1,5,0] ++ ent 77))) (tru (sk TRC))) ∧
    Answers (exec (Instr.rosterAck (pm 8 [0,1,1])) (tru (sk TRC))) ∧
    Answers (exec (Instr.rosterAck (pm 8 [0,1,1])) (cu (fun c => { c with waiting := .rosterAck }) (tru (sk TRL)))) ∧
    Answers (exec (Instr.driverGrant (pm 9 (gr 5))) (w3 (tru (sk TRL)))) ∧
    Answers (exec (Instr.driverGrant (pm 9 (gr 5))) (tru (sk TRL))) ∧
    Answers (exec (Instr.driverGrant (pm 9 (gr 4))) (rel id (cu (fun c => { c with grantSeq := 4 }) (tru (sk TRL))))) ∧
    Answers (exec (Instr.driverGrant (pm 9 (gr 5))) (tru (sk TRC))) ∧
    Answers (exec (Instr.driverLeft (pm 10 [0,0,0,0])) (rel id (cu (fun c => { c with grantSeq := 4 }) (tru (sk TRL))))) ∧
    Answers (exec (Instr.driverLeft (pm 10 [0,0,0,0])) (tru (sk TRC))) ∧
    Answers (exec (Instr.bye (pm 12 [9])) (hs .cert (sk TRC))) ∧
    Answers (exec (Instr.bye (pm 12 [0])) (hs .cert (sk TRC))) ∧
    Answers (exec (Instr.bye (pm 12 [3])) (tru (sk TRC))) ∧
    Answers (exec (Instr.bye (pm 12 [9])) (tru (sk TRC))) ∧
    Answers (exec (Instr.bye (pm 12 [9])) (sk TRC)) :=
  have hs1 := h.2.2.2.2.2.2.2
  have hs2 := hs1.2.2.2.2.2.2.2
  ⟨ans1 (h.1 (tru (sk TRL)) (pm 7 [1,0,5,0]) (pdu_of (by decide +kernel)) (by decide +kernel)),
   ans1 (h.2.1 (tru (sk TRC)) (pm 7 [1,2,3]) ⟨(pdu_of (by decide +kernel)), (by decide +kernel)⟩ (by decide +kernel)),
   ans1 (h.2.2.1 (tru (sk TRC)) (pm 7 [1,0,5,0]) 1 5 _ ⟨(pdu_of (by decide +kernel)), (by decide +kernel)⟩ (by decide +kernel) (by decide +kernel) (some_of (by decide +kernel))),
   ans2 ((all4 (h.2.2.2.1 (tru (sk TRC)) (pm 7 ([1,1,5,0] ++ ent 77)) 1 5 (ent 77) _ _ ⟨(pdu_of (by decide +kernel)), (by decide +kernel)⟩) (by decide +kernel)) (some_of (by decide +kernel)) (by decide +kernel) (some_of (by decide +kernel))),
   ans1 (h.2.2.2.2.1 (tru (sk TRC)) (pm 8 [0,1,1]) (pdu_of (by decide +kernel)) (by decide +kernel)),
   ans1 (all3 (h.2.2.2.2.2.1 (cu (fun c => { c with waiting := .rosterAck }) (tru (sk TRL))) (pm 8 [0,1,1]) (pdu_of (by decide +kernel))) (by decide +kernel)),
   ans1 (all3 ((all6 (h.2.2.2.2.2.2.1 (w3 (tru (sk TRL))) (pm 9 (gr 5)) _ (pdu_of (by decide +kernel))) (by decide +kernel)) (by decide +kernel) (some_of (by decide +kernel))) (by decide +kernel)),
   ans1 (all3 ((all6 ((all6 (hs1.1 (tru (sk TRL)) (pm 9 (gr 5)) (pdu_of (by decide +kernel))) (by decide +kernel))) (by decide +kernel))) (by decide +kernel)),
   ans1 ((all6 (hs1.2.1 (rel id (cu (fun c => { c with grantSeq := 4 }) (tru (sk TRL)))) (pm 9 (gr 4)) (pdu_of (by decide +kernel))) (by decide +kernel)) (by decide +kernel)),
   ans1 (hs1.2.2.1 (tru (sk TRC)) (pm 9 (gr 5)) (pdu_of (by decide +kernel)) (by decide +kernel)),
   ans1 (hs1.2.2.2.1 (rel id (cu (fun c => { c with grantSeq := 4 }) (tru (sk TRL)))) (pm 10 [0,0,0,0]) (pdu_of (by decide +kernel)) (by decide +kernel) (by decide +kernel)),
   ans1 (hs1.2.2.2.2.1 (tru (sk TRC)) (pm 10 [0,0,0,0]) (pdu_of (by decide +kernel)) (by decide +kernel)),
   ans1 (all3 (hs1.2.2.2.2.2.1 (hs .cert (sk TRC)) (pm 12 [9]) (pdu_of (by decide +kernel))) (by decide +kernel)),
   ans1 (hs1.2.2.2.2.2.2.1 (hs .cert (sk TRC)) (pm 12 [0]) (pdu_of (by decide +kernel)) (by decide +kernel) (by decide +kernel)),
   ans1 (hs2.1 (tru (sk TRC)) (pm 12 [3]) (pdu_of (by decide +kernel)) (by decide +kernel)),
   ans1 (all3 (hs2.2.1 (tru (sk TRC)) (pm 12 [9]) (pdu_of (by decide +kernel))) (by decide +kernel)),
   ans1 (hs2.2.2 (sk TRC) (pm 12 [9]) (pdu_of (by decide +kernel)) (by decide +kernel))⟩

end CouplingService

/-! Obligations.CouplingTimersAndTransport: its clauses are met, and what they say answers a next state. -/

namespace CouplingTimersAndTransport

def cTrailer : Bytes := be 148 0x01020000887766554433221100000000443322118e533b6fa0bf7b4625bb30667c01fb607ef9f8b8a80fef5b300628703187b2a373eb1dbde03318366d069f83a6f5900053c73633cb041b21c55e1a86c1f400b4d96248881cf6129d1c98a822f4dbac476a7705307ba301b006bbb2e6c8466b65d96248881cf6129d1c98a822f4dbac476a7705307ba301b006bbb2e6c8466b65
def cTrailerA : Bytes := be 64 0xf5dbc787ce917fd68782b33db6e1a9ac7ce4d581692b749842d0430c3cde7b51c3c4e7b39ce34484de574b27fc16759f49e6bf12583fe1ec64542a8aed72e235
def cTractor : Bytes := be 148 0x01010000887766554433221100000000443322118e533b6fa0bf7b4625bb30667c01fb607ef9f8b8a80fef5b300628703187b2a373eb1dbde03318366d069f83a6f5900053c73633cb041b21c55e1a86c1f400b49426543bff796d6423eb10dda129d788db2594648263cb050b8efbbc015c02519426543bff796d6423eb10dda129d788db2594648263cb050b8efbbc015c0251
def cTractorA : Bytes := be 64 0x9faa934db8969b5289a8fdf56289bf51d1d7a1f74d57f810673bbb309f7ee19feb9fe8fef70b6048d0990a5fcfcf256c772473af2b879fdb223e7a76d1acea17
def ac (pub : Bytes) (s : State) : State := { s with ks := { s.ks with anchors := [{ index := 0, keyId := 0x11223344, valid := true, pub := pub }] } }
def cu (f : Coupling → Coupling) (s : State) : State := modUnit 1 f s
def sk (s : State) : State := slots [keySlot 0 1 4 0 aesKey, keySlot 1 2 20 0 (aesKey ++ aesKey), keySlot 2 1 4 0 aesKey] s
def kp : State := handle 192 (mkBlob (keysOpen noon) (hdr 4 0x7F 0) (be 32 7)) (keysOpen noon)
def own (c : Bytes) (s : State) : State := { s with cpl := { s.cpl with cert := c } }
def TRC : State := reg [(0x40070000, 0x40)] (asTractor (ac cTrailerA (own cTractor kp)))
def TRL : State := reg [(0x40070000, 0x40)] (asTrailer (ac cTractorA (own cTrailer kp)))
def hs (w : CplWait) (s : State) : State := cu (fun c => { c with state := .handshake, waiting := w }) s
def tru (s : State) : State := cu (fun c => { c with state := .trusted, linkUp := true, cls := 1, boundary := 6 }) s
def run (u : Nat) (plc snd : Bool) (nx : Nat) (re : Bool) (n m : Nat) : TpRun := { unit := u, onPlc := plc, sending := snd, length := n, data := zeros m, next := nx, resent := re }
def tp (l : List TpRun) (s : State) : State := bus (fun b => { b with tp := l }) s
def tf (plc : Bool) (seg : Byte) (body : Bytes) : TpFrame := { unit := 0, plc := plc, seg := seg, body := body }

theorem test_coupling_timers_and_transport (h : Obligations.CouplingTimersAndTransport) :
    Answers (exec (Instr.couplingLinkUp 0 false false) TRL) ∧
    Answers (exec (Instr.couplingLinkUp 0 true false) (tru (sk TRC))) ∧
    Answers (exec (Instr.keepalive 0) (tru (sk TRC))) ∧
    Answers (exec (Instr.keepalive 2) (tru (sk TRC))) ∧
    Answers (exec (Instr.stepTo 0) (cu (fun c => { c with lastPdu := [4,0,0,0,0,0] }) (hs .confirm TRC))) ∧
    Answers (exec (Instr.stepTo 0) (cu (fun c => { c with resent := true }) (hs .cert (sk TRC)))) ∧
    Answers (exec (Instr.stepTo 0) (tru (sk TRC))) ∧
    Answers (exec (Instr.helloWaitTimeout 0) (tru (sk TRC))) ∧
    Answers (exec (Instr.mediumFallback 0) (reg [(0x40070000, 0x60)] TRL)) ∧
    Answers (exec (Instr.mediumFallback 0) (tru (sk TRC))) ∧
    Answers (exec (Instr.couplingLinkLoss 0) (reg [(0x40070000, 0x140)] (tru (sk TRC)))) ∧
    Answers (exec (Instr.couplingLinkLoss 0) (tru (sk TRC))) ∧
    Answers (exec (Instr.couplingLinkLoss 0) (cu (fun c => { c with lastPdu := [4,0,0,0,0,0] }) (hs .confirm TRC))) ∧
    Answers (exec (Instr.couplingLinkLoss 0) (cu (fun c => { c with resume := true, partner := 8, boundary := 4 }) (hs .cert (sk TRC)))) ∧
    Answers (exec (Instr.couplingLinkLoss 2) (tru (sk TRC))) ∧
    Answers (exec (Instr.holdExpiry 0) (cu (fun c => { c with partner := 8, boundary := 4 }) (sk TRC))) ∧
    Answers (exec (Instr.holdExpiry 0) (tru (sk TRC))) ∧
    Answers (exec (Instr.couplingRestart 0) (cu (fun c => { c with state := .backoff, attempts := 2 }) TRC)) ∧
    Answers (exec (Instr.couplingRestart 0) (cu (fun c => { c with state := .backoff, linkUp := true }) TRC)) ∧
    Answers (exec (Instr.couplingRestart 0) (tru (sk TRC))) ∧
    Answers (exec (Instr.grantRepeatTimeout) (rel id (tru (sk TRL)))) ∧
    Answers (exec (Instr.grantRepeatTimeout) (rel (fun r => { r with missedGrants := 1 }) TRL)) ∧
    Answers (exec (Instr.grantRepeatTimeout) (tru (sk TRC))) ∧
    Answers (exec (Instr.tpSegmentFrame (tf false 0x3F [])) (tru (sk TRC))) ∧
    Answers (exec (Instr.tpSegmentFrame (tf false 0x40 (le 2 40 ++ zeros 4))) (tru (sk TRC))) ∧
    Answers (exec (Instr.tpSegmentFrame (tf false 0x40 (le 2 5 ++ zeros 4))) (tru (sk TRC))) ∧
    Answers (exec (Instr.tpSegmentFrame (tf false 0x81 (zeros 6))) (tru (sk TRC))) ∧
    Answers (exec (Instr.tpSegmentFrame (tf false 0x81 (zeros 6))) (tp [run 1 false false 1 false 40 4, run 1 true false 1 false 40 12, run 1 false true 17 false 400 400, run 1 true true 9 false 400 400] TRC)) ∧
    Answers (exec (Instr.tpSegmentFrame (tf false 0x90 (zeros 6))) (tp [run 1 false false 16 false 400 100, run 1 true false 16 false 400 100, run 1 false true 1 false 20 20, run 1 true true 1 false 40 40] TRC)) ∧
    Answers (exec (Instr.tpSegmentFrame (tf false 0x90 (zeros 6))) (tp [run 1 false false 1 false 40 4, run 1 true false 1 false 40 12, run 1 false true 17 false 400 400, run 1 true true 9 false 400 400] TRC)) ∧
    Answers (exec (Instr.tpSegmentFrame (tf false 0x82 (zeros 6))) (tp [run 1 false false 2 false 14 10, run 1 true false 2 false 30 26] TRC)) ∧
    Answers (exec (Instr.tpAckFrame 0 false 1 0) (tru (sk TRC))) ∧
    Answers (exec (Instr.tpAckFrame 0 false 1 1) (tru (sk TRC))) ∧
    Answers (exec (Instr.tpAckFrame 0 false 1 2) (tp [run 1 false false 1 false 40 4, run 1 true false 1 false 40 12, run 1 false true 17 false 400 400, run 1 true true 9 false 400 400] TRC)) ∧
    Answers (exec (Instr.tpAckFrame 0 false 17 0) (tp [run 1 false false 1 false 40 4, run 1 true false 1 false 40 12, run 1 false true 17 false 400 400, run 1 true true 9 false 400 400] TRC)) ∧
    Answers (exec (Instr.tpAckFrame 0 false 1 0) (tp [run 1 false false 1 false 40 4, run 1 true false 1 false 40 12, run 1 false true 17 false 400 400, run 1 true true 9 false 400 400] TRC)) ∧
    Answers (exec (Instr.tpGapTimeout 0 false) (tp [run 1 false false 1 false 40 4, run 1 true false 1 false 40 12, run 1 false true 17 false 400 400, run 1 true true 9 false 400 400] TRC)) ∧
    Answers (exec (Instr.tpGapTimeout 0 false) (tru (sk TRC))) ∧
    Answers (exec (Instr.tpAckTimeout 0 false) (tp [run 1 false false 1 false 40 4, run 1 true false 1 false 40 12, run 1 false true 17 true 400 400, run 1 true true 9 true 400 400] TRC)) ∧
    Answers (exec (Instr.tpAckTimeout 0 false) (tp [run 1 false false 1 false 40 4, run 1 true false 1 false 40 12, run 1 false true 17 false 400 400, run 1 true true 9 false 400 400] TRC)) ∧
    Answers (exec (Instr.tpAckTimeout 0 false) (tru (sk TRC))) :=
  have hs1 := h.2.2.2.2.2.2.2
  have hs2 := hs1.2.2.2.2.2.2.2
  have ht1 := h.1.2.2.2.2.2.2.2
  have ht2 := ht1.2.2.2.2.2.2.2
  have ht3 := ht2.2.2.2.2.2.2.2
  ⟨ans1 (all3 (h.1.2.1 TRL 0 ⟨(by decide +kernel), ⟨(link_of (by decide +kernel)), (by decide +kernel)⟩⟩) (by decide +kernel)),
   ansE (h.1.2.2.1 (tru (sk TRC)) 0 true false (link_of (by decide +kernel)) (by decide +kernel)),
   ans1 (h.1.2.2.2.1 (tru (sk TRC)) 0 _ ⟨(by decide +kernel), ⟨(link_of (by decide +kernel)), (by decide +kernel)⟩⟩ (by decide +kernel) (some_of (by decide +kernel))),
   ansE (h.1.2.2.2.2.1 (tru (sk TRC)) 2 (link_of (by decide +kernel)) (by decide +kernel)),
   ans1 (all5 (h.1.2.2.2.2.2.1 (cu (fun c => { c with lastPdu := [4,0,0,0,0,0] }) (hs .confirm TRC)) 0 ⟨(by decide +kernel), ⟨(link_of (by decide +kernel)), (by decide +kernel)⟩⟩) (by decide +kernel)),
   ans1 (all3 (h.1.2.2.2.2.2.2.1 (cu (fun c => { c with resent := true }) (hs .cert (sk TRC))) 0 ⟨(by decide +kernel), ⟨(link_of (by decide +kernel)), (by decide +kernel)⟩⟩) (by decide +kernel)),
   ansE (ht1.1 (tru (sk TRC)) 0 (link_of (by decide +kernel)) (by decide +kernel)),
   ansE (ht1.2.2.1 (tru (sk TRC)) 0 (link_of (by decide +kernel)) (by decide +kernel)),
   ans1 (all4 (ht1.2.2.2.1 (reg [(0x40070000, 0x60)] TRL) ⟨(by decide +kernel), ⟨(link_of (by decide +kernel)), (by decide +kernel)⟩⟩) (by decide +kernel)),
   ansE (ht1.2.2.2.2.1 (tru (sk TRC)) 0 (link_of (by decide +kernel)) (by decide +kernel)),
   ans1 (ht1.2.2.2.2.2.1 (reg [(0x40070000, 0x140)] (tru (sk TRC))) 0 ⟨(by decide +kernel), ⟨(link_of (by decide +kernel)), (by decide +kernel)⟩⟩ (by decide +kernel) (by decide +kernel)),
   ans1 (ht1.2.2.2.2.2.2.1 (tru (sk TRC)) 0 ⟨(by decide +kernel), ⟨(link_of (by decide +kernel)), (by decide +kernel)⟩⟩ (by decide +kernel) (by decide +kernel)),
   ans1 (ht2.1 (cu (fun c => { c with lastPdu := [4,0,0,0,0,0] }) (hs .confirm TRC)) 0 ⟨(by decide +kernel), ⟨(link_of (by decide +kernel)), (by decide +kernel)⟩⟩ (by decide +kernel) (by decide +kernel)),
   ans1 (ht2.2.1 (cu (fun c => { c with resume := true, partner := 8, boundary := 4 }) (hs .cert (sk TRC))) 0 ⟨(by decide +kernel), ⟨(link_of (by decide +kernel)), (by decide +kernel)⟩⟩ (by decide +kernel) (by decide +kernel)),
   ans1 (ht2.2.2.1 (tru (sk TRC)) 2 ⟨(by decide +kernel), ⟨(link_of (by decide +kernel)), (by decide +kernel)⟩⟩ (by decide +kernel)),
   ans1 (ht2.2.2.2.1 (cu (fun c => { c with partner := 8, boundary := 4 }) (sk TRC)) 0 ⟨(by decide +kernel), ⟨(link_of (by decide +kernel)), (by decide +kernel)⟩⟩ (by decide +kernel)),
   ansE (ht2.2.2.2.2.1 (tru (sk TRC)) 0 (link_of (by decide +kernel)) (by decide +kernel) (by decide +kernel)),
   ans1 (ht2.2.2.2.2.2.1 (cu (fun c => { c with state := .backoff, attempts := 2 }) TRC) 0 ⟨(by decide +kernel), ⟨(link_of (by decide +kernel)), (by decide +kernel)⟩⟩ (by decide +kernel) (by decide +kernel)),
   ans1 (all4 (ht2.2.2.2.2.2.2.1 (cu (fun c => { c with state := .backoff, linkUp := true }) TRC) 0 ⟨(by decide +kernel), ⟨(link_of (by decide +kernel)), (by decide +kernel)⟩⟩ ⟨(by decide +kernel), ⟨⟨_, (ok_of (by decide +kernel))⟩, (by decide +kernel)⟩⟩) (by decide +kernel)).1,
   ansE (ht3.1 (tru (sk TRC)) 0 (link_of (by decide +kernel)) (by decide +kernel)),
   ansE (all4 (ht3.2.1 (rel id (tru (sk TRL))) (link_of (by decide +kernel))) (by decide +kernel)),
   ans1 (all4 (ht3.2.2.1 (rel (fun r => { r with missedGrants := 1 }) TRL) (link_of (by decide +kernel))) (by decide +kernel)),
   ansE (ht3.2.2.2 (tru (sk TRC)) (link_of (by decide +kernel)) (by decide +kernel)),
   ansE (h.2.1 (tru (sk TRC)) (tf false 0x3F []) (link_of (by decide +kernel)) (by decide +kernel)),
   ans1 (all3 (h.2.2.1 (tru (sk TRC)) (tf false 0x40 (le 2 40 ++ zeros 4)) ⟨(by decide +kernel), ⟨(link_of (by decide +kernel)), (by decide +kernel)⟩⟩) (by decide +kernel)),
   ans1 (all3 (h.2.2.2.1 (tru (sk TRC)) (tf false 0x40 (le 2 5 ++ zeros 4)) ⟨(by decide +kernel), ⟨(link_of (by decide +kernel)), (by decide +kernel)⟩⟩) (by decide +kernel)),
   ansE (all3 (h.2.2.2.2.1 (tru (sk TRC)) (tf false 0x81 (zeros 6)) ⟨(by decide +kernel), ⟨(link_of (by decide +kernel)), (by decide +kernel)⟩⟩) (by decide +kernel)),
   ans1 (h.2.2.2.2.2.1 (tp [run 1 false false 1 false 40 4, run 1 true false 1 false 40 12, run 1 false true 17 false 400 400, run 1 true true 9 false 400 400] TRC) (tf false 0x81 (zeros 6)) _ ⟨(by decide +kernel), ⟨(link_of (by decide +kernel)), (by decide +kernel)⟩⟩ (some_of (by decide +kernel)) rfl (by decide +kernel) (by decide +kernel)),
   ans1 (h.2.2.2.2.2.2.1 (tp [run 1 false false 16 false 400 100, run 1 true false 16 false 400 100, run 1 false true 1 false 20 20, run 1 true true 1 false 40 40] TRC) (tf false 0x90 (zeros 6)) _ ⟨(by decide +kernel), ⟨(link_of (by decide +kernel)), (by decide +kernel)⟩⟩ (by decide +kernel) (some_of (by decide +kernel)) rfl (by decide +kernel) (by decide +kernel)),
   ans1 (all3 (hs1.1 (tp [run 1 false false 1 false 40 4, run 1 true false 1 false 40 12, run 1 false true 17 false 400 400, run 1 true true 9 false 400 400] TRC) (tf false 0x90 (zeros 6)) _ ⟨(by decide +kernel), ⟨(link_of (by decide +kernel)), (by decide +kernel)⟩⟩ (some_of (by decide +kernel))) (by decide +kernel)).1,
   ans1 (hs1.2.1 (tp [run 1 false false 2 false 14 10, run 1 true false 2 false 30 26] TRC) (tf false 0x82 (zeros 6)) _ ⟨(by decide +kernel), ⟨(link_of (by decide +kernel)), (by decide +kernel)⟩⟩ (some_of (by decide +kernel)) rfl (by decide +kernel) (by decide +kernel)),
   ansE (hs1.2.2.1 (tru (sk TRC)) 0 false 1 0 (link_of (by decide +kernel)) (by decide +kernel)),
   ans1 (hs1.2.2.2.1 (tru (sk TRC)) 0 false 1 (link_of (by decide +kernel)) (by decide +kernel)),
   ans1 (hs1.2.2.2.2.1 (tp [run 1 false false 1 false 40 4, run 1 true false 1 false 40 12, run 1 false true 17 false 400 400, run 1 true true 9 false 400 400] TRC) 0 false 1 _ (link_of (by decide +kernel)) (by decide +kernel) (some_of (by decide +kernel))),
   ans1 (hs1.2.2.2.2.2.1 (tp [run 1 false false 1 false 40 4, run 1 true false 1 false 40 12, run 1 false true 17 false 400 400, run 1 true true 9 false 400 400] TRC) 0 17 _ (link_of (by decide +kernel)) (by decide +kernel) (some_of (by decide +kernel)) rfl (by decide +kernel) (by decide +kernel)),
   ansE (all3 (hs1.2.2.2.2.2.2.1 (tp [run 1 false false 1 false 40 4, run 1 true false 1 false 40 12, run 1 false true 17 false 400 400, run 1 true true 9 false 400 400] TRC) 0 false 1 0 _ (link_of (by decide +kernel)) (some_of (by decide +kernel))) (by decide +kernel)),
   ans1 (hs2.1 (tp [run 1 false false 1 false 40 4, run 1 true false 1 false 40 12, run 1 false true 17 false 400 400, run 1 true true 9 false 400 400] TRC) 0 false _ (link_of (by decide +kernel)) (by decide +kernel) (some_of (by decide +kernel))),
   ansE (hs2.2.1 (tru (sk TRC)) 0 false (link_of (by decide +kernel)) (by decide +kernel)),
   ans1 (hs2.2.2.1 (tp [run 1 false false 1 false 40 4, run 1 true false 1 false 40 12, run 1 false true 17 true 400 400, run 1 true true 9 true 400 400] TRC) 0 false _ (link_of (by decide +kernel)) (by decide +kernel) (some_of (by decide +kernel)) (by decide +kernel)),
   ans1 (hs2.2.2.2.1 (tp [run 1 false false 1 false 40 4, run 1 true false 1 false 40 12, run 1 false true 17 false 400 400, run 1 true true 9 false 400 400] TRC) 0 false _ (link_of (by decide +kernel)) (by decide +kernel) (some_of (by decide +kernel)) (by decide +kernel)),
   ansE (hs2.2.2.2.2 (tru (sk TRC)) 0 false (link_of (by decide +kernel)) (by decide +kernel))⟩

end CouplingTimersAndTransport

/-! Obligations.SensorFrames: its clauses are met, and what they say answers a next state. -/

namespace SensorFrames

def s2r : Sensor := { newSensor 5 .own true 1 0 77 with lastFcnt := 4 }
def s1r (fam : Nat) : Sensor := newSensor 6 .own false 1 fam 0x01020304
def hK (s : State) : State := handle 69 (mkBlob keysK (hdr 1 0x7F 0) aesKey) s
def S2 : State := sensors [s2r, s1r 2] (hK keysK)
def frm (d : Bytes) : SnsFrame := { air := { rxf 0 (byte d.length :: d) none with preset := 2, sync := 0x7A0E93C5, check := crc16Air (byte d.length :: d), rssi := 44 }, iq := [], q := [200, 200, 200, 3], fit := some (1, 2) }
def frb (d : Bytes) : SnsFrame := { frm d with air := { (frm d).air with preset := 0, sync := 0x93C5 } }
def fr1 (d : Bytes) : SnsFrame := { frm d with air := { rxf 1 d none with preset := 1, sync := 0x7E, manch := true, rssi := 44 } }
def rx2 (s : State) : State := reg [(rxAddr 0 4, 0x7A0E93C5), (rxAddr 1 4, 0x7E), (0x40030070, 0)] (rad (fun r => { r with l1 := .rx, l2 := .rx, rxA := { r.rxA with cfgLive := word (2 + 16 + 2 * 2^6 + 2 * 2^17 + 3 * 2^20) }, rxB := { r.rxB with cfgLive := word (1 + 2 * 2^6 + 256 + 10 * 512 + 2^19) } }) s)
def rxb (s : State) : State := reg [(rxAddr 0 4, 0x93C5)] (rad (fun r => { r with l1 := .rx, rxA := { r.rxA with cfgLive := word (0 + 16 + 2 * 2^6 + 2 * 2^17 + 1 * 2^20) } }) s)
def mc (n : Nat) (pre d : Bytes) : Bytes := d ++ (cmac aesKey (pre ++ d)).take n
def dfr (fc : Nat) : Bytes := mc 8 [] ([1] ++ le 4 77 ++ [0] ++ le 4 fc ++ [3] ++ [1,2,3,4,5,6,7,8])
def afr (fc : Nat) : Bytes := mc 4 [] ([3] ++ le 4 77 ++ [2, 9, 9] ++ le 4 fc)
def lfr : Bytes := mc 4 ([0x4C] ++ [1,2,3,4,5]) ([2] ++ le 4 77 ++ le 2 0x1234 ++ [99])
def sfr : Bytes := mc 8 (le 4 7) ([4] ++ le 4 77 ++ zeros 33)
def oth (b : Bytes) : Bytes := b.set 1 88
def s1d : Bytes := let b : Bytes := [1,2,3,4, 0, 9, 60, 3]; b ++ be 2 (s1Crc16 b)
def s1e : Bytes := let b : Bytes := [1,2,3,4, 9, 60, 3]; b ++ [byte (s1Crc8 b), 0, 0]
def lpa : LocPass := { stage := 1, aerials := [2, 3], wakes := 1, nonce16 := 0x1234, wakeBits := [1,2,3,4,5], oldCur := none, slocDue := [5, 6], slocNonce := none, slocAt := 0, slocDesc := none, tonesLeft := 0, skipped := [], retries := 0, lfDefer := false, again := false, rerun := false, work := none, loose := none }
def lc (f : LocPass → LocPass) (s : State) : State := { s with sns := { s.sns with loc := some (f lpa) } }
def wf (a : Bool) : WaitFrame := { record := 5, fcnt := 9, alarm := a, data := [2, 9, 9], flags := 1, rssi := 3, input := 1 }
def wt (l : List WaitFrame) (s : State) : State := { s with sns := { s.sns with frames := l } }
def ln (s : State) : State := reg [(0x40070100, 2), (0x4007011C, 25 * 256 + 65536 + 0x40000)] { s with sns := { s.sns with learn := true } }

theorem test_sensor_frames (h : Obligations.SensorFrames) :
    Answers (exec (Instr.data ((frm (oth (dfr 5))))) (rx2 S2)) ∧
    Answers (exec (Instr.alarm ((frb (oth (afr 5))))) (rxb S2)) ∧
    Answers (exec (Instr.loc ((frm (oth lfr)))) (rx2 S2)) ∧
    Answers (exec (Instr.sreport ((frm (oth sfr)))) (rx2 S2)) ∧
    Answers (exec (Instr.data ((frm [1]))) (rx2 S2)) ∧
    Answers (exec (Instr.alarm ((frm (afr 5)))) (rx2 S2)) ∧
    Answers (exec (Instr.loc ((frm [2]))) (rx2 S2)) ∧
    Answers (exec (Instr.sreport ((frm [4]))) (rx2 S2)) ∧
    Answers (exec (Instr.loc (frb [2])) (rxb S2)) ∧
    Answers (exec (Instr.s1Frame ((frm (dfr 5)))) noon) ∧
    Answers (exec (Instr.data ((frm (dfr 5)))) (pw (fun p => { p with state := .dusk }) S2)) ∧
    Answers (exec (Instr.loc ((frm [2]))) (rad (fun r => { r with held := (frm [2]).air.data }) (pw (fun p => { p with state := .dusk }) S2))) ∧
    Answers (exec (Instr.alarm ((frm (afr 5)))) (rad (fun r => { r with held := (frb (afr 5)).air.data }) (pw (fun p => { p with state := .dusk }) S2))) ∧
    Answers (exec (Instr.loc ((frm lfr))) (rx2 S2)) ∧
    Answers (exec (Instr.sreport ((frm sfr))) (rx2 (lc (fun p => { p with stage := 2, slocNonce := some 7 }) S2))) ∧
    Answers (exec (Instr.sreport ((frm sfr))) (rx2 (lc id S2))) ∧
    Answers (exec (Instr.s1Frame ((fr1 (1 :: zeros 9)))) (rx2 S2)) ∧
    Answers (exec (Instr.s1Frame ((fr1 s1d))) (rx2 S2)) ∧
    Answers (exec (Instr.s1Frame ((fr1 s1d))) (rx2 (ln (sensors [{ s1r 2 with state := .learning, learnN := 7, learnMove := 500, learnRssi := [200, 200, 200] }] noon)))) ∧
    Answers (exec (Instr.s1Frame ((fr1 s1e))) (rx2 S2)) ∧
    Answers (exec (Instr.s1Frame ((fr1 s1d))) (rx2 (ln noon))) ∧
    Answers (exec (Instr.s1Frame ((fr1 s1d))) (rx2 (sensors [] noon))) ∧
    Answers (exec (Instr.fcntCommit ({ a := 0, b := 0 })) (wt [wf false] S2)) ∧
    Answers (exec (Instr.fcntCommit ({ a := 0, b := 0 })) (wt [wf true] S2)) ∧
    Answers (exec (Instr.fcntCommit ({ a := 2, b := 2 })) noon) ∧
    Answers (exec (Instr.fcntCommit ({ a := 0, b := 0 })) noon) ∧
    Answers (exec (Instr.alarm (frb [2])) (rxb S2)) ∧
    exec (Instr.loc (frb [2])) S2 = exec (Instr.rxFrame (frb [2]).air) S2 :=
  have hs1 := h.2.2.2.2.2.2.2
  have hs2 := hs1.2.2.2.2.2.2.2
  have hs3 := hs2.2.2.2.2.2.2.2
  have hs4 := hs3.2.2.2.2.2.2.2
  ⟨ans1 (h.1 (rx2 S2) ((frm (oth (dfr 5)))) ⟨⟨(link_of (by decide +kernel)), (by decide +kernel)⟩, (by decide +kernel)⟩ (by decide +kernel) (by decide +kernel)),
   ans1 (h.2.1 (rxb S2) ((frb (oth (afr 5)))) ⟨⟨(link_of (by decide +kernel)), (by decide +kernel)⟩, (by decide +kernel)⟩ (by decide +kernel) (by decide +kernel)),
   ans1 (h.2.2.1 (rx2 S2) ((frm (oth lfr))) ⟨⟨(link_of (by decide +kernel)), (by decide +kernel)⟩, (by decide +kernel)⟩ (by decide +kernel) (by decide +kernel)),
   ans1 (h.2.2.2.1 (rx2 S2) ((frm (oth sfr))) ⟨⟨(link_of (by decide +kernel)), (by decide +kernel)⟩, (by decide +kernel)⟩ (by decide +kernel) (by decide +kernel)),
   ans1 (h.2.2.2.2.1 (rx2 S2) ((frm [1])) ⟨⟨(link_of (by decide +kernel)), (by decide +kernel)⟩, (by decide +kernel)⟩ (by decide +kernel) (by decide +kernel)),
   ans1 (h.2.2.2.2.2.1 (rx2 S2) ((frm (afr 5))) ⟨⟨(link_of (by decide +kernel)), (by decide +kernel)⟩, (by decide +kernel)⟩ (by decide +kernel)),
   ans1 (h.2.2.2.2.2.2.1 (rx2 S2) ((frm [2])) ⟨⟨(link_of (by decide +kernel)), (by decide +kernel)⟩, (by decide +kernel)⟩ (by decide +kernel) (by decide +kernel)),
   ans1 (hs1.1 (rx2 S2) ((frm [4])) ⟨⟨(link_of (by decide +kernel)), (by decide +kernel)⟩, (by decide +kernel)⟩ (by decide +kernel) (by decide +kernel)),
   ans1 ((hs1.2.1 (rxb S2) ((frb [2])) ⟨⟨(link_of (by decide +kernel)), (by decide +kernel)⟩, (by decide +kernel)⟩ (by decide +kernel) (by decide +kernel)).2.1 (by decide +kernel)),
   ansE (hs1.2.2.2.2.1 noon ((frm (dfr 5))) ⟨(link_of (by decide +kernel)), (by decide +kernel)⟩ (by decide +kernel)),
   ansE (hs1.2.2.2.2.2.1 (pw (fun p => { p with state := .dusk }) S2) ((frm (dfr 5))) (link_of (by decide +kernel)) (by decide +kernel) (by decide +kernel)).1,
   ans1 (hs1.2.2.2.2.2.2.1 (rad (fun r => { r with held := (frm [2]).air.data }) (pw (fun p => { p with state := .dusk }) S2)) ((frm [2])) ⟨(link_of (by decide +kernel)), (by decide +kernel)⟩ (by decide +kernel)),
   ans1 (hs2.2.2.1 (rad (fun r => { r with held := (frb (afr 5)).air.data }) (pw (fun p => { p with state := .dusk }) S2)) ((frm (afr 5))) _ ⟨(link_of (by decide +kernel)), (by decide +kernel)⟩ (by decide +kernel) ⟨(some_of (by decide +kernel)), (some_of (by decide +kernel))⟩ (by decide +kernel) (by decide +kernel)),
   ansE (hs3.1 (rx2 S2) ((frm lfr)) _ ⟨⟨(link_of (by decide +kernel)), (by decide +kernel)⟩, (by decide +kernel)⟩ (by decide +kernel) ⟨(some_of (by decide +kernel)), (some_of (by decide +kernel))⟩ (by decide +kernel)),
   ans1 (hs3.2.1 (rx2 (lc (fun p => { p with stage := 2, slocNonce := some 7 }) S2)) ((frm sfr)) _ _ _ _ _ ⟨⟨(link_of (by decide +kernel)), (by decide +kernel)⟩, (by decide +kernel)⟩ (by decide +kernel) ⟨(some_of (by decide +kernel)), (some_of (by decide +kernel))⟩ (some_of (by decide +kernel)) (by decide +kernel) (some_of (by decide +kernel)) (cons_of (by decide +kernel))),
   ansE (hs3.2.2.1 (rx2 (lc id S2)) ((frm sfr)) _ _ ⟨⟨(link_of (by decide +kernel)), (by decide +kernel)⟩, (by decide +kernel)⟩ (by decide +kernel) ⟨(some_of (by decide +kernel)), (some_of (by decide +kernel))⟩ (some_of (by decide +kernel)) (by decide +kernel)),
   ansE (hs3.2.2.2.1 (rx2 S2) ((fr1 (1 :: zeros 9))) ⟨⟨(link_of (by decide +kernel)), (by decide +kernel)⟩, (by decide +kernel)⟩ (by decide +kernel)),
   ans2 (hs3.2.2.2.2.1.1 (rx2 S2) ((fr1 s1d)) _ _ _ _ _ _ ⟨⟨⟨(link_of (by decide +kernel)), (by decide +kernel)⟩, (by decide +kernel)⟩, ⟨(some_of (by decide +kernel)), ⟨(some_of (by decide +kernel)), (some_of (by decide +kernel))⟩⟩⟩ (by decide +kernel) rfl (by decide +kernel)),
   ans2 (all4 (hs3.2.2.2.2.1.2.1 (rx2 (ln (sensors [{ s1r 2 with state := .learning, learnN := 7, learnMove := 500, learnRssi := [200, 200, 200] }] noon))) ((fr1 s1d)) _ _ _ _ _ _ ⟨⟨⟨(link_of (by decide +kernel)), (by decide +kernel)⟩, (by decide +kernel)⟩, ⟨(some_of (by decide +kernel)), ⟨(some_of (by decide +kernel)), (some_of (by decide +kernel))⟩⟩⟩ (by decide +kernel) rfl) (by decide +kernel)),
   ansE (hs3.2.2.2.2.1.2.2 (rx2 S2) ((fr1 s1e)) _ _ _ _ _ _ ⟨⟨⟨(link_of (by decide +kernel)), (by decide +kernel)⟩, (by decide +kernel)⟩, ⟨(some_of (by decide +kernel)), ⟨(some_of (by decide +kernel)), (some_of (by decide +kernel))⟩⟩⟩ (by decide +kernel)),
   ans2 ((all4 (hs3.2.2.2.2.2.1 (rx2 (ln noon)) ((fr1 s1d)) _ _ _ _ _ _ ⟨⟨(link_of (by decide +kernel)), (by decide +kernel)⟩, (by decide +kernel)⟩ (some_of (by decide +kernel))) (by decide +kernel)) (some_of (by decide +kernel))),
   ansE (hs3.2.2.2.2.2.2.1 (rx2 (sensors [] noon)) ((fr1 s1d)) _ _ _ _ _ ⟨⟨(link_of (by decide +kernel)), (by decide +kernel)⟩, (by decide +kernel)⟩ (some_of (by decide +kernel)) (by decide +kernel) (by decide +kernel)),
   ans2 (hs4.1 (wt [wf false] S2) ({ a := 0, b := 0 }) _ _ ⟨(link_of (by decide +kernel)), (by decide +kernel)⟩ (cons_of (by decide +kernel)) (by decide +kernel) (some_of (by decide +kernel)) (by decide +kernel)),
   ans2 (hs4.2.1 (wt [wf true] S2) ({ a := 0, b := 0 }) _ _ ⟨(link_of (by decide +kernel)), (by decide +kernel)⟩ (cons_of (by decide +kernel)) (by decide +kernel) (some_of (by decide +kernel)) (by decide +kernel) (by decide +kernel)),
   ans1 (hs4.2.2.1 noon ({ a := 2, b := 2 }) ⟨(link_of (by decide +kernel)), (by decide +kernel)⟩ (by decide +kernel) (by decide +kernel)),
   ansE (hs4.2.2.2 noon ({ a := 0, b := 0 }) ⟨(link_of (by decide +kernel)), (by decide +kernel)⟩ (by decide +kernel)),
   ansE ((hs1.2.2.1 (rxb S2) (frb [2]) (link_of (by decide +kernel))).1 (by decide +kernel)),
   (hs1.2.2.2.1 S2 (frb [2]) ⟨link_of (by decide +kernel), by decide +kernel⟩ (by decide +kernel)).2.1 (by decide +kernel)⟩

end SensorFrames

/-! Obligations.SensorTimers: its clauses are met, and what they say answers a next state. -/

namespace SensorTimers

def mdl : Bytes := fit 100 ([1, 1, 0, 0] ++ zeros 6 ++ [2, 3])
def s2r' : Sensor := { newSensor 5 .own true 1 0 77 with lastFcnt := 4 }
def mS (s : State) : State := { s with sns := { s.sns with model := mdl } }
def trs (s : State) : State := reg [(0x40070100, 1)] (modUnit 1 (fun c => { c with state := .trusted, linkUp := true, cls := 1, boundary := 6 }) s)
def lp2 : LocPass := { stage := 1, aerials := [2], wakes := 1, nonce16 := 0x1234, wakeBits := [1,2,3,4,5], oldCur := some (2, 9), slocDue := [5, 6], slocNonce := none, slocAt := 0, slocDesc := none, tonesLeft := 0, skipped := [], retries := 0, lfDefer := false, again := false, rerun := false, work := none, loose := none }
def lc2 (f : LocPass → LocPass) (s : State) : State := { s with sns := { s.sns with loc := some (f lp2) } }
def wtg (s : State) : State := { s with lf := { s.lf with deferred := [{ words := [1, 2], cls := 3, estimate := 5, due := 0, limit := 2000, plan := none, retest := none }] } }
def lr (ok : Bool) : Sensor := { newSensor 7 .learning false 1 2 9 with learnN := 9, learnMove := 500, learnLast := 500, learnRssi := if ok then [200, 200, 200] else [3] }
def ps (k : Nat) : Sensor := { newSensor 5 .partner false k 2 9 with srcUnit := 1, age := 40 }
def ows : Sensor := { newSensor 5 .own false 1 2 9 with age := 40 }

theorem test_sensor_timers (h : Obligations.SensorTimers) :
    Answers (exec (Instr.autoLocationStart) (trs (mS noon))) ∧
    Answers (exec (Instr.autoLocationStart) noon) ∧
    Answers (exec (Instr.nextStop) (sensors [{ s2r' with conflictDue := true }] (mS noon))) ∧
    Answers (exec (Instr.nextStop) noon) ∧
    Answers (exec (Instr.wakeDeferTimeout) (wtg (mS (lc2 id noon)))) ∧
    Answers (exec (Instr.wakeDeferTimeout) noon) ∧
    Answers (exec (Instr.wakeRetry) (mS (lc2 (fun p => { p with aerials := [], skipped := [2], oldCur := none }) noon))) ∧
    Answers (exec (Instr.wakeRetry) noon) ∧
    Answers (exec (Instr.stationaryTimeout) (wtg (mS (lc2 id noon)))) ∧
    Answers (exec (Instr.stationaryTimeout) noon) ∧
    Answers (exec (Instr.learnWindowEnd) (reg [(0x40070100, 0)] (sensors [lr true] noon))) ∧
    Answers (exec (Instr.learnWindowEnd) noon) ∧
    Answers (exec (Instr.histPeriod 5) (sensors [{ s2r' with conflictDue := true }] (mS noon))) ∧
    Answers (exec (Instr.histPeriod 5) noon) ∧
    Answers (exec (Instr.stale 6) (sensors [{ newSensor 6 .own false 3 2 8 with age := 3000 }] (reg [(0x40070100, 0x00F0F000)] noon))) ∧
    Answers (exec (Instr.stale 5) (sensors [ps 1, newSensor 6 .own false 3 2 8] (reg [(0x40070100, 0x00F0F000), (0x4007011C, 0x40005)] noon))) ∧
    Answers (exec (Instr.stale 5) noon) ∧
    Answers (exec (Instr.sensorState 0 5 ([6, 1, 0, 0, 0, 0, 0, 9])) (sensors [ps 1, newSensor 6 .own false 3 2 8] (reg [(0x40070100, 0x00F0F000), (0x4007011C, 0x40005)] noon))) ∧
    Answers (exec (Instr.sensorState 0 5 ([6, 1, 0, 0, 0, 0, 0, 9])) noon) ∧
    Answers (exec (Instr.sensorStateSend 5) (sensors [ows, { newSensor 6 .partner false 1 2 9 with srcUnit := 2 }] (modUnit 1 (fun c => { c with state := .trusted, linkUp := true }) (asTrailer noon)))) ∧
    Answers (exec (Instr.sensorStateSend 5) noon) :=
  have hs1 := h.2.2.2.2.2.2.2
  have hs2 := hs1.2.2.2.2.2.2.2
  ⟨ans2 ((all6 (h.1 (trs (mS noon)) ((trs (mS noon)).cpl.units.head (by decide +kernel)) ⟨(link_of (by decide +kernel)), (by decide +kernel)⟩) (by decide +kernel)) (by decide +kernel) (by decide +kernel)),
   ansE (h.2.1 noon (link_of (by decide +kernel)) (by decide +kernel)),
   ans2 (all5 (h.2.2.1 (sensors [{ s2r' with conflictDue := true }] (mS noon)) { s2r' with conflictDue := true } ⟨(link_of (by decide +kernel)), (by decide +kernel)⟩) (by decide +kernel)),
   ansE (h.2.2.2.1 noon (link_of (by decide +kernel)) (by decide +kernel)),
   ans2 (h.2.2.2.2.1 (wtg (mS (lc2 id noon))) _ _ ⟨(link_of (by decide +kernel)), (by decide +kernel)⟩ (some_of (by decide +kernel)) (by decide +kernel) (cons_of (by decide +kernel)) (by decide +kernel) (by decide +kernel)),
   ansE (h.2.2.2.2.2.1 noon (link_of (by decide +kernel)) (by decide +kernel)),
   ans2 (all4 (h.2.2.2.2.2.2.1 (mS (lc2 (fun p => { p with aerials := [], skipped := [2], oldCur := none }) noon)) _ ⟨(link_of (by decide +kernel)), (by decide +kernel)⟩ (some_of (by decide +kernel))) (by decide +kernel)),
   ansE (hs1.1 noon (link_of (by decide +kernel)) (by decide +kernel)),
   ans1 (hs1.2.1 (wtg (mS (lc2 id noon))) _ ⟨(link_of (by decide +kernel)), (by decide +kernel)⟩ (some_of (by decide +kernel)) (by decide +kernel)),
   ansE (hs1.2.2.1 noon (link_of (by decide +kernel)) (by decide +kernel)),
   ans1 (hs1.2.2.2.1 (reg [(0x40070100, 0)] (sensors [lr true] noon)) _ ⟨(link_of (by decide +kernel)), (by decide +kernel)⟩ (by decide +kernel) (cons_of (by decide +kernel)) (some_of (by decide +kernel))),
   ans1 (hs1.2.2.2.2.1 noon ⟨(link_of (by decide +kernel)), (by decide +kernel)⟩ (by decide +kernel)),
   ans1 (hs1.2.2.2.2.2.1 (sensors [{ s2r' with conflictDue := true }] (mS noon)) 5 _ ⟨(link_of (by decide +kernel)), (by decide +kernel)⟩ (by decide +kernel) (some_of (by decide +kernel))),
   ansE (hs1.2.2.2.2.2.2.1 noon 5 (link_of (by decide +kernel)) (by decide +kernel)),
   ans2 (hs2.1 (sensors [{ newSensor 6 .own false 3 2 8 with age := 3000 }] (reg [(0x40070100, 0x00F0F000)] noon)) 6 { newSensor 6 .own false 3 2 8 with age := 3000 } ⟨(link_of (by decide +kernel)), (by decide +kernel)⟩ (by decide +kernel) (by decide +kernel) (some_of (by decide +kernel)) (by decide +kernel)),
   ans2 (all3 (hs2.2.1 (sensors [ps 1, newSensor 6 .own false 3 2 8] (reg [(0x40070100, 0x00F0F000), (0x4007011C, 0x40005)] noon)) 5 _ ⟨(link_of (by decide +kernel)), (by decide +kernel)⟩ (some_of (by decide +kernel))) (by decide +kernel)),
   ansE (hs2.2.2.1 noon 5 (link_of (by decide +kernel)) (by decide +kernel)),
   ans1 (all4 (hs2.2.2.2.1 (sensors [ps 1, newSensor 6 .own false 3 2 8] (reg [(0x40070100, 0x00F0F000), (0x4007011C, 0x40005)] noon)) 0 5 ([6, 1, 0, 0, 0, 0, 0, 9]) _ ⟨(link_of (by decide +kernel)), (by decide +kernel)⟩ (some_of (by decide +kernel))) (by decide +kernel)),
   ansE (hs2.2.2.2.2.1 noon 0 5 ([6, 1, 0, 0, 0, 0, 0, 9]) (link_of (by decide +kernel)) (by decide +kernel)),
   ans1 (all4 (hs2.2.2.2.2.2.1 (sensors [ows, { newSensor 6 .partner false 1 2 9 with srcUnit := 2 }] (modUnit 1 (fun c => { c with state := .trusted, linkUp := true }) (asTrailer noon))) 5 _ ⟨(link_of (by decide +kernel)), (by decide +kernel)⟩ (by decide +kernel) (some_of (by decide +kernel))) (by decide +kernel)),
   ansE (hs2.2.2.2.2.2.2 noon 5 (link_of (by decide +kernel)) (by decide +kernel))⟩

end SensorTimers

/-! Obligations.StoreEvents: its clauses are met, and what they say answers a next state. -/

namespace StoreEvents

def cm (g : Nat) (ok : Bool) : CopyMeta := { gen := word g, ok := ok }
def pgs (l : List PageMeta) (s : State) : State := { s with fer := { s.fer with pages := l } }
def pat (n : Nat) (s : State) : State := regPutFld 0x40090000 0 1 1 { s with fer := { s.fer with patrol := n } }
def cmt (k : CommitKind) (p : Nat) (s : State) : State := { s with fer := { s.fer with commits := [{ kind := k, addr := p * 256 + 7, data := [1] }] } }
def box (m : Message) (s : State) : State := engAt 0 (fun e => { e with inbox := [{ src := 3, data := [1] }, m] }) s
def ks0 : State := slots [keySlot 40 1 0x7F 0 aesKey, keySlot 11 1 0x7F 0 aesKey] (keysOpen noon)

theorem test_store_events (h : Obligations.StoreEvents) :
    Answers (exec (Instr.nonceExpiry) noon) ∧
    Answers (exec (Instr.importSessionExpiry) noon) ∧
    Answers (exec (Instr.importSessionExpiry) ({ ks0 with ks := { ks0.ks with session := some { d := 1, x := zeros 32, y := zeros 32, challenge := zeros 16 } } })) ∧
    Answers (exec (Instr.counterIncrementDone) noon) ∧
    Answers (exec (Instr.counterIncrementDone) (engAt 8 (fun e => { e with restartDue := true }) { ctrAt 37 9 noon with fer := { (ctrAt 37 9 noon).fer with incr := some 37 } })) ∧
    Answers (exec (Instr.counterIncrementDone) ({ ctrAt 37 9 noon with fer := { (ctrAt 37 9 noon).fer with incr := some 37 } })) ∧
    Answers (exec (Instr.patrol) noon) ∧
    Answers (exec (Instr.patrol) (cmt .legacy 5 (pat 5 noon))) ∧
    Answers (exec (Instr.patrol) (pgs [{ page := 5, c0 := cm 3 true, c1 := cm 3 false, degraded := none }] (pat 5 noon))) ∧
    Answers (exec (Instr.patrol) (pgs [{ page := 5, c0 := cm 3 false, c1 := cm 4 false, degraded := none }] (pat 5 noon))) ∧
    Answers (exec (Instr.patrol) (pat 1919 noon)) ∧
    Answers (exec (Instr.scan) noon) ∧
    Answers (exec (Instr.patrol) ({ noon with fer := { noon.fer with scan := some 7 } })) ∧
    Answers (exec (Instr.oemEvent 9 ([7,8])) noon) ∧
    Answers (exec (Instr.oemEvent 9 ([7,8])) (box { src := 9, data := [1, 7, 8] } noon)) ∧
    Answers (exec (Instr.rtcRead 11) (box { src := 11, data := [3] } noon)) ∧
    Answers (exec (Instr.oemNvmWrite 9 (le 4 0x56000 ++ [1])) (box { src := 9, data := [2] ++ le 4 0x56000 ++ [1] } noon)) ∧
    Answers (exec (Instr.oemNvmWrite 9 (le 4 0x100 ++ [1])) (box { src := 9, data := [2] ++ le 4 0x100 ++ [1] } noon)) ∧
    Answers (exec (Instr.zeroise .host) noon) ∧
    Answers (exec (Instr.close .host) noon) ∧
    Answers (exec (Instr.zeroise (.engine 9)) noon) ∧
    Answers (exec Instr.patrol (regSet 0x40090000 0 noon)) :=
  have hs1 := h.2.2.2.2.2.2.2
  have hs2 := hs1.2.2.2.2.2.2.2
  ⟨ansE (h.2.2.2.1 noon ⟨(by decide +kernel), link_of (by decide +kernel)⟩),
   ansE (h.2.2.2.2.1 noon ⟨(by decide +kernel), link_of (by decide +kernel)⟩ (by decide +kernel)),
   ans1 (h.2.2.2.2.2.1 ({ ks0 with ks := { ks0.ks with session := some { d := 1, x := zeros 32, y := zeros 32, challenge := zeros 16 } } }) ⟨(by decide +kernel), link_of (by decide +kernel)⟩ (by decide +kernel)),
   ansE (h.2.2.2.2.2.2.1 noon ⟨(by decide +kernel), link_of (by decide +kernel)⟩ (by decide +kernel)),
   ansE (hs1.1 (engAt 8 (fun e => { e with restartDue := true }) { ctrAt 37 9 noon with fer := { (ctrAt 37 9 noon).fer with incr := some 37 } }) ⟨(by decide +kernel), link_of (by decide +kernel)⟩ (by decide +kernel)).1,
   ans1 (hs1.2.1 ({ ctrAt 37 9 noon with fer := { (ctrAt 37 9 noon).fer with incr := some 37 } }) _ _ ⟨(by decide +kernel), link_of (by decide +kernel)⟩ (by decide +kernel) (some_of (by decide +kernel)) (some_of (by decide +kernel)) (by decide +kernel)),
   ansE (all3 (hs1.2.2.1 noon ⟨⟨(by decide +kernel), link_of (by decide +kernel)⟩, (by decide +kernel)⟩) (by decide +kernel)),
   ansE (hs1.2.2.2.1 (cmt .legacy 5 (pat 5 noon)) _ ⟨⟨(by decide +kernel), link_of (by decide +kernel)⟩, (by decide +kernel)⟩ (by decide +kernel) (some_of (by decide +kernel)) (by decide +kernel) (by decide +kernel)),
   ans1 (all4 (hs1.2.2.2.2.1 (pgs [{ page := 5, c0 := cm 3 true, c1 := cm 3 false, degraded := none }] (pat 5 noon)) ⟨⟨(by decide +kernel), link_of (by decide +kernel)⟩, (by decide +kernel)⟩) (by decide +kernel)),
   ans1 (all3 (hs1.2.2.2.2.2.1 (pgs [{ page := 5, c0 := cm 3 false, c1 := cm 4 false, degraded := none }] (pat 5 noon)) ⟨⟨(by decide +kernel), link_of (by decide +kernel)⟩, (by decide +kernel)⟩) (by decide +kernel)),
   ans1 (all3 (hs1.2.2.2.2.2.2.1 (pat 1919 noon) ⟨⟨(by decide +kernel), link_of (by decide +kernel)⟩, (by decide +kernel)⟩) (by decide +kernel)),
   ansE (hs2.2.1 noon ⟨(by decide +kernel), link_of (by decide +kernel)⟩),
   ansE (all3 (hs2.2.2.1 ({ noon with fer := { noon.fer with scan := some 7 } }) _ ⟨(by decide +kernel), link_of (by decide +kernel)⟩ (some_of (by decide +kernel))) (by decide +kernel)),
   ansE (hs2.2.2.2.1 noon 9 ([7,8]) (link_of (by decide +kernel)) (by decide +kernel)).1,
   ans1 (hs2.2.2.2.2.1 (box { src := 9, data := [1, 7, 8] } noon) 9 ([7,8]) _ ⟨(by decide +kernel), ⟨(by decide +kernel), ⟨(by decide +kernel), (some_of (by decide +kernel))⟩⟩⟩ (by decide +kernel) (by decide +kernel)),
   ans1 (hs2.2.2.2.2.2.1 (box { src := 11, data := [3] } noon) 11 _ ⟨(by decide +kernel), ⟨(by decide +kernel), ⟨(by decide +kernel), (some_of (by decide +kernel))⟩⟩⟩ (by decide +kernel) (by decide +kernel)),
   ans1 (all4 (hs2.2.2.2.2.2.2.1 (box { src := 9, data := [2] ++ le 4 0x56000 ++ [1] } noon) 9 (le 4 0x56000 ++ [1]) _ ⟨(by decide +kernel), ⟨(by decide +kernel), ⟨(by decide +kernel), (some_of (by decide +kernel))⟩⟩⟩) (by decide +kernel)),
   ans1 (all4 (hs2.2.2.2.2.2.2.2 (box { src := 9, data := [2] ++ le 4 0x100 ++ [1] } noon) 9 (le 4 0x100 ++ [1]) _ ⟨(by decide +kernel), ⟨(by decide +kernel), ⟨(by decide +kernel), (some_of (by decide +kernel))⟩⟩⟩) (by decide +kernel)),
   ans1 (h.1 noon .host (show awake noon = true by decide +kernel)),
   ans1 (h.2.1 noon .host (show awake noon = true by decide +kernel)),
   ansE (h.2.2.1 noon (.engine 9) (link_of (by decide +kernel)) (show running noon = false ∨ 9 ≤ 9 from .inr (by decide))).1,
   ansE (hs2.1 (regSet 0x40090000 0 noon) (link_of (by decide +kernel)) (by decide +kernel))⟩

end StoreEvents

/-! Obligations.MemoryInstructions: its clauses are met, and what they say answers a next state. -/

namespace MemoryInstructions

def eop (k : Fin 12) (ext : List (BitVec 9)) (w : Nat) : EngOp := { k := k, ext := ext, w := BitVec.ofNat 16 w, fetch := .clean, data := .clean }
def eg (k : Fin 12) (g1 g2 : Nat) (f : Engine → Engine) (s : State) : State :=
  engAt k (fun e => f { e with state := .run, g := (e.g.set 1 (word g1)).set 2 (word g2), pc := 0x40 }) s
def ms (f : Engine → Engine) (g1 g2 : Nat) : State := { eg 5 g1 g2 (fun e => f { e with scratch := memSet [] 0x100 ((List.range 40).map fun i => byte (i * 37 + 130)), sd := 4 }) noon with sram := memSet [] 0x10000010 ((List.range 40).map fun i => byte (i * 57 + 130)) }
def sp (n : Nat) (e : Engine) : Engine := { e with g := e.g.set 14 (word n) }
def strs (sa da rc sd : Nat) (e : Engine) : Engine := { e with sa := word sa, da := word da, rc := word rc, sd := word sd, st := 0x2D }
def bnd (a b : Nat) (e : Engine) : Engine := { e with blo := word a, bhi := word b }

theorem test_memory_instructions (h : Obligations.MemoryInstructions) :
    Answers (exec (Instr.ld (eop 5 [] 7168)) (ms id 0x100 2)) ∧
    Answers (exec (Instr.ld (eop 5 [] 7170)) (ms id 0x10000010 4)) ∧
    Answers (exec (Instr.st (eop 5 [] 7680)) (ms id 0x100 2)) ∧
    Answers (exec (Instr.st (eop 5 [] 7682)) (ms id 0x10000010 4)) ∧
    Answers (exec (Instr.ldx (eop 5 [1] 8226)) (ms id 0x100 2)) ∧
    Answers (exec (Instr.stx (eop 5 [1] 8738)) (ms id 0x100 2)) ∧
    Answers (exec (Instr.ld (eop 5 [] 7170)) (ms id 0x10000011 4)) ∧
    Answers (exec (Instr.st (eop 5 [] 7682)) (ms id 0x10000011 4)) ∧
    Answers (exec (Instr.push (eop 5 [] 13824)) (ms id 0x100 2)) ∧
    Answers (exec (Instr.pop (eop 5 [] 13825)) (ms (sp 0x120) 0x77777777 5)) ∧
    Answers (exec ((Instr.movs) (eop 5 [] 11264) none) (ms id 0x100 2)) ∧
    Answers (exec (Instr.movs (eop 5 [] 11264) (some 1)) (ms (strs 0x100 0x110 2 4) 0x85 0x85)) ∧
    Answers (exec (Instr.fills (eop 5 [] 11296) (some 1)) (ms (strs 0x100 0x110 2 4) 0x85 0x85)) ∧
    Answers (exec (Instr.cmps (eop 5 [] 11328) (some 1)) (ms (strs 0x100 0x100 2 4) 1 1)) ∧
    Answers (exec (Instr.cmps (eop 5 [] 11328) (some 1)) (ms (strs 0x100 0x110 2 4) 0x85 0x85)) ∧
    Answers (exec (Instr.scans (eop 5 [] 11363) (some 1)) (ms (strs 0x100 0x100 1 1) 0x82 1)) ∧
    Answers (exec (Instr.scans (eop 5 [] 11360) (some 1)) (ms (strs 0x100 0x110 2 4) 0x85 0x85)) ∧
    Answers (exec (Instr.crcs (eop 5 [] 11392) (some 1)) (ms (strs 0x100 0x110 2 4) 0x85 0x85)) ∧
    Answers (exec (Instr.chku (eop 5 [] 11776)) (ms id 0x100 2)) ∧
    Answers (exec (Instr.chku (eop 5 [] 11776)) (ms (bnd 4 0x200) 5 4)) ∧
    Answers (exec (Instr.chks (eop 5 [] 11808)) (ms (bnd 0xFFFFFFF0 5) 0xFFFFFFFF 0)) ∧
    Answers (exec (Instr.chks (eop 5 [] 11808)) (ms id 0x100 2)) ∧
    Answers (exec (Instr.chklen (eop 5 [] 11777)) (ms id 0x100 2)) ∧
    Answers (exec (Instr.chklen (eop 5 [] 11779)) (ms (bnd 4 0x200) 5 4)) :=
  have hs1 := h.2.2.2.2.2.2.2
  have hs2 := hs1.2.2.2.2.2.2.2
  have hs3 := hs2.2.2.2.2.2.2.2
  ⟨ansE (h.1 (eop 5 [] 7168) (ms id 0x100 2) 0 0 ⟨4, false⟩ 0#32 (meets_of (by decide +kernel)) (by decide +kernel) (by decide +kernel)),
   ansE (all3 (h.2.1 (eop 5 [] 7170) (ms id 0x10000010 4) 0 1 ⟨4, false⟩ 0#32 (meets_of (by decide +kernel))) (by decide +kernel)),
   ansE (h.2.2.1 (eop 5 [] 7680) (ms id 0x100 2) 0 0 ⟨4, false⟩ 0#32 (meets_of (by decide +kernel)) (by decide +kernel) (by decide +kernel)),
   ansE (all3 (h.2.2.2.1 (eop 5 [] 7682) (ms id 0x10000010 4) 0 1 ⟨4, false⟩ 0#32 (meets_of (by decide +kernel))) (by decide +kernel)),
   ansE (h.2.2.2.2.1 (eop 5 [1] 8226) (ms id 0x100 2) 1 1 1 ⟨4, false⟩ false false (meets_of (by decide +kernel)) (by decide +kernel) (by decide +kernel)),
   ansE (h.2.2.2.2.2.1 (eop 5 [1] 8738) (ms id 0x100 2) 1 1 1 ⟨4, false⟩ false false (meets_of (by decide +kernel)) (by decide +kernel) (by decide +kernel)),
   ans1 (h.2.2.2.2.2.2.1 (eop 5 [] 7170) (ms id 0x10000011 4) 0 1 ⟨4, false⟩ 0#32 _ (meets_of (by decide +kernel)) (by decide +kernel) (some_of (by decide +kernel))),
   ans1 (hs1.1 (eop 5 [] 7682) (ms id 0x10000011 4) 0 1 ⟨4, false⟩ 0#32 _ (meets_of (by decide +kernel)) (by decide +kernel) (some_of (by decide +kernel))),
   ans1 (all4 (hs1.2.1 (eop 5 [] 13824) (ms id 0x100 2) 0 0 (meets_of (by decide +kernel))) (by decide +kernel)),
   ans1 (all3 (hs1.2.2.1 (eop 5 [] 13825) (ms (sp 0x120) 0x77777777 5) 0 0 (meets_of (by decide +kernel))) (by decide +kernel)),
   ansE (hs1.2.2.2.1 (eop 5 [] 11264) (ms id 0x100 2) (Str.movs) 0 false none (Instr.movs) (meets_of (by decide +kernel)) (by decide +kernel) (by first | decide +kernel | simp)),
   ansE (hs1.2.2.2.2.1 (eop 5 [] 11264) (ms (strs 0x100 0x110 2 4) 0x85 0x85) 0 false ⟨(meets_of (by decide +kernel)), (by decide +kernel)⟩ (by decide +kernel) (by decide +kernel)),
   ansE (hs1.2.2.2.2.2.1 (eop 5 [] 11296) (ms (strs 0x100 0x110 2 4) 0x85 0x85) 0 false ⟨(meets_of (by decide +kernel)), (by decide +kernel)⟩ (by decide +kernel)),
   ans1 (all3 (hs1.2.2.2.2.2.2.1 (eop 5 [] 11328) (ms (strs 0x100 0x100 2 4) 1 1) 0 false ⟨(meets_of (by decide +kernel)), (by decide +kernel)⟩) (by decide +kernel)),
   ans1 (all3 (hs2.1 (eop 5 [] 11328) (ms (strs 0x100 0x110 2 4) 0x85 0x85) 0 false ⟨(meets_of (by decide +kernel)), (by decide +kernel)⟩) (by decide +kernel)),
   ansE (hs2.2.1 (eop 5 [] 11363) (ms (strs 0x100 0x100 1 1) 0x82 1) 1 true ⟨(meets_of (by decide +kernel)), (by decide +kernel)⟩ (by decide +kernel) (by decide +kernel)),
   ansE (hs2.2.2.1 (eop 5 [] 11360) (ms (strs 0x100 0x110 2 4) 0x85 0x85) 0 false ⟨(meets_of (by decide +kernel)), (by decide +kernel)⟩ (by decide +kernel) (by decide +kernel)),
   ansE (hs2.2.2.2.1 (eop 5 [] 11392) (ms (strs 0x100 0x110 2 4) 0x85 0x85) 0 false ⟨(meets_of (by decide +kernel)), (by decide +kernel)⟩ (by decide +kernel)),
   ansE (hs2.2.2.2.2.1 (eop 5 [] 11776) (ms id 0x100 2) 0 (meets_of (by decide +kernel)) (by decide +kernel) (by decide +kernel)),
   ans1 (hs2.2.2.2.2.2.1 (eop 5 [] 11776) (ms (bnd 4 0x200) 5 4) 0 (meets_of (by decide +kernel)) (by decide +kernel) (by decide +kernel)),
   ansE (hs2.2.2.2.2.2.2.1 (eop 5 [] 11808) (ms (bnd 0xFFFFFFF0 5) 0xFFFFFFFF 0) 0 (meets_of (by decide +kernel)) (by decide +kernel) (by decide +kernel)),
   ans1 (hs3.1 (eop 5 [] 11808) (ms id 0x100 2) 0 (meets_of (by decide +kernel)) (by decide +kernel) (by decide +kernel)),
   ansE (hs3.2.1 (eop 5 [] 11777) (ms id 0x100 2) 0 0 (meets_of (by decide +kernel)) (by decide +kernel)),
   ans1 (all3 (hs3.2.2 (eop 5 [] 11779) (ms (bnd 4 0x200) 5 4) 0 1 (meets_of (by decide +kernel))) (by decide +kernel))⟩

end MemoryInstructions

/-! Obligations.ControlInstructions: its clauses are met, and what they say answers a next state. -/

namespace ControlInstructions

def eop (k : Fin 12) (ext : List (BitVec 9)) (w : Nat) : EngOp := { k := k, ext := ext, w := BitVec.ofNat 16 w, fetch := .clean, data := .clean }
def eg (k : Fin 12) (g1 g2 : Nat) (f : Engine → Engine) (s : State) : State :=
  engAt k (fun e => f { e with state := .run, g := (e.g.set 1 (word g1)).set 2 (word g2), pc := 0x40 }) s
def cs (f : Engine → Engine) (g1 g2 : Nat) (s : State := noon) : State := { eg 5 g1 g2 (fun e => f { e with sa := 11, da := 12, rc := 13, sd := 14, blo := 15, bhi := 16, tpc := 0x77, tst := 0x1FF, epc := 0x99, est := 0x1E3 }) s with sram := memSet [] 0x10000010 [1,2,3] }
def hd (v : Nat) (e : Engine) : Engine := { e with st := word v }
def oem (w : Nat) (ext : List Nat) (uc : List (Nat × Nat)) (s : State) : State :=
  eg 9 5 3 (fun e => { e with ucode := uc, pmem := (((ext.map (0x15 * 512 + ·)) ++ [w] : List Nat)).zipIdx.map fun (p : Nat × Nat) => (0x40 + p.2, BitVec.ofNat _ p.1) }) s
def uc0 (m : Nat) : List (Nat × Nat) := [(0, 2 ^ 39 + 16), (16, m)]

theorem test_control_instructions (h : Obligations.ControlInstructions) :
    Answers (exec (Instr.nopInstruction (eop 5 [] 0)) (cs id 1 2)) ∧
    Answers (exec (Instr.siesta (eop 5 [] 32)) (cs id 1 2)) ∧
    Answers (exec (Instr.wait (eop 5 [] 12800)) (cs id 1 2)) ∧
    Answers (exec (Instr.trap (eop 5 [] 32)) (cs (fun e => { e with mode12 := true, st := 0x200, g := e.g.set 7 (word 0x100), scratch := memSet [] 0x100 [0x34, 0x12, 9, 9] }) 0x12345 2)) ∧
    Answers (exec (Instr.reti (eop 5 [] 96)) (cs (hd 0x80) 0x7F 5)) ∧
    Answers (exec (Instr.reti (eop 5 [] 96)) (cs (hd 0x100) 0xFFFFFFFF 11)) ∧
    Answers (exec (Instr.reti (eop 5 [] 96)) (cs id 1 2)) ∧
    Answers (exec (Instr.fence (eop 5 [] 64)) (cs (fun e => { e with mode12 := true, st := 0x200, g := e.g.set 7 (word 0x100), scratch := memSet [] 0x100 [0x34, 0x12, 9, 9] }) 0x12345 2)) ∧
    Answers (exec (Instr.sync (eop 5 [] 160)) (cs id 1 2)) ∧
    Answers (exec (Instr.sync (eop 5 [] 160)) (cs id 1 2)) ∧
    Answers (exec (Instr.mfs (eop 5 [] 256)) (cs id 1 2)) ∧
    Answers (exec (Instr.mfs (eop 5 [] 288)) (cs id 1 2)) ∧
    Answers (exec (Instr.mfs (eop 5 [] 320)) (cs id 1 2)) ∧
    Answers (exec (Instr.mfs (eop 5 [] 352)) (cs id 1 2)) ∧
    Answers (exec (Instr.mfs (eop 5 [] 384)) (cs id 1 2)) ∧
    Answers (exec (Instr.mfs (eop 5 [] 416)) (cs id 1 2)) ∧
    Answers (exec (Instr.mfs (eop 5 [] 448)) (cs id 1 2)) ∧
    Answers (exec (Instr.mts (eop 5 [] 257)) (cs id 1 2)) ∧
    Answers (exec (Instr.mts (eop 5 [] 289)) (cs id 1 2)) ∧
    Answers (exec (Instr.mts (eop 5 [] 321)) (cs id 1 2)) ∧
    Answers (exec (Instr.mts (eop 5 [] 353)) (cs id 1 2)) ∧
    Answers (exec (Instr.mts (eop 5 [] 385)) (cs id 1 2)) ∧
    Answers (exec (Instr.mts (eop 5 [] 417)) (cs id 1 2)) ∧
    Answers (exec (Instr.mts (eop 5 [] 449)) (cs id 1 2)) ∧
    Answers (exec (Instr.stMove (eop 5 [] 96)) (cs (fun e => { e with mode12 := true, st := 0x200, g := e.g.set 7 (word 0x100), scratch := memSet [] 0x100 [0x34, 0x12, 9, 9] }) 0x12345 2)) ∧
    Answers (exec (Instr.stMove (eop 5 [] 97)) (cs (fun e => { e with mode12 := true, st := 0x200, g := e.g.set 7 (word 0x100), scratch := memSet [] 0x100 [0x34, 0x12, 9, 9] }) 0x12345 2)) ∧
    Answers (exec (Instr.bcc (eop 5 [] 9216)) (cs (hd 0x1F) 0 0x80000010)) ∧
    Answers (exec (Instr.bcc (eop 5 [] 9216)) (cs id 1 2)) ∧
    Answers (exec (Instr.jmp (eop 5 [] 9730)) (cs id 1 2)) ∧
    Answers (exec (Instr.call (eop 5 [] 9731)) (cs id 1 2)) ∧
    Answers (exec (Instr.call (eop 5 [] 2433)) (cs (fun e => { e with mode12 := true, st := 0x200, g := e.g.set 7 (word 0x100), scratch := memSet [] 0x100 [0x34, 0x12, 9, 9] }) 0x12345 2)) ∧
    Answers (exec (Instr.ret (eop 5 [] 112)) (cs (fun e => { e with mode12 := true, st := 0x200, g := e.g.set 7 (word 0x100), scratch := memSet [] 0x100 [0x34, 0x12, 9, 9] }) 0x12345 2)) ∧
    Answers (exec (Instr.signal (eop 5 [] 12832)) (cs id 1 2)) ∧
    Answers (exec (Instr.signal (eop 5 [] 12834)) (cs id 5 9)) ∧
    Answers (exec (Instr.signal (eop 5 [] 12834)) (cs (hd 0x100) 0xFFFFFFFF 11)) ∧
    Answers (exec (Instr.evclr (eop 5 [] 12864)) (cs id 1 2)) ∧
    Answers (exec (Instr.evrd (eop 5 [] 12896)) (cs id 1 2)) ∧
    Answers (exec (Instr.cryi (eop 5 [] 13312)) (cs id 1 2)) ∧
    Answers (exec (Instr.cryi (eop 1 [] 13312)) (eg 1 1 1 id noon)) ∧
    Answers (exec (Instr.crys (eop 5 [] 13313)) (cs id 1 2)) ∧
    Answers (exec (Instr.crys (eop 1 [] 13313)) (eg 1 1 1 id noon)) ∧
    Answers (exec (Instr.udn (eop 9 [] 15874)) (oem 15874 [] (uc0 (5 * 2^36)) noon)) ∧
    Answers (exec (Instr.udn (eop 9 [] 15874)) (oem 15874 [] (uc0 (0 * 2^32 + 8 * 2^28 + 8 * 2^24 + 10 * 2^20 + 7)) noon)) ∧
    Answers (exec (Instr.udn (eop 9 [] 15874)) (oem 15874 [] [] noon)) ∧
    Answers (exec (Instr.und (eop 5 [] 1)) (cs id 1 2)) ∧
    Answers (exec (Instr.und (eop 5 [] 0)) (cs (fun e => { e with pc := 0xC000 }) 1 2)) ∧
    Answers (exec (Instr.und (eop 5 [] 0)) (cs (fun e => { e with pc := 0xC000 }) 1 2)) :=
  have hs1 := h.2.2.2.2.2.2.2
  have hs2 := hs1.2.2.2.2.2.2.2
  have hs3 := hs2.2.2.2.2.2.2.2
  have hs4 := hs3.2.2.2.2.2.2.2
  have hs5 := hs4.2.2.2.2.2.2.2
  have hs6 := hs5.2.2.2.2.2.2.2
  ⟨ansE (h.1 (eop 5 [] 0) (cs id 1 2) (meets_of (by decide +kernel))),
   ansIf (h.2.1 (eop 5 [] 32) (cs id 1 2) (meets_of (by decide +kernel))),
   ansIf (h.2.2.1 (eop 5 [] 12800) (cs id 1 2) 0 (meets_of (by decide +kernel))),
   ans1 (h.2.2.2.1 (eop 5 [] 32) (cs (fun e => { e with mode12 := true, st := 0x200, g := e.g.set 7 (word 0x100), scratch := memSet [] 0x100 [0x34, 0x12, 9, 9] }) 0x12345 2) 0 (meets_of (by decide +kernel)) (by decide +kernel)),
   ansE (h.2.2.2.2.1 (eop 5 [] 96) (cs (hd 0x80) 0x7F 5) (meets_of (by decide +kernel)) (by decide +kernel)),
   ansE (h.2.2.2.2.2.1 (eop 5 [] 96) (cs (hd 0x100) 0xFFFFFFFF 11) (meets_of (by decide +kernel)) (by decide +kernel) (by decide +kernel)),
   ans1 (h.2.2.2.2.2.2.1 (eop 5 [] 96) (cs id 1 2) (meets_of (by decide +kernel)) (by decide +kernel) (by decide +kernel)),
   ansE (hs1.1 (eop 5 [] 64) (cs (fun e => { e with mode12 := true, st := 0x200, g := e.g.set 7 (word 0x100), scratch := memSet [] 0x100 [0x34, 0x12, 9, 9] }) 0x12345 2) (meets_of (by decide +kernel)) (by decide +kernel)),
   ansE (hs1.2.1 (eop 5 [] 160) (cs id 1 2) (meets_of (by decide +kernel)) (by decide +kernel)),
   ansE (hs1.2.2.1 (eop 5 [] 160) (cs id 1 2) (Instr.sync (eop 5 [] 160)) (.inl ⟨meets_of (by decide +kernel), rfl⟩) (by decide +kernel)),
   ansE (hs1.2.2.2.1 (eop 5 [] 256) (cs id 1 2) 0 (meets_of (by decide +kernel))),
   ansE (hs1.2.2.2.2.1 (eop 5 [] 288) (cs id 1 2) 0 (meets_of (by decide +kernel))),
   ansE (hs1.2.2.2.2.2.1 (eop 5 [] 320) (cs id 1 2) 0 (meets_of (by decide +kernel))),
   ansE (hs1.2.2.2.2.2.2.1 (eop 5 [] 352) (cs id 1 2) 0 (meets_of (by decide +kernel))),
   ansE (hs2.1 (eop 5 [] 384) (cs id 1 2) 0 (meets_of (by decide +kernel))),
   ansE (hs2.2.1 (eop 5 [] 416) (cs id 1 2) 0 (meets_of (by decide +kernel))),
   ansE (hs2.2.2.1 (eop 5 [] 448) (cs id 1 2) 0 (meets_of (by decide +kernel))),
   ansE (hs2.2.2.2.1 (eop 5 [] 257) (cs id 1 2) 0 (meets_of (by decide +kernel)) (by decide +kernel)),
   ansE (hs2.2.2.2.2.1 (eop 5 [] 289) (cs id 1 2) 0 (meets_of (by decide +kernel))),
   ansE (hs2.2.2.2.2.2.1 (eop 5 [] 321) (cs id 1 2) 0 (meets_of (by decide +kernel))),
   ansE (hs2.2.2.2.2.2.2.1 (eop 5 [] 353) (cs id 1 2) 0 (meets_of (by decide +kernel))),
   ansE (hs3.1 (eop 5 [] 385) (cs id 1 2) 0 (meets_of (by decide +kernel))),
   ansE (hs3.2.1 (eop 5 [] 417) (cs id 1 2) 0 (meets_of (by decide +kernel))),
   ansE (hs3.2.2.1 (eop 5 [] 449) (cs id 1 2) 0 (meets_of (by decide +kernel))),
   ansE (hs3.2.2.2.1 (eop 5 [] 96) (cs (fun e => { e with mode12 := true, st := 0x200, g := e.g.set 7 (word 0x100), scratch := memSet [] 0x100 [0x34, 0x12, 9, 9] }) 0x12345 2) 0 (meets_of (by decide +kernel))),
   ansE (hs3.2.2.2.2.1 (eop 5 [] 97) (cs (fun e => { e with mode12 := true, st := 0x200, g := e.g.set 7 (word 0x100), scratch := memSet [] 0x100 [0x34, 0x12, 9, 9] }) 0x12345 2) 0 (meets_of (by decide +kernel)) (by decide +kernel)),
   ansE (hs3.2.2.2.2.2.1 (eop 5 [] 9216) (cs (hd 0x1F) 0 0x80000010) 0 0#32 (meets_of (by decide +kernel)) (by decide +kernel)),
   ansE (hs3.2.2.2.2.2.2.1 (eop 5 [] 9216) (cs id 1 2) 0 0#32 (meets_of (by decide +kernel)) (by decide +kernel)),
   ansE (hs4.1 (eop 5 [] 9730) (cs id 1 2) (.reg 1) (meets_of (by decide +kernel))),
   ansE (hs4.2.1 (eop 5 [] 9731) (cs id 1 2) (.reg 1) (meets_of (by decide +kernel)) (by decide +kernel)),
   ansE (all4 (hs4.2.2.1 (eop 5 [] 2433) (cs (fun e => { e with mode12 := true, st := 0x200, g := e.g.set 7 (word 0x100), scratch := memSet [] 0x100 [0x34, 0x12, 9, 9] }) 0x12345 2) (.reg 0) (meets_of (by decide +kernel))) (by decide +kernel)),
   ansE (hs4.2.2.2.1 (eop 5 [] 112) (cs (fun e => { e with mode12 := true, st := 0x200, g := e.g.set 7 (word 0x100), scratch := memSet [] 0x100 [0x34, 0x12, 9, 9] }) 0x12345 2) (meets_of (by decide +kernel)) (by decide +kernel) (by decide +kernel)),
   ansE (all3 (hs4.2.2.2.2.1 (eop 5 [] 12832) (cs id 1 2) 0 0 (meets_of (by decide +kernel))) (by decide +kernel)),
   ans1 (hs4.2.2.2.2.2.1 (eop 5 [] 12834) (cs id 5 9) 1 (meets_of (by decide +kernel)) (by decide +kernel)),
   ans1 (hs4.2.2.2.2.2.2.1 (eop 5 [] 12834) (cs (hd 0x100) 0xFFFFFFFF 11) 1 (meets_of (by decide +kernel)) (by decide +kernel) (by decide +kernel)),
   ansE (hs5.1 (eop 5 [] 12864) (cs id 1 2) 0 (meets_of (by decide +kernel))),
   ansE (hs5.2.1 (eop 5 [] 12896) (cs id 1 2) 0 (meets_of (by decide +kernel))),
   ansE (hs5.2.2.1 (eop 5 [] 13312) (cs id 1 2) 0 (meets_of (by decide +kernel)) (by decide +kernel) (by decide +kernel)),
   ans1 (hs5.2.2.2.1 (eop 1 [] 13312) (eg 1 1 1 id noon) 0 (meets_of (by decide +kernel)) (by decide +kernel) (by decide +kernel)),
   ansE (hs5.2.2.2.2.1 (eop 5 [] 13313) (cs id 1 2) 0 (meets_of (by decide +kernel)) (by decide +kernel)),
   ans1 (hs5.2.2.2.2.2.1 (eop 1 [] 13313) (eg 1 1 1 id noon) 0 (meets_of (by decide +kernel)) (by decide +kernel) (by decide +kernel)),
   ansE (all3 (hs5.2.2.2.2.2.2.1 (eop 9 [] 15874) (oem 15874 [] (uc0 (5 * 2^36)) noon) 0 1 false none 0 16 (meets_of (by decide +kernel))) (by decide +kernel)),
   ansE (all3 (hs6.1 (eop 9 [] 15874) (oem 15874 [] (uc0 (0 * 2^32 + 8 * 2^28 + 8 * 2^24 + 10 * 2^20 + 7)) noon) 0 1 false none 0 16 (meets_of (by decide +kernel))) (by decide +kernel)),
   ans1 (hs6.2.1 (eop 9 [] 15874) (oem 15874 [] [] noon) 0 1 false none 0 (meets_of (by decide +kernel)) (by decide +kernel) (by decide +kernel)),
   ans1 ((all4 (hs6.2.2.1 (eop 5 [] 1) (cs id 1 2) _ ⟨(by decide +kernel), ⟨(link_of (by decide +kernel)), (by decide +kernel)⟩⟩) (by decide +kernel)) (err_of (by decide +kernel))),
   ans1 (hs6.2.2.2.1 (eop 5 [] 0) (cs (fun e => { e with pc := 0xC000 }) 1 2) ⟨(by decide +kernel), ⟨(link_of (by decide +kernel)), (by decide +kernel)⟩⟩ (by decide +kernel)),
   ans1 (hs6.2.2.2.2.1 (eop 5 [] 0) (cs (fun e => { e with pc := 0xC000 }) 1 2) _ ⟨(by decide +kernel), ⟨(link_of (by decide +kernel)), (by decide +kernel)⟩⟩ (some_of (by decide +kernel)))⟩

end ControlInstructions

/-! Obligations.EngineEvents: its clauses are met, and what they say answers a next state. -/

namespace EngineEvents

def code : Bytes := [1, 2, 3, 4]
def hd0 : Bytes := le 4 0x494A5A4F ++ [1, 0, 1, 0] ++ le 4 2 ++ le 2 1 ++ [0,0] ++ le 4 (crc32c (code ++ [1,2,3,4,5])).toNat ++ zeros 8
def img : Bytes := hd0 ++ le 4 (crc32c hd0).toNat ++ code ++ [1,2,3,4,5]
def auto : State := engAt 9 (fun e => { e with restartDue := true, autostart := some 2 }) { noon with fer := { noon.fer with regions := modAt 2 (fun g => { g with start := 3, pages := 4, image := true }) noon.fer.regions, mem := img.zipIdx.map fun (p : Byte × Nat) => ((1376 + 3) * 256 + p.2, p.1) } }
def wdw (op : Byte) (pl : Bytes) : State := engAt 5 (fun e => { e with state := .run, wdtStage1 := true }) (withWorks [wk op .running pl 1 5] noon)

theorem test_engine_events (h : Obligations.EngineEvents) :
    Answers (exec (Instr.eventEntry 0) (reg [(engAddr 0 0x34, 6)] (engAt 0 (fun e => { e with state := .run, st := 0x4F, evtPend := 2, pc := 0x77 }) noon))) ∧
    Answers (exec (Instr.eventEntry 0) (wdw 0x31 [])) ∧
    Answers (exec (Instr.wdtFirstExpiry 0) (engAt 0 (fun e => { e with state := .run }) noon)) ∧
    Answers (exec (Instr.wdtFirstExpiry 0) (reg [(engAddr 0 0x34, 6)] (engAt 0 (fun e => { e with state := .run, st := 0xCF, evtPend := 2, pc := 0x77 }) noon))) ∧
    Answers (exec (Instr.wdtFirstExpiry 0) (wdw 0x31 [])) ∧
    Answers (exec (Instr.wdtSecondExpiry 5) (wdw 0x31 [])) ∧
    Answers (exec (Instr.wdtSecondExpiry 5) (wdw 0x31 [])) ∧
    Answers (exec (Instr.wdtSecondExpiry 0) (wdw 0x31 [])) ∧
    Answers (exec (Instr.engineRestart 5) (engAt 5 (fun e => { e with restartDue := true }) noon)) ∧
    Answers (exec (Instr.engineRestart 0) (engAt 0 (fun e => { e with restartDue := true }) noon)) ∧
    Answers (exec (Instr.engineRestart 9) auto) ∧
    Answers (exec (Instr.engineRestart 0) (wdw 0x31 [])) ∧
    Answers (exec (Instr.engineRunAction 0) (engAt 0 (fun e => { e with pmemValid := true }) noon)) ∧
    Answers (exec (Instr.engineRunAction 0) (engAt 0 (fun e => { e with state := .siesta, forced := true }) noon)) ∧
    Answers (exec (Instr.engineRunAction 0) (wdw 0x31 [])) ∧
    Answers (exec (Instr.engineSiestaAction 5) (wdw 0x31 [])) ∧
    Answers (exec (Instr.engineSiestaAction 0) (wdw 0x31 [])) ∧
    Answers (exec (Instr.engineResetAction 5) (wdw 0x31 [])) ∧
    Answers (exec (Instr.engineResetAction 0) (wdw 0x31 [])) ∧
    Answers (exec (Instr.wdkick 0 0x5A5A) (wdw 0x31 [])) ∧
    Answers (exec (Instr.send 0) (wdw 0x31 [])) ∧
    Answers (exec (Instr.send 9) (reg [(engAddr 9 0x70, 261)] noon)) ∧
    Answers (exec (Instr.send 0) (reg [(engAddr 0 0x70, 256)] noon)) ∧
    Answers (exec (Instr.send 0) (reg [(engAddr 0 0x70, 0x10 + 5)] (engAt 5 (fun e => { e with inbox := List.replicate 4 { src := 3, data := [1] } }) noon))) ∧
    Answers (exec (Instr.send 9) (reg [(engAddr 9 0x70, 268)] noon)) ∧
    Answers (exec (Instr.mbxPop 0) (wdw 0x31 [])) ∧
    Answers (exec (Instr.mbxPop 0) (engAt 0 (fun e => { e with state := .run, wdtStage1 := true, inbox := [{ src := 1, data := [1] }], pmem := [(5, 5)], scratch := [(1, 1)] }) noon)) ∧
    Answers (exec (Instr.ucLo 9 0x5A5A) (engAt 9 (fun e => { e with state := .siesta, forced := true }) noon)) ∧
    Answers (exec (Instr.ucLo 0 0x5A5A) (wdw 0x31 [])) ∧
    Answers (exec (Instr.wdtFirstExpiry 0) State.reset) :=
  have hs1 := h.2.2.2.2.2.2.2
  have hs2 := hs1.2.2.2.2.2.2.2
  have hs3 := hs2.2.2.2.2.2.2.2
  have hs4 := hs3.2.2.2.2.2.2.2
  ⟨ansE (h.1 (reg [(engAddr 0 0x34, 6)] (engAt 0 (fun e => { e with state := .run, st := 0x4F, evtPend := 2, pc := 0x77 }) noon)) 0 ⟨(by decide +kernel), link_of (by decide +kernel)⟩ (by decide +kernel)),
   ansE (h.2.1 (wdw 0x31 []) 0 (link_of (by decide +kernel)) (by decide +kernel)),
   ans1 (h.2.2.1 (engAt 0 (fun e => { e with state := .run }) noon) 0 ⟨(by decide +kernel), link_of (by decide +kernel)⟩ (by decide +kernel) (by decide +kernel)),
   ans1 (h.2.2.2.1 (reg [(engAddr 0 0x34, 6)] (engAt 0 (fun e => { e with state := .run, st := 0xCF, evtPend := 2, pc := 0x77 }) noon)) 0 ⟨(by decide +kernel), link_of (by decide +kernel)⟩ (by decide +kernel) (by decide +kernel)),
   ansE (h.2.2.2.2.1 (wdw 0x31 []) 0 (link_of (by decide +kernel)) (by decide +kernel)),
   ans1 (all5 (h.2.2.2.2.2.1 (wdw 0x31 []) 5 ⟨(by decide +kernel), link_of (by decide +kernel)⟩) (by decide +kernel)),
   ans1 (all5 ((all3 ((all6 (h.2.2.2.2.2.2.1 (wdw 0x31 []) 5 _ ⟨(by decide +kernel), link_of (by decide +kernel)⟩) (by decide +kernel))) (by decide +kernel)) (cons_of (by decide +kernel))) (by decide +kernel)),
   ansE (hs1.1 (wdw 0x31 []) 0 (link_of (by decide +kernel)) (by decide +kernel)),
   ansE (all4 (hs1.2.1 (engAt 5 (fun e => { e with restartDue := true }) noon) 5 ⟨(by decide +kernel), link_of (by decide +kernel)⟩) (by decide +kernel)),
   ansE (hs1.2.2.1 (engAt 0 (fun e => { e with restartDue := true }) noon) ⟨(by decide +kernel), link_of (by decide +kernel)⟩ (by decide +kernel) (by decide +kernel)),
   ansE (hs1.2.2.2.1 auto 9 _ _ ⟨(by decide +kernel), link_of (by decide +kernel)⟩ (by decide +kernel) (by decide +kernel) (some_of (by decide +kernel)) (ok_of (by decide +kernel))),
   ansE (hs1.2.2.2.2.1 (wdw 0x31 []) 0 (link_of (by decide +kernel)) (by decide +kernel)),
   ansE (hs1.2.2.2.2.2.1 (engAt 0 (fun e => { e with pmemValid := true }) noon) 0 ⟨(by decide +kernel), link_of (by decide +kernel)⟩ (by decide +kernel) (by decide +kernel)),
   ansE (all3 (hs1.2.2.2.2.2.2.1 (engAt 0 (fun e => { e with state := .siesta, forced := true }) noon) 0 ⟨(by decide +kernel), link_of (by decide +kernel)⟩) (by decide +kernel)),
   ansE (hs2.1 (wdw 0x31 []) 0 (link_of (by decide +kernel)) (by decide +kernel)),
   ansE (hs2.2.1 (wdw 0x31 []) 5 ⟨(by decide +kernel), link_of (by decide +kernel)⟩ (by decide +kernel)),
   ansE (hs2.2.2.1 (wdw 0x31 []) 0 (link_of (by decide +kernel)) (by decide +kernel)),
   ans1 (hs2.2.2.2.1 (wdw 0x31 []) 5 ⟨(by decide +kernel), link_of (by decide +kernel)⟩ (by decide +kernel) (by decide +kernel)),
   ans1 (hs2.2.2.2.2.1 (wdw 0x31 []) ⟨(by decide +kernel), link_of (by decide +kernel)⟩ (by decide +kernel)),
   ansE (hs2.2.2.2.2.2.1 (wdw 0x31 []) 0 0x5A5A ⟨(by decide +kernel), link_of (by decide +kernel)⟩),
   ans1 (hs2.2.2.2.2.2.2.1 (wdw 0x31 []) 0 ⟨(by decide +kernel), link_of (by decide +kernel)⟩ (by decide +kernel)),
   ans1 (hs3.1 (reg [(engAddr 9 0x70, 261)] noon) 9 ⟨(by decide +kernel), link_of (by decide +kernel)⟩ (by decide +kernel) (by decide +kernel)),
   ans1 (all4 (hs3.2.1 (reg [(engAddr 0 0x70, 256)] noon) 0 0 ⟨(by decide +kernel), link_of (by decide +kernel)⟩) (by decide +kernel)),
   ans1 (all4 (hs3.2.2.1 (reg [(engAddr 0 0x70, 0x10 + 5)] (engAt 5 (fun e => { e with inbox := List.replicate 4 { src := 3, data := [1] } }) noon)) 0 5 ⟨(by decide +kernel), link_of (by decide +kernel)⟩) (by decide +kernel)),
   ans1 (all4 (hs3.2.2.2.1 (reg [(engAddr 9 0x70, 268)] noon) 9 ⟨(by decide +kernel), link_of (by decide +kernel)⟩) (by decide +kernel)),
   ansE (hs3.2.2.2.2.1 (wdw 0x31 []) 0 (link_of (by decide +kernel)) (by decide +kernel)),
   ans1 (hs3.2.2.2.2.2.1 (engAt 0 (fun e => { e with state := .run, wdtStage1 := true, inbox := [{ src := 1, data := [1] }], pmem := [(5, 5)], scratch := [(1, 1)] }) noon) 0 _ _ ⟨(by decide +kernel), link_of (by decide +kernel)⟩ (cons_of (by decide +kernel))),
   ans1 (all3 (hs3.2.2.2.2.2.2.1 (engAt 9 (fun e => { e with state := .siesta, forced := true }) noon) 9 0x5A5A ⟨(by decide +kernel), link_of (by decide +kernel)⟩) (by decide +kernel)),
   ansE (hs4.1 (wdw 0x31 []) 0 0x5A5A (link_of (by decide +kernel)) (by decide +kernel)),
   ansE (hs4.2 State.reset 0 0x5A5A (link_of (by decide +kernel)) (by decide +kernel) (Instr.wdtFirstExpiry 0) (.head _))⟩

end EngineEvents

/-! Obligations.ArithmeticInstructions: its clauses are met, and what they say answers a next state. -/

namespace ArithmeticInstructions

def eop (k : Fin 12) (ext : List (BitVec 9)) (w : Nat) : EngOp := { k := k, ext := ext, w := BitVec.ofNat 16 w, fetch := .clean, data := .clean }
def eg (k : Fin 12) (g1 g2 : Nat) (f : Engine → Engine) (s : State) : State :=
  engAt k (fun e => f { e with state := .run, g := (e.g.set 1 (word g1)).set 2 (word g2), pc := 0x40 }) s

theorem test_arithmetic_instructions (h : Obligations.ArithmeticInstructions) :
    Answers (exec (Instr.mov (eop 5 [] 546)) (eg 5 5 3 (fun e => { e with st := 44 }) noon)) ∧
    Answers (exec (Instr.movi (eop 5 [] 547)) (eg 5 5 3 (fun e => { e with st := 44 }) noon)) ∧
    Answers (exec (Instr.add (eop 5 [] 1058)) (eg 5 5 3 (fun e => { e with st := 44 }) noon)) ∧
    Answers (exec (Instr.adc (eop 5 [] 2082)) (eg 5 5 3 (fun e => { e with st := 44 }) noon)) ∧
    Answers (exec (Instr.sub (eop 5 [] 1570)) (eg 5 5 3 (fun e => { e with st := 44 }) noon)) ∧
    Answers (exec (Instr.sbc (eop 5 [] 2083)) (eg 5 5 3 (fun e => { e with st := 44 }) noon)) ∧
    Answers (exec (Instr.and (eop 5 [] 2594)) (eg 5 5 3 (fun e => { e with st := 44 }) noon)) ∧
    Answers (exec (Instr.or (eop 5 [] 3106)) (eg 5 5 3 (fun e => { e with st := 44 }) noon)) ∧
    Answers (exec (Instr.xor (eop 5 [] 3618)) (eg 5 5 3 (fun e => { e with st := 44 }) noon)) ∧
    Answers (exec (Instr.cmp (eop 5 [] 5666)) (eg 5 5 3 (fun e => { e with st := 44 }) noon)) ∧
    Answers (exec (Instr.tst (eop 5 [] 5667)) (eg 5 5 3 (fun e => { e with st := 44 }) noon)) ∧
    Answers (exec (Instr.addi (eop 5 [] 6690)) (eg 5 5 3 (fun e => { e with st := 44 }) noon)) ∧
    Answers (exec (Instr.addi (eop 5 [] 6691)) (eg 5 5 3 (fun e => { e with st := 44 }) noon)) ∧
    Answers (exec (Instr.neg (eop 5 [] 6176)) (eg 5 5 3 (fun e => { e with st := 44 }) noon)) ∧
    Answers (exec (Instr.not (eop 5 [] 6178)) (eg 5 5 3 (fun e => { e with st := 44 }) noon)) ∧
    Answers (exec (Instr.abs (eop 5 [] 6180)) (eg 5 5 3 (fun e => { e with st := 44 }) noon)) ∧
    Answers (exec (Instr.clz (eop 5 [] 6182)) (eg 5 5 3 (fun e => { e with st := 44 }) noon)) ∧
    Answers (exec ((Instr.lsl) (eop 5 [] 4128)) (eg 5 5 3 (fun e => { e with st := 44 }) noon)) ∧
    Answers (exec (Instr.lsl (eop 5 [2] 4128)) (eg 5 5 3 (fun e => { e with st := 44 }) noon)) ∧
    Answers (exec (Instr.lsr (eop 5 [2] 4136)) (eg 5 5 3 (fun e => { e with st := 44 }) noon)) ∧
    Answers (exec (Instr.asr (eop 5 [2] 4144)) (eg 5 5 3 (fun e => { e with st := 44 }) noon)) ∧
    Answers (exec (Instr.ror (eop 5 [2] 4152)) (eg 5 5 3 (fun e => { e with st := 44 }) noon)) ∧
    Answers (exec (Instr.mul (eop 5 [] 4642)) (eg 5 5 3 (fun e => { e with st := 44 }) noon)) ∧
    Answers (exec (Instr.mulh (eop 5 [] 4643)) (eg 5 5 3 (fun e => { e with st := 44 }) noon)) ∧
    Answers (exec (Instr.mulhu (eop 5 [1] 4643)) (eg 5 5 3 (fun e => { e with st := 44 }) noon)) ∧
    Answers (exec (if false = true then Instr.rem (eop 5 [] 5154) else Instr.div (eop 5 [] 5154)) (eg 5 5 3 (fun e => { e with st := 44 }) noon)) ∧
    Answers (exec (if false = true then Instr.rem (eop 5 [] 5156) else Instr.div (eop 5 [] 5156)) (eg 5 2147483648 4294967295 (fun e => { e with st := 0 }) noon)) ∧
    Answers (exec (if false = true then Instr.rem (eop 5 [] 5156) else Instr.div (eop 5 [] 5156)) (eg 5 7 0 (fun e => { e with st := 0 }) noon)) ∧
    Answers (exec (if false = true then Instr.rem (eop 5 [] 5156) else Instr.div (eop 5 [] 5156)) (eg 5 7 0 (fun e => { e with st := 32 }) noon)) ∧
    Answers (exec (Instr.bset (eop 5 [] 12320)) (eg 5 5 3 (fun e => { e with st := 44 }) noon)) ∧
    Answers (exec (Instr.bclr (eop 5 [] 12321)) (eg 5 5 3 (fun e => { e with st := 44 }) noon)) ∧
    Answers (exec (Instr.btst (eop 5 [2] 12320)) (eg 5 5 3 (fun e => { e with st := 44 }) noon)) :=
  have hs1 := h.2.2.2.2.2.2.2
  have hs2 := hs1.2.2.2.2.2.2.2
  have hs3 := hs2.2.2.2.2.2.2.2
  have hs4 := hs3.2.2.2.2.2.2.2
  ⟨ansE (h.1 (eop 5 [] 546) (eg 5 5 3 (fun e => { e with st := 44 }) noon) 1 1 (meets_of (by decide +kernel))),
   ansE (h.2.1 (eop 5 [] 547) (eg 5 5 3 (fun e => { e with st := 44 }) noon) 1 1#32 (meets_of (by decide +kernel))),
   ans1 (h.2.2.1 (eop 5 [] 1058) (eg 5 5 3 (fun e => { e with st := 44 }) noon) 1 (.reg 1) (meets_of (by decide +kernel))),
   ans1 (h.2.2.2.1 (eop 5 [] 2082) (eg 5 5 3 (fun e => { e with st := 44 }) noon) 1 (.reg 1) (meets_of (by decide +kernel))),
   ans1 (h.2.2.2.2.1 (eop 5 [] 1570) (eg 5 5 3 (fun e => { e with st := 44 }) noon) 1 (.reg 1) (meets_of (by decide +kernel))),
   ans1 (h.2.2.2.2.2.1 (eop 5 [] 2083) (eg 5 5 3 (fun e => { e with st := 44 }) noon) 1 (.reg 1) (meets_of (by decide +kernel))),
   ans1 (h.2.2.2.2.2.2.1 (eop 5 [] 2594) (eg 5 5 3 (fun e => { e with st := 44 }) noon) 1 (.reg 1) (meets_of (by decide +kernel))),
   ans1 (hs1.1 (eop 5 [] 3106) (eg 5 5 3 (fun e => { e with st := 44 }) noon) 1 (.reg 1) (meets_of (by decide +kernel))),
   ans1 (hs1.2.1 (eop 5 [] 3618) (eg 5 5 3 (fun e => { e with st := 44 }) noon) 1 (.reg 1) (meets_of (by decide +kernel))),
   ans1 (hs1.2.2.1 (eop 5 [] 5666) (eg 5 5 3 (fun e => { e with st := 44 }) noon) 1 (.reg 1) (meets_of (by decide +kernel))),
   ans1 (hs1.2.2.2.1 (eop 5 [] 5667) (eg 5 5 3 (fun e => { e with st := 44 }) noon) 1 (.reg 1) (meets_of (by decide +kernel))),
   ans1 (hs1.2.2.2.2.1 (eop 5 [] 6690) (eg 5 5 3 (fun e => { e with st := 44 }) noon) 1 (1) (meets_of (by decide +kernel))),
   ansE (hs1.2.2.2.2.2.1 (eop 5 [] 6691) (eg 5 5 3 (fun e => { e with st := 44 }) noon) 1 (1) (meets_of (by decide +kernel))),
   ans1 (hs1.2.2.2.2.2.2.1 (eop 5 [] 6176) (eg 5 5 3 (fun e => { e with st := 44 }) noon) 1 (meets_of (by decide +kernel))),
   ans1 (hs2.1 (eop 5 [] 6178) (eg 5 5 3 (fun e => { e with st := 44 }) noon) 1 (meets_of (by decide +kernel))),
   ans1 (hs2.2.1 (eop 5 [] 6180) (eg 5 5 3 (fun e => { e with st := 44 }) noon) 1 (meets_of (by decide +kernel))),
   (by obtain ⟨_, _, _, _, st, hx, _⟩ := hs2.2.2.1 (eop 5 [] 6182) (eg 5 5 3 (fun e => { e with st := 44 }) noon) 1 (meets_of (by decide +kernel)); exact ⟨_, hx⟩),
   ans1 (hs2.2.2.2.1 (eop 5 [] 4128) (eg 5 5 3 (fun e => { e with st := 44 }) noon) 1 (.reg 0) (Shf.lsl) (Instr.lsl) (meets_of (by decide +kernel)) (by decide +kernel) (by first | decide +kernel | simp)),
   ans1 (hs2.2.2.2.2.1 (eop 5 [2] 4128) (eg 5 5 3 (fun e => { e with st := 44 }) noon) 1 (.reg 2) (meets_of (by decide +kernel)) (by decide +kernel)),
   ans1 (hs2.2.2.2.2.2.1 (eop 5 [2] 4136) (eg 5 5 3 (fun e => { e with st := 44 }) noon) 1 (.reg 2) (meets_of (by decide +kernel)) (by decide +kernel)),
   ans1 (hs2.2.2.2.2.2.2.1 (eop 5 [2] 4144) (eg 5 5 3 (fun e => { e with st := 44 }) noon) 1 (.reg 2) (meets_of (by decide +kernel)) (by decide +kernel)),
   ans1 (hs3.1 (eop 5 [2] 4152) (eg 5 5 3 (fun e => { e with st := 44 }) noon) 1 (.reg 2) (meets_of (by decide +kernel)) (by decide +kernel)),
   ans1 (hs3.2.1 (eop 5 [] 4642) (eg 5 5 3 (fun e => { e with st := 44 }) noon) 1 1 (meets_of (by decide +kernel))),
   ans1 (hs3.2.2.1 (eop 5 [] 4643) (eg 5 5 3 (fun e => { e with st := 44 }) noon) 1 1 (meets_of (by decide +kernel))),
   ans1 (hs3.2.2.2.1 (eop 5 [1] 4643) (eg 5 5 3 (fun e => { e with st := 44 }) noon) 1 1 (meets_of (by decide +kernel))),
   ans1 (hs3.2.2.2.2.1 (eop 5 [] 5154) (eg 5 5 3 (fun e => { e with st := 44 }) noon) false false 1 1 (meets_of (by decide +kernel)) (by decide +kernel) (by decide +kernel)),
   ans1 (hs3.2.2.2.2.2.1 (eop 5 [] 5156) (eg 5 2147483648 4294967295 (fun e => { e with st := 0 }) noon) false 1 2 (meets_of (by decide +kernel)) (by decide +kernel) (by decide +kernel)),
   ans1 (hs3.2.2.2.2.2.2.1 (eop 5 [] 5156) (eg 5 7 0 (fun e => { e with st := 0 }) noon) false false 1 2 (meets_of (by decide +kernel)) (by decide +kernel) (by decide +kernel)),
   ans1 (all4 (hs4.1 (eop 5 [] 5156) (eg 5 7 0 (fun e => { e with st := 32 }) noon) false false 1 2 (meets_of (by decide +kernel))) (by decide +kernel)),
   ans1 (hs4.2.1 (eop 5 [] 12320) (eg 5 5 3 (fun e => { e with st := 44 }) noon) 1 0 (meets_of (by decide +kernel)) (by decide +kernel)),
   ans1 (hs4.2.2.1 (eop 5 [] 12321) (eg 5 5 3 (fun e => { e with st := 44 }) noon) 1 0 (meets_of (by decide +kernel)) (by decide +kernel)),
   ans1 (hs4.2.2.2 (eop 5 [2] 12320) (eg 5 5 3 (fun e => { e with st := 44 }) noon) 1 0 (meets_of (by decide +kernel)))⟩

end ArithmeticInstructions

/-! Obligations.RegisterSpace: its clauses are met, and what they say answers a next state. -/

namespace RegisterSpace

theorem test_register_space (h : Obligations.RegisterSpace) :
    Answers (exec (Instr.rcRegisterRead Requester.host 0x40000018) noon) ∧
    Answers (exec (Instr.rcRegisterRead (Requester.engine 0) 0x40000018) noon) ∧
    Answers (exec (Instr.rcRegisterRead (Requester.engine 9) 0x40000018) noon) ∧
    Answers (exec (Instr.rcRegisterRead .host 0x4006000c) noon) ∧
    Answers (exec (Instr.registerWrite Requester.host 0x4006000c 0) noon) ∧
    Answers (exec (Instr.registerWrite Requester.host 0x40090008 0) noon) ∧
    Answers (exec (Instr.registerWrite Requester.host 0x40010000 0) noon) ∧
    Answers (exec (Instr.registerWrite Requester.host 0x40000018 0) noon) ∧
    Answers (exec (Instr.registerWrite (Requester.engine 0) 0x40000018 0) noon) ∧
    Answers (exec (Instr.registerWrite (Requester.engine 9) 0x40000018 0) noon) ∧
    Answers (exec (Instr.registerWrite Requester.v1 0x40000018 0) (reg [(0x40010014, 0)] noon)) ∧
    Answers (exec (Instr.registerWrite Requester.debug 0x40000018 0) noon) :=
  have hs1 := h.2.2.2.2.2.2.2
  ⟨ans1 (h.1 noon 0x40000018 _ (by decide +kernel) (by decide +kernel) (some_of (by decide +kernel)) (by decide +kernel)),
   ans1 ((all3 (h.2.1 noon 0 0x40000018 _) (by decide +kernel)) (some_of (by decide +kernel)) (by decide +kernel)),
   ansE (h.2.2.1 noon 9 0x40000018 (link_of (by decide +kernel)) (by decide +kernel) (by decide +kernel)),
   ansE (h.2.2.2.1 noon .host 0x4006000c (link_of (by decide +kernel)) (by decide +kernel) (by decide +kernel)),
   ans1 (all3 ((all3 (h.2.2.2.2.1 noon 0x4006000c 0 _) (by decide +kernel)) (some_of (by decide +kernel))) (by decide +kernel)),
   ans1 (all3 ((all3 (h.2.2.2.2.2.1 noon 0x40090008 0 _) (by decide +kernel)) (some_of (by decide +kernel))) (by decide +kernel)),
   ansE ((all4 (h.2.2.2.2.2.2.1 noon 0x40010000 0) (by decide +kernel)) (link_of (by decide +kernel))),
   ansE (hs1.1 noon 0x40000018 0 (link_of (by decide +kernel)) (by decide +kernel)),
   ans1 ((all4 (hs1.2.1 noon 0 0x40000018 0 _ _) (by decide +kernel)) (some_of (by decide +kernel))),
   ansE (hs1.2.2.1 noon 9 0x40000018 0 (link_of (by decide +kernel)) (by decide +kernel)),
   ansE (hs1.2.2.2.1 (reg [(0x40010014, 0)] noon) 0x40000018 0 (link_of (by decide +kernel)) (by decide +kernel)),
   ansE (hs1.2.2.2.2 noon 0x40000018 0 (link_of (by decide +kernel)) (by decide +kernel))⟩

end RegisterSpace

end Sys2Proof.Tests
end

section
/-! Acceptance of journaled commands at check 13 (R28, R319, R322, R351), and the System and NVM commands that it takes. -/
namespace Sys2Proof.Machine

/-! ### Packets on the way to acceptance -/

/-- What the path to the body keeps: everything that check 13 reads. -/
theorem taken_frame {op : Byte} {p : Packet} {s : State} (h : Ready op p s) :
    ∃ lk, taken op p (fresh s) = { s with emit := [], link := lk, power := { s.power with duskDue := false } } := by
  obtain ⟨lk, hl⟩ := taken_eq h.of_fresh
  exact ⟨lk, by rw [hl]; rfl⟩

/-- A body that leaves the link and the registers as they are leaves the ports as `PortsKept` asks. -/
theorem portsKept_of_link {op : Byte} {p : Packet} {s x : State} (h : Ready op p s) (hl : x.link = (taken op p (fresh s)).link)
    (hr : x.regs = s.regs) (hf : x.fer.reads = s.fer.reads) : PortsKept op p (fresh s) x := by
  obtain ⟨-, -, -, hreads⟩ := h.inv
  have k := taken_portsKept op p (fresh s) h.of_fresh
  exact { hcs0 := by rw [hl], uart := by rw [hl], cfg := by simp [regGet, hr], reads := hf.trans hreads,
          sent := fun hu o ho => k.sent hu o (by rwa [hl] at ho) }

/-- While the slot that a command has taken stays open, the end of the command moves HIRQ_N alone. -/
theorem settle_open {op : Byte} {p : Packet} {s x : State} (h : Ready op p s) (hl : x.link = (taken op p (fresh s)).link)
    (hr : x.regs = s.regs) (hf : x.fer.reads = s.fer.reads) :
    settle x = { x with link := { x.link with hirq := hirqLevel x } } := by
  obtain ⟨-, ho, hsent, hreads⟩ := h.inv
  rw [ordered_iff] at ho
  have hh : headOpen x.link.hcs0.opn = true := by
    rw [hl]
    cases hp : p.port
    · have hoq : (fresh s).link.hcs0.outq = [] := by simpa [hp, portOf] using h.outq
      have hopn : s.link.hcs0.opn = [] := by simpa [hp, portOf] using h.opn
      simp [taken, hp, spiOutput_idle hoq, openSlot, replyTo, setPort, portOf, hopn, headOpen]
    · simpa [taken, hp, openSlot, replyTo, setPort] using ho.1
  have hu : headOpen x.link.uart.opn = true := by
    rw [hl]
    cases hp : p.port
    · have hoq : (fresh s).link.hcs0.outq = [] := by simpa [hp, portOf] using h.outq
      simpa [taken, hp, spiOutput_idle hoq, openSlot, replyTo, setPort] using ho.2
    · have hopn : s.link.uart.opn = [] := by simpa [hp, portOf] using h.opn
      simp [taken, hp, openSlot, replyTo, setPort, portOf, hopn, headOpen]
  have hs : x.uartSent = true := by
    simpa [State.uartSent, hl, taken_outq_uart h.of_fresh, regBit, regGet, hr] using hsent
  unfold settle
  rw [releaseReplies_id .hcs0 x hh, releaseReplies_id .uart x hu, sendUart_id x hs]
  have hx : x.fer.reads = [] := hf.trans hreads
  simp only [← hx]

/-- The body of a command whose reply comes later: what the command leaves is what its body left. -/
theorem exec_open {op : Byte} {p : Packet} {s x : State} (h : Ready op p s)
    (hb : runCommand op p (replyTo op p (fresh s)) (taken op p (fresh s)) = x) (hl : x.link = (taken op p (fresh s)).link)
    (hr : x.regs = s.regs) (hf : x.fer.reads = s.fer.reads) (hp : x.pending = s.pending) :
    ∃ t, act (hostCommand op p) s = .next t ∧ Leaves x t := by
  refine ⟨_, rfl, ?_⟩
  rw [hostCommand_ready h.of_fresh, hb, settle_open h hl hr hf, ← hp]
  rfl

/-- The state with the journal, the FeRAM and the outstanding nonces replaced: all that acceptance writes. -/
def putStore (j : Journal) (f : Feram) (n : List Bytes) (s : State) : State := { s with jrn := j, fer := f, ks := { s.ks with nonces := n } }

@[simp] theorem putStore_link (j : Journal) (f : Feram) (n : List Bytes) (s : State) : (putStore j f n s).link = s.link := rfl
@[simp] theorem putStore_regs (j : Journal) (f : Feram) (n : List Bytes) (s : State) : (putStore j f n s).regs = s.regs := rfl
@[simp] theorem putStore_pending (j : Journal) (f : Feram) (n : List Bytes) (s : State) : (putStore j f n s).pending = s.pending := rfl
@[simp] theorem putStore_jrn (j : Journal) (f : Feram) (n : List Bytes) (s : State) : (putStore j f n s).jrn = j := rfl
@[simp] theorem putStore_fer (j : Journal) (f : Feram) (n : List Bytes) (s : State) : (putStore j f n s).fer = f := rfl
@[simp] theorem putStore_nonces (j : Journal) (f : Feram) (n : List Bytes) (s : State) : (putStore j f n s).ks.nonces = n := rfl

/-- A body that writes journal, FeRAM and nonces leaves the rest as the path to it did. -/
theorem leaves_putStore {u v : State} (h : Leaves u v) (j : Journal) (f : Feram) (n : List Bytes) : Leaves (putStore j f n u) (putStore j f n v) := by
  have e := congrArg (putStore j f n) h
  exact e

theorem Leaves.jrn {u t : State} (h : Leaves u t) : t.jrn = u.jrn := by rw [h]
theorem Leaves.fer {u t : State} (h : Leaves u t) : t.fer = u.fer := by rw [h]
theorem Leaves.ks {u t : State} (h : Leaves u t) : t.ks = u.ks := by rw [h]
theorem Leaves.regs {u t : State} (h : Leaves u t) : t.regs = u.regs := by rw [h]
theorem Leaves.eng {u t : State} (h : Leaves u t) : t.eng = u.eng := by rw [h]
theorem Leaves.cry {u t : State} (h : Leaves u t) : t.cry = u.cry := by rw [h]
theorem Leaves.drawn {u t : State} (h : Leaves u t) : t.drawn = u.drawn := by rw [h]

/-! ### Check 13 -/

/-- A judgement that names a role was found good. -/
theorem ite_isSome {α β : Type} {c : Prop} [Decidable c] {r : α} {x y : β} (h : (if c then (some r, x) else (none, y)).1.isSome = true) :
    (if c then (some r, x) else (none, y)) = (some r, x) := by
  by_cases hc : c
  · rw [if_pos hc]
  · simp [hc] at h

/-- A credential that verifies takes a nonce with it, and nothing else. -/
theorem credCheck_some {op options : Byte} {tag : Half} {payload cred : Bytes} {roles : List CredRole} {s : State}
    (h : (credCheck op options tag payload cred roles s).1.isSome = true) :
    ∃ r n, credCheck op options tag payload cred roles s = (some r, putStore s.jrn s.fer n s) := by
  revert h
  simp only [credCheck]
  cases certRole (cred.take 148) with
  | none => simp
  | some r => exact fun h => ⟨r, _, ite_isSome h⟩

/-- A certificate is judged by the key store, the FeRAM and the RTC alone (R266). -/
theorem certOk_congr {s t : State} (hk : t.ks = s.ks) (hf : t.fer = s.fer) (hv : t.power.rtcValid = s.power.rtcValid) (hr : t.power.rtc = s.power.rtc) :
    certOk t = certOk s := by
  have ha : anchorOf t = anchorOf s := by funext i; unfold anchorOf writtenAnchor metaOf; rw [hk, hf]
  have hn : notAfterOk t = notAfterOk s := by funext n; unfold notAfterOk; rw [hk, hv, hr]
  funext cert a
  rw [certOk, certOk, ha, hn]

/-- The credential of a packet is judged alike when its command's body is reached (R266). -/
theorem packetCred_taken {op : Byte} {p : Packet} {s : State} (h : Ready op p s) (roles : List CredRole) :
    (packetCred op p roles (taken op p (fresh s))).1 = (packetCred op p roles s).1 := by
  have hlv := taken_leaves h
  have hc : certOk (taken op p (fresh s)) = certOk s := certOk_congr hlv.ks hlv.fer (by rw [hlv]) (by rw [hlv])
  simp only [packetCred, credCheck, hc, hlv.ks, apply_ite Prod.fst]

/-- With a credential that verifies, or with none where none is needed, the body runs; of the state a nonce may have gone. -/
theorem withCred_passes {op : Byte} {p : Packet} {s : State} (h : Ready op p s) {own : Option (Byte × Nat)} {roles : List CredRole} {need : Bool}
    (hp : Passes op own roles need p s) (r : ReplyTo) (body : Option CredRole → State → State) :
    ∃ c n, withCred op p r roles need body (taken op p (fresh s)) = body c (putStore s.jrn s.fer n (taken op p (fresh s))) ∧
      (pktCred p = false → n = s.ks.nonces) := by
  obtain ⟨lk, hl⟩ := taken_frame h
  by_cases hc : pktCred p = true
  · have hv := hp.cred hc
    rw [← packetCred_taken h] at hv
    obtain ⟨role, n, e⟩ := credCheck_some hv
    refine ⟨some role, n, ?_, fun hf => absurd (hf.symm.trans hc) (by decide)⟩
    have e' : packetCred op p roles (taken op p (fresh s)) = (some role, putStore s.jrn s.fer n (taken op p (fresh s))) := by
      rw [packetCred, e, hl]
    simp only [withCred, hc, if_true, e']
  · have hf : pktCred p = false := by simpa using hc
    refine ⟨none, s.ks.nonces, ?_, fun _ => rfl⟩
    rw [show putStore s.jrn s.fer s.ks.nonces (taken op p (fresh s)) = taken op p (fresh s) by rw [hl]; rfl]
    simp [withCred, hf, hp.need hf]

/-- A command that passes check 13 meets no refusal of the queue (R39, R351). -/
theorem queueRefusal_passes {op : Byte} {p : Packet} {s : State} (h : Ready op p s) {own : Option (Byte × Nat)} {roles : List CredRole} {need : Bool}
    (hp : Passes op own roles need p s) : queueRefusal p (taken op p (fresh s)) = none := by
  have hj := (taken_leaves h).jrn
  by_cases ht : p.tag = 0
  · simp [queueRefusal, ht, hp.noevt ht, hj, hp.loose ht]
  · simp only [queueRefusal, if_neg ht, queueUsed, hj, if_neg (Nat.not_le.2 (hp.room ht))]

/-- With one more record to commit, an acceptance commit is among the commits (R319). -/
theorem joinAcceptance_any (l : List Commit) : (joinAcceptance l).any (·.isAcceptance) = true := by
  cases l with
  | nil => rfl
  | cons c rest =>
    simp only [joinAcceptance]
    split
    · split <;> simp [Commit.isAcceptance]
    · simp [Commit.isAcceptance]

/-- The record of a command that `accept` makes is the command's own. -/
theorem newWork_recordOf (op : Byte) (p : Packet) (seq area recNo : Nat) (c : Option CredRole) (data : Bytes) :
    RecordOf op p data { newWork op p seq area c data with recNo := recNo } :=
  ⟨rfl, rfl, rfl, rfl, rfl, rfl, rfl, rfl, rfl, rfl, rfl, rfl, rfl⟩

/-- What `accept` does with a tagged command whose record goes to the FeRAM: the record waits for its commit (R319). -/
theorem accept_journal {op : Byte} {p : Packet} {r : ReplyTo} {c : Option CredRole} {j : Journal} {f : Feram} {n : List Bytes} {s : State} (ht : p.tag ≠ 0)
    (he : j.enabled = true) : ∃ w, RecordOf op p [] w ∧ accept op p r c [] (putStore j f n s) =
      putStore { j with accepting := j.accepting ++ [{ work := w, ret := r, twins := [] }] } { f with commits := joinAcceptance f.commits } n s :=
  ⟨_, newWork_recordOf op p 0 _ _ c [], by simp only [accept, if_neg ht, putStore_jrn, he]; rfl⟩

/-- With the journal disabled the record of a tagged command runs from SRAM (R322). -/
theorem accept_disabled {op : Byte} {p : Packet} {r : ReplyTo} {c : Option CredRole} {j : Journal} {f : Feram} {n : List Bytes} {s : State} (ht : p.tag ≠ 0)
    (he : j.enabled = false) : ∃ w, RecordOf op p [] w ∧ w.seq = j.nextSeq ∧ accept op p r c [] (putStore j f n s) =
      reply r stInProgress (zeros 12) (putStore { j with works := j.works ++ [w], nextSeq := j.nextSeq + 1 } f n s) :=
  ⟨_, newWork_recordOf op p _ _ 0 c [], rfl, by simp only [accept, if_neg ht, putStore_jrn, he]; rfl⟩

/-- Untagged work runs from SRAM (R351). -/
theorem accept_loose {op : Byte} {p : Packet} {r : ReplyTo} {c : Option CredRole} {j : Journal} {f : Feram} {n : List Bytes} {s : State} (ht : p.tag = 0) :
    ∃ w, RecordOf op p [] w ∧ accept op p r c [] (putStore j f n s) = reply r stInProgress (zeros 12) (putStore { j with loose := j.loose ++ [w] } f n s) :=
  ⟨_, newWork_recordOf op p _ _ 0 c [], by simp only [accept, if_pos ht, putStore_jrn]; rfl⟩

/-- A body that replies and writes journal, FeRAM and nonces. -/
theorem exec_store_replied {op : Byte} {p : Packet} {s : State} (h : Ready op p s) (j : Journal) (f : Feram) (n : List Bytes) (hf : f.reads = s.fer.reads)
    (st : Byte) (pl : Bytes) (h20 : st ≠ 0x20) (h14 : st ≠ 0x14)
    (hb : runCommand op p (replyTo op p (fresh s)) (taken op p (fresh s)) = reply (replyTo op p (fresh s)) st pl (putStore j f n (taken op p (fresh s)))) :
    ∃ t, act (hostCommand op p) s = .next t ∧ Replied op p st pl s t ∧ Leaves (putStore j f n s) t := by
  have hlv := taken_leaves h
  obtain ⟨t, hx, hr, hl⟩ := exec_replied h st pl hb (portsKept_of_link h rfl hlv.regs hf) (by rw [putStore_pending, hlv]) h20 h14
  exact ⟨t, hx, hr, (leaves_putStore hlv j f n).trans hl⟩

/-- A body that leaves its reply for later and writes journal, FeRAM and nonces. -/
theorem exec_store_open {op : Byte} {p : Packet} {s : State} (h : Ready op p s) (j : Journal) (f : Feram) (n : List Bytes) (hf : f.reads = s.fer.reads)
    (hb : runCommand op p (replyTo op p (fresh s)) (taken op p (fresh s)) = putStore j f n (taken op p (fresh s))) :
    ∃ t, act (hostCommand op p) s = .next t ∧ Leaves (putStore j f n s) t := by
  have hlv := taken_leaves h
  obtain ⟨t, hx, hl⟩ := exec_open h hb rfl hlv.regs hf (by rw [putStore_pending, hlv])
  exact ⟨t, hx, (leaves_putStore hlv j f n).trans hl⟩

/-- Acceptance of a command whose body has reached it: untagged or with the journal disabled it answers IN_PROGRESS, otherwise its record waits for its commit (R319, R322, R351). -/
theorem accept_taken {op : Byte} {p : Packet} {s : State} (h : Ready op p s) (c : Option CredRole) (n : List Bytes) (f : Feram) (hf : f.reads = s.fer.reads)
    (hb : runCommand op p (replyTo op p (fresh s)) (taken op p (fresh s)) = accept op p (replyTo op p (fresh s)) c [] (putStore s.jrn f n (taken op p (fresh s)))) :
    ∃ t w, act (hostCommand op p) s = .next t ∧ RecordOf op p [] w ∧ Leaves (putStore t.jrn { f with commits := t.fer.commits } n s) t ∧
      (p.tag = 0 → t.jrn = { s.jrn with loose := s.jrn.loose ++ [w] } ∧ t.fer.commits = f.commits ∧ Replied op p stInProgress (zeros 12) s t) ∧
      (p.tag ≠ 0 → s.jrn.enabled = false → w.seq = s.jrn.nextSeq ∧
        t.jrn = { s.jrn with works := s.jrn.works ++ [w], nextSeq := s.jrn.nextSeq + 1 } ∧ t.fer.commits = f.commits ∧ Replied op p stInProgress (zeros 12) s t) ∧
      (p.tag ≠ 0 → s.jrn.enabled = true →
        t.jrn = { s.jrn with accepting := s.jrn.accepting ++ [{ work := w, ret := replyTo op p s, twins := [] }] } ∧
        t.fer.commits.any (·.isAcceptance) = true) := by
  have store : ∀ {j : Journal} {g : Feram} {t : State}, Leaves (putStore j g n s) t → t.jrn = j ∧ t.fer = g := fun hl => ⟨hl.jrn, hl.fer⟩
  by_cases ht : p.tag = 0
  · obtain ⟨w, hw, e⟩ := accept_loose (op := op) (r := replyTo op p (fresh s)) (c := c) (j := s.jrn) (f := f) (n := n) (s := taken op p (fresh s)) ht
    obtain ⟨t, hx, hr, hl⟩ := exec_store_replied h _ f n hf stInProgress (zeros 12) (by decide) (by decide) (hb.trans e)
    obtain ⟨hj, hg⟩ := store hl
    exact ⟨t, w, hx, hw, by rw [hj, hg]; exact hl, fun _ => ⟨hj, by rw [hg], hr⟩, fun hn => absurd ht hn, fun hn => absurd ht hn⟩
  · cases he : s.jrn.enabled with
    | true =>
      obtain ⟨w, hw, e⟩ := accept_journal (op := op) (r := replyTo op p (fresh s)) (c := c) (f := f) (n := n) (s := taken op p (fresh s)) ht he
      obtain ⟨t, hx, hl⟩ := exec_store_open h _ _ n (by exact hf) (hb.trans e)
      obtain ⟨hj, hg⟩ := store hl
      exact ⟨t, w, hx, hw, by rw [hj, hg]; exact hl, fun hn => absurd hn ht, fun _ hd => absurd hd (by decide), fun _ _ => ⟨hj, by rw [hg]; exact joinAcceptance_any _⟩⟩
    | false =>
      obtain ⟨w, hw, hq, e⟩ := accept_disabled (op := op) (r := replyTo op p (fresh s)) (c := c) (f := f) (n := n) (s := taken op p (fresh s)) ht he
      obtain ⟨t, hx, hr, hl⟩ := exec_store_replied h _ f n hf stInProgress (zeros 12) (by decide) (by decide) (hb.trans e)
      obtain ⟨hj, hg⟩ := store hl
      exact ⟨t, w, hx, hw, by rw [hj, hg]; exact hl, fun hn => absurd hn ht, fun _ _ => ⟨hq, hj, by rw [hg], hr⟩, fun _ h1 => absurd h1 (by decide)⟩

/-- A command whose body is acceptance behind its credential is accepted as `Accepts` says. -/
theorem accepts_of_withCred {mk : Packet → Instr} {op : Byte} {cond : Packet → State → Prop} {own : Packet → State → Option (Byte × Nat)}
    {roles : Packet → State → List CredRole} {need : Packet → State → Bool} (hmk : ∀ p s, exec (mk p) s = act (hostCommand op p) s)
    (hbody : ∀ p s, Ready op p s → cond p s → Passes op (own p s) (roles p s) (need p s) p s → runCommand op p (replyTo op p (fresh s)) (taken op p (fresh s)) =
      withCred op p (replyTo op p (fresh s)) (roles p s) (need p s) (fun c s' => accept op p (replyTo op p (fresh s)) c [] s') (taken op p (fresh s))) :
    Accepts mk op cond own roles need (fun _ _ => []) false := by
  intro p s h hc hp
  obtain ⟨c, n, hw, hn⟩ := withCred_passes h hp (replyTo op p (fresh s)) (fun c s' => accept op p (replyTo op p (fresh s)) c [] s')
  obtain ⟨t, w, hx, hrec, hl, h0, hd, he⟩ := accept_taken h c n s.fer rfl ((hbody p s h hc hp).trans hw)
  have hk : t.ks.nonces = n := by rw [hl.ks]; rfl
  refine ⟨t, w, (hmk p s).trans hx, hrec, ?_, fun hf => hk.trans (hn hf), fun _ => ⟨hl.drawn, hl.cry, hl.regs, hl.eng⟩, h0, hd, he⟩
  rw [hl.drawn, hl.cry, hl.regs, hl.eng, hk]
  exact hl

/-- A command whose body is the shared acceptance is accepted as `Accepts` says. -/
theorem accepts_of_journaled {mk : Packet → Instr} {op : Byte} {cond : Packet → State → Prop} {own : Packet → State → Option (Byte × Nat)}
    {roles : Packet → State → List CredRole} {need : Packet → State → Bool} (hmk : ∀ p s, exec (mk p) s = act (hostCommand op p) s)
    (hbody : ∀ p s, Ready op p s → cond p s → runCommand op p (replyTo op p (fresh s)) (taken op p (fresh s)) =
      journaled op p (replyTo op p (fresh s)) (own p s) (roles p s) (need p s) noData (taken op p (fresh s))) :
    Accepts mk op cond own roles need (fun _ _ => []) false :=
  accepts_of_withCred hmk fun p s h hc hp => by
    rw [hbody p s h hc, hp.own]
    simp only [journaled, queueRefusal_passes h hp]
    rfl

end Sys2Proof.Machine

end

section
namespace Sys2Proof.Machine

/-- The System and NVM commands are not gated by a role: their bodies are those of `runLow` (R376). -/
theorem runCommand_low {op : Byte} (h : op.toNat < 0x30) (p : Packet) (r : ReplyTo) (s : State) : runCommand op p r s = runLow op.toNat p r s := by
  have h7 : (op.toNat / 16 == 7) = false := by simp; omega
  have h8 : (op.toNat / 16 == 8) = false := by simp; omega
  simp [runCommand, roleGated, h7, h8, h]

theorem journalInUse_congr {s t : State} (h : t.jrn = s.jrn) : journalInUse t = journalInUse s := by unfold journalInUse; rw [h]
theorem commitBusy_congr {s t : State} (hf : t.fer = s.fer) (he : t.eng = s.eng) : commitBusy t = commitBusy s := by
  unfold commitBusy inFlight engOf; rw [hf, he]
theorem ksRefusal_congr {s t : State} (h : t.ks = s.ks) : ksRefusal t = ksRefusal s := by unfold ksRefusal; rw [h]
theorem regionRefusal_congr {s t : State} (hf : t.fer = s.fer) (hk : t.ks = s.ks) (w : Bool) (a n : Nat) : regionRefusal w a n t = regionRefusal w a n s := by
  have hr : regionOfPage t = regionOfPage s := by funext i; unfold regionOfPage; rw [hf]
  unfold regionRefusal regionsHit
  rw [hr, ksRefusal_congr hk]
theorem anyPassword_congr {s t : State} (hf : t.fer = s.fer) : anyPassword t = anyPassword s := by unfold anyPassword; rw [hf]

/-! ### The password of a region -/

theorem ctrOf_index (s : State) (c : Nat) : (ctrOf s c).index = c := by
  unfold ctrOf
  cases h : s.fer.counters.find? (·.index == c) with
  | none => rfl
  | some x => simpa using List.find?_some h

theorem ctrOf_setCtr (x : Counter) (s : State) : ctrOf (setCtr x s) x.index = x := by simp [ctrOf, setCtr]

@[simp] theorem Counter.put_index (x : Counter) (v : CounterSlot) : (x.put v).index = x.index := by
  unfold Counter.put; split <;> rfl

/-- An increment writes the slot that does not hold the value, so the counter reads one more (R310, R311). -/
theorem Counter.read_put {x : Counter} {v : Nat} (h : x.read = some v) : (x.put { value := v + 1, ok := true }).read = some (v + 1) := by
  obtain ⟨i, ⟨a, aok⟩, ⟨b, bok⟩⟩ := x
  cases aok <;> cases bok <;> simp only [Counter.read, reduceCtorEq, Option.some.injEq] at h <;> subst h
  · simp [Counter.put, Counter.writesB, Counter.read]
  · simp [Counter.put, Counter.writesB, Counter.read]
  · by_cases hb : b < a
    · simp [Counter.put, Counter.writesB, Counter.read, hb, Nat.max_eq_left hb.le]
    · simp [Counter.put, Counter.writesB, Counter.read, hb, Nat.max_eq_right (Nat.not_lt.1 hb)]

theorem ctrInc_below {s : State} {c v : Nat} (h : ctrRead s c = some v) (hv : v + 1 < 2 ^ 64) :
    ctrInc c s = setCtr ((ctrOf s c).put { value := v + 1, ok := true }) s := by
  have hr : (ctrOf s c).read = some v := h
  simp only [ctrInc, hr]
  exact if_neg (by omega)

/-- A whole increment below the maximum makes the counter read one more (R310). -/
theorem ctrRead_ctrInc {s : State} {c v : Nat} (h : ctrRead s c = some v) (hv : v + 1 < 2 ^ 64) : ctrRead (ctrInc c s) c = some (v + 1) := by
  have hi : ((ctrOf s c).put { value := v + 1, ok := true }).index = c := by rw [Counter.put_index, ctrOf_index]
  have ho := ctrOf_setCtr ((ctrOf s c).put { value := v + 1, ok := true }) s
  rw [hi] at ho
  rw [ctrInc_below h hv, ctrRead, ho]
  exact Counter.read_put h

/-- The FeRAM after a password that fits: the attempt is counted, and the failures start again (R315). -/
def ferAfterPassword (v : Nat) (s : State) : Feram :=
  { (setCtr ((ctrOf s 36).put { value := v + 1, ok := true }) s).fer with pwSince := 0, pwBase := v + 1 }

/-- A password that fits, with the key store open and no lockout (R314, R315). -/
theorem passwordTry_fits {s : State} {n v : Nat} {pw : Bytes} (hk : s.ks.state = .open) (hl : pwFails s < 8 ∨ 60000000 ≤ s.fer.pwSince) (hv : ctrRead s 36 = some v)
    (hm : v + 1 < 2 ^ 64) (hs : (regionAt s n).verifier.isSome = true) (he : (regionAt s n).verifier = pwVerifier s n pw) :
    passwordTry n pw s = (none, { s with fer := ferAfterPassword v s }) := by
  have hlock : ¬ (8 ≤ pwFails s ∧ s.fer.pwSince < 60000000) := by omega
  have hinc := ctrInc_below (s := { s with fer := { s.fer with pwSince := 0 } }) (c := 36) hv hm
  have hopen : ksRefusal s = none := by rw [ksRefusal, hk]
  simp only [passwordTry, hopen, if_neg hlock, hv, hinc]
  rw [if_neg (by omega)]
  have hfit : ((regionAt s n).verifier.isSome && (regionAt s n).verifier == pwVerifier s n pw) = true := by simp [hs, ← he]
  exact if_pos hfit

theorem ferAfterPassword_congr {s t : State} (h : t.fer = s.fer) (v : Nat) : ferAfterPassword v t = ferAfterPassword v s := by
  unfold ferAfterPassword setCtr ctrOf; rw [h]

theorem ctrRead_ferAfterPassword {s t : State} {v : Nat} {l : List Commit} (hv : ctrRead s 36 = some v) (hm : v + 1 < 2 ^ 64)
    (h : t.fer = { ferAfterPassword v s with commits := l }) : ctrRead t 36 = some (v + 1) := by
  rw [← ctrRead_ctrInc hv hm, ctrInc_below hv hm]
  unfold ctrRead ctrOf
  rw [h]
  rfl

/-! ### The bodies of the commands -/

/-- NVM_WRITE to USER within its partition, with no commit in flight, comes to the shared acceptance (R300, R304, R383). -/
theorem cmdNvmWrite_user {p : Packet} {r : ReplyTo} {s : State} (hpart : leavesPartition (at_ p.payload 0 4) (at_ p.payload 4 2) = false)
    (hopt : p.options &&& 1 = 1 → p.tag ≠ 0 ∧ s.jrn.enabled = true) (hbusy : commitBusy s = false) (hlen : 0 < at_ p.payload 4 2)
    (hp4 : partOf (at_ p.payload 0 4 / 256) = 4) :
    cmdNvmWrite p r s = journaled 0x21 p r (regionRefusal true (at_ p.payload 0 4) (at_ p.payload 4 2) s) [] false noData s := by
  have ho : ¬ (p.options &&& 1 = 1 ∧ (p.tag = 0 ∨ (!s.jrn.enabled) = true)) := by
    rintro ⟨h1, h2⟩
    obtain ⟨ht, he⟩ := hopt h1
    exact h2.elim ht (by simp [he])
  rw [cmdNvmWrite, hpart, if_neg (by decide), if_neg ho, hbusy, if_neg (by decide), if_neg hlen.ne', if_pos hp4]

/-- NVM_PASSWORD under a credential, with OLD zero, comes to its credential check (R314, R383). -/
theorem cmdNvmPassword_signed {p : Packet} {r : ReplyTo} {s : State} (hold : (slice p.payload 2 8).any (· != 0) = false) (hbusy : commitBusy s = false)
    (hq : queueRefusal p s = none) (hc : pktCred p = true) (hk : ksRefusal s = none) :
    cmdNvmPassword p r s = withCred 0x24 p r [.dealer] true (fun c s' => accept 0x24 p r c [] s') s := by
  simp only [cmdNvmPassword, hold, Bool.and_false, Bool.false_eq_true, if_false, hbusy, hq, hc, if_true, hk]

/-- NVM_PASSWORD under the present password is accepted, its attempt counted (R314, R315). -/
theorem cmdNvmPassword_fits {p : Packet} {r : ReplyTo} {s : State} {f : Feram} (hc : pktCred p = false) (hbusy : commitBusy s = false) (hq : queueRefusal p s = none)
    (hfit : passwordTry (byteAt p.payload 0) (slice p.payload 2 8) s = (none, { s with fer := f })) :
    cmdNvmPassword p r s = accept 0x24 p r none [] (putStore s.jrn f s.ks.nonces s) := by
  simp only [cmdNvmPassword, hc, Bool.false_and, Bool.false_eq_true, if_false, hbusy, hq]
  rw [hfit]
  rfl

end Sys2Proof.Machine

open Sys2Proof Sys2Proof.Machine

/-- Settles O16: each of the commands reaches the shared acceptance. -/
theorem systemNvmAccepted : Obligations.SystemNvmAccepted := by
  unfold Obligations.SystemNvmAccepted
  refine ⟨accepts_of_journaled (fun _ _ => rfl) fun p s h _ => ?_, accepts_of_journaled (fun _ _ => rfl) fun p s h _ => ?_,
    accepts_of_journaled (fun _ _ => rfl) fun p s h hc => ?_, accepts_of_journaled (fun _ _ => rfl) fun p s h hc => ?_,
    accepts_of_withCred (fun _ _ => rfl) fun p s h hc hp => ?_, ?_⟩
  · rw [runCommand_low (by decide)]
    show cmdConfigSet p _ _ = _
    rw [cmdConfigSet, journalInUse_congr (taken_leaves h).jrn]
  · rw [runCommand_low (by decide)]
    rfl
  · obtain ⟨hpart, hopt, hbusy, hlen, hp4⟩ := hc
    have hlv := taken_leaves h
    rw [runCommand_low (by decide)]
    exact (cmdNvmWrite_user hpart (by rw [hlv.jrn]; exact hopt) ((commitBusy_congr hlv.fer hlv.eng).trans hbusy) hlen hp4).trans
      (by rw [regionRefusal_congr hlv.fer hlv.ks])
  · have hlv := taken_leaves h
    rw [runCommand_low (by decide)]
    show cmdNvmRegions p _ _ = _
    rw [cmdNvmRegions, commitBusy_congr hlv.fer hlv.eng, hc, if_neg (by decide), anyPassword_congr hlv.fer]
  · obtain ⟨hold, hbusy⟩ := hc
    have hlv := taken_leaves h
    have hcred : pktCred p = true := by
      by_contra hn
      exact absurd (hp.need (by simpa using hn)) (by decide)
    rw [runCommand_low (by decide)]
    exact cmdNvmPassword_signed hold ((commitBusy_congr hlv.fer hlv.eng).trans hbusy) (queueRefusal_passes h hp) hcred ((ksRefusal_congr hlv.ks).trans hp.own)
  · intro p s v h hb hk hc ht he hq n hl hv hm hs hf
    have hlv := taken_leaves h
    have hqr : queueRefusal p (taken 0x24 p (fresh s)) = none := by
      simp only [queueRefusal, if_neg ht, queueUsed, hlv.jrn]
      exact if_neg (Nat.not_le.2 hq)
    have hfit := passwordTry_fits (s := taken 0x24 p (fresh s)) (n := n) (v := v) (pw := slice p.payload 2 8) (by rw [hlv.ks]; exact hk)
      (by unfold pwFails ctrRead ctrOf; rw [hlv.fer]; exact hl) (by unfold ctrRead ctrOf; rw [hlv.fer]; exact hv) hm
      (by unfold regionAt; rw [hlv.fer]; exact hs) (by unfold regionAt pwVerifier; rw [hlv.fer, hlv.ks]; exact hf)
    rw [ferAfterPassword_congr hlv.fer] at hfit
    have hbody := cmdNvmPassword_fits (r := replyTo 0x24 p (fresh s)) hc ((commitBusy_congr hlv.fer hlv.eng).trans hb) hqr hfit
    rw [hlv.jrn, hlv.ks] at hbody
    obtain ⟨t, w, hx, hrec, hlt, -, -, hacc⟩ := accept_taken h none s.ks.nonces (ferAfterPassword v s) rfl ((runCommand_low (by decide) p _ _).trans hbody)
    obtain ⟨hj, -⟩ := hacc ht he
    have hfer : t.fer = { ferAfterPassword v s with commits := t.fer.commits } := hlt.fer
    refine ⟨t, w, hx, hrec, ?_, hj, ctrRead_ferAfterPassword hv hm hfer, by rw [hfer]; rfl, by rw [hfer]; rfl⟩
    rw [hfer]
    exact hlt

end

section
/-! Engine restart from an autostart region (R41, R424, R429): the words that J12_BEGIN announced are forgotten. -/
namespace Sys2Proof.Machine

/-- Loading an image leaves the count of words announced by J12_BEGIN. -/
theorem loadImage_j12Words {s : State} {r : Region} {e e' : Engine} (h : loadImage s r e = .ok e') : e'.j12Words = e.j12Words := by
  unfold loadImage at h
  split at h
  · cases h
  · dsimp only at h
    split at h
    · cases h
    · split at h
      · cases h
      · cases h; rfl

theorem engOf_setEng (k : Fin 12) (e : Engine) (s : State) : engOf (setEng k e s) k = e := by
  simp [engOf, setEng]

/-- An OEM engine that restarts from its autostart region, its image good. -/
theorem engRestart_oem {s : State} {k : Fin 12} {r : Nat} {e : Engine} (hd : (engOf s k).restartDue = true) (hk : 9 ≤ k.val)
    (ha : (engOf s k).autostart = some r) (hl : loadImage s (s.fer.regions.getD r .none) (engOf s k) = .ok e) :
    engRestart k s = setEng k { e with state := .run, pc := 0x0010, restartDue := false, j12Words := 0 } s := by
  have ho : isOem k = true := by simpa [isOem] using hk
  simp only [engRestart, hd, ho, ha, hl, Bool.not_true, Bool.false_eq_true, if_false, if_true]

/-- An event that the running machine meets, and whose effect keeps what the link invariant reads. -/
theorem act_ifRun {f : State → State} {s : State} (h : Runs s) (hl : (f (fresh s)).LinkInv) (hp : (f (fresh s)).pending = s.pending) :
    act (ifRun f) s = .next (f (fresh s)) := by
  have hr : ifRun f (fresh s) = f (fresh s) := by
    have : running (fresh s) = true := h.1
    simp only [ifRun, this, if_true]
  have := act_quiet (ifRun f) s (by rw [hr]; exact hl) (by rw [hr]; exact hp)
  rwa [hr] at this

/-- The restart of an OEM engine from its autostart region forgets the words that J12_BEGIN announced. -/
theorem exec_engineRestart_j12Words {s : State} {k : Fin 12} {r : Nat} {e : Engine} (h : Runs s) (hd : (engOf s k).restartDue = true) (hk : 9 ≤ k.val)
    (ha : (engOf s k).autostart = some r) (hl : loadImage s (s.fer.regions.getD r .none) (engOf s k) = .ok e) :
    ∃ t, exec (.engineRestart k) s = .next t ∧ (engOf t k).j12Words = 0 := by
  have hstep : engRestart k (fresh s) = setEng k { e with state := .run, pc := 0x0010, restartDue := false, j12Words := 0 } (fresh s) :=
    engRestart_oem hd hk ha hl
  exact ⟨_, act_ifRun h (by rw [hstep]; exact fresh_linkInv h.2) (by rw [hstep]; rfl), by rw [hstep, engOf_setEng]⟩

/-- An image of two words for the example below: header, the header's CRC, code (R426). -/
def exampleImage : Bytes :=
  let code : Bytes := [1, 2, 3, 4]
  let head := le 4 0x494A5A4F ++ [1, 0, 0, 0] ++ le 4 2 ++ zeros 4 ++ le 4 (crc32c code).toNat ++ zeros 8
  head ++ le 4 (crc32c head).toNat ++ code

/-- In Noon, E9 waits for its restart from region 2, which holds an image; J12_BEGIN had announced 6 words to it. -/
def restartAfterJ12Begin : State :=
  { State.reset with
    power := { Power.reset with state := .noon, stage := .done, pll := true, vddioOk := true }
    link := { HostLink.reset with answers := true }
    fer := { State.reset.fer with
      regions := modAt 2 (fun g => { g with start := 3, pages := 1, image := true }) State.reset.fer.regions
      mem := exampleImage.zipIdx.map fun p => ((1376 + 3) * 256 + p.2, p.1) }
    eng := State.reset.eng.set 9 { Engine.reset with restartDue := true, autostart := some 2, j12Words := 6 } }

theorem restartAfterJ12Begin_runs : Runs restartAfterJ12Begin :=
  ⟨by decide +kernel, by decide +kernel, by decide +kernel, by decide +kernel, rfl⟩

theorem restartAfterJ12Begin_loads :
    (loadImage restartAfterJ12Begin (restartAfterJ12Begin.fer.regions.getD 2 .none) (engOf restartAfterJ12Begin 9)).isOk = true := by
  decide +kernel

end Sys2Proof.Machine

open Sys2Proof Sys2Proof.Machine

/-- Refutes O57: an OEM engine that restarts from its autostart region forgets the words that J12_BEGIN announced, which the clause leaves as the loaded engine has them. In
`restartAfterJ12Begin` six were announced. -/
theorem not_engineEvents : ¬ Obligations.EngineEvents := by
  unfold Obligations.EngineEvents
  intro h
  obtain ⟨-, -, -, -, -, -, -, -, -, -, hrestart, -⟩ := h
  obtain ⟨e, hl⟩ : ∃ e, loadImage restartAfterJ12Begin (restartAfterJ12Begin.fer.regions.getD 2 .none) (engOf restartAfterJ12Begin 9) = .ok e := by
    have := restartAfterJ12Begin_loads
    revert this
    cases loadImage restartAfterJ12Begin (restartAfterJ12Begin.fer.regions.getD 2 .none) (engOf restartAfterJ12Begin 9) with
    | error _ => exact fun h => nomatch h
    | ok e => exact fun _ => ⟨e, rfl⟩
  have hd : (engOf restartAfterJ12Begin 9).restartDue = true := by decide +kernel
  have ha : (engOf restartAfterJ12Begin 9).autostart = some 2 := by decide +kernel
  have hkept : (engOf restartAfterJ12Begin 9).j12Words = 6 := by decide +kernel
  obtain ⟨t, ht, hzero⟩ := exec_engineRestart_j12Words restartAfterJ12Begin_runs hd (by decide) ha hl
  have hstated := Host.Outcome.next.inj (ht.symm.trans (hrestart restartAfterJ12Begin 9 e 2 restartAfterJ12Begin_runs hd (by decide) ha hl))
  rw [hstated] at hzero
  have hsix : e.j12Words = 0 := by simpa [engOf] using hzero
  rw [loadImage_j12Words hl, hkept] at hsix
  exact absurd hsix (by decide)

end

section
/-! The start of accepted work (R32, R36): a record that is DONE does not run again. -/
namespace Sys2Proof.Machine

/-- With every record DONE nothing is there to start. -/
theorem nextStart_done {s : State} (hw : ∀ w ∈ s.jrn.works, w.state = .done) (hl : s.jrn.loose = []) : nextStart s = none := by
  have ho : openWorks s = [] := by
    have hf : s.jrn.works.filter (fun w => w.state != .done) = [] := List.filter_eq_nil_iff.2 fun w hm => by simp [hw w hm]
    simp [openWorks, hf, hl]
  simp [nextStart, ho]

theorem workStart_done {s : State} (hw : ∀ w ∈ s.jrn.works, w.state = .done) (hl : s.jrn.loose = []) : workStart s = s := by
  simp [workStart, nextStart_done hw hl]

/-- With every record DONE the start of accepted work changes nothing. -/
theorem exec_acceptedWorkStart_done {s : State} (h : s.LinkInv) (hw : ∀ w ∈ s.jrn.works, w.state = .done) (hl : s.jrn.loose = []) :
    exec .acceptedWorkStart s = .next (fresh s) := by
  have hs : workStart (fresh s) = fresh s := workStart_done hw hl
  exact (act_quiet workStart s (by rw [hs]; exact fresh_linkInv h) (by rw [hs]; rfl)).trans (by rw [hs])

/-- A KEY_GEN whose step an engine loss had taken back to its boundary, and which has its result since. -/
def doneParkedWork : Work :=
  { seq := 1, tag := 7, opcode := 0x31, options := 0, flags := 0x20, src := .hcs0, pktCrc := 0, payload := [], area := 0xFF, state := .done, step := 0, pct := 100, status := 0,
    stepData := [], result := [], cred := none, ready := none, parked := true, completeDue := false }

/-- In Noon, with the record of `doneParkedWork` alone. -/
def doneParked : State :=
  { State.reset with
    power := { Power.reset with state := .noon, stage := .done, pll := true, vddioOk := true }
    link := { HostLink.reset with answers := true }
    jrn := { State.reset.jrn with works := [doneParkedWork], loose := [] } }

theorem doneParked_linkInv : doneParked.LinkInv := ⟨by decide +kernel, by decide +kernel, by decide +kernel, rfl⟩

end Sys2Proof.Machine

open Sys2Proof Sys2Proof.Machine

/-- Refutes O25: the clause for work with nothing to set going lets a record that is `parked` run whatever its state is; a record that is DONE, as in `doneParked`, is no open work, and the
start leaves it alone. -/
theorem not_acceptanceAndStart : ¬ Obligations.AcceptanceAndStart := by
  unfold Obligations.AcceptanceAndStart
  rintro ⟨-, hstart, -⟩
  have hstated := hstart doneParked doneParkedWork doneParked_linkInv rfl (by decide +kernel) rfl rfl (Or.inr rfl) (by decide +kernel) (by decide)
  have hmodel := exec_acceptedWorkStart_done doneParked_linkInv (fun w hw => by rw [List.mem_singleton.1 hw]; rfl) rfl
  have hworks := congrArg (fun t : State => t.jrn.works.map (·.state)) (Host.Outcome.next.inj (hmodel.symm.trans hstated))
  exact absurd hworks (by decide)

end

section
/-! A wake pin edge without a role while the output queue has no room (R44, R47, R346). -/
namespace Sys2Proof.Machine

/-- The registers that a row leaves. -/
def regsAfter (i : Instr) (s : State) : List (Nat × Word) :=
  match exec i s with
  | .next t => t.regs
  | _ => s.regs

theorem regsAfter_next {i : Instr} {s t : State} (h : exec i s = .next t) : regsAfter i s = t.regs := by rw [regsAfter, h]

/-- HCS0_N with a command taken whose reply, still to come, holds nearly all of the output queue. -/
def fullPort : PortState :=
  { outq := [], last := none, opn := [{ ret := { slot := 0, port := .hcs0, opcode := 0x20, tag := 0, flags := 0x20 }, room := 7800, pkt := none }] }

/-- In Noon with no role set, WAKE0 enabled and DECISION unmasked: a RANGE runs, and a reply that is still to come holds the room of the output queue. -/
def noRoomForDecision : State :=
  regSet 0x40000020 1 (regSet 0x4001000C 1 { State.reset with
    power := { Power.reset with state := .noon, stage := .done, pll := true, vddioOk := true }
    link := { HostLink.reset with answers := true, hcs0 := fullPort }
    acc := { State.reset.acc with decision := some (newDecision (mkTrigger .range .door none State.reset) 0) } })

theorem noRoomForDecision_linkInv : noRoomForDecision.LinkInv := ⟨by decide +kernel, by decide +kernel, by decide +kernel, by decide +kernel⟩

/-- The edge leaves a decision record, whose event finds no room and is counted in HIF_EVT_LOST_CNT (R346). -/
theorem noRoomForDecision_counts : kvGet regReset (regsAfter (.wakePinEdge 0) noRoomForDecision) 0x40010038 = 1 := by decide +kernel

end Sys2Proof.Machine

open Sys2Proof Sys2Proof.Machine

/-- Refutes O41: the clause for an enabled pin while a decision runs lets SYS_EVENTS alone change. With no role set the edge leaves its record, and a DECISION event that finds no room in
the output queue is counted: `noRoomForDecision`, where a RANGE runs. -/
theorem not_decisionTriggers : ¬ Obligations.DecisionTriggers := by
  unfold Obligations.DecisionTriggers
  rintro ⟨-, hseen, -⟩
  obtain ⟨t, hx, -, hregs⟩ := hseen noRoomForDecision 0 noRoomForDecision_linkInv (by decide +kernel) (by decide +kernel) (by decide +kernel) (by decide +kernel)
  have hcount := noRoomForDecision_counts
  rw [regsAfter_next hx] at hcount
  have hkept : regGet t 0x40010038 = regGet noRoomForDecision 0x40010038 := hregs _ (by decide)
  have hzero : regGet noRoomForDecision 0x40010038 = 0 := by decide +kernel
  rw [hzero, regGet, hcount] at hkept
  exact absurd hkept (by decide)

end

section
/-! A readback mismatch with no release standing (R82, R539): there is no release to end, and what the pins are driven to stays. -/
namespace Sys2Proof.Machine

/-- Whether the release pins are driven after a row. -/
def drivenAfter (i : Instr) (s : State) : Bool :=
  match exec i s with
  | .next t => t.acc.release.driven
  | _ => false

theorem drivenAfter_next {i : Instr} {s t : State} (h : exec i s = .next t) : drivenAfter i s = t.acc.release.driven := by rw [drivenAfter, h]

/-- In Noon with no release standing: `driven` is set, and one idle readback has mismatched. -/
def drivenAtRest : State :=
  { State.reset with
    power := { Power.reset with state := .noon, stage := .done, pll := true, vddioOk := true }
    link := { HostLink.reset with answers := true }
    acc := { State.reset.acc with release := { State.reset.acc.release with driven := true, idleBad := 1 } } }

theorem drivenAtRest_runs : Runs drivenAtRest := ⟨by decide +kernel, by decide +kernel, by decide +kernel, by decide +kernel, rfl⟩

theorem drivenAtRest_stays : drivenAfter (.idleReadback true false) drivenAtRest = true := by decide +kernel

end Sys2Proof.Machine

open Sys2Proof Sys2Proof.Machine

/-- Refutes O43: the second idle mismatch in a row latches, and the clause then has the pins undriven; the model ends a release only where one stands (`endRelease`), and leaves
`driven` as it was. In `drivenAtRest` it is set. -/
theorem not_releaseEvents : ¬ Obligations.ReleaseEvents := by
  unfold Obligations.ReleaseEvents
  rintro ⟨-, -, -, -, -, -, -, -, -, hidle, -⟩
  obtain ⟨t, hx, -, -, -, hlow⟩ := hidle drivenAtRest true false drivenAtRest_runs rfl rfl rfl rfl rfl
  have hdriven := drivenAtRest_stays
  rw [drivenAfter_next hx, hlow] at hdriven
  cases hdriven

end

section
/-! A start trigger while the grant is one for a retest (R104, R116): no telegram starts. -/
namespace Sys2Proof.Machine

/-- Whether a telegram runs after a row. -/
def telegramRuns (i : Instr) (s : State) : Bool :=
  match exec i s with
  | .next t => t.lf.telegram.isSome
  | _ => false

theorem telegramRuns_next {i : Instr} {s t : State} (h : exec i s = .next t) : telegramRuns i s = t.lf.telegram.isSome := by rw [telegramRuns, h]

/-- The energy granted for the retest pulse of channel 0. -/
def retestGrant : EnergyReq := { cls := 5, estimate := 10, due := 0, limit := 50, words := [], plan := none, retest := some 0 }

/-- In Noon with LF in order: the grant of a retest stands, and the FIFO holds an entry. -/
def retestGranted : State :=
  { State.reset with
    power := { Power.reset with state := .noon, stage := .done, pll := true, vddioOk := true }
    link := { HostLink.reset with answers := true }
    lf := { State.reset.lf with vlfLow := false, vlfHigh := false, tamperBlk := false, grant := some retestGrant, fifo := [0], telegram := none, tests := [] } }

theorem retestGranted_runs : Runs retestGranted := ⟨by decide +kernel, by decide +kernel, by decide +kernel, by decide +kernel, rfl⟩

theorem retestGranted_noTelegram : telegramRuns (.lfGo 0) retestGranted = false := by decide +kernel

end Sys2Proof.Machine

open Sys2Proof Sys2Proof.Machine

/-- Refutes O45: the clause that starts a telegram on any standing grant leaves out the grant of a retest, on which `startTelegram` sets
NO_START and starts none. In `retestGranted` one stands. -/
theorem not_lfTelegrams : ¬ Obligations.LfTelegrams := by
  unfold Obligations.LfTelegrams
  rintro ⟨hstart, -⟩
  obtain ⟨t, hx, ht, -, -⟩ := hstart retestGranted retestGrant 0 retestGranted_runs (by decide +kernel) rfl rfl (by decide) rfl (by decide) rfl rfl
  have hnone := retestGranted_noTelegram
  rw [telegramRuns_next hx, ht] at hnone
  cases hnone

end

section
/-! The end of a Channel Sounding procedure while an MCP event holds Band L (R154, R182, R188): the chains are given back, and the transmitter of Band L is tuned anew. -/
namespace Sys2Proof.Machine

/-- What a Channel Sounding procedure without a measurement leaves. -/
def csNothing : CsMeas := { pbr := none, rtt := [], starts := [] }

/-- In Noon a Channel Sounding procedure runs and an MCP event measures tone 0 of Band L; the TUNE entries have been written since its transmitter was last tuned. -/
def soundingWhileMcp : State :=
  regSet 0x40030070 0xFFFF (regSet 0x40050090 1 (regSet 0x40050080 2 { State.reset with
    power := { Power.reset with state := .noon, stage := .done, pll := true, vddioOk := true }
    link := { HostLink.reset with answers := true }
    rng := { State.reset.rng with cs := some 0, mcp := some 0, mcpL := true } }))

theorem soundingWhileMcp_runs : Runs soundingWhileMcp := ⟨by decide +kernel, by decide +kernel, by decide +kernel, by decide +kernel, rfl⟩

/-- Band L is still held when the procedure ends, and its TUNE entry becomes live. -/
theorem soundingWhileMcp_tunes : kvGet regReset (regsAfter (.csProcedureDone 0 csNothing) soundingWhileMcp) 0x40030074 ≠ regGet soundingWhileMcp 0x40030074 := by decide +kernel

end Sys2Proof.Machine

open Sys2Proof Sys2Proof.Machine

/-- Refutes O49: the clause for the end of a Channel Sounding procedure leaves the tuner state, register 0x40030074, as it was. While an MCP event holds Band L, as in `soundingWhileMcp`, the end
of the procedure makes the TUNE entry of that band live. -/
theorem not_rangingEvents : ¬ Obligations.RangingEvents := by
  unfold Obligations.RangingEvents
  rintro ⟨-, -, -, -, -, -, -, -, -, -, -, -, -, -, -, -, -, -, -, -, -, -, hsounding, -⟩
  obtain ⟨t, hx, -, -, -, -, -, -, hregs, -, -⟩ := hsounding soundingWhileMcp 0 csNothing soundingWhileMcp_runs rfl rfl rfl
  refine soundingWhileMcp_tunes ?_
  rw [regsAfter_next hx]
  exact hregs _ (by decide)

end

section
/-! What an operation that does not concern the sensors leaves of them: the sensing state, the internal journal records, CPL_SNS_CFG and the bits raised in
CPL_SNS_EVENTS (R255). -/
namespace Sys2Proof.Machine

/-- The sensing state, the internal records and CPL_SNS_CFG are as before, and no bit of CPL_SNS_EVENTS has gone. -/
structure SensingKept (s t : State) : Prop where
  sns : t.sns = s.sns
  internal : t.jrn.internal = s.jrn.internal
  config : regGet t 0x40070100 = regGet s 0x40070100
  raised : ∀ i, regBit s 0x40070108 i = true → regBit t 0x40070108 i = true

namespace SensingKept

theorem refl (s : State) : SensingKept s s := ⟨rfl, rfl, rfl, fun _ h => h⟩

/-- A last step after what went before it. -/
theorem after {s t u : State} (k : SensingKept t u) (h : SensingKept s t) : SensingKept s u :=
  ⟨k.sns.trans h.sns, k.internal.trans h.internal, k.config.trans h.config, fun i hi => k.raised i (h.raised i hi)⟩

/-- An update that leaves the registers. -/
theorem of_regs {s t : State} (hn : t.sns = s.sns) (hj : t.jrn.internal = s.jrn.internal) (hr : t.regs = s.regs) : SensingKept s t :=
  ⟨hn, hj, by simp only [regGet, hr], fun i hi => by rwa [regBit_congr hr]⟩

theorem ite {s t u : State} {c : Prop} [Decidable c] (h : c → SensingKept s t) (k : ¬ c → SensingKept s u) : SensingKept s (if c then t else u) := by
  split
  · exact h ‹_›
  · exact k ‹_›

/-- A fold of steps that each keep the sensors. -/
theorem foldl {α : Type} {f : State → α → State} (h : ∀ s x, SensingKept s (f s x)) (l : List α) (s : State) : SensingKept s (l.foldl f s) := by
  induction l generalizing s with
  | nil => exact refl s
  | cons x l ih => exact (ih _).after (h s x)

end SensingKept

/-! ### Registers and event lines -/

/-- The register is neither CPL_SNS_CFG nor CPL_SNS_EVENTS. -/
def OtherReg (a : Nat) : Prop := a ≠ 0x40070100 ∧ a ≠ 0x40070108

theorem regSet_kept {a : Nat} (ha : OtherReg a) (v : Word) (s : State) : SensingKept s (regSet a v s) :=
  ⟨rfl, rfl, regGet_regSet_ne ha.1.symm v s, fun i hi => by simpa [regBit, ha.2.symm] using hi⟩

theorem regPutFld_kept {a : Nat} (ha : OtherReg a) (lo n v : Nat) (s : State) : SensingKept s (regPutFld a lo n v s) := regSet_kept ha _ s

theorem regInc_kept {a : Nat} (ha : OtherReg a) (n : Nat) (s : State) : SensingKept s (regInc a n s) := regSet_kept ha _ s

/-- The bits of a register after bits of it were set. -/
theorem regBit_regOr (a m b i : Nat) (s : State) : regBit (regOr a m s) b i = (regBit s b i || (decide (b = a) && (word m).toNat.testBit i)) := by
  by_cases h : b = a
  · simp [regOr, regBit, wbit, h]
  · simp [regOr, regBit, h]

theorem regOr_kept {a : Nat} (ha : a ≠ 0x40070100) (m : Nat) (s : State) : SensingKept s (regOr a m s) :=
  ⟨rfl, rfl, regGet_regSet_ne ha.symm _ s, fun i hi => by simp [regBit_regOr, hi]⟩

/-- Event lines move engines alone. -/
theorem pendFold_eng (k : Fin 12) (l : List Nat) (s : State) : ∃ e, l.foldl (fun s i => pendLine k (4 + i) s) s = { s with eng := e } := by
  induction l generalizing s with
  | nil => exact ⟨s.eng, rfl⟩
  | cons i l ih => obtain ⟨e, he⟩ := ih (pendLine k (4 + i) s); exact ⟨e, he⟩

theorem lineUp_eng (src : Nat) (s : State) : ∃ e, lineUp src s = { s with eng := e } := by
  unfold lineUp
  split
  · exact ⟨s.eng, rfl⟩
  · generalize List.finRange 12 = l
    induction l generalizing s with
    | nil => exact ⟨s.eng, rfl⟩
    | cons k l ih =>
      obtain ⟨e, he⟩ := pendFold_eng k (linesOf s k src) s
      obtain ⟨e', he'⟩ := ih { s with eng := e }
      exact ⟨e', by rw [List.foldl_cons, he, he']⟩

/-- What raising bits of an event register does: the bits are set, and an event line may rise. -/
theorem raise_eng (a bits : Nat) (s : State) : ∃ e, raise a bits s = { regOr a bits s with eng := e } := by
  simp only [raise]
  split
  · exact lineUp_eng _ _
  · exact ⟨s.eng, rfl⟩

theorem raise_kept {a : Nat} (ha : a ≠ 0x40070100) (bits : Nat) (s : State) : SensingKept s (raise a bits s) := by
  obtain ⟨e, he⟩ := raise_eng a bits s
  rw [he]
  exact .after (.of_regs (s := regOr a bits s) rfl rfl rfl) (regOr_kept ha bits s)

theorem regBit_raise {a bits i : Nat} (h : (word bits).toNat.testBit i = true) (s : State) : regBit (raise a bits s) a i = true := by
  obtain ⟨e, he⟩ := raise_eng a bits s
  rw [he]
  exact (regBit_regOr a bits a i s).trans (by simp [h])

/-! ### Events for the host and fault records -/

theorem setPort_kept (p : VPort) (x : PortState) (s : State) : SensingKept s (setPort p x s) := by cases p <;> exact .of_regs rfl rfl rfl

theorem loseEvent_kept (p : VPort) (code : Byte) (s : State) : SensingKept s (loseEvent p code s) := by
  unfold loseEvent
  cases p <;> exact .after (raise_kept (by decide) _ _) (.after (regInc_kept ⟨by decide, by decide⟩ 16 _) (.of_regs rfl rfl rfl))

theorem queueEvent_kept (p : VPort) (o : OutPkt) (s : State) : SensingKept s (queueEvent p o s) :=
  .ite (fun _ => setPort_kept p _ s) fun _ => loseEvent_kept p _ s

theorem hostEvent_kept (code : Byte) (payload : Bytes) (s : State) : SensingKept s (hostEvent code payload s) := by
  unfold hostEvent
  split
  · exact .refl s
  · exact .ite (fun _ => .foldl (fun s p => queueEvent_kept p _ s) _ s) fun _ => .refl s

theorem fault_kept (det sev unit action flags : Nat) (info : Word) (s : State) : SensingKept s (fault det sev unit action flags info s) := by
  unfold fault
  dsimp only
  exact .ite (fun _ => regInc_kept ⟨by decide, by decide⟩ 16 s) fun _ => .after (hostEvent_kept _ _ _) (.after (raise_kept (by decide) _ _) (.of_regs rfl rfl rfl))

theorem raiseNvm_kept (bits : Nat) (s : State) : SensingKept s (raiseNvm bits s) := by
  unfold raiseNvm
  exact .after (hostEvent_kept _ _ _) (raise_kept (by decide) _ s)

/-! ### Commits and the end of work -/

theorem commitTell_kept (page : Option Nat) (old new : PageMeta) (s : State) : SensingKept s (commitTell page old new s) := by
  unfold commitTell
  dsimp only
  refine .after (.ite (fun _ => ?_) fun _ => .refl _) (regInc_kept ⟨by decide, by decide⟩ 32 s)
  refine .after (raiseNvm_kept _ _) (.after (fault_kept _ _ _ _ _ _ _) (.after (regSet_kept ⟨by decide, by decide⟩ _ _) ?_))
  cases page with
  | none => exact .of_regs rfl rfl rfl
  | some p => exact .refl _

theorem jrnCommit_kept (unit : Nat) (s : State) : SensingKept s (jrnCommit unit s) := by
  unfold jrnCommit
  dsimp only
  exact .ite (fun _ => .refl s) fun _ => .after (commitTell_kept _ _ _ _) (.of_regs rfl rfl rfl)

theorem pageCommit_kept (page : Nat) (whole : Bool) (rb : ReadBack) (s : State) : SensingKept s (pageCommit page whole rb s) := by
  unfold pageCommit
  dsimp only
  exact .after (commitTell_kept _ _ _ _) (.after (.ite (fun _ => regSet_kept ⟨by decide, by decide⟩ _ _) fun _ => .refl _) (.of_regs rfl rfl rfl))

theorem queueComplete_kept (w : Work) (s : State) : SensingKept s (queueComplete w s) :=
  .ite (fun _ => .refl s) fun _ => .ite (fun _ => setPort_kept _ _ s) fun _ => .refl s

theorem recordDone_kept (w : Work) (s : State) : SensingKept s (recordDone w s) := by
  unfold recordDone
  exact .after (jrnCommit_kept _ _) (.after (jrnCommit_kept _ _) (.of_regs rfl rfl rfl))

theorem finishWork_kept (seq : Nat) (status : Byte) (result : Bytes) (s : State) : SensingKept s (finishWork seq status result s) := by
  unfold finishWork
  split
  · exact .refl s
  · exact .after (queueComplete_kept _ _) (recordDone_kept _ s)

theorem finishLoose_kept (seq : Nat) (status : Byte) (result : Bytes) (s : State) : SensingKept s (finishLoose seq status result s) := by
  unfold finishLoose
  split
  · exact .refl s
  · exact .after (queueComplete_kept _ _) (.of_regs rfl rfl rfl)

theorem finishAny_kept (work loose : Option Nat) (status : Byte) (result : Bytes) (s : State) : SensingKept s (finishAny work loose status result s) := by
  unfold finishAny
  split
  · exact finishWork_kept _ _ _ s
  · exact finishLoose_kept _ _ _ s
  · exact .refl s

/-! ### Handles -/

theorem writeHalf_kept (n : Nat) (isB : Bool) (blob : Bytes) (s : State) : SensingKept s (writeHalf n isB blob s) := by
  unfold writeHalf ownCommit
  exact .after (pageCommit_kept _ _ _ _) (.of_regs rfl rfl rfl)

theorem retireHalf_kept (n : Nat) (isB : Bool) (s : State) : SensingKept s (retireHalf n isB s) :=
  .ite (fun _ => .refl s) fun _ => writeHalf_kept n isB [] s

theorem destroyHandle_kept (n : Nat) (s : State) : SensingKept s (destroyHandle n s) := by
  unfold destroyHandle
  split
  · exact .after (retireHalf_kept n true _) (retireHalf_kept n false s)
  · exact .after (retireHalf_kept n false _) (retireHalf_kept n true s)

/-! ### The end of a command -/

theorem emitOut_kept (e : Emission) (s : State) : SensingKept s (emitOut e s) := .of_regs rfl rfl rfl

theorem releaseReplies_kept (p : VPort) (s : State) : SensingKept s (releaseReplies p s) := by
  unfold releaseReplies
  exact .ite (fun _ => .after (emitOut_kept _ _) (setPort_kept _ _ s)) fun _ => setPort_kept _ _ s

theorem afterConsumed_kept (o : OutPkt) (s : State) : SensingKept s (afterConsumed o s) := by
  refine .of_regs ?_ ?_ (afterConsumed_regs o s)
  all_goals unfold afterConsumed; dsimp only; split <;> (try split) <;> (try split) <;> rfl

theorem sendUart_kept (s : State) : SensingKept s (sendUart s) := by
  unfold sendUart
  dsimp only
  exact .ite (fun _ => .after (.foldl (fun s o => .after (afterConsumed_kept o _) (emitOut_kept _ s)) _ _) (setPort_kept _ _ s)) fun _ => .refl s

theorem settle_kept (s : State) : SensingKept s (settle s) := by
  unfold settle
  exact .after (.of_regs (s := sendUart _) rfl rfl rfl) (.after (sendUart_kept _) (.after (releaseReplies_kept .uart _) (releaseReplies_kept .hcs0 s)))

/-- What every event leaves is what its effect made of the sensors. -/
theorem act_kept (f : State → State) (s : State) : ∃ t, act f s = .next t ∧ SensingKept (f (fresh s)) t :=
  ⟨_, rfl, .after (.of_regs (s := settle _) rfl rfl rfl) (settle_kept _)⟩

/-! ### LF and random values -/

theorem applyPair_kept (s : State) : SensingKept s (applyPair s) := by
  unfold applyPair
  split
  · exact .of_regs rfl rfl rfl
  · exact .refl s

theorem lfCommit_kept (s : State) : SensingKept s (lfCommit s) := by
  unfold lfCommit
  dsimp only
  exact .ite (fun _ => .of_regs rfl rfl rfl) fun _ => .after (applyPair_kept _) (.of_regs rfl rfl rfl)

theorem generate_kept (n : Nat) (s : State) : SensingKept s (generate n s) := by
  unfold generate
  dsimp only
  exact .ite (fun _ => .after (raise_kept (by decide) _ _) (.after (regInc_kept ⟨by decide, by decide⟩ 16 _) (.of_regs rfl rfl rfl))) fun _ => .of_regs rfl rfl rfl

theorem submitEnergy_kept (r : EnergyReq) (s : State) : SensingKept s (submitEnergy r s) :=
  .ite (fun _ => .of_regs rfl rfl rfl) fun _ => .after (regInc_kept ⟨by decide, by decide⟩ 16 _) (.of_regs rfl rfl rfl)

theorem e1Request_kept (cls : Nat) (ws : List Word) (s : State) : SensingKept s (e1Request cls ws s) :=
  .ite (fun _ => .of_regs rfl rfl rfl) fun _ => submitEnergy_kept _ s

/-! ### Radio chains after ranging -/

theorem modRad_kept (f : Radio → Radio) (s : State) : SensingKept s (modRad f s) := .of_regs rfl rfl rfl

theorem radEvent_kept (h : Bool) (bits : Nat) (s : State) : SensingKept s (radEvent h bits s) := by cases h <;> exact raise_kept (by decide) _ s

theorem applyReq_kept (r : Nat) (s : State) : SensingKept s (applyReq r s) := by
  unfold applyReq
  dsimp only
  refine .ite (fun _ => .refl s) fun _ => .ite (fun _ => modRad_kept _ s) fun _ => ?_
  split
  · exact modRad_kept _ s
  · exact modRad_kept _ s
  · exact modRad_kept _ s
  · exact .ite (fun _ => .after (radEvent_kept _ _ _) (modRad_kept _ s)) fun _ => modRad_kept _ s

theorem retrySyn_kept (i : Nat) (s : State) : SensingKept s (retrySyn i s) := .ite (fun _ => .refl s) fun _ => .of_regs rfl rfl rfl

theorem retryBand_kept (h : Bool) (s : State) : SensingKept s (retryBand h s) :=
  .ite (fun _ => .after (retrySyn_kept 3 _) (retrySyn_kept 2 s)) fun _ => .after (retrySyn_kept 1 _) (retrySyn_kept 0 s)

theorem resumeRx_kept (h : Bool) (s : State) : SensingKept s (resumeRx h s) :=
  .ite (fun _ => applyReq_kept 2 s) fun _ => .after (applyReq_kept 1 _) (applyReq_kept 0 s)

theorem dropFrame_kept (r : Nat) (s : State) : SensingKept s (dropFrame r s) :=
  .ite (fun _ => .after (applyReq_kept r _) (.after (retrySyn_kept _ _) (modRad_kept _ s))) fun _ => .refl s

theorem tuneLive_kept (f : Nat) (s : State) : SensingKept s (tuneLive f s) := regPutFld_kept ⟨by decide, by decide⟩ _ _ _ s

theorem rngAir_kept (h : Bool) (s : State) : SensingKept s (rngAir h s) := by
  unfold rngAir
  dsimp only
  refine .ite (fun _ => .refl s) fun _ => .ite (fun _ => ?_) fun _ =>
    .ite (fun _ => .after (resumeRx_kept h _) (.after (retryBand_kept h _) (modRad_kept _ s))) fun _ => .refl s
  refine .after (modRad_kept _ _) (.after (.ite (fun _ => .refl _) fun _ => tuneLive_kept _ _) ?_)
  refine .after (.ite (fun _ => .after (modRad_kept _ _) (dropFrame_kept 1 _)) fun _ => .refl _) ?_
  exact .after (.ite (fun _ => modRad_kept _ _) fun _ => .refl _) (dropFrame_kept _ s)

theorem calBegin_kept (k : CalKind) (m : CalMeas) (s : State) : SensingKept s (calBegin k m s) := by
  unfold calBegin
  exact .after (modRad_kept _ _) (.foldl (fun s _ => .ite (fun _ => .refl s) fun _ => modRad_kept _ s) _ s)

theorem runGaps_kept (s : State) : SensingKept s (runGaps s) := by
  unfold runGaps
  refine .after (.foldl (fun s r => .ite (fun _ => calBegin_kept _ _ s) fun _ => .refl s) _ _) ?_
  split
  · exact .ite (fun _ => .after (calBegin_kept _ _ _) (modRad_kept _ s)) fun _ => .refl s
  · exact .refl s

theorem rngOver_kept (s : State) : SensingKept s (rngOver s) := .after (runGaps_kept _) (.after (rngAir_kept true _) (rngAir_kept false s))

/-! ### Sensor events -/

theorem snsEvent_kept (bits : Nat) (r : Option Nat) (s : State) : SensingKept s (snsEvent bits r s) := by
  unfold snsEvent
  exact .after (hostEvent_kept _ _ _) (raise_kept (by decide) _ s)

theorem regBit_snsEvent {bits i : Nat} (h : (word bits).toNat.testBit i = true) (r : Option Nat) (s : State) : regBit (snsEvent bits r s) 0x40070108 i = true :=
  (hostEvent_kept _ _ _).raised i (regBit_raise h s)

end Sys2Proof.Machine

end

section
/-! Sensor records and the stationary pass: what each step of them makes of the sensing state (R237, R240, R242–R251). -/
namespace Sys2Proof.Machine

/-! ### Events in Noon and Dusk -/

theorem act_whenAwake_kept {f : State → State} {s : State} (h : awake s = true) : ∃ t, act (whenAwake f) s = .next t ∧ SensingKept (f (fresh s)) t := by
  obtain ⟨t, hx, hk⟩ := act_kept (whenAwake f) s
  have ha : awake (fresh s) = true := h
  rw [whenAwake, if_pos ha] at hk
  exact ⟨t, hx, hk⟩

/-- An event whose effect keeps what the end of a command reads leaves just that effect. -/
theorem act_whenAwake_quiet {f : State → State} {s : State} (h : awake s = true) (hl : (f (fresh s)).LinkInv) (hp : (f (fresh s)).pending = s.pending) :
    act (whenAwake f) s = .next (f (fresh s)) := by
  have hf : whenAwake f (fresh s) = f (fresh s) := if_pos h
  exact (act_quiet (whenAwake f) s (by rwa [hf]) (by rw [hf, hp])).trans (by rw [hf])

theorem act_idle {f : State → State} {s : State} (h : s.LinkInv) (hf : f (fresh s) = fresh s) : act f s = .next (fresh s) :=
  (act_quiet f s (by rw [hf]; exact fresh_linkInv h) (by rw [hf]; rfl)).trans (by rw [hf])

theorem act_whenAwake_idle {f : State → State} {s : State} (h : s.LinkInv) (hf : f (fresh s) = fresh s) : act (whenAwake f) s = .next (fresh s) :=
  act_idle h (by simp [whenAwake, hf])

theorem awake_of_noon {s : State} (h : s.power.state = .noon) : awake s = true := by simp [awake, h]

theorem workRuns_of_noon {s : State} (h : s.power.state = .noon) (he : s.link.e0Restart = false) : workRuns s = true := by simp [workRuns, inNoon, h, he]

/-! ### Records -/

namespace SensingKept

theorem modSensing {s t : State} (h : SensingKept s t) (f : Sensing → Sensing) : SensingKept (modSensing f s) (modSensing f t) :=
  ⟨congrArg f h.sns, h.internal, h.config, h.raised⟩

theorem snsOf {s t : State} (h : SensingKept s t) (r : Nat) : snsOf t r = Machine.snsOf s r := by simp [Machine.snsOf, h.sns]

end SensingKept

theorem snsOf_index {s : State} {r : Nat} {x : Sensor} (h : snsOf s r = some x) : x.index = r := by simpa using List.find?_some h

/-- A record read after records were changed in a way that keeps their numbers. -/
theorem snsOf_modSns {f : Sensor → Sensor} (hf : ∀ x, (f x).index = x.index) (r q : Nat) (s : State) :
    snsOf (modSns r f s) q = if q = r then (snsOf s q).map f else snsOf s q := by
  have hp : ((fun x : Sensor => x.index == q) ∘ fun x => if x.index == r then f x else x) = fun x => x.index == q := by
    funext x
    simp only [Function.comp]
    split
    · rw [hf]
    · rfl
  simp only [snsOf, modSns, modSensing_sns, modAll, List.find?_map, hp]
  cases hx : s.sns.sensors.find? (·.index == q) with
  | none => simp
  | some x =>
    have hi : x.index = q := by simpa using List.find?_some hx
    by_cases hq : q = r <;> simp [hi, hq]

theorem snsOf_modSns_self {f : Sensor → Sensor} (hf : ∀ x, (f x).index = x.index) {r : Nat} {x : Sensor} {s : State} (h : snsOf s r = some x) :
    snsOf (modSns r f s) r = some (f x) := by simp [snsOf_modSns hf, h]

/-- Updates of records one after another change the list of records alone. -/
theorem modSns_foldl {α : Type} (r : α → Nat) (f : Sensor → Sensor) (l : List α) (s : State) :
    ∃ m, l.foldl (fun s x => modSns (r x) f s) s = modSensing (fun n => { n with sensors := m }) s := by
  induction l generalizing s with
  | nil => exact ⟨s.sns.sensors, rfl⟩
  | cons x l ih => obtain ⟨m, hm⟩ := ih (modSns (r x) f s); exact ⟨m, hm⟩

/-! ### History and alerts -/

/-- A record with an entry added to its history. -/
def withEntry (x : Sensor) : Sensor := { x with histNext := x.histNext + 1, histPrimary := sensorV1 x }

theorem histAppend_eq {s : State} {r : Nat} {x : Sensor} (h : snsOf s r = some x) :
    histAppend r s = modSns r withEntry { s with sram := memSet s.sram (histBase r + 32 * (x.histNext % 256)) (histEntry s x) } := by
  simp only [histAppend, h]
  rfl

theorem snsOf_histAppend {s : State} {r : Nat} {x : Sensor} (h : snsOf s r = some x) : snsOf (histAppend r s) r = some (withEntry x) := by
  rw [histAppend_eq h]
  exact snsOf_modSns_self (f := withEntry) (fun _ => rfl) h

theorem histAppend_none {s : State} {r : Nat} (h : snsOf s r = none) : histAppend r s = s := by simp [histAppend, h]

theorem histAppend_regs (r : Nat) (s : State) : (histAppend r s).regs = s.regs := by
  unfold histAppend
  split <;> rfl

/-- A publication is only noted. -/
theorem publishDue_eq (r : Nat) (s : State) : ∃ l, publishDue r s = modSensing (fun n => { n with publish := l }) s := by
  have same : s = modSensing (fun n => { n with publish := s.sns.publish }) s := rfl
  unfold publishDue
  split
  · split
    · exact ⟨_, rfl⟩
    · exact ⟨_, same⟩
  · exact ⟨_, same⟩

theorem exitDusk_kept (s : State) : SensingKept s (exitDusk s) := .ite (fun _ => .of_regs rfl rfl rfl) fun _ => .refl s

/-- A changed alert level stands in its record with a history entry; the events raised stay. -/
theorem setAlert_spec {s : State} {r : Nat} {x : Sensor} (lvl : Nat) (h : snsOf s r = some x) :
    snsOf (setAlert r lvl s) r = some (withEntry { x with alert := lvl }) ∧ ∀ i, regBit s 0x40070108 i = true → regBit (setAlert r lvl s) 0x40070108 i = true := by
  have hx := snsOf_histAppend (snsOf_modSns_self (f := fun x => { x with alert := lvl }) (fun _ => rfl) h)
  have hr : (histAppend r (modSns r (fun x => { x with alert := lvl }) s)).regs = s.regs := histAppend_regs _ _
  unfold setAlert
  dsimp only
  generalize histAppend r (modSns r (fun x => { x with alert := lvl }) s) = u at hx hr
  split
  · exact ⟨hx, fun i hi => (regBit_congr hr _ _).trans hi⟩
  · obtain ⟨l, hl⟩ := publishDue_eq r (snsEvent 1 (some r) (exitDusk u))
    have hk : SensingKept u (snsEvent 1 (some r) (exitDusk u)) := .after (snsEvent_kept _ _ _) (exitDusk_kept u)
    rw [hl]
    exact ⟨(hk.snsOf r).trans hx, fun i hi => hk.raised i ((regBit_congr hr _ _).trans hi)⟩

/-- A silent record is told, and its alert rises to the level of its silence (R250). -/
theorem staleRecord_spec {s : State} {r : Nat} {x : Sensor} {lvl : Nat} (h : snsOf s r = some x) (h0 : lvl ≠ 0)
    (hl : (if x.kind = 1 ∧ vehicleMoves s = true ∧ 30 ≤ x.age then 2 else if regFld s 0x40070100 20 8 ≠ 0 ∧ 10 * regFld s 0x40070100 20 8 ≤ x.age then 1 else 0) = lvl) :
    ∃ y, snsOf (staleRecord r s) r = some y ∧ y.alert = max x.alert lvl ∧ y.data = x.data ∧ regBit (staleRecord r s) 0x40070108 6 = true := by
  have hx : snsOf (snsEvent 64 (some r) s) r = some x := ((snsEvent_kept 64 (some r) s).snsOf r).trans h
  have hb : regBit (snsEvent 64 (some r) s) 0x40070108 6 = true := regBit_snsEvent (by decide) _ s
  have hs : staleRecord r s = if x.alert < lvl then setAlert r lvl (snsEvent 64 (some r) s) else snsEvent 64 (some r) s := by
    simp only [staleRecord, h, hl, if_neg h0]
  rw [hs]
  split
  · rename_i hlt
    obtain ⟨hy, hr⟩ := setAlert_spec lvl hx
    exact ⟨_, hy, (max_eq_right hlt.le).symm, rfl, hr 6 hb⟩
  · rename_i hge
    exact ⟨x, hx, (max_eq_left (Nat.not_lt.1 hge)).symm, rfl, hb⟩

theorem staleRecord_idle {s : State} {r : Nat}
    (h : ∀ x, snsOf s r = some x → (x.kind ≠ 1 ∨ vehicleMoves s = false ∨ x.age < 30) ∧ (regFld s 0x40070100 20 8 = 0 ∨ x.age < 10 * regFld s 0x40070100 20 8)) :
    staleRecord r s = s := by
  cases hx : snsOf s r with
  | none => simp [staleRecord, hx]
  | some x =>
    obtain ⟨hk, ha⟩ := h x hx
    have h2 : ¬ (x.kind = 1 ∧ vehicleMoves s = true ∧ 30 ≤ x.age) := by
      rintro ⟨h1, h2, h3⟩
      rcases hk with hk | hk | hk
      · exact hk h1
      · rw [hk] at h2; cases h2
      · omega
    have h1 : ¬ (regFld s 0x40070100 20 8 ≠ 0 ∧ 10 * regFld s 0x40070100 20 8 ≤ x.age) := by omega
    simp only [staleRecord, hx, if_neg h2, if_neg h1, if_true]

/-! ### The learn window -/

/-- The sensing state without a record. -/
def withoutRecord (r : Nat) (n : Sensing) : Sensing :=
  { n with sensors := n.sensors.filter (·.index != r), fcnt := n.fcnt.filter (·.1 != r), frames := n.frames.filter (·.record != r), publish := n.publish.filter (· != r) }

theorem dropSensor_kept {s : State} {r : Nat} {x : Sensor} (h : snsOf s r = some x) : SensingKept (modSensing (withoutRecord r) s) (dropSensor r s) := by
  simp only [dropSensor, h]
  exact .ite (fun _ => .after (destroyHandle_kept _ _) (.of_regs rfl rfl rfl)) fun _ => .of_regs rfl rfl rfl

theorem snsOf_withoutRecord (r q : Nat) (s : State) : snsOf (modSensing (withoutRecord r) s) q = if q = r then none else snsOf s q := by
  by_cases h : q = r
  · simp [snsOf, withoutRecord, h, List.find?_filter]
  · have hp : (fun x : Sensor => decide ((x.index != r) = true ∧ (x.index == q) = true)) = fun x => x.index == q := by
      funext x
      by_cases hx : x.index = q <;> simp [hx, h]
    simp only [snsOf, withoutRecord, modSensing_sns, List.find?_filter, hp, if_neg h]

/-- The state once no window runs any more. -/
def windowClosed (s : State) : State := modSensing (fun n => { n with learn := false }) { s with jrn := { s.jrn with internal := s.jrn.internal.filter (· != 5) } }

theorem learnEnd_none {s : State} (h : ∀ x ∈ s.sns.sensors, x.state ≠ .learning) : learnEnd s = windowClosed s := by
  have hf : s.sns.sensors.filter (·.state == .learning) = [] := List.filter_eq_nil_iff.2 fun x hx => by simpa using h x hx
  simp only [learnEnd, hf, List.foldl_nil, if_true]
  rfl

/-- With one record LEARNING and no auto-location, the end of the window frees that record and tells of it (R240). -/
theorem learnEnd_one {s : State} {x : Sensor} (ha : regBit s 0x40070100 0 = false) (hf : s.sns.sensors.filter (·.state == .learning) = [x])
    (hx : snsOf s x.index = some x) :
    SensingKept (modSensing (withoutRecord x.index) (windowClosed s)) (learnEnd s) ∧ regBit (learnEnd s) 0x40070108 7 = true := by
  have hd : SensingKept (modSensing (withoutRecord x.index) (windowClosed s)) (dropSensor x.index (windowClosed s)) := dropSensor_kept hx
  have hk := SensingKept.after (snsEvent_kept 128 none _) hd
  have hc : regBit (snsEvent 128 none (dropSensor x.index (windowClosed s))) 0x40070100 0 = false := (congrArg (wbit · 0) hk.config).trans ha
  have hs : learnEnd s = snsEvent 128 none (dropSensor x.index (windowClosed s)) := by
    have hr : rosterChanged (snsEvent 128 none (dropSensor x.index (windowClosed s))) = snsEvent 128 none (dropSensor x.index (windowClosed s)) := by
      simp [rosterChanged, hc]
    simp only [learnEnd, hf, List.foldl_cons, List.foldl_nil, List.cons_ne_nil, if_false]
    exact hr
  rw [hs]
  exact ⟨hk, regBit_snsEvent (by decide) _ _⟩

end Sys2Proof.Machine

end

section
/-! The stationary pass of auto-location: how it begins, what a wake makes of it, and how it ends (R242–R249, R254). -/
namespace Sys2Proof.Machine

/-! ### LF requests that wait -/

/-- No telegram of a class waits for its energy. -/
theorem e1Waits_false_iff (s : State) (cls : Nat) : e1Waits s cls = false ↔ ∀ r ∈ s.lf.deferred ++ s.lf.waiting, ofClass cls r = false := by
  simp only [e1Waits, List.any_eq_false, Bool.not_eq_true]

theorem e1Waits_congr {s t : State} (cls : Nat) (hd : t.lf.deferred = s.lf.deferred) (hw : t.lf.waiting = s.lf.waiting) : e1Waits t cls = e1Waits s cls := by
  rw [e1Waits, e1Waits, hd, hw]

theorem submitEnergy_waits {s : State} {r : EnergyReq} {cls : Nat} (h : e1Waits s cls = false) (hr : ofClass cls r = false) : e1Waits (submitEnergy r s) cls = false := by
  unfold submitEnergy
  split
  · exact h
  · rw [e1Waits_false_iff] at h ⊢
    intro x hx
    simp only [regInc, regCount, regPutFld, regSet_lf, List.mem_append, List.mem_singleton] at hx
    rcases hx with (hx | rfl) | hx
    · exact h x (List.mem_append_left _ hx)
    · exact hr
    · exact h x (List.mem_append_right _ hx)

/-- E1's next requests bring no class that none of the telegrams that wait is of. -/
theorem e1Next_waits {s : State} {cls : Nat} (h : e1Waits s cls = false) : e1Waits (e1Next s) cls = false := by
  have hl : ∀ r ∈ deferredOrder s.lf.waiting, ofClass cls r = false := by
    intro r hr
    obtain ⟨c, -, hr⟩ := List.mem_flatMap.1 hr
    exact (e1Waits_false_iff s cls).1 h r (List.mem_append_right _ (List.mem_of_mem_filter hr))
  unfold e1Next
  generalize deferredOrder s.lf.waiting = l at hl
  induction l generalizing s with
  | nil => exact h
  | cons r l ih =>
    rw [List.foldl_cons]
    refine ih ?_ fun x hx => hl x (List.mem_cons_of_mem _ hx)
    split
    · exact h
    · refine submitEnergy_waits ?_ (hl r List.mem_cons_self)
      rw [e1Waits_false_iff] at h ⊢
      intro x hx
      rcases List.mem_append.1 hx with hx | hx
      · exact h x (List.mem_append_left _ hx)
      · exact h x (List.mem_append_right _ (List.mem_of_mem_erase hx))

/-- The state with the requests of a class that wait given up. -/
def withoutRequests (cls : Nat) (s : State) : State :=
  { s with lf := { s.lf with deferred := s.lf.deferred.filter (!ofClass cls ·), waiting := s.lf.waiting.filter (!ofClass cls ·) } }

theorem withoutRequests_waits (s : State) (cls : Nat) : e1Waits (withoutRequests cls s) cls = false := by
  rw [e1Waits_false_iff]
  intro r hr
  have hm : r ∈ (s.lf.deferred ++ s.lf.waiting).filter (!ofClass cls ·) := by rw [List.filter_append]; exact hr
  simpa using (List.mem_filter.1 hm).2

theorem e1Drop_eq (cls : Nat) (s : State) : e1Drop cls s =
    match s.lf.grant with
    | some g => if ofClass cls g then e1Next (grantBack g (withoutRequests cls s)) else withoutRequests cls s
    | none => withoutRequests cls s := rfl

/-- Once a class is given up, none of it waits. -/
theorem e1Drop_waits (s : State) (cls : Nat) : e1Waits (e1Drop cls s) cls = false := by
  have h := withoutRequests_waits s cls
  rw [e1Drop_eq]
  split
  · split
    · exact e1Next_waits h
    · exact h
  · exact h

theorem e1Next_kept (s : State) : SensingKept s (e1Next s) := by
  unfold e1Next
  refine .foldl (fun s r => ?_) _ s
  exact .ite (fun _ => .refl s) fun _ => .after (submitEnergy_kept _ _) (.of_regs rfl rfl rfl)

theorem e1Drop_kept (cls : Nat) (s : State) : SensingKept s (e1Drop cls s) := by
  rw [e1Drop_eq]
  split
  · exact .ite (fun _ => .after (e1Next_kept _) (.of_regs rfl rfl rfl)) fun _ => .of_regs rfl rfl rfl
  · exact .of_regs rfl rfl rfl

theorem lfCommit_waits (s : State) (cls : Nat) : e1Waits (lfCommit s) cls = e1Waits s cls := by
  unfold lfCommit applyPair
  dsimp only
  split <;> rfl

/-- The end of every command leaves LF as the effect left it. -/
theorem afterConsumed_lf (o : OutPkt) (s : State) : (afterConsumed o s).lf = s.lf := by
  unfold afterConsumed; dsimp only; split <;> (try split) <;> (try split) <;> rfl

theorem sendUart_lf (s : State) : (sendUart s).lf = s.lf := by
  have hf : ∀ (q : List OutPkt) (u : State), (q.foldl (fun s o => afterConsumed o (emitOut (.uartTx o.bytes) s)) u).lf = u.lf := by
    intro q
    induction q with
    | nil => exact fun _ => rfl
    | cons o q ih => exact fun u => (ih _).trans (afterConsumed_lf _ _)
  unfold sendUart
  split
  · exact hf _ _
  · rfl

theorem releaseReplies_lf (p : VPort) (s : State) : (releaseReplies p s).lf = s.lf := by
  unfold releaseReplies; dsimp only; split <;> simp

theorem settle_lf (s : State) : (settle s).lf = s.lf := by simp [settle, sendUart_lf, releaseReplies_lf]

theorem act_whenAwake_lf {f : State → State} {s t : State} (h : awake s = true) (hx : act (whenAwake f) s = .next t) : t.lf = (f (fresh s)).lf := by
  have ht := Host.Outcome.next.inj hx
  have hf : whenAwake f (fresh s) = f (fresh s) := if_pos h
  rw [← ht, hf]
  exact settle_lf _

/-! ### Wakes -/

/-- A pass after a wake of an aerial with this nonce; `old` is the current-table entry put aside. -/
def wokenPass (a : Nat) (n : Half) (old : Nat) (p : LocPass) : LocPass :=
  { p with wakes := p.wakes + 1, nonce16 := n, wakeBits := be 5 (wakeBits48 2 a n 8 / 256), oldCur := some (a, old) }

theorem modLoc_modLoc (f g : LocPass → LocPass) (s : State) : modLoc f (modLoc g s) = modLoc (f ∘ g) s := by
  simp only [modLoc, modSensing, Option.map_map]

theorem modLoc_loc (f : LocPass → LocPass) (s : State) : (modLoc f s).sns.loc = s.sns.loc.map f := rfl

theorem modLoc_id {f : LocPass → LocPass} {s : State} (h : s.sns.loc.map f = s.sns.loc) : modLoc f s = s := by
  show { s with sns := { s.sns with loc := s.sns.loc.map f } } = s
  rw [h]

theorem lfChTable_other (a : Nat) : OtherReg (lfCh a 4) := by
  unfold OtherReg lfCh
  omega

/-- The entry put aside is back, and the pass holds none. -/
theorem locRestore_kept (s : State) : SensingKept (modLoc (fun p => { p with oldCur := none }) s) (locRestore s) := by
  unfold locRestore
  split
  · exact .after (lfCommit_kept _) (regPutFld_kept (lfChTable_other _) _ _ _ _)
  · rename_i hn
    have hs : s.sns.loc.map (fun p => { p with oldCur := none }) = s.sns.loc := by
      cases hl : s.sns.loc with
      | none => rfl
      | some p =>
        have ho : p.oldCur = none := by simpa [hl] using hn
        exact congrArg some (by rw [← ho])
    rw [modLoc_id hs]
    exact .refl s

theorem locWake_kept {s : State} {p : LocPass} {a : Nat} {l : List Nat} (hp : s.sns.loc = some p) (ha : p.aerials = a :: l) :
    ∃ old, SensingKept (modLoc (wokenPass a (BitVec.ofNat 16 (peek s 0).toNat) old) s) (locWake s) := by
  refine ⟨regFld (locRestore s) (lfCh a 4) 0 8, ?_⟩
  have hm : modLoc (wokenPass a (BitVec.ofNat 16 (peek s 0).toNat) (regFld (locRestore s) (lfCh a 4) 0 8)) s =
      modLoc (wokenPass a (BitVec.ofNat 16 (peek s 0).toNat) (regFld (locRestore s) (lfCh a 4) 0 8)) (modLoc (fun p => { p with oldCur := none }) s) := by
    rw [modLoc_modLoc]; rfl
  rw [hm]
  simp only [locWake, hp, ha]
  refine .after (e1Request_kept _ _ _) (.after (generate_kept _ _) (.modSensing ?_ _))
  exact .after (lfCommit_kept _) (.after (regPutFld_kept (lfChTable_other _) _ _ _ _) (locRestore_kept s))

/-! ### The beginning of a pass -/

/-- A pass has begun with its first wake (R246). -/
def PassBegun (s t : State) : Prop :=
  ∃ p, t.sns.loc = some p ∧ p.stage = 1 ∧ p.aerials = modelAerials s.sns.model ∧ p.wakes = 1 ∧ t.sns.locStage = 1 ∧ 3 ∈ t.jrn.internal ∧
    p.nonce16 = BitVec.ofNat 16 (Config.freeWord s.drawn).toNat

theorem PassBegun.kept {s t u : State} (h : PassBegun s t) (k : SensingKept t u) : PassBegun s u := by
  obtain ⟨p, hl, h1, h2, h3, h4, h5, h6⟩ := h
  exact ⟨p, by rw [k.sns, hl], h1, h2, h3, by rw [k.sns, h4], by rwa [k.internal], h6⟩

/-- The pass that begins on these aerials, before its first wake. -/
def firstPass (aerials : List Nat) : LocPass :=
  { stage := 1, aerials := aerials, wakes := 0, nonce16 := 0, wakeBits := [], oldCur := none, slocDue := [], slocNonce := none, slocAt := 0, slocDesc := none, tonesLeft := 0,
    skipped := [], retries := 0, lfDefer := false, again := false, rerun := false, work := none, loose := none }

/-- The state in which a pass stands before its first wake, with these records. -/
def passStands (sensors : List Sensor) (s : State) : State :=
  modSensing (fun n => { n with sensors := sensors, loc := some (firstPass (modelAerials s.sns.model)), locStage := 1, locDefer := false })
    { s with jrn := { s.jrn with internal := if s.jrn.internal.contains 3 then s.jrn.internal else s.jrn.internal ++ [3] } }

theorem locStart_eq {s : State} (hl : s.sns.loc = none) (hm : byteAt s.sns.model 1 ≠ 0) (ha : modelAerials s.sns.model ≠ []) :
    ∃ m, locStart none none s = locWake (passStands m s) := by
  obtain ⟨m, hf⟩ := modSns_foldl (fun x : Sensor => x.index) (fun y => { y with codes := List.replicate 8 0, phase := none, macBad := false }) (locCands s) s
  refine ⟨m, ?_⟩
  simp only [locStart, if_neg hm, hl, Option.isSome_none, Bool.false_eq_true, if_false, hf, modSensing_sns, modSensing_jrn, if_neg ha]
  congr 1

/-- A pass begins where none runs, the wheel model is set and names an aerial. -/
theorem locStart_begins {s : State} (hl : s.sns.loc = none) (hm : byteAt s.sns.model 1 ≠ 0) (ha : modelAerials s.sns.model ≠ []) :
    PassBegun s (locStart none none s) := by
  obtain ⟨a, l, hal⟩ := List.exists_cons_of_ne_nil ha
  obtain ⟨m, hs⟩ := locStart_eq hl hm ha
  obtain ⟨old, hk⟩ := locWake_kept (s := passStands m s) (p := firstPass (modelAerials s.sns.model)) rfl hal
  have h3 : 3 ∈ (passStands m s).jrn.internal := by
    simp only [passStands, modSensing_jrn]
    split
    · exact List.contains_iff_mem.1 ‹_›
    · simp
  rw [hs]
  exact .kept (t := modLoc (wokenPass a _ old) (passStands m s)) ⟨_, rfl, rfl, rfl, rfl, rfl, h3, rfl⟩ hk

/-! ### Aerials put off and tried again -/

theorem locRestore_waits (s : State) (cls : Nat) : e1Waits (locRestore s) cls = e1Waits s cls := by
  unfold locRestore
  split
  · rw [lfCommit_waits]; rfl
  · rfl

/-- With its last aerial done, a pass that may still try skipped ones again waits for that (R244). -/
theorem locNext_waits {s : State} {p : LocPass} (hp : s.sns.loc = some p) (ha : p.aerials.tail = []) (hk : p.skipped ≠ []) (hr : p.retries < 3) :
    (locNext s).sns.loc = some { p with aerials := [], wakes := 0, oldCur := none } ∧ ∀ cls, e1Waits (locNext s) cls = e1Waits s cls := by
  have hl : (locRestore (modLoc (fun p => { p with aerials := p.aerials.tail, wakes := 0 }) s)).sns.loc = some { p with aerials := [], wakes := 0, oldCur := none } := by
    rw [(locRestore_kept _).sns]
    refine (modLoc_loc _ _).trans ?_
    rw [modLoc_loc, hp, ← ha]
    rfl
  have hs : locNext s = locRestore (modLoc (fun p => { p with aerials := p.aerials.tail, wakes := 0 }) s) := by
    simp only [locNext, hl, ne_eq, not_true_eq_false, if_false, if_pos (And.intro hk hr)]
  rw [hs]
  exact ⟨hl, fun cls => (locRestore_waits _ cls).trans rfl⟩

/-- The only aerial of a pass that may still try again, waiting for LF too long, is put off, and its telegram is given up. -/
theorem locDeferred_putOff {s : State} {p : LocPass} {a : Nat} (hp : s.sns.loc = some p) (h1 : p.stage = 1) (ha : p.aerials = [a]) (hw : e1Waits s 3 = true)
    (hr : p.retries < 3) :
    (locDeferred s).sns.loc = some { p with skipped := p.skipped ++ [a], aerials := [], wakes := 0, lfDefer := true, oldCur := none } ∧ e1Waits (locDeferred s) 3 = false := by
  have hd : locDeferred s = locNext (modLoc (fun p => { p with skipped := p.skipped ++ [a], lfDefer := true }) (e1Drop 3 s)) := by
    simp only [locDeferred, hp, h1, ha, hw, if_true]
  have hm : (modLoc (fun p => { p with skipped := p.skipped ++ [a], lfDefer := true }) (e1Drop 3 s)).sns.loc = some { p with skipped := p.skipped ++ [a], lfDefer := true } := by
    rw [modLoc_loc, (e1Drop_kept 3 s).sns, hp]; rfl
  obtain ⟨hl, hn⟩ := locNext_waits hm (by rw [ha]; rfl) (by simp) hr
  rw [hd]
  exact ⟨hl, (hn 3).trans (e1Drop_waits s 3)⟩

theorem locDeferred_idle {s : State} (h : s.sns.loc = none ∨ e1Waits s 3 = false) : locDeferred s = s := by
  unfold locDeferred
  split
  · rfl
  · rename_i p hp
    have hw : e1Waits s 3 = false := h.resolve_left (by simp [hp])
    split
    · simp [hw]
    · rfl

/-- The aerials put off are tried again from the first, which is woken (R244). -/
theorem locRetry_wakes {s : State} {p : LocPass} (hp : s.sns.loc = some p) (h1 : p.stage = 1) (ha : p.aerials = []) (hk : p.skipped ≠ []) (hr : p.retries < 3) :
    ∃ q, (locRetry s).sns.loc = some q ∧ q.aerials = p.skipped ∧ q.skipped = [] ∧ q.retries = p.retries + 1 ∧ q.wakes = 1 := by
  obtain ⟨a, l, hal⟩ := List.exists_cons_of_ne_nil hk
  have hs : locRetry s = locWake (modLoc (fun p => { p with aerials := p.skipped, skipped := [], retries := p.retries + 1, wakes := 0 }) s) := by
    simp only [locRetry, hp, if_pos (show p.stage = 1 ∧ p.aerials = [] ∧ p.skipped ≠ [] ∧ p.retries < 3 from ⟨h1, ha, hk, hr⟩)]
  have hm : (modLoc (fun p => { p with aerials := p.skipped, skipped := [], retries := p.retries + 1, wakes := 0 }) s).sns.loc =
      some { p with aerials := p.skipped, skipped := [], retries := p.retries + 1, wakes := 0 } := by rw [modLoc_loc, hp]; rfl
  obtain ⟨old, hw⟩ := locWake_kept hm hal
  rw [hs]
  exact ⟨_, by rw [hw.sns]; exact (modLoc_loc _ _).trans (by rw [hm]; rfl), rfl, rfl, rfl, rfl⟩

theorem locRetry_idle {s : State} (h : ∀ p, s.sns.loc = some p → p.stage ≠ 1 ∨ p.aerials ≠ [] ∨ p.skipped = [] ∨ 3 ≤ p.retries) : locRetry s = s := by
  unfold locRetry
  split
  · rfl
  · rename_i p hp
    refine if_neg ?_
    rintro ⟨h1, ha, hk, hr⟩
    rcases h p hp with h | h | h | h
    · exact h h1
    · exact h ha
    · exact hk h
    · omega

/-! ### The end of the stationary stage -/

/-- Boundaries of couplings move internal records of couplings, and nothing else of what the sensors need. -/
theorem cplBoundary_kept (u n pct : Nat) (s : State) : ∃ l, SensingKept { s with jrn := { s.jrn with internal := l } } (cplBoundary u n pct s) := by
  refine ⟨if s.jrn.internal.contains (u - 1) then s.jrn.internal else s.jrn.internal ++ [u - 1], ?_⟩
  unfold cplBoundary
  exact .after (jrnCommit_kept _ _) (.of_regs rfl rfl rfl)

/-- What a step leaves of the sensing state and of CPL_SNS_EVENTS, whatever it makes of the internal records. -/
structure SensesKept (s t : State) : Prop where
  sns : t.sns = s.sns
  raised : ∀ i, regBit s 0x40070108 i = true → regBit t 0x40070108 i = true

theorem SensingKept.senses {s t : State} (h : SensingKept s t) : SensesKept s t := ⟨h.sns, h.raised⟩

theorem SensesKept.after {s t u : State} (k : SensesKept t u) (h : SensesKept s t) : SensesKept s u :=
  ⟨k.sns.trans h.sns, fun i hi => k.raised i (h.raised i hi)⟩

theorem cplLocated_senses (n : Nat) (s : State) : SensesKept s (cplLocated n s) := by
  unfold cplLocated
  generalize s.cpl.units = l
  induction l generalizing s with
  | nil => exact ⟨rfl, fun _ h => h⟩
  | cons c l ih =>
    rw [List.foldl_cons]
    refine (ih _).after ?_
    split
    · obtain ⟨l, hk⟩ := cplBoundary_kept c.unit n 100 s
      exact ⟨hk.sns, hk.raised⟩
    · exact ⟨rfl, fun _ h => h⟩

/-- Without a pass, stage 3 goes on to 5 where every position is decided, and stays otherwise. -/
theorem confirmEnd_spec {s : State} (h3 : s.sns.locStage = 3) (hn : s.sns.loc = none) :
    (confirmEnd s).sns = { s.sns with locStage := if allConfirmed s then 5 else 3 } ∧ ∀ i, regBit s 0x40070108 i = true → regBit (confirmEnd s) 0x40070108 i = true := by
  cases ha : allConfirmed s with
  | false =>
    have hs : confirmEnd s = s := by simp [confirmEnd, ha]
    rw [hs]
    refine ⟨?_, fun _ h => h⟩
    show s.sns = { s.sns with locStage := 3 }
    rw [← h3]
  | true =>
    have hs : confirmEnd s = cplLocated 9 (jrnCommit (internalUnit 3) (modSensing (fun n => { n with locStage := 5 })
        { s with jrn := { s.jrn with internal := s.jrn.internal.filter (· != 3) } })) := by simp [confirmEnd, ha, h3, hn]
    rw [hs]
    have hk := (cplLocated_senses 9 _).after (jrnCommit_kept (internalUnit 3) (modSensing (fun n => { n with locStage := 5 })
        { s with jrn := { s.jrn with internal := s.jrn.internal.filter (· != 3) } })).senses
    exact ⟨hk.sns, hk.raised⟩

theorem allConfirmed_congr {s t : State} (h : t.sns.sensors = s.sns.sensors) : allConfirmed t = allConfirmed s := by
  simp only [allConfirmed, locCands, h]

/-- How a pass `p` ends: none runs, the stage tells whether every position is decided, LOC_DONE is raised, and with a wake skipped DEFER too (R246). -/
def PassEnded (p : LocPass) (t : State) : Prop :=
  t.sns.loc = none ∧ t.sns.locStage = (if allConfirmed t then 5 else 3) ∧ t.sns.locDefer = p.lfDefer ∧ regBit t 0x40070108 1 = true ∧
    (p.lfDefer = true → regBit t 0x40070108 8 = true)

theorem PassEnded.kept {p : LocPass} {t u : State} (h : PassEnded p t) (k : SensingKept t u) : PassEnded p u := by
  obtain ⟨hl, hs, hd, h1, h8⟩ := h
  exact ⟨by rw [k.sns, hl], by rw [k.sns, hs, allConfirmed_congr (congrArg Sensing.sensors k.sns)], by rw [k.sns, hd], k.raised 1 h1, fun h => k.raised 8 (h8 h)⟩

/-- What assignment does once the sensors have taken their places, in the state `s`. -/
def assignEnd (p : LocPass) (s : State) : State :=
  let s := snsEvent 2 none (modSensing (fun n => { n with locStage := 3, locDefer := p.lfDefer }) s)
  let s := if p.lfDefer then snsEvent 256 none s else s
  let s := cplLocated 8 (jrnCommit (internalUnit 3) s)
  confirmEnd (finishAny p.work p.loose stOk (locateResult s) (rngOver (modSensing (fun n => { n with loc := none }) s)))

theorem assignEnd_ends (p : LocPass) (s : State) : PassEnded p (assignEnd p s) := by
  have hstage : SensingKept (modSensing (fun n => { n with locStage := 3, locDefer := p.lfDefer }) s)
      (snsEvent 2 none (modSensing (fun n => { n with locStage := 3, locDefer := p.lfDefer }) s)) := snsEvent_kept _ _ _
  have hdone := regBit_snsEvent (bits := 2) (i := 1) (by decide) none (modSensing (fun n => { n with locStage := 3, locDefer := p.lfDefer }) s)
  unfold assignEnd
  dsimp only
  generalize snsEvent 2 none (modSensing (fun n => { n with locStage := 3, locDefer := p.lfDefer }) s) = s1 at hstage hdone
  have hdefer : SensingKept s1 (if p.lfDefer = true then snsEvent 256 none s1 else s1) := .ite (fun _ => snsEvent_kept _ _ _) fun _ => .refl _
  have h8 : p.lfDefer = true → regBit (if p.lfDefer = true then snsEvent 256 none s1 else s1) 0x40070108 8 = true := fun h => by
    rw [if_pos h]; exact regBit_snsEvent (by decide) none s1
  generalize (if p.lfDefer = true then snsEvent 256 none s1 else s1) = s2 at hdefer h8
  have hbound := (cplLocated_senses 8 (jrnCommit (internalUnit 3) s2)).after (jrnCommit_kept (internalUnit 3) s2).senses
  generalize cplLocated 8 (jrnCommit (internalUnit 3) s2) = s3 at hbound
  have hover : SensingKept (modSensing (fun n => { n with loc := none }) s3)
      (finishAny p.work p.loose stOk (locateResult s3) (rngOver (modSensing (fun n => { n with loc := none }) s3))) := .after (finishAny_kept _ _ _ _ _) (rngOver_kept _)
  generalize finishAny p.work p.loose stOk (locateResult s3) (rngOver (modSensing (fun n => { n with loc := none }) s3)) = s4 at hover
  have hsns : s4.sns = { s.sns with locStage := 3, locDefer := p.lfDefer, loc := none } := by
    rw [hover.sns, modSensing_sns, hbound.sns, hdefer.sns, hstage.sns]; rfl
  have hraised : ∀ i, regBit s2 0x40070108 i = true → regBit s4 0x40070108 i = true := fun i hi => hover.raised i (hbound.raised i hi)
  obtain ⟨hend, hkept⟩ := confirmEnd_spec (s := s4) (by rw [hsns]) (by rw [hsns])
  have hall : allConfirmed (confirmEnd s4) = allConfirmed s4 := allConfirmed_congr (by rw [hend])
  refine ⟨by rw [hend, hsns], ?_, by rw [hend, hsns], hkept 1 (hraised 1 (hdefer.raised 1 hdone)), fun h => hkept 8 (hraised 8 (h8 h))⟩
  rw [hall, hend]

/-- A pass that no other follows ends at its time. -/
theorem locTimeout_ends {s : State} {p : LocPass} (hp : s.sns.loc = some p) (ha : p.again = false) : PassEnded p (locTimeout s) := by
  have hs : ∃ u, locTimeout s = assignEnd p u := by
    simp only [locTimeout, hp, Option.isSome_some, if_true, locEnd, ha, Bool.false_and, Bool.false_eq_true, if_false, locAssign]
    exact ⟨_, rfl⟩
  obtain ⟨u, hu⟩ := hs
  rw [hu]
  exact assignEnd_ends p u

end Sys2Proof.Machine

end

section
/-! The timers of the sensors, event by event (R26, R237, R240, R244, R246, R249, R250, R253, R254). -/
namespace Sys2Proof.Machine

/-! ### Auto-location -/

/-- Auto-location begins when a coupling has reached step 7 (R26, R246). -/
theorem exec_autoLocationStart_begins {s : State} {c : Coupling} (hn : s.power.state = .noon) (he : s.link.e0Restart = false) (hc : c ∈ s.cpl.units)
    (ht : c.state = .trusted) (hb : c.boundary = 6) (hl : s.sns.loc = none) (h0 : regBit s 0x40070100 0 = true) (hm : byteAt s.sns.model 1 ≠ 0)
    (ha : modelAerials s.sns.model ≠ []) : ∃ t, exec .autoLocationStart s = .next t ∧ PassBegun s t := by
  obtain ⟨t, hx, hk⟩ := act_kept (whenNoon locDue) s
  have hw : workRuns (fresh s) = true := workRuns_of_noon (s := fresh s) hn he
  have hdue : s.cpl.units.any (fun c => c.state == .trusted && c.boundary == 6) = true := List.any_eq_true.2 ⟨c, hc, by simp [ht, hb]⟩
  have hs : whenNoon locDue (fresh s) = locStart none none (fresh s) := by
    have hreg : regBit (fresh s) 0x40070100 0 = true := h0
    simp [whenNoon, hw, locDue, hdue, hl, hreg, hm]
  rw [hs] at hk
  exact ⟨t, hx, (locStart_begins (s := fresh s) hl hm ha).kept hk⟩

theorem locDue_idle {s : State} (h : s.sns.loc.isSome = true ∨ regBit s 0x40070100 0 = false ∨ ∀ c ∈ s.cpl.units, ¬ (c.state = .trusted ∧ c.boundary = 6)) : locDue s = s := by
  refine if_neg ?_
  simp only [Bool.and_eq_true, List.any_eq_true, beq_iff_eq]
  rintro ⟨⟨⟨⟨c, hc, hd⟩, hn⟩, hb⟩, -⟩
  rcases h with h | h | h
  · simp [Option.isNone_iff_eq_none.1 hn] at h
  · rw [h] at hb; cases hb
  · exact h c hc hd

/-- The pass that a conflict asks for begins at the next stop (R249). -/
theorem locNextStop_begins {s : State} {x : Sensor} (hx : x ∈ s.sns.sensors) (hd : x.conflictDue = true) (hl : s.sns.loc = none) (hm : byteAt s.sns.model 1 ≠ 0)
    (ha : modelAerials s.sns.model ≠ []) : PassBegun s (locNextStop s) := by
  have hs : locNextStop s = modLoc (fun p => { p with rerun := true }) (locStart none none s) := if_pos ⟨List.any_eq_true.2 ⟨x, hx, hd⟩, by rw [hl]; rfl⟩
  obtain ⟨p, hp, h1, h2, h3, h4, h5, h6⟩ := locStart_begins hl hm ha
  rw [hs]
  exact ⟨{ p with rerun := true }, by rw [modLoc_loc, hp]; rfl, h1, h2, h3, h4, h5, h6⟩

theorem locNextStop_idle {s : State} (h : s.sns.loc.isSome = true ∨ ∀ x ∈ s.sns.sensors, x.conflictDue = false) : locNextStop s = s := by
  refine if_neg ?_
  rintro ⟨hd, hn⟩
  obtain ⟨x, hx, hc⟩ := List.any_eq_true.1 hd
  rcases h with h | h
  · simp [Option.isNone_iff_eq_none.1 hn] at h
  · rw [h x hx] at hc; cases hc

/-! ### History -/

/-- A record's history grows by one entry (R237). -/
theorem exec_histPeriod_appends {s : State} {r : Fin 128} {x : Sensor} (hi : s.LinkInv) (hn : s.power.state = .noon) (hp : regFld s 0x40070100 12 8 ≠ 0)
    (hx : snsOf s r = some x) : ∃ t, exec (.histPeriod r) s = .next t ∧
      t = { fresh s with sram := memSet s.sram (0x10140000 + 0x2000 * r.val + 32 * (x.histNext % 256)) (histEntry s x), sns := { s.sns with sensors := t.sns.sensors } } ∧
      snsOf t r = some { x with histNext := x.histNext + 1, histPrimary := sensorV1 x } := by
  have hs : histPeriod r (fresh s) = histAppend r (fresh s) := if_neg hp
  have he := histAppend_eq (s := fresh s) hx
  refine ⟨histAppend r (fresh s), ?_, by rw [he]; rfl, snsOf_histAppend (s := fresh s) hx⟩
  rw [← hs]
  refine act_whenAwake_quiet (awake_of_noon hn) ?_ ?_
  · rw [hs, he]
    exact linkInv_congr rfl rfl rfl rfl rfl rfl rfl rfl hi
  · rw [hs, he]
    rfl

theorem histPeriod_idle {s : State} {r : Nat} (h : regFld s 0x40070100 12 8 = 0 ∨ snsOf s r = none) : histPeriod r s = s := by
  unfold histPeriod
  split
  · rfl
  · exact histAppend_none (h.resolve_left ‹_›)

/-! ### Publication -/

/-- What a partner publishes of its record is taken (R253). -/
theorem exec_sensorState_takes {s : State} {u : Fin 3} {r : Fin 128} {b : Bytes} {x : Sensor} (hi : s.LinkInv) (hn : s.power.state = .noon) (hx : snsOf s r = some x)
    (hb : b.length = 8) (hst : x.state = .partner) (hu : x.srcUnit = u.val + 1) (hk : x.kind = byteAt b 1) :
    ∃ t, exec (.sensorState u r b) s = .next t ∧ t = { fresh s with sns := { s.sns with sensors := t.sns.sensors } } ∧
      snsOf t r = some { x with wheelPos := byte (byteAt b 0), candPos := byte (byteAt b 0), conf := byteAt b 7 } := by
  have hs : partnerState (u.val + 1) r.val b (fresh s) =
      modSns r (fun y => { y with wheelPos := byte (byteAt b 0), candPos := byte (byteAt b 0), conf := byteAt b 7 }) (fresh s) := by
    have hf : snsOf (fresh s) r = some x := hx
    simp only [partnerState, hf, if_pos (show b.length = 8 ∧ x.state = .partner ∧ x.srcUnit = u.val + 1 ∧ x.kind = byteAt b 1 from ⟨hb, hst, hu, hk⟩)]
  refine ⟨partnerState (u.val + 1) r.val b (fresh s), ?_, by rw [hs]; rfl, ?_⟩
  · refine act_whenAwake_quiet (awake_of_noon hn) ?_ ?_
    · rw [hs]
      exact linkInv_congr rfl rfl rfl rfl rfl rfl rfl rfl hi
    · rw [hs]
      rfl
  · rw [hs]
    exact snsOf_modSns_self (f := fun y => { y with wheelPos := byte (byteAt b 0), candPos := byte (byteAt b 0), conf := byteAt b 7 }) (fun _ => rfl) hx

theorem partnerState_idle {s : State} {u r : Nat} {b : Bytes}
    (h : ∀ x, snsOf s r = some x → b.length ≠ 8 ∨ x.state ≠ .partner ∨ x.srcUnit ≠ u ∨ x.kind ≠ byteAt b 1) : partnerState u r b s = s := by
  unfold partnerState
  split
  · rename_i x hx
    refine if_neg ?_
    rintro ⟨h1, h2, h3, h4⟩
    rcases h x hx with h | h | h | h
    · exact h h1
    · exact h h2
    · exact h h3
    · exact h h4
  · rfl

/-- The state without a publication of a record that waits. -/
def published (r : Nat) (s : State) : State := modSensing (fun n => { n with publish := n.publish.filter (· != r) }) s

/-- A record without a place goes to a trusted partner on CAN alone (R253). -/
theorem publishSensor_sends {s : State} {r : Nat} {x : Sensor} (hr : roleOf s = .trailer) (hx : snsOf s r = some x) (ho : x.state = .own) (hp : x.wheelPos = 0xFF)
    (ht : (unitOf s 1).state = .trusted) (hj : (unitOf s 1).j2497 = false) :
    publishSensor r s = emitOut (.canTx 0 ((regGet s 0x400C008C).toNat + isoAddr s (ownChannel s)) true (sensorState s x)) (regInc 0x400C0024 16 (published r s)) := by
  have hgo : ¬ (roleOf s ≠ .trailer ∨ x.state ≠ .own) := by simp [hr, ho]
  have hu : unitOf (published r s) 1 = unitOf s 1 := rfl
  simp only [publishSensor, hx, if_neg hgo]
  rw [show modSensing (fun n => { n with publish := n.publish.filter (· != r) }) s = published r s from rfl]
  simp only [hu, ht, hj, hp, ne_eq, not_true_eq_false, Bool.not_false, true_and, false_and, if_false, Bool.false_eq_true]
  rfl

theorem publishSensor_idle {s : State} {r : Nat} (h : roleOf s ≠ .trailer ∨ ∀ x, snsOf s r = some x → x.state ≠ .own) : publishSensor r s = s := by
  unfold publishSensor
  split
  · rfl
  · rename_i x hx
    exact if_pos (h.imp id fun h => h x hx)

/-- The low half of a word after it was set. -/
theorem wfld_setFld_low (w : Word) (v : Nat) (h : v < 65536) : wfld (setFld w 0 16 v) 0 16 = v := by
  simp only [wfld, setFld, word, fld, BitVec.toNat_ofNat, Nat.pow_zero, Nat.div_one, Nat.mul_one]
  omega

theorem regInc_counts (a : Nat) (s : State) : CountsOne a s (regInc a 16 s) := by
  have hv : satAdd 16 (regFld s a 0 16) 1 = min (regFld s a 0 16 + 1) 0xFFFF := rfl
  have hg : regGet (regInc a 16 s) a = setFld (regGet s a) 0 16 (min (regFld s a 0 16 + 1) 0xFFFF) := by simp [regInc, regCount, regPutFld, hv]
  show wfld (regGet (regInc a 16 s) a) 0 16 = _
  rw [hg]
  exact wfld_setFld_low _ _ (by omega)

theorem exec_sensorStateSend_sends {s : State} {r : Fin 128} {x : Sensor} (hi : s.LinkInv) (hn : s.power.state = .noon) (hr : roleOf s = .trailer)
    (hx : snsOf s r = some x) (ho : x.state = .own) (hp : x.wheelPos = 0xFF) (ht : (unitOf s 1).state = .trusted) (hj : (unitOf s 1).j2497 = false) :
    ∃ t, exec (.sensorStateSend r) s = .next t ∧ t.emit = [.canTx 0 ((regGet s 0x400C008C).toNat + isoAddr s (ownChannel s)) true (sensorState s x)] ∧
      t.sns = { s.sns with publish := s.sns.publish.filter (· != r.val) } ∧ CountsOne 0x400C0024 s t ∧ RegsBut [0x400C0024] s t := by
  have hs := publishSensor_sends (s := fresh s) hr hx ho hp ht hj
  have hreg : ∀ b, b ≠ 0x400C0024 → regGet (publishSensor r (fresh s)) b = regGet s b := by
    intro b hb
    rw [hs]
    exact regGet_regSet_ne hb _ (published r (fresh s))
  refine ⟨publishSensor r (fresh s), act_whenAwake_quiet (awake_of_noon hn) ?_ (by rw [hs]; rfl), by rw [hs]; rfl, by rw [hs]; rfl, ?_, ?_⟩
  · exact linkInv_congr (by rw [hs]; rfl) (by rw [hs]; rfl) (by rw [hs]; rfl) (by rw [hs]; rfl) (by rw [hs]; rfl) (hreg _ (by decide)) (hreg _ (by decide)) (by rw [hs]; rfl) hi
  · rw [hs]
    exact regInc_counts 0x400C0024 (published r (fresh s))
  · intro b hb
    exact hreg b (by simpa using hb)

/-! ### The learn window -/

/-- The end of the learn window with one record LEARNING (R240). -/
theorem exec_learnWindowEnd_frees {s : State} {x : Sensor} (hn : s.power.state = .noon) (h0 : regBit s 0x40070100 0 = false)
    (hf : s.sns.sensors.filter (·.state == .learning) = [x]) (hx : snsOf s x.index = some x) :
    ∃ t, exec .learnWindowEnd s = .next t ∧ t.sns.learn = false ∧ regBit t 0x40070108 7 = true ∧ snsOf t x.index = none ∧
      (∀ q, q ≠ x.index → snsOf t q = snsOf s q) ∧ t.jrn.internal = s.jrn.internal.filter (· != 5) := by
  obtain ⟨t, hex, hk⟩ := act_whenAwake_kept (f := learnEnd) (awake_of_noon hn)
  obtain ⟨hd, hb⟩ := learnEnd_one (s := fresh s) h0 hf hx
  have hall := SensingKept.after hk hd
  have hq : ∀ q, snsOf t q = if q = x.index then none else snsOf s q := fun q => (hall.snsOf q).trans (snsOf_withoutRecord x.index q (windowClosed (fresh s)))
  exact ⟨t, hex, by rw [hall.sns]; rfl, hk.raised 7 hb, by rw [hq, if_pos rfl], fun q h => by rw [hq, if_neg h], hall.internal⟩

theorem exec_learnWindowEnd_quiet {s : State} (hi : s.LinkInv) (hn : s.power.state = .noon) (h : ∀ x ∈ s.sns.sensors, x.state ≠ .learning) :
    exec .learnWindowEnd s = .next (windowClosed (fresh s)) := by
  have hs : learnEnd (fresh s) = windowClosed (fresh s) := learnEnd_none (s := fresh s) h
  have hx := act_whenAwake_quiet (f := learnEnd) (awake_of_noon hn) (by rw [hs]; exact linkInv_congr rfl rfl rfl rfl rfl rfl rfl rfl hi) (by rw [hs]; rfl)
  rwa [hs] at hx

end Sys2Proof.Machine

open Sys2Proof Sys2Proof.Machine

/-- Settles O54: each timer's effect on the sensing state, which what else the event does leaves alone (`SensingKept`); where a timer does not apply its effect is that of nothing. -/
theorem sensorTimers : Obligations.SensorTimers := by
  unfold Obligations.SensorTimers
  refine ⟨?_, ?_, ?_, ?_, ?_, ?_, ?_, ?_, ?_, ?_, ?_, ?_, ?_, ?_, ?_, ?_, ?_, ?_, ?_, ?_, ?_⟩
  · rintro s c ⟨-, hn⟩ he hc ht hb hl h0 hm ha
    obtain ⟨t, hx, p, hp⟩ := exec_autoLocationStart_begins hn he hc ht hb hl h0 hm ha
    exact ⟨t, p, hx, hp⟩
  · exact fun s hi h => act_idle hi (by unfold whenNoon; split; exacts [locDue_idle (s := fresh s) h, rfl])
  · rintro s x ⟨-, hn⟩ hx hd hl hm ha
    obtain ⟨t, hex, hk⟩ := act_whenAwake_kept (f := locNextStop) (awake_of_noon hn)
    obtain ⟨p, hp⟩ := (locNextStop_begins (s := fresh s) hx hd hl hm ha).kept hk
    exact ⟨t, p, hex, hp⟩
  · exact fun s hi h => act_whenAwake_idle hi (locNextStop_idle (s := fresh s) h)
  · rintro s p a ⟨-, hn⟩ hp h1 ha hw hr
    obtain ⟨t, hex, hk⟩ := act_whenAwake_kept (f := locDeferred) (awake_of_noon hn)
    obtain ⟨hl, hd⟩ := locDeferred_putOff (s := fresh s) hp h1 ha hw hr
    refine ⟨t, _, hex, by rw [hk.sns]; exact hl, rfl, ?_⟩
    rw [e1Waits, act_whenAwake_lf (awake_of_noon hn) hex]
    exact hd
  · exact fun s hi h => act_whenAwake_idle hi (locDeferred_idle (s := fresh s) h)
  · rintro s p ⟨-, hn⟩ hp h1 ha hk hr
    obtain ⟨t, hex, hkept⟩ := act_whenAwake_kept (f := locRetry) (awake_of_noon hn)
    obtain ⟨q, hq, hw⟩ := locRetry_wakes (s := fresh s) hp h1 ha hk hr
    exact ⟨t, q, hex, by rw [hkept.sns]; exact hq, hw⟩
  · exact fun s hi h => act_whenAwake_idle hi (locRetry_idle (s := fresh s) h)
  · rintro s p ⟨-, hn⟩ hp ha
    obtain ⟨t, hex, hk⟩ := act_whenAwake_kept (f := locTimeout) (awake_of_noon hn)
    exact ⟨t, hex, (locTimeout_ends (s := fresh s) hp ha).kept hk⟩
  · exact fun s hi h => act_whenAwake_idle hi (by simp [locTimeout, h])
  · rintro s x ⟨-, hn⟩ h0 hf hx
    exact exec_learnWindowEnd_frees hn h0 hf hx
  · rintro s ⟨hi, hn⟩ h
    exact ⟨_, exec_learnWindowEnd_quiet hi hn h, rfl, rfl⟩
  · rintro s r x ⟨hi, hn⟩ hp hx
    exact exec_histPeriod_appends hi hn hp hx
  · exact fun s r hi h => act_whenAwake_idle hi (histPeriod_idle (s := fresh s) h)
  · rintro s r x ⟨-, hn⟩ h0 hage hx hk
    obtain ⟨t, hex, hkept⟩ := act_whenAwake_kept (f := staleRecord r.val) (awake_of_noon hn)
    obtain ⟨y, hy, hal, hda, hb⟩ := staleRecord_spec (s := fresh s) (lvl := 1) hx (by decide) (by
      rw [if_neg fun h => hk h.1]; exact if_pos ⟨h0, hage⟩)
    exact ⟨t, y, hex, hkept.raised 6 hb, (hkept.snsOf r).trans hy, hal, hda⟩
  · rintro s r x ⟨-, hn⟩ hx hk hm hage
    obtain ⟨t, hex, hkept⟩ := act_whenAwake_kept (f := staleRecord r.val) (awake_of_noon hn)
    obtain ⟨y, hy, hal, -, hb⟩ := staleRecord_spec (s := fresh s) (lvl := 2) hx (by decide) (if_pos ⟨hk, hm, hage⟩)
    exact ⟨t, y, hex, hkept.raised 6 hb, (hkept.snsOf r).trans hy, hal⟩
  · exact fun s r hi h => act_whenAwake_idle hi (staleRecord_idle (s := fresh s) h)
  · rintro s u r b x ⟨hi, hn⟩ hx hb hst hu hk
    exact exec_sensorState_takes hi hn hx hb hst hu hk
  · exact fun s u r b hi h => act_whenAwake_idle hi (partnerState_idle (s := fresh s) h)
  · rintro s r x ⟨hi, hn⟩ hr hx ho hp ht hj
    exact exec_sensorStateSend_sends hi hn hr hx ho hp ht hj
  · exact fun s r hi h => act_whenAwake_idle hi (publishSensor_idle (s := fresh s) h)

end

section
/-! The silence of an enrolled token while the work behind it is parked (R41, R75): a parked record takes no result. -/
namespace Sys2Proof.Machine

/-- The statuses that the records of accepted work have ready after a row. -/
def readyAfter (i : Instr) (s : State) : List (Option Byte) :=
  match exec i s with
  | .next t => t.jrn.works.map fun w => w.ready.map (·.1)
  | _ => []

theorem readyAfter_next {i : Instr} {s t : State} (h : exec i s = .next t) : readyAfter i s = t.jrn.works.map fun w => w.ready.map (·.1) := by rw [readyAfter, h]

/-- ENROL whose step an engine loss has taken back to its boundary. -/
def parkedEnrol : Work := { doneParkedWork with opcode := 0x72, state := .running, step := 2, pct := 40 }

/-- In Noon, `parkedEnrol` is the one record, and the enrolment of a T3 token still stands in its learn step. -/
def enrolWhileParked : State :=
  { State.reset with
    power := { Power.reset with state := .noon, stage := .done, pll := true, vddioOk := true }
    link := { HostLink.reset with answers := true }
    jrn := { State.reset.jrn with works := [parkedEnrol], loose := [] }
    acc := { State.reset.acc with enrol := some { work := some 1, loose := none, step := 3, record := 0, tokenId := 5, cls := .t3, bandH := false, nonce := 0, phNonce := 0,
                                                  rx := none, confirmed := false } } }

theorem enrolWhileParked_linkInv : enrolWhileParked.LinkInv := ⟨by decide +kernel, by decide +kernel, by decide +kernel, rfl⟩

theorem enrolWhileParked_notReady : readyAfter .enrolTimeout enrolWhileParked = [none] := by decide +kernel

end Sys2Proof.Machine

open Sys2Proof Sys2Proof.Machine

/-- Refutes O44: the clause for 10 s of silence has the work's record take TIMEOUT whenever it is RUNNING; a record that is `parked`, as in `enrolWhileParked`, takes none
(`readyWork`). -/
theorem not_enrolmentEvents : ¬ Obligations.EnrolmentEvents := by
  unfold Obligations.EnrolmentEvents
  rintro ⟨-, -, hsilent, -⟩
  obtain ⟨t, hx, -, -, -, hworks, -⟩ := hsilent enrolWhileParked _ parkedEnrol enrolWhileParked_linkInv (by decide +kernel) (by decide +kernel) rfl rfl rfl rfl rfl rfl
  have hready := enrolWhileParked_notReady
  rw [readyAfter_next hx, hworks] at hready
  exact absurd hready (by decide)

end

section
/-! Queries: immediate commands that answer what is held and change nothing (R64, R72, R77, R86, R189, R392, R394, R397). -/
namespace Sys2Proof.Machine

/-- The state as the body of a command meets it: the link as its packet has left it, no signal sent yet, the idle count of R553 begun again. -/
def atBody (lk : HostLink) (s : State) : State := { s with emit := [], link := lk, power := { s.power with duskDue := false } }

/-- A command whose body replies with a status and with bytes of the state, whatever its packet has made of the link, answers them and changes nothing. -/
theorem answered_of_reply {mk : Packet → Instr} {op : Byte} {cond : Packet → State → Prop} {st : State → Byte} {ans : Packet → State → Bytes}
    (hmk : ∀ p s, exec (mk p) s = act (hostCommand op p) s) (h20 : ∀ s, st s ≠ 0x20) (h14 : ∀ s, st s ≠ 0x14)
    (hbody : ∀ p s lk r, Ready op p s → cond p s → runCommand op p r (atBody lk s) = reply r (st s) (ans p s) (atBody lk s)) :
    Answered mk op cond st ans fun _ s => s := by
  intro p s h hc
  obtain ⟨lk, hl⟩ := taken_frame h
  obtain ⟨t, hx, hr, hlv⟩ := exec_read h (st s) (ans p s) (by rw [hl]; exact hbody p s lk _ h hc) (h20 s) (h14 s)
  exact ⟨t, (hmk p s).trans hx, hr, hlv⟩

theorem servesRead_of_reply {mk : Packet → Instr} {op : Byte} {cond : Packet → State → Prop} {ans : Packet → State → Bytes}
    (hmk : ∀ p s, exec (mk p) s = act (hostCommand op p) s)
    (hbody : ∀ p s lk r, Ready op p s → cond p s → runCommand op p r (atBody lk s) = ok r (ans p s) (atBody lk s)) : ServesRead mk op cond ans :=
  answered_of_reply hmk (fun _ => by decide) (fun _ => by decide) hbody

/-- The status of a query of the Access family (R64). -/
theorem queryStatus_ne {x : Byte} (hc : x ≠ stCurfew) (ho : x ≠ stOk) (s : State) : (if s.acc.curfew then stCurfew else stOk) ≠ x := by
  split
  · exact hc.symm
  · exact ho.symm

/-- A query of the Access family answers with CURFEW during Curfew (R64). -/
theorem answered_of_query {mk : Packet → Instr} {op : Byte} {ans : Packet → State → Bytes} (hmk : ∀ p s, exec (mk p) s = act (hostCommand op p) s)
    (hbody : ∀ p s lk r, Ready op p s → runCommand op p r (atBody lk s) = answerQuery r (ans p s) (atBody lk s)) :
    Answered mk op (fun _ _ => True) (fun s => if s.acc.curfew then stCurfew else stOk) ans fun _ s => s :=
  answered_of_reply hmk (queryStatus_ne (by decide) (by decide)) (queryStatus_ne (by decide) (by decide)) fun p s lk r h _ => hbody p s lk r h

/-- Commands of the LF, radio, ranging and Access families that no role gates. -/
theorem runCommand_air {op : Byte} {p : Packet} {s : State} (h : Ready op p s) (hlo : 0x40 ≤ op.toNat) (hhi : op.toNat < 0x80) (r : ReplyTo) (lk : HostLink) :
    runCommand op p r (atBody lk s) = runAir op.toNat p r (atBody lk s) := by
  have hg : roleGated op.toNat (atBody lk s) = false := h.gate
  simp only [runCommand, hg, Bool.false_eq_true, if_false, if_neg (show ¬ op.toNat < 0x30 by omega), if_neg (show ¬ op.toNat < 0x40 by omega), if_pos hhi]

/-- Commands of the coupling, sensing, bus, engine, timer and diagnostic families that no role gates. -/
theorem runCommand_high {op : Byte} {p : Packet} {s : State} (h : Ready op p s) (hlo : 0x80 ≤ op.toNat) (r : ReplyTo) (lk : HostLink) :
    runCommand op p r (atBody lk s) = runHigh op.toNat p r (atBody lk s) := by
  have hg : roleGated op.toNat (atBody lk s) = false := h.gate
  simp only [runCommand, hg, Bool.false_eq_true, if_false, if_neg (show ¬ op.toNat < 0x30 by omega), if_neg (show ¬ op.toNat < 0x40 by omega),
    if_neg (show ¬ op.toNat < 0x80 by omega)]

/-- COUPLING_QUERY for all units, or for one that the device can couple (R394). -/
theorem cmdCouplingQuery_known {p : Packet} {s : State} (h : byteAt p.payload 0 = 0 ∨ (cplUnits s).contains (byteAt p.payload 0) = true) (r : ReplyTo) :
    cmdCouplingQuery p r s = ok r (((cplUnits s).filter fun u => decide (byteAt p.payload 0 = 0 ∨ u = byteAt p.payload 0)).flatMap (queryEntry s)) s := by
  refine if_neg ?_
  rintro ⟨hu, hr⟩
  rcases h with h | h
  · exact hu h
  · simp [unitRefused, List.contains_iff_mem.1 h] at hr

end Sys2Proof.Machine

open Sys2Proof Sys2Proof.Machine

/-- Settles O21: the body of each query is one reply with bytes of the state. -/
theorem queriesAnswer : Obligations.QueriesAnswer := by
  unfold Obligations.QueriesAnswer
  refine ⟨servesRead_of_reply (fun _ _ => rfl) fun p s lk r h _ => ?_, servesRead_of_reply (fun _ _ => rfl) fun p s lk r h hc => ?_,
    answered_of_query (fun _ _ => rfl) fun p s lk r h => ?_, answered_of_query (fun _ _ => rfl) fun p s lk r h => ?_,
    answered_of_query (fun _ _ => rfl) fun p s lk r h => ?_, servesRead_of_reply (fun _ _ => rfl) fun p s lk r h hc => ?_,
    servesRead_of_reply (fun _ _ => rfl) fun p s lk r h _ => ?_, servesRead_of_reply (fun _ _ => rfl) fun p s lk r h _ => ?_,
    servesRead_of_reply (fun _ _ => rfl) fun p s lk r h _ => ?_⟩
  case refine_2 =>
    rw [runCommand_air h (by decide) (by decide)]
    exact if_pos hc
  case refine_6 =>
    rw [runCommand_high h (by decide)]
    exact cmdCouplingQuery_known (s := atBody lk s) hc r
  case refine_1 | refine_3 | refine_4 | refine_5 =>
    rw [runCommand_air h (by decide) (by decide)]
    rfl
  case refine_7 | refine_8 | refine_9 =>
    rw [runCommand_high h (by decide)]
    rfl

end

section
/-! What the end of a command can touch (R337, R345, R347): the outward signals, the link's queues and what waits in them, the records that a sent COMPLETE clears. -/
namespace Sys2Proof.Machine

/-- `t` is `s` but for what the end of a command can touch; no signal of `s` is lost, and no record but for its COMPLETE that is due. -/
structure Concluded (s t : State) : Prop where
  rest : t = { s with
    pending := t.pending
    emit := t.emit
    link := { s.link with hcs0 := t.link.hcs0, uart := t.link.uart, hirq := t.link.hirq, cfgPend := t.link.cfgPend, afterReply := t.link.afterReply }
    jrn := { s.jrn with works := t.jrn.works, loose := t.jrn.loose }
    fer := { s.fer with reads := t.fer.reads } }
  emit : ∀ e ∈ s.emit, e ∈ t.emit
  works : ∀ q w, s.jrn.works.find? (·.seq == q) = some w → ∃ c, t.jrn.works.find? (·.seq == q) = some { w with completeDue := c }

namespace Concluded

theorem refl (s : State) : Concluded s s := ⟨rfl, fun _ h => h, fun _ w h => ⟨w.completeDue, h⟩⟩

theorem after {s t u : State} (k : Concluded t u) (h : Concluded s t) : Concluded s u := by
  refine ⟨?_, fun e he => k.emit e (h.emit e he), fun q w hw => ?_⟩
  · have hu := k.rest
    rw [h.rest] at hu
    exact hu
  · obtain ⟨c, hc⟩ := h.works q w hw
    exact k.works q { w with completeDue := c } hc

/-- A step that leaves the journal. -/
theorem of_link {s t : State} (h : t = { s with
    emit := t.emit
    link := { s.link with hcs0 := t.link.hcs0, uart := t.link.uart, hirq := t.link.hirq, cfgPend := t.link.cfgPend, afterReply := t.link.afterReply } }) (he : ∀ e ∈ s.emit, e ∈ t.emit) : Concluded s t := by
  have hj : t.jrn = s.jrn := by rw [h]
  refine ⟨?_, he, fun q w hw => ⟨w.completeDue, by rw [hj]; exact hw⟩⟩
  have hp : t.pending = s.pending := by rw [h]
  have hf : t.fer = s.fer := by rw [h]
  rw [hp, hj, hf]
  exact h

end Concluded

theorem setPort_concluded (p : VPort) (x : PortState) (s : State) : Concluded s (setPort p x s) := by
  cases p <;> exact .of_link rfl fun _ h => h

theorem emitOut_concluded (e : Emission) (s : State) : Concluded s (emitOut e s) := .of_link rfl fun _ h => List.mem_append_left _ h

/-- A change of a record's COMPLETE that is due leaves the record where it is. -/
theorem find_clearDue (p : Work → Bool) (l : List Work) {q : Nat} {w : Work} (h : l.find? (·.seq == q) = some w) :
    ∃ c, (modAll p (fun w => { w with completeDue := false }) l).find? (·.seq == q) = some { w with completeDue := c } := by
  have hs : ((fun w : Work => w.seq == q) ∘ fun w => if p w then { w with completeDue := false } else w) = fun w => w.seq == q := by
    funext w
    simp only [Function.comp]
    split <;> rfl
  refine ⟨if p w then false else w.completeDue, ?_⟩
  rw [modAll, List.find?_map, hs, h]
  by_cases hp : p w <;> simp [hp]

theorem afterConsumed_concluded (o : OutPkt) (s : State) : Concluded s (afterConsumed o s) := by
  unfold afterConsumed
  split
  · dsimp only
    split
    · split <;> exact .of_link rfl fun _ h => h
    · exact .of_link rfl fun _ h => h
  · split
    · exact ⟨rfl, fun _ h => h, fun _ _ h => find_clearDue _ _ h⟩
    · exact .refl s

theorem sendUart_concluded (s : State) : Concluded s (sendUart s) := by
  unfold sendUart
  split
  · dsimp only
    refine .after ?_ (setPort_concluded .uart { s.link.uart with outq := [], last := s.link.uart.outq.getLast?.or s.link.uart.last } s)
    generalize setPort .uart { s.link.uart with outq := [], last := s.link.uart.outq.getLast?.or s.link.uart.last } s = u
    generalize s.link.uart.outq = q
    induction q generalizing u with
    | nil => exact .refl u
    | cons o q ih => exact (ih _).after ((afterConsumed_concluded o _).after (emitOut_concluded _ u))
  · exact .refl s

theorem releaseReplies_concluded (p : VPort) (s : State) : Concluded s (releaseReplies p s) := by
  unfold releaseReplies
  dsimp only
  split
  · exact (emitOut_concluded _ _).after (setPort_concluded p _ s)
  · exact setPort_concluded p _ s

theorem settle_concluded (s : State) : Concluded s (settle s) := by
  have h := (sendUart_concluded _).after ((releaseReplies_concluded .uart _).after (releaseReplies_concluded .hcs0 s))
  refine .after ?_ h
  unfold settle
  exact ⟨rfl, fun _ h => h, fun _ w h => ⟨w.completeDue, h⟩⟩

/-- What a command leaves is what its effect made, but for what the end of a command touches. -/
theorem act_concluded (f : State → State) (s : State) : ∃ t, act f s = .next t ∧ Concluded (f (fresh s)) t :=
  ⟨_, rfl, .after ⟨rfl, fun _ h => h, fun _ w h => ⟨w.completeDue, h⟩⟩ (settle_concluded _)⟩

namespace Concluded

theorem regs {s t : State} (h : Concluded s t) : t.regs = s.regs := by rw [h.rest]
theorem acc {s t : State} (h : Concluded s t) : t.acc = s.acc := by rw [h.rest]
theorem cfg {s t : State} (h : Concluded s t) : t.cfg = s.cfg := by rw [h.rest]
theorem rad {s t : State} (h : Concluded s t) : t.rad = s.rad := by rw [h.rest]
theorem rng {s t : State} (h : Concluded s t) : t.rng = s.rng := by rw [h.rest]
theorem sns {s t : State} (h : Concluded s t) : t.sns = s.sns := by rw [h.rest]
theorem ring {s t : State} (h : Concluded s t) : t.jrn.ring = s.jrn.ring := by rw [h.rest]
theorem config {s t : State} (h : Concluded s t) : t.fer.config = s.fer.config := by rw [h.rest]

end Concluded

end Sys2Proof.Machine
end

section
/-! What events for the host, reception and the tuning of receivers leave of the rest of the machine. -/
namespace Sys2Proof.Machine

/-- Registers of events and their counters, of the receivers' levels and of their tuning. -/
def stirredRegs : List Nat :=
  [0x40010008, 0x40010038, 0x40030004, 0x40040004, 0x40080008, 0x4008001C, 0x40080020, 0x40090008, 0x40100004, 0x40100040,
   0x40030038, 0x40030050, 0x40040038, 0x40030074, 0x40030010, 0x40030014, 0x40030020, 0x40030024, 0x40030030, 0x40030034, 0x40030048, 0x4003004C]

/-- `t` is `s` but for the engines, the radio, the queues of the host's events and registers of `stirredRegs`; every window is as open as it was. -/
structure Stirred (s t : State) : Prop where
  rest : t = { s with
    regs := t.regs
    link := { s.link with hcs0 := t.link.hcs0, uart := t.link.uart, lostHcs0 := t.link.lostHcs0, lostUart := t.link.lostUart }
    eng := t.eng
    rad := t.rad }
  regs : RegsBut stirredRegs s t
  windows : ∀ r, (rxOf t r).winOpen = (rxOf s r).winOpen

namespace Stirred

theorem refl (s : State) : Stirred s s := ⟨rfl, fun _ _ => rfl, fun _ => rfl⟩

theorem after {s t u : State} (k : Stirred t u) (h : Stirred s t) : Stirred s u := by
  refine ⟨?_, fun a ha => (k.regs a ha).trans (h.regs a ha), fun r => (k.windows r).trans (h.windows r)⟩
  have hu := k.rest
  rw [h.rest] at hu
  exact hu

theorem ite {s t u : State} {c : Prop} [Decidable c] (h : c → Stirred s t) (k : ¬ c → Stirred s u) : Stirred s (if c then t else u) := by
  split
  · exact h ‹_›
  · exact k ‹_›

theorem foldl {α : Type} {f : State → α → State} (h : ∀ s x, Stirred s (f s x)) (l : List α) (s : State) : Stirred s (l.foldl f s) := by
  induction l generalizing s with
  | nil => exact refl s
  | cons x l ih => exact (ih _).after (h s x)

theorem emit {s t : State} (h : Stirred s t) : t.emit = s.emit := by rw [h.rest]
theorem drawn {s t : State} (h : Stirred s t) : t.drawn = s.drawn := by rw [h.rest]
theorem jrn {s t : State} (h : Stirred s t) : t.jrn = s.jrn := by rw [h.rest]
theorem fer {s t : State} (h : Stirred s t) : t.fer = s.fer := by rw [h.rest]
theorem cfg {s t : State} (h : Stirred s t) : t.cfg = s.cfg := by rw [h.rest]
theorem ks {s t : State} (h : Stirred s t) : t.ks = s.ks := by rw [h.rest]
theorem acc {s t : State} (h : Stirred s t) : t.acc = s.acc := by rw [h.rest]
theorem rng {s t : State} (h : Stirred s t) : t.rng = s.rng := by rw [h.rest]
theorem cpl {s t : State} (h : Stirred s t) : t.cpl = s.cpl := by rw [h.rest]
theorem sns {s t : State} (h : Stirred s t) : t.sns = s.sns := by rw [h.rest]
theorem v1Wait {s t : State} (h : Stirred s t) : t.link.v1Wait = s.link.v1Wait := by rw [h.rest]

end Stirred

/-! ### Registers and events -/

theorem regSet_stirred {a : Nat} (ha : a ∈ stirredRegs) (v : Word) (s : State) : Stirred s (regSet a v s) :=
  ⟨rfl, fun _ hb => regGet_regSet_ne (ne_of_mem_of_not_mem ha hb).symm v s, fun _ => rfl⟩

theorem regPutFld_stirred {a : Nat} (ha : a ∈ stirredRegs) (lo n v : Nat) (s : State) : Stirred s (regPutFld a lo n v s) := regSet_stirred ha _ s

theorem regInc_stirred {a : Nat} (ha : a ∈ stirredRegs) (n : Nat) (s : State) : Stirred s (regInc a n s) := regSet_stirred ha _ s

theorem raise_stirred {a : Nat} (ha : a ∈ stirredRegs) (bits : Nat) (s : State) : Stirred s (raise a bits s) := by
  obtain ⟨e, he⟩ := raise_eng a bits s
  rw [he]
  exact .after (s := s) (t := regOr a bits s) ⟨rfl, fun _ _ => rfl, fun _ => rfl⟩ (regSet_stirred ha _ s)

theorem loseEvent_stirred (p : VPort) (code : Byte) (s : State) : Stirred s (loseEvent p code s) := by
  unfold loseEvent
  cases p <;> exact .after (raise_stirred (by decide) _ _) (.after (regInc_stirred (by decide) 16 _) ⟨rfl, fun _ _ => rfl, fun _ => rfl⟩)

theorem setPort_stirred (p : VPort) (x : PortState) (s : State) : Stirred s (setPort p x s) := by
  cases p <;> exact ⟨rfl, fun _ _ => rfl, fun _ => rfl⟩

theorem queueEvent_stirred (p : VPort) (o : OutPkt) (s : State) : Stirred s (queueEvent p o s) :=
  .ite (fun _ => setPort_stirred p _ s) fun _ => loseEvent_stirred p _ s

theorem hostEvent_stirred (code : Byte) (payload : Bytes) (s : State) : Stirred s (hostEvent code payload s) := by
  unfold hostEvent
  split
  · exact .refl s
  · exact .ite (fun _ => .foldl (fun s p => queueEvent_stirred p _ s) _ s) fun _ => .refl s

theorem radEvent_stirred (h : Bool) (bits : Nat) (s : State) : Stirred s (radEvent h bits s) := by cases h <;> exact raise_stirred (by decide) _ s

/-! ### Chains and receivers -/

theorem modRad_stirred {f : Radio → Radio} (h : ∀ x, (f x).rxA.winOpen = x.rxA.winOpen ∧ (f x).rxB.winOpen = x.rxB.winOpen ∧ (f x).rxH.winOpen = x.rxH.winOpen) (s : State) :
    Stirred s (modRad f s) := by
  refine ⟨rfl, fun _ _ => rfl, fun r => ?_⟩
  obtain ⟨ha, hb, hh⟩ := h s.rad
  simp only [rxOf, modRad_rad, apply_ite Receiver.winOpen, ha, hb, hh]

theorem modRx_stirred {f : Receiver → Receiver} (h : ∀ x, (f x).winOpen = x.winOpen) (r : Nat) (s : State) : Stirred s (modRx r f s) :=
  modRad_stirred (fun x => by split_ifs <;> simp [h]) s

theorem setChain_stirred (i : Nat) (c : ChainState) (s : State) : Stirred s (setChain i c s) :=
  modRad_stirred (fun x => by split_ifs <;> simp) s

theorem modSyn_stirred (i : Nat) (f : Synth → Synth) (s : State) : Stirred s (modSyn i f s) :=
  modRad_stirred (fun x => by split_ifs <;> simp) s

theorem modBand_stirred (h : Bool) (f : Band → Band) (s : State) : Stirred s (modBand h f s) :=
  modRad_stirred (fun x => by split <;> simp) s

theorem applyReq_stirred (r : Nat) (s : State) : Stirred s (applyReq r s) := by
  unfold applyReq
  dsimp only
  refine .ite (fun _ => .refl s) fun _ => .ite (fun _ => setChain_stirred _ _ s) fun _ => ?_
  split
  · exact setChain_stirred _ _ s
  · exact setChain_stirred _ _ s
  · exact setChain_stirred _ _ s
  · exact .ite (fun _ => .after (radEvent_stirred _ _ _) (setChain_stirred _ _ s)) fun _ => setChain_stirred _ _ s

theorem applySyn_stirred (i : Nat) (s : State) : Stirred s (applySyn i s) := modSyn_stirred i _ s

theorem retrySyn_stirred (i : Nat) (s : State) : Stirred s (retrySyn i s) := .ite (fun _ => .refl s) fun _ => applySyn_stirred i s

theorem retryBand_stirred (h : Bool) (s : State) : Stirred s (retryBand h s) :=
  .ite (fun _ => .after (retrySyn_stirred 3 _) (retrySyn_stirred 2 s)) fun _ => .after (retrySyn_stirred 1 _) (retrySyn_stirred 0 s)

theorem resumeRx_stirred (h : Bool) (s : State) : Stirred s (resumeRx h s) :=
  .ite (fun _ => applyReq_stirred 2 s) fun _ => .after (applyReq_stirred 1 _) (applyReq_stirred 0 s)

theorem frameGone_stirred (r : Nat) (s : State) : Stirred s (frameGone r s) :=
  .after (applyReq_stirred r _) (.after (retrySyn_stirred _ _) (modRx_stirred (fun _ => by rfl) r s))

theorem dropFrame_stirred (r : Nat) (s : State) : Stirred s (dropFrame r s) := .ite (fun _ => frameGone_stirred r s) fun _ => .refl s

/-- Ranging takes a band's transmitter, or gives it back. -/
theorem rngAir_stirred (h : Bool) (s : State) : Stirred s (rngAir h s) := by
  unfold rngAir
  dsimp only
  refine .ite (fun _ => .refl s) fun _ => .ite (fun _ => ?_) fun _ =>
    .ite (fun _ => .after (resumeRx_stirred h _) (.after (retryBand_stirred h _) (setChain_stirred _ _ s))) fun _ => .refl s
  refine .after (setChain_stirred _ _ _) (.after (.ite (fun _ => .refl _) fun _ => regPutFld_stirred (by decide) _ _ _ _) ?_)
  refine .after (.ite (fun _ => .after (setChain_stirred _ _ _) (dropFrame_stirred 1 _)) fun _ => .refl _) ?_
  exact .after (.ite (fun _ => setChain_stirred _ _ _) fun _ => .refl _) (dropFrame_stirred _ s)

theorem calBegin_stirred (k : CalKind) (m : CalMeas) (s : State) : Stirred s (calBegin k m s) := by
  unfold calBegin
  exact .after (modRad_stirred (fun _ => by exact ⟨rfl, rfl, rfl⟩) _) (.foldl (fun s _ => .ite (fun _ => .refl s) fun _ => setChain_stirred _ _ s) _ s)

theorem runGaps_stirred (s : State) : Stirred s (runGaps s) := by
  unfold runGaps
  refine .after (.foldl (fun s r => .ite (fun _ => calBegin_stirred _ _ s) fun _ => .refl s) _ _) ?_
  split
  · exact .ite (fun _ => .after (calBegin_stirred _ _ _) (modRad_stirred (fun _ => by exact ⟨rfl, rfl, rfl⟩) s)) fun _ => .refl s
  · exact .refl s

/-! ### Reception -/

theorem draw_stirred {s t : State} (n : Nat) (h : Stirred s t) : Stirred (draw n s) (draw n t) := by
  have hd := congrArg (draw n) h.rest
  exact ⟨hd, h.regs, h.windows⟩

/-- A good frame that a receiver hears draws the level read after it, and stirs the radio. -/
theorem rxFrame_good {f : RxFrame} {s : State} (h : rxGood s f = true) : Stirred (draw 1 s) (rxFrame f s) := by
  simp only [rxGood, Bool.and_eq_true, Bool.not_eq_true'] at h
  obtain ⟨⟨⟨hends, hheard⟩, hok⟩, hinj⟩ := h
  have haddr : ∀ r : Fin 3, rxAddr r 8 ∈ stirredRegs := by decide
  have hlevel := draw_stirred 1 (.after (modRx_stirred (f := fun x => { x with level := byte (wfld (peek s 0) 0 8) }) (fun _ => by rfl) f.rx.val _)
    (regPutFld_stirred (haddr f.rx) 8 8 f.rssi.toNat s))
  simp only [rxFrame, hheard, hends, Bool.not_true, Bool.false_eq_true, if_false, if_true, frameEnds, hok, hinj, Bool.and_false, Bool.not_false, Bool.and_true]
  refine .after (runGaps_stirred _) (.after (frameGone_stirred _ _) (.after (.ite (fun _ => modBand_stirred _ _ _) fun _ => .refl _) (.after (radEvent_stirred _ _ _) ?_)))
  split
  · exact .ite (fun _ => .after (modRx_stirred (fun _ => by rfl) _ _) hlevel) fun _ => hlevel
  · exact hlevel

/-! ### E2 listens again -/

theorem rxCfgWrite_stirred (r : Nat) (s : State) : Stirred s (rxCfgWrite r s) :=
  .ite (fun _ => .refl s) fun _ => .after (applyReq_stirred r _) (modRx_stirred (fun _ => by rfl) r s)

theorem commitSyn_stirred (i : Nat) (s : State) : Stirred s (commitSyn i s) := by
  unfold commitSyn
  exact .after (.ite (fun _ => .refl _) fun _ => applySyn_stirred i _) (modSyn_stirred i _ s)

/-- The registers that tuning a Band L receiver writes. -/
theorem tuneRegs_stirred {r : Nat} (h : r = 0 ∨ r = 1) (i : Nat) :
    (if r = 0 then 0x40030010 else if r = 1 then 0x40030020 else if i = 2 then 0x40040010 else 0x40040018) ∈ stirredRegs ∧
    (if r = 0 then 0x40030010 else if r = 1 then 0x40030020 else if i = 2 then 0x40040010 else 0x40040018) + 4 ∈ stirredRegs ∧
    rxAddr r 0 ∈ stirredRegs ∧ rxAddr r 4 ∈ stirredRegs := by
  rcases h with rfl | rfl <;> simp [stirredRegs, rxAddr]

theorem setFrame_stirred {r : Nat} (h : r = 0 ∨ r = 1) (f : AirFrame) (s : State) : Stirred s (setFrame r f s) := by
  obtain ⟨-, -, hcfg, hsync⟩ := tuneRegs_stirred h 0
  unfold setFrame
  dsimp only
  rw [if_neg (by omega)]
  refine .after (regSet_stirred hsync _ _) (.after (regPutFld_stirred hcfg _ _ _ _) (.after (regPutFld_stirred hcfg _ _ _ _) (.after (regPutFld_stirred hcfg _ _ _ _) ?_)))
  refine .after (regPutFld_stirred hcfg _ _ _ _) (.after (regPutFld_stirred hcfg _ _ _ _) (.after (regPutFld_stirred hcfg _ _ _ _) (regPutFld_stirred hcfg _ _ _ s)))

theorem tuneRx_stirred {r : Nat} (h : r = 0 ∨ r = 1) (freq : Nat) (f : AirFrame) (s : State) : Stirred s (tuneRx r freq f s) := by
  obtain ⟨hfreq, hif, -, -⟩ := tuneRegs_stirred h (rxSyn s r)
  unfold tuneRx
  exact .after (rxCfgWrite_stirred r _) (.after (setFrame_stirred h f _) (.after (commitSyn_stirred _ _) (.after (regSet_stirred hfreq _ _)
    (.ite (fun _ => .refl s) fun _ => regSet_stirred hif _ s))))

theorem sensorListen_stirred (r : Fin 3) (s : State) : Stirred s (sensorListen r s) :=
  .ite (fun _ => .refl s) fun h => tuneRx_stirred (by have := r.isLt; omega) _ _ s

end Sys2Proof.Machine
end

section
/-! Fields and counters of registers after a write. -/
namespace Sys2Proof.Machine

/-- A field reads what was written into it. -/
theorem wfld_setFld {lo n : Nat} (h : lo + n ≤ 32) (w : Word) (v : Nat) : wfld (setFld w lo n v) lo n = v % 2 ^ n := by
  have hword : ∀ x, wfld (word x) lo n = x / 2 ^ lo % 2 ^ n := fun x => by
    have hp : 2 ^ 32 = 2 ^ lo * 2 ^ (32 - lo) := by rw [← pow_add, Nat.add_sub_cancel' (by omega)]
    rw [wfld, fld, word, BitVec.toNat_ofNat, hp, Nat.mod_mul_right_div_self, Nat.mod_mod_of_dvd _ (pow_dvd_pow 2 (by omega))]
  rw [setFld, hword, Nat.add_mul_div_right _ _ (Nat.two_pow_pos lo), fld, mul_comm, Nat.sub_mul_div]
  generalize w.toNat / 2 ^ lo = q
  rw [← Nat.mul_div_self_eq_mod_sub_self, Nat.mul_add_mod, Nat.mod_mod]

theorem regFld_regPutFld {lo n : Nat} (h : lo + n ≤ 32) (a v : Nat) (s : State) : regFld (regPutFld a lo n v s) a lo n = v % 2 ^ n := by
  simp only [regFld, regPutFld, regGet_regSet, if_true]
  exact wfld_setFld h _ v

theorem regBit_eq_fld (s : State) (a i : Nat) : regBit s a i = decide (regFld s a i 1 = 1) := by
  simp [regBit, wbit, regFld, wfld, fld, Nat.testBit_eq_decide_div_mod_eq]

end Sys2Proof.Machine
end

section
/-! Replies to a decision's challenges (R52–R62): whose key stands behind them, and what they make of the running decision. -/
namespace Sys2Proof.Machine

/-! ### The key of a record -/

/-- The state with another key store. -/
def withKs (k : KeyStore) (s : State) : State := { s with ks := k }

theorem Stirred.withKs {s t : State} (h : Stirred s t) (k : KeyStore) : Stirred (withKs k s) (withKs k t) := by
  have hk := congrArg (Machine.withKs k) h.rest
  exact ⟨hk, h.regs, h.windows⟩

theorem raiseKst_stirred (bits : Nat) (s : State) : Stirred s (raiseKst bits s) := by
  unfold raiseKst
  exact .after (hostEvent_stirred _ _ _) (raise_stirred (by decide) bits s)

theorem countKeyRefusal_stirred (r : Refused) (s : State) : Stirred s (countKeyRefusal r s) :=
  .ite (fun _ => .after (raiseKst_stirred _ _) (regInc_stirred (by decide) 16 s)) fun _ =>
    .ite (fun _ => .after (raiseKst_stirred _ _) (regInc_stirred (by decide) 16 s)) fun _ => .refl s

/-- A load into the cache changes the key store, and tells of a key that it displaces (R280). -/
theorem cacheLoad_stirred (n : Option Nat) (h : BlobHeader) (key : Bytes) (s : State) : Stirred (withKs (cacheLoad n h key s).2.ks s) (cacheLoad n h key s).2 := by
  unfold cacheLoad
  split
  · exact .refl _
  · dsimp only
    unfold cacheSlot
    split
    · exact .refl _
    · exact (raiseKst_stirred 0x10 (dropSlot (oldestCache s) s)).withKs _

/-- A use of a handle is refused, or finds its key in the cache after its load (R271, R277). -/
theorem useHandle_cases (n mask : Nat) (s : State) :
    (∃ x, useHandle n mask s = .error x) ∨ ∃ h key, useHandle n mask s = .ok ((cacheLoad (some n) h key s).1.key, (cacheLoad (some n) h key s).2) := by
  unfold useHandle handleKey
  cases ksRefusal s with
  | some x => exact .inl ⟨x, rfl⟩
  | none =>
    cases validHalf s n with
    | error x => exact .inl ⟨x, rfl⟩
    | ok v =>
      by_cases ho : ownerOk s v.2.1 = true
      · simp only [ho, if_true]
        by_cases hm : (cacheLoad (some n) v.2.1 v.2.2 s).1.usage &&& mask = 0
        · exact .inl ⟨_, if_pos hm⟩
        · exact .inr ⟨_, _, if_neg hm⟩
      · exact .inl ⟨_, by simp only [ho]; rfl⟩

/-- The use of a record's key changes the key store; no free value is drawn (R271). -/
theorem tokenKey_stirred (r : TokenRec) (s : State) : Stirred (withKs (tokenKey r s).2.ks s) (tokenKey r s).2 := by
  unfold tokenKey
  rcases useHandle_cases (r.keyHandle.toNat % 65536) 1 s with ⟨x, hx⟩ | ⟨h, key, hx⟩ <;> rw [hx]
  · have hk := countKeyRefusal_stirred x s
    show Stirred (withKs (countKeyRefusal x s).ks s) (countKeyRefusal x s)
    rw [hk.ks]
    exact hk
  · exact cacheLoad_stirred _ h key s

/-- The key of a record is that of its handle, whatever else of the machine differs. -/
theorem tokenKey_congr {s t : State} (hk : t.ks = s.ks) (hf : t.fer = s.fer) (hc : t.cpl = s.cpl) (r : TokenRec) : (tokenKey r t).1 = (tokenKey r s).1 := by
  have hv : ∀ n, validHalf t n = validHalf s n := fun n => by
    unfold validHalf halfCandidate halfKey openBlob handleOf epochOf ctrRead ctrOf
    rw [hk, hf]
  have ho : ∀ h, ownerOk t h = ownerOk s h := fun h => by unfold ownerOk; rw [hc]
  have hl : ∀ n h key, (cacheLoad n h key t).1 = (cacheLoad n h key s).1 := fun n h key => by
    have hs : (cacheSlot t).1 = (cacheSlot s).1 := by
      unfold cacheSlot freeSlot oldestCache slotOf
      rw [hk]
      split <;> rfl
    unfold cacheLoad
    rw [hk]
    split
    · rfl
    · dsimp only
      rw [hs]
  unfold tokenKey useHandle handleKey
  rw [ksRefusal_congr hk, hv]
  cases ksRefusal s with
  | some x => rfl
  | none =>
    cases validHalf s (r.keyHandle.toNat % 65536) with
    | error x => rfl
    | ok v =>
      dsimp only
      rw [ho]
      by_cases hown : ownerOk s v.2.1 = true
      · simp only [hown, if_true, hl]
        by_cases hm : (cacheLoad (some (r.keyHandle.toNat % 65536)) v.2.1 v.2.2 s).1.usage &&& 1 = 0
        · simp only [if_pos hm]
        · simp only [if_neg hm]
      · simp only [hown]
        rfl

end Sys2Proof.Machine
end

section
/-! Replies in a slot, and a decision's window that nobody else opened (R52–R62, R141). -/
namespace Sys2Proof.Machine

theorem modDec_acc {s : State} {d : Decision} (h : s.acc.decision = some d) (g : Decision → Decision) : (modDec g s).acc = { s.acc with decision := some (g d) } := by
  simp [modDec, modAcc, h]

theorem recordFor_congr {s t : State} (h : t.acc = s.acc) (cls : TokClass) (bandH : Bool) (id : Quad) : recordFor t cls bandH id = recordFor s cls bandH id := by
  rw [recordFor, recordFor, h]

/-- A record without an expiry is never expired (R57). -/
theorem expiredNow_of_zero (s : State) {r : TokenRec} (h : r.expiry = 0) : expiredNow s r = false := by simp [expiredNow, h]

theorem addCand_acc {s : State} {d : Decision} {c : Candidate} (h : s.acc.decision = some d) (hc : c.expired = false) :
    (addCand c s).acc = { s.acc with decision := some { d with cands := d.cands ++ [c], anyReply := true } } := by
  rw [addCand, modDec_acc h, hc]
  rfl

theorem tokenKey_acc (r : TokenRec) (s : State) : (tokenKey r s).2.acc = s.acc := (tokenKey_stirred r s).acc

/-! ### The reply is heard -/

/-- What a state that heard a frame has of the one before it. -/
structure Heard (s t : State) : Prop where
  acc : t.acc = s.acc
  cfg : t.cfg = s.cfg
  key : ∀ r, (tokenKey r t).1 = (tokenKey r s).1
  regs : RegsBut stirredRegs s t

theorem Heard.of_stirred {s t : State} (h : Stirred (draw 1 (fresh s)) t) : Heard s t :=
  ⟨h.acc, h.cfg, tokenKey_congr h.ks h.fer h.cpl, h.regs⟩

/-- A good frame in a slot of an open window is received and handed on with its slot (R141). -/
theorem airReply_good {f : RxFrame} {s : State} {k : Nat} (h : goodSlot f s = some k) : ∃ u, (∀ take, airReply f take s = take k u) ∧ Stirred (draw 1 s) u := by
  refine ⟨rxFrame f s, fun take => by rw [airReply, h], ?_⟩
  unfold goodSlot at h
  dsimp only at h
  split at h
  · split at h
    · rename_i hg
      simp only [Bool.and_eq_true] at hg
      obtain ⟨⟨hgood, -⟩, -⟩ := hg
      exact rxFrame_good hgood
    · cases h
  · cases h

/-- An event in Noon has its effect, but for what the end of a command touches. -/
theorem act_whenNoon {f : State → State} {s : State} (h : workRuns s = true) : ∃ t, act (whenNoon f) s = .next t ∧ Concluded (f (fresh s)) t := by
  obtain ⟨t, ht, hc⟩ := act_concluded (whenNoon f) s
  have hf : whenNoon f (fresh s) = f (fresh s) := if_pos h
  exact ⟨t, ht, hf ▸ hc⟩

/-- A reply in a decision's T2 window goes to the decision. -/
theorem t2Reply_heard {f : RxFrame} {s : State} {k : Nat} {d : Decision} (hn : workRuns s = true) (hg : goodSlot f s = some k)
    (hd : s.acc.decision = some d) (hw : d.t2Win = some f.rx.val) : ∃ t u, exec (.t2Reply f) s = .next t ∧ Heard s u ∧ Concluded (decT2 k (rxPayload s f) u) t := by
  obtain ⟨t, ht, hc⟩ := act_whenNoon (f := t2Reply f) hn
  obtain ⟨u, hu, hs⟩ := airReply_good (s := fresh s) hg
  have hd' : u.acc.decision = some d := by rw [hs.acc]; exact hd
  have hx : t2Reply f (fresh s) = decT2 k (rxPayload s f) u := by
    rw [t2Reply, hu, hd', if_pos (by simp [hw])]
    rfl
  exact ⟨t, u, ht, .of_stirred hs, hx ▸ hc⟩

/-- A reply in a window of a decision's T3 challenge goes to the decision. -/
theorem t3Reply_heard {f : RxFrame} {fit : Option LfvFit} {s : State} {k : Nat} {d : Decision} (hn : workRuns s = true) (hg : goodSlot f s = some k)
    (hd : s.acc.decision = some d) (hw : f.rx.val ∈ d.t3Wins) : ∃ t u, exec (.t3Reply f fit) s = .next t ∧ Heard s u ∧ Concluded (decT3 f.rx.val k (rxPayload s f) fit u) t := by
  obtain ⟨t, ht, hc⟩ := act_whenNoon (f := t3Reply f fit) hn
  obtain ⟨u, hu, hs⟩ := airReply_good (s := fresh s) hg
  have hd' : u.acc.decision = some d := by rw [hs.acc]; exact hd
  have hx : t3Reply f fit (fresh s) = decT3 f.rx.val k (rxPayload s f) fit u := by
    rw [t3Reply, hu, hd', if_pos (by simp [hw])]
    rfl
  exact ⟨t, u, ht, .of_stirred hs, hx ▸ hc⟩

/-! ### A candidate -/

/-- A T2 reply that verifies under its record's key (R54, R56). -/
theorem t2Verify_good {nonce k : Nat} {data : Bytes} {s : State} {r : TokenRec} {key : Bytes} (hr : recordFor s .t2 false (BitVec.ofNat 64 (at_ data 0 4)) = some r)
    (hk : (tokenKey r s).1 = some key) (hl : data.length = 10) (hs : k = t2Slot (BitVec.ofNat 64 (at_ data 0 4)).toNat nonce)
    (hm : data.drop 6 = t2Mac key s.cfg.vid nonce (data.take 6)) : t2Verify nonce (some k) data s = (some r, (tokenKey r s).2) := by
  simp only [t2Verify, hr, hk]
  rw [if_pos ⟨hl, .inr (by rw [hs]), hm⟩]

/-- A T3 reply that verifies under its record's key (R52, R54). -/
theorem t3Verify_good {bandH : Bool} {nonce : Word} {place : Half × Nat} {data : Bytes} {s : State} {r : TokenRec} {key : Bytes}
    (hr : recordFor s .t3 bandH (BitVec.ofNat 64 (at_ data 0 4)) = some r) (hk : (tokenKey r s).1 = some key) (hl : data.length = t3Len bandH)
    (hm : data.drop (data.length - 8) = t3Mac key s.cfg.vid nonce place.1 (data.take (data.length - 8))) :
    t3Verify bandH nonce place (some place.2) data s = (some r, (tokenKey r s).2) := by
  rw [hl] at hm
  simp only [t3Verify, hr, hk]
  rw [if_pos ⟨hl, .inr trivial, hm⟩]

/-- A T2 reply that verifies makes the decision's first candidate. -/
theorem decT2_candidate {k : Nat} {data : Bytes} {s : State} {d : Decision} {r : TokenRec} (hd : s.acc.decision = some d) (h0 : d.cands = [])
    (hv : t2Verify (d.t2Nonce.toNat % 2 ^ 24) (some k) data s = (some r, (tokenKey r s).2)) (he : r.expiry = 0) :
    ∃ c, (decT2 k data s).acc = { s.acc with decision := some { d with anyReply := true, cands := [c] } } ∧
      c.record = r.index ∧ c.tokenId = r.tokenId ∧ c.lfv = [byte (byteAt data 4)] := by
  have hk : (tokenKey r s).2.acc.decision = some d := by rw [tokenKey_acc]; exact hd
  have ha := modDec_acc hk fun d => { d with anyReply := true }
  refine ⟨candOf (modDec (fun d => { d with anyReply := true }) (tokenKey r s).2) r [byte (byteAt data 4)]
    (some (lfZoneT2 (modDec (fun d => { d with anyReply := true }) (tokenKey r s).2) (aerials d.t2Set.toNat) (byteAt data 4))) none, ?_, rfl, rfl, rfl⟩
  simp only [decT2, hd, hv, h0, List.any_nil, Bool.false_eq_true, if_false]
  rw [addCand_acc (by rw [ha]) (expiredNow_of_zero _ he), ha, tokenKey_acc, h0]
  rfl

/-- A T3 reply that verifies makes the decision's first candidate, heard in its slot. -/
theorem decT3_candidate {rx k : Nat} {data : Bytes} {s : State} {d : Decision} {r : TokenRec} (hd : s.acc.decision = some d) (h0 : d.cands = [])
    (hv : t3Verify (rx == 2) d.nonce (t3Place (at_ data 0 4) d.nonce d.repoll) (some k) data s = (some r, (tokenKey r s).2)) (he : r.expiry = 0) :
    ∃ c, (decT3 rx k data none s).acc = { s.acc with decision := some { d with anyReply := true, heard := d.heard ++ [(k, r.tokenId)], cands := [c] } } ∧
      c.record = r.index ∧ c.tokenId = r.tokenId ∧ c.lfv = slice data 5 (if rx = 2 then 24 else 8) := by
  have hk : (tokenKey r s).2.acc.decision = some d := by rw [tokenKey_acc]; exact hd
  have ha := modDec_acc hk fun d => { d with anyReply := true }
  have hh := modDec_acc (s := modDec (fun d => { d with anyReply := true }) (tokenKey r s).2) (by rw [ha]) fun d => { d with heard := d.heard ++ [(k, r.tokenId)] }
  generalize hy : modDec (fun d => { d with heard := d.heard ++ [(k, r.tokenId)] }) (modDec (fun d => { d with anyReply := true }) (tokenKey r s).2) = y at hh
  refine ⟨candOf y r (slice data 5 (if (rx == 2) = true then 24 else 8)) (some (lfZoneT3 y (rx == 2) (slice data 5 (if (rx == 2) = true then 24 else 8)) d.aerials d.synth none).1)
    (lfZoneT3 y (rx == 2) (slice data 5 (if (rx == 2) = true then 24 else 8)) d.aerials d.synth none).2, ?_, rfl, rfl, by simp [candOf]⟩
  simp only [decT3, hd, hv, hy, h0, List.any_nil, Bool.false_eq_true, if_false]
  rw [addCand_acc (by rw [hh]) (expiredNow_of_zero _ he), hh, ha, tokenKey_acc, h0]
  rfl

/-! ### A foreign reply -/

theorem regGet_regInc_same (a : Nat) (s : State) : regGet (regInc a 32 s) a = BitVec.ofNat 32 (min ((regGet s a).toNat + 1) 0xFFFFFFFF) := by
  have hf : regFld s a 0 32 = (regGet s a).toNat := by
    rw [regFld, wfld, fld, pow_zero, Nat.div_one, Nat.mod_eq_of_lt (regGet s a).isLt]
  rw [regInc, regCount, hf, regPutFld, regGet_regSet, if_pos rfl, setFld, fld, satAdd]
  simp only [pow_zero, Nat.div_one, Nat.mul_one, Nat.mod_eq_of_lt (regGet s a).isLt, Nat.sub_self, Nat.zero_add]
  rw [Nat.mod_eq_of_lt (by omega)]
  rfl

theorem denyHit_stirred (id : Quad) (s : State) : Stirred s (denyHit id s) := .ite (fun _ => hostEvent_stirred _ _ s) fun _ => .refl s

/-- A foreign reply is counted in its decision and for life; with a threshold of 0 no curfew begins (R63). -/
theorem foreignReply_counted {s : State} {d : Decision} (hd : s.acc.decision = some d) (hc : s.acc.curfew = false) (ht : regFld s 0x4006000C 0 8 = 0) :
    (foreignReply s).acc.decision = some { d with foreign := d.foreign + 1 } ∧ (foreignReply s).acc.curfew = false ∧
      regGet (foreignReply s) 0x40060008 = BitVec.ofNat 32 (min ((regGet s 0x40060008).toNat + 1) 0xFFFFFFFF) := by
  have hz : regFld (modDec (fun d => { d with foreign := d.foreign + 1 }) (regInc 0x40060008 32 s)) 0x4006000C 0 8 = 0 := by
    refine .trans ?_ ht
    exact congrArg (wfld · 0 8) (regGet_regSet_ne (a := 0x40060008) (b := 0x4006000C) (by decide) _ s)
  have hn : (modDec (fun d => { d with foreign := d.foreign + 1 }) (regInc 0x40060008 32 s)).acc.curfew = false := hc
  simp only [foreignReply, modAcc_acc, hn, hz, ne_eq, not_true_eq_false, false_and, if_false, Bool.false_eq_true]
  exact ⟨congrArg Access.decision (modDec_acc hd _), trivial, regGet_regInc_same _ s⟩

/-- A reply whose identifier no record has is foreign to the decision that it answers. -/
theorem foreign_counted {s : State} {d : Decision} (id : Quad) (hd : s.acc.decision = some d) (hc : s.acc.curfew = false) (ht : regFld s 0x4006000C 0 8 = 0) :
    ∃ e, (foreignReply (modDec (fun d => { d with anyReply := true }) (denyHit id s))).acc.decision = some e ∧ e.cands = d.cands ∧ e.foreign = d.foreign + 1 ∧
      (foreignReply (modDec (fun d => { d with anyReply := true }) (denyHit id s))).acc.curfew = false ∧
      regGet (foreignReply (modDec (fun d => { d with anyReply := true }) (denyHit id s))) 0x40060008 = BitVec.ofNat 32 (min ((regGet s 0x40060008).toNat + 1) 0xFFFFFFFF) := by
  have hs := denyHit_stirred id s
  have ha := modDec_acc (s := denyHit id s) (by rw [hs.acc]; exact hd) fun d => { d with anyReply := true }
  have hcfg : regFld (denyHit id s) 0x4006000C 0 8 = 0 := by rw [regFld, hs.regs _ (by decide)]; exact ht
  have hcur : (denyHit id s).acc.curfew = false := by rw [hs.acc]; exact hc
  obtain ⟨hdec, hoff, hreg⟩ := foreignReply_counted (s := modDec (fun d => { d with anyReply := true }) (denyHit id s)) (by rw [ha]) hcur hcfg
  refine ⟨_, hdec, rfl, rfl, hoff, hreg.trans ?_⟩
  show BitVec.ofNat 32 (min ((regGet (denyHit id s) 0x40060008).toNat + 1) 0xFFFFFFFF) = _
  rw [hs.regs _ (by decide)]

theorem decT2_foreign {k : Nat} {data : Bytes} {s : State} {d : Decision} (hd : s.acc.decision = some d)
    (hr : recordFor s .t2 false (BitVec.ofNat 64 (at_ data 0 4)) = none) :
    decT2 k data s = foreignReply (modDec (fun d => { d with anyReply := true }) (denyHit (BitVec.ofNat 64 (at_ data 0 4)) s)) := by
  simp only [decT2, hd, t2Verify, hr]

theorem decT3_foreign {rx k : Nat} {data : Bytes} {fit : Option LfvFit} {s : State} {d : Decision} (hd : s.acc.decision = some d)
    (hr : recordFor s .t3 (rx == 2) (BitVec.ofNat 64 (at_ data 0 4)) = none) :
    decT3 rx k data fit s = foreignReply (modDec (fun d => { d with anyReply := true }) (denyHit (BitVec.ofNat 64 (at_ data 0 4)) s)) := by
  simp only [decT3, hd, t3Verify, hr]

end Sys2Proof.Machine
end

section
/-! The answer of a phone starts Channel Sounding (R58, R62). -/
namespace Sys2Proof.Machine

theorem peekBytes_shift {s t : State} {k : Nat} (h : t.drawn = s.drawn + k) (n : Nat) : peekBytes t 0 n = peekBytes s k n := by
  have hp : ∀ j, peek t (0 + j) = peek s (k + j) := fun j => by rw [peek, peek, h]; congr 1; omega
  simp only [peekBytes, hp]

theorem csSteps_congr {s t : State} (h : RegsBut stirredRegs s t) : csSteps t = csSteps s := by
  have hr := h 0x400500C0 (by decide)
  simp only [csSteps, regFld, hr]

theorem csChannels_congr {s t : State} (h : RegsBut stirredRegs s t) : csChannels t = csChannels s := by
  refine List.filter_congr fun k hk => ?_
  have hk := List.mem_range.mp hk
  have ha : ∀ j < 3, 0x40050084 + 4 * j ∉ stirredRegs := by decide
  simp only [toneMask, if_true, regBit, h _ (ha (k / 32) (by omega))]

/-- What Channel Sounding with a phone's record begins with (R62). -/
def csStart (k : Nat) (s : State) : Emission :=
  .rngStart 2 (le 4 (regGet s 0x400500C0).toNat ++ le 4 (regGet s 0x400500C4).toNat ++ peekBytes s k 16 ++ (csSteps s).map byte) ((csChannels s).map (toneFreq s true))

theorem csBegin_spec (record : Nat) (s : State) :
    (csBegin record s).acc = s.acc ∧ (csBegin record s).rng.cs = some record ∧ csStart 0 s ∈ (csBegin record s).emit := by
  have h := rngAir_stirred true (emitOut (csStart 0 s) (draw 4 (modRng (fun r => { r with cs := some record }) s)))
  refine ⟨h.acc, congrArg Ranging.cs h.rng, ?_⟩
  have he : (csBegin record s).emit = s.emit ++ [csStart 0 s] := h.emit
  simp [he]

theorem csStart_shift {s t : State} {k : Nat} (hd : t.drawn = s.drawn + k) (hr : RegsBut stirredRegs s t) : csStart 0 t = csStart k s := by
  unfold csStart
  rw [hr 0x400500C0 (by decide), hr 0x400500C4 (by decide), peekBytes_shift hd, csSteps_congr hr, csChannels_congr hr]
  rfl

/-- A phone that has answered is asked no more. -/
def phoneHeard (record : Nat) (s : State) : State := modDec (fun d => { d with phones := d.phones.filter (·.1 != record), anyReply := true }) s

/-- The candidate that a phone's token makes; whether it is near matters to an approach alone. -/
def phoneCand (r : TokenRec) (d : Decision) (s : State) : Candidate :=
  { candOf (if seeksApproach d.trig then draw 1 s else s) r [] none none with leNear := seeksApproach d.trig && wbit (peek s 0) 0 }

/-- A phone that answered right: its token is a candidate, and Channel Sounding with it is to come. -/
def phoneRight (record : Nat) (r : TokenRec) (d : Decision) (s : State) : State :=
  modDec (fun d => { d with csPend := d.csPend ++ [record] }) (addCand (phoneCand r d s) (if seeksApproach d.trig then draw 1 s else s))

/-- The right answer of a phone that is asked starts Channel Sounding with it (R58, R62). -/
theorem decPhone_right {record : Nat} {answer : Bytes} {s : State} {d : Decision} {r : TokenRec} {key : Bytes} {q : Nat} (hd : s.acc.decision = some d) (hp : d.phones = [(record, q)])
    (ht : tokOf s record = some r) (hk : (tokenKey r s).1 = some key) (hr : recordFor s .ph false r.tokenId = some r) (ha : answer = phoneMac key s.cfg.vid d.phNonce d.num)
    (he : r.expiry = 0) : decPhone record answer s = csBegin record (phoneRight record r d (tokenKey r (phoneHeard record s)).2) := by
  have hkey : (tokenKey r (phoneHeard record s)).1 = some key := (tokenKey_congr (s := s) (t := phoneHeard record s) rfl rfl rfl r).trans hk
  have hrec : recordFor (phoneHeard record s) .ph false r.tokenId = some r := hr
  have hvid : (phoneHeard record s).cfg.vid = s.cfg.vid := rfl
  unfold decPhone
  rw [hd, ht]
  refine (if_neg (by simp [hp])).trans ((if_pos ?_).trans ((if_neg ?_).trans rfl))
  · rw [← phoneHeard, hkey, hrec, hvid]
    simp [ha]
  · simp [expiredNow_of_zero _ he]

theorem phoneRight_spec (record : Nat) {r : TokenRec} {s : State} {d e : Decision} (hd : s.acc.decision = some e) (he : r.expiry = 0) :
    (phoneRight record r d s).drawn = s.drawn + b2n (seeksApproach d.trig) ∧ (phoneRight record r d s).regs = s.regs ∧
    ∃ c, (phoneRight record r d s).acc = { s.acc with decision := some { e with anyReply := true, cands := e.cands ++ [c], csPend := e.csPend ++ [record] } } := by
  have hy : (if seeksApproach d.trig then draw 1 s else s).acc = s.acc := by split <;> rfl
  have hc := addCand_acc (c := phoneCand r d s) ((congrArg Access.decision hy).trans hd) (expiredNow_of_zero _ he)
  refine ⟨?_, ?_, phoneCand r d s, ?_⟩
  · show (if seeksApproach d.trig then draw 1 s else s).drawn = _
    cases seeksApproach d.trig <;> rfl
  · show (if seeksApproach d.trig then draw 1 s else s).regs = _
    split <;> rfl
  · rw [phoneRight, modDec_acc (congrArg Access.decision hc), hc, hy]

/-- What the right answer of a phone leaves (R58, R62). -/
theorem decPhone_spec {record : Nat} {answer : Bytes} {s : State} {d : Decision} {r : TokenRec} {key : Bytes} {q : Nat} (hd : s.acc.decision = some d) (hp : d.phones = [(record, q)])
    (ht : tokOf s record = some r) (hk : (tokenKey r s).1 = some key) (hr : recordFor s .ph false r.tokenId = some r) (ha : answer = phoneMac key s.cfg.vid d.phNonce d.num)
    (he : r.expiry = 0) :
    (decPhone record answer s).rng.cs = some record ∧ csStart (b2n (seeksApproach d.trig)) s ∈ (decPhone record answer s).emit ∧
    ∃ c, (decPhone record answer s).acc = { s.acc with decision := some { d with phones := [], anyReply := true, cands := d.cands ++ [c], csPend := d.csPend ++ [record] } } := by
  have hk' := tokenKey_stirred r (phoneHeard record s)
  have hacc : (tokenKey r (phoneHeard record s)).2.acc = { s.acc with decision := some { d with phones := [], anyReply := true } } := by
    rw [tokenKey_acc, phoneHeard, modDec_acc hd, hp]
    simp
  obtain ⟨hdrawn, hregs, c, hc⟩ := phoneRight_spec record (d := d) (congrArg Access.decision hacc) he
  obtain ⟨hbegin, hcs, hemit⟩ := csBegin_spec record (phoneRight record r d (tokenKey r (phoneHeard record s)).2)
  have hb : RegsBut stirredRegs s (phoneRight record r d (tokenKey r (phoneHeard record s)).2) := fun a h => by
    rw [regGet, hregs]
    exact hk'.regs a h
  rw [decPhone_right hd hp ht hk hr ha he]
  refine ⟨hcs, ?_, c, by rw [hbegin, hc, hacc]⟩
  rwa [csStart_shift (hdrawn.trans (congrArg (· + _) hk'.drawn)) hb] at hemit

end Sys2Proof.Machine
end

section
/-! A window that closes, and nobody's decision waits for it (R60, R141). -/
namespace Sys2Proof.Machine

theorem rxOf_modRx (r : Fin 3) (f : Receiver → Receiver) (s : State) : rxOf (modRx r f s) r = f (rxOf s r) := by
  obtain ⟨r, hr⟩ := r
  interval_cases r <;> rfl

theorem windowRegs_not_stirred (r : Fin 3) : rxAddr r 0x10 ∉ stirredRegs ∧ rxAddr r 0x14 ∉ stirredRegs := by
  revert r
  decide

/-- The state whose slots are judged and whose receiver's window is disarmed. -/
def disarmed (r : Nat) (levels : List (Nat × Nat)) (s : State) : State :=
  regPutFld (rxAddr r 0x10) 0 1 0 (modRx r (fun x => { x with winOpen := false }) (regSet (rxAddr r 0x14) (word (slotWord (rxOf s r).slots (energySlots s r levels))) s))

theorem disarmed_spec (r : Fin 3) (levels : List (Nat × Nat)) (s : State) :
    (rxOf (disarmed r levels s) r).winOpen = false ∧ regBit (disarmed r levels s) (rxAddr r 0x10) 0 = false ∧
      regGet (disarmed r levels s) (rxAddr r 0x14) = word (slotWord (rxOf s r).slots (energySlots s r levels)) := by
  have hne : rxAddr r 0x14 ≠ rxAddr r 0x10 := by revert r; decide
  refine ⟨?_, ?_, ?_⟩
  · exact congrArg Receiver.winOpen (rxOf_modRx r (fun x => { x with winOpen := false }) (regSet (rxAddr r 0x14) (word (slotWord (rxOf s r).slots (energySlots s r levels))) s))
  · rw [regBit_eq_fld, disarmed, regFld_regPutFld (by decide)]
    rfl
  · rw [disarmed, regPutFld, regGet_regSet_ne hne]
    exact (regGet_regSet _ _ _ s).trans (if_pos rfl)

theorem bandLSteps_rng (s : State) : ∃ g, bandLSteps s = modRng g s := by
  unfold bandLSteps
  split
  · exact ⟨_, rfl⟩
  · exact ⟨id, rfl⟩

/-- A window that closes is disarmed; ranging may take the band, and no more than that is read later. -/
theorem closeWindow_stirred {r : Fin 3} {s : State} (levels : List (Nat × Nat)) (h : (rxOf s r).winOpen = true) :
    ∃ g, Stirred (modRng g (disarmed r levels s)) (closeWindow r levels s) := by
  obtain ⟨g, hg⟩ := bandLSteps_rng (closeSlots r levels s)
  have hc : Stirred (disarmed r levels s) (closeSlots r levels s) := by
    rw [closeSlots, h]
    exact radEvent_stirred _ _ _
  have hm : Stirred (modRng g (disarmed r levels s)) (modRng g (closeSlots r levels s)) := by
    have hr := congrArg (modRng g) hc.rest
    exact ⟨hr, hc.regs, hc.windows⟩
  refine ⟨g, ?_⟩
  rw [closeWindow, h, hg]
  exact .after (runGaps_stirred _) (.after (rngAir_stirred _ _) hm)

/-- A window that opened for nobody's decision, track, enrolment or location closes. -/
theorem winDone_unclaimed {r : Fin 3} {energy : List (Fin 8 × Byte)} {s : State} (h : (rxOf s r).winOpen = true) (hd : s.acc.decision = none) (ht : s.acc.release.track = none)
    (he : s.acc.enrol = none) (hl : s.sns.loc = none) : ∃ g, Stirred (modRng g (disarmed r (energy.map fun p => (p.1.val, p.2.toNat)) s)) (winDone r energy s) := by
  obtain ⟨g, hg⟩ := closeWindow_stirred (energy.map fun p => (p.1.val, p.2.toNat)) h
  have ha : (closeWindow r (energy.map fun p => (p.1.val, p.2.toNat)) s).acc = s.acc := hg.acc
  have hs : (closeWindow r (energy.map fun p => (p.1.val, p.2.toNat)) s).sns = s.sns := hg.sns
  have hx : winDone r energy s = sensorListen r (closeWindow r (energy.map fun p => (p.1.val, p.2.toNat)) s) := by
    simp [winDone, h, ha, hs, hd, ht, he, hl, locWindow]
  rw [hx]
  exact ⟨g, (sensorListen_stirred r _).after hg⟩

/-- The slots over the threshold, of levels that a frame reports. -/
theorem energySlots_reported (s : State) (r : Fin 3) (energy : List (Fin 8 × Byte)) :
    energySlots s r (energy.map fun p => (p.1.val, p.2.toNat)) =
      (energy.filter fun p => decide (regFld s (if r = 2 then 0x40040048 else 0x40030060) 0 8 < p.2.toNat)).map (·.1.val) := by
  have hr : r.val = 2 ↔ r = 2 := (Fin.ext_iff (b := 2)).symm
  simp only [energySlots, List.filter_map, List.map_map, hr]
  rfl

end Sys2Proof.Machine
open Sys2Proof Sys2Proof.Machine

/-- Settles O42: a good reply stirs the radio alone before the decision takes it, and so what its record, key and slot say is what they said; a phone's answer and a window's end likewise. -/
theorem repliesOnAir : Obligations.RepliesOnAir := by
  unfold Obligations.RepliesOnAir
  refine ⟨?_, ?_, ?_, ?_, ?_, ?_, ?_, ?_⟩
  · rintro s f k d r key ⟨-, hn, h0, hg⟩ hd hw hc hr hk hl hslot hm he
    obtain ⟨t, u, ht, hu, hend⟩ := t2Reply_heard (workRuns_of_noon hn h0) hg hd hw
    have hv := t2Verify_good ((recordFor_congr hu.acc _ _ _).trans hr) ((hu.key r).trans hk) hl hslot (by rw [hu.cfg]; exact hm)
    obtain ⟨c, ha, hrec, hid, hlfv⟩ := decT2_candidate (by rw [hu.acc]; exact hd) hc hv he
    rw [← hend.acc, hu.acc] at ha
    exact ⟨t, _, c, ht, congrArg Access.decision ha, rfl, hrec, hid, hlfv, rfl, rfl, (congrArg Access.foreignAt ha).trans rfl⟩
  · rintro s f k d ⟨-, hn, h0, hg⟩ ⟨hcur, hthr⟩ hd hw hr
    obtain ⟨t, u, ht, hu, hend⟩ := t2Reply_heard (workRuns_of_noon hn h0) hg hd hw
    have hd' : u.acc.decision = some d := by rw [hu.acc]; exact hd
    have hx := decT2_foreign (k := k) hd' ((recordFor_congr hu.acc _ _ _).trans hr)
    obtain ⟨e, hdec, hcands, hfor, hoff, hreg⟩ := foreign_counted (BitVec.ofNat 64 (at_ (rxPayload s f) 0 4)) hd' (by rw [hu.acc]; exact hcur) (by rw [regFld, hu.regs _ (by decide)]; exact hthr)
    rw [← hx, ← hend.acc] at hdec hoff
    rw [← hx, hu.regs _ (by decide)] at hreg
    exact ⟨t, e, ht, hdec, hcands, hfor, hoff, by rw [regGet, hend.regs]; exact hreg⟩
  · intro s f k d r key hp hd hw hc hr hk hl place hslot hm he
    obtain ⟨-, hn, h0, hg⟩ := hp
    obtain ⟨t, u, ht, hu, hend⟩ := t3Reply_heard (fit := none) (workRuns_of_noon hn h0) hg hd hw
    have hv := t3Verify_good (place := place) ((recordFor_congr hu.acc _ _ _).trans hr) ((hu.key r).trans hk) hl (by rw [hu.cfg]; exact hm)
    rw [← hslot] at hv
    obtain ⟨c, ha, hrec, hid, hlfv⟩ := decT3_candidate (by rw [hu.acc]; exact hd) hc hv he
    rw [← hend.acc, hu.acc] at ha
    exact ⟨t, _, c, ht, congrArg Access.decision ha, rfl, hrec, hid, hlfv, rfl, rfl⟩
  · rintro s f fit k d ⟨-, hn, h0, hg⟩ ⟨hcur, hthr⟩ hd hw hr
    obtain ⟨t, u, ht, hu, hend⟩ := t3Reply_heard (fit := fit) (workRuns_of_noon hn h0) hg hd hw
    have hd' : u.acc.decision = some d := by rw [hu.acc]; exact hd
    have hx := decT3_foreign (k := k) (fit := fit) hd' ((recordFor_congr hu.acc _ _ _).trans hr)
    obtain ⟨e, hdec, hcands, hfor, -, hreg⟩ := foreign_counted (BitVec.ofNat 64 (at_ (rxPayload s f) 0 4)) hd' (by rw [hu.acc]; exact hcur) (by rw [regFld, hu.regs _ (by decide)]; exact hthr)
    rw [← hx, ← hend.acc] at hdec
    rw [← hx, hu.regs _ (by decide)] at hreg
    exact ⟨t, e, ht, hdec, hcands, hfor, by rw [regGet, hend.regs]; exact hreg⟩
  · intro s n answer d k r key _ hn h0 he hd hp ht hk hr ha hx
    obtain ⟨t, hstep, hend⟩ := act_whenNoon (f := fun s => enrolPhone n.val answer (decPhone n.val answer s)) (workRuns_of_noon hn h0)
    obtain ⟨hcs, hemit, c, hdec⟩ := decPhone_spec (s := fresh s) hd hp ht ((tokenKey_congr (s := s) (t := fresh s) rfl rfl rfl r).trans hk) hr ha hx
    have henrol : (decPhone n.val answer (fresh s)).acc.enrol = none := (congrArg Access.enrol hdec).trans he
    have hskip : enrolPhone n.val answer (decPhone n.val answer (fresh s)) = decPhone n.val answer (fresh s) := by rw [enrolPhone, henrol]
    rw [hskip] at hend
    refine ⟨t, _, hstep, (congrArg Access.decision (hend.acc.trans hdec)).trans rfl, rfl, rfl, by simp, by rw [hend.rng, hcs], hend.emit _ hemit⟩
  · intro s n answer hl hd he
    refine act_idle hl ?_
    simp [whenNoon, decPhone, enrolPhone, fresh, hd, he]
  · intro s rx energy hrun hw hd ht he hl
    obtain ⟨t, hstep, hend⟩ := act_concluded (whenRunning (winDone rx energy)) s
    have hx : whenRunning (winDone rx energy) (fresh s) = winDone rx energy (fresh s) := if_pos hrun.1
    obtain ⟨g, hs⟩ := winDone_unclaimed (s := fresh s) (energy := energy) hw hd ht he hl
    obtain ⟨hopen, hbit, hslots⟩ := disarmed_spec rx (energy.map fun p => (p.1.val, p.2.toNat)) (fresh s)
    obtain ⟨hctl, hres⟩ := windowRegs_not_stirred rx
    rw [hx] at hend
    refine ⟨t, hstep, ?_, ?_, ?_, ?_, ?_⟩
    · rw [rxOf, hend.rad]
      exact (hs.windows rx).trans hopen
    · rw [regBit, regGet, hend.regs]
      exact (congrArg (wbit · 0) (hs.regs _ hctl)).trans hbit
    · exact hend.acc.trans hs.acc
    · exact hend.sns.trans hs.sns
    · rw [energySlots_reported] at hslots
      rw [regGet, hend.regs]
      exact (hs.regs _ hres).trans hslots
  · intro s rx energy hrun hw
    refine act_idle hrun.2 ?_
    have hw' : (rxOf (fresh s) rx).winOpen = false := hw
    simp [whenRunning, winDone, hw']
end

section
/-! Commits that read back right (R301, R302): what they write, and nothing else. -/
namespace Sys2Proof.Machine

/-! ### Copies -/

theorem metaIn_page (l : List PageMeta) (n : Nat) : (metaIn l n).page = n := by
  unfold metaIn
  cases h : l.find? (·.page == n) with
  | none => rfl
  | some m => simpa using List.find?_some h

theorem metaIn_metaPut (m : PageMeta) (l : List PageMeta) (n : Nat) : metaIn (metaPut m l) n = if n = m.page then m else metaIn l n := by
  unfold metaIn metaPut
  by_cases h : n = m.page
  · simp [h]
  · have hm : (m.page == n) = false := by simpa using Ne.symm h
    have hf : (l.filter (·.page != m.page)).find? (·.page == n) = l.find? (·.page == n) := by
      rw [List.find?_filter]
      congr 1
      funext x
      by_cases hx : x.page = n
      · simp [hx, h]
      · simp [hx]
    rw [List.find?_cons, hm, hf, if_neg h]

theorem commit_page (m : PageMeta) (rb : ReadBack) : (m.commit rb).page = m.page := by
  unfold PageMeta.commit
  cases m.degraded with
  | none => rfl
  | some c => cases c <;> rfl

/-- A commit that reads back right, at the first attempt or the second, leaves the copies that the first leaves. -/
theorem commit_right (m : PageMeta) {rb : ReadBack} (ha : rb.a ≠ 2) (hb : rb.b ≠ 2) : m.commit rb = m.commit { a := 0, b := 0 } := by
  have ha' : (rb.a != 2) = true := bne_iff_ne.mpr ha
  have hb' : (rb.b != 2) = true := bne_iff_ne.mpr hb
  simp [PageMeta.commit, ha, hb, ha', hb']

theorem commit_right_degraded (m : PageMeta) : (m.commit { a := 0, b := 0 }).degraded = m.degraded := by
  unfold PageMeta.commit
  cases h : m.degraded with
  | none => rfl
  | some c => cases c <;> rfl

/-- Every read-back of a commit to come is right. -/
def Clean (s : State) : Prop := ∀ rb ∈ s.fer.reads, rb.a ≠ 2 ∧ rb.b ≠ 2

theorem Clean.tail {s t : State} (h : Clean s) (ht : t.fer.reads = s.fer.reads.tail) : Clean t := fun rb hrb => h rb (List.mem_of_mem_tail (ht ▸ hrb))

theorem Clean.commit {s : State} (h : Clean s) (m : PageMeta) : m.commit (takeRead s).1 = m.commit { a := 0, b := 0 } := by
  unfold takeRead
  cases hr : s.fer.reads with
  | nil => rfl
  | cons rb l =>
    obtain ⟨ha, hb⟩ := h rb (by rw [hr]; exact List.mem_cons_self)
    exact commit_right m ha hb

/-- A commit that leaves the unit as degraded as it was is counted, and no more is told. -/
theorem commitTell_right (page : Option Nat) (m : PageMeta) (s : State) : commitTell page m (m.commit { a := 0, b := 0 }) s = regInc 0x4009000C 32 s := by
  unfold commitTell
  rw [commit_right_degraded]
  exact if_neg fun ⟨h, k⟩ => by cases hd : m.degraded <;> simp [hd] at h k

/-! ### What a run of commits writes -/

/-- `t` is `s` but for the copies of `x`, the read-backs taken and NVM_COMMIT_CNT. -/
structure Written (x : Touch) (s t : State) : Prop where
  rest : t = { s with
    regs := t.regs
    jrn := { s.jrn with copies := t.jrn.copies }
    fer := { s.fer with pages := t.fer.pages, config := t.fer.config, reads := t.fer.reads } }
  regs : RegsBut [0x4009000C] s t
  copies : CopiesAfter x s t
  clean : Clean t

theorem regInc_others (a n : Nat) (s : State) : RegsBut [a] s (regInc a n s) := fun _ h => regGet_regSet_ne (by simpa using h) _ s

namespace Written

theorem refl {s : State} (h : Clean s) : Written {} s s := ⟨rfl, fun _ _ => rfl, ⟨fun _ => rfl, fun _ => rfl, fun _ _ => rfl⟩, h⟩

theorem link {x : Touch} {s t : State} (h : Written x s t) : t.link = s.link := by rw [h.rest]
theorem works {x : Touch} {s t : State} (h : Written x s t) : t.jrn.works = s.jrn.works := by rw [h.rest]
theorem number {x : Touch} {s t : State} (h : Written x s t) : t.jrn.nextNum = s.jrn.nextNum := by rw [h.rest]
theorem acc {x : Touch} {s t : State} (h : Written x s t) : t.acc = s.acc := by rw [h.rest]
theorem cfg {x : Touch} {s t : State} (h : Written x s t) : t.cfg = s.cfg := by rw [h.rest]
theorem rng {x : Touch} {s t : State} (h : Written x s t) : t.rng = s.rng := by rw [h.rest]

/-- A CONFIG item is committed. -/
theorem config {s : State} (h : Clean s) (i : Nat) : Written { items := [i] } s (configCommit i s) := by
  have hs : configCommit i s = regInc 0x4009000C 32 { s with fer := { s.fer with
      reads := s.fer.reads.tail, config := metaPut ((metaIn s.fer.config i).commit { a := 0, b := 0 }) s.fer.config } } := by
    simp only [configCommit, h.commit, commitTell_right]
    rfl
  rw [hs]
  refine ⟨rfl, regInc_others _ _ _, ⟨fun _ => rfl, fun j => ?_, fun _ _ => rfl⟩, h.tail rfl⟩
  refine (metaIn_metaPut _ _ j).trans ?_
  rw [commit_page, metaIn_page]
  by_cases hj : j = i
  · rw [if_pos hj, if_pos (List.mem_singleton.mpr hj), hj]
  · rw [if_neg hj, if_neg fun h => hj (List.mem_singleton.mp h)]

/-- A readable page is committed by an engine's own access. -/
theorem page {s : State} (h : Clean s) {p : Nat} (hp : (metaOf s p).readable = true) : Written { pages := [p] } s (ownCommit p false s) := by
  have hs : ownCommit p false s = regInc 0x4009000C 32 (setMeta ((metaOf s p).commit { a := 0, b := 0 }) (takeRead s).2) := by
    have hm : metaOf (takeRead s).2 p = metaOf s p := rfl
    simp only [ownCommit, pageCommit, hm, h.commit, commitTell_right, hp, Bool.not_true, Bool.false_and, Bool.false_eq_true, if_false]
  rw [hs]
  refine ⟨rfl, regInc_others _ _ _, ⟨fun g => ?_, fun _ => rfl, fun _ _ => rfl⟩, h.tail rfl⟩
  refine (metaIn_metaPut _ _ g).trans ?_
  rw [commit_page, metaOf, metaIn_page]
  by_cases hg : g = p
  · rw [if_pos hg, if_pos (List.mem_singleton.mpr hg), hg, metaOf]
  · rw [if_neg hg, if_neg fun h => hg (List.mem_singleton.mp h)]
    rfl

/-- A unit of the journal is committed after what went before. -/
theorem unit {x : Touch} {s t : State} (h : Written x s t) (n : Nat) : Written { x with units := n :: x.units } s (jrnCommit n t) := by
  obtain ⟨hrest, hregs, ⟨hpages, hitems, hunits⟩, hclean⟩ := h
  by_cases he : t.jrn.enabled = true
  · have hs : jrnCommit n t = regInc 0x4009000C 32 { t with
        fer := { t.fer with reads := t.fer.reads.tail }, jrn := { t.jrn with copies := metaPut ((metaIn t.jrn.copies n).commit { a := 0, b := 0 }) t.jrn.copies } } := by
      rw [jrnCommit, if_neg (by simp [he])]
      simp only [hclean.commit, commitTell_right]
      rfl
    rw [hs]
    refine ⟨?_, fun a ha => (regInc_others _ _ _ a ha).trans (hregs a ha), ⟨hpages, hitems, fun j hj => ?_⟩, hclean.tail rfl⟩
    · rw [hrest]
      rfl
    · simp only [List.mem_cons, not_or] at hj
      refine (metaIn_metaPut _ _ j).trans ?_
      rw [commit_page, metaIn_page, if_neg hj.1, hunits j hj.2]
  · have hs : jrnCommit n t = t := by simp [jrnCommit, he]
    rw [hs]
    exact ⟨hrest, hregs, ⟨hpages, hitems, fun j hj => hunits j fun hm => hj (List.mem_cons_of_mem _ hm)⟩, hclean⟩

end Written

end Sys2Proof.Machine
end

section
/-! The end of accepted work (R32, R318, R320). -/
namespace Sys2Proof.Machine

/-! ### A copy that fails its read-back (R302) -/

theorem fault_stirred (det sev unit action flags : Nat) (info : Word) (s : State) : ∃ f, Stirred { s with saf := f } (fault det sev unit action flags info s) := by
  unfold fault
  split
  · exact ⟨s.saf, regInc_stirred (by decide) 16 s⟩
  · exact ⟨_, .after (hostEvent_stirred _ _ _) (raise_stirred (by decide) _ _)⟩

theorem raiseNvm_stirred (bits : Nat) (s : State) : Stirred s (raiseNvm bits s) := by
  unfold raiseNvm
  exact .after (hostEvent_stirred _ _ _) (raise_stirred (by decide) bits s)

/-- The page that a failing commit names, and the state after its choice. -/
def failedPage (page : Option Nat) (s : State) : Nat × State :=
  match page with
  | some p => (p, s)
  | none => ((peek s 0).toNat % 2048, draw 1 s)

/-- What tells of a copy that failed its read-back twice. -/
def copyFailed (page : Option Nat) (copy : Nat) (s : State) : State :=
  let x := failedPage page s
  raiseNvm 8 (fault 0x0005 3 copy 0 0 (word (x.1 + 2048 * copy)) (regSet 0x4009001C (word (x.1 + 2048 * copy + 2 * 4096)) x.2))

theorem commitTell_cases (page : Option Nat) (old new : PageMeta) (s : State) :
    commitTell page old new s = if new.degraded.isSome ∧ old.degraded.isNone then copyFailed page (b2n (new.degraded.getD false)) (regInc 0x4009000C 32 s) else regInc 0x4009000C 32 s := rfl

/-- The state in which a failed copy is told of: a page may have been drawn, and the fault is recorded. -/
def failing (k : Nat) (v : Word) (f : Saf) (s : State) : State := { regSet 0x4009001C v (draw k s) with saf := f }

theorem copyFailed_stirred (page : Option Nat) (copy : Nat) (s : State) : ∃ k v f, Stirred (failing k v f s) (copyFailed page copy s) := by
  have hd : ∃ k, (failedPage page s).2 = draw k s := by
    cases page
    · exact ⟨1, rfl⟩
    · exact ⟨0, rfl⟩
  obtain ⟨k, hk⟩ := hd
  obtain ⟨f, hf⟩ := fault_stirred 0x0005 3 copy 0 0 (word ((failedPage page s).1 + 2048 * copy)) (regSet 0x4009001C (word ((failedPage page s).1 + 2048 * copy + 2 * 4096)) (failedPage page s).2)
  rw [hk] at hf
  refine ⟨k, word ((failedPage page s).1 + 2048 * copy + 2 * 4096), f, ?_⟩
  unfold copyFailed
  dsimp only
  rw [hk]
  exact .after (raiseNvm_stirred 8 _) hf

/-- What a commit tells leaves the journal, and the version 1 command that waits. -/
theorem commitTell_jrn (page : Option Nat) (old new : PageMeta) (s : State) : (commitTell page old new s).jrn = s.jrn ∧ (commitTell page old new s).link.v1Wait = s.link.v1Wait := by
  rw [commitTell_cases]
  split
  · obtain ⟨k, v, f, h⟩ := copyFailed_stirred page (b2n (new.degraded.getD false)) (regInc 0x4009000C 32 s)
    exact ⟨h.jrn, h.v1Wait⟩
  · exact ⟨rfl, rfl⟩

theorem jrnCommit_jrn (n : Nat) (s : State) : ∃ c, (jrnCommit n s).jrn = { s.jrn with copies := c } ∧ (jrnCommit n s).link.v1Wait = s.link.v1Wait := by
  unfold jrnCommit
  split
  · exact ⟨s.jrn.copies, rfl, rfl⟩
  · dsimp only
    obtain ⟨hj, hv⟩ := commitTell_jrn none (metaIn s.jrn.copies n) ((metaIn s.jrn.copies n).commit (takeRead s).1)
      { (takeRead s).2 with jrn := { (takeRead s).2.jrn with copies := metaPut ((metaIn s.jrn.copies n).commit (takeRead s).1) (takeRead s).2.jrn.copies } }
    exact ⟨_, hj, hv⟩

theorem configCommit_jrn (i : Nat) (s : State) : (configCommit i s).jrn = s.jrn ∧ (configCommit i s).link.v1Wait = s.link.v1Wait := by
  obtain ⟨hj, hv⟩ := commitTell_jrn none (metaIn s.fer.config i) ((metaIn s.fer.config i).commit (takeRead s).1)
    { (takeRead s).2 with fer := { (takeRead s).2.fer with config := metaPut ((metaIn s.fer.config i).commit (takeRead s).1) (takeRead s).2.fer.config } }
  exact ⟨hj, hv⟩

/-! ### The record, its ring entry and its COMPLETE -/

/-- The record of work that is over. -/
def overRecord (x : Work) (status : Byte) (result : Bytes) : Work :=
  { x with state := .done, pct := 100, status := status, result := result.take 76, ready := none, completeDue := !bit x.flags.toNat 2 }

/-- The journal with a record over and its ring entry. -/
def overNoted (x : Work) (j : Journal) : Journal :=
  { j with works := modAll (·.seq == x.seq) (fun _ => x) j.works, ring := (ringEntry j.nextNum x :: j.ring).take 64, nextNum := j.nextNum + 1 }

theorem recordDone_eq (x : Work) (s : State) : recordDone x s = jrnCommit (ringUnit s.jrn.nextNum) (jrnCommit x.recNo { s with jrn := overNoted x s.jrn }) := rfl

theorem finishWork_eq {seq : Nat} {s : State} {x : Work} (h : s.jrn.works.find? (·.seq == seq) = some x) (status : Byte) (result : Bytes) :
    finishWork seq status result s = queueComplete (overRecord x status result) (recordDone (overRecord x status result) s) := by
  rw [finishWork, h]
  rfl

/-- The packet of a COMPLETE that is due and finds room goes to the port of its command. -/
theorem queueComplete_cases (x : Work) (s : State) :
    queueComplete x s = s ∨ queueComplete x s = setPort x.src { portOf s x.src with outq := (portOf s x.src).outq ++ [completePkt x] } s := by
  unfold queueComplete
  dsimp only
  split
  · exact .inl rfl
  · split
    · exact .inr rfl
    · exact .inl rfl

theorem queueComplete_ports (x : Work) (s : State) : ∃ a b, queueComplete x s = { s with link := { s.link with hcs0 := a, uart := b } } := by
  rcases queueComplete_cases x s with h | h <;> rw [h]
  · exact ⟨_, _, rfl⟩
  · cases x.src <;> exact ⟨_, _, rfl⟩

theorem queueComplete_jrn (x : Work) (s : State) : (queueComplete x s).jrn = s.jrn ∧ (queueComplete x s).link.v1Wait = s.link.v1Wait := by
  rcases queueComplete_cases x s with h | h <;> rw [h]
  · exact ⟨rfl, rfl⟩
  · cases x.src <;> exact ⟨rfl, rfl⟩

theorem finishWork_jrn {seq : Nat} {s : State} {x : Work} (h : s.jrn.works.find? (·.seq == seq) = some x) (status : Byte) (result : Bytes) :
    ∃ c, (finishWork seq status result s).jrn = { overNoted (overRecord x status result) s.jrn with copies := c } ∧ (finishWork seq status result s).link.v1Wait = s.link.v1Wait := by
  rw [finishWork_eq h, recordDone_eq]
  obtain ⟨hq, hqv⟩ := queueComplete_jrn (overRecord x status result) (jrnCommit (ringUnit s.jrn.nextNum) (jrnCommit (overRecord x status result).recNo
    { s with jrn := overNoted (overRecord x status result) s.jrn }))
  obtain ⟨c, hr, hrv⟩ := jrnCommit_jrn (ringUnit s.jrn.nextNum) (jrnCommit (overRecord x status result).recNo { s with jrn := overNoted (overRecord x status result) s.jrn })
  obtain ⟨c', hw, hwv⟩ := jrnCommit_jrn (overRecord x status result).recNo { s with jrn := overNoted (overRecord x status result) s.jrn }
  refine ⟨c, ?_, by rw [hqv, hrv, hwv]⟩
  rw [hq, hr, hw]

/-! ### A step that ends its work -/

/-- The state in which a step begins: the outward signals are empty, and the read-backs of its commits are there. -/
def begun (m : StepMeas) (s : State) : State := { fresh s with fer := { s.fer with reads := m.rbs } }

/-- The work's record stands where its step began, whatever its step counts; the ring's number is `n`. -/
structure Stands (w : Work) (n : Nat) (s : State) : Prop where
  found : ∃ x, s.jrn.works.find? (·.seq == w.seq) = some x ∧ x.tag = w.tag ∧ x.opcode = w.opcode
  number : s.jrn.nextNum = n
  v1 : s.link.v1Wait = none

theorem v1Resume_idle {s : State} (h : s.link.v1Wait = none) : v1Resume s = s := by rw [v1Resume, h]

/-- What the end of a command leaves of its effect. -/
def settled (s z : State) : State := { settle z with pending := s.pending }

theorem settled_concluded (s z : State) : Concluded z (settled s z) := .after ⟨rfl, fun _ h => h, fun _ w h => ⟨w.completeDue, h⟩⟩ (settle_concluded z)

/-- A step that is over leaves what finishing its work leaves, but for what the end of a command touches. -/
theorem step_settled {op : Byte} {w : Work} {m m' : StepMeas} {s y : State} {status : Byte} {result : Bytes} (h : StepsNow op w m s)
    (hb : stepBody true w m' (begun m' s) = (.over status result, y)) (hv : (finishWork w.seq status result y).link.v1Wait = none) :
    exec (.acceptedWorkStep true w.seq m') s = .next (settled s (finishWork w.seq status result y)) := by
  have hx : workStep true w.seq m' (fresh s) = finishWork w.seq status result y := by
    have hrun : workRuns (fresh s) = true := workRuns_of_noon (s := fresh s) h.noon h.e0
    have hfind : findWork true w.seq (fresh s) = some w := h.found
    have hready : ¬ (w.state ≠ .running ∨ w.parked ∨ w.engineOut (fresh s)) := by
      have he : w.engineOut (fresh s) = false := h.engine
      simp [h.running, h.parked, he]
    have hbody : stepBody true w m' { fresh s with fer := { (fresh s).fer with reads := m'.rbs } } = (.over status result, y) := hb
    rw [workStep, hrun, hfind]
    dsimp only
    rw [if_neg hready, hbody]
    exact v1Resume_idle hv
  rw [settled, ← hx]
  rfl

/-- Work whose record stands is ended by finishing it (R318, R320). -/
theorem finished_ended {w : Work} {s y t : State} {status : Byte} {result : Bytes} (hy : Stands w s.jrn.nextNum y) (hr : result.length ≤ 76) (hc : Concluded (finishWork w.seq status result y) t) :
    Ended w status result s t := by
  obtain ⟨x, hx, htag, hop⟩ := hy.found
  have hseq : x.seq = w.seq := by simpa using List.find?_some hx
  obtain ⟨c, hj, -⟩ := finishWork_jrn hx status result
  have hwork : (finishWork w.seq status result y).jrn.works.find? (·.seq == w.seq) = some (overRecord x status result) := by
    have hs : ((fun z : Work => z.seq == w.seq) ∘ fun z => if z.seq == w.seq then overRecord x status result else z) = fun z => z.seq == w.seq := by
      funext z
      by_cases hz : z.seq = w.seq <;> simp [hz, overRecord, hseq]
    have hall : (overRecord x status result).seq = w.seq := hseq
    rw [hj]
    simp only [overNoted, hall, modAll, List.find?_map, hs, hx, Option.map_some, hseq, beq_self_eq_true, if_true]
  obtain ⟨d, hd⟩ := hc.works _ _ hwork
  refine ⟨⟨_, hd, rfl, rfl, rfl, List.take_of_length_le hr, htag⟩, ringEntry s.jrn.nextNum (overRecord x status result), ?_, rfl, hseq, htag, hop, rfl, List.take_of_length_le hr⟩
  rw [hc.ring, hj, ← hy.number]
  simp [overNoted]

/-- A step that ends its work with a result ends it. -/
theorem step_ended {op : Byte} {w : Work} {m : StepMeas} {s y : State} {status : Byte} {result : Bytes} (h : StepsNow op w m s)
    (hb : stepBody true w m (begun m s) = (.over status result, y)) (hy : Stands w s.jrn.nextNum y) (hr : result.length ≤ 76) :
    exec (.acceptedWorkStep true w.seq m) s = .next (settled s (finishWork w.seq status result y)) ∧ Ended w status result s (settled s (finishWork w.seq status result y)) := by
  obtain ⟨x, hx, -, -⟩ := hy.found
  obtain ⟨c, -, hv⟩ := finishWork_jrn hx status result
  exact ⟨step_settled h hb (hv.trans hy.v1), finished_ended hy hr (settled_concluded s _)⟩

/-! ### What finishing work leaves, its commits reading back right -/

/-- Finishing work leaves its record, its ring entry, their copies and the queues of the ports. -/
theorem finishWork_written {w x : Work} {c : Touch} {u y : State} {status : Byte} {result : Bytes} (hx : u.jrn.works.find? (·.seq == w.seq) = some x) (hy : Written c u y) :
    ∃ z, finishWork w.seq status result y = queueComplete (overRecord x status result) z ∧
      Written { c with units := ringUnit u.jrn.nextNum :: x.recNo :: c.units } { u with jrn := overNoted (overRecord x status result) u.jrn } z := by
  have hj : y.jrn = { u.jrn with copies := y.jrn.copies } := congrArg State.jrn hy.rest
  have hfound : y.jrn.works.find? (·.seq == w.seq) = some x := by rw [hj]; exact hx
  have hnum : y.jrn.nextNum = u.jrn.nextNum := by rw [hj]
  have hnoted : Written c { u with jrn := overNoted (overRecord x status result) u.jrn } { y with jrn := overNoted (overRecord x status result) y.jrn } := by
    refine ⟨?_, hy.regs, hy.copies, hy.clean⟩
    have hr := congrArg (fun v : State => { v with jrn := overNoted (overRecord x status result) v.jrn }) hy.rest
    exact hr
  refine ⟨_, finishWork_eq hfound status result, ?_⟩
  rw [recordDone_eq, hnum]
  exact (hnoted.unit x.recNo).unit (ringUnit u.jrn.nextNum)

/-- `u` is `s` where the link, the registers, the FeRAM and what the end of work reads of the journal are concerned. -/
def Alike (s u : State) : Prop :=
  u = { u with
    pending := s.pending
    regs := s.regs
    link := s.link
    fer := s.fer
    jrn := { u.jrn with works := s.jrn.works, nextNum := s.jrn.nextNum, copies := s.jrn.copies } }

namespace Alike

theorem pending {s u : State} (h : Alike s u) : u.pending = s.pending := congrArg (·.pending) h
theorem regs {s u : State} (h : Alike s u) : u.regs = s.regs := congrArg (·.regs) h
theorem link {s u : State} (h : Alike s u) : u.link = s.link := congrArg (·.link) h
theorem fer {s u : State} (h : Alike s u) : u.fer = s.fer := congrArg (·.fer) h
theorem works {s u : State} (h : Alike s u) : u.jrn.works = s.jrn.works := congrArg (·.jrn.works) h
theorem number {s u : State} (h : Alike s u) : u.jrn.nextNum = s.jrn.nextNum := congrArg (·.jrn.nextNum) h
theorem copies {s u : State} (h : Alike s u) : u.jrn.copies = s.jrn.copies := congrArg (·.jrn.copies) h

end Alike

theorem afterConsumed_loose {o : OutPkt} (h : o.code = 1 → o.tag ≠ 0) (s : State) : (afterConsumed o s).jrn.loose = s.jrn.loose := by
  unfold afterConsumed
  split
  · dsimp only
    split
    · split <;> rfl
    · rfl
  · split
    next hc => exact if_neg (h hc)
    · rfl

theorem settle_loose {s : State} (ho : s.ordered = true) (hq : regBit s 0x40010000 1 = true → ∀ o ∈ s.link.uart.outq, o.code = 1 → o.tag ≠ 0) : (settle s).jrn.loose = s.jrn.loose := by
  obtain ⟨h0, h1⟩ := (ordered_iff s).mp ho
  have hs : (settle s).jrn.loose = (sendUart s).jrn.loose := by
    rw [settle, releaseReplies_id .hcs0 s h0, releaseReplies_id .uart s h1]
  rw [hs, sendUart]
  split
  next hu =>
    have hq := hq hu
    dsimp only
    have hp : (setPort .uart { s.link.uart with outq := [], last := s.link.uart.outq.getLast?.or s.link.uart.last } s).jrn.loose = s.jrn.loose := rfl
    revert hp
    generalize setPort .uart { s.link.uart with outq := [], last := s.link.uart.outq.getLast?.or s.link.uart.last } s = v
    generalize s.link.uart.outq = q at hq
    intro hp
    rw [← hp]
    clear hp
    induction q generalizing v with
    | nil => rfl
    | cons o q ih =>
      rw [List.foldl_cons, ih _ fun o ho => hq o (List.mem_cons_of_mem _ ho)]
      exact afterConsumed_loose (hq o List.mem_cons_self) _
  · rfl

theorem setPort_outq_ordered {s : State} (h : s.ordered = true) (p : VPort) (q : List OutPkt) : (setPort p { portOf s p with outq := q } s).ordered = true := by
  cases p <;> exact h

/-- Of the records of untagged work none goes with the COMPLETE of tagged work. -/
theorem settle_queueComplete_loose {x : Work} {s : State} (ho : s.ordered = true) (hs : s.uartSent = true) (ht : x.tag ≠ 0) :
    (settle (queueComplete x s)).jrn.loose = s.jrn.loose := by
  have hempty : regBit s 0x40010000 1 = true → s.link.uart.outq = [] := fun hu => by simpa [State.uartSent, hu] using hs
  rcases queueComplete_cases x s with h | h <;> rw [h]
  · exact settle_loose ho fun hu o hm => by simp [hempty hu] at hm
  · cases hp : x.src with
    | hcs0 => exact (settle_loose (setPort_outq_ordered ho .hcs0 _) fun hu o hm => by simp [setPort, hempty hu] at hm).trans rfl
    | uart =>
      refine (settle_loose (setPort_outq_ordered ho .uart _) fun hu o hm => ?_).trans rfl
      have ho : o = completePkt x := by simpa [setPort, portOf, hempty hu] using hm
      exact fun _ => ho ▸ ht

/-- The records of untagged work are as before when a step of tagged work has ended. -/
theorem settled_loose {m : StepMeas} {s u z : State} {c : Touch} {x : Work} (hi : s.LinkInv) (hu : Alike s u) (ht : x.tag ≠ 0) (hw : Written c { begun m u with jrn := overNoted x u.jrn } z) :
    (settled s (queueComplete x z)).jrn.loose = u.jrn.loose := by
  obtain ⟨-, ho, hs, -⟩ := hi
  have hl : z.link = { s.link with miso := [] } := hw.link.trans (congrArg (fun l : HostLink => { l with miso := [] }) hu.link)
  have hon : regBit z 0x40010000 1 = regBit s 0x40010000 1 := by
    rw [regBit, regBit, hw.regs _ (by decide), regGet, regGet]
    exact congrArg (fun r => wbit (kvGet regReset r 0x40010000) 1) hu.regs
  refine (settle_queueComplete_loose ?_ ?_ ht).trans (congrArg (·.jrn.loose) hw.rest)
  · rw [State.ordered, hl]
    exact ho
  · rw [State.uartSent, hl, hon]
    exact hs

/-- Copies seen from states that agree on them. -/
theorem copiesAfter_of_eq {c : Touch} {l : List Nat} {s s' t t' : State} (hg : s'.fer.pages = s.fer.pages) (hi : s'.fer.config = s.fer.config) (hj : s'.jrn.copies = s.jrn.copies) (hp : t'.fer.pages = t.fer.pages)
    (hc : t'.fer.config = t.fer.config) (hk : t'.jrn.copies = t.jrn.copies) (hl : ∀ n ∈ c.units, n ∈ l) (h : CopiesAfter c s' t) : CopiesAfter { c with units := l } s t' := by
  obtain ⟨hpages, hitems, hunits⟩ := h
  refine ⟨fun g => ?_, fun i => ?_, fun n hn => ?_⟩
  · rw [metaOf, hp, metaOf, ← hg]
    exact hpages g
  · rw [hc, ← hi]
    exact hitems i
  · rw [hk, ← hj]
    exact hunits n fun hm => hn (hl n hm)

/-- A step ends its work: its end `y` is the state `u` that its effect gives, after commits. -/
theorem workEnds_of_step {op : Byte} {w : Work} {m : StepMeas} {s u y : State} {c : Touch} {status : Byte} {result : Bytes} (h : StepsNow op w m s) (hu : Alike s u)
    (hb : stepBody true w m (begun m s) = (.over status result, y)) (hy : Written c (begun m u) y) (hr : result.length ≤ 76) :
    ∃ t, exec (.acceptedWorkStep true w.seq m) s = .next t ∧ Ended w status result s t ∧
      Leaves { u with
        jrn := { u.jrn with works := t.jrn.works, ring := t.jrn.ring, nextNum := s.jrn.nextNum + 1, copies := t.jrn.copies }
        fer := { u.fer with pages := t.fer.pages, config := t.fer.config }
        regs := t.regs } t ∧
      RegsBut (0x4009000C :: c.regs) u t ∧ CopiesAfter { c with units := w.recNo :: ringUnit s.jrn.nextNum :: c.units } s t := by
  have hfound : (begun m u).jrn.works.find? (·.seq == w.seq) = some w := (congrArg (List.find? (·.seq == w.seq)) hu.works).trans h.found
  have hstands : Stands w s.jrn.nextNum y := by
    have hv : (begun m u).link.v1Wait = none := (congrArg HostLink.v1Wait hu.link).trans h.v1
    exact ⟨⟨w, by rw [hy.works]; exact hfound, rfl, rfl⟩, hy.number.trans hu.number, by rw [hy.link]; exact hv⟩
  obtain ⟨hexec, hended⟩ := step_ended h hb hstands hr
  obtain ⟨z, hz, hw⟩ := finishWork_written (status := status) (result := result) hfound hy
  have hreads : (settled s (finishWork w.seq status result y)).fer.reads = u.fer.reads := by
    obtain ⟨-, -, -, hnone⟩ := h.inv
    rw [hu.fer, hnone]
    rfl
  have hpending : (settled s (finishWork w.seq status result y)).pending = u.pending := hu.pending.symm
  have hloose : (settled s (finishWork w.seq status result y)).jrn.loose = u.jrn.loose := hz ▸ settled_loose h.inv hu h.tag hw
  have hc := settled_concluded s (finishWork w.seq status result y)
  refine ⟨_, hexec, hended, ?_⟩
  generalize settled s (finishWork w.seq status result y) = t at *
  obtain ⟨a, b, hports⟩ := queueComplete_ports (overRecord w status result) z
  rw [hz, hports] at hc
  have hregs : t.regs = z.regs := hc.regs
  have hcopies : t.jrn.copies = z.jrn.copies := congrArg (·.jrn.copies) hc.rest
  have hring : t.jrn.ring = (overNoted (overRecord w status result) u.jrn).ring := hc.ring.trans (congrArg (·.jrn.ring) hw.rest)
  have hpower : t.power = u.power := (congrArg (·.power) hc.rest).trans (congrArg (·.power) hw.rest)
  have hslot : t.link.nextSlot = u.link.nextSlot := (congrArg (·.link.nextSlot) hc.rest).trans (congrArg (·.link.nextSlot) hw.rest)
  have hmiso : t.link.miso = [] := (congrArg (·.link.miso) hc.rest).trans (congrArg (·.link.miso) hw.rest)
  have hpages : t.fer.pages = z.fer.pages := congrArg (·.fer.pages) hc.rest
  have hconfig : t.fer.config = z.fer.config := hc.config
  refine ⟨?_, fun i hi => ?_, ?_⟩
  · have hr := hc.rest
    rw [hw.rest] at hr
    rw [hpending, hloose, hreads, ← hregs, ← hcopies, ← hpages, ← hconfig] at hr
    rw [Leaves, hring, ← hu.number, hpower, hslot, hmiso]
    exact hr
  · rw [regGet, hregs]
    exact hw.regs i fun hm => hi (List.mem_cons.mpr (.inl (List.mem_singleton.mp hm)))
  · have hsame : ∀ n ∈ ringUnit u.jrn.nextNum :: w.recNo :: c.units, n ∈ w.recNo :: ringUnit s.jrn.nextNum :: c.units := fun n hn => by
      rw [← hu.number]
      simp only [List.mem_cons] at hn ⊢
      exact or_left_comm.mp hn
    exact copiesAfter_of_eq (c := { c with units := ringUnit u.jrn.nextNum :: w.recNo :: c.units }) (congrArg (·.pages) hu.fer) (congrArg (·.config) hu.fer) hu.copies hpages hconfig hcopies hsame hw.copies

end Sys2Proof.Machine
end

section
/-! The steps that store a setting or a list and end (R70, R76, R152, R189, R203, R215, R236, R238, R387, R390, R499). -/
namespace Sys2Proof.Machine

theorem begun_clean {op : Byte} {w : Work} {m : StepMeas} {s : State} (h : StepsNow op w m s) (u : State) : Clean (begun m u) := by
  intro rb hrb
  have hc := List.all_eq_true.mp h.clean rb hrb
  simpa using hc

/-- Work that ends OK with the commit of its CONFIG item. -/
theorem workEnds_config {op : Byte} {cond : Work → State → Prop} {ans : Work → State → Bytes} {upd : Work → State → State} {item : Work → Nat} (hu : ∀ w s, Alike s (upd w s))
    (hb : ∀ w m s, StepsNow op w m s → cond w s → stepBody true w m (begun m s) = overConfig (item w) (ans w s) (begun m (upd w s))) (hr : ∀ w s, (ans w s).length ≤ 76) :
    WorkEnds op cond stOk ans upd fun w _ => { items := [item w] } :=
  fun w m s h hc => workEnds_of_step h (hu w s) (hb w m s h hc) (.config (begun_clean h _) (item w)) (hr w s)

/-- Work that ends with a refusal, which changes nothing. -/
theorem workEnds_refused {op : Byte} {cond : Work → State → Prop} {status : Byte} {code : Nat}
    (hb : ∀ w m s, StepsNow op w m s → cond w s → stepBody true w m (begun m s) = overNot status code (begun m s)) :
    WorkEnds op cond status (fun _ _ => refusalBytes 0xFFFF code) (fun _ s => s) fun _ _ => {} :=
  fun w m s h hc => workEnds_of_step h rfl (hb w m s h hc) (.refl (begun_clean h _)) (by simp [refusalBytes, le])

/-- A step that ends its work leaves the registers, the settings, the sensors and the decisions of the state `u` that its effect gives. -/
theorem ended_of_written {op : Byte} {w : Work} {m : StepMeas} {s u y : State} {c : Touch} {status : Byte} {result : Bytes} (h : StepsNow op w m s)
    (hb : stepBody true w m (begun m s) = (.over status result, y)) (hy : Written c u y) (hw : u.jrn.works = s.jrn.works) (hn : u.jrn.nextNum = s.jrn.nextNum)
    (hv : u.link.v1Wait = s.link.v1Wait) (hr : result.length ≤ 76) :
    ∃ t, exec (.acceptedWorkStep true w.seq m) s = .next t ∧ Ended w status result s t ∧ RegsBut [0x4009000C] u t ∧ t.acc = u.acc ∧ t.cfg = u.cfg := by
  have hfound : u.jrn.works.find? (·.seq == w.seq) = some w := hw ▸ h.found
  have hstands : Stands w s.jrn.nextNum y := by
    exact ⟨⟨w, by rw [hy.works]; exact hfound, rfl, rfl⟩, hy.number.trans hn, by rw [hy.link, hv]; exact h.v1⟩
  obtain ⟨hexec, hended⟩ := step_ended h hb hstands hr
  obtain ⟨z, hz, hzw⟩ := finishWork_written (status := status) (result := result) hfound hy
  obtain ⟨a, b, hports⟩ := queueComplete_ports (overRecord w status result) z
  have hc := settled_concluded s (finishWork w.seq status result y)
  rw [hz, hports] at hc
  rw [hz, hports] at hexec hended
  refine ⟨_, hexec, hended, fun i hi => ?_, hc.acc.trans hzw.acc, hc.cfg.trans hzw.cfg⟩
  rw [regGet, hc.regs]
  exact hzw.regs i hi

/-- A step that puts a field of a register and keeps the register in CONFIG. -/
theorem fieldKept_ended {op : Byte} {w : Work} {m : StepMeas} {s : State} {a lo n v item : Nat} (h : StepsNow op w m s) (hlo : lo + n ≤ 32) (ha : a ≠ 0x4009000C)
    (hb : stepBody true w m (begun m s) = overConfig item [] (saveRegs [a] (regPutFld a lo n v (begun m s)))) :
    ∃ t, exec (.acceptedWorkStep true w.seq m) s = .next t ∧ Ended w stOk [] s t ∧ regFld t a lo n = v % 2 ^ n ∧ RegsBut [0x4009000C, a] s t ∧
      (a, regGet t a) ∈ t.cfg.saved ∧ t.acc = s.acc := by
  obtain ⟨t, ht, hend, hregs, hacc, hcfg⟩ := ended_of_written h hb (.config (begun_clean h (saveRegs [a] (regPutFld a lo n v s))) item) rfl rfl rfl (Nat.zero_le _)
  have hfield : regGet t a = regGet (regPutFld a lo n v s) a := hregs a (by simpa using ha)
  refine ⟨t, ht, hend, ?_, fun i hi => ?_, ?_, hacc⟩
  · rw [regFld, hfield]
    exact regFld_regPutFld hlo a v s
  · simp only [List.mem_cons, List.not_mem_nil, or_false, not_or] at hi
    obtain ⟨hc, hia⟩ := hi
    exact (hregs i (by simpa using hc)).trans (regGet_regSet_ne hia _ s)
  · rw [hcfg, hfield]
    exact List.mem_append_right _ List.mem_cons_self

/-! ### Which step an opcode has -/

theorem stepBody_radioSave {w : Work} (h : w.opcode = 0x52) (m : StepMeas) (s : State) : stepBody true w m s = stepRadioSave w s := by
  rw [stepBody, stepLow, h]
  rfl

theorem stepBody_modelSet {w : Work} (h : w.opcode = 0x60) (m : StepMeas) (s : State) : stepBody true w m s = stepModelSet w s := by
  rw [stepBody, stepLow, h]
  rfl

theorem stepBody_rangeSave {w : Work} (h : w.opcode = 0x63) (m : StepMeas) (s : State) : stepBody true w m s = stepRangeSave w s := by
  rw [stepBody, stepLow, h]
  rfl

theorem stepBody_recordState {w : Work} (h : w.opcode = 0x74) (m : StepMeas) (s : State) : stepBody true w m s = stepRecordState w s := by
  rw [stepBody, stepHigh, h]
  rfl

/-- The step of ACCESS_SET is that of its field. -/
theorem stepBody_accessSet {w : Work} (h : w.opcode = 0x75) (m : StepMeas) (s : State) : stepBody true w m s = match byteAt w.payload 0 with
    | 1 => stepSetOverride w s
    | 2 => stepSetOwnList w s
    | 3 => stepSetLockedAns w s
    | 4 => stepEndCurfew s
    | 5 => stepSloClear m s
    | 6 => stepSetProfile w s
    | _ => stepSetLimit w s := by
  rw [stepBody, stepHigh, h]
  rfl

theorem stepBody_partnerList {w : Work} (h : w.opcode = 0x83) (m : StepMeas) (s : State) : stepBody true w m s = stepPartnerList w s := by
  rw [stepBody, stepHigh, h]
  rfl

theorem stepBody_wheelSet {w : Work} (h : w.opcode = 0x86) (m : StepMeas) (s : State) : stepBody true w m s = stepWheelSet w s := by
  rw [stepBody, stepHigh, h]
  rfl

theorem stepBody_wheelModelSet {w : Work} (h : w.opcode = 0x88) (m : StepMeas) (s : State) : stepBody true w m s = stepWheelModelSet w s := by
  rw [stepBody, stepHigh, h]
  rfl

theorem stepBody_s1Learn {w : Work} (h : w.opcode = 0x89) (m : StepMeas) (s : State) : stepBody true w m s = stepS1Learn s := by
  rw [stepBody, stepHigh, h]
  rfl

theorem stepBody_sensorSet {w : Work} (h : w.opcode = 0x8C) (m : StepMeas) (s : State) : stepBody true w m s = stepSensorSet w s := by
  rw [stepBody, stepHigh, h]
  rfl

theorem stepBody_busSave {w : Work} (h : w.opcode = 0x94) (m : StepMeas) (s : State) : stepBody true w m s = stepBusSave w s := by
  rw [stepBody, stepHigh, h]
  rfl

end Sys2Proof.Machine
end

section
/-! A wheel that is set, where positions are being confirmed or a trailer owes its list (R236, R245). -/
namespace Sys2Proof.Machine

/-! ### The work's record under what the end of a pass writes -/

/-- Every position is decided, and the pass no longer runs. -/
def passOver (s : State) : State := modSensing (fun n => { n with locStage := 5 }) { s with jrn := { s.jrn with internal := s.jrn.internal.filter (· != 3) } }

theorem confirmEnd_cases (s : State) : confirmEnd s = s ∨ confirmEnd s = cplLocated 9 (jrnCommit (internalUnit 3) (passOver s)) := by
  unfold confirmEnd
  split
  · exact .inr rfl
  · exact .inl rfl

namespace Stands

theorem of_jrn {w : Work} {n : Nat} {s t : State} (h : Stands w n s) (hw : t.jrn.works = s.jrn.works) (hn : t.jrn.nextNum = s.jrn.nextNum) (hv : t.link.v1Wait = s.link.v1Wait) : Stands w n t :=
  ⟨hw ▸ h.found, hn.trans h.number, hv.trans h.v1⟩

theorem jrnCommit {w : Work} {n : Nat} {s : State} (h : Stands w n s) (u : Nat) : Stands w n (jrnCommit u s) := by
  obtain ⟨c, hj, hv⟩ := jrnCommit_jrn u s
  exact h.of_jrn (by rw [hj]) (by rw [hj]) hv

theorem configCommit {w : Work} {n : Nat} {s : State} (h : Stands w n s) (i : Nat) : Stands w n (configCommit i s) := by
  obtain ⟨hj, hv⟩ := configCommit_jrn i s
  exact h.of_jrn (by rw [hj]) (by rw [hj]) hv

/-- A record whose steps are counted stays where it is. -/
theorem find_modAll {w : Work} {l : List Work} {f : Work → Work} (p : Work → Bool) (hf : ∀ x, (f x).seq = x.seq ∧ (f x).tag = x.tag ∧ (f x).opcode = x.opcode)
    (h : ∃ x, l.find? (·.seq == w.seq) = some x ∧ x.tag = w.tag ∧ x.opcode = w.opcode) :
    ∃ x, (modAll p f l).find? (·.seq == w.seq) = some x ∧ x.tag = w.tag ∧ x.opcode = w.opcode := by
  obtain ⟨x, hx, htag, hop⟩ := h
  have hs : ((fun z : Work => z.seq == w.seq) ∘ fun z => if p z then f z else z) = fun z => z.seq == w.seq := by
    funext z
    simp only [Function.comp]
    split
    · rw [(hf z).1]
    · rfl
  refine ⟨if p x then f x else x, by rw [modAll, List.find?_map, hs, hx]; rfl, ?_, ?_⟩
  · split
    · exact (hf x).2.1.trans htag
    · exact htag
  · split
    · exact (hf x).2.2.trans hop
    · exact hop

/-- A boundary of a coupling is a commit after the count of its record's step. -/
theorem cplBoundary_cases (u b pct : Nat) (s : State) : ∃ k v p, Machine.cplBoundary u b pct s = Machine.jrnCommit k v ∧
    v.jrn.works = modAll p (fun x => { x with step := b, pct := pct }) s.jrn.works ∧ v.jrn.nextNum = s.jrn.nextNum ∧ v.link = s.link :=
  ⟨_, _, _, rfl, rfl, rfl, rfl⟩

theorem cplBoundary {w : Work} {n : Nat} {s : State} (h : Stands w n s) (u b pct : Nat) : Stands w n (cplBoundary u b pct s) := by
  obtain ⟨k, v, p, hs, hw, hn, hl⟩ := cplBoundary_cases u b pct s
  have hv : Stands w n v := ⟨hw ▸ find_modAll p (fun _ => ⟨rfl, rfl, rfl⟩) h.found, hn.trans h.number, by rw [hl]; exact h.v1⟩
  rw [hs]
  exact hv.jrnCommit k

theorem cplLocated {w : Work} {n : Nat} {s : State} (h : Stands w n s) (b : Nat) : Stands w n (cplLocated b s) := by
  unfold Machine.cplLocated
  generalize s.cpl.units = l
  induction l generalizing s with
  | nil => exact h
  | cons c l ih =>
    rw [List.foldl_cons]
    refine ih ?_
    split
    · exact h.cplBoundary _ _ _
    · exact h

theorem confirmEnd {w : Work} {n : Nat} {s : State} (h : Stands w n s) : Stands w n (confirmEnd s) := by
  rcases confirmEnd_cases s with hs | hs <;> rw [hs]
  · exact h
  · have hp : Stands w n (passOver s) := h.of_jrn rfl rfl rfl
    exact (hp.jrnCommit _).cplLocated 9

end Stands

/-! ### The sensors -/

theorem configCommit_kept (i : Nat) (s : State) : SensingKept s (configCommit i s) := by
  unfold configCommit
  exact .after (commitTell_kept _ _ _ _) (.of_regs rfl rfl rfl)

theorem confirmEnd_publish (s : State) : (confirmEnd s).sns.publish = s.sns.publish := by
  rcases confirmEnd_cases s with h | h <;> rw [h]
  rw [(cplLocated_senses 9 _).sns, (jrnCommit_kept _ _).sns]
  rfl

theorem publishDue_other {s : State} (h : s.cfg.role ≠ .trailer) (i : Nat) : publishDue i s = s := by
  unfold publishDue
  split
  · exact if_neg fun ⟨hrole, _⟩ => h hrole
  · rfl

theorem confirmEnd_other {s : State} (h3 : s.sns.locStage ≠ 3) (h4 : s.sns.locStage ≠ 4) : confirmEnd s = s :=
  if_neg fun ⟨h, _⟩ => h.elim h3 h4

/-- A trailer's sensor that is its own is published next. -/
theorem publishDue_own {s : State} {i : Nat} {x : Sensor} (hr : s.cfg.role = .trailer) (hx : snsOf s i = some x) (ho : x.state = .own) (hp : s.sns.publish = []) :
    publishDue i s = modSensing (fun n => { n with publish := n.publish ++ [i] }) s := by
  unfold publishDue
  rw [hx]
  exact if_pos ⟨hr, ho, by simp [hp]⟩

theorem sensorRefusal_known {i : Nat} {s : State} (h : (snsOf s i).isSome = true) : sensorRefusal i s = none := by
  rw [sensorRefusal, ← Option.not_isSome, h]
  rfl

/-- The wheel that a command sets: its position is confirmed. -/
def wheelPut (w : Work) (s : State) : State :=
  modSns (byteAt w.payload 0) (fun x => { x with locFlags := x.locFlags ||| 8, conf := 255, wheelPos := byte (byteAt w.payload 1) }) s

theorem stepBody_wheelPut {w : Work} {m : StepMeas} {s : State} (h : w.opcode = 0x86) (hx : (snsOf s (byteAt w.payload 0)).isSome = true) (hz : byteAt w.payload 2 ≠ 0) :
    stepBody true w m (begun m s) = overConfig (sensorItem (byteAt w.payload 0)) [] (confirmEnd (publishDue (byteAt w.payload 0) (wheelPut w (begun m s)))) := by
  have hno : sensorRefusal (byteAt w.payload 0) (begun m s) = none := sensorRefusal_known hx
  rw [stepBody_wheelSet h, stepWheelSet, hno]
  exact if_neg hz

theorem wheelPut_candPos {w : Work} {s : State} (h : ∀ x ∈ s.sns.sensors, x.candPos = 0xFF) : ∀ x ∈ (wheelPut w s).sns.sensors, x.candPos = 0xFF := by
  intro y hy
  obtain ⟨x, hx, rfl⟩ := List.mem_map.mp hy
  split <;> exact h x hx

/-- A wheel that is set ends its work, whatever its sensor makes due. -/
theorem wheelPut_ended {w : Work} {m : StepMeas} {s : State} (h : StepsNow 0x86 w m s) (hx : (snsOf s (byteAt w.payload 0)).isSome = true) (hz : byteAt w.payload 2 ≠ 0) :
    ∃ t, exec (.acceptedWorkStep true w.seq m) s = .next t ∧ Ended w stOk [] s t ∧ t.sns = (confirmEnd (publishDue (byteAt w.payload 0) (wheelPut w (begun m s)))).sns := by
  have hs : Stands w s.jrn.nextNum (publishDue (byteAt w.payload 0) (wheelPut w (begun m s))) := by
    have hw : Stands w s.jrn.nextNum (wheelPut w (begun m s)) := ⟨⟨w, h.found, rfl, rfl⟩, rfl, h.v1⟩
    unfold publishDue
    split
    · split
      · exact hw.of_jrn rfl rfl rfl
      · exact hw
    · exact hw
  obtain ⟨hexec, hend⟩ := step_ended h (stepBody_wheelPut h.opcode hx hz) (hs.confirmEnd.configCommit _) (Nat.zero_le _)
  refine ⟨_, hexec, hend, ?_⟩
  exact (settle_kept _).sns.trans ((finishWork_kept _ _ _ _).sns.trans (configCommit_kept _ _).sns)

/-- With every position decided, the one set included, none is left to confirm. -/
theorem allConfirmed_decided {s : State} (h : ∀ x ∈ s.sns.sensors, x.candPos = 0xFF) : allConfirmed s = true := by
  refine List.all_eq_true.mpr fun x hx => ?_
  simp [h x (List.mem_of_mem_filter hx)]

theorem snsOf_single {s : State} {x : Sensor} {i : Nat} (hs : s.sns.sensors = [x]) (hi : x.index = i) : snsOf s i = some x := by
  rw [snsOf, hs]
  simp [hi]

end Sys2Proof.Machine
end

section
/-! The settings, lists and records that a step leaves, step by step. -/
namespace Sys2Proof.Machine

theorem leNat_lt (l : Bytes) : leNat l < 256 ^ l.length := by
  induction l with
  | nil => exact Nat.one_pos
  | cons b l ih =>
    have hb : b.toNat < 256 := b.isLt
    rw [leNat, List.length_cons, pow_succ]
    omega

theorem at_lt (l : Bytes) (off n : Nat) : at_ l off n < 256 ^ n :=
  (leNat_lt _).trans_le (Nat.pow_le_pow_right (by decide) (by simp [slice]))

/-! ### Records of tokens (R76) -/

theorem tokenRefusal_known {i : Nat} {s : State} (h : (tokOf s i).isSome = true) : tokenRefusal i s = none := by
  rw [tokenRefusal, ← Option.not_isSome, h]
  rfl

theorem releaseRevoked_other {s : State} (h : s.acc.release.active = false) (i : Nat) : releaseRevoked i s = s := by
  rw [releaseRevoked, h]
  rfl

/-- A record's state is put. -/
def recordPut (i : Nat) (x : TokState) (s : State) : State := modTok i (fun t => { t with state := x }) s

/-- A record's state is put and its page committed; a release that is not its own goes on. -/
theorem stepBody_recordPut {w : Work} {m : StepMeas} {s : State} {x : TokState} (h : StepsNow 0x74 w m s) (ht : (tokOf s (byteAt w.body 0)).isSome = true)
    (hp : (metaOf s (tokenPage (byteAt w.body 0))).readable = true) (hx : (if byteAt w.body 1 = 1 then TokState.active else .suspended) = x)
    (hf : byteAt w.body 1 ≠ 1 → s.acc.release.active = false) :
    stepBody true w m (begun m s) = overOk [] (ownCommit (tokenPage (byteAt w.body 0)) false (begun m (recordPut (byteAt w.body 0) x s))) := by
  have hno : tokenRefusal (byteAt w.body 0) (begun m s) = none := tokenRefusal_known ht
  have hzero : keysZero (tokenPage (byteAt w.body 0)) (begun m s) = begun m s := if_pos hp
  have hw := Written.page (begun_clean h (recordPut (byteAt w.body 0) x s)) (p := tokenPage (byteAt w.body 0)) hp
  rw [stepBody_recordState h.opcode, stepRecordState, hno]
  dsimp only
  rw [keysCommit, hzero, hx]
  refine congrArg (overOk []) ?_
  split
  · rfl
  next hn =>
    have hoff : (ownCommit (tokenPage (byteAt w.body 0)) false (begun m (recordPut (byteAt w.body 0) x s))).acc.release.active = false := by
      rw [hw.acc]
      exact hf hn
    exact releaseRevoked_other hoff _

/-- Work that puts a record's state ends with the commit of its page. -/
theorem workEnds_recordPut {cond : Work → State → Prop} (x : TokState) (hc : ∀ w s, cond w s → (tokOf s (byteAt w.body 0)).isSome = true ∧
      (metaOf s (tokenPage (byteAt w.body 0))).readable = true ∧ (if byteAt w.body 1 = 1 then TokState.active else .suspended) = x ∧
      (byteAt w.body 1 ≠ 1 → s.acc.release.active = false)) :
    WorkEnds 0x74 cond stOk (fun _ _ => []) (fun w s => recordPut (byteAt w.body 0) x s) fun w _ => { pages := [tokenPage (byteAt w.body 0)] } := by
  intro w m s h hw
  obtain ⟨ht, hp, hx, hf⟩ := hc w s hw
  exact workEnds_of_step h rfl (stepBody_recordPut h ht hp hx hf) (.page (begun_clean h _) hp) (Nat.zero_le _)

/-! ### The end of a curfew (R63, R77) -/

theorem curfewStop_stirred (s : State) : ∃ l, Stirred { s with acc := { s.acc with curfew := false }, jrn := { s.jrn with internal := l } } (curfewStop s) := by
  unfold curfewStop
  split
  next hc =>
    have hoff : s.acc.curfew = false := by simpa using hc
    refine ⟨s.jrn.internal, ?_⟩
    rw [← hoff]
    exact .refl s
  · exact ⟨s.jrn.internal.erase 4, hostEvent_stirred _ _ _⟩

theorem curfewStop_spec (s : State) : (curfewStop s).acc = { s.acc with curfew := false } ∧ (curfewStop s).jrn.works = s.jrn.works ∧ (curfewStop s).jrn.nextNum = s.jrn.nextNum ∧
    (curfewStop s).link.v1Wait = s.link.v1Wait ∧ (curfewStop s).fer = s.fer ∧ RegsBut stirredRegs s (curfewStop s) := by
  obtain ⟨l, h⟩ := curfewStop_stirred s
  exact ⟨h.acc, by rw [h.jrn], by rw [h.jrn], h.v1Wait, h.fer, h.regs⟩

theorem stepBody_setLimit {w : Work} (h : w.opcode = 0x75) (hk : byteAt w.payload 0 = 7) (m : StepMeas) (s : State) : stepBody true w m s = stepSetLimit w s := by
  rw [stepBody_accessSet h, hk]
  rfl

theorem limitRefusal_none {v n : Nat} {s : State} (hr : ctrRead s 32 = some n) (hn : n ≤ v) : limitRefusal v s = none := by
  rw [limitRefusal, hr]
  exact if_neg (by omega)

/-- An override that ends no release and grants nothing is put in ACC_CTRL and kept (R77). -/
theorem stepSetOverride_plain {w : Work} {s : State} (hone : at_ w.payload 4 4 = 1 → s.acc.release.active = false) (htwo : at_ w.payload 4 4 = 2 → s.cfg.role ≠ .trailer ∨ grantUnits s ≠ []) :
    stepSetOverride w s = overConfig 0x7501 [] (saveRegs [0x40060000] (regPutFld 0x40060000 0 2 (at_ w.payload 4 4) s)) := by
  have hgrant : grantUnits (accCtrl 0 2 (at_ w.payload 4 4) s) = grantUnits s := by
    have hr : regGet (accCtrl 0 2 (at_ w.payload 4 4) s) 0x40070000 = regGet s 0x40070000 := regGet_regSet_ne (a := 0x40060000) (by decide) _ s
    rw [grantUnits, grantUnits, regBit, regBit, hr]
    rfl
  have hservice : at_ w.payload 4 4 = 2 → serviceRelease (accCtrl 0 2 (at_ w.payload 4 4) s) = accCtrl 0 2 (at_ w.payload 4 4) s := fun h2 => by
    refine if_neg fun ⟨hrole, hnone⟩ => ?_
    rcases htwo h2 with h | h
    · exact h hrole
    · exact h (hgrant ▸ hnone)
  have hfirst : (if at_ w.payload 4 4 = 2 then serviceRelease (accCtrl 0 2 (at_ w.payload 4 4) s) else accCtrl 0 2 (at_ w.payload 4 4) s) = accCtrl 0 2 (at_ w.payload 4 4) s := by
    split
    · exact hservice ‹_›
    · rfl
  unfold stepSetOverride
  dsimp only
  rw [hfirst, if_neg fun ⟨h1, hact⟩ => by
    exact Bool.false_ne_true ((hone h1).symm.trans hact)]
  rfl

/-! ### An item whose copy fails its read-back twice (R302) -/

theorem regs_after {l : List Nat} {s t u : State} (k : RegsBut l t u) (h : RegsBut l s t) : RegsBut l s u := fun a ha => (k a ha).trans (h a ha)

/-- The registers that count events for the host which found no room. -/
def lostRegs : List Nat := [0x40010008, 0x40010038]

theorem loseEvent_regs (p : VPort) (code : Byte) (s : State) : RegsBut lostRegs s (loseEvent p code s) := by
  have hraise : ∀ s, RegsBut lostRegs s (raise 0x40010008 0x10 s) := fun s a ha => by
    obtain ⟨e, he⟩ := raise_eng 0x40010008 0x10 s
    rw [he]
    exact regGet_regSet_ne (fun h => ha (by simp [lostRegs, h])) _ s
  have hcount : ∀ s, RegsBut lostRegs s (regInc 0x40010038 16 s) := fun s a ha => regGet_regSet_ne (fun h => ha (by simp [lostRegs, h])) _ s
  unfold loseEvent
  cases p <;> exact regs_after (hraise _) (hcount _)

theorem queueEvent_regs (p : VPort) (o : OutPkt) (s : State) : RegsBut lostRegs s (queueEvent p o s) := by
  unfold queueEvent
  dsimp only
  split
  · cases p <;> exact fun _ _ => rfl
  · exact loseEvent_regs p o.code s

/-- Of the registers an event for the host touches those that count lost events alone. -/
theorem hostEvent_regs (code : Byte) (payload : Bytes) (s : State) : RegsBut lostRegs s (hostEvent code payload s) := by
  have hfold : ∀ (l : List VPort) s, RegsBut lostRegs s (l.foldl (fun s p => queueEvent p (eventPkt code 0 payload) s) s) := fun l => by
    induction l with
    | nil => exact fun _ _ _ => rfl
    | cons p l ih => exact fun s => regs_after (ih _) (queueEvent_regs p _ s)
  unfold hostEvent
  split
  · exact fun _ _ => rfl
  · split
    · exact hfold _ s
    · exact fun _ _ => rfl

/-- NVM_EVENTS tells of the copy that failed. -/
theorem copyFailed_raises (page : Option Nat) (copy : Nat) (s : State) : regBit (copyFailed page copy s) 0x40090008 3 = true := by
  unfold copyFailed raiseNvm
  dsimp only
  rw [regBit, hostEvent_regs _ _ _ _ (by decide)]
  exact regBit_raise (by decide) _

/-- A CONFIG item whose first copy fails its read-back twice is DEGRADED, and told of. -/
theorem configCommit_failed {s : State} {i : Nat} (hd : (metaIn s.fer.config i).degraded = none) (hr : s.fer.reads = [{ a := 2, b := 0 }]) :
    (configCommit i s).rng = s.rng ∧ (configCommit i s).fer.reads = [] ∧ (metaIn (configCommit i s).fer.config i).degraded.isSome = true ∧
      regBit (configCommit i s) 0x40090008 3 = true := by
  have hread : (takeRead s).1 = { a := 2, b := 0 } := by rw [takeRead, hr]; rfl
  have hfail : ((metaIn s.fer.config i).commit { a := 2, b := 0 }).degraded.isSome = true := by simp [PageMeta.commit, hd]
  generalize hm : (metaIn s.fer.config i).commit { a := 2, b := 0 } = x at hfail
  have hpage : x.page = i := by rw [← hm, commit_page, metaIn_page]
  have hs : ∃ copy v, configCommit i s = copyFailed none copy v ∧ v.rng = s.rng ∧ v.fer.reads = s.fer.reads.tail ∧ v.fer.config = metaPut x s.fer.config := by
    refine ⟨b2n (x.degraded.getD false), regInc 0x4009000C 32 { (takeRead s).2 with fer := { (takeRead s).2.fer with config := metaPut x s.fer.config } }, ?_, rfl, rfl, rfl⟩
    unfold configCommit
    dsimp only
    rw [commitTell_cases, hread, hm]
    exact if_pos ⟨hfail, by simp [hd]⟩
  obtain ⟨copy, v, hv, hrng, hreads, hconfig⟩ := hs
  obtain ⟨k, a, f, hstir⟩ := copyFailed_stirred none copy v
  have hfer : (copyFailed none copy v).fer = v.fer := hstir.fer
  rw [hv, hfer, hreads, hconfig, metaIn_metaPut, if_pos hpage.symm, hr]
  exact ⟨hstir.rng.trans hrng, rfl, hfail, copyFailed_raises none copy v⟩

/-- The model is stored with a copy failing: its item is DEGRADED when the work ends. -/
theorem modelSet_degrades {w : Work} {m m' : StepMeas} {s : State} (h : StepsNow 0x60 w m s) (hm : m'.rbs = [{ a := 2, b := 0 }]) (hd : (metaIn s.fer.config 0x6000).degraded = none) :
    ∃ t, exec (.acceptedWorkStep true w.seq m') s = .next t ∧ t.rng.model = w.payload ∧ (metaIn t.fer.config 0x6000).degraded.isSome = true ∧ regBit t 0x40090008 3 = true := by
  have hb : stepBody true w m' (begun m' s) = (.over stOk [], configCommit 0x6000 (begun m' (modRng (fun x => { x with model := w.payload }) s))) := stepBody_modelSet h.opcode m' _
  have hbegun : Stands w s.jrn.nextNum (begun m' (modRng (fun x => { x with model := w.payload }) s)) := ⟨⟨w, h.found, rfl, rfl⟩, rfl, h.v1⟩
  obtain ⟨hrng, hreads, hdeg, hbit⟩ := configCommit_failed (s := begun m' (modRng (fun x => { x with model := w.payload }) s)) hd hm
  have hstands := hbegun.configCommit 0x6000
  generalize configCommit 0x6000 (begun m' (modRng (fun x => { x with model := w.payload }) s)) = y at *
  obtain ⟨x, hx, -, -⟩ := hstands.found
  obtain ⟨c, -, hv⟩ := finishWork_jrn hx stOk []
  have hclean : Clean y := fun rb hrb => by simp [hreads] at hrb
  obtain ⟨z, hz, hw⟩ := finishWork_written (status := stOk) (result := []) hx (.refl hclean)
  obtain ⟨a, b, hports⟩ := queueComplete_ports (overRecord x stOk []) z
  have hexec := step_settled h hb (hv.trans hstands.v1)
  have hc := settled_concluded s (finishWork w.seq stOk [] y)
  rw [hz, hports] at hexec hc
  obtain ⟨-, hitems, -⟩ := hw.copies
  refine ⟨_, hexec, ?_, ?_, ?_⟩
  · rw [hc.rng]
    exact (congrArg Ranging.model (hw.rng.trans hrng)).trans rfl
  · rw [hc.config]
    exact (congrArg (·.degraded.isSome) (hitems 0x6000)).trans hdeg
  · rw [regBit, regGet, hc.regs]
    exact (congrArg (wbit · 3) (hw.regs 0x40090008 (by decide))).trans hbit

end Sys2Proof.Machine
open Sys2Proof Sys2Proof.Machine

/-- Settles O27: each step puts its setting, commits it, and its record and ring entry are written last. -/
theorem airAccessWorkEnds : Obligations.AirAccessWorkEnds := by
  unfold Obligations.AirAccessWorkEnds
  refine ⟨?_, ?_, ?_, ?_, ?_, ?_, ?_, ?_, ?_, ?_, ?_, ?_, ?_, ?_, ?_, ?_, ?_, ?_, ?_, ?_, ?_, ?_, ?_, ?_, ?_⟩
  · exact workEnds_config (item := fun _ => 0x6000) (fun _ _ => rfl) (fun w m s h _ => stepBody_modelSet h.opcode m _) fun _ _ => Nat.zero_le _
  · refine workEnds_config (item := fun _ => 0x5200) (fun _ _ => rfl) (fun w m s h hm => ?_) fun _ _ => Nat.zero_le _
    rw [stepBody_radioSave h.opcode, stepRadioSave, hm]
    rfl
  · refine workEnds_config (item := fun _ => 0x5200) (fun _ _ => rfl) (fun w m s h hm => ?_) fun _ _ => Nat.zero_le _
    rw [stepBody_radioSave h.opcode, stepRadioSave, hm]
    rfl
  · intro w m s h
    obtain ⟨t, ht, hend, hfield, hregs, hsaved, -⟩ := fieldKept_ended h (by decide) (by decide) (stepBody_rangeSave h.opcode m _)
    exact ⟨t, ht, hend, hfield.trans (Nat.mod_eq_of_lt (at_lt w.payload 0 2)), hregs, hsaved⟩
  · intro w m s h hk hone htwo
    have hb : stepBody true w m (begun m s) = overConfig 0x7501 [] (saveRegs [0x40060000] (regPutFld 0x40060000 0 2 (at_ w.payload 4 4) (begun m s))) := by
      rw [stepBody_accessSet h.opcode, hk]
      exact stepSetOverride_plain hone htwo
    obtain ⟨t, ht, hend, hfield, hregs, hsaved, hacc⟩ := fieldKept_ended h (by decide) (by decide) hb
    exact ⟨t, ht, hend, hfield, hregs, hsaved, hacc⟩
  · intro w m s h hk
    obtain ⟨t, ht, hend, hfield, hregs, -, hacc⟩ := fieldKept_ended (lo := 2) (n := 1) (v := at_ w.payload 4 4) (item := 0x7502) h (by decide) (a := 0x40060000) (by decide)
      ((stepBody_accessSet h.opcode m _).trans (by rw [hk]; rfl))
    exact ⟨t, ht, hend, hfield, hregs, hacc⟩
  · intro w m s h hk
    obtain ⟨t, ht, hend, hfield, hregs, -, hacc⟩ := fieldKept_ended (lo := 3) (n := 1) (v := at_ w.payload 4 4) (item := 0x7503) h (by decide) (a := 0x40060000) (by decide)
      ((stepBody_accessSet h.opcode m _).trans (by rw [hk]; rfl))
    exact ⟨t, ht, hend, hfield, hregs, hacc⟩
  · intro w m s h hk
    obtain ⟨ha, hworks, hnum, hv1, hfer, hr⟩ := curfewStop_spec (begun m s)
    have hclean : Clean (modAcc (fun a => { a with foreignAt := [] }) (curfewStop (begun m s))) := by
      intro rb hrb
      have hb : rb ∈ (curfewStop (begun m s)).fer.reads := hrb
      rw [hfer] at hb
      exact begun_clean h s rb hb
    obtain ⟨t, ht, hend, hregs, hacc, -⟩ := ended_of_written h ((stepBody_accessSet h.opcode m _).trans (by rw [hk]; rfl)) (.refl hclean) hworks hnum hv1 (Nat.zero_le _)
    refine ⟨t, ht, hend, hacc.trans (congrArg (fun a : Access => { a with foreignAt := [] }) ha), ?_⟩
    exact (hregs _ (by decide)).trans (hr _ (by decide))
  · intro w m s h hk
    have hne : 0x40060020 + 4 * fld (at_ w.payload 4 4) 8 2 ≠ 0x4009000C := by
      have : fld (at_ w.payload 4 4) 8 2 < 4 := Nat.mod_lt _ (by decide)
      omega
    obtain ⟨t, ht, hend, hfield, hregs, -, hacc⟩ := fieldKept_ended (lo := 0) (n := 7) (v := fld (at_ w.payload 4 4) 0 7) (item := 0x7506) h (by decide) hne
      ((stepBody_accessSet h.opcode m _).trans (by rw [hk]; rfl))
    exact ⟨t, ht, hend, hfield.trans (Nat.mod_eq_of_lt (Nat.mod_lt _ (by decide))), hregs, hacc⟩
  · refine workEnds_config (item := fun _ => 0x7507) (fun _ _ => rfl) (fun w m s h ⟨hk, hdealer, n, hread, hle⟩ => ?_) fun _ _ => Nat.zero_le _
    have hno : limitRefusal (at_ w.payload 4 4) (begun m s) = none := limitRefusal_none hread hle
    rw [stepBody_setLimit h.opcode hk, stepSetLimit, hno]
    exact if_neg fun ⟨hlt, hcred⟩ => hcred (hdealer hlt)
  · refine workEnds_refused fun w m s h ⟨hk, hlt, hcred, n, hread, hle⟩ => ?_
    have hno : limitRefusal (at_ w.payload 4 4) (begun m s) = none := limitRefusal_none hread hle
    rw [stepBody_setLimit h.opcode hk, stepSetLimit, hno]
    exact if_pos ⟨hlt, hcred⟩
  · refine workEnds_refused fun w m s h ⟨hk, n, hread, hlt⟩ => ?_
    have hread' : ctrRead (begun m s) 32 = some n := hread
    have hbad : limitRefusal (at_ w.payload 4 4) (begun m s) = some (stBadField, 3) := by
      rw [limitRefusal, hread']
      exact if_pos hlt
    rw [stepBody_setLimit h.opcode hk, stepSetLimit, hbad]
  · exact workEnds_recordPut .active fun w s ⟨h1, ht, hp⟩ => ⟨ht, hp, if_pos h1, fun hn => absurd h1 hn⟩
  · exact workEnds_recordPut .suspended fun w s ⟨h1, ht, hf, hp⟩ => ⟨ht, hp, if_neg h1, fun _ => hf⟩
  · refine workEnds_config (item := fun _ => 0x8300) (fun _ _ => rfl) (fun w m s h ⟨hl, hp⟩ => ?_) fun _ _ => by simp
    have hno : partnerRefusal w.body (begun m s) = none := hp
    rw [stepBody_partnerList h.opcode, stepPartnerList, hno]
    dsimp only
    rw [if_pos hl, partnerList, if_pos hl]
    rfl
  · refine workEnds_config (item := fun _ => 0x8300) (fun _ _ => rfl) (fun w m s h ⟨hl, hp⟩ => ?_) fun _ _ => by simp
    have hno : partnerRefusal w.body (begun m s) = none := hp
    rw [stepBody_partnerList h.opcode, stepPartnerList, hno]
    dsimp only
    rw [if_neg hl, partnerList, if_neg hl]
    rfl
  · exact workEnds_config (item := fun _ => 0x8800) (fun _ _ => rfl) (fun w m s h _ => stepBody_wheelModelSet h.opcode m _) fun _ _ => Nat.zero_le _
  · refine workEnds_config (item := fun w => sensorItem (byteAt w.payload 0)) (fun _ _ => rfl) (fun w m s h hx => ?_) fun _ _ => Nat.zero_le _
    have hno : sensorRefusal (byteAt w.payload 0) (begun m s) = none := sensorRefusal_known hx
    rw [stepBody_sensorSet h.opcode, stepSensorSet, hno]
    rfl
  · refine workEnds_config (item := fun w => sensorItem (byteAt w.payload 0)) (fun _ _ => rfl) (fun w m s h ⟨hz, hx⟩ => ?_) fun _ _ => Nat.zero_le _
    have hno : sensorRefusal (byteAt w.payload 0) (begun m s) = none := sensorRefusal_known hx
    rw [stepBody_wheelSet h.opcode, stepWheelSet, hno]
    exact if_pos hz
  · refine workEnds_config (item := fun w => sensorItem (byteAt w.payload 0)) (fun _ _ => rfl) (fun w m s h ⟨hz, hx, hrole, h3, h4⟩ => ?_) fun _ _ => Nat.zero_le _
    rw [stepBody_wheelPut h.opcode hx hz, publishDue_other (s := wheelPut w (begun m s)) hrole, confirmEnd_other (s := wheelPut w (begun m s)) h3 h4]
    rfl
  · intro w m s x h hz hs hi hown hrole hpub
    have hx : snsOf s (byteAt w.payload 0) = some x := snsOf_single hs hi
    obtain ⟨t, ht, hend, hsns⟩ := wheelPut_ended h (by rw [hx]; rfl) hz
    have hput := snsOf_modSns_self (f := fun x => { x with locFlags := x.locFlags ||| 8, conf := 255, wheelPos := byte (byteAt w.payload 1) }) (fun _ => rfl) (s := begun m s) hx
    refine ⟨t, ht, hend, ?_⟩
    rw [hsns, confirmEnd_publish, publishDue_own (s := wheelPut w (begun m s)) hrole hput hown hpub, hi]
    exact congrArg (· ++ [byteAt w.payload 0]) hpub
  · intro w m s x h hz hs hi hcand hrole h3 hloc
    have hx : snsOf s (byteAt w.payload 0) = some x := snsOf_single hs hi
    obtain ⟨t, ht, hend, hsns⟩ := wheelPut_ended h (by rw [hx]; rfl) hz
    have hnot : s.cfg.role ≠ .trailer := by rw [hrole]; decide
    have hall : allConfirmed (wheelPut w (begun m s)) = true := allConfirmed_decided <| wheelPut_candPos fun y hy => by
      have hy : y ∈ s.sns.sensors := hy
      rw [hs, List.mem_singleton] at hy
      rw [hy, hcand]
    refine ⟨t, ht, hend, ?_⟩
    rw [hsns, publishDue_other (s := wheelPut w (begun m s)) hnot, (confirmEnd_spec (s := wheelPut w (begun m s)) h3 hloc).1, hall]
    rfl
  · intro w m s h hon
    have hon' : regBit (begun m s) 0x40070100 1 = true := hon
    refine workEnds_of_step h rfl ?_ ((Written.refl (begun_clean h _)).unit (internalUnit 5)) (Nat.zero_le _)
    rw [stepBody_s1Learn h.opcode, stepS1Learn, hon']
    rfl
  · refine workEnds_config (item := fun _ => 0x9400) (fun _ _ => rfl) (fun w m s h hm => ?_) fun _ _ => Nat.zero_le _
    rw [stepBody_busSave h.opcode, stepBusSave, hm]
    rfl
  · exact fun w m s h hd => modelSet_degrades h rfl hd
end

section
/-! A grant for a retest that lapses (R113, R116): E1 keeps the retest and submits it again. -/
namespace Sys2Proof.Machine

/-- What a lapsed grant leaves of the LF block, while the device runs. -/
theorem exec_grantLapse_lf {s t : State} (h : running s = true) (hx : exec .grantLapse s = .next t) : t.lf = (grantLapse (fresh s)).lf := by
  have hf : whenRunning grantLapse (fresh s) = grantLapse (fresh s) := if_pos h
  have ht : { settle (whenRunning grantLapse (fresh s)) with pending := s.pending } = t := Host.Outcome.next.inj hx
  rw [← ht, hf]
  exact settle_lf _

/-- A grant for a retest that lapses is deferred again (R113). -/
theorem grantLapse_retest {s : State} {g : EnergyReq} (hg : s.lf.grant = some g) (hr : g.retest.isSome = true) (hw : s.lf.waiting = []) :
    (grantLapse s).lf.deferred = s.lf.deferred ++ [g] := by
  have hkeep : ¬ (g.words.isEmpty && g.retest.isNone) = true := by cases hn : g.retest <;> simp [hn] at hr ⊢
  simp only [grantLapse, hg, if_neg hkeep, e1Next, grantBack, hw]
  rfl

end Sys2Proof.Machine

open Sys2Proof Sys2Proof.Machine

/-- Refutes O46: the clause for a lapsed grant without telegram entries leaves the deferred requests as they are. The grant for a retest has none either, and E1 submits the
retest again: in `retestGranted` it joins the deferred requests. -/
theorem not_lfMaintenance : ¬ Obligations.LfMaintenance := by
  unfold Obligations.LfMaintenance
  rintro ⟨-, -, -, -, -, -, -, hlapse, -⟩
  have hx := hlapse retestGranted retestGrant retestGranted_runs rfl rfl rfl
  have hstated := congrArg (·.deferred) (exec_grantLapse_lf retestGranted_runs.1 hx)
  rw [grantLapse_retest (g := retestGrant) rfl rfl rfl] at hstated
  cases hstated

end

section
/-! Host commands of the LF and radio blocks (R387, R388): what their bodies write, and what the command then leaves. -/
namespace Sys2Proof.Machine

/-- `t` is `s` but for the LF and radio blocks, the free values drawn and the registers. -/
def AirOnly (s t : State) : Prop := t = { s with lf := t.lf, rad := t.rad, drawn := t.drawn, regs := t.regs }

/-- A command has left of the LF and radio blocks, the free values and the registers what its body made of them in `x`, and the rest as every command does. -/
structure AirDone (s x t : State) : Prop where
  leaves : Leaves { s with lf := t.lf, rad := t.rad, drawn := t.drawn, regs := t.regs } t
  lf : t.lf = x.lf
  rad : t.rad = x.rad
  drawn : t.drawn = x.drawn
  regs : t.regs = x.regs

theorem AirDone.of_leaves {s u x t : State} (hu : Leaves s u) (ha : AirOnly u x) (hl : Leaves x t) : AirDone s x t := by
  have e : x.lf = t.lf ∧ x.rad = t.rad ∧ x.drawn = t.drawn ∧ x.regs = t.regs := by rw [hl]; exact ⟨rfl, rfl, rfl, rfl⟩
  obtain ⟨h1, h2, h3, h4⟩ := e
  refine ⟨?_, h1.symm, h2.symm, h3.symm, h4.symm⟩
  rw [AirOnly, hu] at ha
  unfold Leaves at hl ⊢
  rw [hl, ha, h1, h2, h3, h4]

theorem AirDone.regGet {s x t : State} (h : AirDone s x t) (a : Nat) : regGet t a = Machine.regGet x a := by rw [Machine.regGet, h.regs]; rfl
theorem AirDone.regFld {s x t : State} (h : AirDone s x t) (a lo n : Nat) : regFld t a lo n = Machine.regFld x a lo n := by rw [Machine.regFld, h.regGet]; rfl
theorem AirDone.regBit {s x t : State} (h : AirDone s x t) (a i : Nat) : regBit t a i = Machine.regBit x a i := by rw [Machine.regBit, h.regGet]; rfl

theorem AirOnly.of_eq {s t : State} {l : LfField} {r : Radio} {n : Nat} {v : List (Nat × Word)} (h : t = { s with lf := l, rad := r, drawn := n, regs := v }) : AirOnly s t := by
  rw [h]
  rfl

theorem AirDone.leaves_lf {s x t : State} (h : AirDone s x t) (hr : x.rad = s.rad) (hd : x.drawn = s.drawn) : Leaves { s with lf := t.lf, regs := t.regs } t := by
  have hl := h.leaves
  rwa [h.rad.trans hr, h.drawn.trans hd] at hl

theorem AirDone.leaves_rad {s x t : State} (h : AirDone s x t) (hl : x.lf = s.lf) (hd : x.drawn = s.drawn) : Leaves { s with rad := t.rad, regs := t.regs } t := by
  have hl' := h.leaves
  rwa [h.lf.trans hl, h.drawn.trans hd] at hl'

theorem AirDone.regsBut {s u x t : State} {l : List Nat} (h : AirDone s x t) (hx : RegsBut l u x) (hu : u.regs = s.regs) : RegsBut l s t := fun a ha =>
  (h.regGet a).trans ((hx a ha).trans (by rw [Machine.regGet, hu]; rfl))

theorem AirDone.bandOf {s x t : State} (h : AirDone s x t) (b : Bool) : bandOf t b = Machine.bandOf x b := by rw [Machine.bandOf, h.rad]; rfl

/-- Where no answered command stands at the head of an order and nothing waits on the UART, the end of a command moves HIRQ_N alone. -/
theorem settle_level {x : State} (ho : x.ordered = true) (hu : x.uartSent = true) (hr : x.fer.reads = []) :
    settle x = { x with link := { x.link with hirq := hirqLevel x } } := by
  rw [ordered_iff] at ho
  unfold settle
  rw [releaseReplies_id .hcs0 x ho.1, releaseReplies_id .uart x ho.2, sendUart_id x hu]
  simp only [← hr]

/-- The slot that a command has taken is open, behind no answered command, and nothing waits on the UART. -/
theorem taken_waits {op : Byte} {p : Packet} {s : State} (h : Ready op p s) :
    (taken op p (fresh s)).ordered = true ∧ (taken op p (fresh s)).uartSent = true ∧ (taken op p (fresh s)).fer.reads = [] := by
  have hlv := taken_leaves h
  have hs := settle_open h (x := taken op p (fresh s)) rfl hlv.regs (by rw [hlv.fer])
  have hi := settle_linkInv (taken op p (fresh s)) s.pending
  rw [hs] at hi
  obtain ⟨-, ho, hu, hr⟩ := hi
  exact ⟨ho, hu, hr⟩

theorem taken_slot {op : Byte} {p : Packet} {s : State} (h : Ready op p s) :
    ({ ret := replyTo op p s, room := maxReply op.toNat, pkt := none } : OpenSlot) ∈ (portOf (taken op p (fresh s)) p.port).opn := by
  cases hp : p.port
  · have hoq : (fresh s).link.hcs0.outq = [] := by simpa [hp, portOf] using h.outq
    simp [taken, hp, spiOutput_idle hoq, openSlot, replyTo, setPort, portOf]
  · simp [taken, hp, openSlot, replyTo, setPort, portOf]

section
variable {op : Byte} {p : Packet} {s : State} {f : State → State}

/-- A body that writes the LF and radio blocks and replies at once. -/
theorem exec_air_replied {pl : Bytes} (h : Ready op p s) (hb : ∀ lk r, runCommand op p r (atBody lk s) = ok r pl (f (atBody lk s)))
    (ha : ∀ lk, AirOnly (atBody lk s) (f (atBody lk s))) (hc : ∀ lk, regGet (f (atBody lk s)) 0x40010000 = regGet s 0x40010000) :
    ∃ lk t, act (hostCommand op p) s = .next t ∧ Replied op p stOk pl s t ∧ AirDone s (f (atBody lk s)) t := by
  obtain ⟨lk, hl⟩ := taken_frame h
  have hu : taken op p (fresh s) = atBody lk s := hl
  have hx := ha lk
  have hlink : (f (atBody lk s)).link = (taken op p (fresh s)).link := by rw [hx, hu]
  have k := taken_portsKept op p (fresh s) h.of_fresh
  obtain ⟨-, -, -, hreads⟩ := h.inv
  have hk : PortsKept op p (fresh s) (f (atBody lk s)) :=
    { hcs0 := by rw [hlink], uart := by rw [hlink], cfg := hc lk, reads := by rw [hx]; exact hreads, sent := fun hs o ho => k.sent hs o (by rwa [hlink] at ho) }
  obtain ⟨t, ht, hr, hlv⟩ := exec_replied h stOk pl (by rw [hu]; exact hb lk _) hk (by rw [hx]; rfl) (by decide) (by decide)
  exact ⟨lk, t, ht, hr, .of_leaves (hu ▸ taken_leaves h) hx hlv⟩

/-- A body that writes the LF and radio blocks and leaves its reply for later. -/
theorem exec_air_open (h : Ready op p s) (hb : ∀ lk, runCommand op p (replyTo op p s) (atBody lk s) = f (atBody lk s))
    (ha : ∀ lk, AirOnly (atBody lk s) (f (atBody lk s))) (hc : ∀ lk, regGet (f (atBody lk s)) 0x40010000 = regGet s 0x40010000) :
    ∃ lk t, act (hostCommand op p) s = .next t ∧ Awaits op p s t ∧ AirDone s (f (atBody lk s)) t := by
  obtain ⟨lk, hl⟩ := taken_frame h
  have hu : taken op p (fresh s) = atBody lk s := hl
  have hx := ha lk
  have hlink : (f (atBody lk s)).link = (taken op p (fresh s)).link := by rw [hx, hu]
  have hbit : regBit (f (atBody lk s)) 0x40010000 1 = regBit (taken op p (fresh s)) 0x40010000 1 := by rw [regBit, hc, hu]; rfl
  obtain ⟨ho, hs, hr⟩ := taken_waits h
  have hset : settle (f (atBody lk s)) = { f (atBody lk s) with link := { (f (atBody lk s)).link with hirq := hirqLevel (f (atBody lk s)) } } :=
    settle_level (by simpa [State.ordered, hlink] using ho) (by simpa [State.uartSent, hlink, hbit] using hs) (by rw [hx, ← hu]; exact hr)
  have hbody : hostCommand op p (fresh s) = f (atBody lk s) := (hostCommand_ready h.of_fresh).trans (by rw [hu]; exact hb lk)
  refine ⟨lk, _, rfl, ?_, .of_leaves (hu ▸ taken_leaves h) hx ?_⟩
  · refine ⟨{ ret := replyTo op p s, room := maxReply op.toNat, pkt := none }, ?_, rfl, rfl⟩
    have hm := taken_slot h
    rw [hbody, hset]
    cases hp : p.port <;> simpa [hp, portOf, hlink] using hm
  · have hp : (f (atBody lk s)).pending = s.pending := by rw [hx]; rfl
    rw [hbody, hset, ← hp]
    rfl

end

end Sys2Proof.Machine
end

section
/-! One register of each LF channel written in turn. -/
namespace Sys2Proof.Machine

/-- `f` writes one register of channel `n`, by `g`, and no other. -/
def WritesChannel (off : Nat) (g : Nat → Word → Word) (f : State → Nat → State) : Prop :=
  ∀ s n a, regGet (f s n) a = if a = lfCh n off then g n (regGet s a) else regGet s a

section
variable {off : Nat} {g : Nat → Word → Word} {f : State → Nat → State}

/-- After a fold over channels, the register of each of them reads what its own write gave. -/
theorem WritesChannel.regGet_foldl (hf : WritesChannel off g f) {l : List Nat} (hl : l.Nodup) (s : State) (n : Nat) :
    regGet (l.foldl f s) (lfCh n off) = if n ∈ l then g n (regGet s (lfCh n off)) else regGet s (lfCh n off) := by
  have hinj : ∀ m, lfCh n off = lfCh m off ↔ n = m := fun m => by unfold lfCh; omega
  induction l generalizing s with
  | nil => rfl
  | cons m l ih =>
    obtain ⟨hm, hl⟩ := List.nodup_cons.1 hl
    rw [List.foldl_cons, ih hl, hf]
    by_cases h : n = m
    · subst h
      simp [hm]
    · simp [h, hinj]

theorem WritesChannel.regsBut_foldl (hf : WritesChannel off g f) (l : List Nat) (s : State) :
    RegsBut (l.map fun n => lfCh n off) s (l.foldl f s) := by
  intro a ha
  induction l generalizing s with
  | nil => rfl
  | cons m l ih =>
    rw [List.map_cons, List.mem_cons, not_or] at ha
    rw [List.foldl_cons, ih _ ha.2, hf, if_neg ha.1]

end

/-- A fold of steps that each write registers alone. -/
theorem regsFold_frame {α : Type} {f : State → α → State} (hf : ∀ s x, ∃ v, f s x = { s with regs := v }) (l : List α) (s : State) : ∃ v, l.foldl f s = { s with regs := v } := by
  induction l generalizing s with
  | nil => exact ⟨_, rfl⟩
  | cons x l ih =>
    obtain ⟨v, h⟩ := hf s x
    obtain ⟨v', h'⟩ := ih (f s x)
    exact ⟨v', by rw [List.foldl_cons, h', h]⟩

theorem RegsBut.mono {l l' : List Nat} {s t : State} (h : RegsBut l s t) (hl : ∀ a ∈ l, a ∈ l') : RegsBut l' s t := fun a ha => h a fun hm => ha (hl a hm)

theorem lfCh_mem {n : Nat} (h : n < 8) (off : Nat) : lfCh n off ∈ (List.range 8).map fun n => lfCh n off := List.mem_map_of_mem (List.mem_range.2 h)

/-- The registers of the channels lie in the block of LF. -/
theorem notMem_lfCh_of_lt {a off : Nat} (h : a < 0x40020000) : a ∉ (List.range 8).map fun n => lfCh n off := by
  simp only [List.mem_map, List.mem_range, not_exists, not_and, lfCh]
  intro n _
  omega

end Sys2Proof.Machine
end

section
/-! LF_RETEST (R116, R123, R388). -/
namespace Sys2Proof.Machine

/-- The channels of a mask that satisfy a test, as a byte. -/
def chosen (mask : Nat) (f : Nat → Bool) : Byte := byte (((aerials mask).filter f).foldl (fun a n => a + 2 ^ n) 0)

/-- A sum of distinct powers of two below `2 ^ k` has the bits that it was made of. -/
theorem powers_below (g : Nat → Bool) (k : Nat) :
    ((List.range k).filter g).foldl (fun a n => a + 2 ^ n) 0 < 2 ^ k ∧
      ∀ n, Nat.testBit (((List.range k).filter g).foldl (fun a n => a + 2 ^ n) 0) n = (decide (n < k) && g n) := by
  induction k with
  | zero => simp
  | succ k ih =>
    obtain ⟨hlt, hbits⟩ := ih
    rw [List.range_succ, List.filter_append, List.foldl_append]
    generalize ((List.range k).filter g).foldl (fun a n => a + 2 ^ n) 0 = x at hlt hbits
    cases hk : g k
    · simp only [List.filter_cons, hk, Bool.false_eq_true, if_false, List.filter_nil, List.foldl_nil]
      refine ⟨by rw [pow_succ]; omega, fun n => ?_⟩
      rw [hbits]
      by_cases h : n = k
      · simp [h, hk]
      · simp [show n < k + 1 ↔ n < k by omega]
    · simp only [List.filter_cons, hk, if_true, List.filter_nil, List.foldl_cons, List.foldl_nil]
      refine ⟨by rw [pow_succ]; omega, fun n => ?_⟩
      rcases Nat.lt_trichotomy n k with h | rfl | h
      · rw [Nat.add_comm, Nat.testBit_two_pow_add_gt h, hbits]
        simp [h, Nat.lt_succ_of_lt h]
      · rw [Nat.add_comm, Nat.testBit_two_pow_add_eq, hbits]
        simp [hk]
      · rw [Nat.testBit_lt_two_pow (show x + 2 ^ k < 2 ^ n from by have := Nat.pow_le_pow_right (n := 2) (by omega) (show k + 1 ≤ n from h); rw [pow_succ] at this; omega)]
        simp [show ¬ n < k + 1 by omega]

theorem bit_chosen {n : Nat} (h : n < 8) (mask : Nat) (f : Nat → Bool) : bit (chosen mask f).toNat n = (bit mask n && f n) := by
  obtain ⟨hlt, hbits⟩ := powers_below (fun n => f n && bit mask n) 8
  rw [chosen, aerials, List.filter_filter, byte, BitVec.toNat_ofNat, Nat.mod_eq_of_lt hlt, bit, hbits]
  simp [h, Bool.and_comm]

theorem bit_or (a b : Byte) (n : Nat) : bit (a ||| b).toNat n = (bit a.toNat n || bit b.toNat n) := by
  rw [bit, BitVec.toNat_or, Nat.testBit_or]
  rfl

/-- A short is flagged on a channel (R123). -/
def shortFlagged (s : State) (n : Nat) : Bool := regBit s (lfCh n 0xC) 1 || regBit s (lfCh n 0xC) 2

/-- A channel's flags and its runs of poor pulses are cleared. -/
def clearFaults (s : State) (n : Nat) : State :=
  regAndNot (lfCh n 0xC) 0xF { s with lf := { s.lf with openRun := s.lf.openRun.set n 0, detuneRun := s.lf.detuneRun.set n 0 } }

/-- The retests asked for, before the flags are cleared. -/
def retestsAsked (mask : Nat) (s : State) : LfField :=
  { s.lf with retest := s.lf.retest ||| chosen mask (fun n => regBit s (lfCh n 0xC) 0 || !shortFlagged s n), shortRetest := s.lf.shortRetest ||| chosen mask (shortFlagged s) }

theorem askRetest_eq (mask : Nat) (s : State) : askRetest mask s = (aerials mask).foldl clearFaults { s with lf := retestsAsked mask s } := rfl

theorem clearFaults_foldl (l : List Nat) (s : State) :
    ∃ v a b, l.foldl clearFaults s = { s with regs := v, lf := { s.lf with openRun := a, detuneRun := b } } := by
  induction l generalizing s with
  | nil => exact ⟨_, _, _, rfl⟩
  | cons n l ih =>
    obtain ⟨v, a, b, h⟩ := ih (clearFaults s n)
    exact ⟨v, a, b, by rw [List.foldl_cons, h]; rfl⟩

/-- What LF_RETEST writes of the LF block: the retests asked for, and the runs of poor pulses. -/
theorem askRetest_frame (mask : Nat) (s : State) :
    ∃ v a b, askRetest mask s = { s with regs := v, lf := { retestsAsked mask s with openRun := a, detuneRun := b } } := by
  rw [askRetest_eq]
  exact clearFaults_foldl _ _

theorem clearFaults_writes : WritesChannel 0xC (fun _ w => w &&& 0xFFFFFFF0) clearFaults := by
  intro s n a
  rw [clearFaults, regAndNot, regGet_regSet]
  split
  · next h => subst h; rfl
  · rfl

theorem aerials_nodup (mask : Nat) : (aerials mask).Nodup := List.nodup_range.filter _

theorem mem_aerials {n mask : Nat} : n ∈ aerials mask ↔ n < 8 ∧ bit mask n = true := by simp [aerials]

/-- The flags of the channels in the mask are cleared (R116, R388). -/
theorem regGet_askRetest {n : Nat} (h : n < 8) (mask : Nat) (s : State) :
    regGet (askRetest mask s) (lfCh n 0xC) = if bit mask n then regGet s (lfCh n 0xC) &&& 0xFFFFFFF0 else regGet s (lfCh n 0xC) := by
  rw [askRetest_eq, clearFaults_writes.regGet_foldl (aerials_nodup mask)]
  simp only [mem_aerials, h, true_and]
  rfl

theorem regsBut_askRetest (mask : Nat) (s : State) : RegsBut ((List.range 8).map fun n => lfCh n 0xC) s (askRetest mask s) := by
  have h := clearFaults_writes.regsBut_foldl (aerials mask) { s with lf := retestsAsked mask s }
  rw [← askRetest_eq] at h
  exact RegsBut.mono (s := s) h fun a ha => by
    obtain ⟨n, hn, rfl⟩ := List.mem_map.1 ha
    exact lfCh_mem (mem_aerials.1 hn).1 _

end Sys2Proof.Machine
end

section
/-! LF_TABLE (R118, R388). -/
namespace Sys2Proof.Machine

/-- The mask and the current table that LF_TABLE carries. -/
def tableOf (b : Bytes) : LfPair := { mask := byte (byteAt b 0), cur := (List.range 8).map fun n => byteAt b (4 + n) }

/-- The entry of one channel written into the shadow registers, and the whole table. -/
def curWritten (b : Bytes) (s : State) (n : Nat) : State := regPutFld (lfCh n 4) 0 8 (byteAt b (4 + n)) s
def tableWritten (b : Bytes) (s : State) : State := (List.range 8).foldl (curWritten b) (regPutFld 0x40020808 0 8 (byteAt b 0) s)

theorem cmdLfTable_eq (p : Packet) (r : ReplyTo) (s : State) : cmdLfTable p r s = ok r [] (lfCommit (tableWritten p.payload s)) := rfl

theorem byteAt_lt (b : Bytes) (n : Nat) : byteAt b n < 256 := (b.getD n 0).isLt

theorem tableWritten_frame (b : Bytes) (s : State) : ∃ v, tableWritten b s = { s with regs := v } :=
  regsFold_frame (fun _ _ => ⟨_, rfl⟩) _ (regPutFld 0x40020808 0 8 (byteAt b 0) s)

theorem curWritten_writes (b : Bytes) : WritesChannel 4 (fun n w => setFld w 0 8 (byteAt b (4 + n))) (curWritten b) := by
  intro s n a
  rw [curWritten, regPutFld, regGet_regSet]
  split
  · next h => subst h; rfl
  · rfl

theorem regsBut_tableWritten (b : Bytes) (s : State) : RegsBut (0x40020808 :: (List.range 8).map fun n => lfCh n 4) s (tableWritten b s) := by
  intro a ha
  rw [List.mem_cons, not_or] at ha
  rw [tableWritten, (curWritten_writes b).regsBut_foldl _ _ a ha.2]
  exact regGet_regSet_ne ha.1 _ s

theorem tableWritten_mask (b : Bytes) (s : State) : regFld (tableWritten b s) 0x40020808 0 8 = byteAt b 0 := by
  have hne : 0x40020808 ∉ (List.range 8).map fun n => lfCh n 4 := by decide
  rw [regFld, tableWritten, (curWritten_writes b).regsBut_foldl _ _ _ hne]
  exact (regFld_regPutFld (by decide) _ _ s).trans (Nat.mod_eq_of_lt (byteAt_lt b 0))

theorem tableWritten_cur (b : Bytes) (s : State) {n : Nat} (h : n < 8) : regFld (tableWritten b s) (lfCh n 4) 0 8 = byteAt b (4 + n) := by
  rw [regFld, tableWritten, (curWritten_writes b).regGet_foldl List.nodup_range, if_pos (List.mem_range.2 h)]
  exact (wfld_setFld (by decide) _ _).trans (Nat.mod_eq_of_lt (byteAt_lt b _))

/-- What a commit would stage is what LF_TABLE carries. -/
theorem shadowPair_tableWritten (b : Bytes) (s : State) : shadowPair (tableWritten b s) = tableOf b := by
  have hcur : (List.range 8).map (fun n => regFld (tableWritten b s) (lfCh n 4) 0 8) = (List.range 8).map fun n => byteAt b (4 + n) :=
    List.map_congr_left fun n hn => tableWritten_cur b s (List.mem_range.1 hn)
  rw [shadowPair, tableWritten_mask, hcur]
  rfl

theorem lfCommit_idle {s : State} (h : s.lf.telegram = none) : lfCommit s = { s with lf := { s.lf with live := shadowPair s, staged := none } } := by
  simp only [lfCommit, h, applyPair]
  rfl

theorem lfCommit_running {s : State} (h : s.lf.telegram ≠ none) : lfCommit s = { s with lf := { s.lf with staged := some (shadowPair s) } } :=
  if_pos (Option.isSome_iff_ne_none.2 h)

/-- LF_TABLE without a telegram: the pair is live at once. -/
theorem tableCommit_idle {s : State} (h : s.lf.telegram = none) (b : Bytes) :
    lfCommit (tableWritten b s) = { s with regs := (tableWritten b s).regs, lf := { s.lf with live := tableOf b, staged := none } } := by
  obtain ⟨v, hv⟩ := tableWritten_frame b s
  rw [lfCommit_idle (by rw [hv]; exact h), shadowPair_tableWritten, hv]

/-- LF_TABLE while a telegram runs: the pair is staged. -/
theorem tableCommit_running {s : State} (h : s.lf.telegram ≠ none) (b : Bytes) :
    lfCommit (tableWritten b s) = { s with regs := (tableWritten b s).regs, lf := { s.lf with staged := some (tableOf b) } } := by
  obtain ⟨v, hv⟩ := tableWritten_frame b s
  rw [lfCommit_running (by rw [hv]; exact h), shadowPair_tableWritten, hv]

/-- LF_TABLE leaves HIF_CFG. -/
theorem tableWritten_hifCfg (b : Bytes) (s : State) : regGet (tableWritten b s) 0x40010000 = regGet s 0x40010000 := regsBut_tableWritten b s _ (by decide)

end Sys2Proof.Machine
end

section
/-! LF_OFFSET_CAL (R117). -/
namespace Sys2Proof.Machine

/-- The offset of a channel that the next measurement gives: 12 free bits. -/
def offsetAt (s : State) (n : Nat) : Nat := fld (peek s n).toNat 0 12

/-- The bytes of LF_OFFSET_CAL's reply. -/
def offsetBytes (s : State) : Bytes := (List.range 8).flatMap fun n => le 2 (wrap 16 (signed 12 (offsetAt s n)))

/-- The offset register of a channel written. -/
def offsetWritten (v : Nat → Nat) (s : State) (n : Nat) : State := regSet (lfCh n 0x18) (word (v n)) s

theorem measureOffsets_eq (s : State) : measureOffsets s = regOr 0x40030080 0x100 (draw 8 ((List.range 8).foldl (offsetWritten (offsetAt s)) s)) := rfl

theorem measureOffsets_frame (s : State) : ∃ v, measureOffsets s = { s with regs := v, drawn := s.drawn + 8 } := by
  obtain ⟨v, h⟩ := regsFold_frame (f := offsetWritten (offsetAt s)) (fun _ _ => ⟨_, rfl⟩) (List.range 8) s
  rw [measureOffsets_eq, h]
  exact ⟨_, rfl⟩

theorem offsetWritten_writes (v : Nat → Nat) : WritesChannel 0x18 (fun n _ => word (v n)) (offsetWritten v) := fun s _ a => regGet_regSet _ a _ s

theorem regGet_measureOffsets_ne {a : Nat} (h : a ≠ 0x40030080) (s : State) :
    regGet (measureOffsets s) a = regGet ((List.range 8).foldl (offsetWritten (offsetAt s)) s) a := regGet_regSet_ne h _ _

theorem measureOffsets_offset (s : State) {n : Nat} (h : n < 8) : regGet (measureOffsets s) (lfCh n 0x18) = word (offsetAt s n) := by
  have hne : lfCh n 0x18 ≠ 0x40030080 := by unfold lfCh; omega
  rw [regGet_measureOffsets_ne hne, (offsetWritten_writes _).regGet_foldl List.nodup_range, if_pos (List.mem_range.2 h)]

theorem measureOffsets_done (s : State) : regBit (measureOffsets s) 0x40030080 8 = true := by
  rw [measureOffsets_eq, regBit_regOr]
  exact Bool.or_eq_true_iff.2 (.inr (by decide))

theorem regsBut_measureOffsets (s : State) : RegsBut (0x40030080 :: (List.range 8).map fun n => lfCh n 0x18) s (measureOffsets s) := by
  intro a ha
  rw [List.mem_cons, not_or] at ha
  rw [regGet_measureOffsets_ne ha.1, (offsetWritten_writes _).regsBut_foldl _ _ a ha.2]

theorem measureOffsets_bytes (s : State) :
    ((List.range 8).flatMap fun n => le 2 (wrap 16 (signed 12 (regGet (measureOffsets s) (lfCh n 0x18)).toNat))) = offsetBytes s := by
  refine List.flatMap_congr fun n hn => ?_
  have hlt : offsetAt s n < 2 ^ 32 := (Nat.mod_lt _ (by decide)).trans (by decide)
  rw [measureOffsets_offset s (List.mem_range.1 hn), word, BitVec.toNat_ofNat, Nat.mod_eq_of_lt hlt]

/-- The LF block with no offset calibration asked for. -/
def offsetsMet (l : LfField) : LfField := { l with isofsDue := false, isofsReply := [] }

theorem offsetsMet_idle {l : LfField} (h : l.isofsReply = []) : offsetsMet l = { l with isofsDue := false } := by rw [offsetsMet, ← h]

/-- The state with the offsets measured that were asked for. -/
def offsetsTaken (s : State) : State := measureOffsets { s with lf := offsetsMet s.lf }

theorem offsetsTaken_frame (s : State) : ∃ v, offsetsTaken s = { s with lf := offsetsMet s.lf, regs := v, drawn := s.drawn + 8 } := measureOffsets_frame _

theorem offsetsTaken_offset (s : State) {n : Nat} (h : n < 8) : regGet (offsetsTaken s) (lfCh n 0x18) = word (offsetAt s n) := measureOffsets_offset _ h

theorem regsBut_offsetsTaken (s : State) : RegsBut (0x40030080 :: (List.range 8).map fun n => lfCh n 0x18) s (offsetsTaken s) :=
  regsBut_measureOffsets { s with lf := offsetsMet s.lf }

/-- The only command that waits for a calibration gets its offsets. -/
theorem runOffsets_one {s : State} {r : ReplyTo} (hd : s.lf.isofsDue = true) (hr : s.lf.isofsReply = [r]) : runOffsets s = ok r (offsetBytes s) (offsetsTaken s) := by
  rw [runOffsets, if_pos hd, hr]
  exact congrArg (fun b => reply r stOk b (offsetsTaken s)) (measureOffsets_bytes { s with lf := offsetsMet s.lf })

/-- With no telegram and no earlier request the offsets are measured and answered at once. -/
theorem cmdLfOffsetCal_idle {s : State} (ht : s.lf.telegram = none) (hr : s.lf.isofsReply = []) (r : ReplyTo) :
    cmdLfOffsetCal r s = ok r (offsetBytes s) (offsetsTaken s) := by
  have hrun : cmdLfOffsetCal r s = runOffsets { s with lf := { s.lf with isofsDue := true, isofsReply := s.lf.isofsReply ++ [r] } } := if_neg (by simp [ht])
  rw [hrun, runOffsets_one rfl (congrArg (· ++ [r]) hr)]
  rfl

/-- While a telegram runs the request waits for its end. -/
theorem cmdLfOffsetCal_running {s : State} (ht : s.lf.telegram ≠ none) (r : ReplyTo) :
    cmdLfOffsetCal r s = { s with lf := { s.lf with isofsDue := true, isofsReply := s.lf.isofsReply ++ [r] } } :=
  if_pos (Option.isSome_iff_ne_none.2 ht)

end Sys2Proof.Machine
end

section
/-! RADIO_TX: one frame placed in the transmit buffer, and its descriptor queued (R146–R149, R388). -/
namespace Sys2Proof.Machine

@[simp] theorem bandOf_modBand_self (h : Bool) (f : Band → Band) (s : State) : bandOf (modBand h f s) h = f (bandOf s h) := by cases h <;> rfl
@[simp] theorem bandOf_modBand_not (h : Bool) (f : Band → Band) (s : State) : bandOf (modBand h f s) (!h) = bandOf s (!h) := by cases h <;> rfl
@[simp] theorem jobs_modBand (h : Bool) (f : Band → Band) (s : State) : (modBand h f s).rad.jobs = s.rad.jobs := by cases h <;> rfl

@[simp] theorem regGet_modBand (h : Bool) (f : Band → Band) (s : State) (a : Nat) : regGet (modBand h f s) a = regGet s a := rfl
@[simp] theorem bandOf_regSet (a : Nat) (v : Word) (s : State) (h : Bool) : bandOf (regSet a v s) h = bandOf s h := rfl

/-- The synthesisers replaced. -/
def putSyns (a b c d : Synth) (s : State) : State := modRad (fun x => { x with syn1 := a, syn2 := b, txlo := c, rxlo := d }) s

@[simp] theorem bandOf_putSyns (a b c d : Synth) (s : State) (h : Bool) : bandOf (putSyns a b c d s) h = bandOf s h := by cases h <;> rfl

@[simp] theorem regGet_putSyns (a b c d : Synth) (s : State) (i : Nat) : regGet (putSyns a b c d s) i = regGet s i := rfl
@[simp] theorem jobs_putSyns (a b c d : Synth) (s : State) : (putSyns a b c d s).rad.jobs = s.rad.jobs := rfl

theorem modSyn_putSyns (i : Nat) (f : Synth → Synth) (s : State) : ∃ a b c d, modSyn i f s = putSyns a b c d s := by
  unfold modSyn
  split_ifs <;> exact ⟨_, _, _, _, rfl⟩

/-- A commit of a synthesiser moves synthesisers alone (R146). -/
theorem commitSyn_putSyns (i : Nat) (s : State) : ∃ a b c d, commitSyn i s = putSyns a b c d s := by
  obtain ⟨a, b, c, d, h⟩ := modSyn_putSyns i (fun y => { y with staged := some (shadowSyn s i) }) s
  simp only [commitSyn, h]
  split
  · exact ⟨_, _, _, _, rfl⟩
  · obtain ⟨a', b', c', d', h'⟩ := modSyn_putSyns i (fun y => match y.staged with
      | some p => { y with freq := p.1, ifSel := p.2, staged := none }
      | none => y) (putSyns a b c d s)
    exact ⟨a', b', c', d', h'⟩

/-- A descriptor is not in use. -/
def DescFree (h : Bool) (d : Nat) (s : State) : Prop := d ∉ (bandOf s h).order ∧ (bandOf s h).sending ≠ some d

theorem freeDesc_free {s : State} {h : Bool} {d : Nat} (hd : freeDesc s h = some d) : d < 4 ∧ DescFree h d s := by
  have hm := List.mem_of_find?_eq_some hd
  have hp := List.find?_some hd
  exact ⟨List.mem_range.1 hm, by simpa [DescFree] using hp⟩

/-- A descriptor that is free and is written with VALID joins the order of its band, with a status; its control word reads what was written (R148). -/
theorem queueDesc_free {h : Bool} {d : Nat} {ctl : Word} {s : State} (hd : DescFree h d s) (hv : wbit ctl 0 = true) :
    ∃ (v : Nat) (tn : Band → Bool), queueDesc h d ctl s = setTxStat h d v (modBand h (fun b => { b with order := b.order ++ [d], turn := tn b }) (regSet (txdAddr h d 0) ctl s)) := by
  obtain ⟨ho, hs⟩ := hd
  have hfree : ((bandOf s h).order.contains d || (bandOf s h).sending == some d) = false := by simp [ho, hs]
  refine ⟨if wfld ctl 1 2 = 2 then 8 else 1, fun b => b.turn && !(wfld ctl 1 2 == 2 && !turnArmed (regSet (txdAddr h d 0) ctl s) h), ?_⟩
  simp only [queueDesc, hfree, hv]
  rfl

/-- The transmit buffer with a frame written from an offset on. -/
def bufWith (base : Nat) (b buf : Bytes) : Bytes := (fit 512 buf).take base ++ b ++ (fit 512 buf).drop (base + b.length)

theorem slice_bufWith {base : Nat} (h : base ≤ 512) (b buf : Bytes) : slice (bufWith base b buf) base b.length = b := by
  have hl : ((fit 512 buf).take base).length = base := by simp [h]
  rw [slice, bufWith, List.append_assoc, List.drop_left' hl, List.take_left]

/-- `t` is `s` but for the radio and the registers. -/
def RadOnly (s t : State) : Prop := t = { s with rad := t.rad, regs := t.regs }

theorem RadOnly.after {s t u : State} (k : RadOnly t u) (h : RadOnly s t) : RadOnly s u := by
  unfold RadOnly at *
  rw [k, h]

theorem RadOnly.lf {s t : State} (h : RadOnly s t) : t.lf = s.lf := by rw [h]
theorem RadOnly.drawn {s t : State} (h : RadOnly s t) : t.drawn = s.drawn := by rw [h]

theorem regSet_radOnly (a : Nat) (v : Word) (s : State) : RadOnly s (regSet a v s) := rfl
theorem modRad_radOnly (f : Radio → Radio) (s : State) : RadOnly s (modRad f s) := rfl

/-- What a placed frame leaves: bytes in the buffer, and a descriptor of its own in the order of its band, queued with READY (R147–R149). -/
structure FramePlaced (h : Bool) (d base at' preset pwr mode : Nat) (b : Bytes) (s t : State) : Prop where
  rest : RadOnly s t
  jobs : t.rad.jobs = s.rad.jobs
  band : ∃ tn, bandOf t h = { bandOf s h with buf := bufWith base b (bandOf s h).buf, order := (bandOf s h).order ++ [d], turn := tn }
  other : bandOf t (!h) = bandOf s (!h)
  control : regGet t (txdAddr h d 0) = word (1 + 2 * mode + 32 + 64 * preset + 1024 * pwr)
  place : regGet t (txdAddr h d 4) = word (base + 65536 * b.length)
  start : regGet t (txdAddr h d 8) = word at'
  host : regGet t 0x40010000 = regGet s 0x40010000

theorem txdAddr_inj (h : Bool) (d i j : Nat) : txdAddr h d i = txdAddr h d j ↔ i = j := by unfold txdAddr; omega

/-- The descriptors' registers are no status register and not HIF_CFG. -/
theorem txdAddr_ne_txstat {h : Bool} {d i : Nat} (hd : d < 4) (hi : i < 16) : txdAddr h d i ≠ txstatAddr h := by
  cases h <;> simp only [txdAddr, txstatAddr, bandBase, Bool.false_eq_true, if_false, if_true] <;> omega

theorem hifCfg_ne_txd (h : Bool) (d i : Nat) : 0x40010000 ≠ txdAddr h d i := by
  cases h <;> simp only [txdAddr, bandBase, Bool.false_eq_true, if_false, if_true] <;> omega

theorem hifCfg_ne_txstat (h : Bool) : 0x40010000 ≠ txstatAddr h := by cases h <;> decide

/-- The state in which the descriptor of a placed frame is queued. -/
def frameStored (h : Bool) (d base at' : Nat) (b : Bytes) (s : State) : State :=
  regSet (txdAddr h d 8) (word at') (regSet (txdAddr h d 4) (word (base + 65536 * b.length)) (modBand h (fun x => { x with buf := bufWith base b x.buf }) s))

section
variable {h : Bool} {d base at' preset pwr mode : Nat} {b : Bytes} {s t : State}

theorem FramePlaced.valid (hp : FramePlaced h d base at' preset pwr mode b s t) : regBit t (txdAddr h d 0) 0 = true := by
  rw [regBit, hp.control, wbit, word, BitVec.toNat_ofNat, Nat.testBit_zero, decide_eq_true_eq]
  omega

theorem FramePlaced.mode_field (hp : FramePlaced h d base at' preset pwr mode b s t) : regFld t (txdAddr h d 0) 1 2 = mode % 4 := by
  rw [regFld, hp.control, wfld, fld, word, BitVec.toNat_ofNat]
  omega

theorem FramePlaced.offset_field (hp : FramePlaced h d base at' preset pwr mode b s t) (hb : base < 512) : regFld t (txdAddr h d 4) 0 9 = base := by
  rw [regFld, hp.place, wfld, fld, word, BitVec.toNat_ofNat]
  omega

theorem FramePlaced.length_field (hp : FramePlaced h d base at' preset pwr mode b s t) (hb : base < 512) (hn : b.length ≤ 512) : regFld t (txdAddr h d 4) 16 10 = b.length := by
  rw [regFld, hp.place, wfld, fld, word, BitVec.toNat_ofNat]
  omega

end

theorem placeFrame_placed {h : Bool} {d : Nat} {s : State} (base freq at' preset pwr mode : Nat) (b : Bytes) (h4 : d < 4) (hd : DescFree h d s) :
    FramePlaced h d base at' preset pwr mode b s (placeFrame h d base freq at' preset pwr mode b s) := by
  obtain ⟨syn, hsyn⟩ : ∃ a, a = [0x40030010, 0x40030020, 0x40040010, 0x40040018].getD (txSyn s h) 0x40030010 := ⟨_, rfl⟩
  have hne : 0x40010000 ≠ syn := by
    rw [hsyn]
    unfold txSyn
    split_ifs <;> decide
  obtain ⟨a, c, e, g, hc⟩ := commitSyn_putSyns (txSyn s h) (regSet syn (word freq) s)
  have hv : wbit (word (1 + 2 * mode + 32 + 64 * preset + 1024 * pwr)) 0 = true := by
    rw [wbit, word, BitVec.toNat_ofNat, Nat.testBit_zero, decide_eq_true_eq]
    omega
  have hfree : DescFree h d (frameStored h d base at' b (putSyns a c e g (regSet syn (word freq) s))) := by
    simp only [DescFree, frameStored, bandOf_regSet, bandOf_modBand_self, bandOf_putSyns]
    exact hd
  obtain ⟨v, tn, hq⟩ := queueDesc_free hfree hv
  have hp : placeFrame h d base freq at' preset pwr mode b s =
      queueDesc h d (word (1 + 2 * mode + 32 + 64 * preset + 1024 * pwr)) (frameStored h d base at' b (commitSyn (txSyn s h) (regSet syn (word freq) s))) := by
    rw [hsyn]
    rfl
  rw [hp, hc, hq]
  have hrest : RadOnly s (frameStored h d base at' b (putSyns a c e g (regSet syn (word freq) s))) :=
    ((regSet_radOnly _ _ _).after (regSet_radOnly _ _ _)).after ((modRad_radOnly _ _).after ((modRad_radOnly _ _).after (regSet_radOnly _ _ _)))
  refine ⟨(regSet_radOnly _ _ _).after ((modRad_radOnly _ _).after ((regSet_radOnly _ _ _).after hrest)), ?_, ⟨tn { bandOf s h with buf := bufWith base b (bandOf s h).buf }, ?_⟩, ?_, ?_, ?_, ?_, ?_⟩ <;>
    simp only [setTxStat, regPutFld, frameStored]
  · simp
  · simp
  · simp
  · simp [txdAddr_ne_txstat h4 (show 0 < 16 by decide)]
  · simp [txdAddr_ne_txstat h4 (show 4 < 16 by decide), txdAddr_inj]
  · simp [txdAddr_ne_txstat h4 (show 8 < 16 by decide), txdAddr_inj]
  · simp [hifCfg_ne_txd, hifCfg_ne_txstat, hne]

/-- RADIO_TX with a frame, a descriptor and room for it (R147–R149, R388). -/
theorem cmdRadioTx_places {p : Packet} {s : State} {d : Nat} (hn : at_ p.payload 12 2 ≠ 0) (ha : byteAt p.payload 3 = 1 → atTooFar s (at_ p.payload 8 4) = false)
    (hd : freeDesc s (byteAt p.payload 0 = 1) = some d) (hroom : txBufTop s (byteAt p.payload 0 = 1) + at_ p.payload 12 2 ≤ 512) (r : ReplyTo) :
    cmdRadioTx p r s = placeTx p r d (txBufTop s (byteAt p.payload 0 = 1)) s := by
  have hat : ¬ (byteAt p.payload 3 = 1 ∧ atTooFar s (at_ p.payload 8 4) = true) := fun ⟨h, k⟩ => by simp [ha h] at k
  rw [cmdRadioTx, if_neg hat, if_neg hn, hd]
  exact if_neg (by omega)

/-- RADIO_TX with an empty frame (R398). -/
theorem cmdRadioTx_empty {p : Packet} {s : State} (hn : at_ p.payload 12 2 = 0) (ha : byteAt p.payload 3 = 1 → atTooFar s (at_ p.payload 8 4) = false) (r : ReplyTo) :
    cmdRadioTx p r s = ok r (le 4 0xFFFFFFFF) s := by
  have hat : ¬ (byteAt p.payload 3 = 1 ∧ atTooFar s (at_ p.payload 8 4) = true) := fun ⟨h, k⟩ => by simp [ha h] at k
  rw [cmdRadioTx, if_neg hat, if_pos hn]

/-- RADIO_TX leaves one more job, and the frame placed. -/
theorem placeTx_placed {p : Packet} {s : State} {d : Nat} (r : ReplyTo) (base : Nat) (h4 : d < 4) (hd : DescFree (byteAt p.payload 0 = 1) d s) :
    FramePlaced (byteAt p.payload 0 = 1) d base (at_ p.payload 8 4) (byteAt p.payload 1) (byteAt p.payload 2) (byteAt p.payload 3) (slice p.payload 14 (at_ p.payload 12 2))
      (modRad (fun x => { x with jobs := x.jobs ++ [{ bandH := byteAt p.payload 0 = 1, desc := d, ret := r, ts := 0xFFFFFFFF }] }) s) (placeTx p r d base s) :=
  placeFrame_placed base _ _ _ _ _ _ h4 hd

/-- The frame that RADIO_TX carries is as long as it says (R372). -/
theorem radioTx_frame_length {p : Packet} {s : State} (h : Ready 0x51 p s) : (slice p.payload 14 (at_ p.payload 12 2)).length = at_ p.payload 12 2 := by
  have hl := h.length
  simp only [lenOk, Bool.and_eq_true, beq_iff_eq, decide_eq_true_eq] at hl
  have hop : ∀ g, opLen (0x51 : Byte).toNat p.payload g = 14 + at_ p.payload 12 2 := fun _ => rfl
  rw [hop] at hl
  rw [slice, List.length_take, List.length_drop]
  omega

end Sys2Proof.Machine
end

section
/-! The LF and radio commands, each from its packet to what it leaves (R116–R118, R146–R149, R388). -/
namespace Sys2Proof.Machine

section
variable {p : Packet} {s : State}

/-- LF_RETEST. -/
theorem exec_lfRetest (h : Ready 0x41 p s) : ∃ lk t, exec (.lfRetest p) s = .next t ∧ Replied 0x41 p stOk [] s t ∧ AirDone s (askRetest (byteAt p.payload 0) (atBody lk s)) t := by
  refine exec_air_replied h (fun lk r => ?_) (fun lk => ?_) fun lk => regsBut_askRetest _ (atBody lk s) _ (notMem_lfCh_of_lt (by decide))
  · rw [runCommand_air h (by decide) (by decide)]
    rfl
  · obtain ⟨v, a, b, hf⟩ := askRetest_frame (byteAt p.payload 0) (atBody lk s)
    exact .of_eq hf

/-- LF_TABLE; `l` is the LF block that its commit leaves. -/
theorem exec_lfTable {l : LfField} (h : Ready 0x43 p s)
    (hl : ∀ lk, lfCommit (tableWritten p.payload (atBody lk s)) = { atBody lk s with regs := (tableWritten p.payload (atBody lk s)).regs, lf := l }) :
    ∃ lk t, exec (.lfTable p) s = .next t ∧ Replied 0x43 p stOk [] s t ∧ t.lf = l ∧ Leaves { s with lf := t.lf, regs := t.regs } t ∧
      t.regs = (tableWritten p.payload (atBody lk s)).regs := by
  obtain ⟨lk, t, hx, hr, hdone⟩ := exec_air_replied (f := fun u => lfCommit (tableWritten p.payload u)) (pl := []) h
    (fun lk r => by rw [runCommand_air h (by decide) (by decide)]; rfl) (fun lk => .of_eq (hl lk)) (fun lk => by rw [hl]; exact tableWritten_hifCfg _ (atBody lk s))
  rw [hl] at hdone
  exact ⟨lk, t, hx, hr, hdone.lf, hdone.leaves_lf rfl rfl, hdone.regs⟩

/-- LF_OFFSET_CAL without a telegram. -/
theorem exec_lfOffsetCal_idle (h : Ready 0x42 p s) (ht : s.lf.telegram = none) (hn : s.lf.isofsReply = []) :
    ∃ lk t, exec (.lfOffsetCal p) s = .next t ∧ Replied 0x42 p stOk (offsetBytes s) s t ∧ AirDone s (offsetsTaken (atBody lk s)) t := by
  refine exec_air_replied h (fun lk r => ?_) (fun lk => ?_) fun lk => regsBut_offsetsTaken (atBody lk s) _ (by decide)
  · rw [runCommand_air h (by decide) (by decide)]
    exact cmdLfOffsetCal_idle (s := atBody lk s) ht hn r
  · obtain ⟨v, hf⟩ := offsetsTaken_frame (atBody lk s)
    exact .of_eq hf

/-- LF_OFFSET_CAL while a telegram runs. -/
theorem exec_lfOffsetCal_running (h : Ready 0x42 p s) (ht : s.lf.telegram ≠ none) :
    ∃ t, exec (.lfOffsetCal p) s = .next t ∧ Awaits 0x42 p s t ∧
      Leaves { s with lf := { s.lf with isofsDue := true, isofsReply := s.lf.isofsReply ++ [replyTo 0x42 p s] } } t := by
  obtain ⟨lk, t, hx, hw, hdone⟩ := exec_air_open (f := fun u => { u with lf := { u.lf with isofsDue := true, isofsReply := u.lf.isofsReply ++ [replyTo 0x42 p s] } }) h
    (fun lk => by rw [runCommand_air h (by decide) (by decide)]; exact cmdLfOffsetCal_running (s := atBody lk s) ht _) (fun _ => rfl) (fun _ => rfl)
  have hl := hdone.leaves
  rw [hdone.lf, hdone.rad, hdone.drawn, hdone.regs] at hl
  exact ⟨t, hx, hw, hl⟩

/-- The radio with one more job of RADIO_TX. -/
def jobAdded (h : Bool) (d : Nat) (r : ReplyTo) (s : State) : State := modRad (fun x => { x with jobs := x.jobs ++ [{ bandH := h, desc := d, ret := r, ts := 0xFFFFFFFF }] }) s

/-- RADIO_TX with a frame, a descriptor and room for it. -/
theorem exec_radioTx_places {d : Nat} (hready : Ready 0x51 p s) (hn : at_ p.payload 12 2 ≠ 0) (ha : byteAt p.payload 3 = 1 → atTooFar s (at_ p.payload 8 4) = false)
    (hd : freeDesc s (byteAt p.payload 0 = 1) = some d) (hroom : txBufTop s (byteAt p.payload 0 = 1) + at_ p.payload 12 2 ≤ 512) :
    ∃ lk t x, exec (.radioTx p) s = .next t ∧ Awaits 0x51 p s t ∧ AirDone s x t ∧
      FramePlaced (byteAt p.payload 0 = 1) d (txBufTop s (byteAt p.payload 0 = 1)) (at_ p.payload 8 4) (byteAt p.payload 1) (byteAt p.payload 2) (byteAt p.payload 3)
        (slice p.payload 14 (at_ p.payload 12 2)) (jobAdded (byteAt p.payload 0 = 1) d (replyTo 0x51 p s) (atBody lk s)) x := by
  obtain ⟨h4, hfree⟩ := freeDesc_free hd
  have hplaced := fun lk => placeTx_placed (p := p) (s := atBody lk s) (replyTo 0x51 p s) (txBufTop s (byteAt p.payload 0 = 1)) h4 hfree
  obtain ⟨lk, t, hx, hw, hdone⟩ := exec_air_open (f := placeTx p (replyTo 0x51 p s) d (txBufTop s (byteAt p.payload 0 = 1))) hready
    (fun lk => by rw [runCommand_air hready (by decide) (by decide)]; exact cmdRadioTx_places (s := atBody lk s) hn ha hd hroom _)
    (fun lk => .of_eq ((hplaced lk).rest.after (modRad_radOnly _ _))) (fun lk => (hplaced lk).host)
  exact ⟨lk, t, _, hx, hw, hdone, hplaced lk⟩

end

end Sys2Proof.Machine

open Sys2Proof Sys2Proof.Machine

/-- Settles O20: each body writes the LF or the radio block and replies at once, or leaves its reply for the end of what it has begun. -/
theorem lfRadioCommands : Obligations.LfRadioCommands := by
  unfold Obligations.LfRadioCommands
  refine ⟨fun p s h => ?_, fun p s h hidle => ?_, fun p s h hruns => ?_, fun p s h hidle hnone => ?_, fun p s h hruns => exec_lfOffsetCal_running h hruns, ?_,
    servesRead_of_reply (fun _ _ => rfl) fun p s lk r h ⟨hn, ha⟩ => ?_⟩
  · obtain ⟨lk, t, hx, hr, hdone⟩ := exec_lfRetest h
    obtain ⟨v, a, b, hf⟩ := askRetest_frame (byteAt p.payload 0) (atBody lk s)
    have hlf : t.lf = { retestsAsked (byteAt p.payload 0) s with openRun := a, detuneRun := b } := hdone.lf.trans (by rw [hf]; rfl)
    refine ⟨t, hx, hr, hdone.leaves_lf (by rw [hf]; rfl) (by rw [hf]; rfl), by rw [hlf]; rfl, fun n hn => ?_, fun n hn => (hdone.regGet _).trans (regGet_askRetest hn _ _),
      hdone.regsBut (regsBut_askRetest _ _) rfl⟩
    rw [hlf]
    exact ⟨(bit_or _ _ n).trans (by rw [bit_chosen hn]; rfl), (bit_or _ _ n).trans (by rw [bit_chosen hn]; rfl)⟩
  · obtain ⟨lk, t, hx, hr, hlf, hl, hregs⟩ := exec_lfTable (l := { s.lf with live := tableOf p.payload, staged := none }) h fun lk => tableCommit_idle (s := atBody lk s) hidle _
    have hget : ∀ a, regGet t a = regGet (tableWritten p.payload (atBody lk s)) a := fun a => by rw [regGet, hregs]; rfl
    refine ⟨t, hx, hr, hl, hlf, ?_, fun n hn => ?_, fun a ha => (hget a).trans (regsBut_tableWritten _ _ a ha)⟩
    · rw [regFld, hget]
      exact tableWritten_mask _ _
    · rw [regFld, hget]
      exact tableWritten_cur _ _ hn
  · obtain ⟨lk, t, hx, hr, hlf, -, -⟩ := exec_lfTable (l := { s.lf with staged := some (tableOf p.payload) }) h fun lk => tableCommit_running (s := atBody lk s) hruns _
    exact ⟨t, hx, hr, by rw [hlf], by rw [hlf]; rfl⟩
  · obtain ⟨lk, t, hx, hr, hdone⟩ := exec_lfOffsetCal_idle h hidle hnone
    obtain ⟨v, hf⟩ := offsetsTaken_frame (atBody lk s)
    have hl := hdone.leaves
    rw [hdone.lf.trans (show _ = { s.lf with isofsDue := false } by rw [hf]; exact offsetsMet_idle hnone), hdone.rad.trans (show _ = s.rad by rw [hf]; rfl),
      hdone.drawn.trans (show _ = s.drawn + 8 by rw [hf]; rfl)] at hl
    exact ⟨t, hx, hr, hl, fun n hn => (hdone.regGet _).trans (offsetsTaken_offset _ hn), (hdone.regBit _ _).trans (measureOffsets_done _),
      hdone.regsBut (regsBut_offsetsTaken _) rfl⟩
  · intro p s d hready b h n top hn ha hfree hroom
    obtain ⟨lk, t, x, hx, hw, hdone, hp⟩ := exec_radioTx_places hready hn ha hfree hroom
    have hrest := hp.rest.after (modRad_radOnly _ _)
    have hlen : (slice b 14 n).length = n := radioTx_frame_length hready
    have htop : top < 512 := by omega
    have hmax : (slice b 14 n).length ≤ 512 := hlen.trans_le (by omega)
    obtain ⟨turn, hband⟩ := hp.band
    rw [← hdone.bandOf] at hband
    have hslice : slice (bandOf t h).buf top (slice b 14 n).length = slice b 14 n := by
      rw [hband]
      exact slice_bufWith htop.le _ _
    rw [hlen] at hslice
    exact ⟨t, hx, hw, hdone.leaves_rad hrest.lf hrest.drawn, (congrArg (·.jobs) hdone.rad).trans hp.jobs, by rw [hband]; rfl, by rw [hband]; rfl,
      (hdone.bandOf _).trans hp.other, hslice, (hdone.regFld _ _ _).trans (hp.offset_field htop),
      ((hdone.regFld _ _ _).trans (hp.length_field htop hmax)).trans hlen, (hdone.regGet _).trans hp.start, (hdone.regBit _ _).trans hp.valid,
      (hdone.regFld _ _ _).trans hp.mode_field⟩
  · rw [runCommand_air h (by decide) (by decide)]
    exact cmdRadioTx_empty (s := atBody lk s) hn ha r

end

section
/-! A TURN descriptor queued where none is armed (R148): a frame that ended before it was queued is none that it waited for. -/
namespace Sys2Proof.Machine

/-- An event that the running machine meets leaves what its effect made, but for what the end of a command touches. -/
theorem act_whenRunning_concluded {f : State → State} {s : State} (h : running s = true) : ∃ t, act (whenRunning f) s = .next t ∧ Concluded (f (fresh s)) t := by
  have hf : whenRunning f (fresh s) = f (fresh s) := if_pos h
  obtain ⟨t, ht, hc⟩ := act_concluded (whenRunning f) s
  exact ⟨t, ht, hf ▸ hc⟩

/-- The control words of the transmit descriptors are registers that engines write, and their blocks keep them. -/
theorem txdCtl_writable (h : Bool) (d : Fin 4) : regWritable (txdAddr h d 0) = true := by
  revert h d
  decide +kernel

theorem txdCtl_ownStore (h : Bool) (d : Fin 4) : ownStore (txdAddr h d 0) = true := by
  revert h d
  decide

/-- A write of a descriptor's control word queues the descriptor (R148, R168). -/
theorem regWrite_txdCtl (k : Option (Fin 12)) (h : Bool) (d : Fin 4) (ctl : Word) (s : State) : regWrite k (txdAddr h d 0) ctl s = queueDesc h d ctl s := by
  have hstore : regStore (txdAddr h d 0) ctl s = s := by
    rw [regStore, txdCtl_ownStore]
    split <;> rfl
  have heffect : regEffect k (txdAddr h d 0) ctl s = queueDesc h d ctl s := by
    unfold regEffect
    rw [hstore]
    cases h <;> fin_cases d <;> rfl
  have hpart : regPart k (txdAddr h d 0) ctl s = queueDesc h d ctl s := by
    unfold regPart
    rw [heffect]
    cases h <;> fin_cases d <;> rfl
  unfold regWrite
  rw [hpart]
  cases h <;> fin_cases d <;> rfl

theorem engWriteBy_txdCtl {h : Bool} {d : Fin 4} {ctl : Word} {s : State} (hv : valueGood s (txdAddr h d 0) ctl = true) :
    engWriteBy regWrite (if h then 3 else 2) (txdAddr h d 0) ctl s = queueDesc h d ctl s := by
  have hlock : regLocked s (txdAddr h d 0) = false := by cases h <;> fin_cases d <;> rfl
  have hlink : oemLink (if h then 3 else 2) (txdAddr h d 0) ctl = true := by cases h <;> rfl
  simp only [engWriteBy, txdCtl_writable, hlock, hv, hlink, regWrite_txdCtl]
  rfl

/-- A good value written to a descriptor's control word, in the running machine. -/
theorem exec_txDescriptorQueue_concluded {h : Bool} {d : Fin 4} {ctl : Word} {s : State} (hr : Runs s) (hv : valueGood s (txdAddr h d 0) ctl = true) :
    ∃ t, exec (.txDescriptorQueue h d ctl) s = .next t ∧ Concluded (queueDesc h d ctl (fresh s)) t := by
  have hv' : valueGood (fresh s) (txdAddr h d 0) ctl = true := hv
  rw [← engWriteBy_txdCtl hv']
  exact act_whenRunning_concluded hr.1

/-- The control word of a descriptor that is not queued arms nothing. -/
theorem turnArmed_regSet_free {h : Bool} {d : Nat} {s : State} (hd : d ∉ (bandOf s h).order) (ctl : Word) : turnArmed (regSet (txdAddr h d 0) ctl s) h = turnArmed s h := by
  have hmode : ∀ e ∈ (bandOf s h).order, txdMode (regSet (txdAddr h d 0) ctl s) h e = txdMode s h e := fun e he => by
    have hed : e ≠ d := fun heq => hd (heq ▸ he)
    have hne : txdAddr h e 0 ≠ txdAddr h d 0 := by unfold txdAddr; omega
    rw [txdMode, regFld, regGet_regSet_ne hne]
    rfl
  rw [Bool.eq_iff_iff]
  simp only [turnArmed, List.any_eq_true, bandOf_regSet]
  exact exists_congr fun e => and_congr_right fun he => by rw [hmode e he]

/-- The first TURN descriptor of a band forgets the turnaround that stands: it waits for a frame that ends after it was queued (R148). -/
theorem queueDesc_firstTurn {h : Bool} {d : Nat} {ctl : Word} {s : State} (hd : DescFree h d s) (hv : wbit ctl 0 = true) (hm : wfld ctl 1 2 = 2) (ha : turnArmed s h = false) :
    (bandOf (queueDesc h d ctl s) h).turn = false := by
  obtain ⟨ho, hs⟩ := hd
  have hfree : ((bandOf s h).order.contains d || (bandOf s h).sending == some d) = false := by simp [ho, hs]
  simp only [queueDesc, hfree, hv, hm, turnArmed_regSet_free ho, ha]
  simp [setTxStat, regPutFld]

/-- In Noon, descriptor 1 of Band L is queued ASAP with a turnaround standing: it was queued as TURN, a frame with a valid CRC ended, and then its control word was
written anew. -/
def turnForgone : State :=
  regSet (txdAddr false 1 0) 0x21 { State.reset with
    power := { Power.reset with state := .noon, stage := .done, pll := true, vddioOk := true }
    link := { HostLink.reset with answers := true }
    rad := { Radio.reset with l1 := .rx, l2 := .rx, bandL := { Band.reset with order := [1], turn := true } } }

theorem turnForgone_runs : Runs turnForgone := ⟨by decide +kernel, by decide +kernel, by decide +kernel, by decide +kernel, rfl⟩

theorem turnForgone_unarmed : turnArmed (fresh turnForgone) false = false := by decide +kernel

end Sys2Proof.Machine

open Sys2Proof Sys2Proof.Machine

/-- Refutes O47: the clause for a descriptor that joins the order leaves the rest of its band as it was, the turnaround that stands with it. A TURN descriptor waits for a frame that ends after it was
queued, so where none was armed the turnaround is forgotten (`queueDesc_firstTurn`): as in `turnForgone`. -/
theorem not_radioTransmits : ¬ Obligations.RadioTransmits := by
  unfold Obligations.RadioTransmits
  rintro ⟨hqueue, -⟩
  have hgood : valueGood turnForgone (txdAddr false 0 0) 0x25 = true := by decide +kernel
  obtain ⟨t, hx, -, -, -, hband, -⟩ := hqueue turnForgone false 0 0x25 turnForgone_runs hgood (by decide) (by decide) (by decide)
  obtain ⟨u, hu, hc⟩ := exec_txDescriptorQueue_concluded (h := false) (d := 0) turnForgone_runs hgood
  obtain rfl := Host.Outcome.next.inj (hx.symm.trans hu)
  have hstands : (bandOf t false).turn = true := by rw [hband]; rfl
  have hforgotten : (bandOf t false).turn = false := by
    rw [bandOf, hc.rad]
    exact queueDesc_firstTurn (h := false) ⟨by decide, by decide⟩ (by decide) (by decide) turnForgone_unarmed
  rw [hforgotten] at hstands
  cases hstands

end

section
/-! A calibration asked for again while it still waits for its gap (R157, R170): it waits once. -/
namespace Sys2Proof.Machine

/-- With no gap on both bands and no receiver to recalibrate, what waits goes on waiting. -/
theorem runGaps_waits {s : State} (hg : radioFree s = false) (ha : s.rad.rxA.recalPend = false) (hb : s.rad.rxB.recalPend = false) (hh : s.rad.rxH.recalPend = false) :
    runGaps s = s := by
  have hrx : ∀ r, (rxOf s r).recalPend = false := fun r => by
    unfold rxOf
    split_ifs <;> assumption
  unfold runGaps
  cases hc : s.rad.calDue with
  | nil => simp [hrx]
  | cons due l => simp [hg, hrx]

/-- START of a calibration that waits already is the same as asking whether its gap has come. -/
theorem calStart_asked {k : CalKind} {s : State} (h : s.rad.calDue.any (·.1 == k) = true) (m : CalMeas) : calStart k m s = runGaps s := by
  simp only [calStart, modRad, h, if_true]

/-- START of a calibration that waits already, with no gap, changes nothing. -/
theorem exec_rflCalStart_asked {h : Bool} {s : State} (hr : Runs s) (hk : s.rad.calDue.any (·.1 == if h then .bandH else .full) = true) (hg : radioFree s = false)
    (ha : s.rad.rxA.recalPend = false) (hb : s.rad.rxB.recalPend = false) (hh : s.rad.rxH.recalPend = false) (m : CalMeas) :
    exec (.rflCalStart h m) s = .next (fresh s) := by
  have hstart : calStart (if h then .bandH else .full) m (fresh s) = fresh s := (calStart_asked (s := fresh s) hk m).trans (runGaps_waits (s := fresh s) hg ha hb hh)
  have hf : whenRunning (calStart (if h then .bandH else .full) m) (fresh s) = fresh s := (if_pos hr.1).trans hstart
  exact (act_quiet (whenRunning (calStart (if h then .bandH else .full) m)) s (by rw [hf]; exact fresh_linkInv hr.2) (by rw [hf]; rfl)).trans (by rw [hf])

/-- In Noon a frame is in progress on RX-A, and a calibration that was asked for waits for its end. -/
def calAsked : State :=
  { State.reset with
    power := { Power.reset with state := .noon, stage := .done, pll := true, vddioOk := true }
    link := { HostLink.reset with answers := true }
    rad := { Radio.reset with l1 := .rx, l2 := .rx, hTx := .idle, hRx := .rx, rxA := { Radio.reset.rxA with frame := true }, calDue := [(.full, noMeas)] } }

theorem calAsked_runs : Runs calAsked := ⟨by decide +kernel, by decide +kernel, by decide +kernel, by decide +kernel, rfl⟩

theorem calAsked_noGap : radioFree calAsked = false := by decide +kernel

end Sys2Proof.Machine

open Sys2Proof Sys2Proof.Machine

/-- Refutes O48: the clause for a calibration that finds no gap puts it behind those that wait, whichever they are. One that waits already is not asked for twice (`calStart`): in `calAsked` the list
stays as it is. -/
theorem not_radioReceives : ¬ Obligations.RadioReceives := by
  unfold Obligations.RadioReceives
  rintro ⟨-, -, -, -, -, -, -, hwaits, -⟩
  have hstated := hwaits calAsked false noMeas calAsked_runs calAsked_noGap
  have hmodel := exec_rflCalStart_asked (h := false) calAsked_runs rfl calAsked_noGap rfl rfl rfl noMeas
  have hlist := congrArg (fun t : State => t.rad.calDue.length) (Host.Outcome.next.inj (hmodel.symm.trans hstated))
  exact absurd hlist (by decide)

end

section
/-! A PDU that meets the checks of R211 reaches the step of its type. -/
namespace Sys2Proof.Machine

/-- The state in which a PDU's step runs: SEQ has moved on, but not by a HELLO, and the link is up on the PDU's medium (R208, R211; log 141). -/
def pduHeard (type : Nat) (p : CplPdu) (s : State) : State :=
  modUnit (p.unit.val + 1) (fun c => { c with linkUp := true, j2497 := p.j2497 })
    (if type = 1 then s else modUnit (p.unit.val + 1) (fun c => { c with seqRx := p.seq.toNat + 1 }) s)

theorem cplReceive_good {type : Nat} {p : CplPdu} {s : State} (h : PduGood type p s) (step : Nat → CplPdu → State → State) :
    cplReceive type p step (fresh s) = step (p.unit.val + 1) p (pduHeard type p (fresh s)) := by
  have hunit : (cplUnits (fresh s)).contains (p.unit.val + 1) = true := h.unit
  have hmedium : cplOnMedium (fresh s) p = true := h.medium
  have hsize := h.size
  have hflags := h.flags
  have hseq : ¬ (type ≠ 1 ∧ p.seq.toNat < (unitOf (fresh s) (p.unit.val + 1)).seqRx) := fun ⟨ht, hlt⟩ => absurd (h.seq ht) (Nat.not_le.2 hlt)
  unfold cplReceive
  dsimp only
  rw [if_neg (by rw [hunit, hmedium]; decide), if_neg (by omega), if_neg, if_neg hseq]
  · rfl
  · intro hm
    rw [Bool.and_eq_true] at hm
    obtain ⟨hneeded, hbad⟩ := hm
    obtain ⟨hf, k, hk, he⟩ := h.mac hneeded
    have hk' : sessionKey (fresh s) (p.unit.val + 1) 0 = some k := hk
    simp [hf, hk', he] at hbad

/-- What the event of a good PDU leaves is what its step makes, but for the end of the command. -/
theorem act_cplReceive {type : Nat} {p : CplPdu} {s : State} (h : PduGood type p s) (step : Nat → CplPdu → State → State) :
    ∃ t, act (whenAwake (cplReceive type p step)) s = .next t ∧ Concluded (step (p.unit.val + 1) p (pduHeard type p (fresh s))) t := by
  obtain ⟨t, hx, hc⟩ := act_concluded (whenAwake (cplReceive type p step)) s
  have ha : awake (fresh s) = true := h.awake
  rw [whenAwake, if_pos ha, cplReceive_good h] at hc
  exact ⟨t, hx, hc⟩

namespace Concluded

theorem cpl {s t : State} (h : Concluded s t) : t.cpl = s.cpl := by rw [h.rest]

theorem unitOf {s t : State} (h : Concluded s t) (u : Nat) : unitOf t u = Machine.unitOf s u := by rw [Machine.unitOf, h.cpl, ← Machine.unitOf]

end Concluded

end Sys2Proof.Machine
end

section
/-! The partner's HELLO after the own one was resent (R209, R212, R214): the next step has its first timeout before it. -/
namespace Sys2Proof.Machine

/-- In Noon, a trailer's HELLO has gone out twice, and the tractor's has not come yet. -/
def helloResent : State :=
  { State.reset with
    power := { Power.reset with state := .noon, stage := .done, pll := true, vddioOk := true }
    link := { HostLink.reset with answers := true }
    cfg := { ConfigItems.reset with role := .trailer }
    cpl := { CouplingSet.reset with units := [{ Coupling.reset 1 with state := .handshake, waiting := .hello, resent := true }, .reset 2, .reset 3] } }

/-- A tractor's HELLO. -/
def helloAnswer : CplPdu := { unit := 0, j2497 := false, flags := 0, seq := 0, payload := zeros 16 ++ [1, 1, 0, 3], mac := [] }

theorem helloResent_linkInv : helloResent.LinkInv := ⟨by decide +kernel, by decide +kernel, by decide +kernel, rfl⟩

theorem helloAnswer_good : PduGood 1 helloAnswer helloResent where
  awake := rfl
  inv := helloResent_linkInv
  unit := rfl
  medium := by decide +kernel
  kept := rfl
  size := by decide
  flags := by decide
  mac := fun h => absurd h (by decide +kernel)
  seq := fun h => absurd rfl h

/-- Awaiting CERT, the trailer has resent nothing yet. -/
theorem helloAnswer_taken : (unitOf (cplHello 1 helloAnswer (pduHeard 1 helloAnswer (fresh helloResent))) 1).resent = false := by decide +kernel

end Sys2Proof.Machine

open Sys2Proof Sys2Proof.Machine

/-- Refutes O50: the clause for the HELLO that a trailer awaits leaves of the unit all but what it names, whether its own HELLO was resent with it. What is awaited next has its own first timeout
(`cplAwait`): in `helloResent` the mark goes. -/
theorem not_couplingHandshake : ¬ Obligations.CouplingHandshake := by
  unfold Obligations.CouplingHandshake
  rintro ⟨-, -, -, -, htaken, -⟩
  obtain ⟨t, hx, -, hunit, -⟩ := htaken helloResent helloAnswer helloAnswer_good rfl rfl rfl rfl (by decide) (by decide)
  obtain ⟨v, hv, hc⟩ := act_cplReceive helloAnswer_good cplHello
  obtain rfl := Host.Outcome.next.inj (hx.symm.trans hv)
  have hstands : (unitOf t 1).resent = true := congrArg Coupling.resent hunit
  have hgone : (unitOf t 1).resent = false := (congrArg Coupling.resent (hc.unitOf 1)).trans helloAnswer_taken
  rw [hgone] at hstands
  cases hstands

end

section
/-! A driver grant while DURATION_S is 0 (R80, R221): it is decided, and no release opens. -/
namespace Sys2Proof.Machine

/-- In Noon, a trailer's coupling of class OWN is TRUSTED, and ACC_REL_CFG has DURATION_S 0. -/
def grantNoDuration : State :=
  regSet 0x40060030 0 { State.reset with
    power := { Power.reset with state := .noon, stage := .done, pll := true, vddioOk := true }
    link := { HostLink.reset with answers := true }
    cfg := { ConfigItems.reset with role := .trailer }
    ks := { KeyStore.reset with slots := [mkSlot 0 (newHeader State.reset 5 4 2 true 0 0 1) 1 4 (zeros 16) none] }
    cpl := { CouplingSet.reset with units := [{ Coupling.reset 1 with state := .trusted, cls := 1, boundary := 6 }, .reset 2, .reset 3] } }

/-- A driver grant with GRANT_SEQ 1, before its MAC. -/
def grantPdu : CplPdu := { unit := 0, j2497 := false, flags := 2, seq := 0, payload := zeros 12 ++ [1, 0, 0, 0, 0], mac := [] }

/-- A PDU with its MAC (R211). -/
def pduMaced (type : Nat) (k : Bytes) (p : CplPdu) : CplPdu := { p with mac := (cmac k (cplPduHead type p)).take 8 }

theorem pduMaced_mac (type : Nat) (k : Bytes) (p : CplPdu) : (pduMaced type k p).mac = (cmac k (cplPduHead type (pduMaced type k p))).take 8 := rfl

/-- The driver grant under K_MAC of `grantNoDuration`. -/
def grantMaced : CplPdu := pduMaced 9 (zeros 16) grantPdu

theorem grantNoDuration_linkInv : grantNoDuration.LinkInv := ⟨by decide +kernel, by decide +kernel, by decide +kernel, rfl⟩

theorem grantMaced_good : PduGood 9 grantMaced grantNoDuration where
  awake := rfl
  inv := grantNoDuration_linkInv
  unit := rfl
  medium := by decide +kernel
  kept := rfl
  size := by decide
  flags := by decide
  mac := fun _ => ⟨rfl, zeros 16, by decide +kernel, pduMaced_mac 9 (zeros 16) grantPdu⟩
  seq := fun _ => Nat.zero_le _

theorem grantMaced_opens_nothing : (cplGrant 1 grantMaced (pduHeard 9 grantMaced (fresh grantNoDuration))).acc.release.active = false := by decide +kernel

end Sys2Proof.Machine

open Sys2Proof Sys2Proof.Machine

/-- Refutes O51: the clause for a driver grant that is decided at once has its release stand afterwards, whatever DURATION_S is. A DURATION_S of 0 opens no release (`openRelease`), as in
`grantNoDuration`. -/
theorem not_couplingService : ¬ Obligations.CouplingService := by
  unfold Obligations.CouplingService
  rintro ⟨-, -, -, -, -, -, -, hgrant, -⟩
  obtain ⟨t, hx, -, hactive, -⟩ := hgrant grantNoDuration grantMaced grantMaced_good rfl rfl rfl (by decide +kernel) rfl (by decide) (by decide +kernel) rfl rfl (by decide +kernel)
    (by decide +kernel) (by decide +kernel) rfl rfl rfl
  obtain ⟨v, hv, hc⟩ := act_cplReceive grantMaced_good cplGrant
  obtain rfl := Host.Outcome.next.inj (hx.symm.trans hv)
  have hnone : t.acc.release.active = false := (congrArg (fun a : Access => a.release.active) hc.acc).trans grantMaced_opens_nothing
  rw [hnone] at hactive
  cases hactive

end

section
/-! One coupling changed among the three, and the session slots (R207, R213). -/
namespace Sys2Proof.Machine

/-! ### Units -/

/-- A unit read after a unit was changed in a way that keeps its number. -/
theorem find_modUnit {u : Nat} {f : Coupling → Coupling} (hf : ∀ c, c.unit = u → (f c).unit = u) (v : Nat) (s : State) :
    (modUnit u f s).cpl.units.find? (·.unit == v) = (s.cpl.units.find? (·.unit == v)).map fun c => if c.unit == u then f c else c := by
  have hp : ((fun c : Coupling => c.unit == v) ∘ fun c => if c.unit == u then f c else c) = fun c => c.unit == v := by
    funext c
    by_cases hc : c.unit = u <;> simp [hc, hf]
  simp only [modUnit, modAll, List.find?_map, hp]

theorem unitOf_modUnit_ne {u v : Nat} {f : Coupling → Coupling} (h : v ≠ u) (hf : ∀ c, c.unit = u → (f c).unit = u) (s : State) : unitOf (modUnit u f s) v = unitOf s v := by
  rw [unitOf, find_modUnit hf, unitOf]
  cases hc : s.cpl.units.find? (·.unit == v) with
  | none => rfl
  | some c =>
    have hv : c.unit = v := by simpa using List.find?_some hc
    simp [hv, h]

/-- The unit is one of those that the part holds. -/
def HasUnit (u : Nat) (s : State) : Prop := u ∈ s.cpl.units.map (·.unit)

theorem hasUnit_modUnit {u v : Nat} {f : Coupling → Coupling} {s : State} (hf : ∀ c, c.unit = u → (f c).unit = u) (h : HasUnit v s) : HasUnit v (modUnit u f s) := by
  have hm : (modUnit u f s).cpl.units.map (·.unit) = s.cpl.units.map (·.unit) := by
    simp only [modUnit, modAll, List.map_map]
    refine List.map_congr_left fun c _ => ?_
    by_cases hc : c.unit = u <;> simp [hc, hf]
  rw [HasUnit, hm]
  exact h

theorem unitOf_modUnit {u : Nat} {f : Coupling → Coupling} {s : State} (h : HasUnit u s) (hf : ∀ c, c.unit = u → (f c).unit = u) :
    unitOf (modUnit u f s) u = f (unitOf s u) := by
  rw [unitOf, find_modUnit hf, unitOf]
  cases hc : s.cpl.units.find? (·.unit == u) with
  | none =>
    obtain ⟨c, hm, hu⟩ := List.mem_map.1 h
    simpa [hu] using List.find?_eq_none.1 hc c hm
  | some c =>
    have hu : c.unit = u := by simpa using List.find?_some hc
    simp [hu]

/-- Nothing that reads the couplings alone sees whether their state holds more. -/
theorem unitOf_congr {s t : State} (h : t.cpl = s.cpl) (u : Nat) : unitOf t u = unitOf s u := by rw [unitOf, h, ← unitOf]

theorem hasUnit_congr {s t : State} (h : t.cpl = s.cpl) (u : Nat) : HasUnit u t ↔ HasUnit u s := by rw [HasUnit, HasUnit, h]

/-- Changes of one unit, one after the other, are one change of it. -/
theorem modUnit_modUnit {u : Nat} {f : Coupling → Coupling} (g : Coupling → Coupling) (hf : ∀ c, c.unit = u → (f c).unit = u) (s : State) :
    modUnit u g (modUnit u f s) = modUnit u (fun c => g (f c)) s := by
  have hl : modAll (·.unit == u) g (modAll (·.unit == u) f s.cpl.units) = modAll (·.unit == u) (fun c => g (f c)) s.cpl.units := by
    simp only [modAll, List.map_map]
    refine List.map_congr_left fun c _ => ?_
    by_cases hc : c.unit = u <;> simp [hc, hf]
  simp only [modUnit, hl]

/-! ### Session slots -/

theorem slotOf_dropSlot (i j : Nat) (s : State) : slotOf (dropSlot i s) j = if j = i then none else slotOf s j := by
  simp only [slotOf, dropSlot]
  split
  · rename_i h
    simp [h]
  · rename_i h
    rw [List.find?_filter]
    congr 1
    funext x
    by_cases hx : x.index = j <;> simp [hx, h]

theorem sessionKey_congr {s t : State} (h : t.ks.slots = s.ks.slots) (u j : Nat) : sessionKey t u j = sessionKey s u j := by
  rw [sessionKey, slotOf, h, ← slotOf, ← sessionKey]

/-- The session keys of a unit, zeroised. -/
theorem sessionKey_dropSession {u j : Nat} (h : j < 3) (s : State) : sessionKey (dropSession u s) u j = none := by
  have hd : dropSession u s = dropSlot (sessionSlot u 2) (dropSlot (sessionSlot u 1) (dropSlot (sessionSlot u 0) s)) := rfl
  rw [hd]
  interval_cases j <;> simp [sessionKey, slotOf_dropSlot]

theorem dropSession_cpl (u : Nat) (s : State) : (dropSession u s).cpl = s.cpl := rfl

/-- The immobiliser's slot is none of the units' (R279). -/
theorem sessionKey_dropSlot_nine {u j : Nat} (hu : u ≤ 3) (hj : j < 3) (s : State) : sessionKey (dropSlot 9 s) u j = sessionKey s u j := by
  rw [sessionKey, slotOf_dropSlot, if_neg (by unfold sessionSlot; omega), sessionKey]

end Sys2Proof.Machine
end

section
/-! What an operation that is not the couplings' own leaves of them: their records, the session slots, sensors, access, the role, CPL_CFG; no outward signal is lost. -/
namespace Sys2Proof.Machine

/-- `t` has the couplings, slots, sensors, access state, CONFIG items and CPL_CFG of `s`, and every outward signal of it. -/
structure RigKept (s t : State) : Prop where
  cpl : t.cpl = s.cpl := by rfl
  slots : t.ks.slots = s.ks.slots := by rfl
  sns : t.sns = s.sns := by rfl
  acc : t.acc = s.acc := by rfl
  cfg : t.cfg = s.cfg := by rfl
  config : regGet t 0x40070000 = regGet s 0x40070000 := by rfl
  emit : ∀ e ∈ s.emit, e ∈ t.emit := by exact fun _ h => h

namespace RigKept

theorem refl (s : State) : RigKept s s := {}

/-- A last step after what went before it. -/
theorem after {s t u : State} (k : RigKept t u) (h : RigKept s t) : RigKept s u :=
  ⟨k.cpl.trans h.cpl, k.slots.trans h.slots, k.sns.trans h.sns, k.acc.trans h.acc, k.cfg.trans h.cfg, k.config.trans h.config, fun e he => k.emit e (h.emit e he)⟩

theorem ite {s t u : State} {c : Prop} [Decidable c] (h : c → RigKept s t) (k : ¬ c → RigKept s u) : RigKept s (if c then t else u) := by
  split
  · exact h ‹_›
  · exact k ‹_›

theorem foldl {α : Type} {f : State → α → State} (h : ∀ s x, RigKept s (f s x)) (l : List α) (s : State) : RigKept s (l.foldl f s) := by
  induction l generalizing s with
  | nil => exact refl s
  | cons x l ih => exact (ih _).after (h s x)

theorem of_stirred {s t : State} (h : Stirred s t) : RigKept s t :=
  ⟨h.cpl, by rw [h.ks], h.sns, h.acc, h.cfg, h.regs _ (by decide), fun e he => by rwa [h.emit]⟩

theorem of_concluded {s t : State} (h : Concluded s t) : RigKept s t :=
  ⟨h.cpl, by rw [h.rest], h.sns, h.acc, h.cfg, by rw [regGet, h.regs, ← regGet], h.emit⟩

/-! What is read of the couplings. -/

theorem unitOf {s t : State} (h : RigKept s t) (u : Nat) : unitOf t u = Machine.unitOf s u := unitOf_congr h.cpl u
theorem hasUnit {s t : State} (h : RigKept s t) {u : Nat} (hu : HasUnit u s) : HasUnit u t := (hasUnit_congr h.cpl u).2 hu
theorem sessionKey {s t : State} (h : RigKept s t) (u j : Nat) : sessionKey t u j = Machine.sessionKey s u j := sessionKey_congr h.slots u j
theorem roleOf {s t : State} (h : RigKept s t) : roleOf t = Machine.roleOf s := by rw [Machine.roleOf, h.cfg, ← Machine.roleOf]
theorem cfgFld {s t : State} (h : RigKept s t) (lo n : Nat) : regFld t 0x40070000 lo n = regFld s 0x40070000 lo n := by rw [regFld, h.config, ← regFld]

/-! The couplings' own steps on both sides. -/

theorem modUnit {s t : State} (h : RigKept s t) (u : Nat) (f : Coupling → Coupling) : RigKept (modUnit u f s) (modUnit u f t) :=
  { cpl := by simp only [Machine.modUnit, h.cpl], slots := h.slots, sns := h.sns, acc := h.acc, cfg := h.cfg, config := h.config, emit := h.emit }

theorem dropSlot {s t : State} (h : RigKept s t) (i : Nat) : RigKept (dropSlot i s) (dropSlot i t) :=
  { cpl := h.cpl, slots := by simp only [Machine.dropSlot, h.slots], sns := h.sns, acc := h.acc, cfg := h.cfg, config := h.config, emit := h.emit }

end RigKept

/-! ### Registers, events, fault records -/

theorem regSet_rigKept {a : Nat} (ha : 0x40070000 ≠ a) (v : Word) (s : State) : RigKept s (regSet a v s) := { config := regGet_regSet_ne ha v s }

theorem regPutFld_rigKept {a : Nat} (ha : 0x40070000 ≠ a) (lo n v : Nat) (s : State) : RigKept s (regPutFld a lo n v s) := regSet_rigKept ha _ s

theorem regInc_rigKept {a : Nat} (ha : 0x40070000 ≠ a) (n : Nat) (s : State) : RigKept s (regInc a n s) := regSet_rigKept ha _ s

theorem raise_rigKept {a : Nat} (ha : 0x40070000 ≠ a) (bits : Nat) (s : State) : RigKept s (raise a bits s) := by
  obtain ⟨e, he⟩ := raise_eng a bits s
  rw [he]
  exact .after (t := regOr a bits s) {} (regSet_rigKept ha _ s)

theorem hostEvent_rigKept (code : Byte) (payload : Bytes) (s : State) : RigKept s (hostEvent code payload s) := .of_stirred (hostEvent_stirred code payload s)

theorem emitOut_rigKept (e : Emission) (s : State) : RigKept s (emitOut e s) := { emit := fun _ h => List.mem_append_left _ h }

theorem generate_rigKept (n : Nat) (s : State) : RigKept s (generate n s) := by
  unfold generate
  dsimp only
  exact .ite (fun _ => .after (raise_rigKept (by decide) _ _) (.after (regInc_rigKept (by decide) 16 _) {})) fun _ => {}

theorem fault_rigKept (det sev unit action flags : Nat) (info : Word) (s : State) : RigKept s (fault det sev unit action flags info s) := by
  unfold fault
  dsimp only
  exact .ite (fun _ => regInc_rigKept (by decide) 16 s) fun _ => .after (hostEvent_rigKept _ _ _) (.after (raise_rigKept (by decide) _ _) {})

theorem raiseNvm_rigKept (bits : Nat) (s : State) : RigKept s (raiseNvm bits s) := by
  unfold raiseNvm
  exact .after (hostEvent_rigKept _ _ _) (raise_rigKept (by decide) _ s)

/-! ### Commits, the end of work, handles -/

theorem commitTell_rigKept (page : Option Nat) (old new : PageMeta) (s : State) : RigKept s (commitTell page old new s) := by
  unfold commitTell
  dsimp only
  refine .after (.ite (fun _ => ?_) fun _ => .refl _) (regInc_rigKept (by decide) 32 s)
  refine .after (raiseNvm_rigKept _ _) (.after (fault_rigKept _ _ _ _ _ _ _) (.after (regSet_rigKept (by decide) _ _) ?_))
  cases page <;> exact {}

theorem jrnCommit_rigKept (unit : Nat) (s : State) : RigKept s (jrnCommit unit s) := by
  unfold jrnCommit
  dsimp only
  exact .ite (fun _ => .refl s) fun _ => .after (commitTell_rigKept _ _ _ _) {}

theorem pageCommit_rigKept (page : Nat) (whole : Bool) (rb : ReadBack) (s : State) : RigKept s (pageCommit page whole rb s) := by
  unfold pageCommit
  dsimp only
  exact .after (commitTell_rigKept _ _ _ _) (.after (.ite (fun _ => regSet_rigKept (by decide) _ _) fun _ => .refl _) {})

theorem setPort_rigKept (p : VPort) (x : PortState) (s : State) : RigKept s (setPort p x s) := .of_stirred (setPort_stirred p x s)

theorem queueComplete_rigKept (w : Work) (s : State) : RigKept s (queueComplete w s) :=
  .ite (fun _ => .refl s) fun _ => .ite (fun _ => setPort_rigKept _ _ s) fun _ => .refl s

theorem recordDone_rigKept (w : Work) (s : State) : RigKept s (recordDone w s) := .after (jrnCommit_rigKept _ _) (.after (jrnCommit_rigKept _ _) {})

theorem finishWork_rigKept (seq : Nat) (status : Byte) (result : Bytes) (s : State) : RigKept s (finishWork seq status result s) := by
  unfold finishWork
  split
  · exact .refl s
  · exact .after (queueComplete_rigKept _ _) (recordDone_rigKept _ s)

theorem finishLoose_rigKept (seq : Nat) (status : Byte) (result : Bytes) (s : State) : RigKept s (finishLoose seq status result s) := by
  unfold finishLoose
  split
  · exact .refl s
  · exact .after (queueComplete_rigKept _ _) {}

theorem finishAny_rigKept (work loose : Option Nat) (status : Byte) (result : Bytes) (s : State) : RigKept s (finishAny work loose status result s) := by
  unfold finishAny
  split
  · exact finishWork_rigKept _ _ _ s
  · exact finishLoose_rigKept _ _ _ s
  · exact .refl s

theorem writeHalf_rigKept (n : Nat) (isB : Bool) (blob : Bytes) (s : State) : RigKept s (writeHalf n isB blob s) := .after (pageCommit_rigKept _ _ _ _) {}

theorem retireHalf_rigKept (n : Nat) (isB : Bool) (s : State) : RigKept s (retireHalf n isB s) := .ite (fun _ => .refl s) fun _ => writeHalf_rigKept n isB [] s

theorem destroyHandle_rigKept (n : Nat) (s : State) : RigKept s (destroyHandle n s) := by
  unfold destroyHandle
  split
  · exact .after (retireHalf_rigKept n true _) (retireHalf_rigKept n false s)
  · exact .after (retireHalf_rigKept n false _) (retireHalf_rigKept n true s)

/-! ### Ranging and the radio -/

theorem tminApply_rigKept (s : State) : RigKept s (tminApply s) := by
  unfold tminApply
  split
  · exact .ite (fun _ => .refl s) fun _ => {}
  · exact {}

theorem rbeEnd_rigKept (s : State) : RigKept s (rbeEnd s) := by
  unfold rbeEnd
  dsimp only
  refine .after (tminApply_rigKept _) (.after (.of_stirred (runGaps_stirred _)) (.after (.ite (fun _ => .refl _) fun _ => .of_stirred (setChain_stirred _ _ _)) ?_))
  exact .after (.of_stirred (retryBand_stirred true _)) (.after (.foldl (fun s _ => .ite (fun _ => .of_stirred (setChain_stirred _ _ s)) fun _ => .refl s) _ _) {})

theorem rbeResult_rigKept (res bound : Nat) (s : State) : RigKept s (rbeResult res bound s) := .after (raise_rigKept (by decide) _ _) (regSet_rigKept (by decide) _ s)

theorem rbeAbort_rigKept (s : State) : RigKept s (rbeAbort s) := by
  unfold rbeAbort
  split
  · exact .ite (fun _ => .after (rbeEnd_rigKept _) (.after (rbeResult_rigKept _ _ _) {})) fun _ => {}
  · exact {}

/-- No register of a receiver or of its synthesiser is CPL_CFG. -/
theorem rxAddr_ne_cplCfg (r : Nat) {off : Nat} (h : off < 0x1000) : 0x40070000 ≠ rxAddr r off := by
  unfold rxAddr
  split_ifs <;> omega

theorem setFrame_rigKept (r : Nat) (f : AirFrame) (s : State) : RigKept s (setFrame r f s) := by
  have hcfg : 0x40070000 ≠ rxAddr r 0 := rxAddr_ne_cplCfg r (by decide)
  have hput : ∀ lo n v t, RigKept s t → RigKept s (regPutFld (rxAddr r 0) lo n v t) := fun lo n v t h => .after (regPutFld_rigKept hcfg lo n v t) h
  unfold setFrame
  refine .ite (fun _ => ?_) fun _ => ?_
  · exact .after (regSet_rigKept (by decide) _ _) (hput _ _ _ _ (hput _ _ _ _ (hput _ _ _ _ (hput _ _ _ _ (.refl s)))))
  · refine .after (regSet_rigKept (rxAddr_ne_cplCfg r (by decide)) _ _) ?_
    exact hput _ _ _ _ (hput _ _ _ _ (hput _ _ _ _ (hput _ _ _ _ (hput _ _ _ _ (hput _ _ _ _ (hput _ _ _ _ (.refl s)))))))

theorem tuneRx_rigKept (r freq : Nat) (f : AirFrame) (s : State) : RigKept s (tuneRx r freq f s) := by
  unfold tuneRx
  refine .after (.of_stirred (rxCfgWrite_stirred r _)) (.after (setFrame_rigKept r f _) (.after (.of_stirred (commitSyn_stirred _ _)) (.after (regSet_rigKept ?_ _ _)
    (.ite (fun _ => .refl s) fun _ => regSet_rigKept ?_ _ s))))
  all_goals split_ifs <;> decide

theorem sensorListen_rigKept (r : Nat) (s : State) : RigKept s (sensorListen r s) := .ite (fun _ => .refl s) fun _ => tuneRx_rigKept _ _ _ s

theorem disarm_rigKept (r : Nat) (s : State) : RigKept s (disarm r s) := by
  unfold disarm
  refine .after (sensorListen_rigKept r _) (.after (.of_stirred (runGaps_stirred _)) (.after (.of_stirred (rngAir_stirred _ _)) ?_))
  obtain ⟨g, hg⟩ := bandLSteps_rng (regPutFld (rxAddr r 0x10) 0 1 0 (modRx r (fun x => { x with winOpen := false }) s))
  rw [hg]
  exact .after (t := regPutFld (rxAddr r 0x10) 0 1 0 (modRx r (fun x => { x with winOpen := false }) s)) {}
    (.after (regPutFld_rigKept (rxAddr_ne_cplCfg r (by decide)) _ _ _ _) {})

end Sys2Proof.Machine
end

section
/-! The transport of coupling PDUs: its runs, and what its frames leave (R510, R513). -/
namespace Sys2Proof.Machine

theorem tpRunOf_congr {s t : State} (h : t.bus.tp = s.bus.tp) (u : Nat) (plc sending : Bool) : tpRunOf t u plc sending = tpRunOf s u plc sending := by
  rw [tpRunOf, h, ← tpRunOf]

theorem tpRunOf_tpDrop (u : Nat) (plc sending : Bool) (s : State) : tpRunOf (tpDrop u plc sending s) u plc sending = none := by
  rw [tpRunOf, List.find?_eq_none]
  intro r hr
  exact Bool.not_eq_true _ ▸ (Bool.not_eq_eq_eq_not.1 (List.mem_filter.1 hr).2)

theorem tpRunOf_tpPut (r : TpRun) (s : State) : tpRunOf (tpPut r s) r.unit r.onPlc r.sending = some r := by
  have hgone := tpRunOf_tpDrop r.unit r.onPlc r.sending s
  rw [tpRunOf] at hgone
  show ((tpDrop r.unit r.onPlc r.sending s).bus.tp ++ [r]).find? _ = some r
  rw [List.find?_append, hgone]
  simp

/-- A run that was found has the route and direction it was looked for by. -/
theorem tpRunOf_some {s : State} {u : Nat} {plc sending : Bool} {r : TpRun} (h : tpRunOf s u plc sending = some r) : r.unit = u ∧ r.onPlc = plc ∧ r.sending = sending := by
  simpa [and_assoc] using List.find?_some h

theorem tpFrame_tp (plc : Bool) (prio : Nat) (seg : Byte) (u : Nat) (body : Bytes) (s : State) : (tpFrame plc prio seg u body s).bus.tp = s.bus.tp := by
  cases plc <;> rfl

theorem tpFrame_rigKept (plc : Bool) (prio : Nat) (seg : Byte) (u : Nat) (body : Bytes) (s : State) : RigKept s (tpFrame plc prio seg u body s) := by
  unfold tpFrame
  dsimp only
  exact .ite (fun _ => {}) fun _ => .after (emitOut_rigKept _ _) (regInc_rigKept (by decide) 16 s)

theorem tpSend_rigKept (r : TpRun) (a b : Nat) (s : State) : RigKept s (tpSend r a b s) := .foldl (fun s _ => tpFrame_rigKept _ _ _ _ _ s) _ s

theorem tpSend_tp (r : TpRun) (a b : Nat) (s : State) : (tpSend r a b s).bus.tp = s.bus.tp := by
  unfold tpSend
  generalize (List.range (b + 1 - a)).map (a + ·) = l
  induction l generalizing s with
  | nil => rfl
  | cons i l ih => exact (ih _).trans (tpFrame_tp _ _ _ _ _ s)

theorem tpStart_rigKept (u : Nat) (plc : Bool) (pdu : Bytes) (s : State) : RigKept s (tpStart u plc pdu s) := .after (tpSend_rigKept _ _ _ _) {}

end Sys2Proof.Machine
end

section
/-! The steps that every coupling operation is made of: what each makes of its unit (R209, R211, R214, R223, R225). -/
namespace Sys2Proof.Machine

/-- `t` is `s` with one unit changed by `f`, but for what is no coupling's own. -/
structure Moved (u : Nat) (f : Coupling → Coupling) (s t : State) : Prop where
  same : ∀ c, c.unit = u → (f c).unit = u
  kept : RigKept (modUnit u f s) t

namespace Moved

/-- Two changes of the unit, one after the other. -/
theorem andThen {u : Nat} {f g : Coupling → Coupling} {s t r : State} (h : Moved u f s t) (k : Moved u g t r) : Moved u (fun c => g (f c)) s r :=
  ⟨fun c hc => k.same _ (h.same c hc), modUnit_modUnit g h.same s ▸ .after k.kept (h.kept.modUnit u g)⟩

theorem before {u : Nat} {f : Coupling → Coupling} {s t r : State} (h : Moved u f s t) (k : RigKept t r) : Moved u f s r := ⟨h.same, .after k h.kept⟩

theorem behind {u : Nat} {f : Coupling → Coupling} {s t r : State} (h : Moved u f t r) (k : RigKept s t) : Moved u f s r := ⟨h.same, .after h.kept (k.modUnit u f)⟩

theorem unitOf {u : Nat} {f : Coupling → Coupling} {s t : State} (h : Moved u f s t) (hu : HasUnit u s) : unitOf t u = f (Machine.unitOf s u) :=
  (h.kept.unitOf u).trans (unitOf_modUnit hu h.same)

theorem unitOf_eq {u : Nat} {f : Coupling → Coupling} {s t : State} {c : Coupling} (h : Moved u f s t) (hu : HasUnit u s) (hc : Machine.unitOf s u = c) : Machine.unitOf t u = f c :=
  hc ▸ h.unitOf hu

theorem sessionKey {u v j : Nat} {f : Coupling → Coupling} {s t : State} (h : Moved u f s t) : Machine.sessionKey t v j = Machine.sessionKey s v j :=
  sessionKey_congr (s := s) h.kept.slots v j

theorem sensors {u : Nat} {f : Coupling → Coupling} {s t : State} (h : Moved u f s t) : t.sns = s.sns := h.kept.sns

theorem others {u v : Nat} {f : Coupling → Coupling} {s t : State} (h : Moved u f s t) (hv : v ≠ u) : Machine.unitOf t v = Machine.unitOf s v :=
  (h.kept.unitOf v).trans (unitOf_modUnit_ne hv h.same s)

theorem hasUnit {u v : Nat} {f : Coupling → Coupling} {s t : State} (h : Moved u f s t) (hv : HasUnit v s) : HasUnit v t := h.kept.hasUnit (hasUnit_modUnit h.same hv)

end Moved

theorem modUnit_moved {u : Nat} {f : Coupling → Coupling} (hf : ∀ c, c.unit = u → (f c).unit = u) (s : State) : Moved u f s (modUnit u f s) := ⟨hf, .refl _⟩

/-! ### A PDU goes out -/

/-- The bytes of a PDU as a unit sends it now (R211). -/
def pduSent (u type flags : Nat) (maced : Bool) (payload : Bytes) (s : State) : Bytes :=
  pduOf type flags (unitOf s u).seqTx payload (if maced then some ((sessionKey s u 0).getD (zeros 16)) else none)

theorem pduSent_head (u type flags : Nat) (maced : Bool) (payload : Bytes) (s : State) : (pduSent u type flags maced payload s).headD 0 = byte type := by
  cases maced <;> rfl

/-- The unit once a PDU has gone out (R211, R214). -/
def sentUnit (type : Nat) (pdu : Bytes) (c : Coupling) : Coupling :=
  { c with seqTx := c.seqTx + 1, lastPdu := if type ≤ 8 then pdu else c.lastPdu, resent := if type ≤ 8 then false else c.resent }

theorem cplSend_moved (u type flags : Nat) (maced : Bool) (payload : Bytes) (s : State) :
    Moved u (sentUnit type (pduSent u type flags maced payload s)) s (cplSend u type flags maced payload s) :=
  ⟨fun _ h => h, .after (tpStart_rigKept _ _ _ _) (emitOut_rigKept _ _)⟩

theorem mem_emitOut (e : Emission) (s : State) : e ∈ (emitOut e s).emit := List.mem_append_right _ (List.mem_singleton_self e)

theorem cplSend_emits (u type flags : Nat) (maced : Bool) (payload : Bytes) (s : State) :
    Emission.coupling u (pduSent u type flags maced payload s) ∈ (cplSend u type flags maced payload s).emit :=
  (tpStart_rigKept _ _ _ _).emit _ (mem_emitOut _ _)

/-! ### What an attempt holds is given up, a unit takes a state, a COUPLE is answered -/

/-- The unit that has given up what an attempt holds. -/
def clearedUnit (c : Coupling) : Coupling :=
  { c with
    waiting := .nothing, ownHello := [], peerHello := [], ownCert := [], peerCert := [], ephD := 0, ownEph := [], peerEph := [], transcript := [],
    ownPass := false, peerPass := false, rbeRetried := false, resent := false, lastPdu := [], macFails := [] }

theorem cplClear_moved (u : Nat) (s : State) : Moved u clearedUnit s (cplClear u s) := by
  have hdrop : ∀ d, RigKept s d → RigKept (modUnit u clearedUnit s) (modUnit u clearedUnit (tpDrop u true true (tpDrop u false true d))) := fun d h =>
    (RigKept.after (t := d) {} h).modUnit u clearedUnit
  refine ⟨fun _ h => h, hdrop _ ?_⟩
  split
  · exact .ite (fun _ => .after (t := rbeAbort s) {} (rbeAbort_rigKept s)) fun _ => .refl s
  · exact .refl s

/-- The unit in a state. -/
def inState (st : CplState) (c : Coupling) : Coupling := { c with state := st }

theorem cplState_moved (u : Nat) (st : CplState) (s : State) : Moved u (inState st) s (cplState u st s) :=
  ⟨fun _ h => h, .ite (fun _ => .refl _) fun _ => hostEvent_rigKept _ _ _⟩

/-- The unit on which no COUPLE waits. -/
def unasked (c : Coupling) : Coupling := { c with work := none, loose := none }

theorem coupleDone_moved (u : Nat) (status : Byte) (s : State) : Moved u unasked s (coupleDone u status s) := ⟨fun _ h => h, finishAny_rigKept _ _ _ _ _⟩

/-! ### A trailer's release that a coupling withdraws (R79, R221) -/

/-- The release that has ended with a cause. -/
def endedRelease (cause : Nat) (r : Release) : Release := { r with active := false, endCause := byte cause, driven := false, track := none, rbHist := [] }

theorem endRelease_spec {cause : Nat} {s : State} (hr : roleOf s = .trailer) (ha : s.acc.release.active = true) :
    RigKept (dropSlot 9 (modRel (endedRelease cause) s)) (endRelease cause s) := by
  have hend : ∀ d, RigKept (modRel (endedRelease cause) s) d →
      RigKept (dropSlot 9 (modRel (endedRelease cause) s)) (if roleOf (relEvent (dropSlot 9 d)) = .tractor ∧ s.acc.release.told then sendLeft (relEvent (dropSlot 9 d)) else relEvent (dropSlot 9 d)) :=
    fun d h => by
      have hev : RigKept (dropSlot 9 (modRel (endedRelease cause) s)) (relEvent (dropSlot 9 d)) := .after (hostEvent_rigKept _ _ _) (h.dropSlot 9)
      have hrole : roleOf (relEvent (dropSlot 9 d)) = .trailer := hev.roleOf.trans hr
      rw [hrole, if_neg fun h => by cases h.1]
      exact hev
  unfold endRelease
  simp only [ha, Bool.not_true, Bool.false_eq_true, if_false]
  refine hend _ ?_
  split
  · exact disarm_rigKept _ _
  · exact .refl _

theorem endRelease_none {cause : Nat} {s : State} (ha : s.acc.release.active = false) : endRelease cause s = s := by simp [endRelease, ha]

/-- What a coupling's end leaves of the couplings, whether it withdraws a release or not. -/
theorem cplRelease_leaves (s : State) : (cplRelease s).cpl = s.cpl ∧ (cplRelease s).sns = s.sns ∧ regGet (cplRelease s) 0x40070000 = regGet s 0x40070000 ∧
    ∀ u ≤ 3, ∀ j < 3, sessionKey (cplRelease s) u j = sessionKey s u j := by
  unfold cplRelease
  split
  · cases ha : s.acc.release.active with
    | false =>
      rw [endRelease_none ha]
      exact ⟨rfl, rfl, rfl, fun _ _ _ _ => rfl⟩
    | true =>
      have h := endRelease_spec (cause := 8) ‹roleOf s = .trailer› ha
      exact ⟨h.cpl, h.sns, h.config, fun u hu j hj => (h.sessionKey u j).trans (sessionKey_dropSlot_nine hu hj _)⟩
  · exact ⟨rfl, rfl, rfl, fun _ _ _ _ => rfl⟩

/-! ### The partner's keys and records go (R223) -/

/-- Nothing of a unit's partner is held: no session key, no record. -/
structure Parted (u : Nat) (s : State) : Prop where
  keys : ∀ j < 3, sessionKey s u j = none
  sensors : ∀ x ∈ s.sns.sensors, ¬ (x.state = .partner ∧ x.srcUnit = u)

theorem Parted.of_kept {u : Nat} {s t : State} (h : Parted u s) (k : RigKept s t) : Parted u t :=
  ⟨fun j hj => (k.sessionKey u j).trans (h.keys j hj), by rw [k.sns]; exact h.sensors⟩

theorem sessionKey_filterSlots {u j : Nat} {s : State} (p : Slot → Bool) (h : sessionKey s u j = none) :
    sessionKey { s with ks := { s.ks with slots := s.ks.slots.filter p } } u j = none := by
  simp only [sessionKey, slotOf, Option.map_eq_none_iff, List.find?_eq_none, List.mem_filter] at h ⊢
  exact fun x hx => h x hx.1

/-- A sensor record that is freed leaves the couplings and the slots. -/
theorem dropSensor_leaves (r : Nat) (s : State) :
    (dropSensor r s).cpl = s.cpl ∧ (dropSensor r s).ks.slots = s.ks.slots ∧ (dropSensor r s).sns.sensors = s.sns.sensors.filter (·.index != r) := by
  unfold dropSensor
  split
  · rename_i hx
    refine ⟨rfl, rfl, ?_⟩
    rw [List.filter_eq_self.2]
    intro x hm
    have hr : ¬ (x.index == r) = true := List.find?_eq_none.1 hx x hm
    simpa using hr
  · dsimp only
    split
    · have h := destroyHandle_rigKept (snsHandle r)
      exact ⟨(h _).cpl, (h _).slots, congrArg Sensing.sensors (h _).sns⟩
    · exact ⟨rfl, rfl, rfl⟩

theorem dropSensors_leave (l : List Nat) (s : State) :
    (l.foldl (fun s r => dropSensor r s) s).cpl = s.cpl ∧ (l.foldl (fun s r => dropSensor r s) s).ks.slots = s.ks.slots ∧
      ∀ x ∈ (l.foldl (fun s r => dropSensor r s) s).sns.sensors, x ∈ s.sns.sensors ∧ x.index ∉ l := by
  induction l generalizing s with
  | nil => exact ⟨rfl, rfl, fun x hx => ⟨hx, List.not_mem_nil⟩⟩
  | cons r l ih =>
    obtain ⟨hc, hk, hs⟩ := ih (dropSensor r s)
    obtain ⟨hc', hk', hs'⟩ := dropSensor_leaves r s
    refine ⟨hc.trans hc', hk.trans hk', fun x hx => ?_⟩
    obtain ⟨hx, hl⟩ := hs x hx
    rw [hs', List.mem_filter] at hx
    exact ⟨hx.1, by simpa [hl] using hx.2⟩

theorem snsEvent_rigKept (bits : Nat) (r : Option Nat) (s : State) : RigKept s (snsEvent bits r s) := by
  unfold snsEvent
  exact .after (hostEvent_rigKept _ _ _) (raise_rigKept (by decide) bits s)

theorem cplForget_parts (u : Nat) (s : State) : (cplForget u s).cpl = s.cpl ∧ Parted u (cplForget u s) := by
  have hd := destroyHandle_rigKept (193 + u) (dropSession u s)
  unfold cplForget
  extract_lets owner s1 _ s2 gone s3
  have hc2 : s2.cpl = s.cpl := hd.cpl
  have hk2 : ∀ j < 3, sessionKey s2 u j = none := fun j hj => sessionKey_filterSlots _ ((hd.sessionKey u j).trans (sessionKey_dropSession hj s))
  obtain ⟨hc, hk, hs⟩ := dropSensors_leave gone s2
  have h3 : Parted u s3 := by
    refine ⟨fun j hj => (sessionKey_congr hk u j).trans (hk2 j hj), fun x hx hp => ?_⟩
    obtain ⟨hm, hn⟩ := hs x hx
    exact hn (List.mem_map.2 ⟨x, List.mem_filter.2 ⟨hm, by simp [hp.1, hp.2]⟩, rfl⟩)
  have h4 : RigKept s3 (if gone.isEmpty then s3 else snsEvent 128 none s3) :=
    .ite (fun _ => .refl s3) fun _ => snsEvent_rigKept 128 none s3
  exact ⟨h4.cpl.trans (hc.trans hc2), h3.of_kept h4⟩

/-! ### Decoupling (R223) -/

/-- The unit once it is decoupled: with no coupling, its medium that of a link that is alive. -/
def partedUnit (u : Nat) (c : Coupling) : Coupling := { Coupling.reset u with linkUp := c.linkUp, work := c.work, loose := c.loose, j2497 := c.j2497 && c.linkUp }

/-- A state with its unit emptied, and no internal record of it. -/
def unitEmptied (u : Nat) (s : State) : State := modUnit u (partedUnit u) { s with jrn := { s.jrn with internal := s.jrn.internal.filter (· != u - 1) } }

theorem unitEmptied_parts {u : Nat} {s : State} (hu : HasUnit u s) (hp : Parted u s) :
    HasUnit u (unitEmptied u s) ∧ (∃ c, unitOf (unitEmptied u s) u = partedUnit u c) ∧ Parted u (unitEmptied u s) :=
  ⟨hasUnit_modUnit (fun _ _ => rfl) hu, ⟨_, unitOf_modUnit hu fun _ _ => rfl⟩, hp.keys, hp.sensors⟩

theorem decouple_moved (u : Nat) (s : State) : Moved u unasked (unitEmptied u (cplRelease (cplForget u (cplClear u s)))) (decouple u s) := by
  have hdone : ∀ e t, RigKept e t → Moved u unasked e (coupleDone u stPartnerAbsent t) := fun e t h => (coupleDone_moved u stPartnerAbsent t).behind h
  exact hdone _ _ (.ite (fun _ => .refl _) fun _ => hostEvent_rigKept _ _ _)

/-- Nothing of the coupling is left on a unit that was decoupled. -/
theorem decouple_parts {u : Nat} {s : State} (hu : HasUnit u s) (h3 : u ≤ 3) :
    (unitOf (decouple u s) u).state = .none ∧ (unitOf (decouple u s) u).boundary = 0 ∧ Parted u (decouple u s) := by
  obtain ⟨hfc, hfp⟩ := cplForget_parts u (cplClear u s)
  obtain ⟨hrc, hrs, -, hrk⟩ := cplRelease_leaves (cplForget u (cplClear u s))
  have hmoved := decouple_moved u s
  generalize cplRelease (cplForget u (cplClear u s)) = r at hmoved hrc hrs hrk
  have hur : HasUnit u r := (hasUnit_congr (hrc.trans hfc) u).2 ((cplClear_moved u s).hasUnit hu)
  obtain ⟨hue, ⟨c, hc⟩, hp⟩ := unitEmptied_parts hur ⟨fun j hj => (hrk u h3 j hj).trans (hfp.keys j hj), hrs ▸ hfp.sensors⟩
  have hunit : unitOf (decouple u s) u = unasked (partedUnit u c) := by rw [hmoved.unitOf hue, hc]
  exact ⟨by rw [hunit]; rfl, by rw [hunit]; rfl, .of_kept (s := modUnit u unasked (unitEmptied u r)) ⟨hp.keys, hp.sensors⟩ hmoved.kept⟩

end Sys2Proof.Machine
end

section
/-! The events of a coupling's link and timers (R208, R209, R214, R220, R221, R223, R225, R226). -/
namespace Sys2Proof.Machine

/-! ### Events in Noon and Dusk -/

theorem act_whenAwake_concluded {f : State → State} {s : State} (h : awake s = true) : ∃ t, act (whenAwake f) s = .next t ∧ Concluded (f (fresh s)) t := by
  obtain ⟨t, hx, hc⟩ := act_concluded (whenAwake f) s
  have ha : awake (fresh s) = true := h
  rw [whenAwake, if_pos ha] at hc
  exact ⟨t, hx, hc⟩

/-- An event that leaves `u`, but for what is no coupling's own. -/
theorem act_whenAwake_rigKept {f : State → State} {s u : State} (h : awake s = true) (hk : RigKept u (f (fresh s))) : ∃ t, act (whenAwake f) s = .next t ∧ RigKept u t := by
  obtain ⟨t, hx, hc⟩ := act_whenAwake_concluded (f := f) h
  exact ⟨t, hx, .after (.of_concluded hc) hk⟩

/-- An event in whose state nothing but one coupling changes. -/
theorem act_whenAwake_modUnit {f : State → State} {g : Coupling → Coupling} {u : Nat} {s : State} (h : awake s = true) (hi : s.LinkInv) (hu : HasUnit u s)
    (hg : ∀ c, c.unit = u → (g c).unit = u) (hf : f (fresh s) = modUnit u g (fresh s)) :
    ∃ t, act (whenAwake f) s = .next t ∧ t = { fresh s with cpl := { s.cpl with units := t.cpl.units } } ∧ unitOf t u = g (unitOf s u) ∧ ∀ v, v ≠ u → unitOf t v = unitOf s v := by
  refine ⟨modUnit u g (fresh s), ?_, rfl, unitOf_modUnit (s := fresh s) hu hg, fun v hv => unitOf_modUnit_ne hv hg (fresh s)⟩
  rw [← hf]
  exact act_whenAwake_quiet h (by rw [hf]; exact linkInv_congr rfl rfl rfl rfl rfl rfl rfl rfl hi) (by rw [hf]; rfl)

/-- The three units are there. -/
theorem hasUnit_of_kept {s : State} (h : s.cpl.units.map (·.unit) = [1, 2, 3]) (u : Fin 3) : HasUnit (u.val + 1) s := by
  rw [HasUnit, h]
  revert u
  decide

/-! ### An attempt begins (R209, R212) -/

/-- The unit on which an attempt begins. -/
def startedUnit (resume : Bool) (c : Coupling) : Coupling :=
  { c with
    rosterDone := resume && c.rosterDone, waiting := .hello, resume := resume, seqRx := 0, noBound := false, rosterFail := false, rosterTrunc := if resume then c.rosterTrunc else false,
    cls := 0, reason := 0, boundary := if resume then c.boundary else 0 }

/-- The unit whose HELLO is drawn. -/
def greetingUnit (h : Bytes) (c : Coupling) : Coupling := { c with ownHello := h, seqTx := 0 }

theorem sendHello_moved (u : Nat) (resume : Bool) (s : State) :
    ∃ h pdu, Moved u (fun c => sentUnit 1 pdu (greetingUnit h c)) s (sendHello u resume s) :=
  ⟨_, _, (modUnit_moved (f := greetingUnit _) (fun _ h => h) s |>.before (generate_rigKept 4 _)).andThen (cplSend_moved _ _ _ _ _ _)⟩

theorem sendHello_sends (u : Nat) (resume : Bool) (s : State) : SendsPdu u 1 (sendHello u resume s) := ⟨_, cplSend_emits _ _ _ _ _ _, pduSent_head _ _ _ _ _ _⟩

theorem cplStart_free {u : Nat} {s : State} (resume : Bool) (hr : (cplUnits s).contains u = true) (ho : cplObstacle s u = none) (ht : (unitOf s u).state ≠ .trusted) :
    cplStart u resume s = sendHello u resume (cplState u .handshake (modUnit u (startedUnit resume) (cplClear u s))) := by
  unfold cplStart
  rw [if_pos hr, ho]
  simp only [if_neg ht]
  rfl

/-- An attempt that nothing hinders begins: the unit's HELLO is out, and it awaits its partner's. -/
theorem cplStart_begins {u : Nat} {s : State} (resume : Bool) (hu : HasUnit u s) (hr : (cplUnits s).contains u = true) (ho : cplObstacle s u = none)
    (ht : (unitOf s u).state ≠ .trusted) :
    (unitOf (cplStart u resume s) u).state = .handshake ∧ (unitOf (cplStart u resume s) u).waiting = .hello ∧
      (unitOf (cplStart u resume s) u).attempts = (unitOf s u).attempts ∧ SendsPdu u 1 (cplStart u resume s) := by
  rw [cplStart_free resume hr ho ht]
  have hs := ((cplClear_moved u s).andThen (modUnit_moved (f := startedUnit resume) (fun _ h => h) _)).andThen (cplState_moved u .handshake _)
  obtain ⟨h, pdu, hm⟩ := sendHello_moved u resume (cplState u .handshake (modUnit u (startedUnit resume) (cplClear u s)))
  have hunit := (hs.andThen hm).unitOf hu
  exact ⟨by rw [hunit]; rfl, by rw [hunit]; rfl, by rw [hunit]; rfl, sendHello_sends u resume _⟩

end Sys2Proof.Machine
end

section
/-! Links that come and go, HOLD_S, backoffs (R208, R209, R223–R226). -/
namespace Sys2Proof.Machine

/-! ### What an attempt needs -/

theorem cplObstacle_none {u : Nat} {s : State} (hc : s.cpl.cert.length = 148) (hk : ∃ k, couplingKey s = .ok k) (hr : randomOk s = true) (hp : cplPlc s u = false) :
    cplObstacle s u = none := by
  obtain ⟨k, hk⟩ := hk
  simp [cplObstacle, hc, hk, hr, hp]

theorem cplPlc_iso {u : Nat} {s : State} (hm : regFld s 0x40070000 4 2 ≠ 1) (hj : (unitOf s u).j2497 = false) : cplPlc s u = false := by
  unfold cplPlc
  split
  · rfl
  · contradiction
  · exact hj

/-! ### The link comes up -/

/-- The unit whose link has come up. -/
def linkedUnit (plc : Bool) (c : Coupling) : Coupling := { c with linkUp := true, j2497 := plc, attempts := 0 }

/-- The state when the link of a unit is up, and restarts are allowed again after 10 s without it. -/
def linkedState (u : Nat) (plc long : Bool) (s : State) : State :=
  modUnit u (linkedUnit plc) (if long then { s with cpl := { s.cpl with restartsOff := false } } else s)

theorem hasUnit_linkedState {u : Nat} {plc long : Bool} {s : State} (hu : HasUnit u s) : HasUnit u (linkedState u plc long s) :=
  hasUnit_modUnit (fun _ h => h) (by cases long <;> exact hu)

theorem unitOf_linkedState {u : Nat} {plc long : Bool} {s : State} (hu : HasUnit u s) : unitOf (linkedState u plc long s) u = linkedUnit plc (unitOf s u) := by
  cases long <;> exact unitOf_modUnit hu fun _ h => h

/-- A tractor that couples by itself begins with the link, on a unit without a coupling. -/
theorem cplLinkUp_starts {u : Nat} {long : Bool} {s : State} (hr : (cplUnits s).contains u = true) (hm : regFld s 0x40070000 4 2 ≠ 1) (hs : (unitOf s u).state = .none)
    (ha : regBit s 0x40070000 6 = true) (ht : roleOf s = .tractor) (hl : long = true ∨ s.cpl.restartsOff = false) :
    cplLinkUp u false long s = cplStart u (cplHeld (unitOf (linkedState u false long s) u)) (linkedState u false long s) := by
  have hauto : regBit (linkedState u false long s) 0x40070000 6 = true ∧ roleOf (linkedState u false long s) = .tractor ∧ (!(linkedState u false long s).cpl.restartsOff) = true := by
    cases long with
    | true => exact ⟨ha, ht, rfl⟩
    | false => exact ⟨ha, ht, by show (!s.cpl.restartsOff) = true; rw [hl.resolve_left (by decide)]; rfl⟩
  unfold cplLinkUp
  dsimp only
  rw [if_neg (by simp [List.contains_iff_mem.1 hr, hm]), hs]
  exact if_pos hauto

/-- A trailer waits for the tractor's HELLO. -/
theorem cplLinkUp_trailer {u : Nat} {plc : Bool} {s : State} (hr : (cplUnits s).contains u = true)
    (hm : (plc = false ∧ regFld s 0x40070000 4 2 ≠ 1) ∨ (plc = true ∧ regFld s 0x40070000 4 2 = 2 ∧ (unitOf s u).j2497 = true))
    (hs : (unitOf s u).state = .none) (ht : roleOf s = .trailer) : cplLinkUp u plc false s = modUnit u (linkedUnit plc) s := by
  unfold cplLinkUp
  dsimp only
  rw [if_neg, hs]
  · exact if_neg fun h => by cases ht.symm.trans h.2.1
  · rcases hm with ⟨hp, hm⟩ | ⟨hp, hm, hj⟩
    · simp [List.contains_iff_mem.1 hr, hp, hm]
    · simp [List.contains_iff_mem.1 hr, hp, hm, hj]

/-- A link on a medium that CPL_CFG.MEDIUM does not select, or of a unit that the role does not couple, is none. -/
theorem cplLinkUp_ignored {u : Nat} {plc long : Bool} {s : State}
    (h : (cplUnits s).contains u = false ∨ (plc = false ∧ regFld s 0x40070000 4 2 = 1) ∨ (plc = true ∧ regFld s 0x40070000 4 2 ≠ 1 ∧ (unitOf s u).j2497 = false)) :
    cplLinkUp u plc long s = s := by
  unfold cplLinkUp
  dsimp only
  rw [if_pos]
  rcases h with h | ⟨hp, hm⟩ | ⟨hp, hm, hj⟩
  · exact .inl (by rw [h]; rfl)
  · exact .inr (.inr (by simp [hp, hm]))
  · exact .inr (.inl (by simp [hp, hm, hj]))

/-! ### The link is lost -/

/-- The unit whose link is lost. -/
def unlinkedUnit (c : Coupling) : Coupling := { c with linkUp := false, j2497 := false }

/-- The unit that awaits something, its first timeout before it. -/
def awaiting (w : CplWait) (c : Coupling) : Coupling := { c with waiting := w, resent := false }

/-- A TRUSTED unit whose link is lost, before its release is withdrawn. -/
def suspendedState (u : Nat) (s : State) : State := cplState u .suspended (cplAwait u .nothing (modUnit u unlinkedUnit s))

theorem suspendedState_moved (u : Nat) (s : State) : Moved u (fun c => inState .suspended (awaiting .nothing (unlinkedUnit c))) s (suspendedState u s) :=
  ((modUnit_moved (f := unlinkedUnit) (fun _ h => h) s).andThen (modUnit_moved (f := awaiting .nothing) (fun _ h => h) _)).andThen (cplState_moved u .suspended _)

theorem cplLinkLoss_trusted {u : Nat} {s : State} (hs : (unitOf s u).state = .trusted) :
    cplLinkLoss u s = if regFld s 0x40070000 8 8 = 0 then decouple u (cplRelease (suspendedState u s)) else cplRelease (suspendedState u s) := by
  have hreg : regFld (cplRelease (suspendedState u s)) 0x40070000 8 8 = regFld s 0x40070000 8 8 := by
    obtain ⟨-, -, hg, -⟩ := cplRelease_leaves (suspendedState u s)
    rw [regFld, hg, ← regFld, (suspendedState_moved u s).kept.cfgFld]
    rfl
  rw [← hreg]
  unfold cplLinkLoss
  simp only [hs]
  rfl

/-- The attempt whose link is lost, with what it held given up. -/
def abandonedState (u : Nat) (s : State) : State := cplClear u (modUnit u unlinkedUnit s)

theorem abandonedState_moved (u : Nat) (s : State) : Moved u (fun c => clearedUnit (unlinkedUnit c)) s (abandonedState u s) :=
  (modUnit_moved (f := unlinkedUnit) (fun _ h => h) s).andThen (cplClear_moved u _)

/-- The unit without a class. -/
def unclassed (c : Coupling) : Coupling := { c with cls := 0 }

/-- The unit at no boundary. -/
def unbounded (c : Coupling) : Coupling := { c with boundary := 0 }

/-- The end of an attempt whose link is lost. -/
def abandonEnd (u : Nat) (s : State) : State := coupleDone u stPartnerAbsent (cplState u .none (modUnit u unclassed s))

theorem abandonEnd_moved (u : Nat) (s : State) : Moved u (fun c => unasked (inState .none (unclassed c))) s (abandonEnd u s) :=
  ((modUnit_moved (f := unclassed) (fun _ h => h) s).andThen (cplState_moved u .none _)).andThen (coupleDone_moved u stPartnerAbsent _)

theorem cplLinkLoss_handshake {u : Nat} {s : State} (hs : (unitOf s u).state = .handshake) :
    cplLinkLoss u s = abandonEnd u (if (unitOf s u).resume then loadSession u (abandonedState u s) else dropSession u (modUnit u unbounded (abandonedState u s))) := by
  unfold cplLinkLoss
  simp only [hs]
  rfl

theorem cplLinkLoss_idle {u : Nat} {s : State} (h1 : (unitOf s u).state ≠ .trusted) (h2 : (unitOf s u).state ≠ .handshake) : cplLinkLoss u s = modUnit u unlinkedUnit s := by
  unfold cplLinkLoss
  dsimp only
  split
  · contradiction
  · contradiction
  · rfl

/-- Session keys that are loaded again change the slots alone. -/
theorem loadSession_leaves (u : Nat) (s : State) : (loadSession u s).cpl = s.cpl ∧ (loadSession u s).sns = s.sns := by
  unfold loadSession
  split <;> exact ⟨rfl, rfl⟩

end Sys2Proof.Machine
end

section
/-! The events of a coupling's link and timers, each from its row to what it leaves (R208, R209, R214, R220, R221, R223, R225, R226). -/
namespace Sys2Proof.Machine

/-- In Noon or Dusk, a unit that the role couples. -/
structure UnitReady (u : Fin 3) (s : State) : Prop where
  awake : awake s = true
  inv : s.LinkInv
  unit : (cplUnits s).contains (u.val + 1) = true
  kept : s.cpl.units.map (·.unit) = [1, 2, 3]

theorem UnitReady.hasUnit {u : Fin 3} {s : State} (h : UnitReady u s) : HasUnit (u.val + 1) s := hasUnit_of_kept h.kept u

/-- What an attempt needs of the part (R210, R616). -/
structure CplAble (s : State) : Prop where
  cert : s.cpl.cert.length = 148
  key : ∃ k, couplingKey s = .ok k
  random : randomOk s = true

/-! ### An attempt begins -/

/-- An event whose effect is to begin an attempt. -/
theorem act_cplStart {f : State → State} {u : Nat} {resume : Bool} {s r : State} (ha : awake s = true) (hf : f (fresh s) = cplStart u resume r) (hu : HasUnit u r)
    (hr : (cplUnits r).contains u = true) (ho : cplObstacle r u = none) (ht : (unitOf r u).state ≠ .trusted) :
    ∃ t, act (whenAwake f) s = .next t ∧ ((unitOf t u).state = .handshake ∧ (unitOf t u).waiting = .hello ∧ SendsPdu u 1 t) ∧ (unitOf t u).attempts = (unitOf r u).attempts := by
  obtain ⟨t, hx, hk⟩ := act_whenAwake_rigKept (f := f) ha (.refl _)
  obtain ⟨h1, h2, h3, pdu, hpdu, hhead⟩ := cplStart_begins resume hu hr ho ht
  rw [hf] at hk
  exact ⟨t, hx, ⟨by rw [hk.unitOf, h1], by rw [hk.unitOf, h2], pdu, hk.emit _ hpdu, hhead⟩, by rw [hk.unitOf, h3]⟩

theorem exec_couplingLinkUp_begins {u : Fin 3} {long : Bool} {s : State} (h : UnitReady u s) (able : CplAble s) (ht : roleOf s = .tractor) (hm : regFld s 0x40070000 4 2 ≠ 1)
    (hs : (unitOf s (u.val + 1)).state = .none) (ha : regBit s 0x40070000 6 = true) (hl : long = true ∨ s.cpl.restartsOff = false) :
    ∃ t, exec (.couplingLinkUp u false long) s = .next t ∧ (unitOf t (u.val + 1)).state = .handshake ∧ (unitOf t (u.val + 1)).waiting = .hello ∧ SendsPdu (u.val + 1) 1 t := by
  have hu : HasUnit (u.val + 1) (fresh s) := h.hasUnit
  have hunit : unitOf (linkedState (u.val + 1) false long (fresh s)) (u.val + 1) = linkedUnit false (unitOf s (u.val + 1)) := unitOf_linkedState hu
  obtain ⟨t, hx, hb, -⟩ := act_cplStart h.awake (cplLinkUp_starts (s := fresh s) (long := long) h.unit hm hs ha ht hl) (hasUnit_linkedState hu)
    (by cases long <;> exact h.unit)
    (cplObstacle_none (by cases long <;> exact able.cert) (by cases long <;> exact able.key) (by cases long <;> exact able.random)
      (cplPlc_iso (by cases long <;> exact hm) (by rw [hunit]; rfl)))
    (by rw [hunit]; exact fun hc => by cases hs.symm.trans hc)
  exact ⟨t, hx, hb⟩

theorem exec_helloWaitTimeout_begins {s : State} (h : UnitReady 0 s) (able : CplAble s) (ht : roleOf s = .trailer) (hl : (unitOf s 1).linkUp = true) (hp : cplPlc s 1 = false)
    (ha : regBit s 0x40070000 6 = true) (hr : s.cpl.restartsOff = false) (hs : (unitOf s 1).state = .none) :
    ∃ t, exec (.helloWaitTimeout 0) s = .next t ∧ (unitOf t 1).state = .handshake ∧ (unitOf t 1).waiting = .hello ∧ SendsPdu 1 1 t := by
  have hstart : cplHelloWait 1 (fresh s) = cplStart 1 (decide ((unitOf s 1).state = .suspended) || cplHeld (unitOf s 1)) (fresh s) := by
    have hr' : (fresh s).cpl.restartsOff = false := hr
    have hs' : (unitOf (fresh s) 1).state = .none := hs
    unfold cplHelloWait
    dsimp only
    rw [if_pos ⟨ht, rfl, hl, ha, by rw [hs']; decide, by rw [hs']; decide, by rw [hr']; rfl⟩]
    rfl
  obtain ⟨t, hx, hb, -⟩ := act_cplStart h.awake hstart h.hasUnit h.unit (cplObstacle_none able.cert able.key able.random hp) fun hc => by cases hs.symm.trans hc
  exact ⟨t, hx, hb⟩

/-- The unit that stands on J2497. -/
def plcUnit (c : Coupling) : Coupling := { c with j2497 := true }

/-- The unit with one more attempt. -/
def retriedUnit (c : Coupling) : Coupling := { c with attempts := c.attempts + 1 }

theorem exec_couplingRestart_begins {u : Fin 3} {s : State} (h : UnitReady u s) (able : CplAble s) (hs : (unitOf s (u.val + 1)).state = .backoff) (hr : s.cpl.restartsOff = false)
    (hl : (unitOf s (u.val + 1)).linkUp = true) (hp : cplPlc s (u.val + 1) = false) :
    ∃ t, exec (.couplingRestart u) s = .next t ∧ ((unitOf t (u.val + 1)).state = .handshake ∧ (unitOf t (u.val + 1)).waiting = .hello ∧ SendsPdu (u.val + 1) 1 t) ∧
      (unitOf t (u.val + 1)).attempts = (unitOf s (u.val + 1)).attempts + 1 := by
  have hunit : unitOf (modUnit (u.val + 1) retriedUnit (fresh s)) (u.val + 1) = retriedUnit (unitOf s (u.val + 1)) := unitOf_modUnit (s := fresh s) h.hasUnit fun _ h => h
  have hstart : cplRestart (u.val + 1) (fresh s) = cplStart (u.val + 1) false (modUnit (u.val + 1) retriedUnit (fresh s)) := by
    have hs' : (unitOf (fresh s) (u.val + 1)).state = .backoff := hs
    have hl' : (unitOf (fresh s) (u.val + 1)).linkUp = true := hl
    have hr' : (fresh s).cpl.restartsOff = false := hr
    unfold cplRestart
    simp only [hs', hl', hr']
    rfl
  have hplc : cplPlc (modUnit (u.val + 1) retriedUnit (fresh s)) (u.val + 1) = false := by
    rw [← hp]
    unfold cplPlc
    rw [hunit]
    rfl
  obtain ⟨t, hx, hb, hn⟩ := act_cplStart h.awake hstart (hasUnit_modUnit (fun _ h => h) h.hasUnit) h.unit (cplObstacle_none able.cert able.key able.random hplc)
    (by rw [hunit]; exact fun hc => by cases hs.symm.trans hc)
  exact ⟨t, hx, hb, by rw [hn, hunit]; rfl⟩

/-! ### One unit changes -/

theorem exec_couplingLinkUp_trailer {u : Fin 3} {s : State} (h : UnitReady u s) (ht : roleOf s = .trailer) (hm : regFld s 0x40070000 4 2 ≠ 1) (hs : (unitOf s (u.val + 1)).state = .none) :
    UnitOnly (.couplingLinkUp u false false) (u.val + 1) (linkedUnit false (unitOf s (u.val + 1))) s :=
  act_whenAwake_modUnit h.awake h.inv h.hasUnit (fun _ h => h) (cplLinkUp_trailer (s := fresh s) h.unit (.inl ⟨rfl, hm⟩) hs ht)

theorem exec_mediumFallback_trailer {s : State} (h : UnitReady 0 s) (ht : roleOf s = .trailer) (hm : regFld s 0x40070000 4 2 = 2) (hl : (unitOf s 1).linkUp = false)
    (hs : (unitOf s 1).state = .none) : UnitOnly (.mediumFallback 0) 1 (linkedUnit true (unitOf s 1)) s := by
  have hu : HasUnit 1 (fresh s) := h.hasUnit
  have hunit : unitOf (modUnit 1 plcUnit (fresh s)) 1 = plcUnit (unitOf s 1) := unitOf_modUnit hu fun _ h => h
  have hl' : (unitOf (fresh s) 1).linkUp = false := hl
  have hf : cplFallback 1 (fresh s) = modUnit 1 (linkedUnit true) (fresh s) := by
    have hup := cplLinkUp_trailer (u := 1) (plc := true) (s := modUnit 1 plcUnit (fresh s)) h.unit (.inr ⟨rfl, hm, by rw [hunit]; rfl⟩) (by rw [hunit]; exact hs) ht
    unfold cplFallback
    rw [if_pos ⟨hm, h.unit, by rw [hl']; rfl⟩]
    exact hup.trans (modUnit_modUnit (f := plcUnit) _ (fun _ h => h) _)
  exact act_whenAwake_modUnit h.awake h.inv hu (fun _ h => h) hf

theorem exec_couplingLinkLoss_idle {u : Fin 3} {s : State} (h : UnitReady u s) (h1 : (unitOf s (u.val + 1)).state ≠ .trusted) (h2 : (unitOf s (u.val + 1)).state ≠ .handshake) :
    UnitOnly (.couplingLinkLoss u) (u.val + 1) (unlinkedUnit (unitOf s (u.val + 1))) s :=
  act_whenAwake_modUnit h.awake h.inv h.hasUnit (fun _ h => h) (cplLinkLoss_idle (s := fresh s) h1 h2)

theorem exec_couplingRestart_basic {u : Fin 3} {s : State} (h : UnitReady u s) (hs : (unitOf s (u.val + 1)).state = .backoff)
    (hr : s.cpl.restartsOff = true ∨ (unitOf s (u.val + 1)).linkUp = false) :
    ∃ t, exec (.couplingRestart u) s = .next t ∧ unitOf t (u.val + 1) = { unitOf s (u.val + 1) with state := .basic } := by
  have hf : cplRestart (u.val + 1) (fresh s) = cplState (u.val + 1) .basic (fresh s) := by
    have hs' : (unitOf (fresh s) (u.val + 1)).state = .backoff := hs
    unfold cplRestart
    dsimp only
    rw [if_neg (not_not.2 hs'), if_pos]
    exact hr.imp id fun hl => by rw [show (unitOf (fresh s) (u.val + 1)).linkUp = false from hl]; rfl
  obtain ⟨t, hx, hk⟩ := act_whenAwake_rigKept (f := cplRestart (u.val + 1)) h.awake (.refl _)
  rw [hf] at hk
  exact ⟨t, hx, (hk.unitOf _).trans ((cplState_moved _ .basic (fresh s)).unitOf h.hasUnit)⟩

/-! ### PDUs of a timer -/

theorem exec_keepalive_sends {u : Fin 3} {key : Bytes} {s : State} (h : UnitReady u s) (hs : (unitOf s (u.val + 1)).state = .trusted) (hk : sessionKey s (u.val + 1) 0 = some key) :
    ∃ t, exec (.keepalive u) s = .next t ∧ Emission.coupling (u.val + 1) (pduOf 0x0B 0 (unitOf s (u.val + 1)).seqTx [] (some key)) ∈ t.emit ∧
      (unitOf t (u.val + 1)).seqTx = (unitOf s (u.val + 1)).seqTx + 1 ∧ t.acc = s.acc := by
  have hf : cplKeepalive (u.val + 1) (fresh s) = cplSend (u.val + 1) 0x0B 0 true [] (fresh s) := if_pos ⟨hs, h.unit⟩
  have hpdu : pduSent (u.val + 1) 0x0B 0 true [] (fresh s) = pduOf 0x0B 0 (unitOf s (u.val + 1)).seqTx [] (some key) := by
    have hk' : sessionKey (fresh s) (u.val + 1) 0 = some key := hk
    rw [pduSent, hk']
    rfl
  obtain ⟨t, hx, hc⟩ := act_whenAwake_rigKept (f := cplKeepalive (u.val + 1)) h.awake (.refl _)
  rw [hf] at hc
  have hm := (cplSend_moved (u.val + 1) 0x0B 0 true [] (fresh s)).before hc
  exact ⟨t, hx, hpdu ▸ hc.emit _ (cplSend_emits _ _ _ _ _ _), by rw [hm.unitOf h.hasUnit]; rfl, hm.kept.acc⟩

/-- The unit whose PDU was sent again. -/
def resentUnit (c : Coupling) : Coupling := { c with resent := true }

/-- The PDU that waits for an answer goes out once more (R214). -/
theorem exec_stepTo_resends {u : Fin 3} {s : State} (h : UnitReady u s) (hs : (unitOf s (u.val + 1)).state = .handshake) (hw : (unitOf s (u.val + 1)).waiting ≠ .nothing)
    (hr : (unitOf s (u.val + 1)).resent = false) (hb : (unitOf s (u.val + 1)).boundStale = false) (hl : (unitOf s (u.val + 1)).lastPdu ≠ []) :
    ∃ t, exec (.stepTo u) s = .next t ∧ unitOf t (u.val + 1) = { unitOf s (u.val + 1) with resent := true } ∧ Emission.coupling (u.val + 1) (unitOf s (u.val + 1)).lastPdu ∈ t.emit := by
  obtain ⟨t, hx, hk⟩ := act_whenAwake_rigKept (f := cplStepTo (u.val + 1)) h.awake (.refl _)
  have hf : RigKept (emitOut (.coupling (u.val + 1) (unitOf s (u.val + 1)).lastPdu) (modUnit (u.val + 1) resentUnit (fresh s))) (cplStepTo (u.val + 1) (fresh s)) := by
    have hc : unitOf (fresh s) (u.val + 1) = unitOf s (u.val + 1) := rfl
    unfold cplStepTo
    dsimp only
    rw [hc, if_neg (by simp [hs, hw]), if_neg (by simp [hr]), if_neg (by simp [hb]), if_neg hl]
    exact tpStart_rigKept _ _ _ _
  have hm := RigKept.after hk hf
  exact ⟨t, hx, (hm.unitOf _).trans (unitOf_modUnit (f := resentUnit) (s := fresh s) h.hasUnit fun _ h => h), hm.emit _ (mem_emitOut _ _)⟩

end Sys2Proof.Machine
end

section
/-! Couplings that end, attempts that fail, releases that a trailer loses (R79, R214, R221, R223, R225, R226), and events that find nothing to do (log 3). -/
namespace Sys2Proof.Machine

/-! ### Nothing to do -/

/-- Outside Noon and Dusk nothing happens. -/
theorem act_whenAwake_asleep {f : State → State} {s : State} (hi : s.LinkInv) (h : awake s = false) : act (whenAwake f) s = .next (fresh s) :=
  act_idle hi (if_neg (by rw [show awake (fresh s) = false from h]; exact Bool.false_ne_true))

theorem exec_couplingLinkUp_ignored {u : Fin 3} {plc long : Bool} {s : State} (hi : s.LinkInv)
    (h : awake s = false ∨ (cplUnits s).contains (u.val + 1) = false ∨ (plc = false ∧ regFld s 0x40070000 4 2 = 1) ∨
      (plc = true ∧ regFld s 0x40070000 4 2 ≠ 1 ∧ (unitOf s (u.val + 1)).j2497 = false)) : exec (.couplingLinkUp u plc long) s = .next (fresh s) :=
  h.elim (fun h => act_whenAwake_asleep hi h) fun h => act_whenAwake_idle hi (cplLinkUp_ignored (s := fresh s) h)

theorem exec_keepalive_idle {u : Fin 3} {s : State} (hi : s.LinkInv) (h : (unitOf s (u.val + 1)).state ≠ .trusted) : exec (.keepalive u) s = .next (fresh s) :=
  act_whenAwake_idle hi (if_neg fun hc => h hc.1)

theorem exec_stepTo_idle {u : Fin 3} {s : State} (hi : s.LinkInv) (h : (unitOf s (u.val + 1)).waiting = .nothing) : exec (.stepTo u) s = .next (fresh s) :=
  act_whenAwake_idle hi (if_pos (.inl h))

theorem exec_helloWaitTimeout_idle {u : Fin 3} {s : State} (hi : s.LinkInv)
    (h : roleOf s ≠ .trailer ∨ (unitOf s (u.val + 1)).linkUp = false ∨ regBit s 0x40070000 6 = false ∨ (unitOf s (u.val + 1)).state = .handshake ∨
      (unitOf s (u.val + 1)).state = .trusted) : exec (.helloWaitTimeout u) s = .next (fresh s) := by
  refine act_whenAwake_idle hi (if_neg ?_)
  rintro ⟨hr, -, hl, ha, hh, ht, -⟩
  rcases h with h | h | h | h | h
  · exact h hr
  · exact Bool.false_ne_true (h.symm.trans hl)
  · exact Bool.false_ne_true (h.symm.trans ha)
  · exact hh h
  · exact ht h

theorem exec_mediumFallback_idle {u : Fin 3} {s : State} (hi : s.LinkInv) (h : regFld s 0x40070000 4 2 ≠ 2 ∨ (unitOf s (u.val + 1)).linkUp = true) :
    exec (.mediumFallback u) s = .next (fresh s) := by
  refine act_whenAwake_idle hi (if_neg ?_)
  rintro ⟨hm, -, hl⟩
  rcases h with h | h
  · exact h hm
  · rw [show (unitOf (fresh s) (u.val + 1)).linkUp = true from h] at hl
    cases hl

theorem exec_holdExpiry_idle {u : Fin 3} {s : State} (hi : s.LinkInv) (h : (unitOf s (u.val + 1)).state ≠ .suspended) (hh : cplHeld (unitOf s (u.val + 1)) = false) :
    exec (.holdExpiry u) s = .next (fresh s) :=
  act_whenAwake_idle hi (if_neg fun hc => hc.elim h fun hc => Bool.false_ne_true (hh.symm.trans hc))

theorem exec_couplingRestart_idle {u : Fin 3} {s : State} (hi : s.LinkInv) (h : (unitOf s (u.val + 1)).state ≠ .backoff) : exec (.couplingRestart u) s = .next (fresh s) :=
  act_whenAwake_idle hi (if_pos h)

theorem exec_grantRepeatTimeout_idle {s : State} (hi : s.LinkInv) (h : roleOf s ≠ .trailer ∨ s.acc.release.active = false) : exec .grantRepeatTimeout s = .next (fresh s) :=
  act_whenAwake_idle hi (if_pos (h.imp id fun h => by rw [show (fresh s).acc.release.active = false from h]; rfl))

/-! ### A coupling ends -/

/-- Nothing of its coupling is left on a unit. -/
structure UnitGone (u : Nat) (t : State) : Prop where
  state : (unitOf t u).state = .none
  boundary : (unitOf t u).boundary = 0
  parted : Parted u t

/-- An event that decouples a unit. -/
theorem act_decouple {f : State → State} {u : Fin 3} {s r : State} (ha : awake s = true) (hf : f (fresh s) = decouple (u.val + 1) r) (hu : HasUnit (u.val + 1) r) :
    ∃ t, act (whenAwake f) s = .next t ∧ UnitGone (u.val + 1) t := by
  obtain ⟨t, hx, hk⟩ := act_whenAwake_rigKept (f := f) ha (.refl _)
  rw [hf] at hk
  obtain ⟨hs, hb, hp⟩ := decouple_parts hu (by omega)
  exact ⟨t, hx, by rw [hk.unitOf, hs], by rw [hk.unitOf, hb], hp.of_kept hk⟩

theorem exec_holdExpiry_decouples {u : Fin 3} {s : State} (h : UnitReady u s) (hs : (unitOf s (u.val + 1)).state = .suspended ∨ cplHeld (unitOf s (u.val + 1)) = true) :
    ∃ t, exec (.holdExpiry u) s = .next t ∧ UnitGone (u.val + 1) t :=
  act_decouple h.awake (if_pos hs) h.hasUnit

theorem exec_couplingLinkLoss_unheld {u : Fin 3} {s : State} (h : UnitReady u s) (hs : (unitOf s (u.val + 1)).state = .trusted) (hh : regFld s 0x40070000 8 8 = 0) :
    ∃ t, exec (.couplingLinkLoss u) s = .next t ∧ UnitGone (u.val + 1) t := by
  obtain ⟨hc, -, -, -⟩ := cplRelease_leaves (suspendedState (u.val + 1) (fresh s))
  exact act_decouple h.awake ((cplLinkLoss_trusted (s := fresh s) hs).trans (if_pos hh)) ((hasUnit_congr hc _).2 ((suspendedState_moved _ _).hasUnit h.hasUnit))

/-! ### A coupling is suspended -/

/-- The link of a coupling that stands is lost for less than HOLD_S: keys and records stay, a trailer's release goes. -/
theorem exec_couplingLinkLoss_suspends {u : Fin 3} {s : State} (h : UnitReady u s) (hs : (unitOf s (u.val + 1)).state = .trusted) (hh : regFld s 0x40070000 8 8 ≠ 0) :
    ∃ t, exec (.couplingLinkLoss u) s = .next t ∧ (unitOf t (u.val + 1)).state = .suspended ∧ (unitOf t (u.val + 1)).linkUp = false ∧ (unitOf t (u.val + 1)).waiting = .nothing ∧
      (∀ j < 3, sessionKey t (u.val + 1) j = sessionKey s (u.val + 1) j) ∧ t.sns.sensors = s.sns.sensors ∧
      (roleOf s = .trailer → s.acc.release.active = true → t.acc.release.active = false ∧ t.acc.release.endCause = 8) := by
  obtain ⟨t, hx, hk⟩ := act_whenAwake_rigKept (f := cplLinkLoss (u.val + 1)) h.awake (.refl _)
  have hloss : cplLinkLoss (u.val + 1) (fresh s) = cplRelease (suspendedState (u.val + 1) (fresh s)) := (cplLinkLoss_trusted (s := fresh s) hs).trans (if_neg hh)
  have hm := suspendedState_moved (u.val + 1) (fresh s)
  rw [hloss] at hk
  generalize suspendedState (u.val + 1) (fresh s) = r at hm hk
  obtain ⟨hc, hn, -, hkeys⟩ := cplRelease_leaves r
  have hunit : unitOf t (u.val + 1) = inState .suspended (awaiting .nothing (unlinkedUnit (unitOf s (u.val + 1)))) :=
    (hk.unitOf _).trans ((unitOf_congr hc _).trans (hm.unitOf h.hasUnit))
  refine ⟨t, hx, by rw [hunit]; rfl, by rw [hunit]; rfl, by rw [hunit]; rfl, fun j hj => ?_, ?_, fun hr ha => ?_⟩
  · exact (hk.sessionKey _ j).trans ((hkeys _ (by omega) j hj).trans hm.sessionKey)
  · exact congrArg Sensing.sensors (hk.sns.trans (hn.trans hm.sensors))
  · have hrole : roleOf r = .trailer := hm.kept.roleOf.trans hr
    have hacc : r.acc = s.acc := hm.kept.acc
    have hend := endRelease_spec (cause := 8) hrole (by rw [hacc]; exact ha)
    rw [hk.acc, cplRelease, if_pos hrole, hend.acc]
    exact ⟨rfl, rfl⟩

/-! ### An attempt is given up, or fails -/

theorem exec_couplingLinkLoss_abandons {u : Fin 3} {s : State} (h : UnitReady u s) (hs : (unitOf s (u.val + 1)).state = .handshake) (hr : (unitOf s (u.val + 1)).resume = false) :
    ∃ t, exec (.couplingLinkLoss u) s = .next t ∧ (unitOf t (u.val + 1)).state = .none ∧ (unitOf t (u.val + 1)).linkUp = false ∧ (unitOf t (u.val + 1)).cls = 0 ∧
      ∀ j < 3, sessionKey t (u.val + 1) j = none := by
  obtain ⟨t, hx, hk⟩ := act_whenAwake_rigKept (f := cplLinkLoss (u.val + 1)) h.awake (.refl _)
  have hr' : (unitOf (fresh s) (u.val + 1)).resume = false := hr
  rw [cplLinkLoss_handshake (s := fresh s) hs, hr', if_neg Bool.false_ne_true] at hk
  have hb := (abandonedState_moved (u.val + 1) (fresh s)).andThen (modUnit_moved (f := unbounded) (fun _ h => h) _)
  have hm := (abandonEnd_moved (u.val + 1) (dropSession (u.val + 1) (modUnit (u.val + 1) unbounded (abandonedState (u.val + 1) (fresh s))))).before hk
  have hc := dropSession_cpl (u.val + 1) (modUnit (u.val + 1) unbounded (abandonedState (u.val + 1) (fresh s)))
  have hunit := hm.unitOf_eq ((hasUnit_congr hc _).2 (hb.hasUnit h.hasUnit)) ((unitOf_congr hc _).trans (hb.unitOf h.hasUnit))
  exact ⟨t, hx, by rw [hunit]; rfl, by rw [hunit]; rfl, by rw [hunit]; rfl, fun j hj => hm.sessionKey.trans (sessionKey_dropSession hj _)⟩

/-- An attempt with RESUME leaves what it resumed as it was (log 160). -/
theorem exec_couplingLinkLoss_resume {u : Fin 3} {s : State} (h : UnitReady u s) (hs : (unitOf s (u.val + 1)).state = .handshake) (hr : (unitOf s (u.val + 1)).resume = true) :
    ∃ t, exec (.couplingLinkLoss u) s = .next t ∧ (unitOf t (u.val + 1)).state = .none ∧ (unitOf t (u.val + 1)).linkUp = false ∧
      (unitOf t (u.val + 1)).boundary = (unitOf s (u.val + 1)).boundary ∧ (unitOf t (u.val + 1)).partner = (unitOf s (u.val + 1)).partner ∧
      (unitOf t (u.val + 1)).waiting = .nothing ∧ t.sns.sensors = s.sns.sensors := by
  obtain ⟨t, hx, hk⟩ := act_whenAwake_rigKept (f := cplLinkLoss (u.val + 1)) h.awake (.refl _)
  have hr' : (unitOf (fresh s) (u.val + 1)).resume = true := hr
  rw [cplLinkLoss_handshake (s := fresh s) hs, hr', if_pos rfl] at hk
  have hb := abandonedState_moved (u.val + 1) (fresh s)
  obtain ⟨hlc, hln⟩ := loadSession_leaves (u.val + 1) (abandonedState (u.val + 1) (fresh s))
  have hm := (abandonEnd_moved (u.val + 1) _).before hk
  have hunit := hm.unitOf_eq ((hasUnit_congr hlc _).2 (hb.hasUnit h.hasUnit)) ((unitOf_congr hlc _).trans (hb.unitOf h.hasUnit))
  exact ⟨t, hx, by rw [hunit]; rfl, by rw [hunit]; rfl, by rw [hunit]; rfl, by rw [hunit]; rfl, by rw [hunit]; rfl,
    congrArg Sensing.sensors (hm.sensors.trans (hln.trans hb.sensors))⟩

/-- The unit whose attempt has failed for a reason. -/
def failedUnit (reason : Nat) (c : Coupling) : Coupling := { c with cls := 0, noBound := false, reason := reason, boundary := 0 }

/-- The state of a failed attempt with its keys zeroised. -/
def failedState (u reason : Nat) (s : State) : State := modUnit u (failedUnit reason) (dropSession u (cplClear u s))

theorem failedState_parts {u : Nat} {s : State} (reason : Nat) (hu : HasUnit u s) :
    HasUnit u (failedState u reason s) ∧ unitOf (failedState u reason s) u = failedUnit reason (clearedUnit (unitOf s u)) ∧
      (∀ v, v ≠ u → unitOf (failedState u reason s) v = unitOf s v) ∧ ∀ j < 3, sessionKey (failedState u reason s) u j = none := by
  have hc := cplClear_moved u s
  have hs := dropSession_cpl u (cplClear u s)
  have hd : HasUnit u (dropSession u (cplClear u s)) := (hasUnit_congr hs u).2 (hc.hasUnit hu)
  have hm := modUnit_moved (u := u) (f := failedUnit reason) (fun _ h => h) (dropSession u (cplClear u s))
  exact ⟨hm.hasUnit hd, hm.unitOf_eq hd ((unitOf_congr hs u).trans (hc.unitOf hu)), fun v hv => (hm.others hv).trans ((unitOf_congr hs v).trans (hc.others hv)), fun j hj => hm.sessionKey.trans (sessionKey_dropSession hj (cplClear u s))⟩

/-- An attempt that fails for a reason that is not hostile restarts later, or stays BASIC. -/
theorem cplFail_attempt {u reason : Nat} {status : Byte} {s : State} (ht : (unitOf s u).state ≠ .trusted) (hr : hostileReason reason = false) :
    ∃ st, (st = .backoff ∨ st = .basic) ∧ Moved u (fun c => unasked (inState st c)) (failedState u reason s) (cplFail u reason status s) := by
  unfold cplFail
  simp only [if_neg ht, hr, Bool.false_eq_true, if_false]
  refine ⟨_, ?_, (cplState_moved u _ (failedState u reason s)).andThen (coupleDone_moved u status _)⟩
  split
  · exact .inl rfl
  · exact .inr rfl

/-- The partner has been silent twice: ABSENT (R214). -/
theorem exec_stepTo_fails {u : Fin 3} {s : State} (h : UnitReady u s) (hs : (unitOf s (u.val + 1)).state = .handshake) (hw : (unitOf s (u.val + 1)).waiting ≠ .nothing)
    (hr : (unitOf s (u.val + 1)).resent = true) : AttemptFails (.stepTo u) (u.val + 1) rnAbsent s := by
  have hc : unitOf (fresh s) (u.val + 1) = unitOf s (u.val + 1) := rfl
  have hf : cplStepTo (u.val + 1) (fresh s) = cplFail (u.val + 1) rnAbsent stPartnerAbsent (fresh s) := by
    unfold cplStepTo
    dsimp only
    rw [hc, if_neg (by simp [hs, hw]), if_pos hr]
  obtain ⟨t, hx, hk⟩ := act_whenAwake_rigKept (f := cplStepTo (u.val + 1)) h.awake (.refl _)
  obtain ⟨hd, hunit, hother, hkeys⟩ := failedState_parts (u := u.val + 1) (s := fresh s) rnAbsent h.hasUnit
  obtain ⟨st, hst, hm⟩ := cplFail_attempt (u := u.val + 1) (reason := rnAbsent) (status := stPartnerAbsent) (s := fresh s) (by rw [hc, hs]; decide) rfl
  have hm := hm.before (hf ▸ hk)
  have hend := hm.unitOf_eq hd hunit
  refine ⟨t, hx, by rw [hend]; rfl, by rw [hend]; rfl, by rw [hend]; rfl, by rw [hend]; exact hst, fun j hj => hm.sessionKey.trans (hkeys j hj),
    fun hh => absurd hh (by decide), fun v hv => (hm.others hv).trans (hother v hv)⟩

/-! ### The release of a trailer without repeated grants (R221) -/

theorem grantMissed_counts {s : State} (hr : roleOf s = .trailer) (ha : s.acc.release.active = true) :
    grantMissed s = if 2 ≤ s.acc.release.missedGrants + 1 then endRelease 0xA (modRel (fun r => { r with missedGrants := r.missedGrants + 1 }) s)
      else modRel (fun r => { r with missedGrants := r.missedGrants + 1 }) s := if_neg (by simp [hr, ha])

theorem exec_grantRepeatTimeout_first {s : State} (hi : s.LinkInv) (ha : awake s = true) (hr : roleOf s = .trailer) (hrel : s.acc.release.active = true)
    (hm : s.acc.release.missedGrants = 0) :
    exec .grantRepeatTimeout s = .next { fresh s with acc := { s.acc with release := { s.acc.release with missedGrants := 1 } } } := by
  have hf : grantMissed (fresh s) = { fresh s with acc := { s.acc with release := { s.acc.release with missedGrants := 1 } } } := by
    have hm' : (fresh s).acc.release.missedGrants = 0 := hm
    rw [grantMissed_counts (s := fresh s) hr hrel, hm', if_neg (by decide)]
    simp [modRel, modAcc, hm]
  rw [← hf]
  exact act_whenAwake_quiet ha (by rw [hf]; exact linkInv_congr rfl rfl rfl rfl rfl rfl rfl rfl hi) (by rw [hf]; rfl)

theorem exec_grantRepeatTimeout_second {s : State} (ha : awake s = true) (hr : roleOf s = .trailer) (hrel : s.acc.release.active = true) (hm : s.acc.release.missedGrants = 1) :
    ∃ t, exec .grantRepeatTimeout s = .next t ∧ t.acc.release.active = false ∧ t.acc.release.endCause = 0xA ∧ t.acc.release.driven = false := by
  have hm' : (fresh s).acc.release.missedGrants = 1 := hm
  obtain ⟨t, hx, hk⟩ := act_whenAwake_rigKept (f := grantMissed) ha (.refl _)
  rw [grantMissed_counts (s := fresh s) hr hrel, hm', if_pos (by decide)] at hk
  have hend := RigKept.after hk (endRelease_spec (cause := 0xA) (s := modRel (fun r => { r with missedGrants := r.missedGrants + 1 }) (fresh s)) hr hrel)
  exact ⟨t, hx, by rw [hend.acc]; rfl, by rw [hend.acc]; rfl, by rw [hend.acc]; rfl⟩

end Sys2Proof.Machine
end

section
/-! Frames of the coupling transport, and what they make of its runs (R510, R513). -/
namespace Sys2Proof.Machine

theorem Concluded.bus {s t : State} (h : Concluded s t) : t.bus = s.bus := by rw [h.rest]

/-! ### Frames that leave -/

theorem fit_of_length {n : Nat} {b : Bytes} (h : b.length = n) : fit n b = b := by
  rw [fit, List.take_append_of_le_length h.ge, List.take_of_length_le h.le]

theorem fit_fit (n : Nat) (b : Bytes) : fit n (fit n b) = fit n b := fit_of_length (fit_length n b)

/-- The route of a frame is read of registers that the transport leaves alone. -/
theorem routeByte_congr {s t : State} (hc : t.cfg = s.cfg) (hr : regGet t 0x400C0080 = regGet s 0x400C0080) (u : Nat) : routeByte t u = routeByte s u := by
  have hrole : roleOf t = roleOf s := by rw [roleOf, hc, roleOf]
  have hown : ownChannel t = ownChannel s := by unfold ownChannel; rw [hrole, regFld, hr, regFld]
  have hpeer : peerChannel t u = peerChannel s u := by unfold peerChannel; rw [hrole]
  unfold routeByte
  rw [hown, hpeer]

/-- On ISO 11992 a frame leaves at once, and counts. -/
theorem tpFrame_iso_emits (prio : Nat) (seg : Byte) (u : Nat) (body : Bytes) (s : State) :
    ∃ id, Emission.canTx 0 id true ([seg, routeByte s u] ++ fit 6 body) ∈ (tpFrame false prio seg u body s).emit := ⟨_, mem_emitOut _ _⟩

theorem tpFrame_regs {plc : Bool} {prio : Nat} {seg : Byte} {u a : Nat} {body : Bytes} {s : State} (h : a ≠ 0x400C0024) : regGet (tpFrame plc prio seg u body s) a = regGet s a := by
  cases plc with
  | true => rfl
  | false => exact regGet_regSet_ne h _ s

/-- An acknowledgement of ISO 11992 (R510). -/
def TpAnswered (u sn st : Nat) (s t : State) : Prop := ∃ id, Emission.canTx 0 id true ([byte (0xC0 + sn % 64), routeByte s u] ++ fit 6 [byte st]) ∈ t.emit

theorem tpAck_answers (u sn st : Nat) (s : State) : TpAnswered u sn st s (tpAck u false sn st s) := tpFrame_iso_emits 4 _ u (byte st :: zeros 5) s

theorem TpAnswered.of_kept {u sn st : Nat} {s r t w : State} (h : TpAnswered u sn st r t) (hc : r.cfg = s.cfg) (hr : regGet r 0x400C0080 = regGet s 0x400C0080)
    (he : ∀ e ∈ t.emit, e ∈ w.emit) : TpAnswered u sn st s w := by
  obtain ⟨id, hid⟩ := h
  rw [routeByte_congr hc hr] at hid
  exact ⟨id, he _ hid⟩

/-- The first consecutive frame of a block is among those that go out. -/
theorem tpSend_iso_emits {r : TpRun} {a b : Nat} (hp : r.onPlc = false) (ha : 1 ≤ a) (hb : a ≤ b) (s : State) :
    ∃ id, Emission.canTx 0 id true ([byte (0x80 + a % 64), routeByte s r.unit] ++ fit 6 (slice r.data (4 + (a - 1) * 6) 6)) ∈ (tpSend r a b s).emit := by
  have hseg : tpSegment false r.data a = byte (0x80 + a % 64) :: fit 6 (slice r.data (4 + (a - 1) * 6) 6) := if_neg (by omega)
  have hlist : (List.range (b + 1 - a)).map (a + ·) = a :: ((List.range (b - a)).map Nat.succ).map (a + ·) := by
    rw [show b + 1 - a = (b - a) + 1 by omega, List.range_succ_eq_map]
    rfl
  obtain ⟨id, hid⟩ := tpFrame_iso_emits 6 (byte (0x80 + a % 64)) r.unit (fit 6 (slice r.data (4 + (a - 1) * 6) 6)) s
  rw [fit_fit] at hid
  refine ⟨id, ?_⟩
  unfold tpSend
  rw [hlist, List.foldl_cons, hp, hseg]
  exact (RigKept.foldl (fun s _ => tpFrame_rigKept _ _ _ _ _ s) _ _).emit _ hid

/-! ### Runs that are aborted (R510, R513, R520) -/

/-- The run of a route is gone, and counted on its medium. -/
structure RunAborted (u : Nat) (plc sending : Bool) (s t : State) : Prop where
  run : tpRunOf t u plc sending = none
  j2497 : plc = true → CountsOne 0x400D0028 s t ∧ regBit t 0x400D0008 6 = true
  iso11992 : plc = false → CountsOne 0x400C0044 s t ∧ regBit t 0x400C0008 9 = true
  cpl : t.cpl = s.cpl

theorem CountsOne.congr {a : Nat} {s t r w : State} (h : CountsOne a s t) (hs : regGet r a = regGet s a) (ht : regGet w a = regGet t a) : CountsOne a r w := by
  simpa only [CountsOne, regFld, hs, ht] using h

theorem RunAborted.after {u : Nat} {plc sending : Bool} {s t w : State} (h : RunAborted u plc sending s t) (hb : w.bus.tp = t.bus.tp)
    (hr : ∀ a, a ≠ 0x400C0024 → regGet w a = regGet t a) (hc : w.cpl = t.cpl) : RunAborted u plc sending s w where
  run := (tpRunOf_congr hb u plc sending).trans h.run
  j2497 hp := ⟨(h.j2497 hp).1.congr rfl (hr _ (by decide)), by rw [regBit, hr _ (by decide)]; exact (h.j2497 hp).2⟩
  iso11992 hp := ⟨(h.iso11992 hp).1.congr rfl (hr _ (by decide)), by rw [regBit, hr _ (by decide)]; exact (h.iso11992 hp).2⟩
  cpl := hc.trans h.cpl

theorem RunAborted.before {u : Nat} {plc sending : Bool} {s r t : State} (h : RunAborted u plc sending r t) (hr : r.regs = s.regs) (hc : r.cpl = s.cpl) : RunAborted u plc sending s t where
  run := h.run
  j2497 hp := ⟨(h.j2497 hp).1.congr (by simp only [regGet, hr]) rfl, (h.j2497 hp).2⟩
  iso11992 hp := ⟨(h.iso11992 hp).1.congr (by simp only [regGet, hr]) rfl, (h.iso11992 hp).2⟩
  cpl := h.cpl.trans hc

/-- A counter that moves and an event that is raised beside it. -/
theorem counted_raised {a b bits i : Nat} (hab : a ≠ b) (hi : (word bits).toNat.testBit i = true) (s : State) :
    CountsOne a s (raise b bits (regInc a 16 s)) ∧ regBit (raise b bits (regInc a 16 s)) b i = true := by
  refine ⟨?_, regBit_raise hi _⟩
  obtain ⟨e, he⟩ := raise_eng b bits (regInc a 16 s)
  rw [he]
  exact (regInc_counts a s).congr rfl (regGet_regSet_ne hab _ (regInc a 16 s))

theorem tpAbort_aborts (u : Nat) (plc sending : Bool) (s : State) : RunAborted u plc sending s (tpAbort u plc sending s) := by
  have hgone := tpRunOf_tpDrop u plc sending s
  cases plc with
  | true =>
    obtain ⟨e, he⟩ := raise_eng 0x400D0008 64 (regInc 0x400D0028 16 (tpDrop u true sending s))
    refine RunAborted.before ⟨?_, fun _ => counted_raised (by decide) (by decide) (tpDrop u true sending s), nofun, ?_⟩ rfl rfl
    · exact (tpRunOf_congr (by rw [tpAbort, if_pos rfl, he]; rfl) u true sending).trans hgone
    · rw [tpAbort, if_pos rfl, he]
      rfl
  | false =>
    obtain ⟨e, he⟩ := raise_eng 0x400C0008 512 (regInc 0x400C0044 16 (tpDrop u false sending s))
    refine RunAborted.before (r := tpDrop u false sending s) ⟨?_, nofun, fun _ => counted_raised (by decide) (by decide) (tpDrop u false sending s), ?_⟩ rfl rfl
    · exact (tpRunOf_congr (congrArg (fun s => s.bus.tp) he) u false sending).trans hgone
    · exact (congrArg State.cpl he :)

/-- An abort leaves what its route is read of. -/
theorem tpAbort_route (u : Nat) (plc sending : Bool) (s : State) : (tpAbort u plc sending s).cfg = s.cfg ∧ regGet (tpAbort u plc sending s) 0x400C0080 = regGet s 0x400C0080 := by
  cases plc with
  | true =>
    obtain ⟨e, he⟩ := raise_eng 0x400D0008 64 (regInc 0x400D0028 16 (tpDrop u true sending s))
    rw [tpAbort, if_pos rfl, he]
    exact ⟨rfl, (regGet_regSet_ne (by decide) _ _).trans (regGet_regSet_ne (by decide) _ _)⟩
  | false =>
    have hraise : tpAbort u false sending s = raise 0x400C0008 512 (regInc 0x400C0044 16 (tpDrop u false sending s)) := rfl
    obtain ⟨e, he⟩ := raise_eng 0x400C0008 512 (regInc 0x400C0044 16 (tpDrop u false sending s))
    rw [hraise, he]
    exact ⟨rfl, (regGet_regSet_ne (by decide) _ _).trans (regGet_regSet_ne (by decide) _ _)⟩

/-! ### Frames that come (R510, R513) -/

theorem tpReceive_other {f : TpFrame} {s : State} (h : (cplUnits s).contains (f.unit.val + 1) = false ∨ f.seg.toNat < 64 ∨ 192 ≤ f.seg.toNat) : tpReceive f s = s := by
  unfold tpReceive
  dsimp only
  by_cases hu : (cplUnits s).contains (f.unit.val + 1) = true
  · rw [if_neg (by rw [hu]; decide)]
    have hk := h.resolve_left (by rw [hu]; decide)
    rw [if_neg (by omega), if_neg (by omega)]
  · rw [if_pos (by simpa using hu)]

section
variable {f : TpFrame} {s : State} (hu : (cplUnits s).contains (f.unit.val + 1) = true)
include hu

theorem tpReceive_first (hk : f.seg = 0x40) (hl : 14 ≤ at_ f.body 0 2) (hh : at_ f.body 0 2 ≤ 2054) :
    tpReceive f s = tpPut { unit := f.unit.val + 1, onPlc := f.plc, sending := false, length := at_ f.body 0 2, data := f.body.drop 2, next := 1, resent := false } s := by
  have hseg : f.seg.toNat = 64 := by rw [hk]; rfl
  unfold tpReceive
  dsimp only
  rw [if_neg (by rw [hu]; decide), if_pos (by omega), if_neg (by omega)]

theorem tpReceive_badFirst (h1 : 64 ≤ f.seg.toNat) (h2 : f.seg.toNat < 128) (hb : f.seg ≠ 0x40 ∨ at_ f.body 0 2 < 14 ∨ 2054 < at_ f.body 0 2) :
    tpReceive f s = tpDrop (f.unit.val + 1) f.plc false s := by
  have hsn : f.seg ≠ 0x40 → f.seg.toNat % 64 ≠ 0 := fun hne hm => hne (BitVec.eq_of_toNat_eq (show f.seg.toNat = 64 by omega))
  unfold tpReceive
  dsimp only
  rw [if_neg (by rw [hu]; decide), if_pos (by omega), if_pos]
  rcases hb with hb | hb | hb
  · exact .inr (.inr (hsn hb))
  · exact .inl hb
  · exact .inr (.inl hb)

theorem tpReceive_runless (h1 : 128 ≤ f.seg.toNat) (h2 : f.seg.toNat < 192) (hr : tpRunOf s (f.unit.val + 1) f.plc false = none) : tpReceive f s = s := by
  unfold tpReceive
  dsimp only
  rw [if_neg (by rw [hu]; decide), if_neg (by omega), if_pos (by omega), hr]

/-- A frame out of sequence aborts the run, and says which it was to be. -/
theorem tpReceive_unordered {r : TpRun} (h1 : 128 ≤ f.seg.toNat) (h2 : f.seg.toNat < 192) (hr : tpRunOf s (f.unit.val + 1) f.plc false = some r)
    (hn : f.seg.toNat ≠ 128 + r.next % 64) : tpReceive f s = tpAck (f.unit.val + 1) f.plc r.next 2 (tpAbort (f.unit.val + 1) f.plc false s) := by
  unfold tpReceive
  dsimp only
  rw [if_neg (by rw [hu]; decide), if_neg (by omega), if_pos (by omega), hr]
  exact if_pos (by omega)

/-- The next frame of a PDU that it does not complete. -/
theorem tpReceive_next {r : TpRun} (hr : tpRunOf s (f.unit.val + 1) f.plc false = some r) (hn : f.seg.toNat = 128 + r.next % 64) (hl : r.data.length + f.body.length < r.length) :
    tpReceive f s = if r.next % (tpSizes f.plc).2.2 = 0 then tpAck (f.unit.val + 1) f.plc (r.next + 1) 0 (tpPut { r with data := r.data ++ f.body, next := r.next + 1 } s)
      else tpPut { r with data := r.data ++ f.body, next := r.next + 1 } s := by
  have hdata : (r.data ++ f.body).take r.length = r.data ++ f.body := List.take_of_length_le (by rw [List.length_append]; omega)
  unfold tpReceive
  dsimp only
  rw [if_neg (by rw [hu]; decide), if_neg (by omega), if_pos (by omega), hr]
  dsimp only
  rw [if_neg (by omega), hdata, if_neg (by rw [List.length_append]; omega)]

/-- The frame that completes a PDU. -/
theorem tpReceive_last {r : TpRun} (hr : tpRunOf s (f.unit.val + 1) f.plc false = some r) (hn : f.seg.toNat = 128 + r.next % 64) (hl : r.length ≤ r.data.length + f.body.length) :
    tpReceive f s = cplAssembled f.unit f.plc ((r.data ++ f.body).take r.length) (tpAck (f.unit.val + 1) f.plc (r.next + 1) 1 (tpDrop (f.unit.val + 1) f.plc false s)) := by
  unfold tpReceive
  dsimp only
  rw [if_neg (by rw [hu]; decide), if_neg (by omega), if_pos (by omega), hr]
  dsimp only
  rw [if_neg (by omega), if_pos (by rw [List.length_take, List.length_append]; omega)]

end

/-- A PDU of a type that R211 does not list is counted, whatever its length says. -/
theorem cplAssembled_unlisted {u : Fin 3} {plc : Bool} {b : Bytes} {n : Nat} {s : State} (h : cplSteps (byteAt b 0) = none) : cplAssembled u plc (b.take n) s = regInc 0x40070014 16 s := by
  have hstep : ¬ (b.take n).length < 6 → cplSteps (byteAt (b.take n) 0) = none := fun hl => by
    rw [List.length_take] at hl
    rw [← h, byteAt, byteAt, List.getD_eq_getElem?_getD, List.getElem?_take, if_pos (by omega), ← List.getD_eq_getElem?_getD]
  unfold cplAssembled
  dsimp only
  split
  case isTrue => rfl
  case isFalse hlen => rw [hstep fun hl => hlen (Or.inl hl)]

end Sys2Proof.Machine
end

section
/-! The rows of the coupling transport, each from its event to the runs that it leaves (R510, R513). -/
namespace Sys2Proof.Machine

/-! ### The end of the event -/

theorem tpRunOf_concluded {s t : State} (h : Concluded s t) (u : Nat) (plc sending : Bool) : tpRunOf t u plc sending = tpRunOf s u plc sending :=
  tpRunOf_congr (by rw [h.bus]) u plc sending

theorem RunAborted.of_concluded {u : Nat} {plc sending : Bool} {s t w : State} (h : RunAborted u plc sending s t) (k : Concluded t w) : RunAborted u plc sending s w :=
  h.after (by rw [k.bus]) (fun a _ => by rw [k.rest]; rfl) k.cpl

/-- An acknowledgement that leaves is among what the event emits. -/
theorem tpAck_answered {u sn st : Nat} {s r t : State} (hc : r.cfg = s.cfg) (hr : regGet r 0x400C0080 = regGet s 0x400C0080)
    (he : ∀ e ∈ (tpAck u false sn st r).emit, e ∈ t.emit) : TpAnswered u sn st s t := (tpAck_answers u sn st r).of_kept hc hr he

/-- A run that is put is the run of its route. -/
theorem tpRunOf_tpPut_route {u : Nat} {plc sending : Bool} {r : TpRun} (h : r.unit = u ∧ r.onPlc = plc ∧ r.sending = sending) (s : State) :
    tpRunOf (tpPut r s) u plc sending = some r := by
  obtain ⟨rfl, rfl, rfl⟩ := h
  exact tpRunOf_tpPut r s

/-- An event that leaves all but the runs of the transport. -/
theorem act_whenAwake_tp {f : State → State} {tp : List TpRun} {s : State} (ha : awake s = true) (hi : s.LinkInv) (hf : f (fresh s) = { fresh s with bus := { s.bus with tp := tp } }) :
    act (whenAwake f) s = .next { fresh s with bus := { s.bus with tp := tp } } := by
  rw [← hf]
  exact act_whenAwake_quiet ha (by rw [hf]; exact linkInv_congr rfl rfl rfl rfl rfl rfl rfl rfl hi) (by rw [hf]; rfl)

theorem act_whenAwake_tpDrop {f : State → State} {u : Nat} {plc sending : Bool} {s : State} (ha : awake s = true) (hi : s.LinkInv) (hf : f (fresh s) = tpDrop u plc sending (fresh s)) :
    ∃ t, act (whenAwake f) s = .next t ∧ t = { fresh s with bus := { s.bus with tp := t.bus.tp } } ∧ tpRunOf t u plc sending = none :=
  ⟨_, act_whenAwake_tp ha hi hf, rfl, tpRunOf_tpDrop u plc sending (fresh s)⟩

theorem act_whenAwake_tpPut {f : State → State} {r : TpRun} {s : State} (ha : awake s = true) (hi : s.LinkInv) (hf : f (fresh s) = tpPut r (fresh s)) :
    ∃ t, act (whenAwake f) s = .next t ∧ t = { fresh s with bus := { s.bus with tp := t.bus.tp } } ∧ tpRunOf t r.unit r.onPlc r.sending = some r :=
  ⟨_, act_whenAwake_tp ha hi hf, rfl, tpRunOf_tpPut r (fresh s)⟩

theorem act_whenAwake_tpAbort {f : State → State} {u : Nat} {plc sending : Bool} {s : State} (ha : awake s = true) (hf : f (fresh s) = tpAbort u plc sending (fresh s)) :
    ∃ t, act (whenAwake f) s = .next t ∧ RunAborted u plc sending s t := by
  obtain ⟨t, hx, hc⟩ := act_whenAwake_concluded (f := f) ha
  rw [hf] at hc
  exact ⟨t, hx, ((tpAbort_aborts u plc sending (fresh s)).before (s := s) rfl rfl).of_concluded hc⟩

/-! ### Frames that come -/

/-- In Noon or Dusk, a frame on the route of a unit that the role couples. -/
structure FrameReady (f : TpFrame) (s : State) : Prop where
  awake : awake s = true
  inv : s.LinkInv
  unit : (cplUnits s).contains (f.unit.val + 1) = true

theorem exec_tpSegmentFrame_ignored {f : TpFrame} {s : State} (hi : s.LinkInv)
    (h : awake s = false ∨ (cplUnits s).contains (f.unit.val + 1) = false ∨ f.seg.toNat < 64 ∨ 192 ≤ f.seg.toNat) : exec (.tpSegmentFrame f) s = .next (fresh s) :=
  h.elim (fun h => act_whenAwake_asleep hi h) fun h => act_whenAwake_idle hi (tpReceive_other (s := fresh s) h)

theorem exec_tpSegmentFrame_runless {f : TpFrame} {s : State} (h : FrameReady f s) (h1 : 128 ≤ f.seg.toNat) (h2 : f.seg.toNat < 192) (hr : tpRunOf s (f.unit.val + 1) f.plc false = none) :
    exec (.tpSegmentFrame f) s = .next (fresh s) := act_whenAwake_idle h.inv (tpReceive_runless (s := fresh s) h.unit h1 h2 hr)

theorem exec_tpSegmentFrame_first {f : TpFrame} {s : State} (h : FrameReady f s) (hk : f.seg = 0x40) (hl : 14 ≤ at_ f.body 0 2) (hh : at_ f.body 0 2 ≤ 2054) :
    ∃ t, exec (.tpSegmentFrame f) s = .next t ∧ t = { fresh s with bus := { s.bus with tp := t.bus.tp } } ∧
      tpRunOf t (f.unit.val + 1) f.plc false =
        some { unit := f.unit.val + 1, onPlc := f.plc, sending := false, length := at_ f.body 0 2, data := f.body.drop 2, next := 1, resent := false } :=
  act_whenAwake_tpPut h.awake h.inv (tpReceive_first (s := fresh s) h.unit hk hl hh)

theorem exec_tpSegmentFrame_badFirst {f : TpFrame} {s : State} (h : FrameReady f s) (h1 : 64 ≤ f.seg.toNat) (h2 : f.seg.toNat < 128)
    (hb : f.seg ≠ 0x40 ∨ at_ f.body 0 2 < 14 ∨ 2054 < at_ f.body 0 2) :
    ∃ t, exec (.tpSegmentFrame f) s = .next t ∧ t = { fresh s with bus := { s.bus with tp := t.bus.tp } } ∧ tpRunOf t (f.unit.val + 1) f.plc false = none :=
  act_whenAwake_tpDrop h.awake h.inv (tpReceive_badFirst (s := fresh s) h.unit h1 h2 hb)

/-- A run with one more frame. -/
def extendedRun (r : TpRun) (body : Bytes) : TpRun := { r with data := r.data ++ body, next := r.next + 1 }

theorem exec_tpSegmentFrame_next {f : TpFrame} {r : TpRun} {s : State} (h : FrameReady f s) (hr : tpRunOf s (f.unit.val + 1) f.plc false = some r)
    (hn : f.seg.toNat = 128 + r.next % 64) (hl : r.data.length + f.body.length < r.length) (hb : r.next % (tpSizes f.plc).2.2 ≠ 0) :
    ∃ t, exec (.tpSegmentFrame f) s = .next t ∧ t = { fresh s with bus := { s.bus with tp := t.bus.tp } } ∧
      tpRunOf t (f.unit.val + 1) f.plc false = some (extendedRun r f.body) := by
  obtain ⟨hu, hp, hs⟩ := tpRunOf_some hr
  rw [← hu, ← hp, ← hs]
  exact act_whenAwake_tpPut h.awake h.inv ((tpReceive_next (s := fresh s) h.unit hr hn hl).trans (if_neg hb))

/-- The last frame of a block of ISO 11992 is acknowledged. -/
theorem exec_tpSegmentFrame_blockEnd {f : TpFrame} {r : TpRun} {s : State} (h : FrameReady f s) (hp : f.plc = false) (hr : tpRunOf s (f.unit.val + 1) false false = some r)
    (hn : f.seg.toNat = 128 + r.next % 64) (hl : r.data.length + f.body.length < r.length) (hb : r.next % 16 = 0) :
    ∃ t, exec (.tpSegmentFrame f) s = .next t ∧ tpRunOf t (f.unit.val + 1) false false = some (extendedRun r f.body) ∧ TpAnswered (f.unit.val + 1) (r.next + 1) 0 s t := by
  have hf := (tpReceive_next (s := fresh s) h.unit (by rw [hp]; exact hr) hn hl).trans (if_pos (by rw [hp]; exact hb))
  rw [hp] at hf
  obtain ⟨t, hx, hc⟩ := act_whenAwake_concluded (f := tpReceive f) h.awake
  rw [hf] at hc
  have hat := tpRunOf_some hr
  have hput := tpRunOf_tpPut_route (r := extendedRun r f.body) hat (fresh s)
  exact ⟨t, hx, (tpRunOf_concluded hc _ _ _).trans ((tpRunOf_congr (tpFrame_tp _ _ _ _ _ _) _ _ _).trans hput),
    tpAck_answered (r := tpPut (extendedRun r f.body) (fresh s)) rfl rfl hc.emit⟩

theorem tpAck_aborted {u sn st v : Nat} {plc sending p : Bool} {s t : State} (h : RunAborted u plc sending s t) : RunAborted u plc sending s (tpAck v p sn st t) :=
  h.after (tpFrame_tp _ _ _ _ _ t) (fun _ ha => tpFrame_regs ha) (tpFrame_rigKept _ _ _ _ _ t).cpl

theorem exec_tpSegmentFrame_unordered {f : TpFrame} {r : TpRun} {s : State} (h : FrameReady f s) (hr : tpRunOf s (f.unit.val + 1) f.plc false = some r)
    (h1 : 128 ≤ f.seg.toNat) (h2 : f.seg.toNat < 192) (hn : f.seg.toNat ≠ 128 + r.next % 64) :
    ∃ t, exec (.tpSegmentFrame f) s = .next t ∧ RunAborted (f.unit.val + 1) f.plc false s t ∧ (f.plc = false → TpAnswered (f.unit.val + 1) r.next 2 s t) := by
  obtain ⟨t, hx, hc⟩ := act_whenAwake_concluded (f := tpReceive f) h.awake
  rw [tpReceive_unordered (s := fresh s) h.unit h1 h2 hr hn] at hc
  have hab := (tpAbort_aborts (f.unit.val + 1) f.plc false (fresh s)).before (s := s) rfl rfl
  refine ⟨t, hx, (tpAck_aborted hab).of_concluded hc, fun hp => ?_⟩
  rw [hp] at hc
  obtain ⟨hcfg, hroute⟩ := tpAbort_route (f.unit.val + 1) false false (fresh s)
  exact tpAck_answered (s := s) hcfg hroute hc.emit

/-- The last frame of a PDU of a type that R211 does not list: the run ends and the PDU counts. -/
theorem exec_tpSegmentFrame_unlisted {f : TpFrame} {r : TpRun} {s : State} (h : FrameReady f s) (hr : tpRunOf s (f.unit.val + 1) f.plc false = some r)
    (hn : f.seg.toNat = 128 + r.next % 64) (hl : r.length ≤ r.data.length + f.body.length) (hk : cplSteps (byteAt (r.data ++ f.body) 0) = none) :
    ∃ t, exec (.tpSegmentFrame f) s = .next t ∧ tpRunOf t (f.unit.val + 1) f.plc false = none ∧ CountsOne 0x40070014 s t ∧ t.cpl = s.cpl ∧
      (f.plc = false → TpAnswered (f.unit.val + 1) (r.next + 1) 1 s t) := by
  obtain ⟨t, hx, hc⟩ := act_whenAwake_concluded (f := tpReceive f) h.awake
  rw [tpReceive_last (s := fresh s) h.unit hr hn hl, cplAssembled_unlisted hk] at hc
  have hcount := regInc_counts 0x40070014 (tpAck (f.unit.val + 1) f.plc (r.next + 1) 1 (tpDrop (f.unit.val + 1) f.plc false (fresh s)))
  have hreg : regGet (tpAck (f.unit.val + 1) f.plc (r.next + 1) 1 (tpDrop (f.unit.val + 1) f.plc false (fresh s))) 0x40070014 = regGet s 0x40070014 := tpFrame_regs (by decide)
  have hkept := (tpFrame_rigKept f.plc 4 _ _ _ _ : RigKept _ (tpAck (f.unit.val + 1) f.plc (r.next + 1) 1 (tpDrop (f.unit.val + 1) f.plc false (fresh s))))
  refine ⟨t, hx, ?_, ?_, ?_, fun hp => ?_⟩
  · exact (tpRunOf_concluded hc _ _ _).trans ((tpRunOf_congr (tpFrame_tp _ _ _ _ _ _) _ _ _).trans (tpRunOf_tpDrop _ _ _ (fresh s)))
  · exact hcount.congr hreg.symm (by rw [hc.rest]; rfl)
  · exact hc.cpl.trans hkept.cpl
  · rw [hp] at hc
    exact tpAck_answered (r := tpDrop (f.unit.val + 1) false false (fresh s)) rfl rfl fun e he => hc.emit e ((regInc_rigKept (by decide) 16 _).emit e he)

/-! ### Acknowledgements and silence -/

theorem exec_tpAckFrame_runless {u : Fin 3} {plc : Bool} {sn : Fin 64} {st : Byte} {s : State} (hi : s.LinkInv) (hr : tpRunOf s (u.val + 1) plc true = none) :
    exec (.tpAckFrame u plc sn st) s = .next (fresh s) := by
  refine act_whenAwake_idle hi ?_
  rw [tpAcked, show tpRunOf (fresh s) (u.val + 1) plc true = none from hr]

theorem tpAcked_run {u sn st : Nat} {plc : Bool} {r : TpRun} {s : State} (hr : tpRunOf s u plc true = some r) :
    tpAcked u plc sn st s = if st = 1 then tpDrop u plc true s else if st = 2 then tpAbort u plc true s
      else if st = 0 ∧ sn = r.next % 64 ∧ r.next ≤ tpCount plc r.length then
        tpSend r r.next (blockEnd plc r.length r.next) (tpPut { r with next := blockEnd plc r.length r.next + 1, resent := false } s) else s := by
  rw [tpAcked, hr]

theorem exec_tpAckFrame_done {u : Fin 3} {plc : Bool} {sn : Fin 64} {s : State} (hi : s.LinkInv) (ha : awake s = true) :
    ∃ t, exec (.tpAckFrame u plc sn 1) s = .next t ∧ tpRunOf t (u.val + 1) plc true = none ∧ t = { fresh s with bus := { s.bus with tp := t.bus.tp } } := by
  cases hr : tpRunOf s (u.val + 1) plc true with
  | none => exact ⟨fresh s, exec_tpAckFrame_runless hi hr, hr, rfl⟩
  | some r =>
    obtain ⟨t, hx, ht, hrun⟩ := act_whenAwake_tpDrop (f := tpAcked (u.val + 1) plc sn.val 1) ha hi ((tpAcked_run (s := fresh s) hr).trans (if_pos rfl))
    exact ⟨t, hx, hrun, ht⟩

theorem exec_tpAckFrame_aborted {u : Fin 3} {plc : Bool} {sn : Fin 64} {r : TpRun} {s : State} (ha : awake s = true) (hr : tpRunOf s (u.val + 1) plc true = some r) :
    ∃ t, exec (.tpAckFrame u plc sn 2) s = .next t ∧ RunAborted (u.val + 1) plc true s t :=
  act_whenAwake_tpAbort (f := tpAcked (u.val + 1) plc sn.val 2) ha ((tpAcked_run (s := fresh s) hr).trans ((if_neg (by decide)).trans (if_pos rfl)))

/-- The next block goes out. -/
theorem exec_tpAckFrame_continues {u : Fin 3} {sn : Fin 64} {r : TpRun} {s : State} (ha : awake s = true) (hr : tpRunOf s (u.val + 1) false true = some r)
    (hs : sn.val = r.next % 64) (h1 : 1 ≤ r.next) (h2 : r.next ≤ tpCount false r.length) :
    ∃ t, exec (.tpAckFrame u false sn 0) s = .next t ∧ tpRunOf t (u.val + 1) false true = some { r with next := blockEnd false r.length r.next + 1, resent := false } ∧
      ∃ id, Emission.canTx 0 id true ([byte (0x80 + r.next % 64), routeByte s (u.val + 1)] ++ fit 6 (slice r.data (4 + (r.next - 1) * 6) 6)) ∈ t.emit := by
  obtain ⟨hru, hrp, hrs⟩ := tpRunOf_some hr
  have hend : r.next ≤ blockEnd false r.length r.next := by
    rw [blockEnd, if_neg (by omega)]
    exact le_min h2 (show r.next ≤ r.next - 1 + 16 by omega)
  obtain ⟨t, hx, hc⟩ := act_whenAwake_concluded (f := tpAcked (u.val + 1) false sn.val 0) ha
  rw [tpAcked_run (s := fresh s) hr, if_neg (by decide), if_neg (by decide), if_pos ⟨rfl, hs, h2⟩] at hc
  have hput := tpRunOf_tpPut_route (r := { r with next := blockEnd false r.length r.next + 1, resent := false }) ⟨hru, hrp, hrs⟩ (fresh s)
  obtain ⟨id, hid⟩ := tpSend_iso_emits hrp h1 hend (tpPut { r with next := blockEnd false r.length r.next + 1, resent := false } (fresh s))
  have hroute : routeByte (tpPut { r with next := blockEnd false r.length r.next + 1, resent := false } (fresh s)) r.unit = routeByte s (u.val + 1) := hru ▸ rfl
  rw [hroute] at hid
  exact ⟨t, hx, (tpRunOf_concluded hc _ _ _).trans ((tpRunOf_congr (tpSend_tp _ _ _ _) _ _ _).trans hput), id, hc.emit _ hid⟩

theorem exec_tpAckFrame_other {u : Fin 3} {plc : Bool} {sn : Fin 64} {st : Byte} {r : TpRun} {s : State} (hi : s.LinkInv) (hr : tpRunOf s (u.val + 1) plc true = some r)
    (h1 : st ≠ 1) (h2 : st ≠ 2) (h : st ≠ 0 ∨ sn.val ≠ r.next % 64 ∨ tpCount plc r.length < r.next) : exec (.tpAckFrame u plc sn st) s = .next (fresh s) := by
  refine act_whenAwake_idle hi ?_
  have hst : ∀ n : Byte, st ≠ n → st.toNat ≠ n.toNat := fun n hn hc => hn (BitVec.eq_of_toNat_eq hc)
  refine (tpAcked_run (s := fresh s) hr).trans ((if_neg (hst 1 h1)).trans ((if_neg (hst 2 h2)).trans (if_neg ?_)))
  rintro ⟨h0, hs, hle⟩
  rcases h with h | h | h
  · exact hst 0 h h0
  · exact h hs
  · omega

theorem exec_tpGapTimeout_aborts {u : Fin 3} {plc : Bool} {r : TpRun} {s : State} (ha : awake s = true) (hr : tpRunOf s (u.val + 1) plc false = some r) :
    ∃ t, exec (.tpGapTimeout u plc) s = .next t ∧ RunAborted (u.val + 1) plc false s t :=
  act_whenAwake_tpAbort (f := tpGap (u.val + 1) plc) ha (if_pos (by rw [show tpRunOf (fresh s) (u.val + 1) plc false = some r from hr]; rfl))

theorem exec_tpGapTimeout_idle {u : Fin 3} {plc : Bool} {s : State} (hi : s.LinkInv) (hr : tpRunOf s (u.val + 1) plc false = none) :
    exec (.tpGapTimeout u plc) s = .next (fresh s) :=
  act_whenAwake_idle hi (if_neg (by rw [show tpRunOf (fresh s) (u.val + 1) plc false = none from hr]; decide))

theorem exec_tpAckTimeout_aborts {u : Fin 3} {plc : Bool} {r : TpRun} {s : State} (ha : awake s = true) (hr : tpRunOf s (u.val + 1) plc true = some r) (hs : r.resent = true) :
    ∃ t, exec (.tpAckTimeout u plc) s = .next t ∧ RunAborted (u.val + 1) plc true s t := by
  refine act_whenAwake_tpAbort (f := tpSilent (u.val + 1) plc) ha ?_
  rw [tpSilent, show tpRunOf (fresh s) (u.val + 1) plc true = some r from hr]
  exact if_pos hs

theorem exec_tpAckTimeout_resends {u : Fin 3} {plc : Bool} {r : TpRun} {s : State} (ha : awake s = true) (hr : tpRunOf s (u.val + 1) plc true = some r) (hs : r.resent = false) :
    ∃ t, exec (.tpAckTimeout u plc) s = .next t ∧ tpRunOf t (u.val + 1) plc true = some { r with resent := true } ∧ t.cpl = s.cpl := by
  obtain ⟨t, hx, hc⟩ := act_whenAwake_concluded (f := tpSilent (u.val + 1) plc) ha
  rw [tpSilent, show tpRunOf (fresh s) (u.val + 1) plc true = some r from hr] at hc
  dsimp only at hc
  rw [if_neg (by rw [hs]; decide)] at hc
  have hat := tpRunOf_some hr
  have hput := tpRunOf_tpPut_route (r := { r with resent := true }) hat (fresh s)
  exact ⟨t, hx, (tpRunOf_concluded hc _ _ _).trans ((tpRunOf_congr (tpSend_tp _ _ _ _) _ _ _).trans hput), hc.cpl.trans (tpSend_rigKept _ _ _ _).cpl⟩

theorem exec_tpAckTimeout_idle {u : Fin 3} {plc : Bool} {s : State} (hi : s.LinkInv) (hr : tpRunOf s (u.val + 1) plc true = none) :
    exec (.tpAckTimeout u plc) s = .next (fresh s) := by
  refine act_whenAwake_idle hi ?_
  rw [tpSilent, show tpRunOf (fresh s) (u.val + 1) plc true = none from hr]

end Sys2Proof.Machine
end

section
/-! The timers and the transport of couplings, settled. -/
namespace Sys2Proof.Machine

theorem UnitReady.of_and {u : Fin 3} {s : State} (h : Machine.awake s = true ∧ s.LinkInv ∧ (cplUnits s).contains (u.val + 1) = true ∧ s.cpl.units.map (·.unit) = [1, 2, 3]) : UnitReady u s :=
  have ⟨awake, inv, unit, kept⟩ := h
  ⟨awake, inv, unit, kept⟩

theorem CplAble.of_and {s : State} (h : s.cpl.cert.length = 148 ∧ (∃ k, couplingKey s = .ok k) ∧ randomOk s = true) : CplAble s :=
  have ⟨cert, key, random⟩ := h
  ⟨cert, key, random⟩

theorem FrameReady.of_and {f : TpFrame} {s : State} (h : Machine.awake s = true ∧ s.LinkInv ∧ (cplUnits s).contains (f.unit.val + 1) = true) : FrameReady f s :=
  have ⟨awake, inv, unit⟩ := h
  ⟨awake, inv, unit⟩

/-- An event that leaves nothing of a coupling, as the obligation says it. -/
theorem exec_gone {i : Instr} {u : Nat} {s : State} (h : ∃ t, exec i s = .next t ∧ UnitGone u t) :
    ∃ t, exec i s = .next t ∧ (unitOf t u).state = .none ∧ (unitOf t u).boundary = 0 ∧ (∀ j < 3, sessionKey t u j = none) ∧ ∀ x ∈ t.sns.sensors, ¬ (x.state = .partner ∧ x.srcUnit = u) := by
  obtain ⟨t, hx, hg⟩ := h
  exact ⟨t, hx, hg.state, hg.boundary, hg.parted.keys, hg.parted.sensors⟩

/-- An event that aborts a run, as the obligation says it. -/
theorem exec_aborts {i : Instr} {u : Nat} {plc sending : Bool} {s : State} (h : ∃ t, exec i s = .next t ∧ RunAborted u plc sending s t) :
    ∃ t, exec i s = .next t ∧ tpRunOf t u plc sending = none ∧ (plc = true → CountsOne 0x400D0028 s t ∧ regBit t 0x400D0008 6 = true) ∧
      (plc = false → CountsOne 0x400C0044 s t ∧ regBit t 0x400C0008 9 = true) ∧ t.cpl = s.cpl := by
  obtain ⟨t, hx, ha⟩ := h
  exact ⟨t, hx, ha.run, ha.j2497, ha.iso11992, ha.cpl⟩

end Sys2Proof.Machine

open Sys2Proof Sys2Proof.Machine

/-- Settles O52: one lemma for each of the rows' cases, the timers' and then the transport's. -/
theorem couplingTimersAndTransport : Obligations.CouplingTimersAndTransport := by
  unfold Obligations.CouplingTimersAndTransport
  refine ⟨⟨?linkUp, ?linkUpTrailer, ?linkUpIgnored, ?keepalive, ?keepaliveIdle, ?resends, ?fails, ?stepIdle, ?hello, ?helloIdle, ?fallback, ?fallbackIdle, ?suspends, ?unheld, ?abandons,
    ?resume, ?lossIdle, ?hold, ?holdIdle, ?basic, ?restart, ?restartIdle, ?missed, ?silent, ?grantIdle⟩,
    ?ignored, ?first, ?badFirst, ?runless, ?next, ?blockEnd, ?unordered, ?unlisted, ?ackRunless, ?done, ?refused, ?continues, ?ackOther, ?gap, ?gapIdle, ?unanswered, ?resendsBlock, ?ackIdle⟩
  case linkUp => exact fun s u long hr ha ht hm hs hauto hl => exec_couplingLinkUp_begins (.of_and hr) (.of_and ha) ht hm hs hauto hl
  case linkUpTrailer => exact fun s u hr ht hm hs => exec_couplingLinkUp_trailer (.of_and hr) ht hm hs
  case linkUpIgnored => exact fun s u plc long hi h => exec_couplingLinkUp_ignored hi h
  case keepalive => exact fun s u key hr hs hk => exec_keepalive_sends (.of_and hr) hs hk
  case keepaliveIdle => exact fun s u hi h => exec_keepalive_idle hi h
  case resends => exact fun s u hr hs hw hre hb hl => exec_stepTo_resends (.of_and hr) hs hw hre hb hl
  case fails => exact fun s u hr hs hw hre => exec_stepTo_fails (.of_and hr) hs hw hre
  case stepIdle => exact fun s u hi h => exec_stepTo_idle hi h
  case hello => exact fun s hr ha ht hl hp hauto hro hs => exec_helloWaitTimeout_begins (.of_and hr) (.of_and ha) ht hl hp hauto hro hs
  case helloIdle => exact fun s u hi h => exec_helloWaitTimeout_idle hi h
  case fallback => exact fun s hr ht hm hl hs => exec_mediumFallback_trailer (.of_and hr) ht hm hl hs
  case fallbackIdle => exact fun s u hi h => exec_mediumFallback_idle hi h
  case suspends => exact fun s u hr hs hh => exec_couplingLinkLoss_suspends (.of_and hr) hs hh
  case unheld => exact fun s u hr hs hh => exec_gone (exec_couplingLinkLoss_unheld (.of_and hr) hs hh)
  case abandons => exact fun s u hr hs hre => exec_couplingLinkLoss_abandons (.of_and hr) hs hre
  case resume => exact fun s u hr hs hre => exec_couplingLinkLoss_resume (.of_and hr) hs hre
  case lossIdle =>
    intro s u hr hs
    exact exec_couplingLinkLoss_idle (.of_and hr) (by rcases hs with hs | hs | hs | hs <;> simp [hs]) (by rcases hs with hs | hs | hs | hs <;> simp [hs])
  case hold => exact fun s u hr h => exec_gone (exec_holdExpiry_decouples (.of_and hr) h)
  case holdIdle => exact fun s u hi h hh => exec_holdExpiry_idle hi h hh
  case basic => exact fun s u hr hs h => exec_couplingRestart_basic (.of_and hr) hs h
  case restart =>
    intro s u hr ha hs hro hl hp
    obtain ⟨t, hx, hb, hn⟩ := exec_couplingRestart_begins (.of_and hr) (.of_and ha) hs hro hl hp
    exact ⟨⟨t, hx, hb⟩, t, hx, hn⟩
  case restartIdle => exact fun s u hi h => exec_couplingRestart_idle hi h
  case missed => exact fun s hi ha hr hrel hm => exec_grantRepeatTimeout_first hi ha hr hrel hm
  case silent => exact fun s _ ha hr hrel hm => exec_grantRepeatTimeout_second ha hr hrel hm
  case grantIdle => exact fun s hi h => exec_grantRepeatTimeout_idle hi h
  case ignored => exact fun s f hi h => exec_tpSegmentFrame_ignored hi h
  case first => exact fun s f hr hk hl hh => exec_tpSegmentFrame_first (.of_and hr) hk hl hh
  case badFirst => exact fun s f hr h1 h2 hb => exec_tpSegmentFrame_badFirst (.of_and hr) h1 h2 hb
  case runless => exact fun s f hr h1 h2 hn => exec_tpSegmentFrame_runless (.of_and hr) h1 h2 hn
  case next => exact fun s f r hr hrun hn hl hb => exec_tpSegmentFrame_next (.of_and hr) hrun hn hl hb
  case blockEnd => exact fun s f r hr hp hrun hn hl hb => exec_tpSegmentFrame_blockEnd (.of_and hr) hp hrun hn hl hb
  case unordered =>
    intro s f r hr hrun h1 h2 hn
    obtain ⟨t, hx, ha, hans⟩ := exec_tpSegmentFrame_unordered (.of_and hr) hrun h1 h2 hn
    exact ⟨exec_aborts ⟨t, hx, ha⟩, fun hp => ⟨t, hx, hans hp⟩⟩
  case unlisted => exact fun s f r hr hrun hn hl hk => exec_tpSegmentFrame_unlisted (.of_and hr) hrun hn hl hk
  case ackRunless => exact fun s u plc sn st hi hr => exec_tpAckFrame_runless hi hr
  case done => exact fun s u plc sn hi ha => exec_tpAckFrame_done hi ha
  case refused => exact fun s u plc sn r _ ha hr => exec_aborts (exec_tpAckFrame_aborted ha hr)
  case continues => exact fun s u sn r _ ha hr hs h1 h2 => exec_tpAckFrame_continues ha hr hs h1 h2
  case ackOther => exact fun s u plc sn st r hi hr h1 h2 h => exec_tpAckFrame_other hi hr h1 h2 h
  case gap => exact fun s u plc r _ ha hr => exec_aborts (exec_tpGapTimeout_aborts ha hr)
  case gapIdle => exact fun s u plc hi hr => exec_tpGapTimeout_idle hi hr
  case unanswered => exact fun s u plc r _ ha hr hs => exec_aborts (exec_tpAckTimeout_aborts ha hr hs)
  case resendsBlock => exact fun s u plc r _ ha hr hs => exec_tpAckTimeout_resends ha hr hs
  case ackIdle => exact fun s u plc hi hr => exec_tpAckTimeout_idle hi hr

end

section
/-! A commit of the frame-counter table that fails in both copies, on a page that had no valid copy before it (R234, R302, R303): the page's entries read as zero. -/
namespace Sys2Proof.Machine

/-- The frame counters without the entries of a page of the table. -/
def withoutPage (page : Nat) (l : List (Nat × Nat)) : List (Nat × Nat) := l.filter fun x => 1040 + x.1 / 64 != page

/-- A page of the frame-counter table that cannot be read loses its entries when it is written in part (R303). -/
theorem keysZero_fcnt {page : Nat} {s : State} (hp : page = 1040 ∨ page = 1041) (hr : (metaOf s page).readable = false) :
    keysZero page s = modSensing (fun n => { n with fcnt := withoutPage page n.fcnt }) s := by
  rcases hp with rfl | rfl <;> simp [keysZero, hr, modSensing, withoutPage]

/-- The one waiting frame is dropped with the failed commit, and with it what its unreadable page held (R234, R303). -/
theorem fcntCommit_unreadable {rb : ReadBack} {w : WaitFrame} {s : State} (ha : rb.a = 2) (hb : rb.b = 2) (hf : s.sns.frames = [w]) (hw : w.record < 64)
    (hr : (metaOf s 1040).readable = false) :
    (fcntCommit rb s).sns = { s.sns with frames := [], fcnt := withoutPage 1040 s.sns.fcnt } := by
  have hpage : w.record / 64 = 0 := Nat.div_eq_of_lt hw
  simp only [fcntCommit, hf, ha, hb, List.any_cons, List.any_nil, hpage, Bool.or_false, and_self, if_true]
  exact (pageCommit_kept _ _ _ _).sns.trans (congrArg State.sns (keysZero_fcnt (s := modSensing (fun n => { n with frames := [] }) s) (.inl rfl) hr))

/-- The row, from its event to the sensing state that it leaves. -/
theorem exec_fcntCommit_unreadable {rb : ReadBack} {w : WaitFrame} {s : State} (h : awake s = true) (ha : rb.a = 2) (hb : rb.b = 2) (hf : s.sns.frames = [w])
    (hw : w.record < 64) (hr : (metaOf s 1040).readable = false) :
    ∃ t, exec (.fcntCommit rb) s = .next t ∧ t.sns = { s.sns with frames := [], fcnt := withoutPage 1040 s.sns.fcnt } := by
  obtain ⟨t, hx, hk⟩ := act_whenAwake_kept (f := fcntCommit rb) h
  exact ⟨t, hx, hk.sns.trans (fcntCommit_unreadable (s := fresh s) ha hb hf hw hr)⟩

/-- In Noon a frame of record 5 waits for its commit; the record's entry stands in a page of the table that has no valid copy, as the failed commit before left it. -/
def unreadableFcnt : State :=
  { State.reset with
    power := { Power.reset with state := .noon, stage := .done, pll := true, vddioOk := true }
    link := { HostLink.reset with answers := true }
    fer := { State.reset.fer with pages := [{ page := 1040, c0 := { gen := 2, ok := false }, c1 := { gen := 2, ok := false }, degraded := some false }] }
    sns := { State.reset.sns with
      fcnt := [(5, 9)], frames := [{ record := 5, fcnt := 10, alarm := false, data := [], flags := 0, rssi := 0, input := 0 }] } }

theorem unreadableFcnt_linkInv : unreadableFcnt.LinkInv := ⟨by decide +kernel, by decide +kernel, by decide +kernel, rfl⟩

end Sys2Proof.Machine

open Sys2Proof Sys2Proof.Machine

/-- Refutes O53: the clause for a commit both of whose copies fail drops the waiting frames and keeps the rest of the sensing state. A page that had no valid copy is written with zeros
around its entry (R303, `keysZero`), so its frame counters go too: in `unreadableFcnt` the entry of record 5. -/
theorem not_sensorFrames : ¬ Obligations.SensorFrames := by
  unfold Obligations.SensorFrames
  rintro ⟨-, -, -, -, -, -, -, -, -, -, -, -, -, -, -, -, -, -, -, -, -, -, -, -, -, -, -, -, -, -, hfails, -⟩
  obtain ⟨t, hx, hstated⟩ := hfails unreadableFcnt { a := 2, b := 2 } ⟨unreadableFcnt_linkInv, rfl⟩ rfl rfl
  obtain ⟨u, hy, hmodel⟩ := exec_fcntCommit_unreadable (s := unreadableFcnt) (rb := { a := 2, b := 2 }) rfl rfl rfl rfl (by decide) rfl
  have hsame : u.sns = t.sns := congrArg State.sns (Host.Outcome.next.inj (hy.symm.trans hx))
  have hcount := congrArg (fun n : Sensing => n.fcnt.length) (hmodel.symm.trans (hsame.trans hstated))
  exact absurd hcount (by decide)

end

section
/-! A read-back that is left over for later when KST_CTRL is written (R296, R302): the end of the command takes it away. -/
namespace Sys2Proof.Machine

/-- In Noon, a read-back is left for later commits. No command leaves such a state behind (`State.LinkInv`), and the statement's clauses for ZEROISE and CLOSE do not ask for that. -/
def readBackLeft : State :=
  { State.reset with
    power := { Power.reset with state := .noon, stage := .done, pll := true, vddioOk := true }
    link := { HostLink.reset with answers := true }
    fer := { State.reset.fer with reads := [{ a := 0, b := 0 }] } }

theorem readBackLeft_awake : awake readBackLeft = true := rfl

theorem LeavesEv.fer {u t : State} (h : LeavesEv u t) : t.fer = u.fer := by
  have hl : Leaves _ t := h
  exact hl.fer

/-- After any command no read-back is left. -/
theorem exec_reads {c : Instr} {s t : State} (h : exec c s = .next t) : t.fer.reads = [] := by
  obtain ⟨-, -, -, hr⟩ := exec_linkInv c s t h
  exact hr

end Sys2Proof.Machine

open Sys2Proof Sys2Proof.Machine

/-- Refutes O55: the clause for ZEROISE asks the host to be awake, and no link invariant; it leaves the FeRAM's side as it was, the read-backs left for later commits with it.
The end of every command takes those away: in `readBackLeft` the one that stands. -/
theorem not_storeEvents : ¬ Obligations.StoreEvents := by
  unfold Obligations.StoreEvents
  rintro ⟨hzeroise, -⟩
  obtain ⟨t, hx, -, hleaves⟩ := hzeroise readBackLeft .host readBackLeft_awake
  have hkept : t.fer = readBackLeft.fer := hleaves.fer
  have hlost := exec_reads hx
  rw [hkept] at hlost
  exact absurd hlost (by decide)

end

section
/-! Commands of the Keys family: how their bodies are reached, and what a body leaves that writes the key store and asks the generator (R265–R288, R384, R385, R616). -/
namespace Sys2Proof.Machine

/-! ### What a request to the generator touches -/

/-- `t` is `s` but for the free values drawn, the count of the DRBG's requests, registers and engines; HIF_CFG is as it was. -/
structure DrawsOnly (s t : State) : Prop where
  rest : t = { s with drawn := t.drawn, cry := t.cry, regs := t.regs, eng := t.eng }
  cfg  : regGet t 0x40010000 = regGet s 0x40010000

namespace DrawsOnly

theorem refl (s : State) : DrawsOnly s s := ⟨rfl, rfl⟩

theorem of_draw (n : Nat) (s : State) : DrawsOnly s (draw n s) := ⟨rfl, rfl⟩

/-- A generate request, and the reseed that its count may ask for (R616). -/
theorem of_generate (n : Nat) (s : State) : DrawsOnly s (generate n s) := by
  unfold generate
  dsimp only
  split
  · obtain ⟨e, he⟩ := raise_eng 0x40110008 8 (regInc 0x40110020 16 { draw n s with cry := { s.cry with gen := 0 } })
    refine ⟨?_, ?_⟩
    · rw [show (draw n s).cry = s.cry from rfl, he]
      rfl
    · rw [show (draw n s).cry = s.cry from rfl, he]
      exact (regGet_regSet_ne (by decide) _ _).trans (regGet_regSet_ne (by decide) _ _)
  · exact ⟨rfl, rfl⟩

section
variable {s t : State} (h : DrawsOnly s t)
include h

theorem ks : t.ks = s.ks := by rw [h.rest]
theorem jrn : t.jrn = s.jrn := by rw [h.rest]
theorem fer : t.fer = s.fer := by rw [h.rest]
theorem link : t.link = s.link := by rw [h.rest]
theorem pending : t.pending = s.pending := by rw [h.rest]

end

end DrawsOnly

theorem generate_drawn (n : Nat) (s : State) : (generate n s).drawn = s.drawn + n := by
  unfold generate
  dsimp only
  split
  · obtain ⟨e, he⟩ := raise_eng 0x40110008 8 (regInc 0x40110020 16 { draw n s with cry := { (draw n s).cry with gen := 0 } })
    rw [he]
    rfl
  · rfl

/-! ### Bodies that leave the link as the packet has left it -/

/-- A body has left the link, HIF_CFG, the read-backs and the waiting commands as they were. -/
structure BodyKept (u x : State) : Prop where
  link    : x.link = u.link
  cfg     : regGet x 0x40010000 = regGet u 0x40010000
  reads   : x.fer.reads = u.fer.reads
  pending : x.pending = u.pending

/-- The state that a body meets. -/
theorem taken_atBody {op : Byte} {p : Packet} {s : State} (h : Ready op p s) : ∃ lk, taken op p (fresh s) = atBody lk s ∧ Leaves s (atBody lk s) := by
  obtain ⟨lk, ht⟩ := taken_frame h
  have hl := taken_leaves h
  rw [ht] at hl
  exact ⟨lk, ht, hl⟩

section
variable {op : Byte} {p : Packet} {s x : State} {lk : HostLink}

/-- A body that replies at once. -/
theorem exec_kept_replied {st : Byte} {pl : Bytes} (h : Ready op p s) (ht : taken op p (fresh s) = atBody lk s) (k : BodyKept (atBody lk s) x)
    (hb : runCommand op p (replyTo op p (fresh s)) (atBody lk s) = reply (replyTo op p (fresh s)) st pl x) (h20 : st ≠ 0x20) (h14 : st ≠ 0x14) :
    ∃ t, act (hostCommand op p) s = .next t ∧ Replied op p st pl s t ∧ Leaves x t := by
  have hp := taken_portsKept op p (fresh s) h.of_fresh
  rw [← ht] at k hb
  have hk : PortsKept op p (fresh s) x :=
    { hcs0 := by rw [k.link], uart := by rw [k.link], cfg := k.cfg.trans hp.cfg, reads := k.reads.trans hp.reads, sent := fun hu o ho => hp.sent hu o (by rwa [k.link] at ho) }
  exact exec_replied h st pl hb hk (by rw [k.pending, ht]; rfl) h20 h14

/-- A body that leaves its reply for later. -/
theorem exec_kept_open (h : Ready op p s) (ht : taken op p (fresh s) = atBody lk s) (k : BodyKept (atBody lk s) x)
    (hb : runCommand op p (replyTo op p (fresh s)) (atBody lk s) = x) : ∃ t, act (hostCommand op p) s = .next t ∧ Leaves x t := by
  obtain ⟨ho, hu, hr⟩ := taken_waits h
  have hp : x.pending = s.pending := k.pending
  rw [← ht] at k hb
  have hset : settle x = { x with link := { x.link with hirq := hirqLevel x } } :=
    settle_level (by simpa [State.ordered, k.link] using ho) (by simpa [State.uartSent, k.link, regBit, k.cfg] using hu) (k.reads.trans hr)
  refine ⟨_, rfl, ?_⟩
  rw [hostCommand_ready h.of_fresh, hb, hset, ← hp]
  rfl

end

/-! ### The Keys family -/

/-- The Keys commands are not gated by a role: their bodies are those of `runKeys` (R376). -/
theorem runCommand_keys {op : Byte} (hlo : 0x30 ≤ op.toNat) (hhi : op.toNat < 0x40) (p : Packet) (r : ReplyTo) (s : State) :
    runCommand op p r s = runKeys op.toNat p r s := by
  have h7 : (op.toNat / 16 == 7) = false := by simp; omega
  have h8 : (op.toNat / 16 == 8) = false := by simp; omega
  simp [runCommand, roleGated, h7, h8, Nat.not_lt.2 hlo, hhi]

/-- The state with the key store, the free values drawn, the DRBG's count, registers and engines as given: all that an immediate Keys command writes. -/
def keysPut (k : KeyStore) (n : Nat) (c : Cry) (v : List (Nat × Word)) (e : Vector Engine 12) (s : State) : State :=
  { s with ks := k, drawn := n, cry := c, regs := v, eng := e }

theorem leaves_keysPut {u v : State} (h : Leaves u v) (k : KeyStore) (n : Nat) (c : Cry) (r : List (Nat × Word)) (e : Vector Engine 12) :
    Leaves (keysPut k n c r e u) (keysPut k n c r e v) := congrArg (keysPut k n c r e) h

theorem withKs_keysPut {u v : State} (h : DrawsOnly u v) (k : KeyStore) : withKs k v = keysPut k v.drawn v.cry v.regs v.eng u := congrArg (withKs k) h.rest

/-- An immediate Keys command that answers, with the key store left as `k` and `n` free values drawn. -/
theorem exec_keys_replied {op : Byte} {p : Packet} {s : State} {st : Byte} {pl : Bytes} {k : KeyStore} {n : Nat} (h : Ready op p s) (h20 : st ≠ 0x20) (h14 : st ≠ 0x14)
    (hb : ∀ lk r, ∃ v, DrawsOnly (atBody lk s) v ∧ v.drawn = s.drawn + n ∧ runCommand op p r (atBody lk s) = reply r st pl (withKs k v)) :
    ∃ t, act (hostCommand op p) s = .next t ∧ Replied op p st pl s t ∧
      Leaves { s with ks := k, drawn := s.drawn + n, cry := t.cry, regs := t.regs, eng := t.eng } t := by
  obtain ⟨lk, ht, hs⟩ := taken_atBody h
  obtain ⟨v, hv, hn, hbody⟩ := hb lk (replyTo op p (fresh s))
  obtain ⟨t, hx, hr, hl⟩ := exec_kept_replied (x := withKs k v) h ht ⟨hv.link, hv.cfg, congrArg Feram.reads hv.fer, hv.pending⟩ hbody h20 h14
  rw [withKs_keysPut hv] at hl
  have hlv := (leaves_keysPut hs k v.drawn v.cry v.regs v.eng).trans hl
  refine ⟨t, hx, hr, ?_⟩
  have hc : t.cry = v.cry := hlv.cry
  have hg : t.regs = v.regs := hlv.regs
  have he : t.eng = v.eng := hlv.eng
  rw [hc, hg, he, ← hn]
  exact hlv

/-- The same where the DRBG is not asked: free values may be drawn, and registers and engines stay. -/
theorem exec_keys_quiet {op : Byte} {p : Packet} {s : State} {st : Byte} {pl : Bytes} {k : KeyStore} (n : Nat) (h : Ready op p s) (h20 : st ≠ 0x20) (h14 : st ≠ 0x14)
    (hb : ∀ lk r, runCommand op p r (atBody lk s) = reply r st pl (withKs k (draw n (atBody lk s)))) :
    ∃ t, act (hostCommand op p) s = .next t ∧ Replied op p st pl s t ∧ Leaves { s with ks := k, drawn := s.drawn + n } t := by
  obtain ⟨lk, ht, hs⟩ := taken_atBody h
  obtain ⟨t, hx, hr, hl⟩ := exec_kept_replied (x := withKs k (draw n (atBody lk s))) h ht ⟨rfl, rfl, rfl, rfl⟩ (hb lk _) h20 h14
  rw [withKs_keysPut (.of_draw n _)] at hl
  exact ⟨t, hx, hr, (leaves_keysPut hs k (s.drawn + n) s.cry s.regs s.eng).trans hl⟩

end Sys2Proof.Machine
end

section
/-! The bodies of the immediate Keys commands, each as one reply and what it writes of the key store (R265–R288, R384). -/
namespace Sys2Proof.Machine

/-! ### What the commands share -/

theorem withRandom_runs {s : State} (h : s.cry.halt = false) (r : ReplyTo) (body : State → State) : withRandom r body s = body s := by
  rw [withRandom, randomOk, h]
  rfl

theorem withRandom_halted {s : State} (h : s.cry.halt = true) (r : ReplyTo) (body : State → State) : withRandom r body s = refuse r stHwFault 0xFFFF 0 s := by
  rw [withRandom, randomOk, h]
  rfl

theorem ksRefusal_open {s : State} (h : s.ks.state = .open) : ksRefusal s = none := by rw [ksRefusal, h]

theorem generate_ks (n : Nat) (s : State) : (generate n s).ks = s.ks := (DrawsOnly.of_generate n s).ks

theorem withKs_generate (n : Nat) (lk : HostLink) (s : State) : withKs s.ks (generate n (atBody lk s)) = generate n (atBody lk s) := by
  rw [← show (generate n (atBody lk s)).ks = s.ks from generate_ks n _]
  rfl

/-- A generate request on another key store is one beside it. -/
theorem DrawsOnly.beside {k : KeyStore} {u w : State} (h : DrawsOnly (withKs k u) w) : ∃ v, DrawsOnly u v ∧ v.drawn = w.drawn ∧ w = withKs k v := by
  have hk : w.ks = k := h.ks
  refine ⟨withKs u.ks w, ⟨congrArg (withKs u.ks) h.rest, h.cfg⟩, rfl, ?_⟩
  rw [← hk]
  rfl

/-- A command that a reply answers at once, with nothing else done. -/
theorem exec_keys_read {op : Byte} {p : Packet} {s : State} {st : Byte} {pl : Bytes} (h : Ready op p s) (h20 : st ≠ 0x20) (h14 : st ≠ 0x14)
    (hb : ∀ lk r, runCommand op p r (atBody lk s) = reply r st pl (atBody lk s)) :
    ∃ t, act (hostCommand op p) s = .next t ∧ Replied op p st pl s t ∧ Leaves s t := exec_keys_quiet (k := s.ks) 0 h h20 h14 hb

/-! ### What the path to the body leaves as it was -/

section
variable (lk : HostLink) (s : State)

@[simp] theorem peekBytes_atBody : peekBytes (atBody lk s) = peekBytes s := rfl
@[simp] theorem drawScalar_atBody : drawScalar (atBody lk s) = drawScalar s := by funext i; rw [drawScalar, peekBytes_atBody, drawScalar]
@[simp] theorem openHeader_atBody : openHeader (atBody lk s) = openHeader s := rfl
@[simp] theorem attest_atBody : attest (atBody lk s) = attest s := by
  funext i b d c
  rw [attest, drawScalar_atBody, attest]
  rfl
@[simp] theorem atBody_ks : (atBody lk s).ks = s.ks := rfl

end

/-! ### Slots -/

/-- The key store with a key placed in a slot (R279). -/
def slotPut (x : Slot) (k : KeyStore) : KeyStore :=
  { k with slots := { x with used := k.useClock } :: k.slots.filter (·.index != x.index), useClock := k.useClock + 1 }

theorem putSlot_eq (x : Slot) (s : State) : putSlot x s = withKs (slotPut x s.ks) s := rfl

theorem slotOf_put {x : Slot} {s t : State} (h : t.ks.slots = (slotPut x s.ks).slots) (j : Nat) :
    slotOf t j = if j = x.index then some { x with used := s.ks.useClock } else slotOf s j := by
  have hd := slotOf_dropSlot x.index j s
  rw [slotOf, h, slotPut, List.find?_cons]
  by_cases hj : j = x.index
  · simp [hj]
  · rw [if_neg hj] at hd ⊢
    rw [← hd, show (x.index == j) = false by simpa using fun e => hj e.symm]
    rfl

/-! ### AUTH_NONCE (R267) -/

/-- The latest four nonces. -/
def nonceHeld (n : Bytes) (k : KeyStore) : KeyStore := { k with nonces := (k.nonces ++ [n]).drop (k.nonces.length + 1 - 4) }

theorem cmdAuthNonce_runs {s : State} (h : s.cry.halt = false) (r : ReplyTo) :
    cmdAuthNonce r s = ok r (peekBytes s 0 16) (withKs (nonceHeld (peekBytes s 0 16) s.ks) (generate 4 s)) := by
  rw [cmdAuthNonce, withRandom_runs h]
  simp only [generate_ks, List.length_append, List.length_singleton]
  rfl

/-! ### IMPORT_SESSION (R274) -/

/-- The import session that opens now. -/
def sessionNow (chal : Bytes) (s : State) : ImportSession :=
  { d := drawScalar s 0, x := (pubOf (drawScalar s 0)).take 32, y := (pubOf (drawScalar s 0)).drop 32, challenge := chal }

/-- The ephemeral key of the session as it stands in slot 11. -/
def sessionSlot11 (s : State) : Slot := mkSlot 11 (openHeader s 8 4) 4 (openHeader s 8 4).usage (be 32 (drawScalar s 0)) none

/-- The key store with the session open and its key in place. -/
def sessionOpened (chal : Bytes) (s : State) : KeyStore := { slotPut (sessionSlot11 s) s.ks with session := some (sessionNow chal s) }

/-- What IMPORT_SESSION answers: the public key and its attestation. -/
def sessionAnswer (chal : Bytes) (s : State) : Bytes :=
  pubOf (drawScalar s 0) ++ attest s 11 (openHeader s 8 4).bytes (sha256 (pubOf (drawScalar s 0))) chal

theorem cmdImportSession_runs {p : Packet} {s : State} (ho : s.ks.state = .open) (h : s.cry.halt = false) (r : ReplyTo) :
    cmdImportSession p r s = ok r (sessionAnswer (slice p.payload 0 16) s)
      (withKs (sessionOpened (slice p.payload 0 16) s) (generate 19 s)) := by
  simp only [cmdImportSession, ksRefusal_open ho, withRandom_runs h, putSlot_eq, generate_ks]
  rfl

@[simp] theorem sessionNow_atBody (chal : Bytes) (lk : HostLink) (s : State) : sessionNow chal (atBody lk s) = sessionNow chal s := by
  rw [sessionNow, drawScalar_atBody, sessionNow]
@[simp] theorem sessionSlot11_atBody (lk : HostLink) (s : State) : sessionSlot11 (atBody lk s) = sessionSlot11 s := by
  rw [sessionSlot11, drawScalar_atBody, openHeader_atBody, sessionSlot11]
@[simp] theorem sessionOpened_atBody (chal : Bytes) (lk : HostLink) (s : State) : sessionOpened chal (atBody lk s) = sessionOpened chal s := by
  rw [sessionOpened, sessionSlot11_atBody, sessionNow_atBody, atBody_ks, sessionOpened]
@[simp] theorem sessionAnswer_atBody (chal : Bytes) (lk : HostLink) (s : State) : sessionAnswer chal (atBody lk s) = sessionAnswer chal s := by
  rw [sessionAnswer, drawScalar_atBody, openHeader_atBody, attest_atBody, sessionAnswer]

/-! ### ATTEST (R286) -/

theorem cmdAttest_runs {p : Packet} {s : State} {h : BlobHeader} {kt : Nat} {key : Bytes} (ho : s.ks.state = .open) (hr : s.cry.halt = false)
    (ht : attestTarget (byteAt p.payload 0) (byteAt p.payload 1) s = .ok (h, kt, key)) (r : ReplyTo) :
    cmdAttest p r s = ok r (attest s 0 h.bytes (keyDigest kt key) (slice p.payload 4 16)) (generate 8 s) := by
  simp only [cmdAttest, ksRefusal_open ho, ht, withRandom_runs hr]

end Sys2Proof.Machine

open Sys2Proof Sys2Proof.Machine

/-- Settles O13: the body of each command is one reply, with what it holds of the nonces and the session. -/
theorem nonceSessionAttest : Obligations.NonceSessionAttest := by
  unfold Obligations.NonceSessionAttest
  refine ⟨fun p s h hr => ?nonce, fun p s h ho hr => ?session, fun p s hd kt key h ho hr ht => ?attest, fun p s h hr => ?halted⟩
  case nonce =>
    obtain ⟨t, hx, hrep, hl⟩ := exec_keys_replied (k := nonceHeld (peekBytes s 0 16) s.ks) (n := 4) h (st := stOk) (pl := peekBytes s 0 16) (by decide) (by decide) fun lk r =>
      ⟨_, .of_generate 4 _, generate_drawn 4 _, (runCommand_keys (by decide) (by decide) p r _).trans (cmdAuthNonce_runs (s := atBody lk s) hr r)⟩
    have hk : t.ks = nonceHeld (peekBytes s 0 16) s.ks := hl.ks
    exact ⟨t, hx, hrep, by rw [hk]; exact hl, by rw [hk]; rfl⟩
  case session =>
    obtain ⟨t, hx, hrep, hl⟩ := exec_keys_replied (k := sessionOpened (slice p.payload 0 16) s) (n := 19) (pl := sessionAnswer (slice p.payload 0 16) s) h (st := stOk)
      (by decide) (by decide) fun lk r => ⟨_, .of_generate 19 _, generate_drawn 19 _, by
        rw [runCommand_keys (by decide) (by decide)]
        show cmdImportSession p r (atBody lk s) = _
        rw [cmdImportSession_runs (s := atBody lk s) ho hr, sessionAnswer_atBody, sessionOpened_atBody]
        rfl⟩
    have hk := hl.ks
    have hslot := slotOf_put (x := sessionSlot11 s) (s := s) (t := t) (by rw [hk]; rfl)
    refine ⟨t, sessionNow (slice p.payload 0 16) s, hx, by rw [hk]; exact hl, by rw [hk]; rfl, rfl, List.take_append_drop _ _, rfl, ⟨_, hslot 11, rfl, rfl, rfl, hrep⟩, fun i hi => ?_⟩
    exact (hslot i).trans (if_neg hi)
  case attest =>
    exact exec_keys_replied (k := s.ks) (n := 8) (pl := attest s 0 hd.bytes (keyDigest kt key) (slice p.payload 4 16)) h (st := stOk)
      (by decide) (by decide) fun lk r => ⟨_, .of_generate 8 _, generate_drawn 8 _, by
        rw [runCommand_keys (by decide) (by decide), withKs_generate]
        show cmdAttest p r (atBody lk s) = _
        rw [cmdAttest_runs (s := atBody lk s) ho hr ht, attest_atBody]
        rfl⟩
  case halted =>
    exact exec_keys_read (pl := refusalBytes 0xFFFF 0) h (by decide) (by decide) fun lk r => by
      rw [runCommand_keys (by decide) (by decide)]
      show cmdAuthNonce r (atBody lk s) = _
      rw [cmdAuthNonce, withRandom_halted (s := atBody lk s) hr]
      rfl

end

section
/-! Keys in slots and in blobs: a credential checked where a Keys command's body is reached, and the bodies that load, unload, make and import (R271, R273, R277, R279, R280, R384). -/
namespace Sys2Proof.Machine

/-! ### The credential of a packet -/

/-- The nonces that are left once the credential of a packet was judged (R267). -/
def noncesAfter (op : Byte) (p : Packet) (s : State) : List Bytes :=
  let cred := p.payload.drop (p.payload.length - 212)
  match s.ks.nonces.find? fun n => ecdsaVerify (slice (cred.take 148) 20 64) (credDigest n op p.options p.tag (pktBody p)) (cred.drop 148) with
  | some n => s.ks.nonces.erase n
  | none => []

theorem packetCred_some {op : Byte} {p : Packet} {roles : List CredRole} {s : State} {role : CredRole} (h : (packetCred op p roles s).1 = some role) :
    packetCred op p roles s = (some role, withKs { s.ks with nonces := noncesAfter op p s } s) := by
  revert h
  simp only [packetCred, credCheck]
  cases certRole (List.take 148 _) with
  | none => simp
  | some r =>
    intro h
    have e := ite_isSome (Option.isSome_of_mem h)
    rw [e] at h
    exact e.trans (by rw [← h]; rfl)

theorem packetCred_atBody (op : Byte) (p : Packet) (roles : List CredRole) (lk : HostLink) (s : State) :
    (packetCred op p roles (atBody lk s)).1 = (packetCred op p roles s).1 := by
  have hc : certOk (atBody lk s) = certOk s := rfl
  simp only [packetCred, credCheck, hc, atBody_ks, apply_ite Prod.fst]

/-- With a credential that verifies the body runs, and one nonce is gone. -/
theorem withCred_good {op : Byte} {p : Packet} {roles : List CredRole} {s : State} {role : CredRole} (hc : pktCred p = true)
    (h : (packetCred op p roles s).1 = some role) (lk : HostLink) (r : ReplyTo) (need : Bool) (body : Option CredRole → State → State) :
    withCred op p r roles need body (atBody lk s) = body (some role) (withKs { s.ks with nonces := noncesAfter op p s } (atBody lk s)) := by
  rw [withCred, if_pos hc]
  dsimp only
  rw [packetCred_some ((packetCred_atBody op p roles lk s).trans h)]
  rfl

theorem withCred_missing {op : Byte} {p : Packet} {roles : List CredRole} (hc : pktCred p = false) (r : ReplyTo) (body : Option CredRole → State → State) (s : State) :
    withCred op p r roles true body s = refuse r stDenied 0xFFFF 7 s := by
  rw [withCred, hc]
  rfl

/-! ### KEY_LOAD (R279) -/

/-- The slot that KEY_LOAD fills. -/
def loadedSlot (i : Nat) (h : BlobHeader) (key : Bytes) (src : Option Nat) : Slot := mkSlot i h h.ktype h.usage key src

theorem cmdKeyLoad_runs {p : Packet} {s : State} {h : BlobHeader} {key : Bytes} {src : Option Nat} {i : Nat} (ho : s.ks.state = .open)
    (hl : loadSource p.payload s = .ok (h, key, src))
    (hi : if byteAt p.payload 0 = 0xFF then freeSlot s 40 8 = some i else byteAt p.payload 0 = i ∧ slotOf s i = none) (r : ReplyTo) :
    cmdKeyLoad p r s = ok r [byte i, 0, 0, 0] (withKs (slotPut (loadedSlot i h key src) s.ks) s) := by
  rw [cmdKeyLoad, ksRefusal_open ho]
  dsimp only
  rw [hl]
  dsimp only
  by_cases ha : byteAt p.payload 0 = 0xFF
  · rw [if_pos ha] at hi ⊢
    rw [hi]
    rfl
  · rw [if_neg ha] at hi ⊢
    obtain ⟨rfl, hn⟩ := hi
    rw [hn]
    rfl

theorem cmdKeyLoad_occupied {p : Packet} {s : State} {h : BlobHeader} {key : Bytes} {src : Option Nat} (ho : s.ks.state = .open)
    (hl : loadSource p.payload s = .ok (h, key, src)) (ha : byteAt p.payload 0 ≠ 0xFF) (hs : (slotOf s (byteAt p.payload 0)).isSome = true) (r : ReplyTo) :
    cmdKeyLoad p r s = deny r 0x0C s := by
  rw [cmdKeyLoad, ksRefusal_open ho]
  dsimp only
  rw [hl]
  dsimp only
  rw [if_neg ha, if_pos hs]

/-! ### KEY_UNLOAD (R280) -/

/-- The key store with the host slots of a mask emptied, of those that `l` names. -/
def unloaded (m : Nat) (l : List Nat) (k : KeyStore) : KeyStore := { k with slots := k.slots.filter fun x => l.all fun i => !(bit m i && x.index == 40 + i) }

theorem foldl_dropSlot (m : Nat) (l : List Nat) (s : State) :
    l.foldl (fun s i => if bit m i then dropSlot (40 + i) s else s) s = withKs (unloaded m l s.ks) s := by
  induction l generalizing s with
  | nil => simp [unloaded, withKs]
  | cons a l ih =>
    rw [List.foldl_cons, ih]
    by_cases hb : bit m a = true
    · simp [hb, dropSlot, withKs, unloaded, List.filter_filter, Bool.and_comm, bne]
    · simp [hb, withKs, unloaded]

theorem slotOf_filtered {s t : State} {f : Nat → Bool} (h : t.ks.slots = s.ks.slots.filter fun x => f x.index) (j : Nat) :
    slotOf t j = if f j then slotOf s j else none := by
  rw [slotOf, h, List.find?_filter, slotOf]
  by_cases hf : f j = true
  · rw [if_pos hf]
    congr 1
    funext x
    by_cases hx : x.index = j <;> simp [hx, hf]
  · rw [if_neg hf, List.find?_eq_none]
    rintro x - hx
    obtain ⟨hfx, rfl⟩ : f x.index = true ∧ x.index = j := by simpa using hx
    exact hf hfx

/-- A mask of eight bits names the slots 40 to 47. -/
theorem all_unloaded {m : Nat} (hm : m < 256) (j : Nat) :
    ((List.range 8).all fun i => !(bit m i && j == 40 + i)) = true ↔ ¬(40 ≤ j ∧ bit m (j - 40) = true) := by
  simp only [List.all_eq_true, List.mem_range, Bool.not_eq_true', Bool.and_eq_false_iff, beq_eq_false_iff_ne]
  constructor
  · rintro h ⟨h40, hb⟩
    have h8 : j - 40 < 8 := by
      by_contra hlt
      have hz : m.testBit (j - 40) = false := Nat.testBit_lt_two_pow (hm.trans_le (Nat.pow_le_pow_right (n := 2) (by decide) (Nat.not_lt.1 hlt)))
      exact absurd (hz.symm.trans hb) (by decide)
    rcases h (j - 40) h8 with hf | hne
    · exact absurd (hf.symm.trans hb) (by decide)
    · omega
  · intro h i _
    by_cases hj : j = 40 + i
    · subst hj
      simpa using h
    · exact .inr hj

theorem slotOf_unloaded {m : Nat} (hm : m < 256) {s t : State} (h : t.ks.slots = (unloaded m (List.range 8) s.ks).slots) (j : Nat) :
    slotOf t j = if 40 ≤ j ∧ bit m (j - 40) then none else slotOf s j := by
  rw [slotOf_filtered (f := fun j => (List.range 8).all fun i => !(bit m i && j == 40 + i)) h]
  by_cases hj : 40 ≤ j ∧ bit m (j - 40) = true
  · rw [if_pos hj, if_neg fun ha => (all_unloaded hm j).1 ha hj]
  · rw [if_neg hj, if_pos ((all_unloaded hm j).2 hj)]

theorem unloaded_zero (k : KeyStore) : unloaded 0 (List.range 8) k = k := by
  have ha : ∀ x : Slot, ((List.range 8).all fun i => !(bit 0 i && x.index == 40 + i)) = true := fun x => by simp [bit]
  simp only [unloaded, ha, List.filter_true]

theorem cmdKeyUnload_runs {p : Packet} {s : State} (h : s.ks.state = .open ∨ byteAt p.payload 0 = 0) (r : ReplyTo) :
    cmdKeyUnload p r s = ok r [] (withKs (unloaded (byteAt p.payload 0) (List.range 8) s.ks) s) := by
  rw [cmdKeyUnload]
  by_cases hz : byteAt p.payload 0 = 0
  · rw [if_pos hz, hz, unloaded_zero]
    rfl
  · rw [if_neg hz, ksRefusal_open (h.resolve_right hz), foldl_dropSlot]

/-! ### KEY_GEN_BLOB and KEY_IMPORT_BLOB (R271, R384) -/

@[simp] theorem newMaterial_withKs (k : KeyStore) (lk : HostLink) (s : State) : newMaterial (withKs k (atBody lk s)) = newMaterial s := by
  have hp : peekBytes (withKs k (atBody lk s)) = peekBytes s := rfl
  funext i kt
  rw [newMaterial, drawScalar, hp, newMaterial, drawScalar]

/-- The header of the blob that KEY_GEN_BLOB makes. -/
def genHeader (b : Bytes) (s : State) : BlobHeader :=
  newHeader s (byteAt b 0) (at_ b 1 2) (byteAt b 3) true (byteAt b 4) (hostEpoch s (byteAt b 4) (byteAt b 5)) (peekKeyId s 8)

/-- What KEY_GEN_BLOB answers. -/
def genAnswer (b : Bytes) (s : State) : Bytes := mkBlob s (genHeader b s) (newMaterial s 0 (byteAt b 0)) ++ pubPart (byteAt b 0) (newMaterial s 0 (byteAt b 0))

theorem genAnswer_withNonces (b : Bytes) (n : List Bytes) (lk : HostLink) (s : State) :
    genAnswer b (withKs { s.ks with nonces := n } (atBody lk s)) = genAnswer b s := by
  rw [genAnswer, newMaterial_withKs, genAnswer]
  rfl

theorem cmdKeyGenBlob_runs {p : Packet} {s : State} {role : CredRole} (ho : s.ks.state = .open) (hr : s.cry.halt = false) (hc : pktCred p = true)
    (h : (packetCred 0x32 p [.dealer, .fleetHost] s).1 = some role) (lk : HostLink) (r : ReplyTo) :
    cmdKeyGenBlob p r (atBody lk s) = ok r (genAnswer p.payload s) (generate keyWords (withKs { s.ks with nonces := noncesAfter 0x32 p s } (atBody lk s))) := by
  rw [cmdKeyGenBlob, ksRefusal_open (s := atBody lk s) ho]
  dsimp only
  rw [withRandom_runs (s := atBody lk s) hr, withCred_good hc h, ← genAnswer_withNonces]
  rfl

theorem cmdKeyGenBlob_missing {p : Packet} {s : State} (ho : s.ks.state = .open) (hr : s.cry.halt = false) (hc : pktCred p = false) (r : ReplyTo) :
    cmdKeyGenBlob p r s = refuse r stDenied 0xFFFF 7 s := by
  rw [cmdKeyGenBlob, ksRefusal_open ho]
  dsimp only
  rw [withRandom_runs hr, withCred_missing hc]

/-- The key store with an import session used up, where the form asks for one (R274). -/
def sessionSpent (f : ImportFields) (k : KeyStore) : KeyStore :=
  if f.form = 1 then { k with slots := k.slots.filter (·.index != 11), session := none } else k

theorem sessionUsed_eq (f : ImportFields) (k : KeyStore) (s : State) : sessionUsed f (withKs k s) = withKs (sessionSpent f k) s := by
  unfold sessionUsed sessionSpent
  split <;> rfl

theorem sessionSpent_eq (f : ImportFields) (k : KeyStore) :
    sessionSpent f k = { k with slots := (sessionSpent f k).slots, session := if f.form = 1 then none else k.session } := by
  unfold sessionSpent
  split <;> rfl

theorem slotOf_spent {f : ImportFields} {n : List Bytes} {s t : State} (h : t.ks.slots = (sessionSpent f { s.ks with nonces := n }).slots) (j : Nat) :
    slotOf t j = if f.form = 1 ∧ j = 11 then none else slotOf s j := by
  by_cases hf : f.form = 1
  · rw [sessionSpent, if_pos hf] at h
    have hd := slotOf_dropSlot 11 j s
    simp only [hf, true_and]
    rw [← hd, slotOf, h]
    rfl
  · rw [sessionSpent, if_neg hf] at h
    rw [if_neg fun hc => hf hc.1, slotOf, h]
    rfl

/-- What KEY_IMPORT_BLOB answers for imported material. -/
def importAnswer (f : ImportFields) (idx : Nat) (m : Bytes) (s : State) : Bytes :=
  mkBlob s (newHeader s f.ktype f.usage f.attr false idx (hostEpoch s idx f.pend) f.keyId) m

theorem importMaterial_withNonces (f : ImportFields) (n : List Bytes) (lk : HostLink) (s : State) :
    importMaterial f (withKs { s.ks with nonces := n } (atBody lk s)) = importMaterial f s := rfl

theorem cmdKeyImportBlob_runs {p : Packet} {s : State} {role : CredRole} {m : Bytes} (hm : importMaterial (importFields p.payload 1) s = .ok m)
    (hc : pktCred p = true) (h : (packetCred 0x35 p [.dealer, .fleetHost] s).1 = some role) (lk : HostLink) (r : ReplyTo) :
    cmdKeyImportBlob p r (atBody lk s) = ok r (importAnswer (importFields p.payload 1) (byteAt p.payload 0) m s)
      (withKs (sessionSpent (importFields p.payload 1) { s.ks with nonces := noncesAfter 0x35 p s }) (atBody lk s)) := by
  have hb : importMaterial (importFields p.payload 1) (atBody lk s) = .ok m := hm
  rw [cmdKeyImportBlob]
  dsimp only
  rw [hb]
  dsimp only
  rw [withCred_good hc h]
  dsimp only
  rw [importMaterial_withNonces, hm, ← sessionUsed_eq]
  rfl

end Sys2Proof.Machine

open Sys2Proof Sys2Proof.Machine

/-- Settles O14: the body of each command is one reply, with the slots, nonces and session that it leaves. -/
theorem keySlotsAndBlobs : Obligations.KeySlotsAndBlobs := by
  unfold Obligations.KeySlotsAndBlobs
  refine ⟨⟨fun p s h key src i hr ho hl hi => ?load, fun p s h key src hr ho hl ha hs => ?occupied, fun p s hr hm => ?unload⟩,
    fun p s role hr ho hh hc hv => ?gen, fun p s role m hr hc hv => ?imported, fun p s hr ho hh hc => ?missing⟩
  case load =>
    obtain ⟨t, hx, hrep, hlv⟩ := exec_keys_quiet (k := slotPut (loadedSlot i h key src) s.ks) (pl := [byte i, 0, 0, 0]) (st := stOk) 0 hr (by decide) (by decide) fun lk r => by
      rw [runCommand_keys (by decide) (by decide)]
      show cmdKeyLoad p r (atBody lk s) = _
      rw [cmdKeyLoad_runs (s := atBody lk s) ho hl hi]
      rfl
    have hk := hlv.ks
    have hslot := slotOf_put (x := loadedSlot i h key src) (s := s) (t := t) (by rw [hk])
    exact ⟨t, hx, hrep, by rw [hk]; exact hlv, ⟨_, (hslot i).trans (if_pos rfl), rfl, rfl, rfl, rfl, rfl⟩, fun j hj => (hslot j).trans (if_neg hj)⟩
  case occupied =>
    exact exec_keys_read (pl := refusalBytes 0xFFFF 0x0C) hr (by decide) (by decide) fun lk r => by
      rw [runCommand_keys (by decide) (by decide)]
      show cmdKeyLoad p r (atBody lk s) = _
      rw [cmdKeyLoad_occupied (s := atBody lk s) ho hl ha hs]
      rfl
  case unload =>
    obtain ⟨t, hx, hrep, hlv⟩ := exec_keys_quiet (k := unloaded (byteAt p.payload 0) (List.range 8) s.ks) (pl := []) (st := stOk) 0 hr (by decide) (by decide) fun lk r => by
      rw [runCommand_keys (by decide) (by decide)]
      show cmdKeyUnload p r (atBody lk s) = _
      rw [cmdKeyUnload_runs (s := atBody lk s) hm]
      rfl
    have hk := hlv.ks
    exact ⟨t, hx, hrep, by rw [hk]; exact hlv, slotOf_unloaded (byteAt_lt _ _) (by rw [hk])⟩
  case gen =>
    obtain ⟨t, hx, hrep, hlv⟩ := exec_keys_replied (k := { s.ks with nonces := noncesAfter 0x32 p s }) (n := keyWords) (pl := genAnswer p.payload s) (st := stOk) hr
      (by decide) (by decide) fun lk r => by
        obtain ⟨v, hv', hn, e⟩ := DrawsOnly.beside (.of_generate keyWords (withKs { s.ks with nonces := noncesAfter 0x32 p s } (atBody lk s)))
        refine ⟨v, hv', hn.trans (generate_drawn _ _), ?_⟩
        rw [runCommand_keys (by decide) (by decide)]
        show cmdKeyGenBlob p r (atBody lk s) = _
        rw [cmdKeyGenBlob_runs ho hh hc hv, e]
        rfl
    have hk := hlv.ks
    exact ⟨t, hx, hrep, by rw [hk]; exact hlv⟩
  case imported =>
    intro f idx hm
    obtain ⟨t, hx, hrep, hlv⟩ := exec_keys_quiet (k := sessionSpent f { s.ks with nonces := noncesAfter 0x35 p s }) (pl := importAnswer f idx m s) (st := stOk) 0 hr
      (by decide) (by decide) fun lk r => by
        rw [runCommand_keys (by decide) (by decide)]
        show cmdKeyImportBlob p r (atBody lk s) = _
        rw [cmdKeyImportBlob_runs hm hc hv]
        rfl
    have hk := hlv.ks
    refine ⟨t, hx, hrep, ?_, slotOf_spent (by rw [hk])⟩
    rw [sessionSpent_eq] at hk hlv
    rw [hk]
    exact hlv
  case missing =>
    exact exec_keys_read (pl := refusalBytes 0xFFFF 7) hr (by decide) (by decide) fun lk r => by
      rw [runCommand_keys (by decide) (by decide)]
      show cmdKeyGenBlob p r (atBody lk s) = _
      rw [cmdKeyGenBlob_missing (s := atBody lk s) ho hh hc]
      rfl

end

section
/-! KEY_OP: what each operation answers under the key of its slot, and the refusal that is counted (R271, R385). -/
namespace Sys2Proof.Machine

/-! ### What telling the host of an event touches -/

/-- `t` is `s` but for registers, engines, packets in the output queues and the counts of lost events; what has joined the queue of the UART is neither a reply nor a COMPLETE. -/
structure Told (s t : State) : Prop where
  rest : t = { s with
    regs := t.regs
    eng := t.eng
    link := { s.link with
      hcs0 := { s.link.hcs0 with outq := t.link.hcs0.outq }
      uart := { s.link.uart with outq := t.link.uart.outq }
      lostHcs0 := t.link.lostHcs0
      lostUart := t.link.lostUart } }
  queued : ∀ o ∈ t.link.uart.outq, o ∈ s.link.uart.outq ∨ o.slot = none ∧ o.code ≠ 1

namespace Told

theorem refl (s : State) : Told s s := ⟨rfl, fun _ ho => .inl ho⟩

theorem after {s t u : State} (k : Told t u) (h : Told s t) : Told s u := by
  refine ⟨?_, fun o ho => (k.queued o ho).elim (h.queued o) .inr⟩
  have hu := k.rest
  rw [h.rest] at hu
  exact hu

theorem of_regs (v : List (Nat × Word)) (e : Vector Engine 12) (s : State) : Told s { s with regs := v, eng := e } := ⟨rfl, fun _ ho => .inl ho⟩

theorem of_raise (a bits : Nat) (s : State) : Told s (raise a bits s) := by
  obtain ⟨e, he⟩ := raise_eng a bits s
  rw [he]
  exact of_regs _ e s

theorem of_loseEvent (p : VPort) (code : Byte) (s : State) : Told s (loseEvent p code s) := by
  unfold loseEvent
  cases p <;> exact (of_raise _ _ _).after ⟨rfl, fun _ ho => .inl ho⟩

theorem of_queueEvent {o : OutPkt} (hs : o.slot = none) (hc : o.code ≠ 1) (p : VPort) (s : State) : Told s (queueEvent p o s) := by
  unfold queueEvent
  dsimp only
  split
  · cases p with
    | hcs0 => exact ⟨rfl, fun _ ho => .inl ho⟩
    | uart =>
      refine ⟨rfl, fun x hx => ?_⟩
      rcases List.mem_append.1 hx with hx | hx
      · exact .inl hx
      · exact .inr (List.mem_singleton.1 hx ▸ ⟨hs, hc⟩)
  · exact of_loseEvent p o.code s

theorem of_hostEvent {code : Byte} (hc : code ≠ 1) (payload : Bytes) (s : State) : Told s (hostEvent code payload s) := by
  have hfold : ∀ (l : List VPort) s, Told s (l.foldl (fun s p => queueEvent p (eventPkt code 0 payload) s) s) := fun l => by
    induction l with
    | nil => exact refl
    | cons p l ih => exact fun s => (ih _).after (of_queueEvent rfl hc p s)
  unfold hostEvent
  split
  · exact refl s
  · split
    · exact hfold _ s
    · exact refl s

theorem of_raiseKst (bits : Nat) (s : State) : Told s (raiseKst bits s) := by
  unfold raiseKst
  exact (of_hostEvent (by decide) _ _).after (of_raise 0x40080008 bits s)

/-- A body that has told the host of an event leaves what a reply needs. -/
theorem portsKept {op : Byte} {p : Packet} {s x : State} (h : Told (taken op p s) x) (hr : Ready op p s) (hc : regGet x 0x40010000 = regGet (taken op p s) 0x40010000) :
    PortsKept op p s x := by
  have hp := taken_portsKept op p s hr
  exact
    { hcs0 := by rw [h.rest]
      uart := by rw [h.rest]
      cfg := hc.trans hp.cfg
      reads := by rw [h.rest]; exact hp.reads
      sent := fun hu o ho => (h.queued o ho).elim (hp.sent hu o) id }

end Told

theorem raiseKst_regs (bits : Nat) (s : State) : RegsBut (0x40080008 :: lostRegs) s (raiseKst bits s) := by
  intro a ha
  obtain ⟨h8, hl⟩ := List.ne_and_not_mem_of_not_mem_cons ha
  unfold raiseKst
  obtain ⟨e, he⟩ := raise_eng 0x40080008 bits s
  rw [hostEvent_regs _ _ _ a hl, he]
  exact regGet_regSet_ne h8 _ s

/-- What a command leaves whose body has told the host of an event. -/
theorem leavesEv_told {u v x t : State} (h : Leaves u v) (k : Told v x) (hl : Leaves x t) : LeavesEv { u with regs := t.regs, eng := t.eng } t := by
  have hh : t.link.lostHcs0 = x.link.lostHcs0 := by rw [hl]
  have hu : t.link.lostUart = x.link.lostUart := by rw [hl]
  unfold LeavesEv
  rw [hl.regs, hl.eng, hh, hu]
  have hr := k.rest
  rw [h] at hr
  rw [hr] at hl
  exact hl

/-! ### The slot of KEY_OP -/

theorem runCommand_keyOp (p : Packet) (r : ReplyTo) (s : State) : runCommand 0x3A p r s = cmdKeyOp p r s := runCommand_keys (by decide) (by decide) p r s

theorem keyOp_runs {p : Packet} {mask : Nat} {x : Slot} {s : State} (h : KeyOpSlot p mask x s) (r : ReplyTo) (body : Slot → Bytes → State → State) :
    keyOp p r mask body s = body x (slice p.payload 6 (at_ p.payload 4 2)) s := by
  obtain ⟨ho, hx, hm⟩ := h
  have hu : useSlot (byteAt p.payload 0) mask s = .ok x := by
    rw [useSlot, ksRefusal_open ho]
    dsimp only
    rw [hx]
    exact if_neg hm
  rw [keyOp, hu]

/-- A slot without the usage is refused, and the refusal counted (R273). -/
theorem keyOp_usage {p : Packet} {mask : Nat} {x : Slot} {s : State} (ho : s.ks.state = .open) (hx : slotOf s (byteAt p.payload 0) = some x)
    (hm : x.usage &&& mask = 0) (r : ReplyTo) (body : Slot → Bytes → State → State) :
    keyOp p r mask body s = reply r stDenied (refusalBytes 0xFFFF 5) (raiseKst 4 (regInc 0x40080020 16 s)) := by
  have hu : useSlot (byteAt p.payload 0) mask s = .error (stDenied, 5) := by
    rw [useSlot, ksRefusal_open ho]
    dsimp only
    rw [hx]
    exact if_pos hm
  rw [keyOp, hu]
  rfl

/-! ### The operations -/

section
variable {p : Packet} {s : State} {x : Slot}

theorem cmdKeyOp_cmac (hop : byteAt p.payload 1 = 1) (hx : KeyOpSlot p 0x07 x s) (ha : isAes x = true) (r : ReplyTo) :
    cmdKeyOp p r s = ok r (cmac x.key (slice p.payload 6 (at_ p.payload 4 2))) s := by
  rw [cmdKeyOp, hop]
  show cmdCmac p r s = _
  rw [cmdCmac, keyOp_runs hx, if_pos ha]

theorem cmdKeyOp_cmacVerify (hop : byteAt p.payload 1 = 2) (hx : KeyOpSlot p 0x0D x s) (ha : isAes x = true) (r : ReplyTo) :
    let d := slice p.payload 6 (at_ p.payload 4 2)
    cmdKeyOp p r s = if cmac x.key (d.take (d.length - 16)) = d.drop (d.length - 16) then ok r [] s else deny r 0x0A s := by
  intro d
  rw [cmdKeyOp, hop]
  show cmdCmacVerify p r s = _
  rw [cmdCmacVerify, keyOp_runs hx, ha]
  rfl

theorem cmdKeyOp_sign (hop : byteAt p.payload 1 = 3) (hx : KeyOpSlot p 0x20 x s) (hk : x.ktype = 4) (hr : s.cry.halt = false) (r : ReplyTo) :
    cmdKeyOp p r s = ok r (ecdsaSign (beNat x.key) (drawScalar s 0) (slice p.payload 6 (at_ p.payload 4 2))) (generate 8 s) := by
  rw [cmdKeyOp, hop]
  show cmdSign p r s = _
  rw [cmdSign, keyOp_runs hx, if_neg (not_not.2 hk), withRandom_runs hr]

/-- The slot of a key that KEY_OP derives. -/
def derivedSlot (i : Nat) (key : Bytes) (s : State) : Slot := mkSlot i (openHeader s 0 2) 2 (openHeader s 0 2).usage (fit 32 key) none

theorem putDerived_runs {i : Nat} (hi : freeSlot s 40 8 = some i) (r : ReplyTo) (key : Bytes) :
    putDerived r key s = ok r [byte i, 0, 0, 0] (withKs (slotPut (derivedSlot i key s) s.ks) (draw 3 s)) := by
  rw [putDerived, hi]
  rfl

theorem cmdKeyOp_ecdh {z : Bytes} {i : Nat} (hop : byteAt p.payload 1 = 4) (hx : KeyOpSlot p 0x40 x s) (hk : x.ktype = 4)
    (hz : ecdhX (beNat x.key) (slice p.payload 6 (at_ p.payload 4 2)) = some z) (hi : freeSlot s 40 8 = some i) (r : ReplyTo) :
    cmdKeyOp p r s = ok r [byte i, 0, 0, 0] (withKs (slotPut (derivedSlot i (Config.ecdhKey z) s) s.ks) (draw 3 s)) := by
  rw [cmdKeyOp, hop]
  show cmdEcdh p r s = _
  rw [cmdEcdh, keyOp_runs hx, if_neg (not_not.2 hk), hz]
  exact putDerived_runs hi r _

theorem cmdKeyOp_derive {i : Nat} (hop : byteAt p.payload 1 = 5) (hx : KeyOpSlot p 0x40 x s) (ha : isAes x = true) (hi : freeSlot s 40 8 = some i) (r : ReplyTo) :
    let d := Config.deriveInput (slice p.payload 6 (at_ p.payload 4 2))
    cmdKeyOp p r s = ok r [byte i, 0, 0, 0] (withKs (slotPut (derivedSlot i (kdf x.key d.1 d.2 256) s) s.ks) (draw 3 s)) := by
  intro d
  rw [cmdKeyOp, hop]
  show cmdDerive p r s = _
  rw [cmdDerive, keyOp_runs hx, if_pos ha, putDerived_runs hi]

theorem cmdKeyOp_wrap {y : Slot} (hop : byteAt p.payload 1 = 6) (hx : KeyOpSlot p 0x10 x s) (ha : isAes x = true)
    (hy : slotOf s (byteAt (slice p.payload 6 (at_ p.payload 4 2)) 0) = some y) (hf : bit y.header.attr 1 = false) (r : ReplyTo) :
    cmdKeyOp p r s = ok r (aesKwp x.key y.key) s := by
  rw [cmdKeyOp, hop]
  show cmdWrap p r s = _
  rw [cmdWrap, keyOp_runs hx, ha, hy]
  show (if bit y.header.attr 1 = true then keyRefuse r (stDenied, 5) s else ok r (aesKwp x.key y.key) s) = _
  rw [hf]
  rfl

theorem cmdKeyOp_cmac_usage (hop : byteAt p.payload 1 = 1) (ho : s.ks.state = .open) (hx : slotOf s (byteAt p.payload 0) = some x) (hm : x.usage &&& 0x07 = 0) (r : ReplyTo) :
    cmdKeyOp p r s = reply r stDenied (refusalBytes 0xFFFF 5) (raiseKst 4 (regInc 0x40080020 16 s)) := by
  rw [cmdKeyOp, hop]
  exact keyOp_usage ho hx hm r _

end

/-! ### A derived key in its slot -/

/-- KEY_OP that answers the slot into which it has put a derived key. -/
theorem exec_derived {p : Packet} {s : State} {i : Nat} {key : Bytes} (h : Ready 0x3A p s)
    (hb : ∀ lk r, cmdKeyOp p r (atBody lk s) = ok r [byte i, 0, 0, 0] (withKs (slotPut (derivedSlot i key (atBody lk s)) s.ks) (draw 3 (atBody lk s)))) :
    ∃ t, act (hostCommand 0x3A p) s = .next t ∧ Replied 0x3A p stOk [byte i, 0, 0, 0] s t ∧
      Leaves { s with drawn := s.drawn + 3, ks := { s.ks with slots := t.ks.slots, useClock := s.ks.useClock + 1 } } t ∧
      (∃ y, slotOf t i = some y ∧ y.ktype = 2 ∧ y.key = fit 32 key) ∧ (∀ j, j ≠ i → slotOf t j = slotOf s j) := by
  obtain ⟨t, hx, hr, hl⟩ := exec_keys_quiet (k := slotPut (derivedSlot i key s) s.ks) (st := stOk) 3 h (by decide) (by decide) fun lk r => (runCommand_keyOp p r _).trans (hb lk r)
  have hk := hl.ks
  have hslot := slotOf_put (x := derivedSlot i key s) (s := s) (t := t) (by rw [hk])
  exact ⟨t, hx, hr, by rw [hk]; exact hl, ⟨_, (hslot i).trans (if_pos rfl), rfl, rfl⟩, fun j hj => (hslot j).trans (if_neg hj)⟩

/-- A refusal that is counted for the usage of a slot (R273). -/
theorem exec_usage_refused {op : Byte} {p : Packet} {s : State} (h : Ready op p s)
    (hb : ∀ lk r, runCommand op p r (atBody lk s) = reply r stDenied (refusalBytes 0xFFFF 5) (raiseKst 4 (regInc 0x40080020 16 (atBody lk s)))) :
    ∃ t, act (hostCommand op p) s = .next t ∧ Replied op p stDenied (refusalBytes 0xFFFF 5) s t ∧
      LeavesEv { s with regs := t.regs, eng := t.eng } t ∧ regFld t 0x40080020 0 16 = min (regFld s 0x40080020 0 16 + 1) 0xFFFF := by
  obtain ⟨lk, ht, hs⟩ := taken_atBody h
  have told : Told (atBody lk s) (raiseKst 4 (regInc 0x40080020 16 (atBody lk s))) := (Told.of_raiseKst 4 _).after (.of_regs _ s.eng _)
  have hreg := raiseKst_regs 4 (regInc 0x40080020 16 (atBody lk s))
  have hcfg : regGet (raiseKst 4 (regInc 0x40080020 16 (atBody lk s))) 0x40010000 = regGet (atBody lk s) 0x40010000 :=
    (hreg _ (by decide)).trans (regGet_regSet_ne (by decide) _ _)
  have hcount := regInc_counts 0x40080020 (atBody lk s)
  have hbody := hb lk (replyTo op p (fresh s))
  have hports : PortsKept op p (fresh s) (raiseKst 4 (regInc 0x40080020 16 (atBody lk s))) := Told.portsKept (by rw [ht]; exact told) h.of_fresh (by rw [ht]; exact hcfg)
  obtain ⟨t, hx, hr, hl⟩ := exec_replied h _ _ (by rw [ht]; exact hbody) hports (by rw [told.rest]; rfl) (by decide) (by decide)
  refine ⟨t, hx, hr, leavesEv_told hs told hl, ?_⟩
  have ht80 : regGet t 0x40080020 = regGet (regInc 0x40080020 16 (atBody lk s)) 0x40080020 := by rw [regGet, hl.regs]; exact hreg _ (by decide)
  rw [regFld, ht80]
  exact hcount

end Sys2Proof.Machine

open Sys2Proof Sys2Proof.Machine

/-- Settles O15: each operation's body is one reply under the key of its slot, with the slot, the free values or the count that it writes. -/
theorem keyOperations : Obligations.KeyOperations := by
  unfold Obligations.KeyOperations
  refine ⟨fun x => ?cmac, fun x => ?verify, fun x => ?mismatch, fun p s x h hop hs hk hr => ?sign, fun p s x z i h hop hs hk hz hi => ?ecdh,
    fun p s x i h hop hs ha hi => ?derive, fun x y => ?wrap, fun p s x h hop ho hx hm => ?usage⟩
  case cmac =>
    refine servesRead_of_reply (fun _ _ => rfl) fun p s lk r _ ⟨hop, hs, ha⟩ => (runCommand_keyOp p r _).trans ?_
    exact cmdKeyOp_cmac (s := atBody lk s) hop hs ha r
  case verify =>
    refine servesRead_of_reply (fun _ _ => rfl) fun p s lk r _ ⟨hop, hs, ha, hv⟩ => (runCommand_keyOp p r _).trans ?_
    exact (cmdKeyOp_cmacVerify (s := atBody lk s) hop hs ha r).trans (if_pos hv)
  case mismatch =>
    refine answered_of_reply (fun _ _ => rfl) (fun _ => by decide) (fun _ => by decide) fun p s lk r _ ⟨hop, hs, ha, hv⟩ => (runCommand_keyOp p r _).trans ?_
    exact (cmdKeyOp_cmacVerify (s := atBody lk s) hop hs ha r).trans (if_neg hv)
  case sign =>
    exact exec_keys_replied (k := s.ks) (n := 8) (pl := ecdsaSign (beNat x.key) (drawScalar s 0) (slice p.payload 6 (at_ p.payload 4 2))) h (st := stOk)
      (by decide) (by decide) fun lk r => ⟨_, .of_generate 8 _, generate_drawn 8 _, by
        rw [runCommand_keyOp, withKs_generate, cmdKeyOp_sign (s := atBody lk s) hop hs hk hr, drawScalar_atBody]
        rfl⟩
  case ecdh =>
    exact exec_derived h fun lk r => cmdKeyOp_ecdh (s := atBody lk s) hop hs hk hz hi r
  case derive =>
    exact exec_derived h fun lk r => cmdKeyOp_derive (s := atBody lk s) hop hs ha hi r
  case wrap =>
    refine servesRead_of_reply (fun _ _ => rfl) fun p s lk r _ ⟨hop, hs, ha, hy, hf⟩ => (runCommand_keyOp p r _).trans ?_
    exact cmdKeyOp_wrap (s := atBody lk s) hop hs ha hy hf r
  case usage =>
    exact exec_usage_refused h fun lk r => (runCommand_keyOp p r _).trans (cmdKeyOp_cmac_usage (s := atBody lk s) hop ho hx hm r)

end

section
/-! Acceptance of the journaled Keys commands and PROVISION, which may fix STEP_DATA and draw for it (R278, R282, R285, R288, R386). -/
namespace Sys2Proof.Machine

/-! ### What acceptance writes -/

/-- The state with another journal and other commits to come: what acceptance writes. -/
def withWork (j : Journal) (l : List Commit) (s : State) : State := { s with jrn := j, fer := { s.fer with commits := l } }

section
variable {op : Byte} {p : Packet} {r : ReplyTo} {c : Option CredRole} {data : Bytes} {s : State}

theorem accept_loose_data (ht : p.tag = 0) :
    ∃ w, RecordOf op p data w ∧ accept op p r c data s = reply r stInProgress (zeros 12) (withWork { s.jrn with loose := s.jrn.loose ++ [w] } s.fer.commits s) :=
  ⟨_, newWork_recordOf op p _ _ 0 c data, by simp only [accept, if_pos ht]; rfl⟩

theorem accept_disabled_data (ht : p.tag ≠ 0) (he : s.jrn.enabled = false) :
    ∃ w, RecordOf op p data w ∧ w.seq = s.jrn.nextSeq ∧ accept op p r c data s =
      reply r stInProgress (zeros 12) (withWork { s.jrn with works := s.jrn.works ++ [w], nextSeq := s.jrn.nextSeq + 1 } s.fer.commits s) :=
  ⟨_, newWork_recordOf op p _ _ 0 c data, rfl, by simp only [accept, if_neg ht, he]; rfl⟩

theorem accept_journal_data (ht : p.tag ≠ 0) (he : s.jrn.enabled = true) :
    ∃ w, RecordOf op p data w ∧ accept op p r c data s =
      withWork { s.jrn with accepting := s.jrn.accepting ++ [{ work := w, ret := r, twins := [] }] } (joinAcceptance s.fer.commits) s :=
  ⟨_, newWork_recordOf op p 0 _ _ c data, by simp only [accept, if_neg ht, he]; rfl⟩

end

/-! ### Acceptance after the credential, with free values drawn for STEP_DATA -/

section
variable {op : Byte} {p : Packet} {s v : State} {lk : HostLink} {n : List Bytes}

/-- The state that a credential leaves, less one nonce. -/
def nonceTaken (n : List Bytes) (lk : HostLink) (s : State) : State := withKs { s.ks with nonces := n } (atBody lk s)

/-- Acceptance keeps what a reply needs. -/
theorem bodyKept_accepted (hv : DrawsOnly (nonceTaken n lk s) v) (j : Journal) (l : List Commit) : BodyKept (atBody lk s) (withWork j l v) :=
  have hr : v.fer.reads = s.fer.reads := congrArg Feram.reads hv.fer
  ⟨hv.link, hv.cfg, hr, hv.pending⟩

/-- What an accepted command leaves. -/
theorem leaves_accepted {j : Journal} {l : List Commit} {t : State} (hs : Leaves s (atBody lk s)) (hv : DrawsOnly (nonceTaken n lk s) v) (h : Leaves (withWork j l v) t) :
    t.jrn = j ∧ t.fer.commits = l ∧ Leaves (withWork t.jrn t.fer.commits (keysPut { s.ks with nonces := n } v.drawn v.cry v.regs v.eng s)) t := by
  have hj : t.jrn = j := h.jrn
  have hl : t.fer.commits = l := by rw [h.fer]; rfl
  refine ⟨hj, hl, ?_⟩
  rw [hj, hl]
  have hput := congrArg (fun u => withWork j l (keysPut { s.ks with nonces := n } v.drawn v.cry v.regs v.eng u)) hs
  rw [hv.rest] at h
  exact Leaves.trans (v := withWork j l (keysPut { s.ks with nonces := n } v.drawn v.cry v.regs v.eng (atBody lk s))) hput h

/-- A command whose body reaches acceptance behind its credential: untagged or with the journal disabled it answers IN_PROGRESS, otherwise its record waits for its commit (R319, R322, R351). -/
theorem exec_accepted {c : Option CredRole} {data : Bytes} (h : Ready op p s) (ht : taken op p (fresh s) = atBody lk s) (hs : Leaves s (atBody lk s)) (hv : DrawsOnly (nonceTaken n lk s) v)
    (hb : runCommand op p (replyTo op p (fresh s)) (atBody lk s) = accept op p (replyTo op p (fresh s)) c data v) :
    ∃ t w, act (hostCommand op p) s = .next t ∧ RecordOf op p data w ∧
      Leaves (withWork t.jrn t.fer.commits (keysPut { s.ks with nonces := n } v.drawn v.cry v.regs v.eng s)) t ∧
      (p.tag = 0 → t.jrn = { s.jrn with loose := s.jrn.loose ++ [w] } ∧ t.fer.commits = s.fer.commits ∧ Replied op p stInProgress (zeros 12) s t) ∧
      (p.tag ≠ 0 → s.jrn.enabled = false → w.seq = s.jrn.nextSeq ∧
        t.jrn = { s.jrn with works := s.jrn.works ++ [w], nextSeq := s.jrn.nextSeq + 1 } ∧ t.fer.commits = s.fer.commits ∧ Replied op p stInProgress (zeros 12) s t) ∧
      (p.tag ≠ 0 → s.jrn.enabled = true →
        t.jrn = { s.jrn with accepting := s.jrn.accepting ++ [{ work := w, ret := replyTo op p s, twins := [] }] } ∧
        t.fer.commits.any (·.isAcceptance) = true) := by
  have hj : v.jrn = s.jrn := hv.jrn
  have hf : v.fer = s.fer := hv.fer
  by_cases ht0 : p.tag = 0
  · obtain ⟨w, hw, e⟩ := accept_loose_data (op := op) (r := replyTo op p (fresh s)) (c := c) (data := data) (s := v) ht0
    obtain ⟨t, hx, hr, hl⟩ := exec_kept_replied h ht (bodyKept_accepted hv _ _) (hb.trans e) (by decide) (by decide)
    obtain ⟨htj, htl, hlv⟩ := leaves_accepted hs hv hl
    rw [hj] at htj
    rw [hf] at htl
    exact ⟨t, w, hx, hw, hlv, fun _ => ⟨htj, htl, hr⟩, fun hn => absurd ht0 hn, fun hn => absurd ht0 hn⟩
  · cases he : s.jrn.enabled with
    | true =>
      obtain ⟨w, hw, e⟩ := accept_journal_data (op := op) (r := replyTo op p (fresh s)) (c := c) (data := data) (s := v) ht0 (hj ▸ he)
      obtain ⟨t, hx, hl⟩ := exec_kept_open h ht (bodyKept_accepted hv _ _) (hb.trans e)
      obtain ⟨htj, htl, hlv⟩ := leaves_accepted hs hv hl
      rw [hj] at htj
      exact ⟨t, w, hx, hw, hlv, fun hn => absurd hn ht0, fun _ hd => absurd hd (by decide), fun _ _ => ⟨htj, by rw [htl]; exact joinAcceptance_any _⟩⟩
    | false =>
      obtain ⟨w, hw, hq, e⟩ := accept_disabled_data (op := op) (r := replyTo op p (fresh s)) (c := c) (data := data) (s := v) ht0 (hj ▸ he)
      obtain ⟨t, hx, hr, hl⟩ := exec_kept_replied h ht (bodyKept_accepted hv _ _) (hb.trans e) (by decide) (by decide)
      obtain ⟨htj, htl, hlv⟩ := leaves_accepted hs hv hl
      rw [hj] at htj hq
      rw [hf] at htl
      exact ⟨t, w, hx, hw, hlv, fun hn => absurd hn ht0, fun _ _ => ⟨hq, htj, htl, hr⟩, fun _ h1 => absurd h1 (by decide)⟩

end

/-! ### From the body to `Accepts` -/

/-- What fixes the STEP_DATA of a command: its bytes are those of the state, and no more is touched than a request to the generator touches; nothing where it draws nothing. -/
def Fixes (prep : State → Bytes × State) (data : Bytes) (draws : Bool) (s : State) : Prop :=
  ∀ n lk, (prep (nonceTaken n lk s)).1 = data ∧ DrawsOnly (nonceTaken n lk s) (prep (nonceTaken n lk s)).2 ∧
    (draws = false → (prep (nonceTaken n lk s)).2 = nonceTaken n lk s)

theorem noData_fixes (s : State) : Fixes noData [] false s := fun _ _ => ⟨rfl, .refl _, fun _ => rfl⟩

theorem drawKeyId_fixes (s : State) : Fixes drawKeyId (le 8 (peekKeyId s 0)) true s := fun _ _ => ⟨rfl, .of_generate 2 _, fun h => absurd h (by decide)⟩

/-- A command whose body is the shared acceptance, once nothing of its own refuses it, is accepted as `Accepts` says. -/
theorem accepts_of_prep {mk : Packet → Instr} {op : Byte} {cond : Packet → State → Prop} {own : Packet → State → Option (Byte × Nat)}
    {roles : Packet → State → List CredRole} {need : Packet → State → Bool} {data : Packet → State → Bytes} {draws : Bool} (prep : Packet → State → Bytes × State)
    (hmk : ∀ p s, exec (mk p) s = act (hostCommand op p) s) (hprep : ∀ p s, Fixes (prep p) (data p s) draws s)
    (hbody : ∀ p s lk r, cond p s → own p s = none → runCommand op p r (atBody lk s) = journaled op p r none (roles p s) (need p s) (prep p) (atBody lk s)) :
    Accepts mk op cond own roles need data draws := by
  intro p s h hc hp
  obtain ⟨lk, ht, hs⟩ := taken_atBody h
  obtain ⟨c, n, hw, hn⟩ := withCred_passes h hp (replyTo op p (fresh s)) fun c u => accept op p (replyTo op p (fresh s)) c (prep p u).1 (prep p u).2
  have hq := queueRefusal_passes h hp
  rw [ht] at hw hq
  obtain ⟨hdata, hdraw, hquiet⟩ := hprep p s n lk
  have hrun : runCommand op p (replyTo op p (fresh s)) (atBody lk s) =
      accept op p (replyTo op p (fresh s)) c (data p s) (prep p (nonceTaken n lk s)).2 := by
    rw [hbody p s lk _ hc hp.own, ← hdata]
    simp only [journaled, hq]
    exact hw
  obtain ⟨t, w, hx, hrec, hl, h0, hd, he⟩ := exec_accepted h ht hs hdraw hrun
  have hk : t.ks.nonces = n := by rw [hl.ks]; rfl
  refine ⟨t, w, (hmk p s).trans hx, hrec, ?_, fun hf => hk.trans (hn hf), fun hfalse => ?_, h0, hd, he⟩
  · rw [hk, hl.drawn, hl.cry, hl.regs, hl.eng]
    exact hl
  · rw [hquiet hfalse] at hl
    exact ⟨hl.drawn, hl.cry, hl.regs, hl.eng⟩

theorem journaledKey_open (op : Byte) (p : Packet) (r : ReplyTo) (roles : List CredRole) (prep : State → Bytes × State) (s : State) :
    journaledKey op p r none roles prep s = journaled op p r none roles true prep s := by
  unfold journaledKey
  cases queueRefusal p s <;> rfl

/-! ### The bodies of the commands -/

section
variable (lk : HostLink) (s : State)

@[simp] theorem ksRefusal_atBody : ksRefusal (atBody lk s) = ksRefusal s := rfl
@[simp] theorem randomRefusal_atBody : randomRefusal (atBody lk s) = randomRefusal s := rfl
@[simp] theorem createRefusal_atBody (n : Nat) : createRefusal n (atBody lk s) = createRefusal n s := rfl
@[simp] theorem updateRefusal_atBody (n : Nat) : updateRefusal n (atBody lk s) = updateRefusal n s := rfl
@[simp] theorem replaceRefusal_atBody (n : Nat) : replaceRefusal n (atBody lk s) = replaceRefusal n s := rfl
@[simp] theorem importRefusal_atBody (f : ImportFields) : importRefusal f (atBody lk s) = importRefusal f s := rfl
@[simp] theorem certRefusal_atBody (cert : Bytes) : certRefusal cert (atBody lk s) = certRefusal cert s := rfl
@[simp] theorem immoRefusal_atBody (f : ImportFields) : immoRefusal f (atBody lk s) = immoRefusal f s := rfl

end

/-- The STEP_DATA of EPOCH_INC: the epoch that the counter is to reach (R288). -/
def epochTarget (p : Packet) (s : State) : Bytes × State := (le 8 (epochOf s (byteAt p.payload 0) + 1), s)

theorem epochTarget_fixes (p : Packet) (s : State) : Fixes (epochTarget p) (le 8 (epochOf s (byteAt p.payload 0) + 1)) false s := fun _ _ => ⟨rfl, .refl _, fun _ => rfl⟩

theorem cmdEpochInc_runs {p : Packet} {s : State} {v : Nat} (hv : ctrRead s (byteAt p.payload 0) = some v) (hm : v + 1 < 2 ^ 64) (ho : ksRefusal s = none) (r : ReplyTo) :
    cmdEpochInc p r s = journaled 0x3B p r none [.dealer, .fleetHost] true (epochTarget p) s := by
  simp only [cmdEpochInc, ho, hv, if_neg (Nat.not_le.2 hm)]
  rfl

end Sys2Proof.Machine

open Sys2Proof Sys2Proof.Machine

/-- Settles O17: each of the commands reaches the shared acceptance, with the STEP_DATA that it fixes. -/
theorem keyCommandsAccepted : Obligations.KeyCommandsAccepted := by
  unfold Obligations.KeyCommandsAccepted
  refine ⟨accepts_of_prep (fun _ => drawKeyId) (fun _ _ => rfl) (fun _ => drawKeyId_fixes) fun p s lk r _ ho => ?keyGen,
    accepts_of_prep (fun _ => noData) (fun _ _ => rfl) (fun _ => noData_fixes) fun p s lk r _ ho => ?keyImport,
    accepts_of_prep (fun _ => drawKeyId) (fun _ _ => rfl) (fun _ => drawKeyId_fixes) fun p s lk r hc ho => ?updateGenerated,
    accepts_of_prep (fun _ => noData) (fun _ _ => rfl) (fun _ => noData_fixes) fun p s lk r hc ho => ?updateImported,
    accepts_of_prep (fun _ => noData) (fun _ _ => rfl) (fun _ => noData_fixes) fun p s lk r hc ho => ?keyDestroy,
    accepts_of_prep epochTarget (fun _ _ => rfl) epochTarget_fixes fun p s lk r ⟨v, hv, hm⟩ ho => ?epochInc,
    accepts_of_prep (fun _ => noData) (fun _ _ => rfl) (fun _ => noData_fixes) fun p s lk r _ _ => ?debugMode,
    accepts_of_prep (fun _ => noData) (fun _ _ => rfl) (fun _ => noData_fixes) fun p s lk r _ _ => ?anchorSet,
    accepts_of_prep (fun _ => drawKeyId) (fun _ _ => rfl) (fun _ => drawKeyId_fixes) fun p s lk r hc ho => ?couplingKey,
    accepts_of_prep (fun _ => noData) (fun _ _ => rfl) (fun _ => noData_fixes) fun p s lk r hc ho => ?couplingCert,
    accepts_of_prep (fun _ => noData) (fun _ _ => rfl) (fun _ => noData_fixes) fun p s lk r hc ho => ?immoKey⟩ <;>
  rw [runCommand_keys (by decide) (by decide)]
  case keyGen =>
    show cmdKeyGen p r _ = _
    rw [cmdKeyGen, createRefusal_atBody, randomRefusal_atBody, firstOf, ho, journaledKey_open]
  case keyImport =>
    show cmdKeyImport p r _ = _
    simp only [cmdKeyImport, createRefusal_atBody, importRefusal_atBody, firstOf, ho, journaledKey_open]
  case updateGenerated =>
    show cmdKeyUpdate p r _ = _
    simp only [cmdKeyUpdate, hc, decide_false, Bool.false_eq_true, if_false, updateRefusal_atBody, randomRefusal_atBody, firstOf, ho, journaledKey_open]
  case updateImported =>
    show cmdKeyUpdate p r _ = _
    simp only [cmdKeyUpdate, hc, decide_true, if_true, updateRefusal_atBody, importRefusal_atBody, firstOf, ho, journaledKey_open]
  case keyDestroy =>
    show cmdKeyDestroy p r _ = _
    rw [cmdKeyDestroy, if_neg hc, ksRefusal_atBody, ho]
  case epochInc =>
    exact cmdEpochInc_runs (s := atBody lk s) hv hm ho r
  case debugMode => rfl
  case anchorSet => rfl
  case couplingKey =>
    show cmdProvision p r _ = _
    rw [cmdProvision, hc]
    show cmdCouplingKey p r _ = _
    rw [cmdCouplingKey, replaceRefusal_atBody, randomRefusal_atBody, firstOf, ho, journaledKey_open]
  case couplingCert =>
    show cmdProvision p r _ = _
    rw [cmdProvision, hc]
    show cmdCouplingCert p r _ = _
    rw [cmdCouplingCert, certRefusal_atBody, ho]
  case immoKey =>
    show cmdProvision p r _ = _
    rw [cmdProvision, hc]
    show cmdImmoKey p r _ = _
    rw [cmdImmoKey, immoRefusal_atBody, ho, journaledKey_open]

end

section
/-! NVM commands of the host (R300–R311, R314, R315): the bodies of NVM_READ, NVM_UNLOCK, NVM_LOCK and COUNTER_READ, each as one reply and what it writes of the FeRAM. -/
namespace Sys2Proof.Machine

/-! ### A refusal that NVM_EVENTS tells of (R303, R315, R330) -/

/-- The state with the FeRAM and the registers as given: all that an NVM command writes before its event. -/
def withStore (f : Feram) (v : List (Nat × Word)) (s : State) : State := { s with fer := f, regs := v }

theorem regSet_withStore (a : Nat) (w : Word) (f : Feram) (x u : State) : regSet a w (withStore f x.regs u) = withStore f (regSet a w x).regs u := rfl

theorem regGet_withStore (f : Feram) (x u : State) (a : Nat) : regGet (withStore f x.regs u) a = regGet x a := rfl

theorem regInc_atBody (a n : Nat) (lk : HostLink) (s : State) : regInc a n (atBody lk s) = withStore s.fer (regInc a n s).regs (atBody lk s) := rfl

theorem leaves_withStore {u w : State} (h : Leaves u w) (f : Feram) (v : List (Nat × Word)) : Leaves (withStore f v u) (withStore f v w) := congrArg (withStore f v) h

theorem Told.of_raiseNvm (bits : Nat) (s : State) : Told s (raiseNvm bits s) := by
  unfold raiseNvm
  exact (Told.of_hostEvent (by decide) _ _).after (.of_raise 0x40090008 bits s)

theorem raiseNvm_regs (bits : Nat) (s : State) : RegsBut (0x40090008 :: lostRegs) s (raiseNvm bits s) := by
  intro a ha
  obtain ⟨h8, hl⟩ := List.ne_and_not_mem_of_not_mem_cons ha
  unfold raiseNvm
  obtain ⟨e, he⟩ := raise_eng 0x40090008 bits s
  rw [hostEvent_regs _ _ _ a hl, he]
  exact regGet_regSet_ne h8 _ s

/-- A command that answers after it has written FeRAM and registers and raised an NVM event. -/
theorem exec_nvm_told {op : Byte} {p : Packet} {s : State} {st : Byte} {pl : Bytes} {f : Feram} {v : List (Nat × Word)} {bits : Nat} (h : Ready op p s)
    (hf : f.reads = s.fer.reads) (hv : regGet (withStore f v s) 0x40010000 = regGet s 0x40010000) (h20 : st ≠ 0x20) (h14 : st ≠ 0x14)
    (hb : ∀ lk r, runCommand op p r (atBody lk s) = reply r st pl (raiseNvm bits (withStore f v (atBody lk s)))) :
    ∃ t, act (hostCommand op p) s = .next t ∧ Replied op p st pl s t ∧ LeavesEv { s with fer := f, regs := t.regs, eng := t.eng } t ∧
      RegsBut (0x40090008 :: lostRegs) (withStore f v s) t := by
  obtain ⟨lk, ht, hs⟩ := taken_atBody h
  have told := Told.of_raiseNvm bits (withStore f v (atBody lk s))
  have hreg := raiseNvm_regs bits (withStore f v (atBody lk s))
  have hp := taken_portsKept op p (fresh s) h.of_fresh
  have hports : PortsKept op p (fresh s) (raiseNvm bits (withStore f v (atBody lk s))) :=
    { hcs0 := by rw [told.rest, ht]; rfl
      uart := by rw [told.rest, ht]; rfl
      cfg := (hreg _ (by decide)).trans hv
      reads := by
        rw [told.rest]
        rw [ht] at hp
        exact hf.trans hp.reads
      sent := fun hu o ho => (told.queued o ho).elim (fun hm => hp.sent hu o (by rw [ht]; exact hm)) id }
  obtain ⟨t, hx, hr, hl⟩ := exec_replied h st pl (by rw [ht]; exact hb lk _) hports (by rw [told.rest]; rfl) h20 h14
  refine ⟨t, hx, hr, leavesEv_told (leaves_withStore hs f v) told hl, fun a ha => ?_⟩
  rw [regGet, hl.regs]
  exact hreg a ha

/-! ### What the path to a body leaves of the FeRAM -/

section
variable (lk : HostLink) (s : State)

@[simp] theorem commitBusy_atBody : commitBusy (atBody lk s) = commitBusy s := rfl
@[simp] theorem txnHeld_atBody (a n : Nat) : txnHeld a n (atBody lk s) = txnHeld a n s := rfl
@[simp] theorem regionRefusal_atBody (w : Bool) (a n : Nat) : regionRefusal w a n (atBody lk s) = regionRefusal w a n s := regionRefusal_congr rfl rfl w a n
@[simp] theorem metaOf_atBody (g : Nat) : metaOf (atBody lk s) g = metaOf s g := rfl
@[simp] theorem ctrRead_atBody (c : Nat) : ctrRead (atBody lk s) c = ctrRead s c := rfl

/-- No page of the logical space shows the link, the outward signals or the idle count. -/
@[simp] theorem nvmBytes_atBody (a n : Nat) : nvmBytes (atBody lk s) a n = nvmBytes s a n := by
  have himage : pageImage (atBody lk s) = pageImage s := by
    funext g
    have henc : pageEnc (atBody lk s) = pageEnc s := rfl
    have huser : userPage (atBody lk s) g = userPage s g := rfl
    unfold pageImage
    rw [huser]
    rfl
  unfold nvmBytes
  rw [himage]

end

/-! ### Reads of pages (R303, R311) -/

/-- A page of which both copies are valid is not repaired. -/
theorem repairPage_sound {g : Nat} {s : State} (h0 : (metaOf s g).c0.ok = true) (h1 : (metaOf s g).c1.ok = true) : repairPage g s = s := by
  unfold repairPage
  simp [h0, h1]

theorem readTouch_sound {g : Nat} {s : State} (h0 : (metaOf s g).c0.ok = true) (h1 : (metaOf s g).c1.ok = true) : readTouch s g = s := by
  rw [readTouch, repairPage_sound h0 h1, ite_self]

theorem foldl_readTouch_sound {l : List Nat} {s : State} (h : ∀ g ∈ l, (metaOf s g).c0.ok = true ∧ (metaOf s g).c1.ok = true) : l.foldl readTouch s = s := by
  induction l with
  | nil => rfl
  | cons g l ih =>
    obtain ⟨h0, h1⟩ := h g List.mem_cons_self
    rw [List.foldl_cons, readTouch_sound h0 h1]
    exact ih fun g hg => h g (List.mem_cons_of_mem _ hg)

/-- A read of pages whose copies are all valid changes nothing. -/
theorem nvmRead_sound {a n : Nat} {s : State} (h : ∀ g ∈ pagesOf a n, (metaOf s g).c0.ok = true ∧ (metaOf s g).c1.ok = true) : nvmRead a n s = (some (nvmBytes s a n), s) := by
  have hfind : (pagesOf a n).find? (fun g => !(metaOf s g).readable) = none := by
    rw [List.find?_eq_none]
    intro g hg
    simp [PageMeta.readable, (h g hg).1]
  simp only [nvmRead, hfind, foldl_readTouch_sound h]

/-- A read that meets a page without a valid copy fails at the first such page. -/
theorem nvmRead_failed {a n g : Nat} {s : State} (hg : g ∈ pagesOf a n) (h0 : (metaOf s g).c0.ok = false) (h1 : (metaOf s g).c1.ok = false) :
    ∃ q, ∀ lk, nvmRead a n (atBody lk s) = (none, readFailed q (atBody lk s)) := by
  cases hfind : (pagesOf a n).find? (fun g => !(metaOf s g).readable) with
  | none => exact absurd (List.find?_eq_none.1 hfind g hg) (by simp [PageMeta.readable, h0, h1])
  | some q => exact ⟨q, fun lk => by simp only [nvmRead, metaOf_atBody, hfind]⟩

/-! ### NVM_READ and COUNTER_READ -/

section
variable {p : Packet} {s : State}

theorem cmdNvmRead_busy (hpart : leavesPartition (at_ p.payload 0 4) (at_ p.payload 4 2) = false) (hb : commitBusy s = true) (r : ReplyTo) : cmdNvmRead p r s = nvmBusy r s := by
  simp only [cmdNvmRead, hpart, hb, Bool.false_eq_true, if_false, if_true]

theorem cmdNvmRead_empty (hn : at_ p.payload 4 2 = 0) (hb : commitBusy s = false) (r : ReplyTo) : cmdNvmRead p r s = ok r [] s := by
  have hpart : leavesPartition (at_ p.payload 0 4) 0 = false := rfl
  simp only [cmdNvmRead, hn, hpart, hb, Bool.false_eq_true, if_false, if_true]

theorem cmdNvmRead_held (hpart : leavesPartition (at_ p.payload 0 4) (at_ p.payload 4 2) = false) (hn : 0 < at_ p.payload 4 2)
    (ht : txnHeld (at_ p.payload 0 4) (at_ p.payload 4 2) s = true) (r : ReplyTo) : cmdNvmRead p r s = nvmBusy r s := by
  cases hb : commitBusy s with
  | true => exact cmdNvmRead_busy hpart hb r
  | false => simp only [cmdNvmRead, hpart, hb, ht, hn.ne', Bool.false_eq_true, if_false, if_true]

/-- NVM_READ comes to its pages when nothing stands in its way (R300, R304, R307, R314). -/
structure ReadsPages (p : Packet) (s : State) : Prop where
  inside : leavesPartition (at_ p.payload 0 4) (at_ p.payload 4 2) = false
  quiet  : commitBusy s = false
  free   : txnHeld (at_ p.payload 0 4) (at_ p.payload 4 2) s = false
  some   : 0 < at_ p.payload 4 2
  shown  : ¬ (partOf (at_ p.payload 0 4 / 256) = 2 ∨ partOf (at_ p.payload 0 4 / 256) = 5)
  open_  : regionRefusal false (at_ p.payload 0 4) (at_ p.payload 4 2) s = none

theorem ReadsPages.atBody (h : ReadsPages p s) (lk : HostLink) : ReadsPages p (atBody lk s) :=
  { inside := h.inside, quiet := h.quiet, free := h.free, some := h.some, shown := h.shown, open_ := (regionRefusal_atBody lk s _ _ _).trans h.open_ }

theorem cmdNvmRead_shown {b : Bytes} {t : State} (h : ReadsPages p s) (hr : nvmRead (at_ p.payload 0 4) (at_ p.payload 4 2) s = (some b, t)) (r : ReplyTo) :
    cmdNvmRead p r s = ok r b t := by
  simp only [cmdNvmRead, h.inside, h.quiet, h.free, h.some.ne', if_neg h.shown, h.open_, hr, Bool.false_eq_true, if_false]

theorem cmdNvmRead_failed {t : State} (h : ReadsPages p s) (hr : nvmRead (at_ p.payload 0 4) (at_ p.payload 4 2) s = (none, t)) (r : ReplyTo) :
    cmdNvmRead p r s = refuse r stHwFault 0xFFFF 0 t := by
  simp only [cmdNvmRead, h.inside, h.quiet, h.free, h.some.ne', if_neg h.shown, h.open_, hr, Bool.false_eq_true, if_false]

theorem cmdCounterRead_some {v : Nat} (h : ctrRead s (byteAt p.payload 0) = some v) (r : ReplyTo) : cmdCounterRead p r s = ok r (le 8 v) s := by
  rw [cmdCounterRead, h]

end

/-- The registers after a read that failed at a page (R303). -/
def regsAfterFailedRead (q : Nat) (s : State) : List (Nat × Word) := (regSet 0x4009001C (word (q + 3 * 4096)) (regInc 0x40090014 16 s)).regs

theorem regGet_afterFailedRead {a : Nat} (h : a ≠ 0x4009001C) (q : Nat) (f : Feram) (s : State) :
    regGet (withStore f (regsAfterFailedRead q s) s) a = regGet (regInc 0x40090014 16 s) a := by
  rw [regsAfterFailedRead, regGet_withStore, regGet_regSet_ne h]

theorem readFailed_atBody (q : Nat) (lk : HostLink) (s : State) : readFailed q (atBody lk s) = raiseNvm 4 (withStore s.fer (regsAfterFailedRead q s) (atBody lk s)) := by
  rw [readFailed, regInc_atBody, regSet_withStore, regsAfterFailedRead]

/-- A page without a valid copy: the command answers HW_FAULT, and the failed read is counted (R303). -/
theorem exec_nvmRead_failed {p : Packet} {s : State} {g : Nat} (h : Ready 0x20 p s) (hp : ReadsPages p s) (hg : g ∈ pagesOf (at_ p.payload 0 4) (at_ p.payload 4 2))
    (h0 : (metaOf s g).c0.ok = false) (h1 : (metaOf s g).c1.ok = false) :
    ∃ t, exec (.nvmRead p) s = .next t ∧ Replied 0x20 p stHwFault (refusalBytes 0xFFFF 0) s t ∧ LeavesEv { s with regs := t.regs, eng := t.eng } t ∧
      regFld t 0x40090014 0 16 = min (regFld s 0x40090014 0 16 + 1) 0xFFFF := by
  obtain ⟨q, hq⟩ := nvmRead_failed hg h0 h1
  obtain ⟨t, hx, hr, hl, hregs⟩ := exec_nvm_told (f := s.fer) (v := regsAfterFailedRead q s) (bits := 4) (st := stHwFault) (pl := refusalBytes 0xFFFF 0) h rfl
    ((regGet_afterFailedRead (by decide) q s.fer s).trans (regInc_others 0x40090014 16 s _ (by decide))) (by decide) (by decide) fun lk r => by
      rw [runCommand_low (by decide)]
      show cmdNvmRead p r _ = _
      rw [cmdNvmRead_failed (hp.atBody lk) (hq lk), readFailed_atBody]
      rfl
  refine ⟨t, hx, hr, hl, ?_⟩
  have hcount : regGet t 0x40090014 = regGet (regInc 0x40090014 16 s) 0x40090014 := (hregs _ (by decide)).trans (regGet_afterFailedRead (by decide) q s.fer s)
  rw [regFld, hcount]
  exact regInc_counts 0x40090014 s

/-! ### The commands of regions while a commit runs (R304, R41) -/

theorem cmdNvmUnlock_busy {p : Packet} {s : State} (hb : commitBusy s = true) (r : ReplyTo) : cmdNvmUnlock p r s = nvmBusy r s := by
  simp only [cmdNvmUnlock, hb, if_true]

theorem cmdNvmLock_busy {p : Packet} {s : State} (hb : commitBusy s = true) (r : ReplyTo) : cmdNvmLock p r s = nvmBusy r s := by
  simp only [cmdNvmLock, hb, if_true]

/-- A command whose body answers NVM_BUSY changes nothing. -/
theorem exec_nvmBusy {op : Byte} {p : Packet} {s : State} (h : Ready op p s) (hb : ∀ lk r, runCommand op p r (atBody lk s) = nvmBusy r (atBody lk s)) :
    ∃ t, act (hostCommand op p) s = .next t ∧ Replied op p stNvmBusy (refusalBytes 0xFFFF 0) s t ∧ Leaves s t := by
  obtain ⟨lk, hl⟩ := taken_frame h
  exact exec_read h stNvmBusy (refusalBytes 0xFFFF 0) (by rw [hl]; exact hb lk _) (by decide) (by decide)

/-! ### Between two commits (R305) -/

theorem commitBusy_gap {s : State} (hg : s.fer.gap = true) (hr : (engOf s 8).restartDue = false) : commitBusy s = false := by
  simp [commitBusy, inFlight, hg, hr]

theorem commitBusy_flight {s : State} {c : Commit} {l : List Commit} (hg : s.fer.gap = false) (hc : s.fer.commits = c :: l) : commitBusy s = true := by
  simp [commitBusy, inFlight, hg, hc]

end Sys2Proof.Machine

open Sys2Proof Sys2Proof.Machine

/-- Settles O11: each body is one reply with what the pages or the counter hold, or with the refusal of its case. -/
theorem nvmReads : Obligations.NvmReads := by
  unfold Obligations.NvmReads
  refine ⟨⟨?pages, ?empty, ?held, fun s => commitBusy_gap, fun s c l => commitBusy_flight, ?failed, fun v => ?counter⟩, ?busy⟩
  case pages =>
    refine servesRead_of_reply (fun _ _ => rfl) fun p s lk r _ ⟨hpart, hb, ht, hn, h2, h5, hr, hg⟩ => ?_
    have hp : ReadsPages p s := ⟨hpart, hb, ht, hn, fun h => h.elim h2 h5, hr⟩
    rw [runCommand_low (by decide)]
    exact (cmdNvmRead_shown (hp.atBody lk) (nvmRead_sound hg) r).trans (by rw [nvmBytes_atBody])
  case empty =>
    refine servesRead_of_reply (fun _ _ => rfl) fun p s lk r _ ⟨hn, hb⟩ => ?_
    rw [runCommand_low (by decide)]
    exact cmdNvmRead_empty (s := atBody lk s) hn hb r
  case held =>
    intro p s h ⟨hpart, hn, ht⟩
    refine exec_nvmBusy h fun lk r => ?_
    rw [runCommand_low (by decide)]
    exact cmdNvmRead_held (s := atBody lk s) hpart hn ht r
  case failed =>
    intro p s g h a n hpart hb ht hn h2 h5 hr hg h0 h1
    exact exec_nvmRead_failed h ⟨hpart, hb, ht, hn, fun h => h.elim h2 h5, hr⟩ hg h0 h1
  case counter =>
    refine servesRead_of_reply (fun _ _ => rfl) fun p s lk r _ hv => ?_
    rw [runCommand_low (by decide)]
    exact cmdCounterRead_some (s := atBody lk s) hv r
  case busy =>
    rintro mk op (hm | hm | hm) p s h hb hpart <;> obtain ⟨rfl, rfl⟩ := Prod.mk.inj hm
    all_goals refine exec_nvmBusy h fun lk r => (runCommand_low (by decide) p r _).trans ?_
    · exact cmdNvmUnlock_busy (s := atBody lk s) hb r
    · exact cmdNvmLock_busy (s := atBody lk s) hb r
    · exact cmdNvmRead_busy (s := atBody lk s) (hpart rfl) hb r

end

section
/-! The password and the locks of regions (R314, R315): what an attempt, a success and NVM_LOCK write of the FeRAM. -/
namespace Sys2Proof.Machine

/-! ### Counters -/

/-- An increment of one counter leaves the others. -/
theorem ctrRead_setCtr_ne {x : Counter} {c : Nat} (h : c ≠ x.index) (s : State) : ctrRead (setCtr x s) c = ctrRead s c := by
  have hx : (x.index == c) = false := by simpa using Ne.symm h
  have hf : (s.fer.counters.filter (·.index != x.index)).find? (·.index == c) = s.fer.counters.find? (·.index == c) := by
    rw [List.find?_filter]
    congr 1
    funext y
    by_cases hy : y.index = c
    · simp [hy, h]
    · simp [hy]
  simp only [ctrRead, ctrOf, setCtr, List.find?_cons, hx, hf]

/-- A counter is read from the FeRAM alone. -/
theorem ctrRead_congr {s t : State} (h : t.fer.counters = s.fer.counters) (c : Nat) : ctrRead t c = ctrRead s c := by
  unfold ctrRead ctrOf
  rw [h]

/-! ### An attempt (R315) -/

/-- The FeRAM with an attempt counted. -/
def ferAfterAttempt (v : Nat) (s : State) : Feram := { (setCtr ((ctrOf s 36).put { value := v + 1, ok := true }) s).fer with pwSince := 0 }

/-- What an attempt makes of the counters. -/
theorem ctrRead_afterAttempt {s t : State} {v : Nat} (hv : ctrRead s 36 = some v) (hm : v + 1 < 2 ^ 64) (h : t.fer.counters = (ferAfterAttempt v s).counters) :
    ctrRead t 36 = some (v + 1) ∧ ∀ c, c ≠ 36 → ctrRead t c = ctrRead s c := by
  have hinc : ∀ c, ctrRead t c = ctrRead (ctrInc 36 s) c := fun c => ctrRead_congr (by rw [h, ctrInc_below hv hm]; rfl) c
  refine ⟨(hinc 36).trans (ctrRead_ctrInc hv hm), fun c hc => ?_⟩
  rw [hinc, ctrInc_below hv hm]
  exact ctrRead_setCtr_ne (by rw [Counter.put_index, ctrOf_index]; exact hc) s

/-- NVM_UNLOCK compares its password: no commit runs, a right is asked for, the key store is open and no lockout stands, and the attempt can be counted (R314, R315). -/
structure Attempts (p : Packet) (v : Nat) (s : State) : Prop where
  quiet : commitBusy s = false
  mode  : byteAt p.payload 1 ≠ 0
  open_ : s.ks.state = .open
  free  : pwFails s < 8 ∨ 60000000 ≤ s.fer.pwSince
  count : ctrRead s 36 = some v
  below : v + 1 < 2 ^ 64

/-- A password that does not fit: its attempt is counted, and NVM_EVENTS tells of it (R315). -/
theorem passwordTry_wrong {p : Packet} {v n : Nat} {pw : Bytes} {s : State} (h : Attempts p v s) (hw : (regionAt s n).verifier ≠ pwVerifier s n pw) :
    passwordTry n pw s = (some (stDenied, 0x0A), raiseNvm 0x80 { s with fer := ferAfterAttempt v s }) := by
  have hlock : ¬ (8 ≤ pwFails s ∧ s.fer.pwSince < 60000000) := by have := h.free; omega
  have hinc := ctrInc_below (s := { s with fer := { s.fer with pwSince := 0 } }) (c := 36) h.count h.below
  have hlow := h.below
  simp only [passwordTry, ksRefusal_open h.open_, if_neg hlock, h.count, hinc]
  rw [if_neg (by omega)]
  have hne : ((regionAt s n).verifier.isSome && (regionAt s n).verifier == pwVerifier s n pw) = false := by simp [hw]
  exact if_neg (Bool.eq_false_iff.1 hne)

/-- After eight failures no attempt is taken within 60 s (R315). -/
theorem passwordTry_locked {n : Nat} {pw : Bytes} {s : State} (ho : s.ks.state = .open) (hf : 8 ≤ pwFails s) (hs : s.fer.pwSince < 60000000) :
    passwordTry n pw s = (some (stLocked, 0), s) := by
  simp only [passwordTry, ksRefusal_open ho, if_pos (And.intro hf hs)]

/-! ### NVM_UNLOCK (R314) -/

/-- The region with the rights that MODE names. -/
def Region.unlocked (m : Nat) (g : Region) : Region := { g with runlk := g.runlk || bit m 0, wunlk := g.wunlk || bit m 1 }

/-- The FeRAM with a region changed. -/
def ferWithRegion (n : Nat) (f : Region → Region) (r : Feram) : Feram := { r with regions := modAt n f r.regions }

section
variable {p : Packet} {v : Nat} {s : State}

theorem cmdNvmUnlock_fits (h : Attempts p v s) (hs : (regionAt s (byteAt p.payload 0)).verifier.isSome = true)
    (he : (regionAt s (byteAt p.payload 0)).verifier = pwVerifier s (byteAt p.payload 0) (slice p.payload 2 8)) (r : ReplyTo) :
    cmdNvmUnlock p r s = ok r [] { s with fer := ferWithRegion (byteAt p.payload 0) (Region.unlocked (byteAt p.payload 1)) (ferAfterPassword v s) } := by
  simp only [cmdNvmUnlock, h.quiet, Bool.false_eq_true, if_false, if_neg h.mode, passwordTry_fits h.open_ h.free h.count h.below hs he]
  rfl

theorem cmdNvmUnlock_wrong (h : Attempts p v s) (hw : (regionAt s (byteAt p.payload 0)).verifier ≠ pwVerifier s (byteAt p.payload 0) (slice p.payload 2 8)) (r : ReplyTo) :
    cmdNvmUnlock p r s = reply r stDenied (refusalBytes 0xFFFF 0x0A) (raiseNvm 0x80 { s with fer := ferAfterAttempt v s }) := by
  simp only [cmdNvmUnlock, h.quiet, Bool.false_eq_true, if_false, if_neg h.mode, passwordTry_wrong h hw]
  rfl

theorem cmdNvmUnlock_locked (hb : commitBusy s = false) (hm : byteAt p.payload 1 ≠ 0) (ho : s.ks.state = .open) (hf : 8 ≤ pwFails s) (hs : s.fer.pwSince < 60000000) (r : ReplyTo) :
    cmdNvmUnlock p r s = reply r stLocked (refusalBytes 0xFFFF 0) s := by
  simp only [cmdNvmUnlock, hb, Bool.false_eq_true, if_false, if_neg hm, passwordTry_locked ho hf hs]
  rfl

theorem cmdNvmUnlock_nothing (hb : commitBusy s = false) (hm : byteAt p.payload 1 = 0) (r : ReplyTo) : cmdNvmUnlock p r s = ok r [] s := by
  simp only [cmdNvmUnlock, hb, Bool.false_eq_true, if_false, if_pos hm]

theorem Attempts.atBody (h : Attempts p v s) (lk : HostLink) : Attempts p v (atBody lk s) := ⟨h.quiet, h.mode, h.open_, h.free, h.count, h.below⟩

end

/-! ### Regions of the table -/

theorem regionAt_eq (s : State) (i : Nat) : regionAt s i = s.fer.regions[i]?.getD .none := List.getD_eq_getElem?_getD

/-- A region with a password is in the table. -/
theorem lt_of_verifier {s : State} {n : Nat} (h : (regionAt s n).verifier.isSome = true) : n < s.fer.regions.length := by
  by_contra hn
  rw [regionAt_eq, List.getElem?_eq_none (Nat.not_lt.1 hn)] at h
  exact absurd h (by decide)

theorem getElem?_modAt {α : Type} (n i : Nat) (f : α → α) (l : List α) : (modAt n f l)[i]? = if n = i then l[i]?.map f else l[i]? := by
  rw [modAt, List.getElem?_modify]
  split <;> simp [*]

/-! ### NVM_LOCK (R314) -/

/-- A region with its rights given back. -/
def Region.relocked (g : Region) : Region := { g with runlk := false, wunlk := false }

/-- The regions after those of a mask are locked, one after another. -/
def relockRegions (m : Nat) (l : List Nat) (rs : List Region) : List Region := l.foldl (fun rs i => if bit m i then modAt i Region.relocked rs else rs) rs

theorem foldl_modRegion (m : Nat) (l : List Nat) (s : State) :
    l.foldl (fun s i => if bit m i then modRegion i (fun g => { g with runlk := false, wunlk := false }) s else s) s =
      { s with fer := { s.fer with regions := relockRegions m l s.fer.regions } } := by
  induction l generalizing s with
  | nil => rfl
  | cons i l ih =>
    rw [List.foldl_cons, ih, relockRegions, relockRegions, List.foldl_cons]
    by_cases hb : bit m i = true
    · rw [if_pos hb, if_pos hb]
      rfl
    · rw [if_neg hb, if_neg hb]

theorem relockRegions_length (m : Nat) (l : List Nat) (rs : List Region) : (relockRegions m l rs).length = rs.length := by
  induction l generalizing rs with
  | nil => rfl
  | cons i l ih =>
    rw [relockRegions, List.foldl_cons, ← relockRegions, ih]
    split
    · exact List.length_modify _ _ _
    · rfl

/-- A region is locked when the mask names it. -/
theorem getElem?_relockRegions (m i : Nat) (l : List Nat) (rs : List Region) :
    (relockRegions m l rs)[i]? = if i ∈ l ∧ bit m i = true then rs[i]?.map Region.relocked else rs[i]? := by
  induction l generalizing rs with
  | nil => simp [relockRegions]
  | cons j l ih =>
    have htwice : ∀ o : Option Region, (o.map Region.relocked).map Region.relocked = o.map Region.relocked := fun o => by cases o <;> rfl
    rw [relockRegions, List.foldl_cons, ← relockRegions, ih]
    by_cases hj : j = i
    · subst hj
      by_cases hb : bit m j = true
      · simp [hb, getElem?_modAt, htwice]
      · simp [hb]
    · by_cases hb : bit m j = true
      · simp [hb, getElem?_modAt, hj, Ne.symm hj]
      · simp [hb, Ne.symm hj]

/-- A mask of two bytes names no region but the sixteen. -/
theorem bit_at_two {b : Bytes} {i : Nat} (h : bit (at_ b 0 2) i = true) : i < 16 := by
  by_contra hi
  have hlt : at_ b 0 2 < 2 ^ 16 := at_lt b 0 2
  have hz : (at_ b 0 2).testBit i = false := Nat.testBit_lt_two_pow (hlt.trans_le (Nat.pow_le_pow_right (by decide) (Nat.not_lt.1 hi)))
  exact absurd (hz.symm.trans h) (by decide)

theorem cmdNvmLock_free {p : Packet} {s : State} (hb : commitBusy s = false) (r : ReplyTo) :
    cmdNvmLock p r s = ok r [] { s with fer := { s.fer with regions := relockRegions (at_ p.payload 0 2) (List.range 16) s.fer.regions } } := by
  simp only [cmdNvmLock, hb, Bool.false_eq_true, if_false, foldl_modRegion]

theorem regionAt_relocked {s t : State} {b : Bytes} (h : t.fer.regions = relockRegions (at_ b 0 2) (List.range 16) s.fer.regions) (i : Nat) :
    regionAt t i = if bit (at_ b 0 2) i then (regionAt s i).relocked else regionAt s i := by
  have hi : (i ∈ List.range 16 ∧ bit (at_ b 0 2) i = true) ↔ bit (at_ b 0 2) i = true := and_iff_right_of_imp fun hb => List.mem_range.2 (bit_at_two hb)
  rw [regionAt_eq, regionAt_eq, h, getElem?_relockRegions]
  simp only [hi]
  split
  · cases s.fer.regions[i]? <;> rfl
  · rfl

/-! ### A command that answers and writes the FeRAM alone -/

theorem exec_fer_replied {op : Byte} {p : Packet} {s : State} {st : Byte} {pl : Bytes} {f : Feram} (h : Ready op p s) (hf : f.reads = s.fer.reads) (h20 : st ≠ 0x20) (h14 : st ≠ 0x14)
    (hb : ∀ lk r, runCommand op p r (atBody lk s) = reply r st pl { atBody lk s with fer := f }) :
    ∃ t, act (hostCommand op p) s = .next t ∧ Replied op p st pl s t ∧ Leaves { s with fer := f } t := by
  obtain ⟨lk, ht, hs⟩ := taken_atBody h
  obtain ⟨t, hx, hr, hl⟩ := exec_kept_replied (x := { atBody lk s with fer := f }) h ht ⟨rfl, rfl, hf, rfl⟩ (hb lk _) h20 h14
  exact ⟨t, hx, hr, (leaves_withStore hs f s.regs).trans hl⟩

end Sys2Proof.Machine

open Sys2Proof Sys2Proof.Machine

/-- Settles O12: the attempt is counted before the comparison; what the comparison, the lockout or the mask then does is each body's one reply. -/
theorem nvmRegionLocks : Obligations.NvmRegionLocks := by
  unfold Obligations.NvmRegionLocks
  refine ⟨?fits, ?wrong, ?locked, ?nothing, ?lock⟩
  case fits =>
    intro p s v h n m hb hm ho hl hv hlow hs he
    have ha : Attempts p v s := ⟨hb, hm, ho, hl, hv, hlow⟩
    obtain ⟨t, hx, hr, hlv⟩ := exec_fer_replied (st := stOk) (pl := []) (f := ferWithRegion n (Region.unlocked m) (ferAfterPassword v s)) h rfl (by decide) (by decide) fun lk r =>
      (runCommand_low (by decide) p r _).trans (cmdNvmUnlock_fits (ha.atBody lk) hs he r)
    have hfer : t.fer = ferWithRegion n (Region.unlocked m) (ferAfterPassword v s) := hlv.fer
    obtain ⟨h36, hother⟩ := ctrRead_afterAttempt (t := t) hv hlow (by rw [hfer]; rfl)
    have hregions : t.fer.regions = modAt n (Region.unlocked m) s.fer.regions := by rw [hfer]; rfl
    refine ⟨t, hx, hr, by rw [hfer]; exact hlv, by rw [hfer]; rfl, h36, hother, fun i hi => ?_, ?_⟩
    · rw [hregions, getElem?_modAt, if_neg (Ne.symm hi)]
    · have hn := lt_of_verifier hs
      rw [regionAt_eq, regionAt_eq, hregions, getElem?_modAt, if_pos rfl, List.getElem?_eq_getElem hn]
      rfl
  case wrong =>
    intro p s v h n hb hm ho hl hv hlow hw
    have ha : Attempts p v s := ⟨hb, hm, ho, hl, hv, hlow⟩
    obtain ⟨t, hx, hr, hlv, -⟩ := exec_nvm_told (f := ferAfterAttempt v s) (v := s.regs) (bits := 0x80) (st := stDenied) (pl := refusalBytes 0xFFFF 0x0A) h rfl rfl (by decide) (by decide)
      fun lk r => (runCommand_low (by decide) p r _).trans (cmdNvmUnlock_wrong (ha.atBody lk) hw r)
    have hfer : t.fer = ferAfterAttempt v s := hlv.fer
    obtain ⟨h36, hother⟩ := ctrRead_afterAttempt (t := t) hv hlow (by rw [hfer])
    exact ⟨t, hx, hr, by rw [hfer]; exact hlv, by rw [hfer]; rfl, by rw [hfer]; rfl, h36, hother⟩
  case locked =>
    intro p s h hb hm ho hf hs
    obtain ⟨lk, hl⟩ := taken_frame h
    exact exec_read h stLocked (refusalBytes 0xFFFF 0) (by rw [hl]; exact (runCommand_low (by decide) p _ _).trans (cmdNvmUnlock_locked (s := atBody lk s) hb hm ho hf hs _)) (by decide) (by decide)
  case nothing =>
    exact servesRead_of_reply (fun _ _ => rfl) fun p s lk r _ ⟨hb, hm⟩ => (runCommand_low (by decide) p r _).trans (cmdNvmUnlock_nothing (s := atBody lk s) hb hm r)
  case lock =>
    intro p s h hb
    obtain ⟨t, hx, hr, hlv⟩ := exec_fer_replied (st := stOk) (pl := []) (f := { s.fer with regions := relockRegions (at_ p.payload 0 2) (List.range 16) s.fer.regions }) h rfl
      (by decide) (by decide) fun lk r => (runCommand_low (by decide) p r _).trans (cmdNvmLock_free (s := atBody lk s) hb r)
    have hregions : t.fer.regions = relockRegions (at_ p.payload 0 2) (List.range 16) s.fer.regions := by rw [hlv.fer]
    exact ⟨t, hx, hr, by rw [hregions]; exact hlv, by rw [hregions, relockRegions_length], fun i => regionAt_relocked hregions i⟩

end

section
/-! What a save of SHADOW goes by (R324): the release, and the number of the last save. No step on the way into Midnight or a Sundown moves either, but the end of a release itself. -/
namespace Sys2Proof.Machine

/-- The release and the number of the last save are as before. -/
structure SaveKept (s t : State) : Prop where
  release : t.acc.release = s.acc.release
  number  : t.fer.shadowGen = s.fer.shadowGen

namespace SaveKept

theorem refl (s : State) : SaveKept s s := ⟨rfl, rfl⟩

/-- A last step after what went before it. -/
theorem after {s t u : State} (k : SaveKept t u) (h : SaveKept s t) : SaveKept s u := ⟨k.release.trans h.release, k.number.trans h.number⟩

theorem ite {s t u : State} {c : Prop} [Decidable c] (h : c → SaveKept s t) (k : ¬ c → SaveKept s u) : SaveKept s (if c then t else u) := by
  split
  · exact h ‹_›
  · exact k ‹_›

theorem foldl {α : Type} {f : State → α → State} (h : ∀ s x, SaveKept s (f s x)) (l : List α) (s : State) : SaveKept s (l.foldl f s) := by
  induction l generalizing s with
  | nil => exact refl s
  | cons x l ih => exact (ih _).after (h s x)

theorem of_stirred {s t : State} (h : Stirred s t) : SaveKept s t := ⟨by rw [h.acc], by rw [h.fer]⟩

end SaveKept

/-! ### Registers, events, replies -/

theorem regSet_saveKept (a : Nat) (v : Word) (s : State) : SaveKept s (regSet a v s) := ⟨rfl, rfl⟩

theorem regPutFld_saveKept (a lo n v : Nat) (s : State) : SaveKept s (regPutFld a lo n v s) := ⟨rfl, rfl⟩

theorem raise_saveKept (a bits : Nat) (s : State) : SaveKept s (raise a bits s) := by
  obtain ⟨e, he⟩ := raise_eng a bits s
  rw [he]
  exact ⟨rfl, rfl⟩

theorem hostEvent_saveKept (code : Byte) (payload : Bytes) (s : State) : SaveKept s (hostEvent code payload s) := .of_stirred (hostEvent_stirred code payload s)

theorem raiseNvm_saveKept (bits : Nat) (s : State) : SaveKept s (raiseNvm bits s) := .of_stirred (raiseNvm_stirred bits s)

theorem reply_saveKept (r : ReplyTo) (status : Byte) (payload : Bytes) (s : State) : SaveKept s (reply r status payload s) := by
  have hcount : ∀ s, SaveKept s (countStatus status s) := fun s => .ite (fun _ => .after (raise_saveKept _ _ _) ⟨rfl, rfl⟩) fun _ => .ite (fun _ => ⟨rfl, rfl⟩) fun _ => ⟨rfl, rfl⟩
  unfold reply
  exact .after (hcount _) (.of_stirred (setPort_stirred _ _ s))

theorem v1Deliver_saveKept (status op : Nat) (d : Bytes) (s : State) : SaveKept s (v1Deliver status op d s) := .ite (fun _ => ⟨rfl, rfl⟩) fun _ => ⟨rfl, rfl⟩

theorem mboxPost_saveKept (src dest : Nat) (data : Bytes) (s : State) : SaveKept s (mboxPost src dest data s).2 := by
  unfold mboxPost
  split
  · exact ⟨rfl, rfl⟩
  split
  · exact ⟨rfl, rfl⟩
  split
  · dsimp only
    split <;> exact ⟨rfl, rfl⟩
  dsimp only
  split
  · exact ⟨rfl, rfl⟩
  · exact .ite (fun _ => ⟨rfl, rfl⟩) fun _ => ⟨rfl, rfl⟩

/-! ### Commits (R301–R305) -/

theorem commitTell_saveKept (page : Option Nat) (old new : PageMeta) (s : State) : SaveKept s (commitTell page old new s) := by
  rw [commitTell_cases]
  refine .ite (fun _ => ?_) fun _ => ⟨rfl, rfl⟩
  obtain ⟨k, v, f, h⟩ := copyFailed_stirred page (b2n (new.degraded.getD false)) (regInc 0x4009000C 32 s)
  exact .after (.of_stirred h) ⟨rfl, rfl⟩

theorem pageCommit_saveKept (page : Nat) (whole : Bool) (rb : ReadBack) (s : State) : SaveKept s (pageCommit page whole rb s) := by
  have hmeta : ∀ m s, SaveKept s (setMeta m s) := fun _ _ => ⟨rfl, rfl⟩
  unfold pageCommit
  exact .after (commitTell_saveKept _ _ _ _) (.ite (fun _ => .after (regSet_saveKept _ _ _) (hmeta _ s)) fun _ => hmeta _ s)

theorem keysZero_saveKept (page : Nat) (s : State) : SaveKept s (keysZero page s) := by
  unfold keysZero
  exact .ite (fun _ => ⟨rfl, rfl⟩) fun _ => .ite (fun _ => ⟨rfl, rfl⟩) fun _ => .ite (fun _ => ⟨rfl, rfl⟩) fun _ => .ite (fun _ => ⟨rfl, rfl⟩) fun _ => .ite (fun _ => ⟨rfl, rfl⟩) fun _ => .ite (fun _ => ⟨rfl, rfl⟩) fun _ => .ite (fun _ => ⟨rfl, rfl⟩) fun _ => ⟨rfl, rfl⟩

theorem raiseFloor_saveKept (s : State) : SaveKept s (raiseFloor s) := by
  unfold raiseFloor
  exact .ite (fun _ => .after (pageCommit_saveKept _ _ _ _) (.after (t := keysZero 1042 s) ⟨rfl, rfl⟩ (keysZero_saveKept 1042 s))) fun _ => ⟨rfl, rfl⟩

theorem incrDone_saveKept (s : State) : SaveKept s (incrDone s) := by
  unfold incrDone ctrInc
  split
  · exact ⟨rfl, rfl⟩
  · dsimp only
    split
    · exact ⟨rfl, rfl⟩
    · exact .ite (fun _ => ⟨rfl, rfl⟩) fun _ => ⟨rfl, rfl⟩

theorem recordCopies_saveKept (w : Work) (rb : ReadBack) (s : State) : SaveKept s (recordCopies w rb s) := by
  unfold recordCopies
  exact .after (commitTell_saveKept _ _ _ _) ⟨rfl, rfl⟩

theorem areaCommits_saveKept (w : Work) (s : State) : SaveKept s (areaCommits w s) := .foldl (fun s _ => pageCommit_saveKept _ _ _ s) _ s

theorem acceptOne_saveKept (rb : ReadBack) (s : State) (a : Accepting) : SaveKept s (acceptOne rb s a) :=
  .after (.foldl (fun s _ => reply_saveKept _ _ _ s) _ _) (.after (recordCopies_saveKept _ _ _) (.after (areaCommits_saveKept _ _) ⟨rfl, rfl⟩))

theorem acceptFails_saveKept (rb : ReadBack) (s : State) (a : Accepting) : SaveKept s (acceptFails rb s a) :=
  .after (.foldl (fun s _ => reply_saveKept _ _ _ s) _ _) (.after (recordCopies_saveKept _ _ _) (areaCommits_saveKept _ s))

theorem acceptDone_saveKept (n : Nat) (rb : ReadBack) (s : State) : SaveKept s (acceptDone n rb s) := by
  unfold acceptDone
  exact .ite (fun _ => .after (.foldl (acceptOne_saveKept rb) _ _) ⟨rfl, rfl⟩) fun _ => .after (.foldl (acceptFails_saveKept rb) _ _) ⟨rfl, rfl⟩

theorem oemReply_saveKept (k code status : Nat) (data : Bytes) (s : State) : SaveKept s (oemReply k code status data s) := mboxPost_saveKept _ _ _ s

theorem writeOver_saveKept (work loose : Option Nat) (s : State) : SaveKept s (writeOver work loose s) := .after (by exact ⟨rfl, rfl⟩) (raiseNvm_saveKept 1 s)

theorem commitAfter_saveKept (c : Commit) (rb : ReadBack) (s : State) : SaveKept s (commitAfter c rb s) := by
  unfold commitAfter
  dsimp only
  cases c.kind with
  | acceptance n => exact acceptDone_saveKept n rb s
  | workPage q => exact .ite (fun _ => ⟨rfl, rfl⟩) fun _ => writeOver_saveKept _ _ s
  | loosePage q => exact .ite (fun _ => ⟨rfl, rfl⟩) fun _ => writeOver_saveKept _ _ s
  | legacy => exact .ite (fun _ => ⟨rfl, rfl⟩) fun _ => .after (v1Deliver_saveKept _ _ _ _) (raiseNvm_saveKept 1 s)
  | oem k => exact .ite (fun _ => ⟨rfl, rfl⟩) fun _ => oemReply_saveKept _ _ _ _ s

theorem writeStops_saveKept (kind : CommitKind) (s : State) : SaveKept s (writeStops kind s) := by
  unfold writeStops
  cases kind with
  | acceptance n => exact ⟨rfl, rfl⟩
  | workPage q => exact ⟨rfl, rfl⟩
  | loosePage q => exact ⟨rfl, rfl⟩
  | legacy => exact .after (v1Deliver_saveKept _ _ _ _) ⟨rfl, rfl⟩
  | oem k => exact .after (oemReply_saveKept _ _ _ _ _) ⟨rfl, rfl⟩

theorem stopUnsealed_saveKept (n : Nat) (s : State) : SaveKept s (stopUnsealed n s) := by
  induction n generalizing s with
  | zero => exact ⟨rfl, rfl⟩
  | succ n ih =>
    unfold stopUnsealed
    split
    · exact ⟨rfl, rfl⟩
    · exact .ite (fun _ => (ih _).after (writeStops_saveKept _ s)) fun _ => ⟨rfl, rfl⟩

theorem commitDone_saveKept (rb : ReadBack) (s : State) : SaveKept s (commitDone rb s) := by
  have hpage : ∀ c, SaveKept s (commitPage c rb s) := fun c => .after (by exact ⟨rfl, rfl⟩) (pageCommit_saveKept _ _ rb s)
  unfold commitDone
  split
  · exact ⟨rfl, rfl⟩
  · exact .after (.after (by exact ⟨rfl, rfl⟩) (stopUnsealed_saveKept _ _)) (.after (commitAfter_saveKept _ rb _) (.after (by exact ⟨rfl, rfl⟩) (.ite (fun _ => (by exact ⟨rfl, rfl⟩)) fun _ => hpage _)))

theorem flightDone_saveKept (s : State) : SaveKept s (flightDone s) := .ite (fun _ => ⟨rfl, rfl⟩) fun _ => commitDone_saveKept _ s

/-! ### The radio and ranging (R161, R198) -/

theorem rbeEnd_saveKept (s : State) : SaveKept s (rbeEnd s) := by
  have htmin : ∀ s, SaveKept s (tminApply s) := fun s => by
    unfold tminApply
    split
    · exact .ite (fun _ => ⟨rfl, rfl⟩) fun _ => ⟨rfl, rfl⟩
    · exact ⟨rfl, rfl⟩
  unfold rbeEnd
  refine .after (htmin _) (.after (.of_stirred (runGaps_stirred _)) (.after (.ite (fun _ => ⟨rfl, rfl⟩) fun _ => ⟨rfl, rfl⟩) (.after (.of_stirred (retryBand_stirred true _)) ?_)))
  exact .after (.foldl (fun s _ => .ite (fun _ => (by exact ⟨rfl, rfl⟩)) fun _ => (by exact ⟨rfl, rfl⟩)) _ _) (by exact ⟨rfl, rfl⟩)

theorem rngShed_saveKept (s : State) : SaveKept s (rngShed s) := by
  have habort : SaveKept s (rbeAbort s) := by
    unfold rbeAbort
    split
    · exact .ite (fun _ => .after (rbeEnd_saveKept _) (.after (raise_saveKept _ _ _) ⟨rfl, rfl⟩)) fun _ => ⟨rfl, rfl⟩
    · exact ⟨rfl, rfl⟩
  unfold rngShed rngOver
  exact .after (.of_stirred (runGaps_stirred _)) (.after (.of_stirred (rngAir_stirred _ _)) (.after (.of_stirred (rngAir_stirred _ _)) (.after (by exact ⟨rfl, rfl⟩) habort)))

theorem endDesc_saveKept (h : Bool) (d st : Nat) (s : State) : SaveKept s (endDesc h d st s) := by
  have hband : ∀ f s, SaveKept s (modBand h f s) := fun _ _ => ⟨rfl, rfl⟩
  have hstat : ∀ s, SaveKept s (setTxStat h d st s) := fun s => regPutFld_saveKept _ _ _ _ s
  have hjobs : ∀ f s, SaveKept s (modRad f s) := fun _ _ => ⟨rfl, rfl⟩
  unfold endDesc answerTx
  refine .after (.of_stirred (retryBand_stirred h _)) (.after (.foldl (fun s _ => reply_saveKept _ _ _ s) _ _) (.after (hjobs _ _) ?_))
  exact .after (raise_saveKept _ _ _) (.after (hband _ _) (.after (hstat _) (regPutFld_saveKept _ _ _ _ s)))

theorem radioOff_saveKept (st : Nat) (s : State) : SaveKept s (radioOff st s) := by
  have hend : ∀ h s, SaveKept s (endAll h st s) := fun h s => .foldl (fun s d => endDesc_saveKept h d st s) _ s
  have hclose : ∀ r s, SaveKept s (closeSlots r [] s) := fun r s => .ite (fun _ => ⟨rfl, rfl⟩) fun _ => .after (raise_saveKept _ _ _) ⟨rfl, rfl⟩
  unfold radioOff
  refine .after (.foldl (fun s r => .after (hclose r _) (by exact ⟨rfl, rfl⟩)) _ _) (.after (hend true _) (.after (hend false _) ?_))
  exact .after (.foldl (fun s _ => by exact ⟨rfl, rfl⟩) _ _) ⟨rfl, rfl⟩

/-! ### The end of a telegram (R110, R113, R117) -/

theorem submitEnergy_saveKept (r : EnergyReq) (s : State) : SaveKept s (submitEnergy r s) := .ite (fun _ => ⟨rfl, rfl⟩) fun _ => ⟨rfl, rfl⟩

theorem e1Next_saveKept (s : State) : SaveKept s (e1Next s) := .foldl (fun s _ => .ite (fun _ => (by exact ⟨rfl, rfl⟩)) fun _ => .after (submitEnergy_saveKept _ _) (by exact ⟨rfl, rfl⟩)) _ s

theorem finishTest_saveKept (s : State) (j : LfTestJob) : SaveKept s (finishTest s j) := by
  unfold finishTest
  split
  · exact ⟨rfl, rfl⟩
  · exact .ite (fun _ => .ite (fun _ => ⟨rfl, rfl⟩) fun _ => ⟨rfl, rfl⟩) fun _ => .ite (fun _ => v1Deliver_saveKept _ _ _ s) fun _ => ⟨rfl, rfl⟩

theorem runOffsets_saveKept (s : State) : SaveKept s (runOffsets s) := by
  have hmeasure : ∀ s, SaveKept s (measureOffsets s) := fun s => by
    unfold measureOffsets
    exact .after (by exact ⟨rfl, rfl⟩) (.foldl (fun _ _ => (by exact ⟨rfl, rfl⟩)) _ s)
  unfold runOffsets
  exact .ite (fun _ => .after (.foldl (fun s _ => reply_saveKept _ _ _ s) _ _) (.after (hmeasure _) ⟨rfl, rfl⟩)) fun _ => ⟨rfl, rfl⟩

theorem endTelegram_saveKept (early : Bool) (s : State) : SaveKept s (endTelegram early s) := by
  have hload : ∀ s, SaveKept s (loadGranted s) := fun s => by
    unfold loadGranted
    split
    · exact .ite (fun _ => ⟨rfl, rfl⟩) fun _ => ⟨rfl, rfl⟩
    · exact ⟨rfl, rfl⟩
  have hpair : ∀ s, SaveKept s (applyPair s) := fun s => by
    unfold applyPair
    split <;> exact ⟨rfl, rfl⟩
  unfold endTelegram
  split
  · exact ⟨rfl, rfl⟩
  · exact .after (e1Next_saveKept _) (.after (hload _) (.after (runOffsets_saveKept _) (.after (hpair _) (.after (.after (.foldl finishTest_saveKept _ _) (by exact ⟨rfl, rfl⟩)) (.after (by exact ⟨rfl, rfl⟩) (raise_saveKept _ _ _))))))

/-! ### The end of a release (R79) -/

theorem setFrame_saveKept (r : Nat) (f : AirFrame) (s : State) : SaveKept s (setFrame r f s) := by
  have hput : ∀ lo n v t, SaveKept s t → SaveKept s (regPutFld (rxAddr r 0) lo n v t) := fun lo n v t h => .after (regPutFld_saveKept _ lo n v t) h
  unfold setFrame
  refine .ite (fun _ => ?_) fun _ => ?_
  · exact .after (regSet_saveKept _ _ _) (hput _ _ _ _ (hput _ _ _ _ (hput _ _ _ _ (hput _ _ _ _ (.refl s)))))
  · exact .after (regSet_saveKept _ _ _) (hput _ _ _ _ (hput _ _ _ _ (hput _ _ _ _ (hput _ _ _ _ (hput _ _ _ _ (hput _ _ _ _ (hput _ _ _ _ (.refl s))))))))

theorem tuneRx_saveKept (r freq : Nat) (f : AirFrame) (s : State) : SaveKept s (tuneRx r freq f s) := by
  unfold tuneRx
  exact .after (.of_stirred (rxCfgWrite_stirred r _)) (.after (setFrame_saveKept r f _) (.after (.of_stirred (commitSyn_stirred _ _)) (.after (regSet_saveKept _ _ _)
    (.ite (fun _ => .refl s) fun _ => regSet_saveKept _ _ s))))

theorem disarm_saveKept (r : Nat) (s : State) : SaveKept s (disarm r s) := by
  have hsteps : ∀ s, SaveKept s (bandLSteps s) := fun s => .ite (fun _ => ⟨rfl, rfl⟩) fun _ => ⟨rfl, rfl⟩
  unfold disarm sensorListen
  exact .after (.ite (fun _ => ⟨rfl, rfl⟩) fun _ => tuneRx_saveKept _ _ _ _) (.after (.of_stirred (runGaps_stirred _)) (.after (.of_stirred (rngAir_stirred _ _)) (.after (hsteps _) ⟨rfl, rfl⟩)))

theorem cplSend_saveKept (u type flags : Nat) (maced : Bool) (payload : Bytes) (s : State) : SaveKept s (cplSend u type flags maced payload s) := by
  have hsend : ∀ r a b s, SaveKept s (tpSend r a b s) := fun r a b s => .foldl (fun s _ => .ite (fun _ => (by exact ⟨rfl, rfl⟩)) fun _ => (by exact ⟨rfl, rfl⟩)) _ s
  unfold cplSend tpStart
  exact .after (hsend _ _ _ _) ⟨rfl, rfl⟩

theorem dropSlot_saveKept (i : Nat) (s : State) : SaveKept s (dropSlot i s) := ⟨rfl, rfl⟩

/-- Ending a release moves the release, as R79 says, and nothing more of what a save goes by. -/
theorem endRelease_saveKept {cause : Nat} {s : State} (ha : s.acc.release.active = true) : SaveKept (modRel (endedRelease cause) s) (endRelease cause s) := by
  have hleft : ∀ s, SaveKept s (sendLeft s) := fun s => .foldl (fun s _ => cplSend_saveKept _ _ _ _ _ s) _ s
  unfold endRelease
  simp only [ha, Bool.not_true, Bool.false_eq_true, if_false]
  refine .after (.ite (fun _ => hleft _) fun _ => .refl _) (.after (hostEvent_saveKept _ _ _) (.after (dropSlot_saveKept 9 _) ?_))
  split
  · exact disarm_saveKept _ _
  · exact .refl _

theorem endRelease_over (cause : Nat) (s : State) : (endRelease cause s).acc.release.active = false ∧ (endRelease cause s).fer.shadowGen = s.fer.shadowGen := by
  cases ha : s.acc.release.active with
  | false =>
    rw [endRelease_none ha]
    exact ⟨ha, rfl⟩
  | true =>
    have h := endRelease_saveKept (cause := cause) ha
    exact ⟨by rw [h.release]; rfl, h.number⟩

end Sys2Proof.Machine
end

section
/-! The save of SHADOW, Midnight and Sundown (R324, R555, R557). -/
namespace Sys2Proof.Machine

/-! ### The save (R323, R324) -/

/-- Every page of SHADOW is saved when the save reaches all sixteen and no copy fails. -/
theorem savedPages_all (m : SaveMeas) : decide ((savedPages m).length = 16) = (m.pages.val == 16 && m.bad == 0) := by
  have hle : (savedPages m).length ≤ m.pages.val := (List.length_filter_le _ _).trans_eq List.length_range
  have hpages := m.pages.isLt
  by_cases hp : m.pages.val = 16
  · have hall : (savedPages m).length = 16 ↔ m.bad = 0 := by
      have hlen : (savedPages m).length = (List.range m.pages.val).length ↔ ∀ p ∈ List.range m.pages.val, (!m.bad.getLsbD p) = true := List.length_filter_eq_length_iff
      rw [List.length_range, hp] at hlen
      rw [hlen]
      constructor
      · intro h
        refine BitVec.eq_of_getLsbD_eq fun i hi => ?_
        simpa using h i (List.mem_range.2 hi)
      · rintro h p -
        simp [h]
    rw [Bool.eq_iff_iff]
    simp [hall, hp]
  · have hne : (savedPages m).length ≠ 16 := by omega
    simp [hne, hp]

/-- Both copies of a page of SHADOW after a save. -/
def savedCopies (gen : Word) (m : SaveMeas) (p : Nat) : PageMeta :=
  { page := 1904 + p, c0 := { gen := gen, ok := (savedPages m).contains p }, c1 := { gen := gen, ok := (savedPages m).contains p }, degraded := none }

/-- The copies that a save writes are page copies. -/
theorem foldl_setMeta {α : Type} (f : α → PageMeta) (l : List α) (s : State) :
    (l.foldl (fun s x => setMeta (f x) s) s).fer.shadowGen = s.fer.shadowGen ∧ (l.foldl (fun s x => setMeta (f x) s) s).acc = s.acc := by
  induction l generalizing s with
  | nil => exact ⟨rfl, rfl⟩
  | cons x l ih => exact ih (setMeta (f x) s)

/-- Raising bits of an event register leaves all but registers and engines. -/
theorem raise_leaves (a bits : Nat) (s : State) : (raise a bits s).fer = s.fer ∧ (raise a bits s).acc = s.acc ∧ (raise a bits s).power = s.power := by
  obtain ⟨e, he⟩ := raise_eng a bits s
  rw [he]
  exact ⟨rfl, rfl, rfl⟩

/-- What a save leaves: the next number, SAVE_OK, and the release as it was. -/
theorem shadowSave_leaves (cause : Nat) (m : SaveMeas) (s : State) :
    (shadowSave cause m s).fer.shadowGen = s.fer.shadowGen + 1 ∧ (shadowSave cause m s).acc = s.acc ∧
      (shadowSave cause m s).power.saveOk = (m.pages.val == 16 && m.bad == 0) := by
  rw [← savedPages_all]
  unfold shadowSave
  dsimp only
  generalize hu : ({ s with fer := { s.fer with image := _, shadow := _, shadowGen := s.fer.shadowGen + 1 } } : State) = u
  have hgen : u.fer.shadowGen = s.fer.shadowGen + 1 := by rw [← hu]
  have hacc : u.acc = s.acc := by rw [← hu]
  obtain ⟨hfgen, hfacc⟩ := foldl_setMeta (savedCopies (s.fer.shadowGen + 1) m) (List.range m.pages.val) u
  obtain ⟨hrfer, hracc, hrpower⟩ := raise_leaves 0x40090008 16 (regCount 0x4009000C 0 32 (savedPages m).length
    (modPow (fun p => { p with saveOk := decide ((savedPages m).length = 16) }) ((List.range m.pages.val).foldl (fun v p => setMeta (savedCopies (s.fer.shadowGen + 1) m p) v) u)))
  exact ⟨(congrArg Feram.shadowGen hrfer).trans (hfgen.trans hgen), hracc.trans (hfacc.trans hacc), congrArg Power.saveOk hrpower⟩

/-! ### Midnight (R555) -/

theorem canQuiet_saveKept (s : State) : SaveKept s (canQuiet s) := .foldl (fun s b => .after (t := regPutFld (canBase b) 0 2 0 s) (by exact ⟨rfl, rfl⟩) (regPutFld_saveKept _ _ _ _ s)) _ s

theorem midnightShed_saveKept (s : State) : SaveKept s (midnightShed s) := by
  unfold midnightShed
  exact .after (radioOff_saveKept 5 _) (.after (rngShed_saveKept _) (.after (.foldl (fun _ _ => by exact ⟨rfl, rfl⟩) _ _) (.after (canQuiet_saveKept _) ⟨rfl, rfl⟩)))

theorem enterMidnight_leaves (m : SaveMeas) (s : State) :
    (enterMidnight m s).power.state = .midnight ∧ (enterMidnight m s).power.pll = false ∧ (enterMidnight m s).link.afterReply = none ∧
      (enterMidnight m s).fer.shadowGen = s.fer.shadowGen + 1 ∧ (enterMidnight m s).power.saveOk = (m.pages.val == 16 && m.bad == 0) := by
  have hshed : ∀ s, SaveKept s (raiseFloor (incrDone (flightDone (midnightShed s)))) := fun s =>
    .after (raiseFloor_saveKept _) (.after (incrDone_saveKept _) (.after (flightDone_saveKept _) (midnightShed_saveKept s)))
  obtain ⟨hgen, -, hok⟩ := shadowSave_leaves 2 m (raiseFloor (incrDone (flightDone (midnightShed (regPutFld 0x40000020 5 1 (regFld s 0x40010000 4 1) s)))))
  rw [(hshed _).number] at hgen
  unfold enterMidnight
  dsimp only
  generalize shadowSave 2 m _ = x at hgen hok ⊢
  exact ⟨rfl, rfl, rfl, hgen, hok⟩

/-! ### What the end of a command leaves of it -/

/-- With nothing asked for after a reply, the end of a command asks for nothing. -/
theorem settle_afterReply {s : State} (h : s.link.afterReply = none) : (settle s).link.afterReply = none := by
  have hport : ∀ p x s, (setPort p x s).link.afterReply = s.link.afterReply := fun p x s => by cases p <;> rfl
  have hrelease : ∀ p s, (releaseReplies p s).link.afterReply = s.link.afterReply := fun p s => by
    unfold releaseReplies
    dsimp only
    split <;> exact hport p _ s
  have hconsumed : ∀ (o : OutPkt) (s : State), s.link.afterReply = none → (afterConsumed o s).link.afterReply = none := fun o s h => by
    unfold afterConsumed
    split
    · simp only [h]
    · split
      · exact h
      · exact h
  have hsend : ∀ (q : List OutPkt) (s : State), s.link.afterReply = none → (q.foldl (fun s o => afterConsumed o (emitOut (.uartTx o.bytes) s)) s).link.afterReply = none := fun q => by
    induction q with
    | nil => exact fun _ h => h
    | cons o q ih => exact fun s h => ih _ (hconsumed o _ h)
  have huart : ∀ s, s.link.afterReply = none → (sendUart s).link.afterReply = none := fun s h => by
    unfold sendUart
    split
    · exact hsend _ _ ((hport _ _ _).trans h)
    · exact h
  exact huart _ ((hrelease _ _).trans ((hrelease _ _).trans h))

theorem Concluded.power {s t : State} (h : Concluded s t) : t.power = s.power := by rw [h.rest]
theorem Concluded.number {s t : State} (h : Concluded s t) : t.fer.shadowGen = s.fer.shadowGen := by rw [h.rest]
theorem Concluded.saf {s t : State} (h : Concluded s t) : t.saf = s.saf := by rw [h.rest]
theorem Concluded.eng {s t : State} (h : Concluded s t) : t.eng = s.eng := by rw [h.rest]
theorem Concluded.ks {s t : State} (h : Concluded s t) : t.ks = s.ks := by rw [h.rest]

/-- An event whose effect is the entry to Midnight. -/
theorem act_enterMidnight {f : State → State} {m : SaveMeas} {s : State} (hf : f (fresh s) = enterMidnight m (fresh s)) :
    ∃ t, act f s = .next t ∧ t.power.state = .midnight ∧ t.power.pll = false ∧ t.link.afterReply = none ∧ t.fer.shadowGen = s.fer.shadowGen + 1 ∧
      t.power.saveOk = (m.pages.val == 16 && m.bad == 0) := by
  obtain ⟨hstate, hpll, hreply, hgen, hok⟩ := enterMidnight_leaves m (fresh s)
  have hc := settle_concluded (enterMidnight m (fresh s))
  have hr := settle_afterReply hreply
  refine ⟨{ settle (enterMidnight m (fresh s)) with pending := s.pending }, by rw [act, hf], ?_⟩
  generalize enterMidnight m (fresh s) = y at *
  exact ⟨by rw [hc.power]; exact hstate, by rw [hc.power]; exact hpll, hr, hc.number.trans hgen, by rw [hc.power]; exact hok⟩

theorem midnightEntry_asked {m : SaveMeas} {s : State} (ha : awake s = true) (h : s.link.afterReply = some (.midnight, none)) : midnightEntry m s = enterMidnight m s := by
  unfold midnightEntry
  rw [h]
  exact if_pos ha

/-! ### Sundown (R324, R557, R558) -/

/-- A Sundown in Noon saves and holds the device. -/
theorem sundown_noon {m : SaveMeas} {s : State} (hn : s.power.state = .noon) (hd : s.power.stage = .done) :
    (sundown false m s).power.state = .held ∧ (sundown false m s).power.vsupOk = false ∧ (sundown false m s).saf.due = some (8, 3, false) ∧
      (sundown false m s).acc.release.active = false ∧ (sundown false m s).fer.shadowGen = s.fer.shadowGen + 1 ∧
      (sundown false m s).power.saveOk = (m.pages.val == 16 && m.bad == 0) := by
  have hwhere : ¬ (s.power.state = .midnight ∨ s.power.state = .held) := by rw [hn]; decide
  have hearly : (s.power.state == .bootFail || s.power.stage == .waitXo) = false := by rw [hn, hd]; decide
  have hshed : SaveKept (endRelease 9 s) (raiseFloor (incrDone (flightDone (radioOff 6 (rngShed (endTelegram true (endRelease 9 s))))))) :=
    .after (raiseFloor_saveKept _) (.after (incrDone_saveKept _) (.after (flightDone_saveKept _) (.after (radioOff_saveKept 6 _) (.after (rngShed_saveKept _) (endTelegram_saveKept true _)))))
  obtain ⟨hrelease, hnumber⟩ := endRelease_over 9 s
  obtain ⟨hgen, hacc, hok⟩ := shadowSave_leaves 1 m (raiseFloor (incrDone (flightDone (radioOff 6 (rngShed (endTelegram true (endRelease 9 s)))))))
  rw [hshed.number, hnumber] at hgen
  have hover := hshed.release
  rw [← hacc] at hover
  unfold sundown
  simp only [if_neg hwhere, hearly, Bool.false_eq_true, if_false]
  generalize shadowSave 1 m _ = x at hgen hok hover ⊢
  exact ⟨rfl, rfl, rfl, (congrArg Release.active hover).trans hrelease, hgen, hok⟩

theorem sundown_down {m : SaveMeas} {s : State} (h : s.power.state = .midnight ∨ s.power.state = .held) : sundown false m s = s := if_pos h

end Sys2Proof.Machine
end

section
/-! Dusk (R553, R554): what its entry puts to sleep, and what its exit gives back. -/
namespace Sys2Proof.Machine

/-! ### The entry (R553) -/

/-- The radio in Dusk: RX-A sniffs from SLEEP, every other chain is off. -/
def duskRadio (x : Radio) : Radio := { x with l1 := .sleep, l2 := .off, hTx := .off, hRx := .off, sniff := true }

/-- The power part in Dusk. -/
def duskPower (l : List Nat) (x : Power) : Power := { x with state := .dusk, duskDue := false, exitDue := false, duskEngs := l }

theorem foldl_modEng (f : Engine → Engine) (l : List Nat) (s : State) :
    l.foldl (fun s n => modEng (engNo n) f s) s = { s with eng := (l.foldl (fun s n => modEng (engNo n) f s) s).eng } := by
  induction l generalizing s with
  | nil => rfl
  | cons n l ih => exact ih (modEng (engNo n) f s)

/-- The chains and the engines asleep. -/
def duskAsleep (s : State) : State :=
  (duskSleepers s).foldl (fun s n => modEng (engNo n) (fun e => { e with state := .siesta, waitMask := some 0xFFFFFFFF }) s) (modRad duskRadio s)

/-- The controllers in CONFIG, unless CAN_DUSK keeps them. -/
def duskBus (s : State) : State := if regBit s 0x4000001C 1 then s else canQuiet s

theorem enterDusk_eq (s : State) : enterDusk s = raise 0x40000010 2 (modPow (duskPower (duskSleepers s)) (duskBus (duskAsleep s))) := rfl

theorem duskAsleep_leaves (s : State) : duskAsleep s = { s with rad := duskRadio s.rad, eng := (duskAsleep s).eng } := foldl_modEng _ _ (modRad duskRadio s)

theorem canQuiet_regs (s : State) : RegsBut [0x400C0000, 0x400C4000] s (canQuiet s) := fun a ha => by
  obtain ⟨h0, h1⟩ := List.ne_and_not_mem_of_not_mem_cons ha
  exact (regGet_regSet_ne (List.ne_of_not_mem_cons h1) _ (regPutFld (canBase 0) 0 2 0 s)).trans (regGet_regSet_ne h0 _ s)

theorem duskBus_leaves (s : State) : duskBus s = { s with regs := (duskBus s).regs, bus := (duskBus s).bus } ∧ RegsBut [0x400C0000, 0x400C4000] s (duskBus s) := by
  unfold duskBus
  split
  · exact ⟨rfl, fun _ _ => rfl⟩
  · exact ⟨rfl, canQuiet_regs s⟩

theorem duskBus_config {s : State} (h : regBit s 0x4000001C 1 = false) : (canOf (duskBus s) 0).state = .config ∧ (canOf (duskBus s) 1).state = .config := by
  rw [duskBus, if_neg (by rw [h]; decide)]
  exact ⟨rfl, rfl⟩

/-- What the entry to Dusk leaves: engines, chains, controllers and the power part alone have changed. -/
theorem enterDusk_leaves (s : State) :
    (enterDusk s = { s with rad := duskRadio s.rad, regs := (enterDusk s).regs, bus := (duskBus (duskAsleep s)).bus, eng := (enterDusk s).eng,
                            power := duskPower (duskSleepers s) s.power }) ∧
      RegsBut [0x40000010, 0x400C0000, 0x400C4000] s (enterDusk s) ∧ regBit (enterDusk s) 0x40000010 1 = true := by
  have hsleep := duskAsleep_leaves s
  obtain ⟨hbus, hregs⟩ := duskBus_leaves (duskAsleep s)
  have hbit := regBit_raise (a := 0x40000010) (bits := 2) (i := 1) (by decide) (modPow (duskPower (duskSleepers s)) (duskBus (duskAsleep s)))
  obtain ⟨e, he⟩ := raise_eng 0x40000010 2 (modPow (duskPower (duskSleepers s)) (duskBus (duskAsleep s)))
  rw [enterDusk_eq]
  refine ⟨?_, fun a ha => ?_, hbit⟩
  · rw [he]
    generalize duskBus (duskAsleep s) = y at hbus ⊢
    rw [hsleep] at hbus
    rw [hbus]
    rfl
  · obtain ⟨h10, hother⟩ := List.ne_and_not_mem_of_not_mem_cons ha
    rw [he]
    refine (regGet_regSet_ne h10 _ _).trans ((hregs a hother).trans ?_)
    rw [hsleep]
    rfl

theorem duskEntry_idle {s : State} (h : duskIdle s = false ∨ s.power.state ≠ .noon) : duskEntry s = s := by
  refine if_neg fun hc => ?_
  simp only [Bool.and_eq_true, inNoon, beq_iff_eq] at hc
  obtain ⟨⟨hn, -⟩, hi⟩ := hc
  rcases h with h | h
  · exact absurd (h.symm.trans hi) (by decide)
  · exact h hn

theorem exec_duskEntry_enters {s : State} (hi : s.LinkInv) (hn : inNoon s = true) (hd : s.power.duskDue = true ∨ regBit s 0x4000001C 0 = true) (hidle : duskIdle s = true) :
    exec .duskEntry s = .next (enterDusk (fresh s)) := by
  have hf : duskEntry (fresh s) = enterDusk (fresh s) := if_pos (by
    have h1 : inNoon (fresh s) = true := hn
    have h2 : (fresh s).power.duskDue = true ∨ regBit (fresh s) 0x4000001C 0 = true := hd
    have h3 : duskIdle (fresh s) = true := hidle
    simp only [h1, h3, Bool.or_eq_true, Bool.and_eq_true, h2, and_self])
  obtain ⟨he, hregs, -⟩ := enterDusk_leaves (fresh s)
  have hlink : (enterDusk (fresh s)).link = (fresh s).link := by rw [he]
  refine (act_quiet duskEntry s ?_ ?_).trans (by rw [hf])
  · rw [hf]
    exact linkInv_congr (by rw [hlink]) (by rw [hlink]) (by rw [hlink]) (by rw [hlink]) (by rw [hlink]) (hregs _ (by decide)) (hregs _ (by decide)) (by rw [he]) (fresh_linkInv hi)
  · rw [hf, he]
    rfl

end Sys2Proof.Machine
end

section
/-! The exit from Dusk (R554): what wakes goes on running, and nothing else is touched that access, keys, journal and link go by. -/
namespace Sys2Proof.Machine

/-- The access state, the key store, the journal, the power part, and the commands and replies that wait on the link. -/
def waitPart (s : State) :=
  (s.acc, s.ks, s.jrn, s.power, s.link.held, s.link.v1Wait, s.link.hcs0.opn, s.link.uart.opn)

/-- What waits in `s` waits in `t`; of events queued for the UART none is a COMPLETE, a bit of SYS_EVENTS that was set is set, and an engine that ran runs. -/
structure BackKept (s t : State) : Prop where
  waits  : waitPart t = waitPart s
  queued : ∀ o ∈ t.link.uart.outq, o ∈ s.link.uart.outq ∨ o.code ≠ 1
  cfg    : regGet t 0x40010000 = regGet s 0x40010000
  raised : ∀ i, regBit s 0x40000010 i = true → regBit t 0x40000010 i = true
  runs   : ∀ k, (engOf s k).state = .run → (engOf t k).state = .run

namespace BackKept

theorem acc {s t : State} (h : BackKept s t) : t.acc = s.acc := congrArg (fun p => p.1) h.waits
theorem ks {s t : State} (h : BackKept s t) : t.ks = s.ks := congrArg (fun p => p.2.1) h.waits
theorem jrn {s t : State} (h : BackKept s t) : t.jrn = s.jrn := congrArg (fun p => p.2.2.1) h.waits
theorem power {s t : State} (h : BackKept s t) : t.power = s.power := congrArg (fun p => p.2.2.2.1) h.waits
theorem held {s t : State} (h : BackKept s t) : t.link.held = s.link.held := congrArg (fun p => p.2.2.2.2.1) h.waits
theorem v1Wait {s t : State} (h : BackKept s t) : t.link.v1Wait = s.link.v1Wait := congrArg (fun p => p.2.2.2.2.2.1) h.waits
theorem hcs0 {s t : State} (h : BackKept s t) : t.link.hcs0.opn = s.link.hcs0.opn := congrArg (fun p => p.2.2.2.2.2.2.1) h.waits
theorem uart {s t : State} (h : BackKept s t) : t.link.uart.opn = s.link.uart.opn := congrArg (fun p => p.2.2.2.2.2.2.2) h.waits

/-- A step on what the relation does not read. -/
theorem aside {s t : State} (hw : waitPart t = waitPart s) (hq : t.link.uart.outq = s.link.uart.outq) (hr : t.regs = s.regs) (he : t.eng = s.eng) : BackKept s t := by
  refine ⟨hw, fun o ho => .inl (hq ▸ ho), ?_, fun i hi => ?_, fun k hk => ?_⟩
  · rw [regGet, hr, regGet]
  · rwa [regBit, regGet, hr]
  · rwa [engOf, he]

theorem refl (s : State) : BackKept s s := .aside rfl rfl rfl rfl

/-- A last step after what went before it. -/
theorem after {s t u : State} (k : BackKept t u) (h : BackKept s t) : BackKept s u :=
  ⟨k.waits.trans h.waits, fun o ho => (k.queued o ho).elim (h.queued o) .inr, k.cfg.trans h.cfg, fun i hi => k.raised i (h.raised i hi), fun j hj => k.runs j (h.runs j hj)⟩

theorem ite {s t u : State} {c : Prop} [Decidable c] (h : c → BackKept s t) (k : ¬ c → BackKept s u) : BackKept s (if c then t else u) := by
  split
  · exact h ‹_›
  · exact k ‹_›

theorem foldl {α : Type} {f : State → α → State} (h : ∀ s x, BackKept s (f s x)) (l : List α) (s : State) : BackKept s (l.foldl f s) := by
  induction l generalizing s with
  | nil => exact refl s
  | cons x l ih => exact (ih _).after (h s x)

end BackKept

/-! ### Engines -/

theorem engOf_setEng_ne {j k : Fin 12} (h : j ≠ k) (e : Engine) (s : State) : engOf (setEng k e s) j = engOf s j := by
  simp only [engOf, setEng, Fin.getElem_fin]
  exact Vector.getElem_set_ne _ _ fun hv => h (Fin.ext hv.symm)

/-- Changing an engine so that it goes on running when it runs. -/
theorem modEng_backKept {f : Engine → Engine} (h : ∀ e, e.state = .run → (f e).state = .run) (k : Fin 12) (s : State) : BackKept s (modEng k f s) := by
  refine ⟨rfl, fun _ h => .inl h, rfl, fun _ h => h, fun j hj => ?_⟩
  by_cases hk : j = k
  · subst hk
    rw [modEng, engOf_setEng]
    exact h _ hj
  · rwa [modEng, engOf_setEng_ne hk]

theorem pendLine_backKept (k : Fin 12) (n : Nat) (s : State) : BackKept s (pendLine k n s) := by
  refine modEng_backKept (fun e he => ?_) k s
  unfold wakeEng
  split
  · split
    · rfl
    · exact he
  · exact he

theorem lineUp_backKept (src : Nat) (s : State) : BackKept s (lineUp src s) :=
  .ite (fun _ => .refl s) fun _ => .foldl (fun s k => .foldl (fun s i => pendLine_backKept k (4 + i) s) _ s) _ s

/-! ### Registers and events -/

/-- The register is neither HIF_CFG nor SYS_EVENTS. -/
def NotWatched (a : Nat) : Prop := a ∉ [0x40010000, 0x40000010]

theorem stirredRegs_notWatched : ∀ a ∈ stirredRegs, NotWatched a := by
  unfold NotWatched
  decide

theorem regSet_backKept {a : Nat} (ha : NotWatched a) (v : Word) (s : State) : BackKept s (regSet a v s) := by
  obtain ⟨hc, hs⟩ := List.ne_and_not_mem_of_not_mem_cons ha
  exact ⟨rfl, fun _ h => .inl h, regGet_regSet_ne (Ne.symm hc) v s, fun i hi => by rwa [regBit, regGet_regSet_ne (Ne.symm (List.ne_of_not_mem_cons hs))], fun _ h => h⟩

theorem raise_backKept {a : Nat} (ha : a ≠ 0x40010000) (bits : Nat) (s : State) : BackKept s (raise a bits s) := by
  have hor : BackKept s (regOr a bits s) := ⟨rfl, fun _ h => .inl h, regGet_regSet_ne ha.symm _ s, fun i hi => by rw [regBit_regOr, hi]; rfl, fun _ h => h⟩
  unfold raise
  exact .ite (fun _ => .after (lineUp_backKept _ _) hor) fun _ => hor

theorem hostEvent_backKept {code : Byte} (hc : code ≠ 1) (payload : Bytes) (s : State) : BackKept s (hostEvent code payload s) := by
  have hlose : ∀ p s, BackKept s (loseEvent p code s) := fun p s => by
    unfold loseEvent
    cases p <;> exact .after (raise_backKept (by decide) _ _) (.after (regSet_backKept (by unfold NotWatched; decide) _ _) (by exact .aside rfl rfl rfl rfl))
  have hqueue : ∀ p s, BackKept s (queueEvent p (eventPkt code 0 payload) s) := fun p s => by
    unfold queueEvent
    refine .ite (fun _ => ?_) fun _ => hlose p s
    cases p with
    | hcs0 => exact .aside rfl rfl rfl rfl
    | uart => exact ⟨rfl, fun o ho => (List.mem_append.1 ho).imp_right fun h => by rw [List.mem_singleton.1 h]; exact hc, rfl, fun _ h => h, fun _ h => h⟩
  unfold hostEvent
  split
  · exact .refl s
  · exact .ite (fun _ => .foldl (fun s p => hqueue p s) _ s) fun _ => .refl s

/-! ### Chains and receivers -/

theorem applyReq_backKept (r : Nat) (s : State) : BackKept s (applyReq r s) := by
  have hchain : ∀ i c, BackKept s (setChain i c s) := fun _ _ => .aside rfl rfl rfl rfl
  have hlow : ∀ h bits s, BackKept s (radEvent h bits s) := fun h bits s => by cases h <;> exact raise_backKept (by decide) _ s
  unfold applyReq
  refine .ite (fun _ => .refl s) fun _ => .ite (fun _ => hchain _ _) fun _ => ?_
  split
  · exact hchain _ _
  · exact hchain _ _
  · exact hchain _ _
  · exact .ite (fun _ => .after (hlow _ _ _) (hchain _ _)) fun _ => hchain _ _

theorem setFrame_backKept {r : Nat} (h : r = 0 ∨ r = 1) (f : AirFrame) (s : State) : BackKept s (setFrame r f s) := by
  obtain ⟨-, -, hcfg, hsync⟩ := tuneRegs_stirred h 0
  have hput : ∀ lo n v t, BackKept s t → BackKept s (regPutFld (rxAddr r 0) lo n v t) := fun lo n v t k => .after (regSet_backKept (stirredRegs_notWatched _ hcfg) _ t) k
  unfold setFrame
  dsimp only
  rw [if_neg (by omega)]
  exact .after (regSet_backKept (stirredRegs_notWatched _ hsync) _ _) (hput _ _ _ _ (hput _ _ _ _ (hput _ _ _ _ (hput _ _ _ _ (hput _ _ _ _ (hput _ _ _ _ (hput _ _ _ _ (.refl s))))))))

theorem sensorListen_backKept {r : Nat} (h : r = 0 ∨ r = 1) (s : State) : BackKept s (sensorListen r s) := by
  obtain ⟨hfreq, hif, -, -⟩ := tuneRegs_stirred h (rxSyn s r)
  have hsyn : ∀ i s, BackKept s (commitSyn i s) := fun i s => by
    unfold commitSyn
    exact .after (.ite (fun _ => .aside rfl rfl rfl rfl) fun _ => .aside rfl rfl rfl rfl) (t := modSyn i _ s) (by exact .aside rfl rfl rfl rfl)
  have hcfg : ∀ s, BackKept s (rxCfgWrite r s) := fun s => .ite (fun _ => .refl s) fun _ => .after (applyReq_backKept r _) (by exact .aside rfl rfl rfl rfl)
  unfold sensorListen tuneRx
  exact .ite (fun _ => .refl s) fun _ => .after (hcfg _) (.after (setFrame_backKept h _ _) (.after (hsyn _ _) (.after (regSet_backKept (stirredRegs_notWatched _ hfreq) _ _)
    (.ite (fun _ => .refl s) fun _ => regSet_backKept (stirredRegs_notWatched _ hif) _ s))))

/-! ### The steps of the exit (R554) -/

theorem reportDusk_backKept (s : State) : BackKept s (reportDusk s) := by
  have hevent : ∀ r s, BackKept s (snsEvent 1 (some r) s) := fun r s => by
    unfold snsEvent
    exact .after (hostEvent_backKept (by decide) _ _) (raise_backKept (by decide) _ s)
  have hpublish : ∀ r s, BackKept s (publishDue r s) := fun r s => by
    unfold publishDue
    split
    · exact .ite (fun _ => .aside rfl rfl rfl rfl) fun _ => .refl s
    · exact .refl s
  unfold reportDusk
  exact .after (.foldl (fun s r => .after (hpublish r _) (hevent r s)) _ _) (by exact .aside rfl rfl rfl rfl)

theorem sensorsListen_backKept (s : State) : BackKept s (sensorsListen s) := .after (sensorListen_backKept (.inr rfl) _) (sensorListen_backKept (.inl rfl) s)

/-- An engine leaves the Siesta of Dusk. -/
def backToRun (e : Engine) : Engine := if e.state = .siesta then { e with state := .run, waitMask := none } else e

theorem backToRun_run {e : Engine} (h : e.state = .run) : (backToRun e).state = .run := by
  rw [backToRun, if_neg (by rw [h]; decide)]
  exact h

/-- The engines of a list run again. -/
def enginesBack (l : List Nat) (s : State) : State := l.foldl (fun s n => modEng (engNo n) backToRun s) s

theorem enginesBack_backKept (l : List Nat) (s : State) : BackKept s (enginesBack l s) := .foldl (fun s n => modEng_backKept (fun _ => backToRun_run) (engNo n) s) l s

theorem enginesBack_runs {l : List Nat} {k : Fin 12} (hk : l.contains k.val = true) {s : State} (h : (engOf s k).state = .siesta) : (engOf (enginesBack l s) k).state = .run := by
  induction l generalizing s with
  | nil => exact absurd hk (by simp)
  | cons n l ih =>
    by_cases hn : engNo n = k
    · have hrun : (engOf (modEng (engNo n) backToRun s) k).state = .run := by
        rw [hn, modEng, engOf_setEng, backToRun, if_pos h]
      exact (enginesBack_backKept l _).runs k hrun
    · have hne : n ≠ k.val := fun hv => hn (by rw [hv]; simp [engNo])
      have hl : l.contains k.val = true := by simpa [Ne.symm hne] using hk
      refine ih hl (s := modEng (engNo n) backToRun s) ?_
      rw [modEng, engOf_setEng_ne (Ne.symm hn)]
      exact h

/-- A controller that the entry put in CONFIG integrates again. -/
def canBack (s : State) (b : Nat) : State :=
  if (canOf s b).state = .config then modCan b (fun c => { c with state := .active, integrating := true }) (regPutFld (canBase b) 0 2 2 s) else s

theorem canBack_backKept (s : State) (b : Nat) : BackKept s (canBack s b) := by
  have hbase : NotWatched (canBase b) := by
    simp only [NotWatched, canBase, List.mem_cons, List.not_mem_nil, or_false]
    omega
  have hcan : ∀ f s, BackKept s (modCan b f s) := fun _ _ => .aside rfl rfl rfl rfl
  exact .ite (fun _ => .after (hcan _ _) (regSet_backKept hbase _ s)) fun _ => .refl s

theorem chainsIdle_backKept (s : State) : BackKept s (chainsIdle s) := by
  have hrad : ∀ f s, BackKept s (modRad f s) := fun _ _ => .aside rfl rfl rfl rfl
  have hchain : ∀ i c s, BackKept s (setChain i c s) := fun _ _ s => hrad _ s
  unfold chainsIdle
  exact .after (.foldl (fun s i => .ite (fun _ => hchain i _ s) fun _ => .refl s) _ _) (hrad _ s)

/-- The controllers and the chains of Noon. -/
def airBack (s : State) : State := chainsIdle ([0, 1].foldl canBack s)

theorem airBack_backKept (s : State) : BackKept s (airBack s) := .after (chainsIdle_backKept _) (.foldl canBack_backKept [0, 1] s)

/-- The power part in Noon again. -/
def noonPower (x : Power) : Power := { x with state := .noon, exitDue := false, duskDue := false, duskEngs := [] }

theorem leaveDusk_eq (s : State) : leaveDusk s = raise 0x40000010 1 (airBack (enginesBack s.power.duskEngs (modPow noonPower s))) := rfl

end Sys2Proof.Machine
end

section
/-! The exit from Dusk with nothing held, waiting or queued (R554). -/
namespace Sys2Proof.Machine

theorem leaveDusk_backKept (s : State) : BackKept (modPow noonPower s) (leaveDusk s) := by
  rw [leaveDusk_eq]
  exact .after (raise_backKept (by decide) 1 _) (.after (airBack_backKept _) (enginesBack_backKept _ _))

theorem leaveDusk_raised (s : State) : regBit (leaveDusk s) 0x40000010 0 = true := by
  rw [leaveDusk_eq]
  exact regBit_raise (by decide) _

theorem leaveDusk_runs {k : Fin 12} {s : State} (hk : s.power.duskEngs.contains k.val = true) (h : (engOf s k).state = .siesta) : (engOf (leaveDusk s) k).state = .run := by
  rw [leaveDusk_eq]
  exact ((raise_backKept (by decide) 1 _).after (airBack_backKept _)).runs k (enginesBack_runs (s := modPow noonPower s) hk h)

theorem startQueued_nothing {s : State} (ht : s.acc.triggers = []) (hw : s.acc.waiting = []) : startQueued s = s := by
  have hfill : fillQueue s = s := by
    unfold fillQueue
    rw [hw]
  unfold startQueued
  rw [hfill, ht]
  exact ite_self s

/-- No packet is held. -/
def noneHeld (s : State) : State := { s with link := { s.link with held := [] } }

theorem noneHeld_backKept {s : State} (h : s.link.held = []) : BackKept s (noneHeld s) := .aside (by rw [waitPart, waitPart, h]; rfl) rfl rfl rfl

/-- The device in Noon again, its sensors reported and heard, nothing held. -/
def duskLeft (s : State) : State := sensorsListen (reportDusk (noneHeld (leaveDusk s)))

theorem duskLeft_backKept_leaveDusk {s : State} (h : s.link.held = []) : BackKept (leaveDusk s) (duskLeft s) :=
  .after (sensorsListen_backKept _) (.after (reportDusk_backKept _) (noneHeld_backKept ((leaveDusk_backKept s).held.trans h)))

theorem duskLeft_backKept {s : State} (h : s.link.held = []) : BackKept (modPow noonPower s) (duskLeft s) :=
  .after (duskLeft_backKept_leaveDusk h) (leaveDusk_backKept s)

theorem duskExit_left {s : State} (hd : s.power.state = .dusk) (he : s.power.exitDue = true) (hh : s.link.held = []) (hv : s.link.v1Wait = none)
    (ht : s.acc.triggers = []) (hw : s.acc.waiting = []) : duskExit s = duskLeft s := by
  have hleft := duskLeft_backKept hh
  have hheld : (leaveDusk s).link.held = [] := (leaveDusk_backKept s).held.trans hh
  have hgo : ¬ (s.power.state ≠ .dusk ∨ (!s.power.exitDue) = true) := by simp [hd, he]
  unfold duskExit
  rw [if_neg hgo]
  dsimp only
  rw [hheld, List.foldl_nil]
  change startQueued (v1Resume (duskLeft s)) = duskLeft s
  rw [v1Resume_idle (hleft.v1Wait.trans hv), startQueued_nothing ((congrArg _ hleft.acc).trans ht) ((congrArg _ hleft.acc).trans hw)]

theorem duskExit_idle {s : State} (h : s.power.exitDue = false) : duskExit s = s := if_pos (.inr (by rw [h]; rfl))

/-! ### The journal at the end of a command (R345, R353) -/

/-- The end of a command leaves the journal when replies stand in order and no COMPLETE goes out of the UART. -/
theorem settle_jrn {y : State} (ho : y.ordered = true) (hq : regBit y 0x40010000 1 = true → ∀ o ∈ y.link.uart.outq, o.slot.isSome = true ∨ o.code ≠ 1) :
    (settle y).jrn = y.jrn := by
  obtain ⟨h0, h1⟩ := (ordered_iff y).1 ho
  have hsent : (sendUart y).jrn = y.jrn := by rw [(sendUart_touches hq).1]
  unfold settle
  rw [releaseReplies_id .hcs0 y h0, releaseReplies_id .uart y h1]
  exact hsent

/-- From a state between two commands, what goes on running queues no COMPLETE for the UART. -/
theorem settle_backKept_jrn {s y : State} (hi : s.LinkInv) (h : BackKept s y) : (settle y).jrn = s.jrn := by
  obtain ⟨-, hordered, hsent, -⟩ := hi
  obtain ⟨h0, h1⟩ := (ordered_iff s).1 hordered
  refine (settle_jrn ((ordered_iff y).2 ⟨by rw [h.hcs0]; exact h0, by rw [h.uart]; exact h1⟩) fun hu o ho => .inr ?_).trans h.jrn
  have hon : regBit s 0x40010000 1 = true := by rwa [regBit, h.cfg] at hu
  have hempty : s.link.uart.outq = [] := by simpa [State.uartSent, hon] using hsent
  exact (h.queued o ho).resolve_left (by rw [hempty]; exact List.not_mem_nil)

end Sys2Proof.Machine
end

section
open Sys2Proof Sys2Proof.Machine

/-- Settles O34: a command that meets its guard runs the one entry, exit or save, a command that does not runs nothing; the end of the command leaves what that made. -/
theorem sleepAndSave : Obligations.SleepAndSave := by
  unfold Obligations.SleepAndSave
  refine ⟨?dusk, fun s hi h => act_idle hi (duskEntry_idle (s := fresh s) h), ?exit, fun s hi h => act_idle hi (duskExit_idle (s := fresh s) h), ?midnight, ?auto, ?notDusk, ?sundown,
    fun s m hi h => act_idle hi (sundown_down (s := fresh s) h)⟩
  case dusk =>
    intro s hi hn hd hidle
    obtain ⟨he, -, hbit⟩ := enterDusk_leaves (fresh s)
    refine ⟨enterDusk (fresh s), exec_duskEntry_enters hi hn hd hidle, ?_⟩
    have hconfig : regBit s 0x4000001C 1 = false → (canOf (enterDusk (fresh s)) 0).state = .config ∧ (canOf (enterDusk (fresh s)) 1).state = .config := fun hb => by
      have hregs : regBit (duskAsleep (fresh s)) 0x4000001C 1 = false := by rw [duskAsleep_leaves]; exact hb
      rw [he]
      exact duskBus_config hregs
    generalize enterDusk (fresh s) = t at he hbit hconfig ⊢
    refine ⟨?_, ?_, hbit, ?_, ?_, ?_, ?_, ?_, ?_, hconfig⟩ <;> rw [he] <;> rfl
  case exit =>
    intro s hi hd he hh hv ht hw
    have hf : duskExit (fresh s) = duskLeft (fresh s) := duskExit_left (s := fresh s) hd he hh hv ht hw
    have hkept : BackKept (modPow noonPower (fresh s)) (duskLeft (fresh s)) := duskLeft_backKept hh
    have hleave : BackKept (leaveDusk (fresh s)) (duskLeft (fresh s)) := duskLeft_backKept_leaveDusk hh
    have hinv : (modPow noonPower (fresh s)).LinkInv := linkInv_congr rfl rfl rfl rfl rfl rfl rfl rfl (fresh_linkInv hi)
    have hjrn := settle_backKept_jrn hinv hkept
    have hc := settle_concluded (duskLeft (fresh s))
    have hbit := hleave.raised 0 (leaveDusk_raised _)
    have hruns : ∀ k : Fin 12, s.power.duskEngs.contains k.val = true → (engOf s k).state = .siesta → (engOf (duskLeft (fresh s)) k).state = .run := fun k hk hs =>
      hleave.runs k (leaveDusk_runs (s := fresh s) hk hs)
    refine ⟨{ settle (duskLeft (fresh s)) with pending := s.pending }, by rw [← hf]; rfl, ?_⟩
    generalize duskLeft (fresh s) = y at hkept hjrn hc hbit hruns ⊢
    refine ⟨congrArg Power.state (hc.power.trans hkept.power), ?_, hc.acc.trans hkept.acc, hc.ks.trans hkept.ks, hjrn, fun k hk hs => ?_⟩
    · exact (congrArg (fun r => wbit (kvGet regReset r 0x40000010) 0) hc.regs).trans hbit
    · exact (congrArg (fun e => e[k].state) hc.eng).trans (hruns k hk hs)
  case midnight =>
    intro s m ha h
    exact act_enterMidnight (midnightEntry_asked (s := fresh s) ha h)
  case auto =>
    intro s m hd hreg he hb hw
    have hf : autoMidnight m (fresh s) = enterMidnight m (fresh s) :=
      if_pos ⟨hd, hreg, congrArg not he, congrArg not hb, congrArg not hw⟩
    obtain ⟨t, hx, hstate, hpll, -, hgen, -⟩ := act_enterMidnight hf
    exact ⟨t, hx, hstate, hpll, hgen⟩
  case notDusk =>
    intro s m hi h
    exact act_idle hi (if_neg fun hc => h hc.1)
  case sundown =>
    intro s m hn hd
    obtain ⟨hstate, hsup, hdue, hrel, hgen, hok⟩ := sundown_noon (m := m) (s := fresh s) hn hd
    obtain ⟨t, hx, hc⟩ := act_concluded (sundown false m) s
    refine ⟨t, hx, ?_⟩
    rw [hc.power, hc.saf, hc.acc, hc.number]
    exact ⟨hstate, hsup, hdue, hrel, hgen, hok⟩

end

section
/-! The link invariant: where it stands and why every step keeps it. -/
open Sys2Proof Sys2Proof.Machine

/-- Settles O4: the queues of the reset state are empty and HIF_CFG asks for no level. -/
theorem linkInvariantAtReset : Obligations.LinkInvariantAtReset :=
  ⟨by decide +kernel, by decide, by decide +kernel, rfl⟩

/-- Settles O5: whatever a step does, it ends in `settle`, which makes the invariant. -/
theorem linkInvariantKept : Obligations.LinkInvariantKept := by
  intro s t _ hx
  cases hq : s.pending with
  | nil => exact act_linkInv tick s t ((step_nil s hq).symm.trans hx)
  | cons c q => exact exec_linkInv c s.rest t ((step_cons c q s hq).symm.trans hx)
end

section
/-! What the end of a command makes of one reply on a port whose order holds nothing else (R337, R345), said exactly. -/
namespace Sys2Proof.Machine

/-- The order of port `pt` holds `w` alone, no answered command stands at the head of the other port's order, a UART that sends has sent, and no read-back is left over. -/
structure Alone (pt : VPort) (w : OpenSlot) (y : State) : Prop where
  opn   : (portOf y pt).opn = [w]
  other : ∀ q, q ≠ pt → headOpen (portOf y q).opn = true
  sent  : y.uartSent = true
  on    : pt = .uart → regBit y 0x40010000 1 = true
  reads : y.fer.reads = []

/-- A port's queues are empty, in a state with the link invariant but for HIRQ_N. -/
structure Idle (pt : VPort) (s : State) : Prop where
  opn     : (portOf s pt).opn = []
  outq    : (portOf s pt).outq = []
  on      : pt = .uart → regBit s 0x40010000 1 = true
  ordered : s.ordered = true
  sent    : s.uartSent = true
  reads   : s.fer.reads = []

/-- `t` has the ports, HIF_CFG and the read-backs of `s`: all that decides what the end of a command does with the queues. -/
structure SamePorts (s t : State) : Prop where
  hcs0  : t.link.hcs0 = s.link.hcs0
  uart  : t.link.uart = s.link.uart
  cfg   : regGet t 0x40010000 = regGet s 0x40010000
  reads : t.fer.reads = s.fer.reads

namespace SamePorts

theorem refl (s : State) : SamePorts s s := ⟨rfl, rfl, rfl, rfl⟩

theorem trans {s t u : State} (h : SamePorts s t) (k : SamePorts t u) : SamePorts s u :=
  ⟨k.hcs0.trans h.hcs0, k.uart.trans h.uart, k.cfg.trans h.cfg, k.reads.trans h.reads⟩

section
variable {s t : State} (h : SamePorts s t)
include h

theorem portOf (pt : VPort) : portOf t pt = Machine.portOf s pt := by
  cases pt
  · exact h.hcs0
  · exact h.uart

theorem ordered : t.ordered = s.ordered := by simp only [State.ordered, h.hcs0, h.uart]
theorem uartOn : regBit t 0x40010000 1 = regBit s 0x40010000 1 := by simp only [regBit, h.cfg]
theorem uartSent : t.uartSent = s.uartSent := by simp only [State.uartSent, h.uartOn, h.uart]

theorem idle {pt : VPort} (k : Idle pt s) : Idle pt t :=
  ⟨by rw [h.portOf, k.opn], by rw [h.portOf, k.outq], fun e => h.uartOn.trans (k.on e), h.ordered.trans k.ordered, h.uartSent.trans k.sent, h.reads.trans k.reads⟩

theorem alone {pt : VPort} {w : OpenSlot} (k : Alone pt w s) : Alone pt w t :=
  ⟨by rw [h.portOf, k.opn], fun q hq => by rw [h.portOf]; exact k.other q hq, h.uartSent.trans k.sent, fun e => h.uartOn.trans (k.on e), h.reads.trans k.reads⟩

end

end SamePorts

theorem fresh_samePorts (s : State) : SamePorts s (fresh s) := ⟨rfl, rfl, rfl, rfl⟩

/-- Only the order of its port changes where an idle port gets a command. -/
theorem Idle.alone_setPort {pt : VPort} {s : State} (h : Idle pt s) (w : OpenSlot) : Alone pt w (setPort pt { portOf s pt with opn := [w] } s) := by
  have hord := (ordered_iff s).mp h.ordered
  cases pt
  · refine ⟨rfl, fun q hq => ?_, h.sent, nofun, h.reads⟩
    cases q
    · exact absurd rfl hq
    · exact hord.2
  · refine ⟨rfl, fun q hq => ?_, h.sent, fun _ => h.on rfl, h.reads⟩
    cases q
    · exact hord.1
    · exact absurd rfl hq

theorem Alone.uart_empty {pt : VPort} {w : OpenSlot} {y : State} (h : Alone pt w y) (hu : regBit y 0x40010000 1 = true) : y.link.uart.outq = [] := by
  simpa [State.uartSent, hu] using h.sent

/-- An answered command alone in the order of HCS0_N: its reply joins the queue. -/
theorem releaseReplies_hcs0_answered {w : OpenSlot} {k : OutPkt} {y : State} (hopn : y.link.hcs0.opn = [w]) (hk : w.pkt = some k) :
    ∃ em, releaseReplies .hcs0 y = { y with emit := em, link := { y.link with hcs0 := { y.link.hcs0 with outq := y.link.hcs0.outq ++ [k], opn := [] } } } := by
  simp only [releaseReplies, portOf, setPort, hopn, List.takeWhile, List.dropWhile, hk, Option.isSome_some, List.filterMap_cons, List.filterMap_nil]
  split
  · exact ⟨y.emit ++ [.hirqPulse], rfl⟩
  · exact ⟨y.emit, rfl⟩

theorem settle_hcs0_answered {w : OpenSlot} {k : OutPkt} {y : State} (h : Alone .hcs0 w y) (hk : w.pkt = some k) :
    ∃ em hq, settle y = { y with
      emit := em, link := { y.link with hcs0 := { y.link.hcs0 with outq := y.link.hcs0.outq ++ [k], opn := [] }, hirq := hq } } := by
  obtain ⟨em, hrel⟩ := releaseReplies_hcs0_answered h.opn hk
  have hu : releaseReplies .uart (releaseReplies .hcs0 y) = releaseReplies .hcs0 y := by
    refine releaseReplies_id .uart _ ?_
    rw [hrel]
    exact h.other .uart nofun
  have hs : sendUart (releaseReplies .hcs0 y) = releaseReplies .hcs0 y := by
    refine sendUart_id _ ?_
    rw [hrel]
    exact h.sent
  rw [settle, hu, hs, hrel, show ([] : List ReadBack) = y.fer.reads from h.reads.symm]
  exact ⟨em, _, rfl⟩

/-- An answered command alone in the order of the UART: its reply is sent, and consumed so. -/
theorem settle_uart_answered {w : OpenSlot} {k : OutPkt} {y : State} (h : Alone .uart w y) (hk : w.pkt = some k) :
    ∃ hq, settle y =
      let z := afterConsumed k (emitOut (.uartTx k.bytes) { y with link := { y.link with uart := { y.link.uart with outq := [], opn := [], last := some k } } })
      { z with link := { z.link with hirq := hq }, fer := { z.fer with reads := [] } } := by
  have hopn : y.link.uart.opn = [w] := h.opn
  have hempty : y.link.uart.outq = [] := h.uart_empty (h.on rfl)
  have h0 : releaseReplies .hcs0 y = y := releaseReplies_id .hcs0 y (h.other .hcs0 nofun)
  have hrel : releaseReplies .uart y = { y with link := { y.link with uart := { y.link.uart with outq := [k], opn := [] } } } := by
    simp [releaseReplies, portOf, setPort, hopn, hk, hempty]
  have hon : regBit (releaseReplies .uart y) 0x40010000 1 = true := by
    rw [hrel]
    exact h.on rfl
  rw [settle, h0, sendUart, if_pos hon, hrel]
  exact ⟨_, rfl⟩

/-- What waits for a reply's consumption, once the reply of slot `i` was consumed (R377). -/
def replyConsumed {α : Type} (i : Nat) : Option (α × Option Nat) → Option (α × Option Nat)
  | some (w, some j) => if j = i then some (w, none) else some (w, some j)
  | some (w, none) => some (w, none)
  | none => none

/-- The configuration writes that wait, once the reply of slot `i` was consumed (R343). -/
def cfgConsumed (i : Nat) (l : List (Nat × Word × Option Nat)) : List (Nat × Word × Option Nat) :=
  l.map fun c => if c.2.2 = some i then (c.1, c.2.1, none) else c

/-- The consumption of a reply touches what waits for it alone. -/
theorem afterConsumed_reply {o : OutPkt} {i : Nat} (h : o.slot = some i) (s : State) :
    afterConsumed o s = { s with link := { s.link with cfgPend := cfgConsumed i s.link.cfgPend, afterReply := replyConsumed i s.link.afterReply } } := by
  unfold afterConsumed
  rw [h]
  dsimp only
  rcases hr : s.link.afterReply with _ | ⟨w, _ | j⟩
  · rfl
  · rfl
  · by_cases hj : j = i
    · simp only [hj, if_pos, replyConsumed]
      rfl
    · simp only [hj, if_false, replyConsumed]
      rfl

/-- A packet has left on a port: in the queue of HCS0_N, or sent by the UART. -/
def Out (pt : VPort) (k : OutPkt) (t : State) : Prop :=
  match pt with
  | .hcs0 => k ∈ t.link.hcs0.outq
  | .uart => Emission.uartTx k.bytes ∈ t.emit

theorem replied_of_out {op : Byte} {p : Packet} {st : Byte} {pl : Bytes} {s t : State} (h : Out p.port (replyPkt (replyTo op p s) st pl false) t) : Replied op p st pl s t := by
  unfold Replied
  unfold Out at h
  cases hp : p.port <;> rw [hp] at h <;> exact h

/-- `t` is what a command leaves whose effect was `y` and whose reply, of slot `i`, is the packet `k` on port `pt`. -/
structure Went (pt : VPort) (k : OutPkt) (i : Nat) (y t : State) : Prop where
  out    : Out pt k t
  leaves : Leaves y t
  dusk   : t.power.duskDue = y.power.duskDue
  slot   : t.link.nextSlot = y.link.nextSlot
  after  : t.link.afterReply = if pt = .uart then replyConsumed i y.link.afterReply else y.link.afterReply
  queue  : pt = .hcs0 → t.link.hcs0 = { y.link.hcs0 with outq := y.link.hcs0.outq ++ [k], opn := [] } ∧ t.link.cfgPend = y.link.cfgPend

/-- An answered command alone in its port's order: its reply goes. -/
theorem settled_answered {pt : VPort} {w : OpenSlot} {k : OutPkt} {i : Nat} {y : State} {q : List Instr} (h : Alone pt w y) (hk : w.pkt = some k)
    (hi : k.slot = some i) (hq : y.pending = q) : Went pt k i y { settle y with pending := q } := by
  cases pt
  · obtain ⟨em, lv, hs⟩ := settle_hcs0_answered h hk
    rw [hs, ← hq]
    exact ⟨by simp [Out], rfl, rfl, rfl, rfl, fun _ => ⟨rfl, rfl⟩⟩
  · obtain ⟨lv, hs⟩ := settle_uart_answered h hk
    rw [hs, afterConsumed_reply hi, ← hq]
    refine ⟨by simp [Out], ?_, rfl, rfl, rfl, nofun⟩
    simp only [Leaves, emitOut]
    rw [← h.reads]

/-- The count that a DUP_TAG reply makes (R364). -/
def dupCounted (st : Byte) (x : State) : State := if st = 0x14 then regInc 0x40010034 16 x else x

theorem dupCounted_of_ne {st : Byte} (h : st ≠ 0x14) (x : State) : dupCounted st x = x := if_neg h

theorem dupCounted_samePorts (st : Byte) (x : State) : SamePorts x (dupCounted st x) := by
  unfold dupCounted
  split
  · exact ⟨rfl, rfl, regGet_regSet_ne (by decide) _ _, rfl⟩
  · exact .refl x

theorem dupCounted_pending (st : Byte) (x : State) : (dupCounted st x).pending = x.pending := by
  unfold dupCounted
  split <;> rfl

theorem countStatus_setPort {st : Byte} (h : st ≠ 0x20) (pt : VPort) (ps : PortState) (x : State) :
    countStatus st (setPort pt ps x) = setPort pt ps (dupCounted st x) := by
  unfold countStatus dupCounted
  rw [if_neg h]
  split
  · cases pt <;> rfl
  · rfl

/-- The reply of the one command of a port's order. -/
theorem reply_alone {r : ReplyTo} {room : Nat} {st : Byte} {x : State} (h : Alone r.port { ret := r, room := room, pkt := none } x) (h20 : st ≠ 0x20) (pl : Bytes) :
    reply r st pl x = setPort r.port { portOf x r.port with opn := [{ ret := r, room := room, pkt := some (replyPkt r st pl false) }] } (dupCounted st x) := by
  have hm : modFirst (fun w : OpenSlot => w.ret.slot == r.slot && w.pkt.isNone) (fun w => { w with pkt := some (replyPkt r st pl false) }) (portOf x r.port).opn =
      [{ ret := r, room := room, pkt := some (replyPkt r st pl false) }] := by
    rw [h.opn]
    simp [modFirst]
  rw [reply, hm]
  exact countStatus_setPort h20 _ _ x

/-- The one command of a port's order is exchanged for another. -/
theorem Alone.setPort_opn {pt : VPort} {w v : OpenSlot} {x : State} (h : Alone pt w x) : Alone pt v (setPort pt { portOf x pt with opn := [v] } x) := by
  cases pt
  · refine ⟨rfl, fun q hq => ?_, h.sent, nofun, h.reads⟩
    cases q
    · exact absurd rfl hq
    · exact h.other .uart hq
  · refine ⟨rfl, fun q hq => ?_, h.sent, fun _ => h.on rfl, h.reads⟩
    cases q
    · exact h.other .hcs0 hq
    · exact absurd rfl hq

theorem Leaves.of_setPort (pt : VPort) (ps : PortState) (x : State) : Leaves x (setPort pt ps x) := by
  cases pt <;> rfl

theorem Leaves.refl (x : State) : Leaves x x := rfl

/-- A command replies, alone in its port's order: the reply goes, and the rest is as its effect left it. -/
theorem settled_reply {r : ReplyTo} {room : Nat} {st : Byte} {x : State} {q : List Instr} (h : Alone r.port { ret := r, room := room, pkt := none } x) (h20 : st ≠ 0x20) (pl : Bytes)
    (hq : x.pending = q) : Went r.port (replyPkt r st pl false) r.slot (dupCounted st x) { settle (reply r st pl x) with pending := q } := by
  have hport : portOf (dupCounted st x) r.port = portOf x r.port := (dupCounted_samePorts st x).portOf r.port
  have ha := ((dupCounted_samePorts st x).alone h).setPort_opn (v := { ret := r, room := room, pkt := some (replyPkt r st pl false) })
  rw [hport] at ha
  have k := settled_answered (k := replyPkt r st pl false) (i := r.slot) (q := q) ha rfl rfl (by rw [setPort_pending, dupCounted_pending, hq])
  rw [reply_alone h h20]
  refine ⟨k.out, (Leaves.of_setPort _ _ _).trans k.leaves, k.dusk.trans (by rw [setPort_power]), k.slot.trans ?_, k.after.trans ?_, fun e => ?_⟩
  · cases r.port <;> rfl
  · cases r.port <;> rfl
  · obtain ⟨hh, hc⟩ := k.queue e
    rw [hh, hc, ← hport, e]
    exact ⟨rfl, rfl⟩

end Sys2Proof.Machine
end

section
/-! RESET, POWER and COLLECT (R350, R377, R378): what their bodies make of the state, and the reply they leave. -/
namespace Sys2Proof.Machine

/-! ### Fields of one register -/

/-- A field below the one that is written reads as before. -/
theorem wfld_setFld_below {lo n at' m : Nat} (h : lo + n ≤ at') (hw : lo + n ≤ 32) (w : Word) (v : Nat) : wfld (setFld w at' m v) lo n = wfld w lo n := by
  have hlow : ∀ x : Nat, x / 2 ^ lo % 2 ^ n = x % 2 ^ (lo + n) / 2 ^ lo := fun x => by rw [pow_add, Nat.mod_mul_right_div_self]
  have hdvd : 2 ^ (lo + n) ∣ 2 ^ at' := pow_dvd_pow 2 h
  have hle : fld w.toNat at' m * 2 ^ at' ≤ w.toNat := (Nat.mul_le_mul_right _ (Nat.mod_le _ _)).trans (Nat.div_mul_le_self _ _)
  have hput : (w.toNat - fld w.toNat at' m * 2 ^ at' + v % 2 ^ m * 2 ^ at') % 2 ^ (lo + n) = w.toNat % 2 ^ (lo + n) := by
    rw [Nat.add_mod, Nat.mod_eq_zero_of_dvd (hdvd.mul_left _), Nat.add_zero, Nat.mod_mod]
    exact (Nat.modEq_iff_dvd' (Nat.sub_le _ _)).mpr (by rw [Nat.sub_sub_self hle]; exact hdvd.mul_left _)
  rw [wfld, wfld, fld, fld, hlow, hlow, setFld, word, BitVec.toNat_ofNat, Nat.mod_mod_of_dvd _ (pow_dvd_pow 2 hw), hput]

theorem regFld_regPutFld_below {lo n at' m : Nat} (h : lo + n ≤ at') (hw : lo + n ≤ 32) (a v : Nat) (s : State) :
    regFld (regPutFld a at' m v s) a lo n = regFld s a lo n := by
  simp only [regFld, regPutFld, regGet_regSet, if_true]
  exact wfld_setFld_below h hw _ v

/-! ### A body that replies, with what waits for its reply -/

/-- The slot that a command has taken is alone in the order of its idle port. -/
theorem taken_alone {op : Byte} {p : Packet} {s : State} (h : Ready op p s) :
    Alone p.port { ret := replyTo op p (fresh s), room := maxReply op.toNat, pkt := none } (taken op p (fresh s)) := by
  obtain ⟨hord, hsent, hreads⟩ := taken_waits h
  obtain ⟨h0, h1⟩ := (ordered_iff _).mp hord
  have hregs : (taken op p (fresh s)).regs = s.regs := (taken_leaves h).regs
  refine ⟨?_, fun q _ => by cases q <;> assumption, hsent, fun e => (regBit_congr hregs _ _).trans (h.uartOn e), hreads⟩
  have hopn : (portOf s p.port).opn = [] := h.opn
  have houtq : (portOf s p.port).outq = [] := h.outq
  cases hp : p.port <;> rw [hp] at hopn houtq
  · have ho : (fresh s).link.hcs0.outq = [] := houtq
    have hn : s.link.hcs0.opn = [] := hopn
    simp [taken, hp, spiOutput_idle ho, openSlot, replyTo, setPort, portOf, hn]
  · have hn : s.link.uart.opn = [] := hopn
    simp [taken, hp, openSlot, replyTo, setPort, portOf, hn]

/-- A body that keeps the ports and replies at once, told exactly. -/
theorem exec_went {op : Byte} {p : Packet} {s x : State} {st : Byte} {pl : Bytes} (h : Ready op p s) (hk : SamePorts (taken op p (fresh s)) x) (hp : x.pending = s.pending)
    (hb : runCommand op p (replyTo op p (fresh s)) (taken op p (fresh s)) = reply (replyTo op p (fresh s)) st pl x) (h20 : st ≠ 0x20) :
    ∃ t, act (hostCommand op p) s = .next t ∧ Went p.port (replyPkt (replyTo op p s) st pl false) s.link.nextSlot (dupCounted st x) t := by
  refine ⟨_, rfl, ?_⟩
  rw [hostCommand_ready h.of_fresh, hb]
  exact settled_reply (r := replyTo op p (fresh s)) (hk.alone (taken_alone h)) h20 pl hp

/-- The state with registers and journal replaced. -/
def putRegsJrn (v : List (Nat × Word)) (j : Journal) (s : State) : State := { s with regs := v, jrn := j }

theorem Leaves.putRegsJrn {u t : State} (h : Leaves u t) (v : List (Nat × Word)) (j : Journal) : Leaves (putRegsJrn v j u) (putRegsJrn v j t) := by
  have e := congrArg (Machine.putRegsJrn v j) h
  exact e

/-! ### POWER -/

theorem powerWake_eq (pins rtcS : Nat) (s : State) : powerWake pins rtcS s = { s with regs := (powerWake pins rtcS s).regs } := by
  unfold powerWake
  dsimp only
  split <;> rfl

theorem powerWake_others (pins rtcS : Nat) (s : State) : RegsBut [0x40000020, 0x40000030] s (powerWake pins rtcS s) := by
  intro a ha
  obtain ⟨h2, h3⟩ : a ≠ 0x40000020 ∧ a ≠ 0x40000030 := by simpa using ha
  unfold powerWake
  dsimp only
  split
  · exact (regGet_regSet_ne h2 _ _).trans (regGet_regSet_ne h2 _ _)
  · exact (regGet_regSet_ne h2 _ _).trans ((regGet_regSet_ne h3 _ _).trans (regGet_regSet_ne h2 _ _))

theorem powerWake_pins (pins rtcS : Nat) (s : State) : regFld (powerWake pins rtcS s) 0x40000020 0 4 = pins % 16 := by
  unfold powerWake
  dsimp only
  split
  · rw [regFld_regPutFld_below (by decide) (by decide)]
    exact regFld_regPutFld (by decide) _ _ _
  · rw [regFld_regPutFld_below (by decide) (by decide), regFld, regGet_regSet_ne (by decide)]
    exact regFld_regPutFld (by decide) _ _ _

theorem powerWake_alarmOn (pins rtcS : Nat) (s : State) : regBit (powerWake pins rtcS s) 0x40000020 4 = (rtcS != 0) := by
  rw [regBit_eq_fld]
  unfold powerWake
  dsimp only
  split
  next h => rw [regFld_regPutFld (by decide), h]; rfl
  next h => rw [regFld_regPutFld (by decide)]; simp [h]

theorem powerWake_alarm (pins rtcS : Nat) (s : State) :
    regGet (powerWake pins rtcS s) 0x40000030 = if rtcS = 0 then regGet s 0x40000030 else s.power.rtc + word rtcS := by
  unfold powerWake
  dsimp only
  split
  · exact (regGet_regSet_ne (by decide) _ _).trans (regGet_regSet_ne (by decide) _ _)
  · refine (regGet_regSet_ne (by decide) _ _).trans ?_
    rw [regGet_regSet, if_pos rfl]
    rfl

/-- What a POWER command leaves for after its reply: the idle entry of Dusk at once, Midnight with the slot of the reply (R377). -/
def powerAsked (state : Nat) (slot : Nat) (s : State) : State :=
  match state with
  | 2 => { s with link := { s.link with afterReply := some (.midnight, some slot) } }
  | 1 => { s with power := { s.power with duskDue := true } }
  | _ => s

/-- A POWER command that nothing bars. -/
theorem cmdPower_asks {p : Packet} {s : State}
    (h : byteAt p.payload 0 = 2 → midnightBarred s = false ∧ noWake (byteAt p.payload 1) (at_ p.payload 2 4) s = false) (r : ReplyTo) :
    cmdPower p r s = reply r stOk [] (powerAsked (byteAt p.payload 0) r.slot (powerWake (byteAt p.payload 1) (at_ p.payload 2 4) s)) := by
  unfold cmdPower
  dsimp only
  split
  next h2 =>
    obtain ⟨hb, hn⟩ := h h2
    rw [if_neg (by simp [hb]), if_neg (by simp [hn]), h2]
    rfl
  next h1 => rw [h1]; rfl
  next h2 h1 => rw [powerAsked.eq_3 _ _ _ h2 h1]; rfl

theorem powerAsked_samePorts (state slot : Nat) (s : State) : SamePorts s (powerAsked state slot s) := by
  unfold powerAsked
  split <;> exact ⟨rfl, rfl, rfl, rfl⟩

theorem powerAsked_pending (state slot : Nat) (s : State) : (powerAsked state slot s).pending = s.pending := by
  unfold powerAsked
  split <;> rfl

theorem powerAsked_regs (state slot : Nat) (s : State) : (powerAsked state slot s).regs = s.regs := by
  unfold powerAsked
  split <;> rfl

theorem powerAsked_leaves (state slot : Nat) (s : State) : Leaves s (powerAsked state slot s) := by
  unfold powerAsked
  split <;> rfl

/-! ### COLLECT -/

/-- A commit of a journal unit that reads back right: the count of commits and the unit's copies are all that it writes (R301, R302). -/
theorem jrnCommit_right {s : State} (h : s.fer.reads = []) (n : Nat) :
    ∃ v c, jrnCommit n s = { s with regs := v, jrn := { s.jrn with copies := c } } ∧ RegsBut [0x4009000C] s { s with regs := v } ∧
      ∀ j, j ≠ n → metaIn c j = metaIn s.jrn.copies j := by
  by_cases he : s.jrn.enabled = true
  · have hread : takeRead s = ({ a := 0, b := 0 }, s) := by
      rw [takeRead, h]
      exact Prod.ext rfl (congrArg (fun l => ({ s with fer := { s.fer with reads := l } } : State)) h.symm)
    refine ⟨(regInc 0x4009000C 32 s).regs, metaPut ((metaIn s.jrn.copies n).commit { a := 0, b := 0 }) s.jrn.copies, ?_, regInc_others _ _ _, fun j hj => ?_⟩
    · rw [jrnCommit, hread]
      simp only [he, Bool.not_true, Bool.false_eq_true, if_false, commitTell_right]
      rfl
    · rw [metaIn_metaPut, commit_page, metaIn_page, if_neg hj]
  · exact ⟨s.regs, s.jrn.copies, by rw [jrnCommit, if_pos (by simpa using he)], fun _ _ => rfl, fun _ _ => rfl⟩

/-- COLLECT of a done record (R350). -/
theorem cmdCollect_done {p : Packet} {s : State} {w : Work} (hq : at_ p.payload 0 2 ≠ 0) (hw : s.jrn.works.find? (fun w => w.tag.toNat == at_ p.payload 0 2) = some w)
    (hd : w.state = .done) (r : ReplyTo) :
    cmdCollect p r s = reply r w.status w.result
      (jrnCommit w.recNo { s with jrn := { s.jrn with works := s.jrn.works.filter fun w => w.tag.toNat != at_ p.payload 0 2 } }) := by
  simp [cmdCollect, tagState, hq, hw, hd]

/-- COLLECT of work that is in the ring alone (R350). -/
theorem cmdCollect_ring {p : Packet} {s : State} {e : RingEntry} (hq : at_ p.payload 0 2 ≠ 0) (hw : s.jrn.works.find? (fun w => w.tag.toNat == at_ p.payload 0 2) = none)
    (he : s.jrn.ring.find? (fun e => e.tag.toNat == at_ p.payload 0 2) = some e) (r : ReplyTo) : cmdCollect p r s = reply r e.status e.result s := by
  simp [cmdCollect, tagState, hq, hw, he]

/-! ### The commands whole -/

/-- What the body of RESET makes of the state that it meets (R377). -/
def resetAsked (slot : Nat) (s : State) : State := { s with link := { s.link with afterReply := some (.reset, some slot) } }

theorem exec_reset_asks {p : Packet} {s : State} (h : Ready 0x05 p s) : ∃ t, exec (.reset p) s = .next t ∧ Replied 0x05 p stOk [] s t ∧ Leaves s t ∧
    t.link.afterReply = some (.reset, if p.port = .uart then none else some s.link.nextSlot) := by
  obtain ⟨lk, ht, hs⟩ := taken_atBody h
  have hb : runCommand 0x05 p (replyTo 0x05 p (fresh s)) (taken 0x05 p (fresh s)) = reply (replyTo 0x05 p (fresh s)) stOk [] (resetAsked s.link.nextSlot (atBody lk s)) := by
    rw [runCommand_low (by decide), ht]
    rfl
  obtain ⟨t, hx, k⟩ := exec_went h (x := resetAsked s.link.nextSlot (atBody lk s)) (by rw [ht]; exact ⟨rfl, rfl, rfl, rfl⟩) rfl hb (by decide)
  rw [dupCounted_of_ne (by decide)] at k
  have hlx : Leaves (atBody lk s) (resetAsked s.link.nextSlot (atBody lk s)) := rfl
  refine ⟨t, hx, replied_of_out k.out, (hs.trans hlx).trans k.leaves, k.after.trans ?_⟩
  split <;> simp [resetAsked, replyConsumed]

theorem exec_power_asks {p : Packet} {s : State} (h : Ready 0x06 p s)
    (hbar : byteAt p.payload 0 = 2 → midnightBarred s = false ∧ noWake (byteAt p.payload 1) (at_ p.payload 2 4) s = false) :
    ∃ lk y t, exec (.power p) s = .next t ∧ Leaves s (atBody lk s) ∧ y = powerAsked (byteAt p.payload 0) s.link.nextSlot (powerWake (byteAt p.payload 1) (at_ p.payload 2 4) (atBody lk s)) ∧
      Went p.port (replyPkt (replyTo 0x06 p s) stOk [] false) s.link.nextSlot y t := by
  obtain ⟨lk, ht, hs⟩ := taken_atBody h
  generalize hx : powerWake (byteAt p.payload 1) (at_ p.payload 2 4) (atBody lk s) = x
  have hwake : x = { atBody lk s with regs := x.regs } := hx ▸ powerWake_eq _ _ _
  have hothers : RegsBut [0x40000020, 0x40000030] (atBody lk s) x := hx ▸ powerWake_others _ _ _
  generalize hy : powerAsked (byteAt p.payload 0) s.link.nextSlot x = y
  have hb : runCommand 0x06 p (replyTo 0x06 p (fresh s)) (taken 0x06 p (fresh s)) = reply (replyTo 0x06 p (fresh s)) stOk [] y := by
    rw [runCommand_low (by decide), ht, ← hy, ← hx]
    exact cmdPower_asks (s := atBody lk s) hbar _
  have hkeep : SamePorts (taken 0x06 p (fresh s)) y := by
    rw [← hy, ht]
    exact .trans ⟨by rw [hwake], by rw [hwake], hothers _ (by decide), by rw [hwake]⟩ (powerAsked_samePorts _ _ _)
  obtain ⟨t, hrun, k⟩ := exec_went h hkeep (by rw [← hy, powerAsked_pending, hwake]; rfl) hb (by decide)
  rw [dupCounted_of_ne (by decide)] at k
  exact ⟨lk, y, t, hrun, hs, by rw [← hy, ← hx], k⟩

/-- The record of collected work, done, has left the journal (R350). -/
def collected (q : Nat) (j : Journal) : Journal := { j with works := j.works.filter fun w => w.tag.toNat != q }

theorem exec_collect_done {p : Packet} {s : State} {w : Work} (h : Ready 0x04 p s) (hq : at_ p.payload 0 2 ≠ 0)
    (hw : s.jrn.works.find? (fun w => w.tag.toNat == at_ p.payload 0 2) = some w) (hd : w.state = .done) (h20 : w.status ≠ 0x20) (h14 : w.status ≠ 0x14) :
    ∃ t v c, exec (.collect p) s = .next t ∧ Replied 0x04 p w.status w.result s t ∧ Leaves { s with regs := v, jrn := { collected (at_ p.payload 0 2) s.jrn with copies := c } } t ∧
      RegsBut [0x4009000C] s { s with regs := v } ∧ ∀ n, n ≠ w.recNo → metaIn c n = metaIn s.jrn.copies n := by
  obtain ⟨lk, ht, hs⟩ := taken_atBody h
  obtain ⟨-, -, -, hreads⟩ := h.inv
  obtain ⟨v, c, hj, hv, hc⟩ := jrnCommit_right (s := { atBody lk s with jrn := collected (at_ p.payload 0 2) s.jrn }) hreads w.recNo
  have hb : runCommand 0x04 p (replyTo 0x04 p (fresh s)) (taken 0x04 p (fresh s)) = reply (replyTo 0x04 p (fresh s)) w.status w.result
      { atBody lk s with regs := v, jrn := { collected (at_ p.payload 0 2) s.jrn with copies := c } } := by
    rw [runCommand_low (by decide), ht]
    exact (cmdCollect_done (s := atBody lk s) hq hw hd _).trans (congrArg _ hj)
  obtain ⟨t, hx, k⟩ := exec_went h (x := { atBody lk s with regs := v, jrn := { collected (at_ p.payload 0 2) s.jrn with copies := c } })
    (by rw [ht]; exact ⟨rfl, rfl, hv _ (by decide), rfl⟩) rfl hb h20
  rw [dupCounted_of_ne h14] at k
  have hl : Leaves { s with regs := v, jrn := { collected (at_ p.payload 0 2) s.jrn with copies := c } } { atBody lk s with regs := v, jrn := { collected (at_ p.payload 0 2) s.jrn with copies := c } } :=
    hs.putRegsJrn v _
  exact ⟨t, v, c, hx, replied_of_out k.out, hl.trans k.leaves, hv, hc⟩

end Sys2Proof.Machine
end

section
open Sys2Proof Sys2Proof.Machine

/-- Settles O8: each body replies once to the state that its lemma names, and a UART has consumed the reply by the end. -/
theorem resetPowerCollect : Obligations.ResetPowerCollect := by
  refine ⟨fun p s h => exec_reset_asks h, fun p s h hbar => ?_, fun p s w h hq hw hd h20 h14 => ?_, fun p s e h hq hw he h20 h14 => ?_⟩
  · obtain ⟨lk, y, t, hrun, hs, hy, k⟩ := exec_power_asks h hbar
    generalize hx : powerWake (byteAt p.payload 1) (at_ p.payload 2 4) (atBody lk s) = x at hy
    have hwake : x = { atBody lk s with regs := x.regs } := hx ▸ powerWake_eq _ _ _
    have hlx : Leaves { s with regs := x.regs } x := by
      have e : Leaves { s with regs := x.regs } { atBody lk s with regs := x.regs } := hs.putRegsJrn x.regs s.jrn
      rwa [← hwake] at e
    have hregs : t.regs = x.regs := k.leaves.regs.trans (by rw [hy, powerAsked_regs])
    have hget : ∀ a, regGet t a = regGet x a := fun a => by rw [regGet, hregs]; rfl
    refine ⟨t, hrun, replied_of_out k.out, ?_, fun a ha => (hget a).trans (hx ▸ powerWake_others _ _ _ a ha), ?_, ?_, ?_, fun h1 => ?_, fun h2 => ?_⟩
    · rw [hregs]
      exact hlx.trans (.trans (by rw [hy]; exact powerAsked_leaves _ _ _) k.leaves)
    · rw [regFld, hget, ← hx]
      exact powerWake_pins _ _ _
    · rw [regBit, hget, ← hx]
      exact powerWake_alarmOn _ _ _
    · rw [hget, ← hx]
      exact powerWake_alarm _ _ _
    · rw [k.dusk, hy, h1]
      rfl
    · rw [k.after, hy, h2]
      split <;> simp [replyConsumed, powerAsked]
  · obtain ⟨t, v, c, hx, hr, hl, hv, hc⟩ := exec_collect_done h hq hw hd h20 h14
    have hregs : t.regs = v := hl.regs
    have hjrn : t.jrn = { collected (at_ p.payload 0 2) s.jrn with copies := c } := hl.jrn
    refine ⟨t, hx, hr, ?_, ?_, fun a ha => ?_, fun n hn => ?_⟩
    · rw [hregs, hjrn]
      exact hl
    · rw [hjrn]
      rfl
    · rw [regGet, hregs]
      exact hv a ha
    · rw [hjrn]
      exact hc n hn
  · refine exec_read h e.status e.result ?_ h20 h14
    obtain ⟨lk, ht, -⟩ := taken_atBody h
    rw [runCommand_low (by decide), ht]
    exact cmdCollect_ring (s := atBody lk s) hq hw he _
end

section
/-! A packet on an idle port before any check, and transactions that the checks 1 to 6 refuse (R336, R338, R364, R366). -/
namespace Sys2Proof.Machine

/-! ### What a transaction has shown -/

/-- The state after the output of the transaction that brings a packet. -/
def shown (p : Packet) (s : State) : State := if p.port = .hcs0 then spiOutput p.clocked s else s

/-- An idle port shows its empty queue: MISO alone. -/
theorem shown_eq {p : Packet} {s : State} (h : (portOf s p.port).outq = []) : ∃ b, shown p s = { s with link := { s.link with miso := b } } := by
  unfold shown
  cases hp : p.port <;> rw [hp] at h
  · have ho : s.link.hcs0.outq = [] := h
    exact ⟨_, spiOutput_idle ho⟩
  · exact ⟨s.link.miso, rfl⟩

/-- `u` is the state in which a packet that arrives on an idle port meets the checks. -/
structure Met (p : Packet) (s u : State) : Prop where
  eq   : ∃ b, u = { s with emit := [], link := { s.link with miso := b } }
  idle : Idle p.port u

theorem Arrives.met {p : Packet} {s : State} (h : Arrives p s) : Met p s (shown p (fresh s)) := by
  obtain ⟨-, hord, hsent, hreads⟩ := h.inv
  have hout : (portOf (fresh s) p.port).outq = [] := by
    rw [(fresh_samePorts s).portOf]
    exact h.outq
  obtain ⟨b, hb⟩ := shown_eq (p := p) hout
  have hi : Idle p.port s := ⟨h.opn, h.outq, h.uartOn, hord, hsent, hreads⟩
  refine ⟨⟨b, hb⟩, SamePorts.idle ?_ hi⟩
  rw [hb]
  exact ⟨rfl, rfl, rfl, rfl⟩

section
variable {p : Packet} {s u : State} (h : Met p s u)
include h

theorem Met.leaves : Leaves s u := by
  obtain ⟨b, hb⟩ := h.eq
  rw [hb]
  rfl

theorem Met.slot : u.link.nextSlot = s.link.nextSlot := by
  obtain ⟨b, hb⟩ := h.eq
  rw [hb]

theorem Met.regs : u.regs = s.regs := h.leaves.regs
theorem Met.jrn : u.jrn = s.jrn := h.leaves.jrn
theorem Met.pending : u.pending = s.pending := by
  obtain ⟨b, hb⟩ := h.eq
  rw [hb]

end

/-! ### The checks, one at a time -/

section
variable {run : Byte → Packet → ReplyTo → State → State} {identify : ReplyTo → State → State} {op : Byte} {p : Packet} {s : State} (h : Arrives p s)
include h

theorem Arrives.serves : ¬ (!linkUp (fresh s) || (p.port == .uart && !regBit (fresh s) 0x40010000 1)) = true := by
  have hup : linkUp (fresh s) = true := h.up
  cases hp : p.port
  · simp [hup]
  · have hu : regBit (fresh s) 0x40010000 1 = true := h.uartOn hp
    simp [hup, hu]

theorem hostPacket_noHeader (h8 : p.header < 8) : hostPacket run identify op p (fresh s) = lenErr (portCode p.port) 0 (shown p (fresh s)) := by
  rw [hostPacket, if_neg h.serves]
  exact if_pos h8

theorem hostPacket_badLength (h8 : 8 ≤ p.header) (hl : p.len > 2048 ∨ p.payload.length ≠ p.len ∨ p.crc.isNone = true) :
    hostPacket run identify op p (fresh s) =
      replyAtOnce false p.port op p.tag p.verFlags stBadLength (refusalBytes 0xFFFF 0) (lenErr (portCode p.port) p.tag.toNat (shown p (fresh s))) := by
  rw [hostPacket, if_neg h.serves]
  exact (if_neg (Nat.not_lt.mpr h8)).trans (if_pos hl)

section
variable (h8 : 8 ≤ p.header) (hs : p.len ≤ 2048) (hw : p.payload.length = p.len)
include h8 hs hw

theorem hostPacket_badCrc {c : Word} (hc : p.crc = some c) (hne : c ≠ pktCrc p op) :
    hostPacket run identify op p (fresh s) =
      replyAtOnce false p.port op p.tag p.verFlags stBadCrc (refusalBytes 0xFFFF 0) (crcErr (portCode p.port) p.tag.toNat (shown p (fresh s))) := by
  rw [hostPacket, if_neg h.serves]
  refine (if_neg (Nat.not_lt.mpr h8)).trans ((if_neg ?_).trans (if_pos ?_))
  · simp [hw, hc, hs]
  · simpa [hc] using hne

theorem hostPacket_badVersion (hc : p.crc = some (pktCrc p op)) (hv : p.verFlags &&& 0xFB ≠ 0x20) :
    hostPacket run identify op p (fresh s) =
      replyAtOnce false p.port op p.tag p.verFlags stBadField (refusalBytes 0xFFFF 2) (lastErr 4 (portCode p.port) p.tag.toNat (shown p (fresh s))) := by
  rw [hostPacket, if_neg h.serves]
  refine (if_neg (Nat.not_lt.mpr h8)).trans ((if_neg ?_).trans ((if_neg ?_).trans (if_pos hv)))
  · simp [hw, hc, hs]
  · simp [hc]

end

theorem hostPacket_sound (hp : Sound op p) : hostPacket run identify op p (fresh s) = takeCommand run identify op p (shown p (fresh s)) := by
  rw [hostPacket, if_neg h.serves]
  refine (if_neg (Nat.not_lt.mpr hp.header)).trans ((if_neg ?_).trans ((if_neg ?_).trans (if_neg ?_)))
  · simp [hp.whole, hp.crc, hp.size]
  · simp [hp.crc]
  · exact not_not_intro hp.ver

end

/-! ### A check that fails is counted and named (R364, R366) -/

/-- `y` is `x` but for registers and engines: a counter counts, an event stands, HIF_LAST_ERR names check and port. -/
structure ErrCounted (cnt ev kind port : Nat) (x y : State) : Prop where
  count  : regFld y cnt 0 16 = min (regFld x cnt 0 16 + 1) 0xFFFF
  event  : regBit y 0x40010008 ev = true
  kind   : regFld y 0x40010044 0 4 = kind
  port   : regFld y 0x40010044 4 2 = port
  others : RegsBut [cnt, 0x40010008, 0x40010044] x y
  rest   : y = { x with regs := y.regs, eng := y.eng }

theorem lastErr_fields {kind port tag : Nat} (hk : kind < 16) (hp : port < 4) (s : State) :
    regFld (lastErr kind port tag s) 0x40010044 0 4 = kind ∧ regFld (lastErr kind port tag s) 0x40010044 4 2 = port := by
  have hget : regGet (lastErr kind port tag s) 0x40010044 = word (kind + 16 * port + 65536 * tag) := (regGet_regSet _ _ _ s).trans (if_pos rfl)
  rw [regFld, regFld, hget]
  simp only [wfld, fld, word, BitVec.toNat_ofNat]
  omega

theorem errCounted_of_lastErr {cnt ev bits kind port : Nat} (tag : Nat) (hc : cnt ≠ 0x40010008 ∧ cnt ≠ 0x40010044) (hb : (word bits).toNat.testBit ev = true) (hk : kind < 16) (hp : port < 4)
    (x : State) : ErrCounted cnt ev kind port x (lastErr kind port tag (raise 0x40010008 bits (regInc cnt 16 x))) := by
  obtain ⟨e, he⟩ := raise_eng 0x40010008 bits (regInc cnt 16 x)
  obtain ⟨hkind, hport⟩ := lastErr_fields (tag := tag) hk hp (raise 0x40010008 bits (regInc cnt 16 x))
  have hout : ∀ a, a ≠ 0x40010044 → regGet (lastErr kind port tag (raise 0x40010008 bits (regInc cnt 16 x))) a = regGet (raise 0x40010008 bits (regInc cnt 16 x)) a :=
    fun a ha => regGet_regSet_ne ha _ _
  have hin : ∀ a, a ≠ 0x40010008 → regGet (raise 0x40010008 bits (regInc cnt 16 x)) a = regGet (regInc cnt 16 x) a := fun a ha => by
    rw [he]
    exact regGet_regSet_ne ha _ _
  refine ⟨?_, ?_, hkind, hport, fun a ha => ?_, ?_⟩
  · rw [regFld, hout cnt hc.2, hin cnt hc.1]
    exact regInc_counts cnt x
  · rw [regBit, hout _ (by decide)]
    exact regBit_raise hb _
  · simp only [List.mem_cons, List.not_mem_nil, or_false, not_or] at ha
    obtain ⟨h1, h2, h3⟩ := ha
    rw [hout a h3, hin a h2]
    exact regGet_regSet_ne h1 _ x
  · rw [he]
    rfl

theorem ErrCounted.samePorts {cnt ev kind port : Nat} {x y : State} (h : ErrCounted cnt ev kind port x y) (hc : cnt ≠ 0x40010000) : SamePorts x y :=
  ⟨by rw [h.rest], by rw [h.rest], h.others _ (by simp [Ne.symm hc]), by rw [h.rest]⟩

theorem portCode_lt (pt : VPort) : portCode pt < 4 := by cases pt <;> decide

theorem syncErr_counted {port : Nat} (hp : port < 4) (x : State) : ErrCounted 0x40010024 0 1 port x (syncErr port x) :=
  errCounted_of_lastErr 0 (by decide) (by decide) (by decide) hp x
theorem lenErr_counted {port : Nat} (hp : port < 4) (tag : Nat) (x : State) : ErrCounted 0x40010028 1 2 port x (lenErr port tag x) :=
  errCounted_of_lastErr tag (by decide) (by decide) (by decide) hp x
theorem crcErr_counted {port : Nat} (hp : port < 4) (tag : Nat) (x : State) : ErrCounted 0x4001002C 2 3 port x (crcErr port tag x) :=
  errCounted_of_lastErr tag (by decide) (by decide) (by decide) hp x

/-! ### What such a transaction leaves -/

/-- An effect that leaves no answered command to go ends as it is. -/
theorem settled_level {y : State} {q : List Instr} (ho : y.ordered = true) (hu : y.uartSent = true) (hr : y.fer.reads = []) (hq : y.pending = q) :
    ({ settle y with pending := q } : State) = { y with link := { y.link with hirq := hirqLevel y } } := by
  rw [settle_level ho hu hr, ← hq]

/-- The answered slot of a reply that no input buffer was taken for (R346). -/
def atOnce (r : ReplyTo) (st : Byte) (pl : Bytes) : OpenSlot := { ret := r, room := 0, pkt := some (replyPkt r st pl false) }

/-- A slot of a port's order without an input buffer, and its number used (R337). -/
def answeredSlot (w : OpenSlot) (x : State) : State :=
  let y := setPort w.ret.port { portOf x w.ret.port with opn := [w] } x
  { y with link := { y.link with nextSlot := x.link.nextSlot + 1 } }

theorem replyAtOnce_idle {r : ReplyTo} {x : State} {st : Byte} {pl : Bytes} (h : Idle r.port x) (hr : r.slot = x.link.nextSlot) (hl : pl.length ≤ 1024) (h20 : st ≠ 0x20) (h14 : st ≠ 0x14) :
    replyAtOnce false r.port r.opcode r.tag r.flags st pl x = answeredSlot (atOnce r st pl) x := by
  have hroom : outRoom (portOf x r.port) = 8192 - 384 := by simp [outRoom, outUsed, h.opn, h.outq]
  have hput : (!false && decide (12 + pl.length ≤ outRoom (portOf x r.port))) = true := by simp [hroom]; omega
  have hcount : ∀ y, countStatus st y = y := fun y => by unfold countStatus; rw [if_neg h20, if_neg h14]
  rw [replyAtOnce, if_pos hput, h.opn, ← hr]
  refine (hcount _).trans ?_
  obtain ⟨slot, port, opcode, tag, flags⟩ := r
  cases port <;> rfl

/-- A reply at once on an idle port goes, and the rest is as it was. -/
theorem settled_replyAtOnce {r : ReplyTo} {x : State} {st : Byte} {pl : Bytes} {q : List Instr} (h : Idle r.port x) (hr : r.slot = x.link.nextSlot) (hl : pl.length ≤ 1024)
    (h20 : st ≠ 0x20) (h14 : st ≠ 0x14) (hq : x.pending = q) :
    let t : State := { settle (replyAtOnce false r.port r.opcode r.tag r.flags st pl x) with pending := q }
    Out r.port (replyPkt r st pl false) t ∧ Leaves x t := by
  dsimp only
  rw [replyAtOnce_idle h hr hl h20 h14]
  have hs : SamePorts (setPort r.port { portOf x r.port with opn := [atOnce r st pl] } x) (answeredSlot (atOnce r st pl) x) := ⟨rfl, rfl, rfl, rfl⟩
  have ha := hs.alone (h.alone_setPort (atOnce r st pl))
  have hp : (answeredSlot (atOnce r st pl) x).pending = q := (setPort_pending _ _ _).trans hq
  have hly : Leaves x (answeredSlot (atOnce r st pl) x) := (Leaves.of_setPort r.port { portOf x r.port with opn := [atOnce r st pl] } x).trans rfl
  have k := settled_answered ha (k := replyPkt r st pl false) rfl rfl hp
  exact ⟨k.out, hly.trans k.leaves⟩

end Sys2Proof.Machine
end

section
/-! Transactions that the checks 1 to 6 refuse, and the tag check (R34, R336, R338, R340, R344, R366): what they leave. -/
namespace Sys2Proof.Machine

theorem regGet_congr {s t : State} (h : t.regs = s.regs) (a : Nat) : regGet t a = regGet s a := by unfold regGet; rw [h]
theorem regFld_congr {s t : State} (h : t.regs = s.regs) (a lo n : Nat) : regFld t a lo n = regFld s a lo n := by unfold regFld; rw [regGet_congr h]

/-- `t` is `s` but for a check that failed, which is counted and named, and what every reply touches. -/
structure CountedIn (cnt ev kind port : Nat) (s t : State) : Prop where
  counted : regFld t cnt 0 16 = min (regFld s cnt 0 16 + 1) 0xFFFF ∧ regBit t 0x40010008 ev = true ∧ regFld t 0x40010044 0 4 = kind ∧ regFld t 0x40010044 4 2 = port ∧
    RegsBut [cnt, 0x40010008, 0x40010044] s t
  leaves : Leaves { s with regs := t.regs, eng := t.eng } t

/-- The state with registers and engines replaced. -/
def putRegsEng (v : List (Nat × Word)) (e : Vector Engine 12) (s : State) : State := { s with regs := v, eng := e }

theorem Leaves.putRegsEng {u t : State} (h : Leaves u t) (v : List (Nat × Word)) (e : Vector Engine 12) : Leaves (putRegsEng v e u) (putRegsEng v e t) := by
  have k := congrArg (Machine.putRegsEng v e) h
  exact k

/-- The state with the registers replaced. -/
def putRegs (v : List (Nat × Word)) (s : State) : State := { s with regs := v }

theorem Leaves.putRegs {u t : State} (h : Leaves u t) (v : List (Nat × Word)) : Leaves (putRegs v u) (putRegs v t) := by
  have k := congrArg (Machine.putRegs v) h
  exact k

/-- What a failed check made of a state that a transaction had left, and what the end of the command made of that. -/
theorem countedIn_of {cnt ev kind port : Nat} {s u y t : State} (hu : Leaves s u) (h : ErrCounted cnt ev kind port u y) (ht : Leaves y t) : CountedIn cnt ev kind port s t := by
  have hr : t.regs = y.regs := ht.regs
  refine ⟨⟨?_, ?_, ?_, ?_, fun a ha => ?_⟩, ?_⟩
  · rw [regFld_congr hr, h.count, regFld_congr hu.regs]
  · rw [regBit_congr hr, h.event]
  · rw [regFld_congr hr, h.kind]
  · rw [regFld_congr hr, h.port]
  · rw [regGet_congr hr, h.others a ha, regGet_congr hu.regs]
  · have hy : Leaves { s with regs := y.regs, eng := y.eng } y := by
      have k := hu.putRegsEng y.regs y.eng
      have e : Machine.putRegsEng y.regs y.eng u = y := h.rest.symm
      rwa [e] at k
    rw [hr, show t.eng = y.eng from ht.eng]
    exact hy.trans ht

/-- A failed check that is not answered. -/
theorem act_counted {f : State → State} {cnt ev kind port : Nat} {s u : State} (hi : s.LinkInv) (hu : ∃ b, u = { s with emit := [], link := { s.link with miso := b } })
    (h : ErrCounted cnt ev kind port u (f (fresh s))) (hc : cnt ≠ 0x40010000) :
    ∃ t, act f s = .next t ∧ CountedIn cnt ev kind port s t ∧ t.link.nextSlot = s.link.nextSlot := by
  obtain ⟨-, hord, hsent, hreads⟩ := hi
  obtain ⟨b, rfl⟩ := hu
  have k : SamePorts s (f (fresh s)) := .trans (t := { s with emit := [], link := { s.link with miso := b } }) ⟨rfl, rfl, rfl, rfl⟩ (h.samePorts hc)
  refine ⟨_, rfl, ?_⟩
  have hs := settled_level (k.ordered.trans hord) (k.uartSent.trans hsent) (k.reads.trans hreads) (q := s.pending) (by rw [h.rest])
  rw [hs]
  refine ⟨countedIn_of (u := { s with emit := [], link := { s.link with miso := b } }) rfl h rfl, ?_⟩
  dsimp only
  rw [h.rest]

theorem exec_readOnly_counted {first : Byte} {n : Nat} {s : State} (hup : linkUp s = true) (hi : s.LinkInv) (hf : first ≠ 0) (ho : s.link.hcs0.outq = []) :
    ∃ t, exec (.readOnlyTransaction first n) s = .next t ∧ CountedIn 0x40010024 0 1 0 s t := by
  have he : readOnly first n (fresh s) = syncErr 0 { fresh s with link := { (fresh s).link with miso := misoBytes (hifStat (fresh s)) none n } } := by
    have hup' : linkUp (fresh s) = true := hup
    rw [readOnly, if_neg (by simp [hup']), if_neg hf, spiOutput_idle (s := fresh s) ho]
  obtain ⟨t, hx, hc, -⟩ := act_counted (f := readOnly first n) hi ⟨_, rfl⟩ (by rw [he]; exact syncErr_counted (by decide) _) (by decide)
  exact ⟨t, hx, hc⟩

theorem exec_stopBitError_counted {s : State} (hup : linkUp s = true) (hi : s.LinkInv) (hu : regBit s 0x40010000 1 = true) :
    ∃ t, exec .stopBitError s = .next t ∧ CountedIn 0x40010024 0 1 1 s t := by
  have he : stopBitError (fresh s) = syncErr 1 (fresh s) := by
    have hup' : linkUp (fresh s) = true := hup
    have hu' : regBit (fresh s) 0x40010000 1 = true := hu
    rw [stopBitError, if_pos (by simp [hup', hu'])]
  obtain ⟨t, hx, hc, -⟩ := act_counted (f := stopBitError) (u := fresh s) hi ⟨[], rfl⟩ (by rw [he]; exact syncErr_counted (by decide) _) (by decide)
  exact ⟨t, hx, hc⟩

section
variable {op : Byte} {p : Packet} {s : State} (h : Arrives p s)
include h

/-- A packet without a whole header (check 2). -/
theorem act_noHeader (h8 : p.header < 8) : ∃ t, act (hostCommand op p) s = .next t ∧ CountedIn 0x40010028 1 2 (portCode p.port) s t ∧ t.link.nextSlot = s.link.nextSlot := by
  refine act_counted h.inv h.met.eq ?_ (by decide)
  rw [hostCommand, hostPacket_noHeader h h8]
  exact lenErr_counted (portCode_lt _) _ _

/-- A packet that a failed check answers, counted before its answer. -/
theorem act_refused {y : State} {st : Byte} {pl : Bytes} (hk : SamePorts (shown p (fresh s)) y) (hslot : y.link.nextSlot = s.link.nextSlot) (hp : y.pending = s.pending)
    (hb : hostCommand op p (fresh s) = replyAtOnce false p.port op p.tag p.verFlags st pl y) (hl : pl.length ≤ 1024) (h20 : st ≠ 0x20) (h14 : st ≠ 0x14) :
    ∃ t, act (hostCommand op p) s = .next t ∧ Replied op p st pl s t ∧ Leaves y t := by
  refine ⟨_, rfl, ?_⟩
  rw [hb]
  obtain ⟨hout, hleaves⟩ := settled_replyAtOnce (r := replyTo op p s) (hk.idle h.met.idle) hslot.symm hl h20 h14 hp
  exact ⟨replied_of_out hout, hleaves⟩

theorem act_refused_counted {cnt ev kind : Nat} {y : State} {st : Byte} {pl : Bytes} (hc : ErrCounted cnt ev kind (portCode p.port) (shown p (fresh s)) y) (hcnt : cnt ≠ 0x40010000)
    (hb : hostCommand op p (fresh s) = replyAtOnce false p.port op p.tag p.verFlags st pl y) (hl : pl.length ≤ 1024) (h20 : st ≠ 0x20) (h14 : st ≠ 0x14) :
    ∃ t, act (hostCommand op p) s = .next t ∧ CountedIn cnt ev kind (portCode p.port) s t ∧ Replied op p st pl s t := by
  obtain ⟨t, hx, hr, hleaves⟩ := act_refused h (hc.samePorts hcnt) (by rw [hc.rest]; exact h.met.slot) (by rw [hc.rest]; exact h.met.pending) hb hl h20 h14
  exact ⟨t, hx, countedIn_of h.met.leaves hc hleaves, hr⟩

theorem act_badLength (h8 : 8 ≤ p.header) (hl : p.len > 2048 ∨ p.payload.length ≠ p.len ∨ p.crc.isNone = true) :
    ∃ t, act (hostCommand op p) s = .next t ∧ CountedIn 0x40010028 1 2 (portCode p.port) s t ∧ Replied op p stBadLength (refusalBytes 0xFFFF 0) s t :=
  act_refused_counted h (lenErr_counted (portCode_lt _) _ _) (by decide) (hostPacket_badLength h h8 hl) (by decide) (by decide) (by decide)

end

/-! ### A packet that is taken -/

theorem Met.judge {p : Packet} {s u : State} (h : Met p s u) : u.power.state = s.power.state ∧ u.link.e0Restart = s.link.e0Restart := by
  obtain ⟨b, hb⟩ := h.eq
  rw [hb]
  exact ⟨rfl, rfl⟩

/-- A packet's slot is open on its port, and its command is about to be judged. -/
def opened (op : Byte) (p : Packet) (x : State) : State :=
  let y := openSlot (replyTo op p x) (maxReply op.toNat) x
  { y with power := { y.power with duskDue := false } }

section
variable {run : Byte → Packet → ReplyTo → State → State} {identify : ReplyTo → State → State} {op : Byte} {p : Packet} {x : State} (h : Idle p.port x)
include h

theorem opened_alone : Alone p.port { ret := replyTo op p x, room := maxReply op.toNat, pkt := none } (opened op p x) := by
  have hs : SamePorts (setPort p.port { portOf x p.port with opn := [{ ret := replyTo op p x, room := maxReply op.toNat, pkt := none }] } x) (opened op p x) := by
    dsimp only [opened, openSlot, replyTo]
    rw [h.opn]
    exact ⟨rfl, rfl, rfl, rfl⟩
  exact hs.alone (h.alone_setPort _)

/-- An idle port has an input buffer and room for any reply: the command is taken (R336, R346). -/
theorem takeCommand_idle : takeCommand run identify op p x =
    if x.link.e0Restart then reply (replyTo op p x) stBusyRetry (busyBytes 3) (opened op p x)
    else match x.power.state with
      | .bootFail => if op = 0x01 then identify (replyTo op p x) (opened op p x) else refuse (replyTo op p x) stHwFault 0xFFFF 0 (opened op p x)
      | .dawn => holdDawn op p (replyTo op p x) (opened op p x)
      | .dusk => exitDusk { opened op p x with link := { (opened op p x).link with held := (opened op p x).link.held ++ [{ opcode := op, packet := p, ret := replyTo op p x }] } }
      | _ => serve run op p (replyTo op p x) (opened op p x) := by
  have hmax := maxReply_le op.toNat
  have hroom : ¬ (2 ≤ bufsUsed (portOf x p.port) ∨ outRoom (portOf x p.port) < maxReply op.toNat) := by
    simp only [bufsUsed, outRoom, outUsed, h.opn, h.outq, List.filter_nil, List.length_nil, List.map_nil, List.sum_nil]
    omega
  have he : (opened op p x).link.e0Restart = x.link.e0Restart := by unfold opened openSlot replyTo; cases p.port <;> rfl
  have hst : (opened op p x).power.state = x.power.state := by unfold opened openSlot replyTo; cases p.port <;> rfl
  rw [takeCommand, if_neg hroom, ← he, ← hst]
  rfl

end

theorem opened_leaves (op : Byte) (p : Packet) (x : State) : Leaves x (opened op p x) := by
  unfold opened openSlot replyTo
  cases p.port <;> rfl

theorem opened_pending (op : Byte) (p : Packet) (x : State) : (opened op p x).pending = x.pending := by
  unfold opened openSlot
  exact setPort_pending _ _ _

/-- Where a packet that passed checks 1 to 6 meets its command. -/
@[irreducible] def judged (op : Byte) (p : Packet) (s : State) : State := opened op p (shown p (fresh s))

section
variable {op : Byte} {p : Packet} {s : State} (h : Arrives p s)
include h

theorem replyTo_shown (op : Byte) : replyTo op p (shown p (fresh s)) = replyTo op p s := by unfold replyTo; rw [h.met.slot]

theorem judged_alone (op : Byte) : Alone p.port { ret := replyTo op p s, room := maxReply op.toNat, pkt := none } (judged op p s) := by
  rw [judged, ← replyTo_shown h op]
  exact opened_alone h.met.idle

theorem judged_leaves (op : Byte) : Leaves s (judged op p s) := judged.eq_1 op p s ▸ h.met.leaves.trans (opened_leaves op p _)
theorem judged_pending (op : Byte) : (judged op p s).pending = s.pending := judged.eq_1 op p s ▸ (opened_pending op p _).trans h.met.pending

/-- In Noon the packet meets checks 9 to 14. -/
theorem hostCommand_noon (hp : Sound op p) (hn : s.power.state = .noon) (he : s.link.e0Restart = false) :
    hostCommand op p (fresh s) = serve runCommand op p (replyTo op p s) (judged op p s) := by
  obtain ⟨hst, hre⟩ := h.met.judge
  rw [hostCommand, hostPacket_sound h hp, takeCommand_idle h.met.idle, replyTo_shown h, hre, he, if_neg Bool.false_ne_true, hst, hn, judged]

/-- In Dawn it is held (R355). -/
theorem hostCommand_dawn (hp : Sound op p) (hn : s.power.state = .dawn) (he : s.link.e0Restart = false) :
    hostCommand op p (fresh s) = holdDawn op p (replyTo op p s) (judged op p s) := by
  obtain ⟨hst, hre⟩ := h.met.judge
  rw [hostCommand, hostPacket_sound h hp, takeCommand_idle h.met.idle, replyTo_shown h, hre, he, if_neg Bool.false_ne_true, hst, hn, judged]

/-- A command that is taken replies at once. -/
theorem act_judged {x : State} {st : Byte} {pl : Bytes} (hk : SamePorts (judged op p s) x) (hp : x.pending = s.pending)
    (hb : hostCommand op p (fresh s) = reply (replyTo op p s) st pl x) (h20 : st ≠ 0x20) :
    ∃ t, act (hostCommand op p) s = .next t ∧ Replied op p st pl s t ∧ Leaves (dupCounted st x) t := by
  refine ⟨_, rfl, ?_⟩
  rw [hb]
  have k := settled_reply (r := replyTo op p s) (hk.alone (judged_alone h op)) h20 pl hp
  exact ⟨replied_of_out k.out, k.leaves⟩

/-- The same where the state of the command is not changed. -/
theorem act_judged_read {st : Byte} {pl : Bytes} (hb : hostCommand op p (fresh s) = reply (replyTo op p s) st pl (judged op p s)) (h20 : st ≠ 0x20) (h14 : st ≠ 0x14) :
    ∃ t, act (hostCommand op p) s = .next t ∧ Replied op p st pl s t ∧ Leaves s t := by
  obtain ⟨t, hx, hr, hl⟩ := act_judged h (.refl _) (judged_pending h op) hb h20
  rw [dupCounted_of_ne h14] at hl
  exact ⟨t, hx, hr, (judged_leaves h op).trans hl⟩

/-- DUP_TAG, counted (R34, R364). -/
theorem act_judged_dup {pl : Bytes} (hb : hostCommand op p (fresh s) = reply (replyTo op p s) stDupTag pl (judged op p s)) :
    ∃ t, act (hostCommand op p) s = .next t ∧ Replied op p stDupTag pl s t ∧ regFld t 0x40010034 0 16 = min (regFld s 0x40010034 0 16 + 1) 0xFFFF ∧
      RegsBut [0x40010034] s t ∧ Leaves { s with regs := t.regs } t := by
  obtain ⟨t, hx, hr, hl⟩ := act_judged h (.refl _) (judged_pending h op) hb (by decide)
  have hd : dupCounted stDupTag (judged op p s) = regInc 0x40010034 16 (judged op p s) := if_pos rfl
  rw [hd] at hl
  have hregs : t.regs = (regInc 0x40010034 16 (judged op p s)).regs := hl.regs
  have hj := judged_leaves h op
  refine ⟨t, hx, hr, ?_, fun a ha => ?_, ?_⟩
  · rw [regFld_congr hregs, ← regFld_congr hj.regs]
    exact regInc_counts _ _
  · rw [regGet_congr hregs, ← regGet_congr hj.regs]
    exact regInc_others _ _ _ a ha
  · rw [hregs]
    exact (hj.putRegs _).trans hl

end

end Sys2Proof.Machine
end

section
/-! The tag check of a command that has come before (R34), and the commands that it leaves waiting. -/
namespace Sys2Proof.Machine

/-- An open slot alone in its port's order: no answered command is to go. -/
theorem Alone.waits {pt : VPort} {w : OpenSlot} {y : State} (h : Alone pt w y) (hw : w.pkt = none) : y.ordered = true := by
  have hmine : headOpen (portOf y pt).opn = true := by rw [h.opn]; simp [headOpen, hw]
  refine (ordered_iff y).mpr ?_
  cases pt
  · exact ⟨hmine, h.other .uart nofun⟩
  · exact ⟨h.other .hcs0 nofun, hmine⟩

section
variable {op : Byte} {p : Packet} {s : State} (h : Arrives p s)
include h

/-- A command that is taken and whose reply comes later. -/
theorem act_judged_open {x : State} (hk : SamePorts (judged op p s) x) (hp : x.pending = s.pending) (hb : hostCommand op p (fresh s) = x) :
    ∃ t, act (hostCommand op p) s = .next t ∧ Leaves x t ∧ t.power.duskDue = x.power.duskDue ∧ Awaits op p s t := by
  have ha := hk.alone (judged_alone h op)
  refine ⟨_, rfl, ?_⟩
  rw [hb, settled_level (ha.waits rfl) ha.sent ha.reads hp]
  refine ⟨rfl, rfl, { ret := replyTo op p s, room := maxReply op.toNat, pkt := none }, ?_, rfl, rfl⟩
  have hopn : (portOf ({ x with link := { x.link with hirq := hirqLevel x } } : State) p.port).opn = [{ ret := replyTo op p s, room := maxReply op.toNat, pkt := none }] := by
    rw [← ha.opn]
    cases p.port <;> rfl
  rw [hopn]
  exact List.mem_singleton_self _

end

theorem tagCheck_congr {s t : State} (h : t.jrn = s.jrn) (op : Byte) (p : Packet) : tagCheck op p t = tagCheck op p s := by unfold tagCheck; rw [h]

theorem serve_answer {run : Byte → Packet → ReplyTo → State → State} {op : Byte} {p : Packet} {r : ReplyTo} {s : State} {st : Byte} {pl : Bytes} (hk : (opKind op.toNat).isSome = true)
    (ht : tagCheck op p s = .answer st pl) : serve run op p r s = reply r st pl s := by
  obtain ⟨k, hk⟩ := Option.isSome_iff_exists.mp hk
  rw [serve, hk, ht]

/-- A reply joins those that wait for the acceptance of the command with the tag of a packet (R34). -/
def twinned (p : Packet) (r : ReplyTo) (s : State) : State :=
  { s with jrn := { s.jrn with accepting := modFirst (fun a => a.work.tag == p.tag) (fun a => { a with twins := a.twins ++ [r] }) s.jrn.accepting } }

theorem serve_inFlight {run : Byte → Packet → ReplyTo → State → State} {op : Byte} {p : Packet} {r : ReplyTo} {s : State} (hk : (opKind op.toNat).isSome = true)
    (ht : tagCheck op p s = .inFlight) :
    serve run op p r s = twinned p r s := by
  obtain ⟨k, hk⟩ := Option.isSome_iff_exists.mp hk
  rw [serve, hk, ht]
  rfl

/-! ### What the check finds -/

theorem answerPending_running {w : Work} {e : Bool} (hw : w.state = .running) (he : e = true) : answerPending e w = (stInProgress, [byte w.pct, byte w.step, 0, 0] ++ le 8 w.seq) := by
  simp [answerPending, hw, he, progressBytes]

theorem answerPending_accepted {w : Work} {e : Bool} (hw : w.state = .accepted) (he : e = true) : answerPending e w = (stAccepted, le 8 w.seq) := by
  simp [answerPending, hw, he]

section
variable {op : Byte} {p : Packet} {s : State} (h0 : p.tag ≠ 0) (ha : s.jrn.accepting.find? (fun a => a.work.tag == p.tag) = none)
include h0 ha

theorem tagCheck_record {w : Work} (hw : s.jrn.works.find? (fun w => w.tag == p.tag) = some w) :
    tagCheck op p s = if sameContent op p w.opcode w.options w.payload.length w.pktCrc then
      (if w.state = .done then .answer w.status w.result else .answer (answerPending s.jrn.enabled w).1 (answerPending s.jrn.enabled w).2)
    else .answer stDupTag (refusalBytes 0xFFFF 0) := by
  have h0' : ¬ p.tag = 0#16 := h0
  cases hs : sameContent op p w.opcode w.options w.payload.length w.pktCrc <;> cases hd : w.state <;> simp [tagCheck, h0', ha, hw, hs, hd]

theorem tagCheck_ring {e : RingEntry} (hw : s.jrn.works.find? (fun w => w.tag == p.tag) = none) (he : s.jrn.ring.find? (fun e => e.tag == p.tag) = some e)
    (hs : sameContent op p e.opcode e.options e.plen e.pktCrc = true) : tagCheck op p s = .answer e.status e.result := by
  have h0' : ¬ p.tag = 0#16 := h0
  simp [tagCheck, h0', ha, hw, he, hs]

end

/-- A command whose tag is known arrives in Noon, passing checks 1 to 6. -/
structure Again (op : Byte) (p : Packet) (s : State) : Prop where
  arrives : Arrives p s
  sound   : Sound op p
  noon    : s.power.state = .noon
  e0      : s.link.e0Restart = false
  known   : (opKind op.toNat).isSome = true

namespace Again

variable {op : Byte} {p : Packet} {s : State} {st : Byte} {pl : Bytes} (h : Again op p s)
include h

theorem reply_of_tagCheck (ht : tagCheck op p s = .answer st pl) : hostCommand op p (fresh s) = reply (replyTo op p s) st pl (judged op p s) := by
  rw [hostCommand_noon h.arrives h.sound h.noon h.e0]
  exact serve_answer h.known ((tagCheck_congr (judged_leaves h.arrives op).jrn op p).trans ht)

theorem answered (ht : tagCheck op p s = .answer st pl) (h20 : st ≠ 0x20) (h14 : st ≠ 0x14) :
    ∃ t, act (hostCommand op p) s = .next t ∧ Replied op p st pl s t ∧ Leaves s t :=
  act_judged_read h.arrives (h.reply_of_tagCheck ht) h20 h14

theorem duplicate (ht : tagCheck op p s = .answer stDupTag pl) :
    ∃ t, act (hostCommand op p) s = .next t ∧ Replied op p stDupTag pl s t ∧ regFld t 0x40010034 0 16 = min (regFld s 0x40010034 0 16 + 1) 0xFFFF ∧
      RegsBut [0x40010034] s t ∧ Leaves { s with regs := t.regs } t :=
  act_judged_dup h.arrives (h.reply_of_tagCheck ht)

theorem twin (ht : tagCheck op p s = .inFlight) : ∃ t, act (hostCommand op p) s = .next t ∧
    t.jrn = { s.jrn with accepting := modFirst (fun a => a.work.tag == p.tag) (fun a => { a with twins := a.twins ++ [replyTo op p s] }) s.jrn.accepting } ∧ Awaits op p s t ∧ t.fer = s.fer := by
  have hl := judged_leaves h.arrives op
  have hb := (hostCommand_noon h.arrives h.sound h.noon h.e0).trans (serve_inFlight h.known ((tagCheck_congr hl.jrn op p).trans ht))
  obtain ⟨t, hx, hlt, -, hw⟩ := act_judged_open h.arrives (x := twinned p (replyTo op p s) (judged op p s)) ⟨rfl, rfl, rfl, rfl⟩ (judged_pending h.arrives op) hb
  refine ⟨t, hx, ?_, hw, hlt.fer.trans hl.fer⟩
  rw [hlt.jrn, twinned, hl.jrn]

end Again

/-! ### Packets that the UART ends -/

/-- A packet that a gap ends meets the checks as it stands (R344). -/
theorem gapTimeout_meets {op : Byte} {p : Packet} {s : State} (hp : p.port = .uart) (hg : regFld s 0x40010010 16 8 ≠ 0) (hw : ¬ (p.header = 8 ∧ p.payload.length = p.len ∧ p.crc.isSome = true)) :
    act (gapTimeout op p) s = act (hostCommand op p) s := by
  have e : gapTimeout op p (fresh s) = hostCommand op p (fresh s) := by
    rw [gapTimeout, if_neg]
    rintro (h | h | h)
    · exact h hp
    · exact hg h
    · exact hw h
  rw [act, act, e]

end Sys2Proof.Machine
end

section
open Sys2Proof Sys2Proof.Machine

/-- Settles O30: each check that fails has its lemma; what the tag check finds is answered, or joins the command in flight. -/
theorem packetAndTagChecks : Obligations.PacketAndTagChecks := by
  refine ⟨?_, ?_⟩
  · intro counted port
    have hport : ∀ p, port p = portCode p.port := fun p => by cases hp : p.port <;> simp [port, portCode, hp]
    refine ⟨fun first n s hup hi hf ho => ?_, fun s hup hi hu => ?_, fun p s h h8 => ?_, fun p s h h8 hl => ?_, fun p s c h h8 hs hw hc hne => ?_,
      fun p s h h8 hs hw hc hv => ?_, fun op p s h hp hn he hk => ?_, fun p s h hu h8 hg => ?_, fun op p s h hu h8 hl hg => ?_, fun op p s hi hg => ?_⟩
    · obtain ⟨t, hx, hc⟩ := exec_readOnly_counted hup hi hf ho (n := n)
      exact ⟨t, hx, hc.counted, hc.leaves⟩
    · obtain ⟨t, hx, hc⟩ := exec_stopBitError_counted hup hi hu
      exact ⟨t, hx, hc.counted, hc.leaves⟩
    · obtain ⟨t, hx, hc, hslot⟩ := act_noHeader h h8 (op := 0x00)
      rw [hport]
      exact ⟨t, hx, hc.counted, hc.leaves, hslot⟩
    · obtain ⟨t, hx, hc, hr⟩ := act_badLength h h8 (by simpa using hl) (op := 0x00)
      rw [hport]
      exact ⟨t, hx, hc.counted, hr, hc.leaves⟩
    · obtain ⟨t, hx, hcnt, hr⟩ := act_refused_counted h (crcErr_counted (portCode_lt _) _ _) (by decide) (hostPacket_badCrc h h8 hs hw hc hne) (by decide) (by decide) (by decide)
      rw [hport]
      exact ⟨t, hx, hcnt.counted, hr, hcnt.leaves⟩
    · generalize hy : lastErr 4 (portCode p.port) p.tag.toNat (shown p (fresh s)) = y
      have hregs : y.regs = (lastErr 4 (portCode p.port) p.tag.toNat (shown p (fresh s))).regs := by rw [hy]
      have hothers : RegsBut [0x40010044] s y := fun a ha => by
        rw [← hy, lastErr, regGet_regSet_ne (by simpa using ha), regGet_congr h.met.regs]
      have hk : SamePorts (shown p (fresh s)) y := by
        refine ⟨by rw [← hy]; rfl, by rw [← hy]; rfl, ?_, by rw [← hy]; rfl⟩
        rw [hothers _ (by decide), regGet_congr h.met.regs]
      obtain ⟨t, hx, hr, hl⟩ := act_refused h hk (by rw [← hy]; exact h.met.slot) (by rw [← hy]; exact h.met.pending)
        ((hostPacket_badVersion h h8 hs hw hc hv).trans (by rw [hy])) (by decide) (by decide) (by decide)
      have ht : t.regs = y.regs := hl.regs
      refine ⟨t, hx, ?_, fun a ha => ?_, hr, ?_⟩
      · rw [regFld_congr ht, ← hy]
        exact (lastErr_fields (by decide) (portCode_lt _) _).1
      · rw [regGet_congr ht]
        exact hothers a ha
      · rw [ht, ← hy]
        rw [← hy] at hl
        exact (h.met.leaves.putRegs _).trans hl
    · have hb : hostCommand op p (fresh s) = reply (replyTo op p s) stBadOpcode (refusalBytes 0xFFFF 0) (judged op p s) := by
        rw [hostCommand_noon h hp hn he, serve, hk]
        rfl
      exact act_judged_read h hb (by decide) (by decide)
    · obtain ⟨t, hx, hc, -⟩ := act_noHeader h h8 (op := 0x00)
      rw [hu] at hc
      exact ⟨t, (gapTimeout_meets hu hg (by omega)).trans hx, hc.counted, hc.leaves⟩
    · obtain ⟨t, hx, hc, hr⟩ := act_badLength h (by omega) (.inr (.inl (by omega))) (op := op)
      rw [hu] at hc
      exact ⟨t, (gapTimeout_meets hu hg (by omega)).trans hx, hc.counted, hr, hc.leaves⟩
    · exact act_idle hi (if_pos (.inr (.inl hg)))
  · intro arrives
    refine ⟨fun p s w h hw hs hd h20 h14 => ?_, fun p s w h hw hs hd he => ?_, fun p s w h hw hs hd he => ?_, fun p s e h hw he hs h20 h14 => ?_, fun p s w h hw hs => ?_,
      fun p s a h hp hn he h0 ha ht hs => ?_⟩
    case refine_6 =>
      have h0' : ¬ p.tag = 0#16 := h0
      have hs' : sameContent 0x21#8 p a.work.opcode a.work.options a.work.payload.length a.work.pktCrc = true := hs
      have hc : tagCheck 0x21 p s = .inFlight := by simp [tagCheck, h0', ha, ht, hs']
      obtain ⟨t, hx, hj, hw, hf⟩ := (Again.mk h hp hn he rfl).twin hc
      refine ⟨t, hx, ?_, hw, hf⟩
      rw [hj, ha]
      simp [modFirst, ht]
    all_goals
      obtain ⟨ha, hp, hn, he0, h0, hacc⟩ := h
      have hag : Again 0x21 p s := ⟨ha, hp, hn, he0, rfl⟩
    · exact hag.answered (by rw [tagCheck_record h0 hacc hw, if_pos hs, if_pos hd]) h20 h14
    · exact hag.answered (by rw [tagCheck_record h0 hacc hw, if_pos hs, if_neg (by simp [hd]), answerPending_running hd he]) (by decide) (by decide)
    · exact hag.answered (by rw [tagCheck_record h0 hacc hw, if_pos hs, if_neg (by simp [hd]), answerPending_accepted hd he]) (by decide) (by decide)
    · exact hag.answered (tagCheck_ring h0 hacc hw he hs) h20 h14
    · exact hag.duplicate (by rw [tagCheck_record h0 hacc hw, if_neg (ne_true_of_eq_false hs)])
end

section
/-! The events of the link (R339–R346, R353–R355, R359, R364, R554): output read and replayed, configuration that waited, events raised again, the Dawn queue. -/
namespace Sys2Proof.Machine

/-! ### Output -/

/-- A transaction that clocks the whole of the oldest packet consumes it (R341). -/
theorem spiOutput_consumes {n : Nat} {s : State} {o : OutPkt} {l : List OutPkt} (h : s.link.hcs0.outq = o :: l) (hn : 3 + o.size ≤ n) :
    spiOutput n s = afterConsumed o { s with link := { s.link with miso := misoBytes (hifStat s) (some o) n, hcs0 := { s.link.hcs0 with outq := l, last := some o } } } := by
  rw [spiOutput, h]
  exact if_pos hn

/-- A shorter one shows its beginning (R341). -/
theorem spiOutput_short {n : Nat} {s : State} {o : OutPkt} {l : List OutPkt} (h : s.link.hcs0.outq = o :: l) (hn : n < 3 + o.size) :
    spiOutput n s = { s with link := { s.link with miso := misoBytes (hifStat s) (some o) n } } := by
  rw [spiOutput, h]
  exact if_neg (Nat.not_le.mpr hn)

theorem afterConsumed_event {o : OutPkt} (hs : o.slot = none) (hc : o.code ≠ 1) (s : State) : afterConsumed o s = s := by
  rw [afterConsumed, hs]
  exact if_neg hc

theorem readOnly_output {n : Nat} {s : State} (hup : linkUp s = true) : readOnly 0 n (fresh s) = spiOutput n (fresh s) := by
  have hup' : linkUp (fresh s) = true := hup
  rw [readOnly, if_neg (by simp [hup']), if_pos rfl]

/-- An effect that leaves the orders of the ports and what a sending UART has sent as the link invariant has them: HIRQ_N moves, and no more. -/
theorem act_level {f : State → State} {s x : State} (hx : f (fresh s) = x) (hi : s.LinkInv) (h0 : x.link.hcs0.opn = s.link.hcs0.opn) (h1 : x.link.uart = s.link.uart)
    (hc : regGet x 0x40010000 = regGet s 0x40010000) (hr : x.fer.reads = s.fer.reads) (hp : x.pending = s.pending) :
    ∃ hq, act f s = .next { x with link := { x.link with hirq := hq } } := by
  obtain ⟨-, hord, hsent, hreads⟩ := hi
  have ho : x.ordered = true := by rw [ordered_iff] at hord ⊢; rwa [h0, h1]
  have hu : x.uartSent = true := by rw [← hsent]; simp only [State.uartSent, regBit, hc, h1]
  refine ⟨hirqLevel x, ?_⟩
  rw [act, hx, settled_level ho hu (hr.trans hreads) hp]

/-! ### Configuration that waited for its reply (R343, R364) -/

theorem regStore_regs (a : Nat) (v : Word) (s : State) : regStore a v s = { s with regs := (regStore a v s).regs } := by
  unfold regStore
  split
  · split
    · rfl
    · split
      · split <;> rfl
      · rfl
      · rfl
      · rfl
  · rfl

theorem regStore_others (a : Nat) (v : Word) (s : State) : RegsBut [a] s (regStore a v s) := by
  intro b hb
  have hne : b ≠ a := by simpa using hb
  unfold regStore
  split
  · split
    · rfl
    · split
      · split
        · rfl
        · exact regGet_regSet_ne hne _ _
      · exact regGet_regSet_ne hne _ _
      · exact regGet_regSet_ne hne _ _
      · rfl
  · rfl

theorem regStore_congr {s t : State} (h : t.regs = s.regs) (a : Nat) (v : Word) : (regStore a v t).regs = (regStore a v s).regs := by
  have hg : regGet t a = regGet s a := regGet_congr h a
  unfold regStore
  split
  · split
    · exact h
    · split
      · split
        · exact h
        · simp only [regSet, hg, h]
      · simp only [regSet, h]
      · simp only [regAndNot, regSet, hg, h]
      · exact h
  · exact h

/-- A write to the host link's own block is a write of the register. -/
theorem regWrite_hif {a : Nat} (h0 : 0x40010000 ≤ a) (h1 : a < 0x40020000) (v : Word) (s : State) : regWrite none a v s = regStore a v s := by
  have hb : blockOf a = 1 := by unfold blockOf; omega
  have he : regEffect none a v s = regStore a v s := by
    rw [regEffect, if_neg (by omega), if_neg (by omega), hb]
    rfl
  rw [regWrite, regPart, he]
  rw [if_neg (by omega), if_neg (by omega), if_neg (by omega)]

/-- The one write that waits, its reply consumed, is made. -/
theorem act_applyCfg {addrs : List Nat} {a : Nat} {v : Word} {s : State} (ha : a ∈ addrs) (h0 : 0x40010000 < a) (h1 : a < 0x40020000) (hi : s.LinkInv)
    (hp : s.link.cfgPend = [(a, v, none)]) :
    ∃ t, act (applyCfg addrs) s = .next t ∧ t.link.cfgPend = [] ∧ regGet t a = regGet (regStore a v s) a ∧ RegsBut [a] s t ∧ Leaves { s with regs := t.regs } t := by
  have hx : applyCfg addrs (fresh s) = regStore a v { fresh s with link := { (fresh s).link with cfgPend := [] } } := by
    have hl : (fresh s).link.cfgPend = [(a, v, none)] := hp
    simp only [applyCfg, hl, List.filter_cons, List.filter_nil, List.contains_iff_mem.mpr ha, Option.isNone_none, Bool.and_self, if_true, Bool.not_true, Bool.false_eq_true, if_false, List.foldl_cons, List.foldl_nil]
    exact regWrite_hif (by omega) h1 v _
  generalize hy : ({ fresh s with link := { (fresh s).link with cfgPend := [] } } : State) = y at hx
  have hyr : y.regs = s.regs := by rw [← hy]; rfl
  have hst := regStore_regs a v y
  have hcfg : regGet (regStore a v y) 0x40010000 = regGet s 0x40010000 := by
    rw [regStore_others a v y _ (by simp; omega), regGet_congr hyr]
  obtain ⟨hq, he⟩ := act_level hx hi (by rw [hst, ← hy]; rfl) (by rw [hst, ← hy]; rfl) hcfg (by rw [hst, ← hy]; rfl) (by rw [hst, ← hy]; rfl)
  refine ⟨_, he, ?_, ?_, fun b hb => ?_, ?_⟩
  · rw [hst, ← hy]
  · exact regGet_congr (s := regStore a v s) (regStore_congr hyr a v) a
  · exact (regStore_others a v y b hb).trans (regGet_congr hyr b)
  · dsimp only
    rw [hst, ← hy]
    rfl

/-! ### The Dawn queue (R355) -/

theorem Leaves.exitDue {u t : State} (h : Leaves u t) : t.power.exitDue = u.power.exitDue := by rw [h]
theorem Leaves.dawnq {u t : State} (h : Leaves u t) : t.link.dawnq = u.link.dawnq := by rw [h]
theorem Leaves.held {u t : State} (h : Leaves u t) : t.link.held = u.link.held := by rw [h]
theorem Leaves.v1Reply {u t : State} (h : Leaves u t) : t.link.v1Reply = u.link.v1Reply := by rw [h]
theorem Leaves.powerState {u t : State} (h : Leaves u t) : t.power.state = u.power.state := by rw [h]

/-- The state with the Dawn queue replaced. -/
def putDawnq (l : List HeldPacket) (s : State) : State := { s with link := { s.link with dawnq := l } }

theorem putDawnq_samePorts (l : List HeldPacket) (s : State) : SamePorts s (putDawnq l s) := ⟨rfl, rfl, rfl, rfl⟩

theorem putDawnq_pending (l : List HeldPacket) (s : State) : (putDawnq l s).pending = s.pending := rfl

theorem Leaves.putDawnq {u t : State} (h : Leaves u t) (l : List HeldPacket) : Leaves (putDawnq l u) (putDawnq l t) := by
  have k := congrArg (Machine.putDawnq l) h
  exact k

/-- The tag of a packet in Dawn is that of the one that is held. -/
theorem dawnFind_held {op : Byte} {p : Packet} {s : State} {g : HeldPacket} (h : Arrives p s) (h0 : p.tag ≠ 0) (hq : s.link.dawnq = [g]) (ht : g.packet.tag = p.tag) :
    dawnFind op p (judged op p s) = some (1, g.opcode == op && g.packet.payload == p.payload && g.packet.options == p.options && g.packet.verFlags == p.verFlags) := by
  have hd : (judged op p s).link.dawnq = [g] := (judged_leaves h op).dawnq.trans hq
  rw [dawnFind, if_neg h0, hd]
  simp [ht]

section
variable {op : Byte} {p : Packet} {s : State} (h : Arrives p s) (hp : Sound op p) (hn : s.power.state = .dawn) (he : s.link.e0Restart = false)
include h hp hn he

/-- An untagged command joins the Dawn queue. -/
theorem act_dawn_joins (h0 : p.tag = 0) (hl : s.link.dawnq.length < 32) :
    ∃ t, act (hostCommand op p) s = .next t ∧ Replied op p stQueuedDawn (dawnBytes (s.link.dawnq.length + 1)) s t ∧
      Leaves (putDawnq (s.link.dawnq ++ [{ opcode := op, packet := p, ret := replyTo op p s }]) s) t := by
  have hd : (judged op p s).link.dawnq = s.link.dawnq := (judged_leaves h op).dawnq
  have hb : hostCommand op p (fresh s) = reply (replyTo op p s) stQueuedDawn (dawnBytes (s.link.dawnq.length + 1))
      (putDawnq (s.link.dawnq ++ [{ opcode := op, packet := p, ret := replyTo op p s }]) (judged op p s)) := by
    rw [hostCommand_dawn h hp hn he, holdDawn, dawnFind, if_pos h0]
    dsimp only
    rw [hd]
    exact if_neg (Nat.not_le.mpr hl)
  obtain ⟨t, hx, hr, hlv⟩ := act_judged h (putDawnq_samePorts _ _) ((putDawnq_pending _ _).trans (judged_pending h op)) hb (by decide)
  rw [dupCounted_of_ne (by decide)] at hlv
  exact ⟨t, hx, hr, ((judged_leaves h op).putDawnq _).trans hlv⟩

section
variable {g : HeldPacket} (h0 : p.tag ≠ 0) (hq : s.link.dawnq = [g]) (ht : g.packet.tag = p.tag)
include h0 hq ht

theorem act_dawn_same (hs : (g.opcode == op && g.packet.payload == p.payload && g.packet.options == p.options && g.packet.verFlags == p.verFlags) = true) :
    ∃ t, act (hostCommand op p) s = .next t ∧ Replied op p stQueuedDawn (dawnBytes 1) s t ∧ Leaves s t := by
  refine act_judged_read h ?_ (by decide) (by decide)
  rw [hostCommand_dawn h hp hn he, holdDawn, dawnFind_held h h0 hq ht, hs]
  rfl

theorem act_dawn_other (hs : (g.opcode == op && g.packet.payload == p.payload && g.packet.options == p.options && g.packet.verFlags == p.verFlags) = false) :
    ∃ t, act (hostCommand op p) s = .next t ∧ Replied op p stDupTag (refusalBytes 0xFFFF 0) s t ∧ t.link.dawnq = s.link.dawnq := by
  obtain ⟨t, hx, hr, -, -, hl⟩ := act_judged_dup (pl := refusalBytes 0xFFFF 0) h (by rw [hostCommand_dawn h hp hn he, holdDawn, dawnFind_held h h0 hq ht, hs]; rfl)
  exact ⟨t, hx, hr, hl.dawnq⟩

end

end

/-- A packet that Dusk holds until Noon (R554). -/
def duskHeld (op : Byte) (p : Packet) (r : ReplyTo) (s : State) : State :=
  { s with link := { s.link with held := s.link.held ++ [{ opcode := op, packet := p, ret := r }] }, power := { s.power with exitDue := true } }

theorem act_dusk_holds {op : Byte} {p : Packet} {s : State} (h : Arrives p s) (hp : Sound op p) (hn : s.power.state = .dusk) (he : s.link.e0Restart = false) :
    ∃ t, act (hostCommand op p) s = .next t ∧ Leaves (duskHeld op p (replyTo op p s) (judged op p s)) t ∧ Awaits op p s t := by
  obtain ⟨hst, hre⟩ := h.met.judge
  have hb : hostCommand op p (fresh s) = duskHeld op p (replyTo op p s) (judged op p s) := by
    have hd : (judged op p s).power.state = .dusk := (judged_leaves h op).powerState.trans hn
    rw [hostCommand, hostPacket_sound h hp, takeCommand_idle h.met.idle, replyTo_shown h, hre, he, if_neg Bool.false_ne_true, hst, hn]
    rw [judged] at hd ⊢
    exact if_pos hd
  obtain ⟨t, hx, hl, -, hw⟩ := act_judged_open h (x := duskHeld op p (replyTo op p s) (judged op p s)) ⟨rfl, rfl, rfl, rfl⟩ (judged_pending h op) hb
  exact ⟨t, hx, hl, hw⟩

/-- NOP, held in the Dawn queue, passes its checks and answers OK. -/
theorem serveHeld_nop {g : HeldPacket} (hop : g.opcode = 0x00) (ht : g.packet.tag = 0) (hpl : g.packet.payload = []) (ho : g.packet.options = 0) (s : State) :
    serveHeld g s = reply g.ret stOk [] s := by
  have hc : pktCred g.packet = false := by rw [pktCred, ho]; rfl
  have hb : pktBody g.packet = [] := by rw [pktBody, hc]; exact hpl
  have htag : tagCheck g.opcode g.packet s = .nowhere := if_pos ht
  have hrun : runCommand 0x00 g.packet g.ret s = reply g.ret stOk [] s := runCommand_low (by decide) _ _ _
  rw [serveHeld, serve, htag, hop, hc, hb, hpl, ho]
  exact hrun

/-- The one command of the Dawn queue is served, alone on its port (R355). -/
theorem dawnServe_nop {g : HeldPacket} {s : State} (hop : g.opcode = 0x00) (ht : g.packet.tag = 0) (hpl : g.packet.payload = []) (ho : g.packet.options = 0) (hport : g.ret.port = .hcs0)
    (hi : Idle .hcs0 s) :
    ∃ em, dawnServe [g] s = { s with emit := em, link := { s.link with
      dawnq := [], nextSlot := s.link.nextSlot + 1, hcs0 := { s.link.hcs0 with outq := [replyPkt { g.ret with slot := s.link.nextSlot } stOk [] false] } } } := by
  have hopn : s.link.hcs0.opn = [] := hi.opn
  have hout : s.link.hcs0.outq = [] := hi.outq
  generalize hr : ({ g.ret with slot := s.link.nextSlot } : ReplyTo) = r
  have hrp : r.port = .hcs0 := by rw [← hr]; exact hport
  let x : State := { s with
    link := { s.link with
      dawnq := [g], nextSlot := s.link.nextSlot + 1, hcs0 := { s.link.hcs0 with opn := [{ ret := r, room := maxReply 0, pkt := none }] } } }
  have hx : Alone r.port { ret := r, room := maxReply 0, pkt := none } x := by
    rw [hrp]
    exact SamePorts.alone (t := x) (s := setPort .hcs0 { portOf s .hcs0 with opn := [{ ret := r, room := maxReply 0, pkt := none }] } s) ⟨rfl, rfl, rfl, rfl⟩ (hi.alone_setPort _)
  have hopen : openSlot r (maxReply 0) { s with link := { s.link with dawnq := [g] } } = x := by
    simp only [openSlot, hrp, portOf, setPort, hopn, List.nil_append]
    rfl
  have hserve : serveHeld { opcode := 0x00, packet := g.packet, ret := r } x = _ := (serveHeld_nop (g := { opcode := 0x00, packet := g.packet, ret := r }) rfl ht hpl ho x).trans (reply_alone hx (by decide) [])
  rw [dupCounted_of_ne (by decide), hrp] at hserve
  obtain ⟨em, hrel⟩ := releaseReplies_hcs0_answered (w := { ret := r, room := maxReply 0, pkt := some (replyPkt r stOk [] false) }) (k := replyPkt r stOk [] false)
    (y := setPort .hcs0 { portOf x .hcs0 with opn := [{ ret := r, room := maxReply 0, pkt := some (replyPkt r stOk [] false) }] } x) rfl rfl
  have hroom : ¬ outRoom (portOf ({ s with link := { s.link with dawnq := [g] } } : State) g.ret.port) < maxReply g.opcode.toNat := by
    have hmax := maxReply_le g.opcode.toNat
    rw [hport]
    simp only [portOf, outRoom, outUsed, hopn, hout, List.map_nil, List.sum_nil]
    omega
  refine ⟨em, ?_⟩
  rw [dawnServe]
  dsimp only
  rw [if_neg hroom, hr, hop, show (0x00 : Byte).toNat = 0 from rfl, hopen, hserve, hport, hrel, dawnServe]
  simp only [setPort, portOf, x, hout, hopn, List.nil_append]

/-! ### Replay, clash, short transactions, events raised again -/

theorem exec_replay_shows {n : Nat} {s : State} (hup : linkUp s = true) (hi : s.LinkInv) :
    exec (.replayTransaction n) s = .next { fresh s with link := { s.link with miso := misoBytes (hifStat s) s.link.hcs0.last n } } := by
  have hf : replayTransaction n (fresh s) = { fresh s with link := { s.link with miso := misoBytes (hifStat s) s.link.hcs0.last n } } := if_pos hup
  refine (act_quiet (replayTransaction n) s ?_ ?_).trans (congrArg _ hf)
  · rw [hf]
    exact linkInv_congr rfl rfl rfl rfl rfl rfl rfl rfl hi
  · rw [hf]
    rfl

theorem exec_clash_counted {s : State} (hup : linkUp s = true) (hi : s.LinkInv) : ∃ t, exec .clash s = .next t ∧ CountedIn 0x4001003C 5 5 0 s t := by
  have he : clash (fresh s) = lastErr 5 0 0 (raise 0x40010008 0x20 (regInc 0x4001003C 16 (fresh s))) := if_pos hup
  obtain ⟨t, hx, hc, -⟩ := act_counted (f := clash) (u := fresh s) hi ⟨[], rfl⟩
    (by rw [he]; exact errCounted_of_lastErr (ev := 5) 0 (by decide) (by decide) (by decide) (by decide) _) (by decide)
  exact ⟨t, hx, hc⟩

theorem exec_v1Short_counted {s : State} (hup : v1Up s = true) (hi : s.LinkInv) : ∃ t, exec .v1ShortTransaction s = .next t ∧ CountedIn 0x40010040 6 6 2 s t := by
  have he : v1Short (fresh s) = lastErr 6 2 0 (raise 0x40010008 64 (regInc 0x40010040 16 (fresh s))) := by
    have hup' : v1Up (fresh s) = true := hup
    exact if_neg (by simp [hup'])
  obtain ⟨t, hx, hc, -⟩ := act_counted (f := v1Short) (u := fresh s) hi ⟨[], rfl⟩
    (by rw [he]; exact errCounted_of_lastErr (ev := 6) 0 (by decide) (by decide) (by decide) (by decide) _) (by decide)
  exact ⟨t, hx, hc⟩

/-- A write that waits for a reply that has not been consumed is not made. -/
theorem applyCfg_waits {addrs : List Nat} {a i : Nat} {v : Word} {s : State} (hp : s.link.cfgPend = [(a, v, some i)]) : applyCfg addrs s = s := by
  have e : ({ s with link := { s.link with cfgPend := [(a, v, some i)] } } : State) = s := by rw [← hp]
  simp only [applyCfg, hp, List.filter_cons, List.filter_nil, Option.isNone_some, Bool.and_false, Bool.false_eq_true, if_false, Bool.not_false, if_true, List.foldl_nil]
  exact e

/-- EVT_LOST takes the place that has come free (R346, R353). -/
theorem queueLost_sends {s : State} {n : Nat} {c : Byte} (hl : s.link.lostHcs0 = (n + 1, c)) (hu : s.link.lostUart = (0, 0)) (hr : 16 ≤ outRoom s.link.hcs0) :
    queueLost .uart (queueLost .hcs0 s) =
      { s with link := { s.link with lostHcs0 := (0, 0), hcs0 := { s.link.hcs0 with outq := s.link.hcs0.outq ++ [eventPkt 0x03 0 (le 2 (n + 1) ++ [c, 0])] } } } := by
  have h0 : queueLost .hcs0 s = { s with
      link := { s.link with lostHcs0 := (0, 0), hcs0 := { s.link.hcs0 with outq := s.link.hcs0.outq ++ [eventPkt 0x03 0 (le 2 (n + 1) ++ [c, 0])] } } } := by
    simp only [queueLost, hl, portOf, setPort]
    rw [if_neg (by omega)]
  rw [h0, queueLost]
  exact if_pos (.inl (congrArg Prod.fst hu))

/-- The one COMPLETE that is due joins the queue that has come free (R346). -/
theorem requeueComplete_one {s : State} {w : Work} (ha : awake s = true) (hw : s.jrn.works = [w]) (hl : s.jrn.loose = []) (hd : w.state = .done) (hc : w.completeDue = true) (hsrc : w.src = .hcs0)
    (ho : s.link.hcs0.outq = []) (hopn : s.link.hcs0.opn = []) (hlen : w.result.length ≤ 76) :
    requeueComplete s = { s with link := { s.link with hcs0 := { s.link.hcs0 with outq := [completePkt w] } } } := by
  have hroom : (completePkt w).size ≤ outRoom (portOf s w.src) := by
    rw [hsrc]
    simp only [portOf, outRoom, outUsed, ho, hopn, List.map_nil, List.sum_nil, OutPkt.size, completePkt, eventPkt, List.length_append, List.length_cons, List.length_nil, le_length]
    omega
  have hnew : ¬ (!w.completeDue || completeQueued s w) = true := by simp [hc, completeQueued, hsrc, portOf, ho]
  have hq : queueComplete w s = { s with link := { s.link with hcs0 := { s.link.hcs0 with outq := [completePkt w] } } } := by
    rw [queueComplete, if_neg hnew, if_pos hroom, hsrc]
    simp only [portOf, setPort, ho, List.nil_append]
  simp only [requeueComplete, hw, hl, List.append_nil, List.foldl_cons, List.foldl_nil, ha, hd, hc, beq_self_eq_true, Bool.and_self, if_true]
  exact hq

end Sys2Proof.Machine
end

section
open Sys2Proof Sys2Proof.Machine

/-- Settles O31: each event's effect leaves the orders of the ports as they are, or one reply that goes; the rest of the state is as the effect's lemma says. -/
theorem linkEvents : Obligations.LinkEvents := by
  refine ⟨⟨fun n s o l hup hi ho hn hc hs => ?_, fun n s o l hup hi ho hn => ?_, fun n s o l id w hup hi ho hn hs ha => ?_, fun n s hup hi => ?_, fun s hup hi => ?_, fun s hup hi => ?_,
    fun s v hi hp => ?_, fun s v hi hp => ?_, fun s v i hi hp => ?_, fun s n c hn hi hl hu hr => ?_, fun s w hn hi hw hl hd hc hsrc ho hopn hlen => ?_⟩,
    fun p s h hp hn he h0 hl => ?_, fun p s g h hp hn he h0 hq ht h1 h2 h3 h4 => ?_, fun p s g h hp hn he h0 hq ht h1 => ?_, fun p s h hp hn he => ?_,
    fun s g hn he hi hq h1 h2 h3 h4 h5 ho hopn => ?_, fun s hi hc => ?_⟩
  · obtain ⟨hq, hx⟩ := act_level (f := readOnly 0 n)
      (((readOnly_output hup).trans (spiOutput_consumes (s := fresh s) ho hn)).trans (afterConsumed_event hs hc _)) hi rfl rfl rfl rfl rfl
    exact ⟨_, hx, rfl, rfl, rfl⟩
  · obtain ⟨hq, hx⟩ := act_level (f := readOnly 0 n) ((readOnly_output hup).trans (spiOutput_short (s := fresh s) ho hn)) hi rfl rfl rfl rfl rfl
    exact ⟨_, hx, rfl, rfl, rfl⟩
  · obtain ⟨hq, hx⟩ := act_level (f := readOnly 0 n)
      (((readOnly_output hup).trans (spiOutput_consumes (s := fresh s) ho hn)).trans (afterConsumed_reply hs _)) hi rfl rfl rfl rfl rfl
    refine ⟨_, hx, ?_, rfl⟩
    simp [ha, replyConsumed]
  · exact exec_replay_shows hup hi
  · obtain ⟨t, hx, k⟩ := exec_clash_counted hup hi
    obtain ⟨hcnt, hev, hkind, -, ho⟩ := k.counted
    exact ⟨t, hx, hcnt, hev, hkind, ho, k.leaves⟩
  · obtain ⟨t, hx, k⟩ := exec_v1Short_counted hup hi
    obtain ⟨hcnt, hev, hkind, hport, ho⟩ := k.counted
    exact ⟨t, hx, hcnt, hev, hkind, hport, ho, k.leaves, k.leaves.v1Reply⟩
  · obtain ⟨t, hx, hc, hg, ho, hl⟩ := act_applyCfg (addrs := [0x40010010]) (by decide) (by decide) (by decide) hi hp
    exact ⟨t, hx, hc, hg, ho, hl⟩
  · obtain ⟨t, hx, hc, hg, ho, hl⟩ := act_applyCfg (addrs := [0x40010000, 0x40010014]) (by decide) (by decide) (by decide) hi hp
    exact ⟨t, hx, hc, hg, ho, hl⟩
  · exact act_idle hi (applyCfg_waits (s := fresh s) hp)
  · obtain ⟨hq, hx⟩ := act_level (f := fun s => if awake s then queueLost .uart (queueLost .hcs0 s) else s)
      ((if_pos (awake_of_noon (s := fresh s) hn)).trans (queueLost_sends (s := fresh s) hl hu hr)) hi rfl rfl rfl rfl rfl
    exact ⟨_, hx, rfl, rfl, rfl, rfl, rfl⟩
  · obtain ⟨hq, hx⟩ := act_level (f := requeueComplete) (requeueComplete_one (s := fresh s) (awake_of_noon hn) hw hl hd hc hsrc ho hopn hlen) hi rfl rfl rfl rfl rfl
    exact ⟨_, hx, rfl, rfl⟩
  · obtain ⟨t, hx, hr, hl'⟩ := act_dawn_joins h hp hn he h0 hl
    have hd : t.link.dawnq = s.link.dawnq ++ [{ opcode := 0x00, packet := p, ret := replyTo 0x00 p s }] := hl'.dawnq
    refine ⟨t, _, hx, hr, hd, rfl, rfl, ?_⟩
    rw [hd]
    exact hl'
  · exact act_dawn_same h hp hn he h0 hq ht (by simp [h1, h2, h3, h4])
  · exact act_dawn_other h hp hn he h0 hq ht (by simp only [beq_false_of_ne h1, Bool.false_and])
  · obtain ⟨t, hx, hl, hw⟩ := act_dusk_holds h hp hn he
    have hj := judged_leaves h 0x00
    refine ⟨t, hx, hl.exitDue, ?_, hw, hl.regs.trans hj.regs, hl.jrn.trans hj.jrn⟩
    rw [hl.held, duskHeld, hj.held]
  · have hinv := hi
    obtain ⟨-, hord, hsent, hreads⟩ := hinv
    obtain ⟨em, hserve⟩ := dawnServe_nop (s := fresh s) h1 h2 h3 h4 h5 ⟨hopn, ho, nofun, hord, hsent, hreads⟩
    have hf : dawnProcess (fresh s) = dawnServe [g] (fresh s) := by
      have hq' : (fresh s).link.dawnq = [g] := hq
      rw [dawnProcess, if_pos (by simp [inNoon, hn, he]), hq']
    obtain ⟨lv, hx⟩ := act_level (f := dawnProcess) (hf.trans hserve) hi rfl rfl rfl rfl rfl
    exact ⟨_, hx, rfl, rfl, rfl, rfl, rfl⟩
  · refine act_idle hi (if_neg ?_)
    rcases hc with hc | hc
    · simp [inNoon, hc]
    · simp [hc]
end

section
/-! Version 1 transactions (R359–R361, R400): what reaches the body of an opcode, and what a reply leaves behind. -/
namespace Sys2Proof.Machine

/-! ### From the transaction to the body -/

/-- The link when a version 1 command runs: the reply that waited is shown and consumed. -/
def v1Link (s : State) : HostLink := { s.link with miso := v1Shows s, v1Reply := none }

theorem v1Shown_free {s : State} (hw : s.link.v1Wait = none) (hb : s.link.v1Busy = none) : v1Shown s = (v1Shows s, true) := by
  unfold v1Shown v1Shows
  rw [hw, hb]
  cases s.link.v1Reply <;> rfl

theorem v1Shown_busy {s : State} {op : Byte} (hw : s.link.v1Wait = none) (hb : s.link.v1Busy = some op) : v1Shown s = ([stInProgress, op] ++ zeros 10, false) := by
  unfold v1Shown
  rw [hw, hb]

/-- What is shown in Noon is not the reply of a SOFT_RESET. -/
theorem V1Takes.calm_shows {s : State} (h : V1Takes s) : ¬ (byteAt (v1Shows s) 0 = 0 ∧ byteAt (v1Shows s) 1 = 3) := by
  rintro ⟨-, h3⟩
  unfold v1Shows at h3
  cases hr : s.link.v1Reply with
  | none => rw [hr] at h3; exact absurd h3 (by decide)
  | some r => rw [hr] at h3; exact h.calm r hr h3

/-- A transaction in Noon comes to the choice of what it shows. -/
theorem v1Transaction_noon {op : Byte} {f : V1Frame} {s : State} {b : Bytes} {c : Bool} (hup : v1Up s = true) (hn : s.power.state = .noon) (he : s.link.e0Restart = false)
    (hx : v1Shown s = (b, c)) :
    v1Transaction op f (fresh s) =
      if c = false then atBody { s.link with miso := b } s
      else if byteAt b 0 = 0 ∧ byteAt b 1 = 3 then atBody { s.link with miso := b, v1Reply := none, afterReply := some (.reset, none) } s
      else v1Run op.toNat f.p (atBody { s.link with miso := b, v1Reply := none } s) := by
  have hup' : v1Up (fresh s) = true := hup
  have hx' : v1Shown (fresh s) = (b, c) := hx
  have hd : exitDusk { fresh s with link := { (fresh s).link with miso := b }, power := { (fresh s).power with duskDue := false } } = atBody { s.link with miso := b } s :=
    if_neg (by simp [hn])
  have hin : inNoon (atBody { s.link with miso := b, v1Reply := none } s) = true := by simp [inNoon, atBody, hn]
  rw [v1Transaction, if_neg (by simp [hup']), if_neg (by simp [hn, he]), hx']
  dsimp only
  rw [hd]
  cases c
  · rfl
  · refine Eq.trans ?_ (if_neg (by decide : ¬ (true = false))).symm
    refine (if_neg (by decide : ¬ ((!true) = true))).trans ?_
    by_cases h3 : byteAt b 0 = 0 ∧ byteAt b 1 = 3
    · exact (if_pos h3).trans (if_pos h3).symm
    · exact (if_neg h3).trans ((if_pos hin).trans (if_neg h3).symm)

theorem v1Transaction_takes {op : Byte} {f : V1Frame} {s : State} (h : V1Takes s) : v1Transaction op f (fresh s) = v1Run op.toNat f.p (atBody (v1Link s) s) := by
  rw [v1Transaction_noon h.up h.noon h.e0 (v1Shown_free h.wait h.busy), if_neg (by simp), if_neg h.calm_shows]
  rfl

theorem v1Objs_atBody (lk : HostLink) (s : State) (op : Nat) (p : Bytes) : v1Objs (atBody lk s) op p = v1Objs s op p := rfl
theorem heldObjs_atBody (lk : HostLink) (s : State) : heldObjs (atBody lk s) = heldObjs s := rfl

/-- A command that passes the checks that every opcode shares comes to its body. -/
theorem v1Run_passes {op : Nat} {p : Bytes} {s : State} (hk : v1Known.contains op = true) (h : V1Passes op p s) (lk : HostLink) :
    v1Run op p (atBody lk s) = v1Body op p (atBody lk s) := by
  have hrole : ¬ (0x18 ≤ op ∧ op ≤ 0x23 ∧ roleOf (atBody lk s) = .none) := fun ⟨h1, h2, h3⟩ => h.role h1 h2 h3
  have hwrite : ¬ (v1Writes.contains op = true ∧ (!regBit (atBody lk s) 0x40010014 1) = true) := fun ⟨hw, hb⟩ => by
    have hon : regBit (atBody lk s) 0x40010014 1 = true := h.write hw
    rw [hon] at hb
    exact absurd hb (by decide)
  rw [v1Run, if_neg (by simpa using hk), if_neg (by rw [h.params]; decide), if_neg hrole, if_neg hwrite, v1Objs_atBody, heldObjs_atBody, h.objs]
  exact if_neg (by decide)

/-! ### What a body leaves -/

/-- A body has left the link as it met it, and what else decides the end of the command. -/
structure V1Kept (s y : State) : Prop where
  link    : y.link = v1Link s
  cfg     : regGet y 0x40010000 = regGet s 0x40010000
  reads   : y.fer.reads = s.fer.reads
  dusk    : y.power.duskDue = false
  pending : y.pending = s.pending

theorem V1Kept.refl (s : State) : V1Kept s (atBody (v1Link s) s) := ⟨rfl, rfl, rfl, rfl, rfl⟩

theorem V1Leaves.refl_atBody (s : State) : V1Leaves s (atBody (v1Link s) s) := rfl

theorem V1Leaves.trans {u v w : State} (h : V1Leaves u v) (k : V1Leaves v w) : V1Leaves u w := by
  unfold V1Leaves at *
  rw [k, h]

theorem V1Leaves.regs {u t : State} (h : V1Leaves u t) : t.regs = u.regs := by rw [h]
theorem V1Leaves.eng {u t : State} (h : V1Leaves u t) : t.eng = u.eng := by rw [h]
theorem V1Leaves.acc {u t : State} (h : V1Leaves u t) : t.acc = u.acc := by rw [h]
theorem V1Leaves.engOf {u t : State} (h : V1Leaves u t) (k : Fin 12) : engOf t k = Machine.engOf u k := by unfold Machine.engOf; rw [h.eng]

/-- An effect on version 1's part of the link whose ports are as they were ends with HIRQ_N. -/
theorem act_v1 {f : State → State} {s x : State} (hf : f (fresh s) = x) (hi : s.LinkInv) (hl : SamePorts s x) (hp : x.pending = s.pending) :
    ∃ hq, act f s = .next { x with link := { x.link with hirq := hq } } :=
  act_level hf hi (by rw [hl.hcs0]) hl.uart hl.cfg hl.reads hp

theorem byte_toNat (op : Byte) : byte op.toNat = op := by simp [byte]

/-- A version 1 command whose body, as it meets the state, answers now. -/
theorem version1_of_body {mk : V1Frame → Instr} {op : Byte} {cond : Bytes → State → Prop} {st : Byte} {ans : Bytes → State → Bytes} {post : Bytes → State → State → Prop}
    (hmk : ∀ f s, exec (mk f) s = act (v1Transaction op f) s) (hk : v1Known.contains op.toNat = true)
    (hbody : ∀ p s, V1Takes s → cond p s → ∃ y, v1Body op.toNat p (atBody (v1Link s) s) = v1Now op.toNat st (ans p s) y ∧ V1Kept s y ∧ ∀ t, V1Leaves y t → post p s t) :
    Version1 mk op cond st ans post := by
  intro f s h hpass hc
  obtain ⟨y, hb, k, hpost⟩ := hbody f.p s h hc
  have hrun := (v1Transaction_takes h).trans ((v1Run_passes hk hpass _).trans hb)
  obtain ⟨hq, hx⟩ := act_v1 (f := v1Transaction op f) hrun h.inv ⟨by rw [v1Now, v1Answer, k.link]; rfl, by rw [v1Now, v1Answer, k.link]; rfl, k.cfg, k.reads⟩ k.pending
  refine ⟨_, (hmk f s).trans hx, ?_, ?_, hpost _ ?_⟩
  · rw [v1Now, v1Answer, k.link]
    rfl
  · rw [v1Now, v1Answer, byte_toNat]
  · have hbusy : y.link.v1Busy = none := by rw [k.link]; exact h.busy
    unfold V1Leaves v1Now v1Answer
    dsimp only
    rw [← hbusy, ← k.dusk]

/-- One that changes nothing but the link. -/
theorem version1_of_read {mk : V1Frame → Instr} {op : Byte} {cond : Bytes → State → Prop} {st : Byte} {ans : Bytes → State → Bytes}
    (hmk : ∀ f s, exec (mk f) s = act (v1Transaction op f) s) (hk : v1Known.contains op.toNat = true)
    (hbody : ∀ p s, V1Takes s → cond p s → v1Body op.toNat p (atBody (v1Link s) s) = v1Now op.toNat st (ans p s) (atBody (v1Link s) s)) :
    Version1 mk op cond st ans fun _ s t => V1Leaves s t :=
  version1_of_body hmk hk fun p s h hc => ⟨_, hbody p s h hc, .refl s, fun _ ht => (V1Leaves.refl_atBody s).trans ht⟩

end Sys2Proof.Machine
end

section
/-! The answers of version 1 commands that read (R360, R361, R400). -/
namespace Sys2Proof.Machine

/-! ### GPIO registers (R603, R604) -/

/-- No register of a row that a read clears lies in the GPIO block: each such row lies within one block, another one. -/
def clearedElsewhere (r : RegRow) : Bool := r.kind != .rc || (r.base / 0x10000 % 0x20 != 0x0F && (r.base + r.stride * (r.n - 1)) / 0x10000 == r.base / 0x10000)

theorem regTable_clearedElsewhere : regTable.all clearedElsewhere = true := by decide +kernel

theorem RegRow.has_range {r : RegRow} {a : Nat} (h : r.has a = true) : r.base ≤ a ∧ a ≤ r.base + r.stride * (r.n - 1) := by
  simp only [RegRow.has, Bool.and_eq_true, decide_eq_true_eq, beq_iff_eq] at h
  obtain ⟨⟨hb, hm⟩, hn⟩ := h
  refine ⟨hb, ?_⟩
  have hd : a - r.base = r.stride * ((a - r.base) / r.stride) := (Nat.mul_div_cancel' (Nat.dvd_of_mod_eq_zero hm)).symm
  have hle : r.stride * ((a - r.base) / r.stride) ≤ r.stride * (r.n - 1) := Nat.mul_le_mul_left _ (by omega)
  omega

theorem gpio_not_cleared {a : Nat} {r : RegRow} (ha : blockOf a = 0x0F) (hr : regFind a = some r) : r.kind ≠ .rc := by
  intro hk
  have hm : r ∈ regTable := List.mem_of_find?_eq_some hr
  obtain ⟨h1, h2⟩ := RegRow.has_range (by simpa using List.find?_some hr)
  have hc := List.all_eq_true.mp regTable_clearedElsewhere r hm
  simp only [clearedElsewhere, hk, bne_self_eq_false, Bool.false_or, Bool.and_eq_true, bne_iff_ne, ne_eq, beq_iff_eq] at hc
  obtain ⟨hne, heq⟩ := hc
  have hlo : r.base / 0x10000 ≤ a / 0x10000 := Nat.div_le_div_right h1
  have hhi : a / 0x10000 ≤ (r.base + r.stride * (r.n - 1)) / 0x10000 := Nat.div_le_div_right h2
  unfold blockOf at ha
  rw [show a / 0x10000 = r.base / 0x10000 by omega] at ha
  exact hne ha

/-- A read in the GPIO block leaves the state. -/
theorem regReadDone_gpio {a : Nat} (ha : blockOf a = 0x0F) (s : State) : regReadDone false a s = s := by
  have hf : (match regFind a with | some r => if r.kind = .rc ∧ (!false) = true then regSet a 0 s else s | none => s) = s := by
    cases hr : regFind a with
    | none => rfl
    | some r => exact if_neg fun h => gpio_not_cleared ha hr h.1
  unfold blockOf at ha
  unfold regReadDone
  dsimp only
  refine (if_neg (by omega)).trans ((if_neg (by omega)).trans ?_)
  exact hf

theorem regShow_gpio {a : Nat} (ha : blockOf a = 0x0F) (lk : HostLink) (s : State) : regShow (atBody lk s) a = regShow s a := by
  have hb : isBufWord a = false := by
    unfold blockOf at ha
    simp only [isBufWord, Bool.or_eq_false_iff, Bool.and_eq_false_iff, decide_eq_false_iff_not, Nat.not_le, Nat.not_lt]
    omega
  have hv : ∀ u, blockView u a = gpioView u (a % 0x10000) := fun u => by rw [blockView, ha]; rfl
  rw [regShow, regShow, hb, hv, hv]
  rfl

/-! ### Bodies that answer -/

theorem roleByte_atBody (lk : HostLink) (s : State) : roleByte (atBody lk s) = roleByte s := rfl

theorem v1Ident_shows (lk : HostLink) (s : State) :
    v1Ident (atBody lk s) = v1Now 0x01 stOk [0x01, 0x0B, 0x20, 0x77, match s.cfg.role with | .none => 0 | .tractor => 1 | .trailer => 2, 1] (atBody lk s) := by
  rw [v1Ident, roleByte_atBody, roleByte]
  cases s.cfg.role <;> rfl

theorem v1StatusOf_shows {s : State} (hn : s.power.state = .noon) (lk : HostLink) :
    v1StatusOf (atBody lk s) = v1Now 0x02 stOk ([1, byte s.ks.state.code] ++ le 2 (regShow s 0x40060004).toNat ++ [byte (s1Records s)]) (atBody lk s) := by
  have hst : stateByte (atBody lk s) = 1 := if_neg (by simp [atBody, hn])
  rw [v1StatusOf, hst]
  rfl

theorem v1T2Result_shows {s : State} (hc : s.acc.curfew = false) (lk : HostLink) :
    v1T2Result (atBody lk s) =
      v1Now 0x19 stOk (match s.acc.ring.getLast? with | some r => [r.outcome, r.reason, r.record, r.cls, r.zone] ++ le 4 r.num.toNat | none => []) (atBody lk s) := by
  have hc' : (atBody lk s).acc.curfew = false := hc
  rw [v1T2Result, hc']
  rfl

theorem v1S1Read_shows {p : Bytes} {s : State} {x : Sensor} (hp : byteAt p 0 ≤ 127) (hx : snsOf s (byteAt p 0) = some x) (h2 : x.s2 = false) :
    v1S1Read p s = v1Now 0x21 stOk (le 4 x.id.toNat ++ le 2 (at_ x.data 0 2) ++ [byte (byteAt x.data 2 + 50), x.flags, shownPos s x, byte x.alert]) s := by
  rw [v1S1Read, if_neg (by omega), hx]
  exact if_neg (by simp [h2])

theorem v1EeRead_shows {p : Bytes} {s : State} (hr : eeRange p = true) (ho : regionRefusal false (eeBase s + at_ p 0 2) (byteAt p 2) s = none)
    (hg : ∀ g ∈ pagesOf (eeBase s + at_ p 0 2) (byteAt p 2), (metaOf s g).c0.ok = true ∧ (metaOf s g).c1.ok = true) :
    v1EeRead p s = v1Now 0x10 stOk (nvmBytes s (eeBase s + at_ p 0 2) (byteAt p 2)) s := by
  simp only [v1EeRead, hr, Bool.not_true, Bool.false_eq_true, if_false, ho, nvmRead_sound hg]

theorem v1MbxRead_empty {p : Bytes} {s : State} (hp : 9 ≤ byteAt p 0 ∧ byteAt p 0 ≤ 11) (hb : (engOf s (engNo (byteAt p 0))).hostBox = []) :
    v1MbxRead p s = v1Now 0x39 stOk [] s := by
  rw [v1MbxRead, if_neg (by simp [outside]; omega), hostPop, hb]
  rfl

/-- The oldest message for the host is taken from an engine's queue. -/
theorem hostPop_takes {k : Fin 12} {s : State} {m : Message} {l : List Message} (hb : (engOf s k).hostBox = m :: l) (hk : (engOf s k).blocked.contains 12 = false) :
    hostPop k s = (m.data, setEng k { (engOf s k) with hostBox := l } s) := by
  have hk' : (engOf (modEng k (fun e => { e with hostBox := l }) s) k).blocked.contains 12 = false := by
    have he : engOf (modEng k (fun e => { e with hostBox := l }) s) k = { (engOf s k) with hostBox := l } := Vector.getElem_set_self k.isLt
    rw [he]
    exact hk
  simp only [hostPop, hb, hk', Bool.false_eq_true, if_false]
  rfl

theorem v1MbxRead_takes {p : Bytes} {s : State} {m : Message} {l : List Message} (hp : 9 ≤ byteAt p 0 ∧ byteAt p 0 ≤ 11)
    (hb : (engOf s (engNo (byteAt p 0))).hostBox = m :: l) (hk : (engOf s (engNo (byteAt p 0))).blocked.contains 12 = false) :
    v1MbxRead p s = v1Now 0x39 stOk (fit 8 m.data) (setEng (engNo (byteAt p 0)) { (engOf s (engNo (byteAt p 0))) with hostBox := l } s) := by
  rw [v1MbxRead, if_neg (by simp [outside]; omega), hostPop_takes hb hk]

/-- A command that changes state is denied while V1_WR is 0 (R361). -/
theorem act_v1_denied {op : Byte} {f : V1Frame} {s : State} (h : V1Takes s) (hk : v1Known.contains op.toNat = true) (hw : v1Writes.contains op.toNat = true)
    (hp : (f.p.drop (v1Params op.toNat)).any (· != 0) = false) (hr : s.cfg.role ≠ .none) (hoff : regBit s 0x40010014 1 = false) :
    ∃ t, act (v1Transaction op f) s = .next t ∧ t.link.miso = v1Shows s ∧ t.link.v1Reply = some ([stDenied, op] ++ zeros 10) ∧ V1Leaves s t := by
  have hoff' : regBit (atBody (v1Link s) s) 0x40010014 1 = false := hoff
  have hrun : v1Run op.toNat f.p (atBody (v1Link s) s) = v1Now op.toNat stDenied [] (atBody (v1Link s) s) := by
    rw [v1Run, if_neg (by simpa using hk), if_neg (by rw [hp]; decide), if_neg (fun ⟨_, _, h3⟩ => hr h3), if_pos ⟨hw, by rw [hoff']; rfl⟩]
  obtain ⟨hq, hx⟩ := act_v1 (f := v1Transaction op f) ((v1Transaction_takes h).trans hrun) h.inv ⟨rfl, rfl, rfl, rfl⟩ rfl
  refine ⟨_, hx, rfl, ?_, ?_⟩
  · rw [v1Now, v1Answer, byte_toNat]
    rfl
  · have hbusy := h.busy
    unfold V1Leaves v1Now v1Answer
    dsimp only
    rw [← hbusy]
    rfl

/-- An opcode that the table does not list (R361). -/
theorem act_v1_unknown {op : Byte} {f : V1Frame} {s : State} (h : V1Takes s) (hk : v1Known.contains op.toNat = false) :
    ∃ t, act (v1Transaction op f) s = .next t ∧ t.link.miso = v1Shows s ∧ t.link.v1Reply = some ([stBadOpcode, op] ++ zeros 10) ∧ V1Leaves s t := by
  have hrun : v1Run op.toNat f.p (atBody (v1Link s) s) = v1Now op.toNat stBadOpcode [] (atBody (v1Link s) s) := by
    rw [v1Run, if_pos (by rw [hk]; rfl)]
  obtain ⟨hq, hx⟩ := act_v1 (f := v1Transaction op f) ((v1Transaction_takes h).trans hrun) h.inv ⟨rfl, rfl, rfl, rfl⟩ rfl
  refine ⟨_, hx, rfl, ?_, ?_⟩
  · rw [v1Now, v1Answer, byte_toNat]
    rfl
  · have hbusy := h.busy
    unfold V1Leaves v1Now v1Answer
    dsimp only
    rw [← hbusy]
    rfl

end Sys2Proof.Machine
end

section
open Sys2Proof Sys2Proof.Machine

/-- Settles O28: each opcode's body answers at once with bytes of the state that it meets. -/
theorem version1Answers : Obligations.Version1Answers := by
  unfold Obligations.Version1Answers
  intro same none_
  refine ⟨version1_of_read (fun _ _ => rfl) (by decide) fun p s h _ => rfl, version1_of_read (fun _ _ => rfl) (by decide) fun p s h _ => ?_,
    version1_of_read (fun _ _ => rfl) (by decide) fun p s h _ => ?_, version1_of_read (fun _ _ => rfl) (by decide) fun p s h hc => ?_,
    version1_of_read (fun _ _ => rfl) (by decide) fun p s h hc => ?_, version1_of_read (fun _ _ => rfl) (by decide) fun p s h hc => ?_,
    version1_of_read (fun _ _ => rfl) (by decide) fun p s h _ => rfl, fun x => version1_of_read (fun _ _ => rfl) (by decide) fun p s h hc => ?_,
    version1_of_read (fun _ _ => rfl) (by decide) fun p s h hc => ?_, version1_of_read (fun _ _ => rfl) (by decide) fun p s h hc => ?_,
    version1_of_read (fun _ _ => rfl) (by decide) fun p s h hc => ?_, version1_of_read (fun _ _ => rfl) (by decide) fun p s h hc => ?_,
    fun m l => version1_of_body (fun _ _ => rfl) (by decide) fun p s h hc => ?_, fun x hx f s h hp hr hoff => ?_, fun op f s h hk => act_v1_unknown h hk⟩
  · exact v1Ident_shows _ s
  · exact v1StatusOf_shows h.noon _
  · exact congrArg (fun st => v1Now 0x03 st [] _) (if_pos hc)
  · exact congrArg (fun st => v1Now 0x03 st [] _) (if_neg hc)
  · exact v1T2Result_shows hc _
  · obtain ⟨h1, h2, h3⟩ := hc
    exact v1S1Read_shows (s := atBody (v1Link s) s) h1 h2 h3
  · obtain ⟨h1, h2, h3⟩ := hc
    refine (v1EeRead_shows (s := atBody (v1Link s) s) h1 ((regionRefusal_atBody _ s _ _ _).trans h2) fun g hg => ?_).trans ?_
    · obtain ⟨hc0, hc1, -⟩ := h3 g hg
      exact ⟨hc0, hc1⟩
    · rw [nvmBytes_atBody]
      rfl
  · exact if_pos (by rw [hc]; rfl)
  · obtain ⟨h1, h2⟩ := hc
    show v1RegRead p _ = _
    rw [v1RegRead, h1]
    dsimp only [regRead]
    rw [regReadDone_gpio h2, regShow_gpio h2]
    rfl
  · exact v1MbxRead_empty (s := atBody (v1Link s) s) hc.1 hc.2
  · obtain ⟨h1, h2, h3⟩ := hc
    refine ⟨setEng (engNo (byteAt p 0)) { (engOf s (engNo (byteAt p 0))) with hostBox := l } (atBody (v1Link s) s), ?_, ⟨rfl, rfl, rfl, rfl, rfl⟩, fun t ht => ?_⟩
    · exact v1MbxRead_takes (s := atBody (v1Link s) s) h1 h2 h3
    · exact V1Leaves.trans (v := setEng (engNo (byteAt p 0)) { (engOf s (engNo (byteAt p 0))) with hostBox := l } (atBody (v1Link s) s)) rfl ht
  · simp only [List.mem_cons, List.not_mem_nil, or_false] at hx
    rcases hx with rfl | rfl | rfl | rfl | rfl | rfl | rfl | rfl | rfl | rfl | rfl
    all_goals exact act_v1_denied h (by decide) (by decide) hp hr hoff
end

section
/-! Version 1 commands that write and answer at once: registers, the Jorsol-12 image, mailboxes (R360, R361, R400, R429). -/
namespace Sys2Proof.Machine

/-! ### Version 1 bodies that leave engines or registers changed -/

theorem V1Kept.setEng {s y : State} (h : V1Kept s y) (k : Fin 12) (e : Engine) : V1Kept s (Machine.setEng k e y) := ⟨h.link, h.cfg, h.reads, h.dusk, h.pending⟩

/-- What version 1 leaves of a body that changed engines and registers only. -/
theorem v1Leaves_engRegs {s y t : State} (hy : y = { atBody (v1Link s) s with eng := y.eng, regs := y.regs }) (h : V1Leaves y t) :
    V1Leaves { s with eng := t.eng, regs := t.regs } t := by
  have hs : V1Leaves { s with eng := t.eng, regs := t.regs } y := by
    rw [h.eng, h.regs, hy]
    rfl
  exact hs.trans h

theorem v1Leaves_eng {s y t : State} (hy : y = { atBody (v1Link s) s with eng := y.eng }) (h : V1Leaves y t) : V1Leaves { s with eng := t.eng } t := by
  have hs : V1Leaves { s with eng := t.eng } y := by
    rw [h.eng, hy]
    rfl
  exact hs.trans h

/-! ### REG_WRITE -/

/-- The register of a TMB capture is the host's to write, and its write is no more than that of the register. -/
theorem hostReach_capture (s : State) : hostReach s 0x400B0074 = none := rfl

theorem regWrite_capture (v : Word) (s : State) : regWrite none 0x400B0074 v s = regStore 0x400B0074 v s := by
  have he : regEffect none 0x400B0074 v s = regStore 0x400B0074 v s := by
    rw [regEffect, if_neg (by decide), if_neg (by decide)]
    rfl
  rw [regWrite, regPart, he]
  rw [if_neg (by omega), if_neg (by omega), if_neg (by omega)]

theorem v1RegWrite_capture {p : Bytes} {s : State} (ha : at_ p 0 4 = 0x400B0074) (hv : hostValue s 0x400B0074 (word (at_ p 4 4)) = none) :
    v1RegWrite p s = v1Now 0x09 stOk [] (regStore 0x400B0074 (word (at_ p 4 4)) s) := by
  have hb : ¬ ((regSpan 0x400B0074 1).isSome = true ∨ (!(decide (blockOf 0x400B0074 = 0x0B ∨ blockOf 0x400B0074 = 0x0F))) = true) := by decide +kernel
  rw [v1RegWrite, ha]
  refine (if_neg hb).trans ?_
  rw [hostReach_capture, hv]
  exact congrArg (v1Now 0x09 stOk []) (regWrite_capture _ s)

theorem v1RegWrite_elsewhere {p : Bytes} {s : State} (hB : blockOf (at_ p 0 4) ≠ 0x0B) (hF : blockOf (at_ p 0 4) ≠ 0x0F) : v1RegWrite p s = v1Now 0x09 stBadField [] s :=
  if_pos (.inr (by simp [hB, hF]))

/-! ### The Jorsol-12 image (R429) -/

/-- Engines and registers may have changed, the program memory of every engine and the image that version 1 loads have not. -/
structure ImageKept (s t : State) : Prop where
  only   : t = { s with eng := t.eng, regs := t.regs }
  cfg    : regGet t 0x40010000 = regGet s 0x40010000
  pmem   : ∀ i, (engOf t i).pmem = (engOf s i).pmem
  words  : ∀ i, (engOf t i).j12Words = (engOf s i).j12Words

theorem ImageKept.refl (s : State) : ImageKept s s := ⟨rfl, rfl, fun _ => rfl, fun _ => rfl⟩

theorem ImageKept.trans {s t u : State} (h : ImageKept s t) (k : ImageKept t u) : ImageKept s u := by
  refine ⟨?_, k.cfg.trans h.cfg, fun i => (k.pmem i).trans (h.pmem i), fun i => (k.words i).trans (h.words i)⟩
  rw [k.only, h.only]

theorem ImageKept.foldl {α : Type} {f : State → α → State} (h : ∀ s x, ImageKept s (f s x)) (l : List α) (s : State) : ImageKept s (l.foldl f s) := by
  induction l generalizing s with
  | nil => exact .refl s
  | cons x l ih => exact (h s x).trans (ih _)

theorem modEng_imageKept {f : Engine → Engine} (hp : ∀ e, (f e).pmem = e.pmem) (hw : ∀ e, (f e).j12Words = e.j12Words) (k : Fin 12) (s : State) : ImageKept s (modEng k f s) := by
  refine ⟨rfl, rfl, fun i => ?_, fun i => ?_⟩ <;>
  · by_cases hi : i = k
    · subst hi
      simp only [modEng, engOf_setEng, hp, hw]
    · simp only [modEng, engOf_setEng_ne hi]

theorem wakeEng_image (e : Engine) : (wakeEng e).pmem = e.pmem ∧ (wakeEng e).j12Words = e.j12Words := by
  unfold wakeEng
  split
  · split <;> exact ⟨rfl, rfl⟩
  · exact ⟨rfl, rfl⟩

theorem pendLine_imageKept (k : Fin 12) (n : Nat) (s : State) : ImageKept s (pendLine k n s) :=
  modEng_imageKept (f := fun e => wakeEng { e with evtPend := setBit e.evtPend n }) (fun _ => (wakeEng_image _).1) (fun _ => (wakeEng_image _).2) k s

theorem unblock_imageKept (n : Nat) (s : State) : ImageKept s (unblock n s) := by
  refine .foldl (fun s j => ?_) _ s
  split
  · exact (modEng_imageKept (f := fun e => { e with blocked := e.blocked.filter (· != n) }) (fun _ => rfl) (fun _ => rfl) j s).trans (pendLine_imageKept j 1 _)
  · exact .refl s

theorem regSet_imageKept {a : Nat} (ha : a ≠ 0x40010000) (v : Word) (s : State) : ImageKept s (regSet a v s) :=
  ⟨rfl, regGet_regSet_ne ha.symm v s, fun _ => rfl, fun _ => rfl⟩

/-- An engine reset whose store buffer is empty keeps program memories and the image begun. -/
theorem engResetTo_imageKept {k : Fin 12} {s : State} (h : (engOf s k).stores = []) (st : EngState) : ImageKept s (engResetTo k st s) := by
  have hd : drainWith regPart k s = modEng k (fun e => { e with stores := [] }) s := by
    simp only [drainWith, h, List.foldl_nil]
  rw [engResetTo, hd]
  refine (modEng_imageKept (f := fun e => { e with stores := [] }) (fun _ => rfl) (fun _ => rfl) k s).trans ?_
  refine (modEng_imageKept (f := fun e => engBlank e st) (fun _ => rfl) (fun _ => rfl) k _).trans ?_
  exact (ImageKept.foldl (fun s o => regSet_imageKept (by unfold engAddr; omega) _ s) _ _).trans (unblock_imageKept _ _)

/-- No image is begun on any of the engines that version 1 loads. -/
def imagesOver (s : State) : State := ([9, 10, 11] : List (Fin 12)).foldl (fun s j => modEng j (fun e => { e with j12Words := 0 }) s) s

theorem imagesOver_only (s : State) : imagesOver s = { s with eng := (imagesOver s).eng } := rfl

theorem engOf_imagesOver (s : State) (i : Fin 12) :
    engOf (imagesOver s) i = if i ∈ ([9, 10, 11] : List (Fin 12)) then { (engOf s i) with j12Words := 0 } else engOf s i := by
  fin_cases i <;> simp [imagesOver, modEng, setEng, engOf]

theorem engNo_oem {n : Nat} (h : 9 ≤ n ∧ n ≤ 11) : engNo n ∈ ([9, 10, 11] : List (Fin 12)) := by
  obtain rfl | rfl | rfl : n = 9 ∨ n = 10 ∨ n = 11 := by omega
  all_goals decide

/-- The engine whose image is begun is the one of the three with words to come. -/
theorem j12Engine_eq {s : State} {k : Fin 12} (hk : k ∈ ([9, 10, 11] : List (Fin 12))) (h : ∀ i ∈ ([9, 10, 11] : List (Fin 12)), (engOf s i).j12Words ≠ 0 ↔ i = k) :
    j12Engine s = some k := by
  have hf : j12Engine s = ([9, 10, 11] : List (Fin 12)).find? fun i => i == k := by
    refine List.find?_congr fun i hi => ?_
    rw [Bool.eq_iff_iff, bne_iff_ne, beq_iff_eq]
    exact h i hi
  rw [hf]
  fin_cases hk <;> rfl

/-- What J12_BEGIN makes of an engine that has been reset. -/
def imageBegun (n : Nat) (e : Engine) : Engine := { (loadFailed e) with j12Words := n, restartDue := false }

theorem v1J12Begin_begins {p : Bytes} {s : State} (hp : 9 ≤ byteAt p 0 ∧ byteAt p 0 ≤ 11) (h0 : 0 < at_ p 1 2) (h1 : at_ p 1 2 ≤ 49152) :
    v1J12Begin p s = v1Now 0x30 stOk [] (modEng (engNo (byteAt p 0)) (imageBegun (at_ p 1 2)) (engResetTo (engNo (byteAt p 0)) .reset (imagesOver s))) :=
  if_neg (by simp [outside]; omega)

theorem imagesOver_stores {k : Fin 12} {s : State} (hs : (engOf s k).stores = []) : (engOf (imagesOver s) k).stores = [] := by
  rw [engOf_imagesOver]
  split <;> exact hs

section
variable {k : Fin 12} {n : Nat} {s r : State} (h : ImageKept (imagesOver s) r)
include h

theorem imageBegun_only : modEng k (imageBegun n) r = { s with eng := (modEng k (imageBegun n) r).eng, regs := (modEng k (imageBegun n) r).regs } := by
  have hr : r = { s with eng := r.eng, regs := r.regs } := h.only
  exact congrArg (fun u : State => { u with eng := (modEng k (imageBegun n) r).eng }) hr

theorem imageBegun_pmem : (engOf (modEng k (imageBegun n) r) k).pmem = (engOf s k).pmem := by
  rw [modEng, engOf_setEng]
  refine (h.pmem k).trans ?_
  rw [engOf_imagesOver]
  split <;> rfl

theorem imageBegun_engine (hk : k ∈ ([9, 10, 11] : List (Fin 12))) (hn : 0 < n) : j12Engine (modEng k (imageBegun n) r) = some k := by
  refine j12Engine_eq hk fun i hi => ?_
  by_cases hik : i = k
  · subst hik
    rw [modEng, engOf_setEng]
    exact iff_of_true (Nat.pos_iff_ne_zero.mp hn) rfl
  · have hz : (engOf (modEng k (imageBegun n) r) i).j12Words = 0 := by
      rw [modEng, engOf_setEng_ne hik, h.words, engOf_imagesOver, if_pos hi]
    simp [hz, hik]
end

/-- The program memory that J12_DATA leaves. -/
def wordsPut (p : Bytes) (n : Nat) (m : List (Nat × Half)) : List (Nat × Half) :=
  (List.range 4).foldl (fun m i => if at_ p 0 2 + i < n then kvSet (fun _ => 0) m (at_ p 0 2 + i) (BitVec.ofNat 16 (at_ p (2 + 2 * i) 2)) else m) m

theorem v1J12Data_puts {p : Bytes} {s : State} {j : Fin 12} (hj : j12Engine s = some j) (hst : (engOf s j).state = .reset ∨ (engOf s j).state = .loading)
    (ho : at_ p 0 2 < (engOf s j).j12Words) (hw : ∀ i < 4, at_ p (2 + 2 * i) 2 < 0x4000) :
    v1J12Data p s = v1Now 0x31 stOk [] (setEng j { (engOf s j) with pmem := wordsPut p (engOf s j).j12Words (engOf s j).pmem } s) := by
  have h1 : ¬ ((engOf s j).state ≠ .reset ∧ (engOf s j).state ≠ .loading) := fun ⟨ha, hb⟩ => hst.elim ha hb
  have h2 : ¬ ((engOf s j).j12Words ≤ at_ p 0 2 ∨ ((List.range 4).any fun i => decide (0x4000 ≤ at_ p (2 + 2 * i) 2)) = true) := by
    simp only [List.any_eq_true, List.mem_range, decide_eq_true_eq, not_or, not_exists, not_and, Nat.not_le]
    exact ⟨ho, hw⟩
  rw [v1J12Data, hj]
  exact (if_neg h1).trans (if_neg h2)

theorem kvGet_wordsPut (p : Bytes) (n : Nat) (m : List (Nat × Half)) (i : Nat) :
    kvGet (fun _ => 0) (wordsPut p n m) i = if at_ p 0 2 ≤ i ∧ i < at_ p 0 2 + 4 ∧ i < n then BitVec.ofNat 16 (at_ p (2 + 2 * (i - at_ p 0 2)) 2) else kvGet (fun _ => 0) m i := by
  have step : ∀ (m : List (Nat × Half)) (a : Nat) (v : Half), kvGet (fun _ => 0) (if a < n then kvSet (fun _ => 0) m a v else m) i = if i = a ∧ i < n then v else kvGet (fun _ => 0) m i := by
    intro m a v
    by_cases ha : a < n
    · rw [if_pos ha, kvGet_kvSet]
      by_cases hi : i = a
      · rw [if_pos hi, if_pos ⟨hi, hi ▸ ha⟩]
      · rw [if_neg hi, if_neg (fun h => hi h.1)]
    · rw [if_neg ha, if_neg (fun ⟨h1, h2⟩ => ha (h1 ▸ h2))]
  simp only [wordsPut, show List.range 4 = [0, 1, 2, 3] from rfl, List.foldl_cons, List.foldl_nil, step]
  by_cases hin : at_ p 0 2 ≤ i ∧ i < at_ p 0 2 + 4 ∧ i < n
  · obtain ⟨hlo, hhi, hn⟩ := hin
    obtain ⟨d, rfl⟩ := Nat.exists_eq_add_of_le hlo
    obtain rfl | rfl | rfl | rfl : d = 0 ∨ d = 1 ∨ d = 2 ∨ d = 3 := by omega
    all_goals simp [hn]
  · rw [if_neg hin, if_neg (by omega), if_neg (by omega), if_neg (by omega), if_neg (by omega)]

theorem v1J12Data_none {p : Bytes} {s : State} (hj : j12Engine s = none) : v1J12Data p s = v1Now 0x31 stDenied [] s := by
  rw [v1J12Data, hj]

theorem v1J12Data_running {p : Bytes} {s : State} {j : Fin 12} (hj : j12Engine s = some j) (h1 : (engOf s j).state ≠ .reset) (h2 : (engOf s j).state ≠ .loading) :
    v1J12Data p s = v1Now 0x31 stDenied [] s := by
  rw [v1J12Data, hj]
  exact if_pos ⟨h1, h2⟩

theorem v1J12End_none {p : Bytes} {s : State} (hj : j12Engine s = none) : v1J12End p s = v1Now 0x32 stDenied [] s := by
  rw [v1J12End, hj]

/-- The engine whose image J12_END found good, as it starts (R429). -/
def imageRuns (e : Engine) : Engine :=
  { (setMode12 true { e with j12Words := 0 }) with
    pmemValid := true, loadOk := true, loadSrc := 2, loadWords := ((List.range e.j12Words).flatMap fun i => le 2 (kvGet (fun _ => 0) e.pmem i).toNat).length / 2,
    loadUc := 0, autostart := none, state := .run, pc := 0x0010 }

/-- An engine in RESET with a verified image runs from 0x0010 (R424). -/
theorem engRun_begins (j : Fin 12) (s : State) {e : Engine} (h1 : e.state = .reset) (h2 : e.pmemValid = true) :
    engRun j (setEng j e s) = setEng j { e with state := .run, pc := 0x0010 } s := by
  rw [engRun, engOf_setEng, h1]
  refine (if_pos h2).trans ?_
  simp [setEng]

theorem v1J12End_runs {p : Bytes} {s : State} {j : Fin 12} (hj : j12Engine s = some j) (hst : (engOf s j).state = .reset)
    (hc : crc32c ((List.range (engOf s j).j12Words).flatMap fun i => le 2 (kvGet (fun _ => 0) (engOf s j).pmem i).toNat) = word (at_ p 0 4)) :
    v1J12End p s = v1Now 0x32 stOk [] (setEng j (imageRuns (engOf s j)) s) := by
  rw [v1J12End, hj]
  exact (if_neg (not_not.mpr hc)).trans (congrArg (v1Now 0x32 stOk []) (engRun_begins j s hst rfl))

/-! ### MBX_WRITE (R396, R421) -/

/-- The engine after a message of the host joined its inbound queue. -/
def mailed (m : Message) (e : Engine) : Engine :=
  if e.inbox.isEmpty then wakeEng { e with inbox := e.inbox ++ [m], evtPend := setBit e.evtPend 0 } else { e with inbox := e.inbox ++ [m] }

theorem wakeEng_mail (e : Engine) : (wakeEng e).inbox = e.inbox ∧ (wakeEng e).evtPend = e.evtPend := by
  unfold wakeEng
  split
  · split <;> exact ⟨rfl, rfl⟩
  · exact ⟨rfl, rfl⟩

theorem mailed_inbox (m : Message) (e : Engine) : (mailed m e).inbox = e.inbox ++ [m] := by
  unfold mailed
  split
  · exact (wakeEng_mail _).1
  · rfl

theorem mailed_line {m : Message} {e : Engine} (h : e.inbox = []) : wbit (mailed m e).evtPend 0 = true := by
  rw [mailed, if_pos (by rw [h]; rfl), (wakeEng_mail _).2]
  simp [wbit, setBit, word]

theorem modEng_setEng (k : Fin 12) (f : Engine → Engine) (e : Engine) (s : State) : modEng k f (setEng k e s) = setEng k (f e) s := by
  rw [modEng, engOf_setEng]
  simp [setEng]

theorem mboxPost_oem {d : Nat} (hd : 9 ≤ d ∧ d ≤ 11) {data : Bytes} (hne : data.isEmpty = false) (s : State) :
    mboxPost 12 d data s = if 4 ≤ (engOf s (engNo d)).inbox.length then (2, s) else (1, setEng (engNo d) (mailed { src := 12, data := data } (engOf s (engNo d))) s) := by
  have h1 : ¬ (data.isEmpty = true) := by rw [hne]; decide
  have h2 : ¬ (9 ≤ 12 ∧ 12 ≤ 11 ∧ (!([0, 9, 10, 11, 12].contains d)) = true) := by omega
  rw [mboxPost, if_neg h1, if_neg h2, if_neg (by omega)]
  refine if_congr Iff.rfl rfl ?_
  unfold mailed
  cases (engOf s (engNo d)).inbox.isEmpty
  · rfl
  · exact congrArg (Prod.mk 1) (modEng_setEng _ (fun e => wakeEng { e with evtPend := setBit e.evtPend 0 }) _ _)

theorem slice_nonempty {p : Bytes} (h : 9 ≤ p.length) : (slice p 1 8).isEmpty = false := by
  have hl : (slice p 1 8).length = 8 := by simp [slice]; omega
  cases hs : slice p 1 8 with
  | nil => rw [hs] at hl; exact absurd hl (by decide)
  | cons => rfl

theorem v1MbxWrite_oem {p : Bytes} (hp : 9 ≤ byteAt p 0 ∧ byteAt p 0 ≤ 11) (hl : 9 ≤ p.length) (s : State) :
    v1MbxWrite p s = if 4 ≤ (engOf s (engNo (byteAt p 0))).inbox.length then v1Now 0x38 stBusyRetry [] s
      else v1Now 0x38 stOk [] (setEng (engNo (byteAt p 0)) (mailed { src := 12, data := slice p 1 8 } (engOf s (engNo (byteAt p 0)))) s) := by
  rw [v1MbxWrite, if_neg (by simp [outside]; omega), mboxPost_oem hp (slice_nonempty hl)]
  split <;> rfl

/-! ### A transaction that takes nothing -/

/-- While a command is in progress the transaction shows it and takes nothing (R360). -/
theorem act_v1_busy {op c : Byte} {f : V1Frame} {s : State} (hup : v1Up s = true) (hn : s.power.state = .noon) (he : s.link.e0Restart = false) (hi : s.LinkInv)
    (hw : s.link.v1Wait = none) (hb : s.link.v1Busy = some op) :
    ∃ t, act (v1Transaction c f) s = .next t ∧ t.link.miso = [stInProgress, op] ++ zeros 10 ∧ t.link.v1Reply = s.link.v1Reply ∧ V1Leaves s t := by
  obtain ⟨hq, hx⟩ := act_v1 (f := v1Transaction c f) ((v1Transaction_noon hup hn he (v1Shown_busy hw hb)).trans (if_pos rfl)) hi ⟨rfl, rfl, rfl, rfl⟩ rfl
  exact ⟨_, hx, rfl, rfl, rfl⟩

/-- The consumption of the reply of SOFT_RESET asks for the reset (R361). -/
theorem act_v1_softReset {c : Byte} {f : V1Frame} {s : State} (hup : v1Up s = true) (hn : s.power.state = .noon) (he : s.link.e0Restart = false) (hi : s.LinkInv)
    (hw : s.link.v1Wait = none) (hb : s.link.v1Busy = none) (hr : s.link.v1Reply = some ([0x00, 0x03] ++ zeros 10)) :
    ∃ t, act (v1Transaction c f) s = .next t ∧ t.link.miso = [0x00, 0x03] ++ zeros 10 ∧ t.link.v1Reply = none ∧ t.link.afterReply = some (.reset, none) ∧ t.regs = s.regs := by
  have hshow : v1Shown s = ([0x00, 0x03] ++ zeros 10, true) := by rw [v1Shown_free hw hb, v1Shows, hr]; rfl
  obtain ⟨hq, hx⟩ := act_v1 (f := v1Transaction c f) ((v1Transaction_noon hup hn he hshow).trans ((if_neg (by decide)).trans (if_pos (by decide)))) hi ⟨rfl, rfl, rfl, rfl⟩ rfl
  exact ⟨_, hx, rfl, rfl, rfl, rfl⟩

end Sys2Proof.Machine
end

section
/-! Version 1 commands whose reply comes later (R360, R362, R25, R109). -/
namespace Sys2Proof.Machine

/-- A body has begun work that answers version 1 later, with what decides the end of the command as it met it. -/
structure V1Started (op : Byte) (s y : State) : Prop where
  link    : y.link = { v1Link s with v1Busy := some op }
  cfg     : regGet y 0x40010000 = regGet s 0x40010000
  reads   : y.fer.reads = s.fer.reads
  pending : y.pending = s.pending

/-- A version 1 command whose body, as it meets the state, begins its work. -/
theorem v1Pends_of_body {mk : V1Frame → Instr} {op : Byte} {cond : Bytes → State → Prop} {post : Bytes → State → State → Prop}
    (hmk : ∀ f s, exec (mk f) s = act (v1Transaction op f) s) (hk : v1Known.contains op.toNat = true)
    (hbody : ∀ p s, V1Takes s → cond p s → V1Started op s (v1Body op.toNat p (atBody (v1Link s) s)) ∧
      ∀ hq, post p s { (v1Body op.toNat p (atBody (v1Link s) s)) with link := { (v1Body op.toNat p (atBody (v1Link s) s)).link with hirq := hq } }) :
    V1Pends mk op cond post := by
  intro f s h hpass hc
  obtain ⟨k, hpost⟩ := hbody f.p s h hc
  have hrun := (v1Transaction_takes (op := op) (f := f) h).trans (v1Run_passes hk hpass _)
  obtain ⟨hq, hx⟩ := act_v1 (f := v1Transaction op f) hrun h.inv ⟨by rw [k.link]; rfl, by rw [k.link]; rfl, k.cfg, k.reads⟩ k.pending
  exact ⟨_, (hmk f s).trans hx, by rw [k.link]; rfl, by rw [k.link]; rfl, by rw [k.link], hpost hq⟩

/-- The state that a body which begins work meets: the reply that waited consumed, the command in progress. -/
def v1Begun (op : Byte) (s : State) : State := atBody { v1Link s with v1Busy := some op } s

/-! ### EE_WRITE (R305, R362) -/

/-- Nothing stops where every commit of the queue has its key. -/
theorem stopUnsealed_sealed {n : Nat} {s : State} (h : ∀ c ∈ s.fer.commits, c.unsealed s = false) : stopUnsealed n s = s := by
  cases n with
  | zero => rfl
  | succ n =>
    rw [stopUnsealed]
    split
    · rfl
    · next c l hl => rw [if_neg (by rw [h c (by rw [hl]; exact List.mem_cons_self ..)]; decide)]

/-- The pages of a write join the queue, whether or not one begins at once. -/
theorem startWrite_joins {kind : CommitKind} {addr : Nat} {data : Bytes} {s : State} (h : (pageCommits kind addr data).all (fun c => !c.unsealed s) = true) :
    startWrite kind addr data s = { s with fer := { s.fer with commits := s.fer.commits ++ pageCommits kind addr data } } := by
  rw [startWrite]
  split
  · next he =>
    refine stopUnsealed_sealed fun c hc => ?_
    rw [List.isEmpty_iff.mp he] at hc
    have hs := List.all_eq_true.mp h c (by simpa using hc)
    rw [Bool.not_eq_true'] at hs
    exact hs
  · rfl

theorem v1EeWrite_begins {p : Bytes} {s : State} (hr : eeRange p = true) (hn : 0 < byteAt p 2)
    (ho : regionRefusal true (eeBase s + at_ p 0 2) (byteAt p 2) s = none)
    (hs : (pageCommits .legacy (eeBase s + at_ p 0 2) (slice p 3 (byteAt p 2))).all (fun c => !c.unsealed s) = true) :
    v1EeWrite p (atBody (v1Link s) s) =
      { v1Begun 0x11 s with fer := { s.fer with commits := s.fer.commits ++ pageCommits .legacy (eeBase s + at_ p 0 2) (slice p 3 (byteAt p 2)) } } := by
  have ho' : regionRefusal true (eeBase (atBody (v1Link s) s) + at_ p 0 2) (byteAt p 2) (atBody (v1Link s) s) = none := (regionRefusal_atBody _ s _ _ _).trans ho
  simp only [v1EeWrite, hr, Bool.not_true, Bool.false_eq_true, if_false, Nat.pos_iff_ne_zero.mp hn, ho']
  exact startWrite_joins (s := v1Begun 0x11 s) hs

/-! ### T2_POLL (R25, R44) -/

/-- A trigger in Noon with a decision running merges into it or joins the queue (R25). -/
theorem trigger_running {t : Trigger} {d : Decision} {s : State} (hn : s.power.state = .noon) (hr : s.cfg.role = .tractor) (hd : s.acc.decision = some d) :
    trigger t s = if (trigClass t.kind).isSome ∧ trigClass t.kind = trigClass d.trig.kind
      then mergeTrigger t { s with power := { s.power with duskDue := false } } else queueTrigger t { s with power := { s.power with duskDue := false } } := by
  have hx : exitDusk { s with power := { s.power with duskDue := false } } = { s with power := { s.power with duskDue := false } } := if_neg (by simp [hn])
  have hrole : ¬ ((decide (roleOf { s with power := { s.power with duskDue := false } } = .none) && !quietTrigger t) = true) := by
    rw [show roleOf { s with power := { s.power with duskDue := false } } = .tractor from hr]
    simp
  rw [trigger, hx]
  refine (if_neg hrole).trans ?_
  dsimp only
  rw [hd]

/-- The trigger of a T2_POLL. -/
def pollTrigger (p : Bytes) (s : State) : Trigger :=
  { kind := .decide, sought := if byteAt p 0 = 3 then .start else .door, door := none, t0 := s.power.clkUs, works := [], v1 := true, grant := none }

theorem v1T2Poll_triggers {p : Bytes} {s : State} (hp : byteAt p 0 = 2 ∨ byteAt p 0 = 3) (hr : s.cfg.role = .tractor) :
    v1T2Poll p (atBody (v1Link s) s) = trigger (pollTrigger p s) (v1Begun 0x18 s) := by
  have hrole : ¬ (roleOf (atBody (v1Link s) s) = .trailer) := by
    rw [show roleOf (atBody (v1Link s) s) = .tractor from hr]
    decide
  rw [v1T2Poll, if_neg (by simp [hp]), if_neg hrole]
  rfl

theorem v1T2Poll_trailer {p : Bytes} {s : State} (hp : byteAt p 0 = 2 ∨ byteAt p 0 = 3) (hr : s.cfg.role = .trailer) : v1T2Poll p s = v1Now 0x18 stDenied [] s := by
  have hrole : roleOf s = .trailer := hr
  rw [v1T2Poll, if_neg (by simp [hp]), if_pos hrole]

theorem v1T2Poll_merges {p : Bytes} {s : State} {d : Decision} (hp : byteAt p 0 = 2 ∨ byteAt p 0 = 3) (hn : s.power.state = .noon) (hr : s.cfg.role = .tractor)
    (hd : s.acc.decision = some d) (hc : trigClass d.trig.kind = some 1) :
    v1T2Poll p (atBody (v1Link s) s) = { v1Begun 0x18 s with acc := { s.acc with decision := some { d with trig := { d.trig with v1 := true } } } } := by
  rw [v1T2Poll_triggers hp hr, trigger_running (s := v1Begun 0x18 s) hn hr hd, if_pos ⟨rfl, hc.symm⟩]
  have hm : s.acc.decision.map (fun d => { d with trig := { d.trig with works := d.trig.works ++ (pollTrigger p s).works, v1 := d.trig.v1 || (pollTrigger p s).v1 } }) =
      some { d with trig := { d.trig with v1 := true } } := by
    rw [hd]
    simp [pollTrigger]
  exact congrArg (fun x => { v1Begun 0x18 s with acc := { s.acc with decision := x } }) hm

theorem v1T2Poll_queues {p : Bytes} {s : State} {d : Decision} (hp : byteAt p 0 = 2 ∨ byteAt p 0 = 3) (hn : s.power.state = .noon) (hr : s.cfg.role = .tractor)
    (hd : s.acc.decision = some d) (hc : trigClass d.trig.kind ≠ some 1) (hl : s.acc.triggers.length < 4) (hw : s.acc.waiting = []) :
    v1T2Poll p (atBody (v1Link s) s) = { v1Begun 0x18 s with acc := { s.acc with triggers := s.acc.triggers ++ [pollTrigger p s] } } := by
  rw [v1T2Poll_triggers hp hr, trigger_running (s := v1Begun 0x18 s) hn hr hd, if_neg fun h => hc h.2.symm]
  exact if_pos ⟨hl, hw⟩

/-! ### LF_TEST (R109, R113) -/

/-- The words of a test telegram. -/
def v1TestWords (p : Bytes) (s : State) : List Word := testWords s (byteAt p 0) (byteAt p 1) (testSync s) (byteAt p 2) (p.drop 3)

/-- A test telegram waits while one is on the air or has its grant. -/
theorem v1LfTest_waits {p : Bytes} {s : State} (h1 : byteAt p 1 ≤ 1) (h2 : byteAt p 2 ≤ 64) (hb : s.lf.telegram.isSome = true ∨ s.lf.grant.isSome = true) :
    ∃ r, r.cls = 5 ∧ r.words = v1TestWords p s ∧ r.due = s.power.clkUs ∧ v1LfTest p (atBody (v1Link s) s) = { v1Begun 0x28 s with
      lf := { s.lf with
        tests := s.lf.tests ++ [{ work := none, loose := none, entries := v1TestWords p s, learn := false, started := false, result := none }]
        waiting := s.lf.waiting ++ [r] } } :=
  ⟨{ cls := 5, estimate := _, due := s.power.clkUs, limit := 0, words := v1TestWords p s, plan := none, retest := none }, rfl, rfl, rfl,
    (if_neg (by omega)).trans (if_pos (by rw [Bool.or_eq_true]; exact hb))⟩

end Sys2Proof.Machine
end

section
/-! Version 1 commands that change the S1 records: a record, its CONFIG item and an event for the host (R230, R238, R299, R353, R400). -/
namespace Sys2Proof.Machine

/-! ### A command that tells the host of an event -/

/-- What the end of a command leaves as a body made it, the events that it queued sent. -/
structure Done (y t : State) : Prop where
  regs : t.regs = y.regs
  sns  : t.sns = y.sns
  acc  : t.acc = y.acc
  ks   : t.ks = y.ks
  jrn  : t.jrn = y.jrn
  fer  : t.fer = y.fer

/-- A version 1 command whose body, after what it changed, tells of an event and answers now. -/
theorem version1_of_told {mk : V1Frame → Instr} {op : Byte} {cond : Bytes → State → Prop} {st : Byte} {ans : Bytes → State → Bytes} {post : Bytes → State → State → Prop}
    (hmk : ∀ f s, exec (mk f) s = act (v1Transaction op f) s) (hk : v1Known.contains op.toNat = true)
    (hbody : ∀ p s, V1Takes s → cond p s → ∃ u y, v1Body op.toNat p (atBody (v1Link s) s) = v1Now op.toNat st (ans p s) y ∧ V1Kept s u ∧ Told u y ∧
      regGet y 0x40010000 = regGet u 0x40010000 ∧ ∀ t, Done y t → post p s t) :
    Version1 mk op cond st ans post := by
  intro f s h hpass hc
  obtain ⟨u, y, hb, k, htold, hcfg, hpost⟩ := hbody f.p s h hc
  have hrun := (v1Transaction_takes h).trans ((v1Run_passes hk hpass _).trans hb)
  obtain ⟨t, hx, hend⟩ := act_concluded (v1Transaction op f) s
  have hset : t = { settle (v1Transaction op f (fresh s)) with pending := s.pending } := (Host.Outcome.next.inj hx).symm
  rw [hrun] at hset hend
  obtain ⟨-, hord, hsent, hreads⟩ := h.inv
  have h0 : y.link.hcs0.opn = s.link.hcs0.opn := by rw [htold.rest, k.link]; rfl
  have h1 : y.link.uart.opn = s.link.uart.opn := by rw [htold.rest, k.link]; rfl
  have hfer : y.fer.reads = [] := by rw [htold.rest]; exact k.reads.trans hreads
  have ho : (v1Now op.toNat st (ans f.p s) y).ordered = true := by rw [ordered_iff] at hord ⊢; rwa [← h0, ← h1] at hord
  have hq : regBit (v1Now op.toNat st (ans f.p s) y) 0x40010000 1 = true → ∀ o ∈ (v1Now op.toNat st (ans f.p s) y).link.uart.outq, o.slot.isSome = true ∨ o.code ≠ 1 := by
    intro hon o ho
    have hon' : regBit s 0x40010000 1 = true := by
      have e : regGet y 0x40010000 = regGet s 0x40010000 := hcfg.trans k.cfg
      rw [regBit, ← e]
      exact hon
    refine (htold.queued o ho).elim (fun hu => ?_) fun h => .inr h.2
    rw [State.uartSent, hon'] at hsent
    rw [k.link] at hu
    simp [v1Link, List.isEmpty_iff.mp (by simpa using hsent)] at hu
  have hlink := hend.rest
  refine ⟨t, (hmk f s).trans hx, ?_, ?_, hpost t ⟨hend.regs, hend.sns, hend.acc, by rw [hlink]; rfl, ?_, ?_⟩⟩
  · rw [hlink]
    show y.link.miso = _
    rw [htold.rest, k.link]
    rfl
  · rw [hlink]
    exact congrArg (fun x => some ([st, x] ++ fit 10 (ans f.p s))) (byte_toNat op)
  · rw [hset]
    exact settle_jrn ho hq
  · have hr : t.fer.reads = y.fer.reads := by rw [hset, hfer]; rfl
    rw [hlink, hr]
    rfl

/-! ### The records (R230, R238) -/

/-- A CONFIG item committed while no read-back waits: its copies, and the count of commits. -/
theorem configCommit_clean {s : State} (h : s.fer.reads = []) (i : Nat) :
    configCommit i s = regInc 0x4009000C 32 { s with fer := { s.fer with config := metaPut ((metaIn s.fer.config i).commit { a := 0, b := 0 }) s.fer.config } } := by
  have hc : Clean s := fun rb hrb => by rw [h] at hrb; cases hrb
  simp only [configCommit, hc.commit, commitTell_right]
  simp only [takeRead, h, List.tail_nil]

/-- Registers that a change of the S1 records touches. -/
def recordRegs : List Nat := [0x40070108, 0x4009000C, 0x40010008, 0x40010038]

/-- The S1 records changed, the item of one is committed and the host told (R255, R299). -/
def recordChanged (i : Nat) (s : State) : State := snsEvent 128 none (configCommit (sensorItem i) s)

theorem raise_others (a bits : Nat) (s : State) : RegsBut [a] s (raise a bits s) := by
  intro b hb
  obtain ⟨e, he⟩ := raise_eng a bits s
  rw [he]
  exact regGet_regSet_ne (by simpa using hb) _ s

theorem recordChanged_told (i : Nat) (s : State) : Told (configCommit (sensorItem i) s) (recordChanged i s) :=
  (Told.of_hostEvent (code := 0x21) (by decide) _ _).after (.of_raise _ _ _)

section
variable {i : Nat} {s : State} (h : s.fer.reads = [])
include h

theorem recordChanged_regs : RegsBut recordRegs s (recordChanged i s) := by
  intro a ha
  simp only [recordRegs, List.mem_cons, List.not_mem_nil, or_false, not_or] at ha
  obtain ⟨h1, h2, h3, h4⟩ := ha
  rw [recordChanged, snsEvent, hostEvent_regs _ _ _ a (by simp [lostRegs, h3, h4]), raise_others _ _ _ a (by simpa using h1), configCommit_clean h]
  exact regInc_others _ _ _ a (by simpa using h2)

theorem recordChanged_calm (hb : regBit s 0x40070100 0 = false) : rosterChanged (recordChanged i s) = recordChanged i s := by
  have hb' : regBit (recordChanged i s) 0x40070100 0 = false := by
    rw [regBit, recordChanged_regs h _ (by decide)]
    exact hb
  rw [rosterChanged, hb']
  rfl

theorem recordChanged_rest : (recordChanged i s).sns = s.sns ∧ (recordChanged i s).acc = s.acc ∧ (recordChanged i s).ks = s.ks ∧ (recordChanged i s).jrn = s.jrn ∧
    (recordChanged i s).fer = { s.fer with config := metaPut ((metaIn s.fer.config (sensorItem i)).commit { a := 0, b := 0 }) s.fer.config } := by
  have ht := (recordChanged_told i s).rest
  rw [configCommit_clean h] at ht
  rw [ht]
  exact ⟨rfl, rfl, rfl, rfl, rfl⟩
end

/-- The records as S1_ADD leaves them. -/
theorem v1S1Add_adds {p : Bytes} {s : State} {i : Nat} (hp : byteAt p 4 = 1 ∨ byteAt p 4 = 2) (hid : snsById s (at_ p 0 4) true = none) (hf : freeRecord s = some i) :
    v1S1Add p s = v1Now 0x22 stOk [byte i]
      (rosterChanged (recordChanged i (putSensor { newSensor i .own false 1 (byteAt p 4) (word (at_ p 0 4)) with nominal := at_ p 5 2 } s))) := by
  rw [v1S1Add, if_neg (by simp [hp]), hid, hf]
  rfl

theorem v1S1Remove_removes {p : Bytes} {s : State} {x : Sensor} (hp : byteAt p 0 ≤ 127) (hx : snsOf s (byteAt p 0) = some x) (h2 : x.s2 = false) (hs : x.state ≠ .partner) :
    v1S1Remove p s = v1Now 0x23 stOk [] (rosterChanged (recordChanged (byteAt p 0) (dropSensor (byteAt p 0) s))) := by
  rw [v1S1Remove, if_neg (by omega), hx]
  exact if_neg (by simp [h2, hs])

/-- A record without a key leaves the sensing state and its history. -/
theorem dropSensor_s1 {s : State} {r : Nat} {x : Sensor} (hx : snsOf s r = some x) (h2 : x.s2 = false) :
    ∃ m, dropSensor r s = { modSensing (withoutRecord r) s with sram := m } := by
  rw [dropSensor, hx]
  exact ⟨_, if_neg (by simp [h2])⟩

end Sys2Proof.Machine
end

section
/-! The clauses of version 1's writes, one lemma for each kind (R360, R361, R362, R400, R429). -/
namespace Sys2Proof.Machine

/-- A body that answers now with what an effect on engines or registers leaves. -/
theorem V1Kept.of_only {s y : State} (h : y = { atBody (v1Link s) s with eng := y.eng, regs := y.regs }) (hc : regGet y 0x40010000 = regGet s 0x40010000) : V1Kept s y := by
  refine ⟨?_, hc, ?_, ?_, ?_⟩ <;> rw [h] <;> rfl

theorem version1_regWrite : Version1 .v1RegWrite 0x09 (fun p s => at_ p 0 4 = 0x400B0074 ∧ hostValue s 0x400B0074 (word (at_ p 4 4)) = none) stOk (fun _ _ => [])
    (fun p s t => V1Leaves { s with regs := t.regs } t ∧ regGet t 0x400B0074 = regGet (regStore 0x400B0074 (word (at_ p 4 4)) s) 0x400B0074 ∧ RegsBut [0x400B0074] s t) := by
  refine version1_of_body (fun _ _ => rfl) (by decide) fun p s _ ⟨ha, hv⟩ => ?_
  have hst := regStore_regs 0x400B0074 (word (at_ p 4 4)) (atBody (v1Link s) s)
  have hoth := regStore_others 0x400B0074 (word (at_ p 4 4)) (atBody (v1Link s) s)
  refine ⟨_, v1RegWrite_capture (s := atBody (v1Link s) s) ha hv, .of_only (by rw [hst]) (hoth _ (by decide)), fun t ht => ⟨?_, ?_, fun a hm => ?_⟩⟩
  · have hs : V1Leaves { s with regs := t.regs } (regStore 0x400B0074 (word (at_ p 4 4)) (atBody (v1Link s) s)) := by
      rw [ht.regs, hst]
      rfl
    exact hs.trans ht
  · exact regGet_congr (ht.regs.trans (regStore_congr rfl _ _)) _
  · exact (regGet_congr ht.regs a).trans (hoth a hm)

theorem version1_j12Begin : Version1 .j12Begin 0x30
    (fun p s => (9 ≤ byteAt p 0 ∧ byteAt p 0 ≤ 11) ∧ 0 < at_ p 1 2 ∧ at_ p 1 2 ≤ 49152 ∧ (engOf s (engNo (byteAt p 0))).stores = []) stOk (fun _ _ => [])
    (fun p s t => V1Leaves { s with eng := t.eng, regs := t.regs } t ∧ (engOf t (engNo (byteAt p 0))).state = .reset ∧ (engOf t (engNo (byteAt p 0))).pmemValid = false ∧
      (engOf t (engNo (byteAt p 0))).j12Words = at_ p 1 2 ∧ (engOf t (engNo (byteAt p 0))).pmem = (engOf s (engNo (byteAt p 0))).pmem ∧
      j12Engine t = some (engNo (byteAt p 0))) := by
  refine version1_of_body (fun _ _ => rfl) (by decide) fun p s _ ⟨hp, h0, h1, hst⟩ => ?_
  have h := engResetTo_imageKept (imagesOver_stores (s := atBody (v1Link s) s) hst) .reset
  have hb := v1J12Begin_begins (s := atBody (v1Link s) s) hp h0 h1
  generalize engResetTo (engNo (byteAt p 0)) .reset (imagesOver (atBody (v1Link s) s)) = r at h hb
  have honly := imageBegun_only (n := at_ p 1 2) (k := engNo (byteAt p 0)) h
  have hpm := imageBegun_pmem (n := at_ p 1 2) (k := engNo (byteAt p 0)) h
  have hj := imageBegun_engine h (engNo_oem hp) h0
  have he : engOf (modEng (engNo (byteAt p 0)) (imageBegun (at_ p 1 2)) r) (engNo (byteAt p 0)) = imageBegun (at_ p 1 2) (engOf r (engNo (byteAt p 0))) := engOf_setEng _ _ _
  refine ⟨_, hb, .of_only honly h.cfg, fun t ht => ⟨v1Leaves_engRegs honly ht, ?_, ?_, ?_, ?_, ?_⟩⟩
  · rw [ht.engOf, he]
    rfl
  · rw [ht.engOf, he]
    rfl
  · rw [ht.engOf, he]
    rfl
  · rw [ht.engOf]
    exact hpm
  · rw [← hj]
    simp only [j12Engine, ht.engOf]

theorem version1_j12Data (j : Fin 12) : Version1 .j12Data 0x31 (fun p s => j12Engine s = some j ∧ ((engOf s j).state = .reset ∨ (engOf s j).state = .loading) ∧
      at_ p 0 2 < (engOf s j).j12Words ∧ ∀ i < 4, at_ p (2 + 2 * i) 2 < 0x4000) stOk (fun _ _ => [])
    (fun p s t => V1Leaves { s with eng := s.eng.set j { (engOf s j) with pmem := (engOf t j).pmem } } t ∧
      ∀ i, kvGet (fun _ => 0) (engOf t j).pmem i = if at_ p 0 2 ≤ i ∧ i < at_ p 0 2 + 4 ∧ i < (engOf s j).j12Words then BitVec.ofNat 16 (at_ p (2 + 2 * (i - at_ p 0 2)) 2)
        else kvGet (fun _ => 0) (engOf s j).pmem i) := by
  refine version1_of_body (fun _ _ => rfl) (by decide) fun p s _ ⟨hj, hst, ho, hw⟩ => ?_
  refine ⟨_, v1J12Data_puts (s := atBody (v1Link s) s) hj hst ho hw, (V1Kept.refl s).setEng _ _, fun t ht => ?_⟩
  have he : (engOf t j).pmem = wordsPut p (engOf s j).j12Words (engOf s j).pmem := by
    rw [ht.engOf, engOf_setEng]
    rfl
  refine ⟨?_, fun i => by rw [he, kvGet_wordsPut]⟩
  rw [he]
  have hs : V1Leaves { s with eng := s.eng.set j { (engOf s j) with pmem := wordsPut p (engOf s j).j12Words (engOf s j).pmem } }
      (setEng j { (engOf s j) with pmem := wordsPut p (engOf s j).j12Words (engOf s j).pmem } (atBody (v1Link s) s)) := rfl
  exact hs.trans ht

theorem version1_j12End (j : Fin 12) : Version1 .j12End 0x32 (fun p s => j12Engine s = some j ∧ (engOf s j).state = .reset ∧
      crc32c ((List.range (engOf s j).j12Words).flatMap fun i => le 2 (kvGet (fun _ => 0) (engOf s j).pmem i).toNat) = word (at_ p 0 4)) stOk (fun _ _ => [])
    (fun _ s t => V1Leaves { s with eng := t.eng } t ∧ (engOf t j).state = .run ∧ (engOf t j).pc = 0x0010 ∧ (engOf t j).mode12 = true ∧ (engOf t j).pmemValid = true ∧
      (engOf t j).autostart = none ∧ (engOf t j).j12Words = 0 ∧ (engOf t j).pmem = (engOf s j).pmem ∧ ∀ i, i ≠ j → engOf t i = engOf s i) := by
  refine version1_of_body (fun _ _ => rfl) (by decide) fun p s _ ⟨hj, hst, hc⟩ => ?_
  refine ⟨_, v1J12End_runs (s := atBody (v1Link s) s) hj hst hc, (V1Kept.refl s).setEng _ _, fun t ht => ?_⟩
  have he : engOf t j = imageRuns (engOf s j) := (ht.engOf j).trans (engOf_setEng _ _ _)
  rw [he]
  exact ⟨v1Leaves_eng rfl ht, rfl, rfl, rfl, rfl, rfl, rfl, rfl, fun i hi => (ht.engOf i).trans (engOf_setEng_ne hi _ _)⟩

theorem version1_mbxWrite : Version1 .v1MbxWrite 0x38 (fun p s => (9 ≤ byteAt p 0 ∧ byteAt p 0 ≤ 11) ∧ (engOf s (engNo (byteAt p 0))).inbox.length < 4 ∧ 9 ≤ p.length) stOk (fun _ _ => [])
    (fun p s t => V1Leaves { s with eng := t.eng } t ∧
      (engOf t (engNo (byteAt p 0))).inbox = (engOf s (engNo (byteAt p 0))).inbox ++ [{ src := 12, data := slice p 1 8 }] ∧
      ((engOf s (engNo (byteAt p 0))).inbox = [] → wbit (engOf t (engNo (byteAt p 0))).evtPend 0 = true) ∧ ∀ i, i ≠ engNo (byteAt p 0) → engOf t i = engOf s i) := by
  refine version1_of_body (fun _ _ => rfl) (by decide) fun p s _ ⟨hp, hl, hlen⟩ => ?_
  refine ⟨_, (v1MbxWrite_oem hp hlen (atBody (v1Link s) s)).trans (if_neg (Nat.not_le.mpr hl)), (V1Kept.refl s).setEng _ _, fun t ht => ?_⟩
  have he : engOf t (engNo (byteAt p 0)) = mailed { src := 12, data := slice p 1 8 } (engOf s (engNo (byteAt p 0))) := (ht.engOf _).trans (engOf_setEng _ _ _)
  rw [he]
  exact ⟨v1Leaves_eng rfl ht, mailed_inbox _ _, mailed_line, fun i hi => (ht.engOf i).trans (engOf_setEng_ne hi _ _)⟩

theorem version1_s1Add (i : Nat) : Version1 .s1Add 0x22
    (fun p s => (byteAt p 4 = 1 ∨ byteAt p 4 = 2) ∧ snsById s (at_ p 0 4) true = none ∧ freeRecord s = some i ∧ regBit s 0x40070100 0 = false) stOk (fun _ _ => [byte i])
    (fun p s t => t.sns = (putSensor { newSensor i .own false 1 (byteAt p 4) (word (at_ p 0 4)) with nominal := at_ p 5 2 } s).sns ∧
      regBit t 0x40070108 7 = true ∧ t.acc = s.acc ∧ t.fer = { s.fer with config := t.fer.config } ∧
      (∀ n, n ≠ sensorItem i → metaIn t.fer.config n = metaIn s.fer.config n) ∧ t.jrn = s.jrn ∧ t.ks = s.ks ∧ RegsBut recordRegs s t) := by
  refine version1_of_told (fun _ _ => rfl) (by decide) fun p s h ⟨hp, hid, hf, hb⟩ => ?_
  obtain ⟨-, -, -, hreads⟩ := h.inv
  generalize hx : { newSensor i .own false 1 (byteAt p 4) (word (at_ p 0 4)) with nominal := at_ p 5 2 } = x
  have hbody := v1S1Add_adds (s := atBody (v1Link s) s) hp hid hf
  rw [hx] at hbody
  have hr : (putSensor x (atBody (v1Link s) s)).fer.reads = [] := hreads
  rw [recordChanged_calm hr hb] at hbody
  obtain ⟨hsns, hacc, hks, hjrn, hfer⟩ := recordChanged_rest hr (i := i)
  refine ⟨_, _, hbody, ?_, recordChanged_told i _, ?_, fun t ht => ⟨ht.sns.trans hsns, ?_, ht.acc.trans hacc, ?_, fun n hn => ?_, ht.jrn.trans hjrn, ht.ks.trans hks, fun a ha => ?_⟩⟩
  · rw [configCommit_clean hr]
    exact ⟨rfl, regGet_regSet_ne (by decide) _ _, rfl, rfl, rfl⟩
  · rw [recordChanged_regs hr _ (by decide), configCommit_clean hr]
    exact (regGet_regSet_ne (by decide) _ _).symm
  · rw [regBit, regGet_congr ht.regs]
    exact regBit_snsEvent (by decide) _ _
  · rw [ht.fer, hfer]
    rfl
  · rw [ht.fer, hfer]
    refine (metaIn_metaPut _ _ n).trans ?_
    rw [commit_page, metaIn_page, if_neg hn]
    rfl
  · exact (regGet_congr ht.regs a).trans (recordChanged_regs hr a ha)

theorem version1_s1Remove (x : Sensor) : Version1 .s1Remove 0x23
    (fun p s => byteAt p 0 ≤ 127 ∧ snsOf s (byteAt p 0) = some x ∧ x.s2 = false ∧ x.state ≠ .partner ∧ regBit s 0x40070100 0 = false) stOk (fun _ _ => [])
    (fun p s t => snsOf t (byteAt p 0) = none ∧ (∀ r, r ≠ byteAt p 0 → snsOf t r = snsOf s r) ∧ regBit t 0x40070108 7 = true ∧ t.acc = s.acc ∧ t.jrn = s.jrn) := by
  refine version1_of_told (fun _ _ => rfl) (by decide) fun p s h ⟨hp, hx, h2, hst, hb⟩ => ?_
  obtain ⟨-, -, -, hreads⟩ := h.inv
  obtain ⟨m, hdrop⟩ := dropSensor_s1 (s := atBody (v1Link s) s) hx h2
  have hbody := v1S1Remove_removes (s := atBody (v1Link s) s) hp hx h2 hst
  rw [hdrop] at hbody
  generalize hu : ({ modSensing (withoutRecord (byteAt p 0)) (atBody (v1Link s) s) with sram := m } : State) = u at hbody
  have hr : u.fer.reads = [] := by rw [← hu]; exact hreads
  have hb' : regBit u 0x40070100 0 = false := by rw [← hu]; exact hb
  rw [recordChanged_calm hr hb'] at hbody
  obtain ⟨hsns, hacc, -, hjrn, -⟩ := recordChanged_rest hr (i := byteAt p 0)
  have hof : ∀ t, Done (recordChanged (byteAt p 0) u) t → ∀ r, snsOf t r = if r = byteAt p 0 then none else snsOf s r := by
    intro t ht r
    have hs : t.sns = (modSensing (withoutRecord (byteAt p 0)) (atBody (v1Link s) s)).sns := by rw [ht.sns, hsns, ← hu]
    rw [snsOf, hs]
    exact snsOf_withoutRecord (byteAt p 0) r (atBody (v1Link s) s)
  refine ⟨_, _, hbody, ?_, recordChanged_told _ _, ?_, fun t ht => ⟨?_, fun r hr => ?_, ?_, ?_, ?_⟩⟩
  · rw [configCommit_clean hr, ← hu]
    exact ⟨rfl, regGet_regSet_ne (by decide) _ _, rfl, rfl, rfl⟩
  · rw [recordChanged_regs hr _ (by decide), configCommit_clean hr]
    exact (regGet_regSet_ne (by decide) _ _).symm
  · rw [hof t ht, if_pos rfl]
  · rw [hof t ht, if_neg hr]
  · rw [regBit, regGet_congr ht.regs]
    exact regBit_snsEvent (by decide) _ _
  · rw [ht.acc, hacc, ← hu]
    rfl
  · rw [ht.jrn, hjrn, ← hu]
    rfl

theorem v1Pends_eeWrite : V1Pends .eeWrite 0x11 (fun p s => eeRange p = true ∧ 0 < byteAt p 2 ∧ regionRefusal true (eeBase s + at_ p 0 2) (byteAt p 2) s = none ∧
      (pageCommits .legacy (eeBase s + at_ p 0 2) (slice p 3 (byteAt p 2))).all (fun c => !c.unsealed s) = true)
    (fun p s t => t.fer = { s.fer with commits := s.fer.commits ++ pageCommits .legacy (eeBase s + at_ p 0 2) (slice p 3 (byteAt p 2)) } ∧ t.regs = s.regs ∧
      t.jrn = s.jrn ∧ t.eng = s.eng) := by
  refine v1Pends_of_body (fun _ _ => rfl) (by decide) fun p s _ ⟨hr, hn, ho, hs⟩ => ?_
  have hb : v1Body (0x11 : Byte).toNat p (atBody (v1Link s) s) = _ := v1EeWrite_begins hr hn ho hs
  rw [hb]
  exact ⟨⟨rfl, rfl, rfl, rfl⟩, fun _ => ⟨rfl, rfl, rfl, rfl⟩⟩

theorem v1Pends_poll_merges (d : Decision) : V1Pends .t2Poll 0x18
    (fun p s => (byteAt p 0 = 2 ∨ byteAt p 0 = 3) ∧ s.cfg.role = .tractor ∧ s.acc.decision = some d ∧ trigClass d.trig.kind = some 1)
    (fun _ s t => t.acc = { s.acc with decision := some { d with trig := { d.trig with v1 := true } } } ∧ t.regs = s.regs ∧ t.eng = s.eng ∧ t.fer = s.fer) := by
  refine v1Pends_of_body (fun _ _ => rfl) (by decide) fun p s h ⟨hp, hr, hd, hc⟩ => ?_
  have hb : v1Body (0x18 : Byte).toNat p (atBody (v1Link s) s) = _ := v1T2Poll_merges hp h.noon hr hd hc
  rw [hb]
  exact ⟨⟨rfl, rfl, rfl, rfl⟩, fun _ => ⟨rfl, rfl, rfl, rfl⟩⟩

theorem v1Pends_poll_queues : V1Pends .t2Poll 0x18 (fun p s => (byteAt p 0 = 2 ∨ byteAt p 0 = 3) ∧ s.cfg.role = .tractor ∧
      (∃ d, s.acc.decision = some d ∧ trigClass d.trig.kind ≠ some 1) ∧ s.acc.triggers.length < 4 ∧ s.acc.waiting = [])
    (fun p s t => t.acc = { s.acc with triggers := s.acc.triggers ++ [pollTrigger p s] } ∧ t.regs = s.regs ∧ t.eng = s.eng ∧ t.fer = s.fer) := by
  refine v1Pends_of_body (fun _ _ => rfl) (by decide) fun p s h ⟨hp, hr, ⟨d, hd, hc⟩, hl, hw⟩ => ?_
  have hb : v1Body (0x18 : Byte).toNat p (atBody (v1Link s) s) = _ := v1T2Poll_queues hp h.noon hr hd hc hl hw
  rw [hb]
  exact ⟨⟨rfl, rfl, rfl, rfl⟩, fun _ => ⟨rfl, rfl, rfl, rfl⟩⟩

theorem v1Pends_lfTest : V1Pends .v1LfTest 0x28 (fun p s => byteAt p 1 ≤ 1 ∧ byteAt p 2 ≤ 64 ∧ (s.lf.telegram.isSome = true ∨ s.lf.grant.isSome = true))
    (fun p s t => (∃ r, r.cls = 5 ∧ r.words = v1TestWords p s ∧ r.due = s.power.clkUs ∧ t.lf = { s.lf with
        tests := s.lf.tests ++ [{ work := none, loose := none, entries := v1TestWords p s, learn := false, started := false, result := none }]
        waiting := s.lf.waiting ++ [r] }) ∧ t.regs = s.regs ∧ t.eng = s.eng ∧ t.acc = s.acc) := by
  refine v1Pends_of_body (fun _ _ => rfl) (by decide) fun p s _ ⟨h1, h2, hb⟩ => ?_
  obtain ⟨r, hc, hw, hd, hx⟩ := v1LfTest_waits h1 h2 hb
  have hb : v1Body (0x28 : Byte).toNat p (atBody (v1Link s) s) = _ := hx
  rw [hb]
  exact ⟨⟨rfl, rfl, rfl, rfl⟩, fun _ => ⟨⟨r, hc, hw, hd, rfl⟩, rfl, rfl, rfl⟩⟩

end Sys2Proof.Machine
end

section
open Sys2Proof Sys2Proof.Machine

/-- Settles O29: each body changes what its opcode names and answers at once, or begins work whose reply comes later. -/
theorem version1Writes : Obligations.Version1Writes := by
  unfold Obligations.Version1Writes
  intro none_ k
  refine ⟨version1_regWrite, version1_of_read (fun _ _ => rfl) (by decide) fun p s _ hc => ?_, version1_of_read (fun _ _ => rfl) (by decide) fun p s _ hc => ?_, v1Pends_eeWrite,
    v1Pends_poll_merges, v1Pends_poll_queues, version1_of_read (fun _ _ => rfl) (by decide) fun p s _ hc => ?_, version1_s1Add, version1_s1Remove, v1Pends_lfTest,
    version1_j12Begin, version1_j12Data, version1_j12End, version1_of_read (fun _ _ => rfl) (by decide) fun p s _ hc => ?_,
    fun j => version1_of_read (fun _ _ => rfl) (by decide) fun p s _ hc => ?_, version1_of_read (fun _ _ => rfl) (by decide) fun p s _ hc => ?_, version1_mbxWrite,
    version1_of_read (fun _ _ => rfl) (by decide) fun p s _ hc => ?_, fun f s op hup hn he hi hw hb => act_v1_busy hup hn he hi hw hb,
    fun f s hup hn he hi hw hb hr => act_v1_softReset hup hn he hi hw hb hr⟩
  · exact v1RegWrite_elsewhere hc.1 hc.2
  · obtain ⟨hr, hz⟩ := hc
    show v1EeWrite p _ = _
    rw [v1EeWrite, if_neg (by rw [hr]; decide), if_pos hz]
    rfl
  · exact v1T2Poll_trailer (s := atBody (v1Link s) s) hc.1 hc.2
  · exact v1J12Data_none (s := atBody (v1Link s) s) hc
  · obtain ⟨hj, h1, h2⟩ := hc
    exact v1J12Data_running (s := atBody (v1Link s) s) hj h1 h2
  · exact v1J12End_none (s := atBody (v1Link s) s) hc
  · obtain ⟨hp, hl, hlen⟩ := hc
    exact (v1MbxWrite_oem hp hlen (atBody (v1Link s) s)).trans (if_pos hl)
end

section
/-! The supplies, the clocks and the recovery session (R546, R549, R551, R554, R565). -/
namespace Sys2Proof.Machine

/-! ### Pads -/

/-- The pads moved: their edges, engines and the GPIO events, and nothing that the supplies go by. -/
structure PadsMoved (s t : State) : Prop where
  only : t = { s with regs := t.regs, pins := t.pins, eng := t.eng }
  regs : RegsBut [0x400F0074] s t

namespace PadsMoved

theorem refl (s : State) : PadsMoved s s := ⟨rfl, fun _ _ => rfl⟩

theorem after {s t u : State} (k : PadsMoved t u) (h : PadsMoved s t) : PadsMoved s u := by
  refine ⟨?_, fun a ha => (k.regs a ha).trans (h.regs a ha)⟩
  rw [k.only, h.only]

theorem foldl {α : Type} {f : State → α → State} (h : ∀ s x, PadsMoved s (f s x)) (l : List α) (s : State) : PadsMoved s (l.foldl f s) := by
  induction l generalizing s with
  | nil => exact refl s
  | cons x l ih => exact (ih _).after (h s x)

theorem ite {s t u : State} {c : Prop} [Decidable c] (h : c → PadsMoved s t) (k : ¬ c → PadsMoved s u) : PadsMoved s (if c then t else u) := by
  split
  · exact h ‹_›
  · exact k ‹_›

end PadsMoved

theorem padSet_moved (n : Nat) (lv : Bool) (s : State) : PadsMoved s (padSet n lv s) := by
  have hraise : ∀ s, PadsMoved s (raise 0x400F0074 (2 ^ n) s) := fun s => by
    obtain ⟨e, he⟩ := raise_eng 0x400F0074 (2 ^ n) s
    refine ⟨by rw [he]; rfl, raise_others _ _ s⟩
  have hline : ∀ s, PadsMoved s (lineUp (0x60 + n) s) := fun s => by
    obtain ⟨e, he⟩ := lineUp_eng (0x60 + n) s
    rw [he]
    exact ⟨rfl, fun _ _ => rfl⟩
  have hpad : ∀ v, PadsMoved s { s with pins := v } := fun v => ⟨rfl, fun _ _ => rfl⟩
  unfold padSet
  refine .ite (fun _ => .refl s) fun _ => .ite (fun _ => hpad _) fun _ => ?_
  exact .after (.ite (fun _ => hline _) fun _ => .refl _) (.after (.ite (fun _ => hraise _) fun _ => .refl _) (hpad _))

theorem repad_moved (b s : State) : PadsMoved s (repad b s) := by
  refine .foldl (fun s n => ?_) _ s
  split
  · exact padSet_moved n _ s
  · refine .ite (fun _ => .refl s) fun _ => ?_
    split
    · exact padSet_moved n _ s
    · exact padSet_moved n _ s
    · exact .refl s

theorem PadsMoved.power {s t : State} (h : PadsMoved s t) : t.power = s.power := by rw [h.only]

/-! ### VDDIO (R546) -/

theorem Concluded.regGet {s t : State} (h : Concluded s t) (a : Nat) : regGet t a = Machine.regGet s a := regGet_congr h.regs a
theorem Concluded.regBit {s t : State} (h : Concluded s t) (a i : Nat) : regBit t a i = Machine.regBit s a i := by rw [Machine.regBit, h.regGet]; rfl
theorem Concluded.regFld {s t : State} (h : Concluded s t) (a lo n : Nat) : regFld t a lo n = Machine.regFld s a lo n := by rw [Machine.regFld, h.regGet]; rfl

/-- A bit set as a field of one reads as it was set. -/
theorem regBit_regPutFld {i : Nat} (hi : i < 32) (a : Nat) (b : Bool) (s : State) : regBit (regPutFld a i 1 (b2n b) s) a i = b := by
  have hf := regFld_regPutFld (lo := i) (n := 1) (by omega) a (b2n b) s
  rw [regFld, wfld, fld] at hf
  rw [regBit, wbit, Nat.testBit_eq_decide_div_mod_eq]
  cases b <;> simp_all [b2n]

/-- VDDIO qualifies in Dawn with the reset pins high: its level is read, the pads follow, and Dawn goes on. -/
theorem vddioUp_dawn {hi : Bool} {s : State} (hd : s.power.state = .dawn) (hv : s.power.vddioOk = false) (hr : s.power.rstN = true) (ht : s.power.testN = true) :
    vddioUp hi s = repad s (regPutFld 0x4000000C 8 1 (b2n hi) (modPow (fun p => { p with vddioOk := true }) s)) := by
  have hp := (repad_moved s (regPutFld 0x4000000C 8 1 (b2n hi) (modPow (fun p => { p with vddioOk := true }) s))).power
  rw [vddioUp, if_neg (by simp [hv])]
  dsimp only
  rw [if_pos hd]
  generalize repad s (regPutFld 0x4000000C 8 1 (b2n hi) (modPow (fun p => { p with vddioOk := true }) s)) = x at hp
  have hx : x.power = { s.power with vddioOk := true } := hp
  have hpin : pinReset x = x := if_pos (by rw [hx]; exact .inr (.inl ⟨hr, ht⟩))
  rw [hpin]
  exact if_neg (by rw [hx]; simp [hd])

theorem exec_vddioQualified {s : State} {hi : Bool} (hd : s.power.state = .dawn) (hv : s.power.vddioOk = false) (hr : s.power.rstN = true) (ht : s.power.testN = true) :
    ∃ t, exec (.vddioQualified hi) s = .next t ∧ t.power.vddioOk = true ∧ t.power.state = .dawn ∧ regBit t 0x4000000C 8 = hi := by
  obtain ⟨t, hx, hend⟩ := act_concluded (vddioUp hi) s
  rw [vddioUp_dawn (s := fresh s) hd hv hr ht] at hend
  have hm := repad_moved (fresh s) (regPutFld 0x4000000C 8 1 (b2n hi) (modPow (fun p => { p with vddioOk := true }) (fresh s)))
  refine ⟨t, hx, ?_, ?_, ?_⟩
  · rw [hend.power, hm.power]
    rfl
  · rw [hend.power, hm.power]
    exact hd
  · rw [hend.regBit, regBit, hm.regs _ (by decide)]
    exact regBit_regPutFld (by decide) _ _ _

/-- A fault record leaves power, access and keys, and the registers but for those of events. -/
theorem fault_rest (det sev unit action flags : Nat) (info : Word) (s : State) :
    (fault det sev unit action flags info s).power = s.power ∧ (fault det sev unit action flags info s).acc = s.acc ∧ (fault det sev unit action flags info s).ks = s.ks ∧
      RegsBut stirredRegs s (fault det sev unit action flags info s) := by
  obtain ⟨f, h⟩ := fault_stirred det sev unit action flags info s
  exact ⟨by rw [h.rest], h.acc, h.ks, h.regs⟩

theorem exec_vddioLow {s : State} (hrun : running s = true) (hv : s.power.vddioOk = true) :
    ∃ t, exec .vddioLow s = .next t ∧ t.power.vddioOk = false ∧ t.power.state = s.power.state ∧ regBit t 0x40000010 5 = true ∧
      regFld t 0x40100068 0 16 = min (regFld s 0x40100068 0 16 + 1) 0xFFFF := by
  obtain ⟨t, hx, hend⟩ := act_concluded (vddioDown false) s
  have hm := repad_moved (fresh s) (modPow (fun p => { p with vddioOk := false }) (fresh s))
  generalize hu : repad (fresh s) (modPow (fun p => { p with vddioOk := false }) (fresh s)) = u at hm
  have hf : vddioDown false (fresh s) = fault 8 2 0xFF 0 0 2 (raise 0x40000010 32 (regInc 0x40100068 16 u)) := by
    have hr' : running (fresh s) = true := hrun
    rw [vddioDown, if_neg (by rw [show (fresh s).power.vddioOk = true from hv]; decide)]
    dsimp only
    rw [if_pos hr', hu]
    rfl
  rw [hf] at hend
  obtain ⟨hp, -, -, hregs⟩ := fault_rest 8 2 0xFF 0 0 2 (raise 0x40000010 32 (regInc 0x40100068 16 u))
  have hpow : t.power = { s.power with vddioOk := false } := by
    rw [hend.power, hp, (raise_leaves _ _ _).2.2]
    exact hm.power
  refine ⟨t, hx, by rw [hpow], by rw [hpow], ?_, ?_⟩
  · rw [hend.regBit, regBit, hregs _ (by decide)]
    exact regBit_raise (by decide) _
  · rw [hend.regFld, regFld, hregs _ (by decide), raise_others _ _ _ _ (by decide)]
    refine (regInc_counts 0x40100068 u).trans ?_
    rw [regFld, hm.regs _ (by decide)]
    rfl

/-! ### The XO that fails and the RTC (R549, R551, R554) -/

theorem exec_xoFail {s : State} (hi : s.LinkInv) (hd : s.power.state = .dawn) (hp : s.power.pll = false) :
    exec .xoFail s = .next { fresh s with power := { s.power with xoFails := s.power.xoFails + 1 } } := by
  have hf : xoFail (fresh s) = { fresh s with power := { s.power with xoFails := s.power.xoFails + 1 } } := if_pos ⟨hd, by simp [hp]⟩
  exact (act_quiet xoFail s (by rw [hf]; exact fresh_linkInv hi) (by rw [hf]; rfl)).trans (by rw [hf])

/-- A state that runs and is not in Midnight keeps its registers from reset. -/
theorem exec_rtcFail {s : State} (hrun : running s = true) (hm : s.power.state ≠ .midnight) :
    ∃ t, exec .rtcFail s = .next t ∧ t.power.rtcRun = false ∧ t.power.rtcValid = false ∧ regBit t 0x40000010 4 = true ∧ t.acc = s.acc ∧ t.ks = s.ks := by
  obtain ⟨t, hx, hend⟩ := act_concluded rtcFail s
  have hf : rtcFail (fresh s) = fault 0x0007 3 0xFF 0 0 2 (raise 0x40000010 16 (regOr 0x40000034 32 (modPow (fun p => { p with rtcRun := false, rtcValid := false }) (fresh s)))) :=
    (if_neg hm).trans (if_pos hrun)
  rw [hf] at hend
  obtain ⟨hp, ha, hk, hregs⟩ :=
    fault_rest 0x0007 3 0xFF 0 0 2 (raise 0x40000010 16 (regOr 0x40000034 32 (modPow (fun p => { p with rtcRun := false, rtcValid := false }) (fresh s))))
  obtain ⟨e, he⟩ := raise_eng 0x40000010 16 (regOr 0x40000034 32 (modPow (fun p => { p with rtcRun := false, rtcValid := false }) (fresh s)))
  refine ⟨t, hx, ?_, ?_, ?_, ?_, ?_⟩
  · rw [hend.power, hp, he]
    rfl
  · rw [hend.power, hp, he]
    rfl
  · rw [hend.regBit, regBit, hregs _ (by decide)]
    exact regBit_raise (by decide) _
  · rw [hend.acc, ha, he]
    rfl
  · rw [hend.ks, hk, he]
    rfl

theorem exec_rtcAlarm {s : State} (hrun : running s = true) (hm : s.power.state ≠ .midnight) :
    ∃ t, exec .rtcAlarm s = .next t ∧ regBit t 0x40000010 3 = true ∧ RegsBut [0x40000010] s t ∧
      (s.power.state = .dusk → regBit s 0x40000020 4 = true → t.power.exitDue = true) ∧ t.acc = s.acc ∧ t.ks = s.ks := by
  obtain ⟨t, hx, hend⟩ := act_concluded rtcAlarm s
  have hf : rtcAlarm (fresh s) = if regBit (raise 0x40000010 8 (fresh s)) 0x40000020 4 then exitDusk (raise 0x40000010 8 (fresh s)) else raise 0x40000010 8 (fresh s) :=
    (if_neg hm).trans (if_pos hrun)
  have hw : regBit (raise 0x40000010 8 (fresh s)) 0x40000020 4 = regBit s 0x40000020 4 := by
    rw [regBit, raise_others _ _ _ _ (by decide)]
    rfl
  obtain ⟨e, he⟩ := raise_eng 0x40000010 8 (fresh s)
  have hex : ∀ u : State, (exitDusk u).regs = u.regs ∧ (exitDusk u).acc = u.acc ∧ (exitDusk u).ks = u.ks := fun u => by unfold exitDusk; split <;> exact ⟨rfl, rfl, rfl⟩
  have hkeep : (rtcAlarm (fresh s)).regs = (raise 0x40000010 8 (fresh s)).regs ∧ (rtcAlarm (fresh s)).acc = s.acc ∧ (rtcAlarm (fresh s)).ks = s.ks := by
    obtain ⟨h1, h2, h3⟩ := hex (raise 0x40000010 8 (fresh s))
    rw [hf]
    split
    · rw [h1, h2, h3, he]
      exact ⟨rfl, rfl, rfl⟩
    · rw [he]
      exact ⟨rfl, rfl, rfl⟩
  obtain ⟨hregs, hacc, hks⟩ := hkeep
  have hg : ∀ a, regGet t a = regGet (raise 0x40000010 8 (fresh s)) a := fun a => (hend.regGet a).trans (regGet_congr hregs a)
  refine ⟨t, hx, ?_, fun a ha => ?_, fun hd hb => ?_, hend.acc.trans hacc, hend.ks.trans hks⟩
  · rw [regBit, hg]
    exact regBit_raise (by decide) (fresh s)
  · rw [hg, raise_others _ _ _ a ha]
    rfl
  · have hdusk : (raise 0x40000010 8 (fresh s)).power.state = .dusk := by rw [he]; exact hd
    rw [hend.power, hf, hw, hb, if_pos rfl, exitDusk, if_pos hdusk]

/-! ### The recovery session (R565) -/

/-- The session after a credential. -/
def credited (s : State) (r : Recovery) (cred : Bytes) : Recovery :=
  if recoveryOk s r.nonce cred then { r with verified := true } else { r with failures := r.failures + 1 }

theorem recoveryCredential_heard {s : State} {r : Recovery} (hb : s.power.state = .bootFail) (hr : s.power.recovery = some r) (cred : Bytes) :
    recoveryCredential cred (fresh s) = if 8 ≤ r.failures then fresh s else { fresh s with power := { s.power with recovery := some (credited s r cred) } } := by
  have hb' : (fresh s).power.state = .bootFail := hb
  have hr' : (fresh s).power.recovery = some r := hr
  rw [recoveryCredential, hb', hr']
  refine if_congr Iff.rfl rfl ?_
  unfold credited
  have hok : recoveryOk (fresh s) r.nonce cred = recoveryOk s r.nonce cred := rfl
  rw [hok]
  split <;> rfl

theorem exec_recoveryCredential {s : State} {r : Recovery} (hi : s.LinkInv) (hb : s.power.state = .bootFail) (hr : s.power.recovery = some r) (hf : r.failures < 8) (cred : Bytes) :
    exec (.recoveryCredential cred) s = .next { fresh s with power := { s.power with recovery := some (credited s r cred) } } := by
  have hx := (recoveryCredential_heard hb hr cred).trans (if_neg (Nat.not_le.mpr hf))
  exact (act_quiet (recoveryCredential cred) s (by rw [hx]; exact fresh_linkInv hi) (by rw [hx]; rfl)).trans (by rw [hx])

theorem recoveryWrite_verified {s : State} {r : Recovery} (hb : s.power.state = .bootFail) (hr : s.power.recovery = some r) (hv : r.verified = true) (page : Fin 576) (data : Bytes)
    (rb : ReadBack) : recoveryWrite page data rb s = pageWrite (256 * page.val) (fit 256 data) page.val rb s := by
  rw [recoveryWrite, hb, hr]
  exact if_pos hv

theorem recoveryWrite_none {s : State} (hr : s.power.recovery = none) (page : Fin 576) (data : Bytes) (rb : ReadBack) : recoveryWrite page data rb s = s := by
  rw [recoveryWrite, hr]
  split
  · next h => cases h
  · rfl

theorem commitTell_rest (page : Option Nat) (old new : PageMeta) (s : State) :
    (commitTell page old new s).power = s.power ∧ (commitTell page old new s).ks = s.ks ∧ (commitTell page old new s).fer = s.fer := by
  rw [commitTell_cases]
  split
  · obtain ⟨k, v, f, h⟩ := copyFailed_stirred page (b2n (new.degraded.getD false)) (regInc 0x4009000C 32 s)
    exact ⟨by rw [h.rest]; rfl, h.ks, h.fer⟩
  · exact ⟨rfl, rfl, rfl⟩

/-- The copies of a page commit, not its bytes. -/
theorem pageCommit_rest (page : Nat) (whole : Bool) (rb : ReadBack) (s : State) :
    (pageCommit page whole rb s).power = s.power ∧ (pageCommit page whole rb s).ks = s.ks ∧ (pageCommit page whole rb s).fer.mem = s.fer.mem := by
  unfold pageCommit
  dsimp only
  generalize hu : (if (!(metaOf s page).readable && !whole) = true then regSet 0x4009001C (word (page + 3 * 4096)) (setMeta ((metaOf s page).commit rb) s)
    else setMeta ((metaOf s page).commit rb) s) = u
  have hrest : u.power = s.power ∧ u.ks = s.ks ∧ u.fer.mem = s.fer.mem := by
    rw [← hu]
    split
    · rw [regSet_power, regSet_ks, regSet_fer]
      exact ⟨rfl, rfl, rfl⟩
    · exact ⟨rfl, rfl, rfl⟩
  obtain ⟨h1, h2, h3⟩ := hrest
  obtain ⟨k1, k2, k3⟩ := commitTell_rest (some page) (metaOf s page) ((metaOf s page).commit rb) u
  exact ⟨k1.trans h1, k2.trans h2, by rw [k3, h3]⟩

theorem fit_getD (n : Nat) (bs : Bytes) {i : Nat} (h : i < n) : (fit n bs).getD i 0 = bs.getD i 0 := by
  simp only [fit, List.getD_eq_getElem?_getD, List.getElem?_take, h, if_true, List.getElem?_append]
  split
  · rfl
  · simp only [List.getElem?_replicate]
    split <;> simp [List.getElem?_eq_none (Nat.not_lt.mp ‹_›)]

/-- A whole page of BOOT is stored as it is written: no region of it is encrypted. -/
theorem mergedPage_boot {page : Nat} (h : page < 576) {data : Bytes} (hl : data.length = 256) (s : State) : mergedPage (256 * page) data page s = data := by
  have henc : pageEnc s page = false := by
    rw [pageEnc, regionOfPage, if_pos (by omega)]
  have hpart : pagePart (256 * page) data page = (0, data) := by
    rw [pagePart, if_pos (le_refl _), Nat.sub_self, Nat.add_sub_cancel_left, List.take_of_length_le hl.le]
  unfold mergedPage
  dsimp only
  rw [henc, hpart]
  simp only [Bool.false_eq_true, if_false, List.take_zero, List.nil_append, Nat.zero_add, hl]
  rw [fit, List.append_assoc, List.take_left' hl]

/-- Stored bytes after a string of them was put at an address. -/
theorem kvGet_put {d : Nat → Byte} (a : Nat) (bs : Bytes) (m : List (Nat × Byte)) (x : Nat) :
    kvGet d (bs.zipIdx.foldl (fun m p => kvSet d m (a + p.2) p.1) m) x = if a ≤ x ∧ x < a + bs.length then bs.getD (x - a) 0 else kvGet d m x := by
  have hgen : ∀ (bs : Bytes) (k : Nat) (m : List (Nat × Byte)), kvGet d ((bs.zipIdx k).foldl (fun m p => kvSet d m (a + p.2) p.1) m) x =
      if a + k ≤ x ∧ x < a + k + bs.length then bs.getD (x - (a + k)) 0 else kvGet d m x := by
    intro bs
    induction bs with
    | nil => intro k m; rw [if_neg (by rw [List.length_nil]; omega)]; rfl
    | cons b bs ih =>
      intro k m
      rw [List.zipIdx_cons, List.foldl_cons, ih, kvGet_kvSet, List.length_cons]
      by_cases hx : x = a + k
      · subst hx
        rw [if_neg (by omega), if_pos rfl, if_pos (by omega), Nat.sub_self]
        rfl
      · rw [if_neg hx]
        by_cases hin : a + (k + 1) ≤ x ∧ x < a + (k + 1) + bs.length
        · obtain ⟨n, hn⟩ := Nat.exists_eq_add_of_le hin.1
          rw [if_pos hin, if_pos (by omega), show x - (a + (k + 1)) = n by omega, show x - (a + k) = n + 1 by omega]
          rfl
        · rw [if_neg hin, if_neg (by omega)]
  have h := hgen bs 0 m
  rw [Nat.add_zero] at h
  exact h

theorem exec_recoveryBootWrite {s : State} {r : Recovery} (hb : s.power.state = .bootFail) (hr : s.power.recovery = some r) (hv : r.verified = true) (page : Fin 576) (data : Bytes)
    (rb : ReadBack) : ∃ t, exec (.recoveryBootWrite page data rb) s = .next t ∧ t.power = s.power ∧ t.ks = s.ks ∧
      (∀ a, feramByte t a = if 256 * page.val ≤ a ∧ a < 256 * page.val + 256 then data.getD (a - 256 * page.val) 0 else feramByte s a) := by
  obtain ⟨t, hx, hend⟩ := act_concluded (recoveryWrite page data rb) s
  rw [recoveryWrite_verified (s := fresh s) hb hr hv, pageWrite, mergedPage_boot page.isLt (fit_length 256 data)] at hend
  obtain ⟨hp, hk, hm⟩ := pageCommit_rest page.val ((pagePart (256 * page.val) (fit 256 data) page.val).2.length == 256) rb (fresh s)
  refine ⟨t, hx, hend.power.trans hp, hend.ks.trans hk, fun a => ?_⟩
  have hf : t.fer.mem = (fit 256 data).zipIdx.foldl (fun m p => kvSet feramDefault m (256 * page.val + p.2) p.1) s.fer.mem := by
    rw [hend.rest]
    exact congrArg (fun m => (fit 256 data).zipIdx.foldl (fun m p => kvSet feramDefault m (256 * page.val + p.2) p.1) m) hm
  rw [feramByte, hf, kvGet_put, fit_length]
  refine if_ctx_congr Iff.rfl (fun h => fit_getD 256 data (by omega)) fun _ => rfl

end Sys2Proof.Machine
end

section
/-! What the rows of Dawn leave of the power part and of the link's answers (R549, R561, R564). -/
namespace Sys2Proof.Machine

/-- What the rows of Dawn do not touch: the power state, the PLL, that the link answers. -/
def bootPart (s : State) : PowerState × Bool × Bool := (s.power.state, s.power.pll, s.link.answers)

def BootKept (s t : State) : Prop := bootPart t = bootPart s

namespace BootKept

theorem refl (s : State) : BootKept s s := rfl

/-- A last step after what went before it. -/
theorem after {s t u : State} (k : BootKept t u) (h : BootKept s t) : BootKept s u := Eq.trans k h

theorem ite {s t u : State} {c : Prop} [Decidable c] (h : c → BootKept s t) (k : ¬ c → BootKept s u) : BootKept s (if c then t else u) := by
  split
  · exact h ‹_›
  · exact k ‹_›

theorem foldl {α : Type} {f : State → α → State} (h : ∀ s x, BootKept s (f s x)) (l : List α) (s : State) : BootKept s (l.foldl f s) := by
  induction l generalizing s with
  | nil => exact refl s
  | cons x l ih => exact (ih _).after (h s x)

theorem of_stirred {s t : State} (h : Stirred s t) : BootKept s t := by
  unfold BootKept bootPart
  rw [h.rest]

theorem of_concluded {s t : State} (h : Concluded s t) : BootKept s t := by
  unfold BootKept bootPart
  rw [h.rest]

end BootKept

/-! ### Registers, events, commits -/

theorem regSet_bootKept (a : Nat) (v : Word) (s : State) : BootKept s (regSet a v s) := rfl
theorem regPutFld_bootKept (a lo n v : Nat) (s : State) : BootKept s (regPutFld a lo n v s) := rfl

theorem jrn_bootKept (j : Journal) (s : State) : BootKept s { s with jrn := j } := rfl
theorem fer_bootKept (f : Feram) (s : State) : BootKept s { s with fer := f } := rfl
theorem ks_bootKept (k : KeyStore) (s : State) : BootKept s { s with ks := k } := rfl
theorem cpl_bootKept (c : CouplingSet) (s : State) : BootKept s { s with cpl := c } := rfl
theorem modAcc_bootKept (f : Access → Access) (s : State) : BootKept s (modAcc f s) := rfl
theorem modSensing_bootKept (f : Sensing → Sensing) (s : State) : BootKept s (modSensing f s) := rfl
theorem modUnit_bootKept (u : Nat) (f : Coupling → Coupling) (s : State) : BootKept s (modUnit u f s) := rfl
theorem modRad_bootKept (f : Radio → Radio) (s : State) : BootKept s (modRad f s) := rfl
theorem modRng_bootKept (f : Ranging → Ranging) (s : State) : BootKept s (modRng f s) := rfl
theorem modEng_bootKept (k : Fin 12) (f : Engine → Engine) (s : State) : BootKept s (modEng k f s) := rfl
theorem draw_bootKept (n : Nat) (s : State) : BootKept s (draw n s) := rfl
theorem emitOut_bootKept (e : Emission) (s : State) : BootKept s (emitOut e s) := rfl

theorem raise_bootKept (a bits : Nat) (s : State) : BootKept s (raise a bits s) := by
  obtain ⟨e, he⟩ := raise_eng a bits s
  rw [he]
  rfl

theorem hostEvent_bootKept (code : Byte) (payload : Bytes) (s : State) : BootKept s (hostEvent code payload s) := .of_stirred (hostEvent_stirred code payload s)

theorem fault_bootKept (det sev unit action flags : Nat) (info : Word) (s : State) : BootKept s (fault det sev unit action flags info s) := by
  obtain ⟨f, h⟩ := fault_stirred det sev unit action flags info s
  exact .after (.of_stirred h) rfl

theorem faultBy_bootKept (inj : Bool) (outcome det sev unit action flags : Nat) (info : Word) (s : State) : BootKept s (faultBy inj outcome det sev unit action flags info s) := by
  unfold faultBy
  exact .ite (fun _ => .after (raise_bootKept _ _ _) (fault_bootKept _ _ _ _ _ _ s)) fun _ => fault_bootKept _ _ _ _ _ _ s

theorem commitTell_bootKept (page : Option Nat) (old new : PageMeta) (s : State) : BootKept s (commitTell page old new s) := by
  rw [commitTell_cases]
  refine .ite (fun _ => ?_) fun _ => rfl
  obtain ⟨k, v, f, h⟩ := copyFailed_stirred page (b2n (new.degraded.getD false)) (regInc 0x4009000C 32 s)
  exact .after (.of_stirred h) rfl

theorem jrnCommit_bootKept (unit : Nat) (s : State) : BootKept s (jrnCommit unit s) := by
  unfold jrnCommit
  exact .ite (fun _ => rfl) fun _ => .after (commitTell_bootKept _ _ _ _) (by exact rfl)

theorem pageCommit_bootKept (page : Nat) (whole : Bool) (rb : ReadBack) (s : State) : BootKept s (pageCommit page whole rb s) := by
  unfold pageCommit
  exact .after (commitTell_bootKept _ _ _ _) (.ite (fun _ => .after (regSet_bootKept _ _ _) (fer_bootKept _ s)) fun _ => fer_bootKept _ s)

theorem raiseNvm_bootKept (bits : Nat) (s : State) : BootKept s (raiseNvm bits s) := .of_stirred (raiseNvm_stirred bits s)

theorem raiseKst_bootKept (bits : Nat) (s : State) : BootKept s (raiseKst bits s) := .after (hostEvent_bootKept _ _ _) (raise_bootKept _ _ s)

/-! ### The journal (R321) -/

theorem recordDone_bootKept (w : Work) (s : State) : BootKept s (recordDone w s) := .after (jrnCommit_bootKept _ _) (.after (jrnCommit_bootKept _ _) (jrn_bootKept _ s))

theorem loseUnit_bootKept (s : State) (n : Nat) : BootKept s (loseUnit s n) := by
  unfold loseUnit
  dsimp only
  have hsteps : ∀ j : Journal, BootKept s (raiseNvm 4 { s with jrn := j }) := fun j => .after (raiseNvm_bootKept _ _) (jrn_bootKept j s)
  refine .ite (fun _ => .after (fault_bootKept _ _ _ _ _ _ _) ?_) fun _ => ?_
  all_goals exact .after (cpl_bootKept _ _) (.after (.ite (fun _ => modSensing_bootKept _ _) fun _ => .refl _) (.after (.ite (fun _ => modAcc_bootKept _ _) fun _ => .refl _) (hsteps _)))

theorem jrnRecover_bootKept (m : DawnMeas) (s : State) : BootKept s (jrnRecover m s) := by
  unfold jrnRecover
  refine .after (jrn_bootKept _ _) (.ite (fun _ => .refl s) fun _ => ?_)
  exact .after (.foldl (fun s w => .after (jrnCommit_bootKept _ _) (jrn_bootKept _ s)) _ _) (.after (.foldl (fun s w => recordDone_bootKept _ s) _ _) (.foldl loseUnit_bootKept _ s))

end Sys2Proof.Machine
end

section
/-! The rows of Dawn one by one: keys, couplings, registers and calibrations leave the power part (R260–R263, R156, R561). -/
namespace Sys2Proof.Machine

/-! ### Root and key store (R261–R263, R278) -/

theorem randomStart_bootKept (n : Nat) (s : State) : BootKept s (randomStart n s) := by
  have hcry : ∀ c (s : State), BootKept s { s with cry := c } := fun _ _ => rfl
  unfold randomStart reseed
  exact .ite (fun _ => hcry _ s) fun _ => .after (raise_bootKept _ _ _) (.after (regSet_bootKept _ _ _) (.after (hcry _ _) (hcry _ s)))

theorem rootGenerate_bootKept (m : DawnMeas) (s : State) : BootKept s (rootGenerate m s) := by
  unfold rootGenerate
  exact .ite (fun _ => ks_bootKept _ s) fun _ => .ite (fun _ => .after (regSet_bootKept _ _ _) (.after (draw_bootKept _ _) (ks_bootKept _ s))) fun _ => .after (draw_bootKept _ _) (ks_bootKept _ s)

theorem writeHalf_bootKept (n : Nat) (isB : Bool) (blob : Bytes) (s : State) : BootKept s (writeHalf n isB blob s) := by
  have hset : ∀ h s, BootKept s (setHandle h s) := fun _ _ => rfl
  have htake : ∀ s, BootKept s (takeRead s).2 := fun _ => rfl
  unfold writeHalf ownCommit
  exact .after (pageCommit_bootKept _ _ _ _) (.after (htake _) (hset _ s))

theorem retireHalf_bootKept (n : Nat) (isB : Bool) (s : State) : BootKept s (retireHalf n isB s) := .ite (fun _ => .refl s) fun _ => writeHalf_bootKept n isB [] s

theorem destroyHandle_bootKept (n : Nat) (s : State) : BootKept s (destroyHandle n s) := by
  unfold destroyHandle
  split
  · exact .after (retireHalf_bootKept n true _) (retireHalf_bootKept n false s)
  · exact .after (retireHalf_bootKept n false _) (retireHalf_bootKept n true s)

theorem scrub_bootKept (spare : List Nat) (s : State) : BootKept s (scrub spare s) := by
  have hhalf : ∀ n isB (c : Prop) [Decidable c] s, BootKept s (if c then raiseKst 0x40 (retireHalf n isB s) else s) := fun n isB c _ s =>
    .ite (fun _ => .after (raiseKst_bootKept _ _) (retireHalf_bootKept n isB s)) fun _ => .refl s
  unfold scrub
  refine .foldl (fun s h => .ite (fun _ => .refl s) fun _ => ?_) _ s
  exact .after (hhalf _ _ _ _) (hhalf _ _ _ s)

theorem ksOpen_bootKept (spare : List Nat) (s : State) : BootKept s (ksOpen spare s) := by
  have hderive : ∀ s, BootKept s (deriveKeys s) := fun s => by
    unfold deriveKeys
    split
    · exact .refl s
    · exact ks_bootKept _ s
  unfold ksOpen
  refine .ite (fun _ => ks_bootKept _ s) fun _ => ?_
  split
  · exact ks_bootKept _ s
  · refine .ite (fun _ => ks_bootKept _ s) fun _ => ?_
    exact .after (scrub_bootKept _ _) (.after (ks_bootKept _ _) (.after (hderive _) (.after (draw_bootKept _ _) (ks_bootKept _ s))))

/-! ### Ranging and the transport -/

theorem tminApply_bootKept (s : State) : BootKept s (tminApply s) := by
  unfold tminApply
  split
  · exact .ite (fun _ => .refl s) fun _ => modRng_bootKept _ s
  · exact modRng_bootKept _ s

theorem rbeEnd_bootKept (s : State) : BootKept s (rbeEnd s) := by
  have hchain : ∀ i c s, BootKept s (setChain i c s) := fun i c s => .of_stirred (setChain_stirred i c s)
  unfold rbeEnd
  refine .after (tminApply_bootKept _) (.after (.of_stirred (runGaps_stirred _)) (.after (.ite (fun _ => .refl _) fun _ => hchain _ _ _) ?_))
  exact .after (.of_stirred (retryBand_stirred true _)) (.after (.foldl (fun s _ => .ite (fun _ => hchain _ _ s) fun _ => .refl s) _ _) (modRng_bootKept _ s))

theorem rbeAbort_bootKept (s : State) : BootKept s (rbeAbort s) := by
  have hresult : ∀ r b s, BootKept s (rbeResult r b s) := fun r b s => .after (raise_bootKept _ _ _) (regSet_bootKept _ _ s)
  unfold rbeAbort
  split
  · exact .ite (fun _ => .after (rbeEnd_bootKept _) (.after (hresult _ _ _) (modRng_bootKept _ s))) fun _ => modRng_bootKept _ s
  · exact modRng_bootKept _ s

theorem bus_bootKept (b : Buses) (s : State) : BootKept s { s with bus := b } := rfl

theorem cplSend_bootKept (u type flags : Nat) (maced : Bool) (payload : Bytes) (s : State) : BootKept s (cplSend u type flags maced payload s) := by
  have hframe : ∀ plc prio seg u body s, BootKept s (tpFrame plc prio seg u body s) := fun _ _ _ _ _ s => .ite (fun _ => bus_bootKept _ s) fun _ => .after (emitOut_bootKept _ _) (regSet_bootKept _ _ s)
  have hput : ∀ r s, BootKept s (tpPut r s) := fun r s => bus_bootKept _ s
  unfold cplSend tpStart tpSend
  exact .after (.foldl (fun s _ => hframe _ _ _ _ _ s) _ _) (.after (hput _ _) (.after (emitOut_bootKept _ _) (modUnit_bootKept _ _ s)))

/-! ### The end of a release (R79) -/

theorem setFrame_bootKept (r : Nat) (f : AirFrame) (s : State) : BootKept s (setFrame r f s) := by
  have hput : ∀ lo n v t, BootKept s t → BootKept s (regPutFld (rxAddr r 0) lo n v t) := fun lo n v t h => .after (regPutFld_bootKept _ lo n v t) h
  unfold setFrame
  refine .ite (fun _ => ?_) fun _ => ?_
  · exact .after (regSet_bootKept _ _ _) (hput _ _ _ _ (hput _ _ _ _ (hput _ _ _ _ (hput _ _ _ _ (.refl s)))))
  · exact .after (regSet_bootKept _ _ _) (hput _ _ _ _ (hput _ _ _ _ (hput _ _ _ _ (hput _ _ _ _ (hput _ _ _ _ (hput _ _ _ _ (hput _ _ _ _ (.refl s))))))))

theorem tuneRx_bootKept (r freq : Nat) (f : AirFrame) (s : State) : BootKept s (tuneRx r freq f s) := by
  unfold tuneRx
  exact .after (.of_stirred (rxCfgWrite_stirred r _)) (.after (setFrame_bootKept r f _) (.after (.of_stirred (commitSyn_stirred _ _)) (.after (regSet_bootKept _ _ _)
    (.ite (fun _ => .refl s) fun _ => regSet_bootKept _ _ s))))

theorem disarm_bootKept (r : Nat) (s : State) : BootKept s (disarm r s) := by
  have hsteps : ∀ s, BootKept s (bandLSteps s) := fun s => .ite (fun _ => modRng_bootKept _ s) fun _ => .refl s
  have hrx : ∀ f s, BootKept s (modRx r f s) := fun f s => modRad_bootKept _ s
  unfold disarm sensorListen
  exact .after (.ite (fun _ => .refl _) fun _ => tuneRx_bootKept _ _ _ _) (.after (.of_stirred (runGaps_stirred _)) (.after (.of_stirred (rngAir_stirred _ _)) (.after (hsteps _)
    (.after (regPutFld_bootKept _ _ _ _ _) (hrx _ s)))))

theorem endRelease_bootKept (cause : Nat) (s : State) : BootKept s (endRelease cause s) := by
  have hleft : ∀ s, BootKept s (sendLeft s) := fun s => .foldl (fun s _ => cplSend_bootKept _ _ _ _ _ s) _ s
  have hslot : ∀ s, BootKept s (dropSlot 9 s) := fun s => ks_bootKept _ s
  have hrel : ∀ f s, BootKept s (modRel f s) := fun f s => modAcc_bootKept _ s
  unfold endRelease
  refine .ite (fun _ => .refl s) fun _ => ?_
  have htrack : ∀ u, BootKept s u → BootKept s (if roleOf (relEvent (dropSlot 9 u)) = .tractor ∧ s.acc.release.told = true then sendLeft (relEvent (dropSlot 9 u)) else relEvent (dropSlot 9 u)) :=
    fun u hu => .after (.ite (fun _ => hleft _) fun _ => .refl _) (.after (hostEvent_bootKept _ _ _) (.after (hslot u) hu))
  refine htrack _ ?_
  split
  · exact .after (disarm_bootKept _ _) (hrel _ s)
  · exact hrel _ s

/-! ### Couplings recovered (R207, R223) -/

theorem queueComplete_bootKept (w : Work) (s : State) : BootKept s (queueComplete w s) :=
  .ite (fun _ => .refl s) fun _ => .ite (fun _ => .of_stirred (setPort_stirred _ _ s)) fun _ => .refl s

theorem finishAny_bootKept (work loose : Option Nat) (status : Byte) (result : Bytes) (s : State) : BootKept s (finishAny work loose status result s) := by
  have hwork : ∀ q, BootKept s (finishWork q status result s) := fun q => by
    unfold finishWork
    split
    · exact .refl s
    · exact .after (queueComplete_bootKept _ _) (recordDone_bootKept _ s)
  have hloose : ∀ q, BootKept s (finishLoose q status result s) := fun q => by
    unfold finishLoose
    split
    · exact .refl s
    · exact .after (queueComplete_bootKept _ _) (jrn_bootKept _ s)
  unfold finishAny
  split
  · exact hwork _
  · exact hloose _
  · exact .refl s

theorem cplClear_bootKept (u : Nat) (s : State) : BootKept s (cplClear u s) := by
  have hdrop : ∀ u plc sending s, BootKept s (tpDrop u plc sending s) := fun _ _ _ s => bus_bootKept _ s
  unfold cplClear
  refine .after (modUnit_bootKept _ _ _) (.after (hdrop _ _ _ _) (.after (hdrop _ _ _ _) ?_))
  split
  · exact .ite (fun _ => .after (modRng_bootKept _ _) (rbeAbort_bootKept s)) fun _ => .refl s
  · exact .refl s

theorem dropSensor_bootKept (r : Nat) (s : State) : BootKept s (dropSensor r s) := by
  have hsram : ∀ m (s : State), BootKept s { s with sram := m } := fun _ _ => rfl
  unfold dropSensor
  split
  · exact .refl s
  · exact .ite (fun _ => .after (destroyHandle_bootKept _ _) (.after (hsram _ _) (modSensing_bootKept _ s))) fun _ => .after (hsram _ _) (modSensing_bootKept _ s)

theorem cplForget_bootKept (u : Nat) (s : State) : BootKept s (cplForget u s) := by
  have hevent : ∀ s, BootKept s (snsEvent 128 none s) := fun s => .after (hostEvent_bootKept _ _ _) (raise_bootKept _ _ s)
  have hkeys : BootKept s (destroyHandle (193 + u) (dropSession u s)) := .after (destroyHandle_bootKept _ _) (.foldl (fun s _ => ks_bootKept _ s) _ s)
  unfold cplForget
  refine .ite (fun _ => ?_) fun _ => .after (hevent _) ?_
  all_goals exact .after (.foldl (fun s r => dropSensor_bootKept r s) _ _) (.after (ks_bootKept _ _) hkeys)

theorem decouple_bootKept (u : Nat) (s : State) : BootKept s (decouple u s) := by
  have hrel : ∀ s, BootKept s (cplRelease s) := fun s => .ite (fun _ => endRelease_bootKept _ s) fun _ => .refl s
  have hdone : ∀ u st s, BootKept s (coupleDone u st s) := fun u st s => .after (finishAny_bootKept _ _ _ _ _) (modUnit_bootKept _ _ s)
  unfold decouple
  refine .after (hdone _ _ _) (.after (.ite (fun _ => .refl _) fun _ => hostEvent_bootKept _ _ _) (.after (modUnit_bootKept _ _ _) (.after (jrn_bootKept _ _) ?_)))
  exact .after (hrel _) (.after (cplForget_bootKept _ _) (cplClear_bootKept _ s))

theorem cplRecover_bootKept (s : State) : BootKept s (cplRecover s) := by
  have hload : ∀ u s, BootKept s (loadSession u s) := fun u s => by
    unfold loadSession
    split
    · exact .after (ks_bootKept _ _) (.after (ks_bootKept _ _) (ks_bootKept _ s))
    · exact .refl s
  unfold cplRecover
  refine .foldl (fun s c => ?_) _ s
  refine .after ?_ (modUnit_bootKept c.unit (fun c => { c with linkUp := false, waiting := .nothing, boundStale := true }) s)
  refine .ite (fun _ => .ite (fun _ => .refl _) fun _ => decouple_bootKept _ _) fun _ => .ite (fun _ => hload _ _) fun _ => .ite (fun _ => ?_) fun _ => .refl _
  exact .after (modUnit_bootKept _ _ _) (cplClear_bootKept _ _)

theorem keyStep_bootKept (m : DawnMeas) (s : State) : BootKept s (keyStep m s) := by
  have hsaf : ∀ f (s : State), BootKept s { s with saf := f } := fun _ _ => rfl
  unfold keyStep
  exact .after (cplRecover_bootKept _) (.after (ksOpen_bootKept _ _) (.after (hsaf _ _)
    (.after (.ite (fun _ => rootGenerate_bootKept m _) fun _ => ks_bootKept _ _) (.after (ks_bootKept _ _) (randomStart_bootKept _ s)))))

end Sys2Proof.Machine
end

section
/-! Rows 3 to 15 of Dawn: where they end, and BOOT_FAIL (R549, R561, R564, R565). -/
namespace Sys2Proof.Machine

/-! ### The rows that load and calibrate -/

theorem milestone_bootKept (n : Nat) (s : State) : BootKept s (milestone n s) := regSet_bootKept _ _ s

/-- The buses and registers may have changed, nothing else. -/
def BusOnly (s t : State) : Prop := t = { s with regs := t.regs, bus := t.bus }

namespace BusOnly

theorem refl (s : State) : BusOnly s s := rfl

theorem after {s t u : State} (k : BusOnly t u) (h : BusOnly s t) : BusOnly s u := by
  unfold BusOnly at h k ⊢
  rw [k, h]

theorem ite {s t u : State} {c : Prop} [Decidable c] (h : c → BusOnly s t) (k : ¬ c → BusOnly s u) : BusOnly s (if c then t else u) := by
  split
  · exact h ‹_›
  · exact k ‹_›

theorem foldl {α : Type} {f : State → α → State} (h : ∀ s x, BusOnly s (f s x)) (l : List α) (s : State) : BusOnly s (l.foldl f s) := by
  induction l generalizing s with
  | nil => exact refl s
  | cons x l ih => exact (ih _).after (h s x)

theorem bootKept {s t : State} (h : BusOnly s t) : BootKept s t := by
  unfold BootKept bootPart
  rw [h]

end BusOnly

theorem regSet_busOnly (a : Nat) (v : Word) (s : State) : BusOnly s (regSet a v s) := rfl
theorem regPutFld_busOnly (a lo n v : Nat) (s : State) : BusOnly s (regPutFld a lo n v s) := rfl
theorem modCan_busOnly (b : Nat) (f : Can → Can) (s : State) : BusOnly s (modCan b f s) := by
  unfold modCan
  split <;> rfl

theorem canListen_busOnly (s : State) : BusOnly s (canListen s) := by
  unfold canListen
  exact .foldl (fun s b => .after (modCan_busOnly _ _ _) (.after (regPutFld_busOnly _ _ _ _ _) (.foldl (fun s p => regSet_busOnly _ _ s) _ s))) _ s

theorem enginesStart_bootKept (s : State) : BootKept s (enginesStart s) := by
  have hlink : ∀ s : State, BootKept s { s with link := { s.link with e0Restart := false } } := fun _ => rfl
  unfold enginesStart
  exact .after (hlink _) (.foldl (fun s k => .ite (fun _ => .refl s) fun _ => modEng_bootKept _ _ s) _ s)

theorem shadowRestore_bootKept (s : State) : BootKept s (shadowRestore s) := by
  have hpow : ∀ s, BootKept s (modPow (fun p => { p with restoreDue := false }) s) := fun _ => rfl
  have hsram : ∀ m (s : State), BootKept s { s with sram := m } := fun _ _ => rfl
  unfold shadowRestore
  exact .after (raise_bootKept _ _ _) (.after (hpow _) (.after (regSet_bootKept _ _ _) (.after (regSet_bootKept _ _ _) (.after (modAcc_bootKept _ _) (.after (modSensing_bootKept _ _) (hsram _ s))))))

theorem configRegs_bootKept (s : State) : BootKept s (configRegs s) := by
  have hload : ∀ v s, BootKept s (loadAccess v s) := fun v s => regSet_bootKept _ _ s
  unfold configRegs
  refine .after (.ite (fun _ => regPutFld_bootKept _ _ _ _ _) fun _ => .refl _) (.after (hload _ _) (.after (.foldl (fun s p => .ite (fun _ => regSet_bootKept _ _ s) fun _ => regSet_bootKept _ _ s) _ _) ?_))
  exact .after (.ite (fun _ => regPutFld_bootKept _ _ _ _ _) fun _ => .refl _) (.ite (fun _ => regPutFld_bootKept _ _ _ _ s) fun _ => .refl s)

theorem calibrate_bootKept (m : CalMeas) (s : State) : BootKept s (calibrate m s) := by
  have hregs : ∀ a n b s, BootKept s (calRegs a n b s) := fun a n b s => .after (draw_bootKept _ _) (.foldl (fun _ _ => regSet_bootKept _ _ _) _ s)
  have hmet : ∀ l s, BootKept s (pendMet l s) := fun l s => .foldl (fun s _ => modRad_bootKept _ s) l s
  have hiso : ∀ s, BootKept s (setIsolation m s) := fun s => .after (emitOut_bootKept _ _) (.after (modRad_bootKept _ _) (regSet_bootKept _ _ s))
  have hevent : ∀ h b s, BootKept s (radEvent h b s) := fun h b s => raise_bootKept _ _ s
  have hband : ∀ s, BootKept s (calBandH m s) := fun s => .after (hevent _ _ _) (.after (hmet _ _) (.after (regSet_bootKept _ _ _) (.after (hiso _) (.after (hregs _ _ _ _) (hregs _ _ _ s)))))
  have hsweep : ∀ s, BootKept s (sweepAll m s) := fun s => .after (.foldl (fun s _ => emitOut_bootKept _ s) _ _) (regPutFld_bootKept _ _ _ _ s)
  unfold calibrate
  exact .after (hevent _ _ _) (.after (hmet _ _) (.after (hband _) (.after (regSet_bootKept _ _ _) (.after (.ite (fun _ => hsweep _) fun _ => .refl _) (.after (hregs _ _ _ _) (hregs _ _ _ s))))))

theorem measureOffsets_bootKept (s : State) : BootKept s (measureOffsets s) := by
  obtain ⟨v, hv⟩ := measureOffsets_frame s
  rw [hv]
  rfl

theorem vlfFlags_bootKept (mv : Nat) (s : State) : BootKept s (vlfFlags mv s) := rfl

theorem autostart_bootKept (s : State) : BootKept s (autostart s) := by
  have hset : ∀ k e s, BootKept s (setEng k e s) := fun _ _ _ => rfl
  unfold autostart
  refine .foldl (fun s k => ?_) _ s
  dsimp only
  split
  · exact .refl s
  · split
    · exact hset _ _ s
    · exact .after (fault_bootKept _ _ _ _ _ _ _) (hset _ _ s)

theorem oweWritten_bootKept (s : State) : BootKept s (oweWritten s) := by
  have hsaf : ∀ f (s : State), BootKept s { s with saf := f } := fun _ _ => rfl
  unfold oweWritten
  split
  · exact .refl s
  · exact .after (faultBy_bootKept _ _ _ _ _ _ _ _ _) (.after (.ite (fun _ => regSet_bootKept _ _ _) fun _ => regSet_bootKept _ _ _) (hsaf _ s))

/-- Rows 6 to 15 end in the stage before the release self-test, and leave the rest of the power part as it was. -/
theorem dawnRun_bootKept (m : DawnMeas) (s : State) : BootKept s (dawnRun m s) := by
  have hconfig : ∀ s, BootKept s (configInForce s) := fun _ => rfl
  have hretry : ∀ bad s, BootKept s (retryDegraded bad s) := fun _ _ => rfl
  have hstage : ∀ s, BootKept s (modPow (fun p => { p with stage := .booted }) s) := fun _ => rfl
  have hstart : BootKept s (milestone 3 (jrnRecover m (milestone 2 (enginesStart (configInForce (milestone 1 (regOr 0x40090004 1 (regSet 0x4000004C (word (1 + 4 * m.reloads.val)) s)))))))) :=
    .after (milestone_bootKept _ _) (.after (jrnRecover_bootKept m _) (.after (milestone_bootKept _ _) (.after (enginesStart_bootKept _) (.after (hconfig _)
      (.after (milestone_bootKept _ _) (.after (regSet_bootKept _ _ _) (regSet_bootKept _ _ s)))))))
  unfold dawnRun
  refine .after (hstage _) (.after (oweWritten_bootKept _) (.after (autostart_bootKept _) (.after (milestone_bootKept _ _) (.after (vlfFlags_bootKept _ _) (.after (measureOffsets_bootKept _) ?_)))))
  refine .after (calibrate_bootKept _ _) (.after (regSet_bootKept _ _ _) (.after (tminApply_bootKept _) (.after (.foldl (fun s i => .ite (fun _ => .refl s) fun _ => modRad_bootKept _ s) _ _) ?_)))
  refine .after (configRegs_bootKept _) (.after (milestone_bootKept _ _) (.after (keyStep_bootKept m _) (.after (modSensing_bootKept _ _) (.after (.ite (fun _ => shadowRestore_bootKept _) fun _ => .refl _) ?_))))
  exact .after (hretry _ _) hstart

theorem dawnRun_stage (m : DawnMeas) (s : State) : (dawnRun m s).power.stage = .booted := rfl

/-! ### The XO qualified (R549, R564) -/

/-- The PLL locks, unless it is locked already. -/
def pllLocked (s : State) : State := if s.power.pll then s else milestone 0 (modPow (fun p => { p with pll := true }) s)

/-- The state in which BOOT is checked: the PLL locked, the link answering, CAN listening. -/
def bootState (s : State) : State := canListen { pllLocked s with link := { (pllLocked s).link with answers := true } }

theorem pllLocked_only (s : State) : pllLocked s = { s with regs := (pllLocked s).regs, power := { s.power with pll := true } } := by
  unfold pllLocked
  split
  · next h => rw [← h]
  · rfl

theorem bootState_only (s : State) :
    bootState s = { s with regs := (bootState s).regs, bus := (bootState s).bus, power := { s.power with pll := true }, link := { s.link with answers := true } } := by
  have h : BusOnly { pllLocked s with link := { (pllLocked s).link with answers := true } } (bootState s) := canListen_busOnly _
  have k := pllLocked_only s
  generalize bootState s = t at h ⊢
  generalize pllLocked s = u at h k
  unfold BusOnly at h
  rw [k] at h
  exact h

theorem xoQualified_waits {m : DawnMeas} {s : State} (hd : s.power.state = .dawn) (hw : s.power.stage = .waitXo) :
    xoQualified m s = match bootFault m s with
      | some page => bootFailed page m.reloads.val (bootState s)
      | none => dawnRun m (bootState s) := by
  have hf : bootFault m (bootState s) = bootFault m s := by
    rw [bootState_only]
    rfl
  rw [← hf]
  exact if_neg (by simp [hd, hw])

theorem exec_xoQualified {s : State} {m : DawnMeas} (hd : s.power.state = .dawn) (hw : s.power.stage = .waitXo) (hb : bootFault m s = none) :
    ∃ t, exec (.xoQualified m) s = .next t ∧ t.power.state = .dawn ∧ t.power.stage = .booted ∧ t.power.pll = true ∧ t.link.answers = true := by
  obtain ⟨t, hx, hend⟩ := act_concluded (dawnXo m) s
  have hq : xoQualified m (fresh s) = dawnRun m (bootState (fresh s)) := by
    rw [xoQualified_waits (s := fresh s) hd hw, show bootFault m (fresh s) = none from hb]
  have hk : bootPart (dawnRun m (bootState (fresh s))) = (.dawn, true, true) := by
    refine (dawnRun_bootKept m (bootState (fresh s))).trans ?_
    rw [bootState_only, ← hd]
    rfl
  have hstage := dawnRun_stage m (bootState (fresh s))
  generalize dawnRun m (bootState (fresh s)) = x at hq hk hstage
  simp only [bootPart, Prod.mk.injEq] at hk
  obtain ⟨hstate, hpll, hans⟩ := hk
  have hxo : dawnXo m (fresh s) = x := by
    rw [dawnXo, hq]
    exact if_neg (by rw [hstate]; decide)
  rw [hxo] at hend
  refine ⟨t, hx, by rw [hend.power, hstate], by rw [hend.power, hstage], by rw [hend.power, hpll], ?_⟩
  rw [hend.rest]
  exact hans

/-- The nonce of a recovery session is the next four free values. -/
theorem peekBytes_nonce (s : State) : peekBytes s 0 16 = (List.range 4).flatMap fun i => le 4 (Config.freeWord (s.drawn + i)).toNat := by
  rw [peekBytes, List.take_of_length_le (by simp)]
  simp only [peek, Nat.zero_add]

theorem exec_xoQualified_fails {s : State} {m : DawnMeas} {page : Nat} (hd : s.power.state = .dawn) (hw : s.power.stage = .waitXo) (hb : bootFault m s = some page)
    (hq : s.link.dawnq = []) : ∃ t, exec (.xoQualified m) s = .next t ∧ t.power.state = .bootFail ∧ t.power.failPage = page ∧ t.link.answers = true ∧
      t.power.recovery = some { nonce := (List.range 4).flatMap (fun i => le 4 (Config.freeWord (s.drawn + i)).toNat), failures := 0, verified := false } := by
  obtain ⟨t, hx, hend⟩ := act_concluded (dawnXo m) s
  have hxq : xoQualified m (fresh s) = bootFailed page m.reloads.val (bootState (fresh s)) := by
    rw [xoQualified_waits (s := fresh s) hd hw, show bootFault m (fresh s) = some page from hb]
  have hdq : (bootFailed page m.reloads.val (bootState (fresh s))).link.dawnq = [] := by
    refine Eq.trans ?_ hq
    show (bootState (fresh s)).link.dawnq = _
    rw [bootState_only]
    rfl
  have hxo : dawnXo m (fresh s) = { bootFailed page m.reloads.val (bootState (fresh s)) with
      link := { (bootFailed page m.reloads.val (bootState (fresh s))).link with dawnq := [] } } := by
    rw [dawnXo, hxq]
    dsimp only
    rw [hdq]
    exact if_pos rfl
  rw [hxo] at hend
  refine ⟨t, hx, ?_, ?_, ?_, ?_⟩
  · rw [hend.power]
    rfl
  · rw [hend.power]
    rfl
  · rw [hend.rest]
    show (bootState (fresh s)).link.answers = true
    rw [bootState_only]
  · rw [hend.power]
    show some (Recovery.mk (peekBytes (bootState (fresh s)) 0 16) 0 false) = _
    rw [peekBytes_nonce, bootState_only]
    rfl

end Sys2Proof.Machine
end

section
/-! The release self-test, and Noon with its RESET event first (R352, R353, R561, R563). -/
namespace Sys2Proof.Machine

/-! ### CAN in Noon without a frame of Dawn (R499) -/

/-- Registers may have changed, nothing else. -/
def RegsOnly (s t : State) : Prop := t = { s with regs := t.regs }

namespace RegsOnly

theorem refl (s : State) : RegsOnly s s := rfl

theorem after {s t u : State} (k : RegsOnly t u) (h : RegsOnly s t) : RegsOnly s u := by
  unfold RegsOnly at h k ⊢
  rw [k, h]

theorem ite {s t u : State} {c : Prop} [Decidable c] (h : c → RegsOnly s t) (k : ¬ c → RegsOnly s u) : RegsOnly s (if c then t else u) := by
  split
  · exact h ‹_›
  · exact k ‹_›

theorem foldl {α : Type} {f : State → α → State} (h : ∀ s x, RegsOnly s (f s x)) (l : List α) (s : State) : RegsOnly s (l.foldl f s) := by
  induction l generalizing s with
  | nil => exact refl s
  | cons x l ih => exact (ih _).after (h s x)

end RegsOnly

theorem canFirmware_regsOnly (s : State) : RegsOnly s (canFirmware s) := by
  have hreg : ∀ a v s, RegsOnly s (regSet a v s) := fun _ _ _ => rfl
  have hfilter : ∀ a u b v c w s, RegsOnly s (regSet a u (regSet b v (regSet c w s))) := fun _ _ _ _ _ _ s => .after (hreg _ _ _) (.after (hreg _ _ _) (hreg _ _ s))
  unfold canFirmware
  refine .after (.ite (fun _ => hfilter _ _ _ _ _ _ _) fun _ => .refl _) (.after (.foldl (fun s b => ?_) _ _) ?_)
  · exact .after (hreg _ _ _) (.after (hreg _ _ _) (.after (hfilter _ _ _ _ _ _ _) (hfilter _ _ _ _ _ _ s)))
  · exact .after (.ite (fun _ => hreg _ _ _) fun _ => .refl _) (.after (.ite (fun _ => hfilter _ _ _ _ _ _ _) fun _ => .refl _) (.ite (fun _ => hfilter _ _ _ _ _ _ s) fun _ => .refl s))

theorem canNoon_quiet {s : State} (h : s.bus.dawn = []) : BusOnly s (canNoon s) := by
  have hf : BusOnly s (canFirmware s) := by
    have k := canFirmware_regsOnly s
    unfold RegsOnly at k
    rw [k]
    rfl
  have hd : (canFirmware s).bus.dawn = [] := by
    have k := canFirmware_regsOnly s
    unfold RegsOnly at k
    rw [k]
    exact h
  unfold canNoon
  dsimp only
  rw [hd]
  exact .after (.foldl (fun s b => .after (modCan_busOnly _ _ _) (regPutFld_busOnly _ _ _ _ s)) _ _) (.after (t := { canFirmware s with bus := { (canFirmware s).bus with dawn := [] } }) (.refl _) (.after rfl hf))

/-! ### The release self-test (R563) -/

/-- What the self-test ends with. -/
def selfTested (s : State) : State := modPow (fun p => { p with stage := .selfTested }) (milestone 6 (regOr 0x4000000C 0x20 s))

theorem selfTest_runs {reads : List (Bool × Bool × Bool)} {s : State} (hd : s.power.state = .dawn) (hb : s.power.stage = .booted) :
    selfTest reads s = selfTested (if twoInRow (testMismatches reads) then sloLatch false 0 (lastReadback reads (canNoon s)) else lastReadback reads (canNoon s)) :=
  if_neg (by simp [hd, hb])

theorem selfTested_bit (s : State) : regBit (selfTested s) 0x4000000C 5 = true := by
  have h : regGet (selfTested s) 0x4000000C = regGet (regOr 0x4000000C 0x20 s) 0x4000000C := regGet_regSet_ne (by decide) _ _
  rw [regBit, h]
  exact (regBit_regOr 0x4000000C 0x20 0x4000000C 5 s).trans (by rw [show decide ((0x4000000C : Nat) = 0x4000000C) = true from rfl, show (word 0x20).toNat.testBit 5 = true by decide]; simp)

theorem lastReadback_acc (reads : List (Bool × Bool × Bool)) (s : State) :
    (lastReadback reads s).acc = { s.acc with release := { s.acc.release with rbA := (lastReadback reads s).acc.release.rbA, rbB := (lastReadback reads s).acc.release.rbB } } := by
  unfold lastReadback
  split <;> rfl

theorem exec_selfTest_passes {s : State} {reads : List (Bool × Bool × Bool)} (hd : s.power.state = .dawn) (hb : s.power.stage = .booted) (hq : s.bus.dawn = [])
    (ht : twoInRow (testMismatches reads) = false) : ∃ t, exec (.releaseSelfTest reads) s = .next t ∧ t.power.stage = .selfTested ∧ regBit t 0x4000000C 5 = true ∧
      t.acc = { s.acc with release := { s.acc.release with rbA := t.acc.release.rbA, rbB := t.acc.release.rbB } } ∧
      ∀ x, reads.getLast? = some x → t.acc.release.rbA = x.2.1 ∧ t.acc.release.rbB = x.2.2 := by
  obtain ⟨t, hx, hend⟩ := act_concluded (selfTest reads) s
  rw [selfTest_runs (s := fresh s) hd hb, ht, if_neg (by decide)] at hend
  have hacc : (canNoon (fresh s)).acc = s.acc := by
    have k := canNoon_quiet (s := fresh s) hq
    unfold BusOnly at k
    rw [k]
    rfl
  have hta : t.acc = (lastReadback reads (canNoon (fresh s))).acc := hend.acc
  refine ⟨t, hx, by rw [hend.power]; rfl, by rw [hend.regBit]; exact selfTested_bit _, ?_, fun x hl => ?_⟩
  · rw [hta, ← hacc]
    exact lastReadback_acc reads _
  · rw [hta, lastReadback, hl]
    exact ⟨rfl, rfl⟩

theorem sloLatch_latches (pin : Nat) (s : State) : (sloLatch false pin s).acc.sloFault = true ∧ (sloLatch false pin s).acc.release.active = false := by
  have hacc : (sloLatch false pin s).acc = { (endRelease 6 s).acc with sloFault := true, rbFault := true } :=
    (fault_rest 0x000F 4 0 9 (0 ||| b2n false) (word pin) (regInc 0x4009000C 32 (modAcc (fun a => { a with sloFault := true, rbFault := true }) (endRelease 6 s)))).2.1
  rw [hacc]
  exact ⟨rfl, (endRelease_over 6 s).1⟩

theorem exec_selfTest_latches {s : State} {reads : List (Bool × Bool × Bool)} (hd : s.power.state = .dawn) (hb : s.power.stage = .booted)
    (ht : twoInRow (testMismatches reads) = true) : ∃ t, exec (.releaseSelfTest reads) s = .next t ∧ t.power.stage = .selfTested ∧ t.acc.sloFault = true ∧
      t.acc.release.active = false := by
  obtain ⟨t, hx, hend⟩ := act_concluded (selfTest reads) s
  rw [selfTest_runs (s := fresh s) hd hb, ht, if_pos rfl] at hend
  obtain ⟨hf, ha⟩ := sloLatch_latches 0 (lastReadback reads (canNoon (fresh s)))
  have hta : t.acc = (sloLatch false 0 (lastReadback reads (canNoon (fresh s)))).acc := hend.acc
  exact ⟨t, hx, by rw [hend.power]; rfl, by rw [hta, hf], by rw [hta, ha]⟩

/-! ### Output that only grows -/

/-- The output queue of HCS0_N has only been added to. -/
def OutGrows (s t : State) : Prop := s.link.hcs0.outq <+: t.link.hcs0.outq

namespace OutGrows

theorem of_link {s t : State} (h : t.link = s.link) : OutGrows s t := by
  unfold OutGrows
  rw [h]

theorem refl (s : State) : OutGrows s s := List.prefix_rfl

theorem after {s t u : State} (k : OutGrows t u) (h : OutGrows s t) : OutGrows s u := List.IsPrefix.trans h k

theorem ite {s t u : State} {c : Prop} [Decidable c] (h : c → OutGrows s t) (k : ¬ c → OutGrows s u) : OutGrows s (if c then t else u) := by
  split
  · exact h ‹_›
  · exact k ‹_›

theorem foldl {α : Type} {f : State → α → State} (h : ∀ s x, OutGrows s (f s x)) (l : List α) (s : State) : OutGrows s (l.foldl f s) := by
  induction l generalizing s with
  | nil => exact refl s
  | cons x l ih => exact (ih _).after (h s x)

end OutGrows

theorem raise_outGrows (a bits : Nat) (s : State) : OutGrows s (raise a bits s) := by
  obtain ⟨e, he⟩ := raise_eng a bits s
  rw [he]
  exact .of_link rfl

theorem setPort_outGrows (p : VPort) (l : List OutPkt) (s : State) : OutGrows s (setPort p { portOf s p with outq := (portOf s p).outq ++ l } s) := by
  cases p
  · exact List.prefix_append _ _
  · exact List.prefix_rfl

theorem queueEvent_outGrows (p : VPort) (o : OutPkt) (s : State) : OutGrows s (queueEvent p o s) := by
  have hlose : OutGrows s (loseEvent p o.code s) := by
    unfold loseEvent
    cases p <;> exact .after (raise_outGrows _ _ _) List.prefix_rfl
  exact .ite (fun _ => setPort_outGrows p [o] s) fun _ => hlose

theorem hostEvent_outGrows (code : Byte) (payload : Bytes) (s : State) : OutGrows s (hostEvent code payload s) := by
  unfold hostEvent
  split
  · exact .refl s
  · exact .ite (fun _ => .foldl (fun s p => queueEvent_outGrows p _ s) _ s) fun _ => .refl s

theorem fault_outGrows (det sev unit action flags : Nat) (info : Word) (s : State) : OutGrows s (fault det sev unit action flags info s) := by
  unfold fault
  exact .ite (fun _ => .of_link rfl) fun _ => .after (hostEvent_outGrows _ _ _) (.after (raise_outGrows _ _ _) (.of_link rfl))

theorem commitTell_outGrows (page : Option Nat) (old new : PageMeta) (s : State) : OutGrows s (commitTell page old new s) := by
  have hpage : ∀ s, OutGrows s (failedPage page s).2 := fun s => by cases page <;> exact .of_link rfl
  have hcopy : ∀ c s, OutGrows s (copyFailed page c s) := fun c s =>
    .after (hostEvent_outGrows _ _ _) (.after (raise_outGrows _ _ _) (.after (fault_outGrows _ _ _ _ _ _ _) (.after (.of_link (regSet_link _ _ _)) (hpage s))))
  rw [commitTell_cases]
  exact .ite (fun _ => .after (hcopy _ _) (.of_link (regSet_link _ _ s))) fun _ => .of_link (regSet_link _ _ s)

theorem jrnCommit_outGrows (unit : Nat) (s : State) : OutGrows s (jrnCommit unit s) := by
  unfold jrnCommit
  exact .ite (fun _ => .refl s) fun _ => .after (commitTell_outGrows _ _ _ _) (.of_link rfl)

/-- What the end of a command does to the output queue of HCS0_N. -/
theorem settle_outGrows (s : State) : OutGrows s (settle s) := by
  have hrel : ∀ p s, OutGrows s (releaseReplies p s) := fun p s => by
    have hport : ∀ (o : List OpenSlot) (l : List OutPkt), OutGrows s (setPort p { portOf s p with outq := (portOf s p).outq ++ l, opn := o } s) := fun o l => by
      cases p
      · exact List.prefix_append _ _
      · exact List.prefix_rfl
    unfold releaseReplies
    exact .ite (fun _ => .after (.of_link rfl) (hport _ _)) fun _ => hport _ _
  have hsend : ∀ s, OutGrows s (sendUart s) := fun s => by
    unfold OutGrows
    rw [sendUart_hcs0]
  exact .after (t := sendUart (releaseReplies .uart (releaseReplies .hcs0 s))) List.prefix_rfl (.after (hsend _) (.after (hrel _ _) (hrel _ s)))

theorem applyReq_outGrows (r : Nat) (s : State) : OutGrows s (applyReq r s) := by
  have hchain : ∀ i c s, OutGrows s (setChain i c s) := fun _ _ _ => .of_link rfl
  unfold applyReq
  refine .ite (fun _ => .refl s) fun _ => .ite (fun _ => hchain _ _ s) fun _ => ?_
  split
  · exact hchain _ _ s
  · exact hchain _ _ s
  · exact hchain _ _ s
  · exact .ite (fun _ => .after (raise_outGrows _ _ _) (hchain _ _ s)) fun _ => hchain _ _ s

theorem setFrame_outGrows (r : Nat) (f : AirFrame) (s : State) : OutGrows s (setFrame r f s) := by
  have hset : ∀ a v t, OutGrows s t → OutGrows s (regSet a v t) := fun a v t h => .after (.of_link (regSet_link a v t)) h
  have hput : ∀ a lo n v t, OutGrows s t → OutGrows s (regPutFld a lo n v t) := fun a lo n v t h => .after (.of_link (regPutFld_link a lo n v t)) h
  unfold setFrame
  refine .ite (fun _ => ?_) fun _ => ?_
  · exact hset _ _ _ (hput _ _ _ _ _ (hput _ _ _ _ _ (hput _ _ _ _ _ (hput _ _ _ _ _ (.refl s)))))
  · exact hset _ _ _ (hput _ _ _ _ _ (hput _ _ _ _ _ (hput _ _ _ _ _ (hput _ _ _ _ _ (hput _ _ _ _ _ (hput _ _ _ _ _ (hput _ _ _ _ _ (.refl s))))))))

theorem sensorListen_outGrows (r : Nat) (s : State) : OutGrows s (sensorListen r s) := by
  have hsyn : ∀ i s, OutGrows s (commitSyn i s) := fun i s => .ite (fun _ => .of_link rfl) fun _ => .of_link rfl
  have hcfg : ∀ s, OutGrows s (rxCfgWrite r s) := fun s => .ite (fun _ => .refl s) fun _ => .after (applyReq_outGrows r _) (.of_link rfl)
  unfold sensorListen tuneRx
  exact .ite (fun _ => .refl s) fun _ => .after (hcfg _) (.after (setFrame_outGrows r _ _) (.after (hsyn _ _) (.after (.of_link (regSet_link _ _ _))
    (.ite (fun _ => .refl s) fun _ => .of_link (regSet_link _ _ s)))))

theorem reportDusk_outGrows (s : State) : OutGrows s (reportDusk s) := by
  have hevent : ∀ r s, OutGrows s (snsEvent 1 (some r) s) := fun r s => .after (hostEvent_outGrows _ _ _) (raise_outGrows _ _ s)
  have hpublish : ∀ r s, OutGrows s (publishDue r s) := fun r s => by
    unfold publishDue
    split
    · exact .ite (fun _ => .of_link rfl) fun _ => .refl s
    · exact .refl s
  unfold reportDusk
  exact .after (.foldl (fun s r => .after (hpublish r _) (hevent r s)) _ _) (.of_link rfl)

theorem requeueComplete_outGrows (s : State) : OutGrows s (requeueComplete s) := by
  have hqueue : ∀ w s, OutGrows s (queueComplete w s) := fun w s => .ite (fun _ => .refl s) fun _ => .ite (fun _ => setPort_outGrows w.src [completePkt w] s) fun _ => .refl s
  exact .foldl (fun s w => .ite (fun _ => hqueue w s) fun _ => .refl s) _ s

end Sys2Proof.Machine
end

section
/-! Noon out of Dawn: the RESET event stands first, and nothing that Dawn owes moves the power state (R63, R352, R353, R561). -/
namespace Sys2Proof.Machine

/-- What Noon brings keeps the power part and the triggers, begins no internal work, and only adds to the output. -/
structure NoonKept (s t : State) : Prop where
  power    : t.power = s.power
  triggers : t.acc.triggers = s.acc.triggers
  waiting  : t.acc.waiting = s.acc.waiting
  internal : ∀ i ∈ t.jrn.internal, i ∈ s.jrn.internal
  out      : OutGrows s t

namespace NoonKept

theorem refl (s : State) : NoonKept s s := ⟨rfl, rfl, rfl, fun _ h => h, .refl s⟩

theorem after {s t u : State} (k : NoonKept t u) (h : NoonKept s t) : NoonKept s u :=
  ⟨k.power.trans h.power, k.triggers.trans h.triggers, k.waiting.trans h.waiting, fun i hi => h.internal i (k.internal i hi), k.out.after h.out⟩

theorem ite {s t u : State} {c : Prop} [Decidable c] (h : c → NoonKept s t) (k : ¬ c → NoonKept s u) : NoonKept s (if c then t else u) := by
  split
  · exact h ‹_›
  · exact k ‹_›

theorem foldl {α : Type} {f : State → α → State} (h : ∀ s x, NoonKept s (f s x)) (l : List α) (s : State) : NoonKept s (l.foldl f s) := by
  induction l generalizing s with
  | nil => exact refl s
  | cons x l ih => exact (ih _).after (h s x)

theorem of_stirred {s t : State} (h : Stirred s t) (o : OutGrows s t) : NoonKept s t :=
  ⟨by rw [h.rest], by rw [h.acc], by rw [h.acc], fun i hi => by rwa [h.jrn] at hi, o⟩

theorem of_back {s t : State} (h : BackKept s t) (o : OutGrows s t) : NoonKept s t :=
  ⟨h.power, by rw [h.acc], by rw [h.acc], fun i hi => by rwa [h.jrn] at hi, o⟩

end NoonKept

theorem hostEvent_noonKept (code : Byte) (payload : Bytes) (s : State) : NoonKept s (hostEvent code payload s) := .of_stirred (hostEvent_stirred _ _ s) (hostEvent_outGrows _ _ s)

theorem raise_noonKept (a bits : Nat) (s : State) : NoonKept s (raise a bits s) := by
  refine ⟨(raise_leaves a bits s).2.2, ?_, ?_, ?_, raise_outGrows a bits s⟩
  all_goals
    obtain ⟨e, he⟩ := raise_eng a bits s
    rw [he]
  · rfl
  · rfl
  · exact fun _ h => h

theorem resetEvent_noonKept (s : State) : NoonKept s (resetEvent s) := by
  unfold resetEvent
  exact .foldl (fun s p => .of_stirred (queueEvent_stirred p _ s) (queueEvent_outGrows p _ s)) _ s

theorem tamperEvent_noonKept (s : State) : NoonKept s (tamperEvent s) := hostEvent_noonKept _ _ s

theorem raiseKst_noonKept (bits : Nat) (s : State) : NoonKept s (raiseKst bits s) := by
  unfold raiseKst
  exact .after (hostEvent_noonKept _ _ _) (raise_noonKept _ _ s)

theorem commitTell_noonKept (page : Option Nat) (old new : PageMeta) (s : State) : NoonKept s (commitTell page old new s) := by
  have hacc : ∀ v : State, v.power = s.power → v.acc = s.acc → v.jrn = s.jrn → OutGrows s v → NoonKept s v := fun v hp ha hj ho =>
    ⟨hp, by rw [ha], by rw [ha], fun i hi => by rwa [hj] at hi, ho⟩
  have ho := commitTell_outGrows page old new s
  rw [commitTell_cases] at ho ⊢
  split at ho
  · next h =>
    rw [if_pos h]
    obtain ⟨k, v, f, hs⟩ := copyFailed_stirred page (b2n (new.degraded.getD false)) (regInc 0x4009000C 32 s)
    exact hacc _ (by rw [hs.rest]; rfl) hs.acc hs.jrn ho
  · next h =>
    rw [if_neg h]
    exact hacc _ rfl rfl rfl ho

theorem jrnCommit_noonKept (unit : Nat) (s : State) : NoonKept s (jrnCommit unit s) := by
  have hjrn : ∀ f j, j.internal = s.jrn.internal → NoonKept s { s with fer := f, jrn := j } := fun _ _ hj => ⟨rfl, rfl, rfl, fun i hi => hj ▸ hi, .of_link rfl⟩
  unfold jrnCommit
  exact .ite (fun _ => .refl s) fun _ => .after (commitTell_noonKept _ _ _ _) (hjrn _ _ rfl)

theorem curfewNoon_noonKept (s : State) : NoonKept s (curfewNoon s) := by
  have hend : ∀ w, NoonKept s (modAcc (fun a => { a with curfewEnd := w }) s) := fun w => ⟨rfl, rfl, rfl, fun _ h => h, .of_link rfl⟩
  have hstop : NoonKept s (curfewStop s) := by
    unfold curfewStop
    refine .ite (fun _ => .refl s) fun _ => .after (hostEvent_noonKept _ _ _) ?_
    exact ⟨rfl, rfl, rfl, fun i hi => List.mem_of_mem_erase hi, .of_link rfl⟩
  unfold curfewNoon
  exact .ite (fun _ => .refl s) fun _ => .ite (fun _ => .after (jrnCommit_noonKept _ _) (hend _)) fun _ => .ite (fun _ => hstop) fun _ => .refl s

theorem requeueComplete_stirred (s : State) : Stirred s (requeueComplete s) := by
  have hqueue : ∀ w s, Stirred s (queueComplete w s) := fun w s => .ite (fun _ => .refl s) fun _ => .ite (fun _ => setPort_stirred _ _ s) fun _ => .refl s
  exact .foldl (fun s w => .ite (fun _ => hqueue w s) fun _ => .refl s) _ s

theorem sensorsListen_outGrows (s : State) : OutGrows s (sensorsListen s) := .after (sensorListen_outGrows 1 _) (sensorListen_outGrows 0 s)

theorem locResume_nothing {s : State} (h : 3 ∉ s.jrn.internal) : locResume s = s := if_neg fun hc => h (by simpa using hc.1)

/-! ### The RESET event (R352) -/

/-- The RESET event of a state (R353). -/
def resetPkt (s : State) : OutPkt :=
  eventPkt 0x02 0 ([byte s.power.cause, byte (countWorks s fun w => w.state != .done), byte (countWorks s fun w => w.state == .done), byte s.link.dawnq.length] ++ le 4 0x77200B01)

/-- On an empty port the RESET event is the first packet. -/
theorem resetEvent_first {s : State} (hq : s.link.hcs0.outq = []) (ho : s.link.hcs0.opn = []) : [resetPkt s] <+: (resetEvent s).link.hcs0.outq := by
  have hroom : (resetPkt s).size ≤ outRoom (portOf s .hcs0) := by
    have hsize : (resetPkt s).size = 20 := rfl
    rw [hsize, outRoom, outUsed, portOf, hq, ho]
    decide
  have hone : [resetPkt s] <+: (queueEvent .hcs0 (resetPkt s) s).link.hcs0.outq := by
    rw [queueEvent, if_pos hroom]
    show [resetPkt s] <+: s.link.hcs0.outq ++ [resetPkt s]
    rw [hq]
    exact List.prefix_rfl
  have hev : resetEvent s = (resetPorts s).foldl (fun s' p => queueEvent p (resetPkt s) s') s := rfl
  rw [hev, resetPorts]
  split
  · exact hone.trans (queueEvent_outGrows .uart (resetPkt s) _)
  · exact hone

/-! ### Noon -/

/-- Noon has begun: the milestone and the power part. -/
def noonBegun (s : State) : State := modPow (fun p => { p with state := .noon, stage := .done }) (milestone 7 s)

/-- What Noon owes to the host up to SYS_EVENTS. -/
def noonOwed (s : State) : State :=
  let u := if (resetEvent (noonBegun s)).ks.state = .lockdown then tamperEvent (resetEvent (noonBegun s)) else resetEvent (noonBegun s)
  curfewNoon (if regBit u 0x4000000C 3 then raiseKst 0x20 u else u)

/-- The state that Noon leaves when no trigger and no location waits. -/
def noonReached (s : State) : State := sensorsListen (reportDusk (requeueComplete (raise 0x40000010 1 (noonOwed s))))

theorem noonOwed_kept (s : State) : NoonKept (resetEvent (noonBegun s)) (noonOwed s) :=
  .after (curfewNoon_noonKept _) (.after (.ite (fun _ => raiseKst_noonKept _ _) fun _ => .refl _) (.ite (fun _ => tamperEvent_noonKept _) fun _ => .refl _))

theorem noonReached_kept (s : State) : NoonKept (resetEvent (noonBegun s)) (noonReached s) :=
  .after (.of_back (sensorsListen_backKept _) (sensorsListen_outGrows _)) (.after (.of_back (reportDusk_backKept _) (reportDusk_outGrows _))
    (.after (.of_stirred (requeueComplete_stirred _) (requeueComplete_outGrows _)) (.after (raise_noonKept _ _ _) (noonOwed_kept s))))

theorem noonReached_raised (s : State) : regBit (noonReached s) 0x40000010 0 = true := by
  refine (sensorsListen_backKept _).raised 0 ((reportDusk_backKept _).raised 0 ?_)
  rw [regBit, (requeueComplete_stirred _).regs _ (by decide)]
  exact regBit_raise (by decide) _

theorem dawnNoon_reaches {s : State} (hd : s.power.state = .dawn) (hs : s.power.stage = .selfTested) (ht : s.acc.triggers = []) (hw : s.acc.waiting = [])
    (hl : s.jrn.internal.contains 3 = false) : dawnNoon s = noonReached s := by
  have hkept := (noonReached_kept s).after (resetEvent_noonKept (noonBegun s))
  have h3 : 3 ∉ (noonReached s).jrn.internal := fun hm => by
    have hin : 3 ∈ s.jrn.internal := hkept.internal 3 hm
    simp [hin] at hl
  have hx : dawnNoon s = startQueued (locResume (noonReached s)) := if_neg (by simp [hd, hs])
  rw [hx, locResume_nothing h3, startQueued_nothing (hkept.triggers.trans ht) (hkept.waiting.trans hw)]

theorem exec_noon {s : State} (hd : s.power.state = .dawn) (hs : s.power.stage = .selfTested) (ht : s.acc.triggers = []) (hw : s.acc.waiting = [])
    (hl : s.jrn.internal.contains 3 = false) (hq : s.link.hcs0.outq = []) (ho : s.link.hcs0.opn = []) :
    ∃ t, exec .noon s = .next t ∧ t.power.state = .noon ∧ t.power.stage = .done ∧ regBit t 0x40000010 0 = true ∧ t.link.hcs0.outq.head? = some (resetPkt s) := by
  have hx := dawnNoon_reaches (s := fresh s) hd hs ht hw hl
  have hend := settled_concluded s (dawnNoon (fresh s))
  have hout : OutGrows (dawnNoon (fresh s)) (settled s (dawnNoon (fresh s))) := settle_outGrows _
  rw [hx] at hend hout
  have hkept := (noonReached_kept (fresh s)).after (resetEvent_noonKept (noonBegun (fresh s)))
  refine ⟨settled s (dawnNoon (fresh s)), rfl, ?_, ?_, ?_, ?_⟩
  all_goals rw [hx]
  · rw [hend.power, hkept.power]
    rfl
  · rw [hend.power, hkept.power]
    rfl
  · rw [hend.regBit]
    exact noonReached_raised (fresh s)
  · have hfirst : [resetPkt s] <+: (settled s (noonReached (fresh s))).link.hcs0.outq :=
      (resetEvent_first (s := noonBegun (fresh s)) hq ho).trans (hout.after (noonReached_kept (fresh s)).out)
    obtain ⟨l, hl⟩ := hfirst
    rw [← hl]
    rfl

end Sys2Proof.Machine
end

section
open Sys2Proof Sys2Proof.Machine

/-- Settles O33: each row of Dawn leaves the power part but for what it names, and what Noon owes only follows the RESET event. -/
theorem dawnAndSupplies : Obligations.DawnAndSupplies := by
  unfold Obligations.DawnAndSupplies
  refine ⟨fun s hi hd hv hr ht => exec_vddioQualified hd hv hr ht, fun s hr hv => exec_vddioLow hr hv, fun s hi hd hp => exec_xoFail hi hd hp,
    fun s m hd hw hb => exec_xoQualified hd hw hb, fun s m page hd hw hb hq => exec_xoQualified_fails hd hw hb hq,
    fun s reads hd hb hq ht => exec_selfTest_passes hd hb hq ht, fun s reads hd hb _ ht => exec_selfTest_latches hd hb ht,
    fun s hd hs ht hw hl hq ho => exec_noon hd hs ht hw hl hq ho, fun s hi h => act_idle hi (if_pos h), fun s hr hm => exec_rtcFail hr hm,
    fun s hr hm => exec_rtcAlarm hr hm, fun s r cred hi hb hr hf => exec_recoveryCredential hi hb hr hf cred, fun s r cred hi hb hr hf => ?_,
    fun s r page data rb hb hr hv => exec_recoveryBootWrite hb hr hv page data rb, fun s page data rb hi hr => ?_⟩
  · exact act_idle hi ((recoveryCredential_heard hb hr cred).trans (if_pos hf))
  · exact act_idle hi (recoveryWrite_none (s := fresh s) hr page data rb)
end
